-- ==== Sys2Proof/Word.lean ====
section
/-! DEFINITION. The word types of the TLX-9840 (R5: every register is 32 bits wide) and the identities that
its manual numbers: portals, axes, core pairs, command channels (R9, R10). -/

namespace Sys2Proof

/-- A byte. -/
abbrev Byte := BitVec 8

/-- A 16-bit half word. -/
abbrev Half := BitVec 16

/-- A 32-bit word: the width of every register (R5). -/
abbrev Word := BitVec 32

/-- A 64-bit word: device time (R9), fabric command bits, the digital vector. -/
abbrev Dword := BitVec 64

/-- Portal number p, 0 to 3. -/
abbrev PortalId := Fin 4

/-- Axis number a: 0 leaf A, 1 leaf B, 2 step. -/
abbrev AxisId := Fin 3

/-- The two core pairs (R267). -/
inductive PairId where
  | pommel
  | cantle
  deriving DecidableEq, Repr

/-- The other core pair. -/
def PairId.other : PairId → PairId
  | .pommel => .cantle
  | .cantle => .pommel

/-- A channel that can carry a state command (R46): the host port (its mailbox counts as the host port, R435), CAN-A
or CAN-B. -/
inductive Channel where
  | host
  | canA
  | canB
  deriving DecidableEq, Repr

/-- The two CAN controllers (R371). -/
inductive CanId where
  | a
  | b
  deriving DecidableEq, Repr

/-- The two image regions of the configuration flash (R56). -/
inductive Region where
  | a
  | b
  deriving DecidableEq, Repr

/-- The other image region. -/
def Region.other : Region → Region
  | .a => .b
  | .b => .a

/-- The two safety outputs of a portal (R24). -/
inductive SoId where
  | a
  | b
  deriving DecidableEq, Repr

/-- A pair of like things, one per member of a two-member set. -/
structure Two (α : Type) where
  fst : α
  snd : α
  deriving DecidableEq, Repr

/-- Three like things, one per axis or per channel. -/
structure Three (α : Type) where
  x0 : α
  x1 : α
  x2 : α
  deriving DecidableEq, Repr

/-- Four like things, one per portal or per leg. -/
structure Four (α : Type) where
  x0 : α
  x1 : α
  x2 : α
  x3 : α
  deriving DecidableEq, Repr

/-- Eight like things: four and four. -/
structure Eight (α : Type) where
  lo : Four α
  hi : Four α
  deriving DecidableEq, Repr

/-- Sixteen like things: eight and eight. -/
structure Sixteen (α : Type) where
  lo : Eight α
  hi : Eight α
  deriving DecidableEq, Repr

namespace Two

/-- All members alike. -/
def all {α : Type} (v : α) : Two α := ⟨v, v⟩

/-- Pommel's or Cantle's member. -/
def pair {α : Type} (t : Two α) : PairId → α
  | .pommel => t.fst
  | .cantle => t.snd

/-- Replace one pair's member. -/
def setPair {α : Type} (t : Two α) (i : PairId) (v : α) : Two α :=
  match i with
  | .pommel => { t with fst := v }
  | .cantle => { t with snd := v }

/-- CAN-A's or CAN-B's member. -/
def can {α : Type} (t : Two α) : CanId → α
  | .a => t.fst
  | .b => t.snd

/-- Replace one controller's member. -/
def setCan {α : Type} (t : Two α) (i : CanId) (v : α) : Two α :=
  match i with
  | .a => { t with fst := v }
  | .b => { t with snd := v }

/-- SOA's or SOB's member. -/
def so {α : Type} (t : Two α) : SoId → α
  | .a => t.fst
  | .b => t.snd

/-- Replace one safety output's member. -/
def setSo {α : Type} (t : Two α) (i : SoId) (v : α) : Two α :=
  match i with
  | .a => { t with fst := v }
  | .b => { t with snd := v }

/-- Member 0 or 1: lanes, ports, edges. -/
def at2 {α : Type} (t : Two α) (i : Fin 2) : α :=
  match i with
  | ⟨0, _⟩ => t.fst
  | ⟨1, _⟩ => t.snd

/-- Replace member 0 or 1. -/
def set2 {α : Type} (t : Two α) (i : Fin 2) (v : α) : Two α :=
  match i with
  | ⟨0, _⟩ => { t with fst := v }
  | ⟨1, _⟩ => { t with snd := v }

/-- The members in order. -/
def toList {α : Type} (t : Two α) : List α := [t.fst, t.snd]

/-- Apply a function to each member. -/
def map {α β : Type} (f : α → β) (t : Two α) : Two β := ⟨f t.fst, f t.snd⟩

end Two

namespace Three

/-- All members alike. -/
def all {α : Type} (v : α) : Three α := ⟨v, v, v⟩

/-- Member `i`. -/
def get {α : Type} (t : Three α) (i : Fin 3) : α :=
  match i with
  | ⟨0, _⟩ => t.x0
  | ⟨1, _⟩ => t.x1
  | ⟨2, _⟩ => t.x2

/-- Replace member `i`. -/
def set {α : Type} (t : Three α) (i : Fin 3) (v : α) : Three α :=
  match i with
  | ⟨0, _⟩ => { t with x0 := v }
  | ⟨1, _⟩ => { t with x1 := v }
  | ⟨2, _⟩ => { t with x2 := v }

/-- The channel's member. -/
def chan {α : Type} (t : Three α) : Channel → α
  | .host => t.x0
  | .canA => t.x1
  | .canB => t.x2

/-- Replace the channel's member. -/
def setChan {α : Type} (t : Three α) (i : Channel) (v : α) : Three α :=
  match i with
  | .host => { t with x0 := v }
  | .canA => { t with x1 := v }
  | .canB => { t with x2 := v }

/-- The members in order. -/
def toList {α : Type} (t : Three α) : List α := [t.x0, t.x1, t.x2]

/-- Apply a function to each member. -/
def map {α β : Type} (f : α → β) (t : Three α) : Three β := ⟨f t.x0, f t.x1, f t.x2⟩

/-- Apply a function of the index to each member. -/
def mapIdx {α β : Type} (f : Fin 3 → α → β) (t : Three α) : Three β := ⟨f 0 t.x0, f 1 t.x1, f 2 t.x2⟩

end Three

namespace Four

/-- All members alike. -/
def all {α : Type} (v : α) : Four α := ⟨v, v, v, v⟩

/-- Member `i`. -/
def get {α : Type} (t : Four α) (i : Fin 4) : α :=
  match i with
  | ⟨0, _⟩ => t.x0
  | ⟨1, _⟩ => t.x1
  | ⟨2, _⟩ => t.x2
  | ⟨3, _⟩ => t.x3

/-- Replace member `i`. -/
def set {α : Type} (t : Four α) (i : Fin 4) (v : α) : Four α :=
  match i with
  | ⟨0, _⟩ => { t with x0 := v }
  | ⟨1, _⟩ => { t with x1 := v }
  | ⟨2, _⟩ => { t with x2 := v }
  | ⟨3, _⟩ => { t with x3 := v }

/-- The members in order. -/
def toList {α : Type} (t : Four α) : List α := [t.x0, t.x1, t.x2, t.x3]

/-- Apply a function to each member. -/
def map {α β : Type} (f : α → β) (t : Four α) : Four β := ⟨f t.x0, f t.x1, f t.x2, f t.x3⟩

/-- Apply a function of the index to each member. -/
def mapIdx {α β : Type} (f : Fin 4 → α → β) (t : Four α) : Four β :=
  ⟨f 0 t.x0, f 1 t.x1, f 2 t.x2, f 3 t.x3⟩

end Four

namespace Eight

/-- All members alike. -/
def all {α : Type} (v : α) : Eight α := ⟨.all v, .all v⟩

/-- Member `i`. -/
def get {α : Type} (t : Eight α) (i : Fin 8) : α :=
  if h : i.val < 4 then t.lo.get ⟨i.val, h⟩ else t.hi.get ⟨i.val - 4, by omega⟩

/-- Replace member `i`. -/
def set {α : Type} (t : Eight α) (i : Fin 8) (v : α) : Eight α :=
  if h : i.val < 4 then { t with lo := t.lo.set ⟨i.val, h⟩ v }
  else { t with hi := t.hi.set ⟨i.val - 4, by omega⟩ v }

/-- The members in order. -/
def toList {α : Type} (t : Eight α) : List α := t.lo.toList ++ t.hi.toList

/-- Apply a function to each member. -/
def map {α β : Type} (f : α → β) (t : Eight α) : Eight β := ⟨t.lo.map f, t.hi.map f⟩

/-- Apply a function of the index to each member. -/
def mapIdx {α β : Type} (f : Fin 8 → α → β) (t : Eight α) : Eight β :=
  ⟨t.lo.mapIdx fun i v => f ⟨i.val, by omega⟩ v, t.hi.mapIdx fun i v => f ⟨i.val + 4, by omega⟩ v⟩

end Eight

namespace Sixteen

/-- All members alike. -/
def all {α : Type} (v : α) : Sixteen α := ⟨.all v, .all v⟩

/-- Member `i`. -/
def get {α : Type} (t : Sixteen α) (i : Fin 16) : α :=
  if h : i.val < 8 then t.lo.get ⟨i.val, h⟩ else t.hi.get ⟨i.val - 8, by omega⟩

/-- Replace member `i`. -/
def set {α : Type} (t : Sixteen α) (i : Fin 16) (v : α) : Sixteen α :=
  if h : i.val < 8 then { t with lo := t.lo.set ⟨i.val, h⟩ v }
  else { t with hi := t.hi.set ⟨i.val - 8, by omega⟩ v }

/-- The members in order. -/
def toList {α : Type} (t : Sixteen α) : List α := t.lo.toList ++ t.hi.toList

/-- Apply a function to each member. -/
def map {α β : Type} (f : α → β) (t : Sixteen α) : Sixteen β := ⟨t.lo.map f, t.hi.map f⟩

/-- Apply a function of the index to each member. -/
def mapIdx {α β : Type} (f : Fin 16 → α → β) (t : Sixteen α) : Sixteen β :=
  ⟨t.lo.mapIdx fun i v => f ⟨i.val, by omega⟩ v, t.hi.mapIdx fun i v => f ⟨i.val + 8, by omega⟩ v⟩

end Sixteen

end Sys2Proof
end

