-- ==== Sys2Proof/Syntax.lean ====
section
/-! DEFINITION. The commands of the block: one constructor of `Instr` for each of the 262 rows of the table, with
the physical inputs of the event as its operands (frames received, values measured, lands read, coincidences in one
clock), and the small types those operands need. The table gives its rows no bits, so no command is spelled by a word. -/

namespace Sys2Proof

/-! ### Frames of the girth link (R299 to R308) -/

/-- What one 1 µs sample of a portal's lands holds (R336, R231): the raw inputs, whether LOCKOUT_CLR_N is low, and whether the word crosses as a non-code
word (R18). -/
structure LandSample where
  word : BitVec 16
  lclrLow : Bool
  nonCode : Bool
  deriving DecidableEq, Repr

/-- What the receiver knows of a girth frame besides its payload: its SEQ (R299) and the lane whose copy was accepted. -/
structure FrameHdr where
  seq : Byte
  lane : Fin 2
  deriving DecidableEq, Repr

/-- The COMMAND payload (R304). -/
structure CommandFrame where
  cseq : Half
  cycle : Half
  cls : BitVec 4
  cust : Byte
  dstate : Byte
  order : Byte
  flags : Half
  sw : Byte
  mseq : Byte
  motion : Three Byte
  cbits : Dword
  deriving DecidableEq, Repr

/-- What the host die holds of a portal die beside the 16 words of its STATE frames: the portal's side of the girth registers that R37 mirrors in the
host die, and what a stitch record takes of its supplies, axes and lock-out (R442, R443). The manual names no frame that carries it: DEDUCED, it
comes with the STATE frames (log 210). -/
structure PortalNote where
  lanes : BitVec 2 := 0
  timeErr : Int := 0
  trim : Int := 0
  keeperAct : Bool := false
  serve : Nat := 0
  /-- Moment of the last accepted service; none before the first since HELLO. -/
  keepAt : Option Nat := none
  early : Nat := 0
  /-- Cause of the last link fault as the portal side declared it. -/
  why : Nat := 0
  /-- Flags for GL_EVT raised since the frame before. -/
  glEvt : Word := 0
  /-- SUPPLY of R443 but for DUTY_SAT; VFLD, 10 mV; V_bus, 0.1 V; the largest |lag| of axes 0 and 1, 0.01 mm; peak E, 0.1 N; OB_LOCK.CAUSE. -/
  supply : Byte := 0
  vfld : Nat := 0
  vbus : Nat := 0
  lag : Nat := 0
  effort : Three Int := .all 0
  lockCause : Nat := 0
  /-- Lane errors and link errors that the portal side has counted since its logic POR, modulo 4,096 (R314). -/
  laneErrs : Nat := 0
  linkErrs : Nat := 0
  deriving DecidableEq, Repr

/-- The STATE payload: 16 words (R305), and what else comes with it. -/
structure StateFrame where
  words : Sixteen Word
  note : PortalNote := {}
  deriving DecidableEq, Repr

/-- The EVENT payload (R306, R465): byte 10 carries a curtain port number, byte 11 the parts of a curtain frame. -/
structure EventFrame where
  etime : Dword
  code : Byte
  axis : Byte
  port : Byte
  parts : Byte
  args : List Word
  deriving DecidableEq, Repr

/-- The KEEPER payload (R303). -/
structure KeeperFrame where
  key : Word
  serve : Half
  deriving DecidableEq, Repr

/-- The HELLO payload (R301). -/
structure HelloFrame where
  role : Byte
  vmax : Byte
  vmin : Byte
  vsel : Byte
  portal : Byte
  step : Byte
  lanes : Byte
  flags : Byte
  nonce : Word
  dly0 : Half
  dly1 : Half
  deriving DecidableEq, Repr

/-- What a portal die takes of the image beside the units themselves: the version of the unit's section, the unit KINDs that this section holds for the
portal, tag, KIND and CRC-32C of every unit that the image holds for it, and the STRC payload (R81, R83, R309). -/
structure ImageNote where
  version : Half := 0
  kinds : List Nat := []
  want : List (Word × Byte × Word) := []
  strc : List Byte := []
  deriving DecidableEq, Repr

/-- The CONFIG payload (R308). The manual names no field for what a portal die must know of the image: DEDUCED, it comes with DL_END and READBACK_ACK,
since nothing but a frame crosses the barrier (R13; log 246). -/
structure ConfigFrame where
  op : Byte
  status : Byte
  tag : Half
  addr : Word
  arg : Word
  data : List Byte
  image : ImageNote := {}
  deriving DecidableEq, Repr

/-- One derived sample (R241). -/
structure DerivedSample where
  speed : Word
  effort : Half
  dflags : Half
  deriving DecidableEq, Repr

/-- The SAMPLE payload (R307): analog codes in ascending channel order, derived samples in ascending axis order,
digital words with their tick offset. -/
structure SampleFrame where
  content : Byte
  tt : Word
  analog : List Half
  derived : List DerivedSample
  digital : List (BitVec 1 × Dword)
  deriving DecidableEq, Repr

/-- A SAMPLE frame as it reaches the host die: with the fill of the portal's ingest buffer after it, in steps of 1/256 of the buffer, and whether the
buffer has no room for it (R246), or whether a handshake crossing of the store presented a non-code word of it (R18). -/
structure IngestFrame where
  frame : SampleFrame
  level : Byte
  overflow : Bool
  nonCode : Bool := false
  deriving DecidableEq, Repr

/-- A word as a handshake crossing presents it: a non-code word has some bit high on both rails (R18). -/
structure Crossed (α : Type) where
  word : α
  nonCode : Bool
  deriving DecidableEq, Repr

/-- Which side of a girth link. -/
inductive LinkSide where
  | host
  | portal
  deriving DecidableEq, Repr

/-! ### Host-side inputs -/

/-- A host supply rail (R488). -/
inductive HostRail where
  | vdd33
  | vdd18
  | vdd09
  deriving DecidableEq, Repr

/-- A record of the fuse array (R53, R97). -/
inductive FuseRecId where
  | factory
  | key (slot : Fin 4)
  | revoke (slot : Fin 4)
  deriving DecidableEq, Repr

/-- How one fuse cell reads (R53): its two reads differ, or both give the same value. -/
inductive CellValue where
  | marginal
  | reads (v : Bool)
  deriving DecidableEq, Repr

/-- A fuse cell that does not read as it was programmed: record, logical bit of the record (the check word follows the
data bits), which of the three cells, and how it reads. -/
structure CellRead where
  rcd : FuseRecId
  bit : Nat
  cell : Fin 3
  value : CellValue
  deriving DecidableEq, Repr

/-- The result of one pair's awl steps 1 to 5 (R289): undetected lanes, a failing delay-register bit, and the checker,
fabric and burnish results. -/
structure AwlRun where
  lanes : Word
  delayBit : Option Nat
  checkerFail : Bool
  fabricFail : Bool
  burnishFail : Bool
  deriving DecidableEq, Repr

/-- The configuration flash as discovery finds it (R55): whether its SFDP table is present and valid, the modes it
supports (bit m for mode code m of PSM_BOOT.XSPI_MODE), its declared maximum clock, and the modes in which what it holds
really reads back. -/
structure FlashDevice where
  sfdpOk : Bool
  modes : BitVec 5
  maxMhz : Nat
  readable : BitVec 5
  deriving DecidableEq, Repr

/-- Where a state command comes from (R46, R427): the channel and, on CAN, the sending node (0 for the registers). -/
structure CmdSource where
  ch : Channel
  node : BitVec 6
  deriving DecidableEq, Repr

/-- A cause of SAFE (R66). -/
inductive SafeCause where
  | noPair
  | pairDisagree
  | noImage
  | selftestFail
  | refLoss
  deriving DecidableEq, Repr

/-- A particle upset in a host fabric flip-flop: the pair, copy B or A, and the cell. -/
structure FabricUpset where
  pair : PairId
  copyB : Bool
  cell : BitVec 12
  deriving DecidableEq, Repr

/-- A particle upset in a portal harness flip-flop: monitor channel 2 or 1, and the cell. -/
structure HarnessUpset where
  chan2 : Bool
  cell : BitVec 9
  deriving DecidableEq, Repr

/-- The outcome of the cross-pair checker (R283). -/
inductive XSig where
  | equal
  | differ
  | nonCode
  deriving DecidableEq, Repr

/-- What the cross-pair checker of R283 sees at the end of a cycle besides the lead's signature: the XOR of the other pair's signature with it, 0 where
that pair computed the cycle alike; and the rails of a checker that a fault holds, none where it works. -/
structure XCheck where
  diff : Word := 0
  rails : Option (BitVec 2) := none
  deriving DecidableEq, Repr

/-- What a kernel cycle cannot know from the state (R276, R283, R133): of each pair's leading and trailing core, the words whose capture differs from that
of the leading core of the lead pair; the cross-pair checker, the evaluation time, and whether no marked line of a graft remains (R292). -/
structure KernelInputs where
  dis : Two (Two (BitVec 128)) := .all (.all 0)
  xsig : XCheck := {}
  evalUs : Byte
  graftClean : Bool
  deriving DecidableEq, Repr

/-- A dual-channel role of the door switches (R113). -/
inductive Role where
  | cls
  | lck
  | str
  | iso
  deriving DecidableEq, Repr

/-- One MISR window of a pair (R269, R270): its index; the 112 bus outputs that the leading and the trailing core emit in each of its core cycles; the
rails of a checker that a fault holds, none where it works; the two cores' copies of every write that waits in the release buffer; and whether a
crossing of the pair carried a non-code word (R18). -/
structure MisrWindow where
  window : BitVec 9
  lead : List (BitVec 112)
  trail : List (BitVec 112)
  rails : Option (BitVec 2) := none
  writes : List (Word × Word) := []
  crossingNonCode : Bool := false
  deriving DecidableEq, Repr

/-- What upsets have done to what the 64 ms fingerprints of R286 cover and the state does not show: the XOR of the two cores' fingerprints of register
file and private SRAM of each pair, and of the kernel-state fingerprints of the two pairs, beyond the differences of what the state holds. -/
structure FpDiff where
  regs : Two Word
  sram : Two Word
  kernel : Word
  deriving DecidableEq, Repr

/-! ### Portal-side inputs -/

/-- What the drive and the monitor sample in one PWM period (R167, R169, R224): the bus code, the leg-current codes (R239), and whether both monitor
channels read every gate output of the axis back as low. -/
structure PwmSample where
  vmot : BitVec 14
  legs : Four (BitVec 14)
  gatesLow : Bool
  deriving DecidableEq, Repr

/-- One SSI frame as received (R190): first copy, second copy (DBL only), separator and trailing bits. -/
structure SsiFrame where
  data : Word
  status : Byte
  data2 : Word
  status2 : Byte
  sep : Bool
  trail : Bool
  deriving DecidableEq, Repr

/-- The feedback kinds that the probe of one port finds (R181), and the pairs that read valid. -/
structure FbFound where
  quad : Bool
  ssi : Bool
  sincos : Bool
  hall : Bool
  lineOk : BitVec 4
  deriving DecidableEq, Repr

/-- What an upset or a failed part does to the two monitor channels at one tick (R207, R208): detector causes (bit c for cause code c) that a channel's
failed comparators report, channels whose decisions are mute, channels that remove torque, what is added to the second channel's efforts
(0.1 N) and feedback counters, and whether a crossing carried a non-code word (R18). -/
structure MonitorDiff where
  stuck : Two (BitVec 8)
  mute : Two Bool
  torque : Two Bool
  effort : Three Int
  counter : Three Int
  nonCode : Bool
  deriving DecidableEq, Repr

/-- One ADC conversion: its code and whether the input lay at or beyond the end of its range (R239). -/
structure AdcCode where
  code : BitVec 14
  ovr : Bool
  deriving DecidableEq, Repr

/-- The four readings of the cross-check (R240): EDG0 and EDG1 on ADC0, then on ADC1. -/
structure CrossReadings where
  adc0 : Two AdcCode
  adc1 : Two AdcCode
  deriving DecidableEq, Repr

/-- Which check of a safety-output pulse fails (R352). -/
inductive SoCheck where
  | notFallen
  | notReturned
  | otherFell
  deriving DecidableEq, Repr

/-! ### CAN, SPI, acquisition, archive, tally -/

/-- A CAN frame (R380, R381): identifier format, remote, FD, rate switch, ESI, identifier ([28:18] for a standard one),
DLC and payload. -/
structure CanFrame where
  ide : Bool
  rtr : Bool
  fdf : Bool
  brs : Bool
  esi : Bool
  ident : BitVec 29
  dlc : BitVec 4
  data : List Byte
  deriving DecidableEq, Repr

/-- A frame received as the controller's crossing presents it: how long ago, in ns, the sample point of its start-of-frame bit lies (R382), and the objects
whose memory has come to hold an uncorrectable error (R397). -/
structure CanRx where
  word : CanFrame
  nonCode : Bool
  sofAgo : Nat := 0
  upset : List (Fin 128) := []
  deriving DecidableEq, Repr

/-- The kind of a CAN error (CAN_ERRLOG.TYPE). -/
inductive CanErrType where
  | bit0
  | bit1
  | stuff
  | form
  | ack
  | crc
  deriving DecidableEq, Repr

/-- The field in which a CAN error was detected (CAN_ERRLOG.FIELD). -/
inductive CanErrField where
  | arbitration
  | control
  | data
  | crc
  | ack
  | eof
  deriving DecidableEq, Repr

/-- A CAN error as detected: kind, field, at the data rate, a dominant bit seen while sending the error flag, and (a
receiver's rule) a dominant bit as the first bit after its error flag. Then what ISO 11898-1 counts besides: bit errors while sending an active
error or overload flag, runs of 8 further dominant bits after a flag, and whether the error itself arose in an overload flag. -/
structure CanError where
  kind : CanErrType
  field : CanErrField
  dataRate : Bool
  dominantInFlag : Bool
  flagErrors : Nat := 0
  dominantRuns : Nat := 0
  inOverload : Bool := false
  deriving DecidableEq, Repr

/-- How a CAN transmission attempt ends (R389). -/
inductive TxEnd where
  | success (tdcv : BitVec 7)
  | lostArbitration
  | error (e : CanError)
  deriving DecidableEq, Repr

/-- A host-port request (R400). -/
structure SpiRequest where
  cmd : Byte
  addr : Word
  length : Half
  seq : Byte
  payload : List Word
  crc : Word
  /-- A handshake crossing of the host port presented a non-code word of it (R18). -/
  nonCode : Bool := false
  deriving DecidableEq, Repr

/-- A trigger on its way to a group (R252, R254): the source (conditions 0 to 3, 4 host force, 5 auto) and its stamp. -/
structure Trigger where
  cond : Fin 6
  stamp : Dword
  deriving DecidableEq, Repr

/-- How one bus mode of the eMMC comes out at initialisation (R450): the device supports it, its tuning succeeds (asked of HS200 alone), and the bus
test passes at width 8, 4 and 1. -/
structure EmmcMode where
  supported : Bool
  tuned : Bool
  bus8 : Bool
  bus4 : Bool
  bus1 : Bool
  deriving DecidableEq, Repr

/-- What the eMMC answers at initialisation (R450, R451): capacity in sectors, the modes as they come out, and the EXT_CSD bytes; and the sectors that
it reports as uncorrectable reads (R456). -/
structure EmmcInfo where
  sectors : Nat
  hs200 : EmmcMode
  hs : EmmcMode
  legacy : EmmcMode
  rev : Byte
  lifeA : Byte
  lifeB : Byte
  preEol : Byte
  unread : List Nat := []
  deriving DecidableEq, Repr

/-- A cell of the island's fuse array that does not read as it was programmed (R467, R53): logical bit (0 to 255 the key-wrapping key, 256 to 511
the hash of the signing key, from 512 on the seal event counter), which of the three cells, and how it reads. -/
structure IslandCell where
  bit : Nat
  cell : Fin 3
  value : CellValue
  deriving DecidableEq, Repr

/-- The island's fuses and image as read at its POR (R467, R470): the cells that read otherwise than programmed, and whether a word of its flash
port crossed as a non-code word (R18). -/
structure IslandRead where
  weak : List IslandCell := []
  nonCode : Bool := false
  deriving DecidableEq, Repr

/-- How the procedure of R473 goes: the flash writes succeed; cells that read otherwise than programmed at the read-back of step 1; whether a word of
its flash port crossed as a non-code word (R18). -/
structure SealRun where
  flashOk : Bool
  weak : List IslandCell := []
  nonCode : Bool := false
  deriving DecidableEq, Repr

/-- A cycle mark of the kernel to the tally island (R466); it may cross as a non-code word (R18). -/
structure CycleMark where
  portal : PortalId
  isEnd : Bool
  cycle : Word
  time : Dword
  incomplete : Bool
  nonCode : Bool := false
  deriving DecidableEq, Repr

/-! ### The commands -/

/-- The commands, one constructor per row of the table: those with operands in the table's order, then those without. -/
inductive Instr where
  | hostSupplyUndervoltage (rail : HostRail)
  | fuseLoadComplete (reads : List CellRead)
  | awlTestComplete (pommel cantle : AwlRun) (xFail : Bool)
  | flashReady (dev : Option FlashDevice)
  | psmCmdArm (src : CmdSource) (w : Word)
  | psmCmdBadExec (src : CmdSource) (w : Word)
  | executeService (src : CmdSource) (safe : Option SafeCause)
  | executeStandby (src : CmdSource) (safe : Option SafeCause)
  | executeDormant (src : CmdSource) (safe : Option SafeCause)
  | executeMaintain (src : CmdSource) (safe : Option SafeCause)
  | executeSelftestDevice (src : CmdSource) (safe : Option SafeCause)
  | executeSelftestPair (src : CmdSource) (safe : Option SafeCause)
  | executeOff (src : CmdSource) (safe : Option SafeCause)
  | deviceSelftestComplete (pommel cantle : AwlRun) (xFail : Bool) (portalFail : Four Bool)
  | dormantReturnComplete (pommel cantle : AwlRun) (xFail crcOk : Bool)
  | wakeCan (c : CanId)
  | lowrateLockSample (p : PortalId) (raw : BitVec 16)
  | passwordSubmit (w : Word)
  | passwordExpire (ch : Channel)
  | flashCopy (target : Region)
  | flashErase (target : Region)
  | flashProgram (target : Region)
  | flashVerify (target : Region)
  | flashActivate (target : Region)
  | flashCommandComplete (deviceOk : Bool)
  | keyProgram (slot : Fin 4)
  | keyRevoke (slot : Fin 4)
  | keyOperationComplete (readBackOk : Bool)
  | sealSwitchChange (sw : BitVec 4)
  | fabricTick (upsets : List FabricUpset)
  | fabricTimerExpire (n : Fin 256)
  | portalHarnessTick (p : PortalId) (upsets : List HarnessUpset)
  | portalHarnessTimerExpire (p : PortalId) (n : Fin 32)
  | kernelCycle (k : KernelInputs)
  | stateTimeout (p : PortalId)
  | roleDiscrepancyTimer (p : PortalId) (r : Role)
  | isoAgreeTimer (p : PortalId)
  | seqPcmdClearFault (key : Byte) (p : PortalId)
  | seqPcmdResetLockout (key : Byte) (p : PortalId)
  | commandReceived (p : PortalId) (h : FrameHdr) (f : CommandFrame) (stopNow permOffNow : Bool)
  | motionRunProfile (p : PortalId) (a : AxisId)
  | motionControlledStop (p : PortalId) (a : AxisId)
  | motionDisable (p : PortalId) (a : AxisId)
  | orderShutdown (p : PortalId)
  | orderLowRate (p : PortalId)
  | orderLockoutReset (p : PortalId)
  | orderClearFault (p : PortalId)
  | keeperReceived (p : PortalId) (h : FrameHdr) (f : KeeperFrame)
  | keeperExpire (p : PortalId)
  | timeFrameSend (p : PortalId)
  | timeFrameReceived (p : PortalId) (h : FrameHdr) (stamp : Dword)
  | timeFreeTimeout (p : PortalId)
  | stateFrameReceived (p : PortalId) (h : FrameHdr) (f : StateFrame)
  | stateFramePeriodic (p : PortalId)
  | eventFrameReceived (p : PortalId) (h : FrameHdr) (f : EventFrame)
  | sampleFrameReceived (p : PortalId) (h : FrameHdr) (f : IngestFrame)
  | laneLocked (p : PortalId) (lane : Fin 2) (side : LinkSide)
  | laneTrainRetry (p : PortalId) (lane : Fin 2)
  | helloReceivedPortal (p : PortalId) (h : FrameHdr) (f : HelloFrame)
  | helloReceivedHost (p : PortalId) (h : FrameHdr) (f : HelloFrame) (rtt : Two Nat)
  | laneDown (p : PortalId) (lane : Fin 2) (side : LinkSide)
  | linkSilenceEnd (p : PortalId)
  | laneBackgroundRetrain (p : PortalId)
  | configRead (p : PortalId) (h : FrameHdr) (f : ConfigFrame)
  | configWrite (p : PortalId) (h : FrameHdr) (f : ConfigFrame)
  | configDlChunk (p : PortalId) (h : FrameHdr) (f : ConfigFrame)
  | configDlEnd (p : PortalId) (h : FrameHdr) (f : ConfigFrame) (expiryNow : Bool)
  | configReadbackAck (p : PortalId) (h : FrameHdr) (f : ConfigFrame) (expiryNow : Bool)
  | configTest (p : PortalId) (h : FrameHdr) (f : ConfigFrame) (detected : Bool)
  | configAnswerReceived (p : PortalId) (h : FrameHdr) (f : ConfigFrame)
  | holdWindowExpire (p : PortalId)
  | lowrateLinkTimeout (p : PortalId) (side : LinkSide)
  | limpNAssert (p : PortalId)
  | limpNRelease (p : PortalId)
  | bootstrapPrechargeEnd (p : PortalId) (a : AxisId)
  | alignComplete (p : PortalId) (a : AxisId)
  | stepTimerExpire (p : PortalId) (a : AxisId)
  | pwmPeriod (p : PortalId) (a : AxisId) (m : PwmSample)
  | holdDelayExpire (p : PortalId) (a : AxisId) (holdFirmNow : Bool)
  | legOvercurrent (p : PortalId) (a : AxisId) (legs : BitVec 4)
  | bootstrapUndervoltage (p : PortalId) (a : AxisId) (leg : Fin 4)
  | vgateUndervoltage (p : PortalId)
  | vbusOvervoltage (p : PortalId)
  | axMclrClrDuty (p : PortalId) (a : AxisId)
  | axMclrClrVmin (p : PortalId) (a : AxisId)
  | quadEdge (p : PortalId) (a : AxisId) (qa qb : Bool)
  | indexEvent (p : PortalId) (a : AxisId) (illegalNow : Bool)
  | hallCodeChange (p : PortalId) (a : AxisId) (code : BitVec 3)
  | ssiRequest (p : PortalId) (a : AxisId) (datHigh : Bool)
  | ssiFrameComplete (p : PortalId) (a : AxisId) (f : SsiFrame)
  | sincosSample (p : PortalId) (a : AxisId) (sin cos : BitVec 12)
  | observerUpdate (p : PortalId) (a : AxisId)
  | stillTimeout (p : PortalId) (a : AxisId) (edgeNow : Bool)
  | fbSetposWrite (p : PortalId) (a : AxisId) (v : Word)
  | fbClrRearmIdx (p : PortalId) (a : AxisId)
  | fbClrRmin (p : PortalId) (a : AxisId)
  | fbClrCnt (p : PortalId) (a : AxisId)
  | fbCmpctlWrite (p : PortalId) (a : AxisId) (v : Word)
  | fbCmpvalWrite (p : PortalId) (a : AxisId) (v : Word)
  | feedbackDetectionComplete (p : PortalId) (found : Three FbFound)
  | lineInvalidTimeout (p : PortalId) (a : AxisId) (line : Fin 4)
  | hallInvalidTimeout (p : PortalId) (a : AxisId)
  | monitorTick (p : PortalId) (d : MonitorDiff)
  | monitorInjectionTest (p : PortalId) (allReported : Bool)
  | adcCrossCheck (p : PortalId) (r : CrossReadings)
  | tableCrcCheck (p : PortalId) (upset : Bool)
  | monitorSelftestComplete (p : PortalId) (pass : Bool)
  | analogEdgeSample (p : PortalId) (e : Fin 2) (code : BitVec 14)
  | progressTimeout (p : PortalId) (a : AxisId)
  | safeStopSettleTimeout (p : PortalId) (a : AxisId)
  | torqueReadbackTimeout (p : PortalId) (a : AxisId)
  | safeStopRestEnd (p : PortalId)
  | lockoutClrLocal (p : PortalId)
  | obLearnWrite (p : PortalId) (w : Word)
  | adcFrame (p : PortalId) (codes : Sixteen AdcCode)
  | digitalVectorSample (p : PortalId)
  | digitalWordKeepalive (p : PortalId)
  | acqGroupEnable (g : Fin 16) (w : Word)
  | acqGroupRearm (g : Fin 16)
  | acqForceWrite (groups : BitVec 16)
  | triggerArrival (g : Fin 16) (t : Trigger)
  | triggerCommit (g : Fin 16)
  | autoTriggerExpire (g : Fin 16)
  | dspanExpire (g : Fin 16)
  | measurementComplete (g : Fin 16) (slot : BitVec 12)
  | acqRdselWrite (w : Word) (refillNow : Bool)
  | storeScrub (single double : List Nat)
  | misrWindowEnd (pr : PairId) (w : MisrWindow)
  | fingerprintCompare (d : FpDiff)
  | lockCtlSwap (key : Byte)
  | lockCtlClearInfault (key : Byte)
  | pairAwlComplete (r : AwlRun) (xFail : Bool)
  | inputSample (p : PortalId) (raw : LandSample)
  | openWireSet (p : PortalId) (n : Fin 16)
  | openWireClear (p : PortalId) (n : Fin 16)
  | inputOvertemp (p : PortalId) (n : Fin 16)
  | inputCurrentMeasure (p : PortalId) (cur : Sixteen Half)
  | switchEpisodeStart (p : PortalId) (n : Fin 8)
  | switchEpisodeSuccess (p : PortalId) (n : Fin 8)
  | switchTepExpire (p : PortalId) (n : Fin 8) (rose : Bool)
  | switchJunctionOvertemp (p : PortalId) (n : Fin 8) (rose : Bool)
  | switchRetryDue (p : PortalId) (n : Fin 8) (hot : Bool)
  | shortRetryEnd (p : PortalId) (n : Fin 8) (rose : Bool)
  | switchOlOffTimer (p : PortalId) (n : Fin 8)
  | switchUcTimer (p : PortalId) (n : Fin 8)
  | budgetEvaluate (p : PortalId) (loss : Eight Half) (current : Eight Half)
  | budgetRestore (p : PortalId)
  | sensorSupplyOverload (p : PortalId) (k : Fin 4)
  | sensorSupplyRetry (p : PortalId) (k : Fin 4)
  | soPulseStart (p : PortalId) (o : SoId)
  | soPulseEnd (p : PortalId) (o : SoId)
  | soPulseCheckTimeout (p : PortalId) (o : SoId) (c : SoCheck) (offNow : Bool)
  | soStuck (p : PortalId) (o : SoId)
  | soOvercurrent (p : PortalId) (o : SoId)
  | soOpenLoad (p : PortalId) (o : SoId)
  | vfldWarn (p : PortalId)
  | vfldHold (p : PortalId)
  | vfldUv (p : PortalId)
  | vfldStateRecover (p : PortalId)
  | switchRestoreStep (p : PortalId)
  | vholdLowPor (p : PortalId)
  | portalLogicPorRelease (p : PortalId)
  | vswLowSet (p : PortalId)
  | vswLowClear (p : PortalId)
  | curtainHelloRsp (p : PortalId) (k : Fin 2) (bytes : List Byte)
  | curtainHelloTimeout (p : PortalId) (k : Fin 2)
  | curtainRenegotiate (p : PortalId) (k : Fin 2)
  | curtainBeamFrame (p : PortalId) (k : Fin 2) (bytes : List Byte)
  | curtainLostTimeout (p : PortalId) (k : Fin 2)
  | canBusIntegrated (c : CanId)
  | canFrameReceived (c : CanId) (f : CanRx)
  | canTxAttemptStart (c : CanId)
  | canTxAttemptEnd (c : CanId) (e : TxEnd)
  | canAloneProbe (c : CanId)
  | canAutoRecoveryExpire (c : CanId)
  | canRecoveryComplete (c : CanId)
  | canCmdRecover (c : CanId) (key : Byte)
  | canCmdTxreq (c : CanId) (key : Byte) (obj : BitVec 7)
  | canCmdAbort (c : CanId) (key : Byte) (obj : BitVec 7)
  | canXcmdRead (c : CanId) (obj : BitVec 7)
  | canXcmdWrite (c : CanId) (obj : BitVec 7) (send : Bool)
  | canObjectConfigWrite (c : CanId) (obj : BitVec 7) (word : Fin 3) (v : Word)
  | spiRead (r : SpiRequest)
  | spiWrite (r : SpiRequest)
  | spiStatus (r : SpiRequest)
  | spiRepeat (r : SpiRequest)
  | timeCmdStep (key : Byte)
  | nelzilHelloPeriodic (ch : Channel)
  | nelzilHelloReceived (ch : Channel) (node : BitVec 6) (payload : List Byte)
  | nelzilPeerAgeOut (ch : Channel) (node : BitVec 6)
  | nelzilSettleExpire (ch : Channel)
  | nelzilFdCapExpire (ch : Channel)
  | nelzilNodeClashExpire (ch : Channel)
  | stateCmdReceived (ch : Channel) (node : BitVec 6) (payload : List Byte) (safe : Option SafeCause)
  | passwordMsgReceived (ch : Channel) (node : BitVec 6) (payload : List Byte)
  | passwordPartsTimeout (ch : Channel)
  | portalCmdReceived (ch : Channel) (node : BitVec 6) (payload : List Byte)
  | timeSyncReceived (c : CanId) (node : BitVec 6) (payload : List Byte) (stamp : Dword)
  | timeSyncMasterSend (c : CanId)
  | receiveFlagStale (f : Fin 64) (ch : Channel)
  | mailboxTxGo (w : Word)
  | emmcCommandComplete (info : Crossed EmmcInfo)
  | journalFlushDue (log : Bool)
  | scrubRead (erased : List Nat)
  | traceSegmentCopy (g : Fin 16) (slot : BitVec 12)
  | archCmdFlush (key : Byte)
  | archCmdScrubNow (key : Byte)
  | archCmdReinit (key : Byte)
  | archCmdFormat (key : Byte)
  | archCmdLoad (key : Byte)
  | archCmdFind (key : Byte) (tsel : BitVec 2)
  | tallyImageChecked (r : IslandRead)
  | tallySelfCrc (upset : Bool)
  | tallySealingComplete (r : SealRun) (drawn : BitVec 256)
  | tallyCurtainEvent (p : PortalId) (f : Crossed EventFrame)
  | tallyCycleMark (m : CycleMark)
  | tallyWindowClose (p : PortalId)
  | tallyTrackEnd (p : PortalId)
  | tallyRecordSigned (p : PortalId)
  | tallyHostResetClose (portals : BitVec 4)
  | dieTempMeasure (p : PortalId) (t : BitVec 16)
  | portalDieOvertemp (p : PortalId)
  | registerWrite (addr : Word) (v : Word) (raced : Word)
  | canReceiveError (c : CanId) (e : CanError)
  | linkError (p : PortalId) (side : LinkSide) (lane : Fin 2) (twinValid : Bool)
  | inputOvertempEnd (p : PortalId) (n : Fin 16)
  | switchJunctionCooled (p : PortalId) (n : Fin 8)
  | vgateRestored (p : PortalId)
  | curtainFrameDiscarded (p : PortalId) (k : Fin 2)
  | nelzilMappedMessageReceived (ch : Channel) (node : BitVec 6) (msg : BitVec 5) (payload : List Byte)
  | porRelease
  | resetNAssert
  | resetNRelease
  | flashDiscoveryComplete
  | imageReadComplete
  | signatureVerified
  | fabricConfigured
  | portalDownloadComplete
  | psmArmTimeout
  | dormantEntryComplete
  | offEntryComplete
  | referenceLost
  | wakePin
  | passwordComputeComplete
  | passwordHoldoffEnd
  | zsDiscrepancyTimer
  | plannedSwapDeadline
  | graftTimeout
  | spiAbort
  | timeLoRead
  | tsyncEdge
  | tsyncOutputPulse
  | doorStatusPeriodic
  | linesPeriodic
  | timeSyncLost
  | mailboxRxRemove
  | archiveInitStart
  | emmcCmd1Timeout
  | emmcCommandFail
  | tallyPor
  | tallySealSwitch
  | tallyCarouselAdvance
  deriving DecidableEq, Repr

end Sys2Proof
end

