-- ==== Sys2Proof/Decode.lean ====
section
/-! DEFINITION. The decoder of the command table. The table gives no row any bits: no command of this block is spelled by a
word, so every word is refused. -/

namespace Sys2Proof

/-- The command a word spells by the table's bits: none for every word, since no row of the table has bits. -/
def decodeTableWord (_nbits _w : Nat) : Option Instr := none

end Sys2Proof
end

