-- ==== Sys2Proof/Config.lean ====
section
/-! DEFINITION. What one device fixes and the manual leaves open: opaque constants with no body. Nothing can be proved
about a value of one of them beyond its type. -/

namespace Sys2Proof

/-- A value the manual leaves open, drawn fresh: the model applies it to a counter of `State` that every draw advances. -/
opaque Config.free : Nat → Nat

/-- Whether this device rounds the exact quotient up where the manual gives a division and no rounding: a free
choice for each numerator and denominator. -/
opaque Config.roundsUp : Int → Nat → Bool

/-- The shaft speed, in rad/s, that the drive takes on an axis without feedback (FB_KIND 0), where the manual gives none
(R165): a function of the demanded rate. -/
opaque Config.omegaNoFb : Int → Rat

/-- Whether this device quantises the angle of a sin/cos pair that lies between two counts to the higher one (R193). -/
opaque Config.angleUp : Int → Int → Bool

/-- The angle of a sin/cos pair of zeros, which has none (R193). -/
opaque Config.angleOfZero : Nat

/-- A physical quantity that a register reports and no command carries, as the device measures it: which quantity, and the moment on
the model's clock. -/
opaque Config.measured : Nat → Nat → Nat

/-- The fixed turnaround of a portal die that a lane's round trip contains (R310), in 0.1 ns: the manual gives no number. -/
opaque Config.turnaround : Nat

/-- A store word with an uncorrectable error as it is read (R247): its byte address, and the word that was written. Which bits are wrong is open. -/
opaque Config.upsetWord : Nat → Word → Word

/-- How a group whose MODE holds the unnamed code 3 behaves after a segment closes: as mode 0, 1 or 2 (R250 names no other), for each group. -/
opaque Config.mode3 : Nat → Fin 3

/-- The calibration of a portal in a tally image, whose place and layout the manual does not give (R479): the port, 0 or 1, of the outer plane
and of the inner plane. -/
opaque Config.calPort : List Byte → Nat → Bool → Bool

/-- The beam mask of a plane of a portal in a tally image (R479); the flag names the inner plane. -/
opaque Config.calMask : List Byte → Nat → Bool → BitVec 64

end Sys2Proof
end

