-- ==== Sys2Proof/Machine/Bits.lean ====
section
/-! DEFINITION. Bit fields of words, bytes in little-endian order, the three CRCs the manual names, and exact
arithmetic helpers. -/

namespace Sys2Proof.Machine

/-! ### Fields of a word -/

/-- Field [hi:lo] of a word, as a number. -/
def fget (w : Word) (hi lo : Nat) : Nat := w.toNat / 2 ^ lo % 2 ^ (hi - lo + 1)

/-- The word with ones in bits hi to lo. -/
def fmask (hi lo : Nat) : Word := BitVec.ofNat 32 ((2 ^ (hi - lo + 1) - 1) * 2 ^ lo)

/-- Replace field [hi:lo] of a word; a number too wide for the field loses its upper bits. -/
def fput (w : Word) (hi lo v : Nat) : Word :=
  (w &&& ~~~fmask hi lo) ||| (BitVec.ofNat 32 (v * 2 ^ lo) &&& fmask hi lo)

/-- A word with a number in field [hi:lo] and zeros elsewhere. -/
def fmk (hi lo v : Nat) : Word := fput 0 hi lo v

/-- Bit `i` of a word. -/
def wbit {n : Nat} (w : BitVec n) (i : Nat) : Bool := w.getLsbD i

/-- One bit as a number. -/
def b2n (b : Bool) : Nat := if b then 1 else 0

/-- A word with bit `i` equal to `b` and zeros elsewhere. -/
def bitIf (i : Nat) (b : Bool) : Word := if b then BitVec.ofNat 32 (2 ^ i) else 0

/-- Set or clear bit `i` of a bit vector. -/
def putBit {n : Nat} (w : BitVec n) (i : Nat) (b : Bool) : BitVec n :=
  if b then w ||| BitVec.ofNat n (2 ^ i) else w &&& ~~~BitVec.ofNat n (2 ^ i)

/-- Raise bit `i` of a word. -/
def raise (w : Word) (i : Nat) : Word := putBit w i true

/-- The bits of a list of Booleans, first one at bit 0. -/
def bitsOf : List Bool → Nat
  | [] => 0
  | b :: bs => b2n b + 2 * bitsOf bs

/-- A write of `v` to a word with W1C flags at `mask` (R6): ones clear the flags, except the flags that the hardware sets in
the same cycle, which stay set (R8). -/
def w1c (w v raced mask : Word) : Word := (w &&& ~~~(v &&& mask)) ||| (raced &&& mask)

/-- A write of `v` to a word whose writable bits are `mask`; the other bits are kept. -/
def wrw (w v mask : Word) : Word := (w &&& ~~~mask) ||| (v &&& mask)

/-- Saturating increment with the given ceiling. -/
def satInc (n top : Nat) : Nat := if n < top then n + 1 else top

/-- Field [hi:lo] counted up by one, saturating at its width. -/
def fInc (w : Word) (hi lo : Nat) : Word := fput w hi lo (satInc (fget w hi lo) (2 ^ (hi - lo + 1) - 1))

/-- A two's-complement number of `bits` bits. -/
def signed (bits n : Nat) : Int :=
  if n % 2 ^ bits < 2 ^ (bits - 1) then (n % 2 ^ bits : Nat) else (n % 2 ^ bits : Nat) - (2 ^ bits : Nat)

/-- The low `bits` bits of an integer, in two's complement. -/
def unsig (bits : Nat) (i : Int) : Nat := (i % (2 ^ bits : Nat)).toNat

/-- The 32-bit word of an integer. -/
def wordOf (i : Int) : Word := BitVec.ofInt 32 i

/-- An integer limited to a range. -/
def clampI (lo hi i : Int) : Int := if i < lo then lo else if hi < i then hi else i

/-- The 16-bit word field of an integer limited to the 16-bit signed range. -/
def sat16 (i : Int) : Nat := unsig 16 (clampI (-32768) 32767 i)

/-! ### Bytes -/

/-- The byte at an offset; 0 past the end. -/
def rd8 (l : List Byte) (o : Nat) : Nat := (l.getD o 0).toNat

/-- Two bytes, little-endian. -/
def rd16 (l : List Byte) (o : Nat) : Nat := rd8 l o + 256 * rd8 l (o + 1)

/-- Three bytes, little-endian. -/
def rd24 (l : List Byte) (o : Nat) : Nat := rd16 l o + 65536 * rd8 l (o + 2)

/-- Four bytes, little-endian. -/
def rd32 (l : List Byte) (o : Nat) : Nat := rd16 l o + 65536 * rd16 l (o + 2)

/-- Four bytes as a word. -/
def rdw (l : List Byte) (o : Nat) : Word := BitVec.ofNat 32 (rd32 l o)

/-- Eight bytes, little-endian. -/
def rd64 (l : List Byte) (o : Nat) : Nat := rd32 l o + 4294967296 * rd32 l (o + 4)

/-- A signed 16-bit value. -/
def rds16 (l : List Byte) (o : Nat) : Int := signed 16 (rd16 l o)

/-- A signed 32-bit value. -/
def rds32 (l : List Byte) (o : Nat) : Int := signed 32 (rd32 l o)

/-- A number as `k` bytes, little-endian. -/
def leBytes : Nat → Nat → List Byte
  | 0, _ => []
  | k + 1, n => BitVec.ofNat 8 n :: leBytes k (n / 256)

/-- A number as `k` bytes, most significant first. -/
def beBytes (k n : Nat) : List Byte := (leBytes k n).reverse

/-- A list of bytes as a number, most significant first. -/
def beNat (l : List Byte) : Nat := l.foldl (fun a b => a * 256 + b.toNat) 0

/-- The bytes of words, little-endian. -/
def wordBytes (l : List Word) : List Byte := l.flatMap fun w => leBytes 4 w.toNat

/-- `n` bytes from an offset; positions past the end read 0. -/
def slice (l : List Byte) (o n : Nat) : List Byte :=
  let t := (l.drop o).take n
  t ++ List.replicate (n - t.length) 0

/-- The `n`-th little-endian word of a list of bytes; 0 past the end. -/
def wordAt (l : List Byte) (n : Nat) : Word := rdw l (4 * n)

/-- `n` zero bytes. -/
def zeros (n : Nat) : List Byte := List.replicate n 0

/-! ### Checks -/

/-- One bit of a reflected 32-bit CRC. -/
def crcBit (poly : Word) (c : Word) : Word := if c.getLsbD 0 then (c >>> 1) ^^^ poly else c >>> 1

/-- `n` bits of a reflected 32-bit CRC. -/
def crcBits (poly : Word) : Nat → Word → Word
  | 0, c => c
  | n + 1, c => crcBits poly n (crcBit poly c)

/-- A reflected 32-bit CRC with initial value and final XOR of all ones. -/
def crcRef (poly : Word) (l : List Byte) : Word :=
  ~~~(l.foldl (fun c b => crcBits poly 8 (c ^^^ b.setWidth 32)) 0xFFFFFFFF)

/-- CRC-32C (R85): reflected form of 0x1EDC_6F41. -/
def crc32c (l : List Byte) : Word := crcRef 0x82F63B78 l

/-- CRC-32 of the host port (R401): reflected form of 0x04C1_1DB7. -/
def crc32 (l : List Byte) : Word := crcRef 0xEDB88320 l

/-- One bit of the CRC-16 of the curtain frames. -/
def crc16Bit (c : Half) : Half := if c.getLsbD 15 then (c <<< 1) ^^^ 0x1021 else c <<< 1

/-- `n` bits of the CRC-16. -/
def crc16Bits : Nat → Half → Half
  | 0, c => c
  | n + 1, c => crc16Bits n (crc16Bit c)

/-- CRC-16 of the curtain frames (R364): polynomial 0x1021, initial value 0xFFFF. -/
def crc16 (l : List Byte) : Half := l.foldl (fun c b => crc16Bits 8 (c ^^^ ((b.setWidth 16 : Half) <<< (8 : Nat)))) 0xFFFF

/-! ### Arithmetic -/

/-- A quotient whose rounding the manual does not give: the floor, or the next integer where the device rounds up. -/
def divR (a : Int) (b : Nat) : Int :=
  if a % (b : Int) = 0 then a / (b : Int)
  else if Config.roundsUp a b then a / (b : Int) + 1 else a / (b : Int)

/-- A rational number made an integer where the manual does not give the rounding. -/
def ratR (q : Rat) : Int := divR q.num q.den

/-- The indexes below `n` whose bit is set. -/
def bitIdx {w : Nat} (v : BitVec w) (n : Nat) : List Nat := (List.range n).filter fun i => v.getLsbD i

/-- Replace the element at an index; no change past the end. -/
def setAt {α : Type} (l : List α) (i : Nat) (v : α) : List α := l.set i v

/-- Change the element at an index. -/
def modAt {α : Type} (l : List α) (i : Nat) (f : α → α) : List α :=
  l.mapIdx fun j x => if j = i then f x else x

/-- Repeat a function. -/
def iter {α : Type} (f : α → α) : Nat → α → α
  | 0, a => a
  | n + 1, a => iter f n (f a)

/-- Bits of the digital vector that are events (R242). -/
def eventBits : Dword := 0x0000700740000000

end Sys2Proof.Machine
end

