-- ==== Sys2Proof/Machine/PortalState.lean ====
section
/-! DEFINITION. The state of one portal die: axes (R144 to R178), feedback (R179 to R206), obstacle detection (R207
to R237), acquisition front-end (R238 to R244), portal side of the girth link, keeper and limp-home (R297 to R332), portal
harness (R94 to R96), inputs, switches, supplies, safety outputs and curtain ports (R333 to R369). Every field's default
is its value at reset. Registers are kept as 32-bit words where software clears their flags; registers that only show other
state are computed by the register map. -/

namespace Sys2Proof.Machine

/-- The guarded states (R111). -/
inductive Guarded where
  | closedLocked
  | unlocking
  | opening
  | opened
  | closing
  | obstructed
  | reopening
  | locking
  | isolated
  | limp
  | lockedOut
  | fault
  | notInUse
  deriving DecidableEq, Repr

/-! ### Axes -/

/-- The drive states (R148). -/
inductive Drive where
  | torqueOff
  | align
  | standstill
  | run
  | stopping
  deriving DecidableEq, Repr

/-- Why an axis moves: a kernel profile (R158), a controlled stop (R159), a safe stop (R223), a reversal (R225), a limp
jog (R330). -/
inductive MotionWhy where
  | profile
  | controlledStop
  | safeStop
  | reversal
  | jogOpen
  | jogClose
  deriving DecidableEq, Repr

/-- What an axis does when its motion has come to standstill: rest there, rest there at reduced current at once (R357), enter TORQUE_OFF (R150, R321),
or run the new profile to the target that it had when it was accepted, judged from the standstill position (R158, first case). -/
inductive MotionAfter where
  | rest
  | restReduced
  | torqueOff
  | judgeProfile (profile : Nat) (target : Int)
  deriving DecidableEq, Repr

/-- One segment of a planned path (R151): the SEGMENT code it reports, its duration in ns, and speed, acceleration and
jerk at its start (axis units/s, /s², /s³; positive opens). -/
structure PathSeg where
  num : Nat
  dur : Nat
  v0 : Rat
  a0 : Rat
  jerk : Rat
  deriving DecidableEq, Repr

/-- A motion in progress: its reason, profile, the position at which it ends and the target of the profile itself (R158, R159), the segments still to run with
the time spent in the first (ns and 1/128 ns), what follows it, whether reaching its end sets AT_END (R161), and its currents in mA (R154). -/
structure Motion where
  why : MotionWhy
  profile : Nat
  target : Int
  goal : Int
  path : List PathSeg
  tau : Nat
  frac : Nat
  after : MotionAfter
  endsAtTarget : Bool
  iRun : Nat
  iAcc : Nat
  /-- A stop that the portal die began of its own accord, on a fallen permission, in brown-out hold or in its fail-safe states (R22, R23). -/
  own : Bool := false
  deriving DecidableEq, Repr

/-- One axis (R144 to R178). -/
structure AxisState where
  /-- Drive state, AX_STAT.DRIVE (R148). -/
  drive : Drive := .torqueOff
  /-- The low-side precharge of an enable is running (R149). -/
  precharge : Bool := false
  /-- A MOTION byte accepted while the axis enables, carried out when it is enabled (R150). -/
  queued : Option Byte := none
  /-- The position at which that run ends, fixed when its command was accepted (R157). -/
  queuedGoal : Int := 0
  /-- The motion in progress. -/
  motion : Option Motion := none
  /-- AX_STAT.PROFILE. -/
  profile : Nat := 0
  /-- AX_STAT.SEGMENT (R150, R158). -/
  segment : Nat := 0
  /-- AX_EVT: its W1C flags and OC_LEGS. -/
  evt : Word := 0
  /-- AX_STAT.AT_END (R161). -/
  atEnd : Bool := false
  /-- OPEN_DIR: the latest motion was in the open direction (R177). -/
  openDir : Bool := false
  /-- HOLD_FIRM asserted for the axis (R121, R173). -/
  holdFirm : Bool := false
  /-- HOLD_RED (R172). -/
  holdRed : Bool := false
  /-- DUTY_SAT of the latest period (R166). -/
  dutySat : Bool := false
  /-- RATE_CLIP of the latest step (R163). -/
  rateClip : Bool := false
  /-- ALIGNED: an electrical reference is held (R149). -/
  aligned : Bool := false
  /-- A trip of R170 is latched. -/
  trip : Bool := false
  /-- LAG_WARN (R176). -/
  lagWarn : Bool := false
  /-- AX_DEMAND: demanded position, axis units. -/
  demand : Int := 0
  /-- AX_LAG, axis units (R176). -/
  lag : Int := 0
  /-- AX_RATE: demanded rate, axis units/s. -/
  rate : Int := 0
  /-- AX_IVAL: latest computed interval, 1/256 tick. -/
  ival : Nat := 0
  /-- The fraction of a tick carried to the next reload (R162), 1/256 tick. -/
  carry : Nat := 0
  /-- The step timer: ticks loaded for the interval now running; 0 at standstill. -/
  timer : Nat := 0
  /-- Electrical angle in microsteps (R147). -/
  theta : Int := 0
  /-- The feedback counter at the electrical reference (R149, R216). -/
  refCounter : Int := 0
  /-- The electrical angle, in microsteps, at the reference. -/
  refTheta : Int := 0
  /-- Moment of entry to ALIGN, or the later of entry to STANDSTILL and the fall of hold-firm (R172), on the model's clock. -/
  holdFrom : Nat := 0
  /-- Moment at which HOLD_RED was set; the ramp of R172 runs from it. -/
  redAt : Nat := 0
  /-- The current demand of the latest period, mA (R148). -/
  iDemand : Int := 0
  /-- The current demand of the previous period, µA, for L × di/dt (R165); on kind 3 that of its loop (R175). -/
  iPrev : Rat := 0
  /-- AX_VBUS.VMIN, 10 mV. -/
  vmin : Nat := 0xFFFF
  /-- AX_DUTY.DNOW and DMAX. -/
  dnow : Nat := 0
  dmax : Nat := 0
  /-- Leg duties computed in the latest period and those now in effect, signed, 1/65,536 (R169). -/
  dutyNext : Four Int := .all 0
  duty : Four Int := .all 0
  /-- AX_ILEG01, AX_ILEG23: leg currents, mA. -/
  ileg : Four Int := .all 0
  /-- AX_CNT. -/
  satCnt : Nat := 0
  tripCnt : Nat := 0
  /-- The latest Hall edge was out of place (R170). -/
  hallOff : Bool := false
  /-- A Hall edge still has to correct the alignment angle (R149). -/
  hallAwait : Bool := false
  deriving DecidableEq, Repr

/-! ### Feedback -/

/-- One feedback port, its counter and its observer (R179 to R206). -/
structure FbState where
  /-- FB_POS: the 32-bit position counter, counts. -/
  pos : Int := 0
  /-- FB_EVT. -/
  evt : Word := 0
  /-- FB_STAT.STILL (R201). -/
  still : Bool := true
  /-- FB_STAT.SPD_QUAL (R202). -/
  spdQual : Bool := false
  /-- FB_STAT.POS_UNCERTAIN. -/
  uncertain : Bool := false
  /-- FB_STAT.LIM_HI and LIM_LO (R195). -/
  limHi : Bool := false
  limLo : Bool := false
  /-- FB_STAT.IDX_ARMED (R187). -/
  idxArmed : Bool := false
  /-- FB_STAT.FIRST_EDGE (R202). -/
  firstEdge : Bool := false
  /-- FB_STAT.DIR_UP. -/
  dirUp : Bool := false
  /-- FB_STAT.LINE_OK: DAT, QZ, QB, QA. -/
  lineOk : BitVec 4 := 0
  /-- FB_STAT.HALL_SECTOR; 7 before any valid code. -/
  hallSector : BitVec 3 := 7
  /-- FB_STAT.HALL_CODE: the filtered code. -/
  hallCode : BitVec 3 := 0
  /-- Filtered levels of QA and QB. -/
  qa : Bool := false
  qb : Bool := false
  /-- FB_ERRCNT. -/
  illCnt : Nat := 0
  frameCnt : Nat := 0
  /-- FB_IDXPOS. -/
  idxPos : Int := 0
  /-- FB_SSIDATA and FB_SSISTAT. -/
  ssiData : Word := 0
  ssiStat : Byte := 0
  /-- An SSI request is being clocked, and the device time of its latch edge (R190, R197). -/
  ssiBusy : Bool := false
  ssiLatch : Dword := 0
  /-- The last valid SSI binary reading, for WRAP and JUMP_MAX (R191, R192). -/
  ssiPrev : Option Nat := none
  /-- Requests in a row that were skipped or discarded (R191). -/
  ssiBad : Nat := 0
  /-- FB_SCRAW. -/
  sin : Int := 0
  cos : Int := 0
  /-- FB_SCAMP. -/
  rmin : Nat := 0xFFFF
  rnow : Nat := 0
  /-- The sin/cos period count and the last quantised angle (R193). -/
  scPeriods : Int := 0
  scAngle : Option Nat := none
  /-- Sin/cos samples in a row that were discarded (R194). -/
  scBad : Nat := 0
  /-- FB_DETECT: DONE, HALL, SINCOS, SSI, QUAD (bits 8, 3 to 0). -/
  detect : Word := 0
  /-- The latest detection found every kind that is configured, and no other has been started since (R181, R182). -/
  passed : Bool := false
  /-- FB_CMPVAL, FB_CMPINC, FB_CMPCTL. -/
  cmpVal : Word := 0
  cmpInc : Word := 0
  cmpCtl : Word := 0
  /-- FB_CMPHITS and FB_CMPT. -/
  cmpHits : Nat := 0
  cmpT : Dword := 0
  /-- The observer's p_hat, v_hat, a_hat (R199), counts, /s, /s². -/
  pHat : Rat := 0
  vHat : Rat := 0
  aHat : Rat := 0
  /-- A valid reading arrived since the last observer update (SSI, sin/cos; R199). -/
  fresh : Bool := false
  /-- Moment of the last counting edge, the counter at it, and the intervals of the last edges, newest first (R200). -/
  edgeAt : Nat := 0
  edgePos : Int := 0
  intervals : List Nat := []
  /-- Moment of the last seeding (R202). -/
  seededAt : Option Nat := none
  deriving DecidableEq, Repr

/-! ### Obstacle detection -/

/-- One analog edge (R213 to R215). -/
structure EdgeState where
  /-- Baseline, mV; none until the first sample after the portal die holds its ENVL units. -/
  base : Option Rat := none
  /-- Latest level above baseline, mV. -/
  above : Rat := 0
  /-- Successive samples more than EDG_THR above the baseline. -/
  run : Nat := 0
  /-- Successive samples outside EDG_VMIN to EDG_VMAX. -/
  badRun : Nat := 0
  /-- Pressed. -/
  pressed : Bool := false
  /-- The interpolated crossing of EDG_THR before the present run (R213). -/
  crossing : Dword := 0
  deriving DecidableEq, Repr

/-- A safe stop in progress (R222 to R225). -/
structure SafeStop where
  /-- Axes under the stop that have not ended it. -/
  axes : BitVec 3
  /-- The customer state at the first detection, whose reversal order applies (R221). -/
  cust : Nat
  /-- No reversal follows (R214, R223, R226, and a stop during a limp jog). -/
  noReversal : Bool
  /-- The portal enters FAULT when the stop completes (R214). -/
  faultAfter : Bool
  /-- Speed |v0| of each axis at the detection, axis units/s (R223). -/
  v0 : Three Rat
  /-- Moment of each axis's own start of deceleration (R222), none until it, and the planned path, v_plan. -/
  started : Three (Option Nat)
  plan : Three (List PathSeg)
  deriving DecidableEq, Repr

/-- Why the full self-test of the monitor runs (R209, R230, R231). -/
inductive SelftestWhy where
  | download
  | remoteReset
  | localReset
  | bothResets
  deriving DecidableEq, Repr

/-- One learning bin: samples of the run in progress (count and sum), and the sum, lowest and highest of the accepted run
means (R237), 0.1 N. -/
structure LearnBin where
  runN : Nat
  runSum : Int
  sum : Int
  lo : Int
  hi : Int
  n : Nat
  deriving DecidableEq, Repr

/-- Learning of one axis: start and width of the bins, and the bins (R237). -/
structure LearnAxis where
  start : Int := 0
  step : Int := 0
  bins : List LearnBin := []
  deriving DecidableEq, Repr

/-- The obstacle detectors, the safe stop and the lock-out of a portal die (R207 to R237). -/
structure ObState where
  /-- OB_EVT. -/
  evt : Word := 0
  /-- OB_CAUSE. -/
  cause : Word := 0
  /-- OB_DETT. -/
  dett : Dword := 0
  /-- OB_DETPOS0 to 2, axis units. -/
  detPos : Three Int := .all 0
  /-- Latest effort E and its highest since CYCLE_START, 0.1 N (OB_EFF). -/
  eff : Three Int := .all 0
  effHigh : Three Int := .all 0
  /-- Limits in force U and Lo, 0.1 N (OB_LIM). -/
  limU : Three Int := .all 0
  limLo : Three Int := .all 0
  /-- The learned envelope was in force in the latest sample (ENV_ACT). -/
  envAct : BitVec 3 := 0
  /-- The two analog edges. -/
  edges : Two EdgeState := .all {}
  /-- The edges were armed at the latest tick (R215). -/
  armed : Bool := false
  /-- The safe stop in progress. -/
  stop : Option SafeStop := none
  /-- Axes under the present or last stop (STOP_AXES). -/
  stopAxes : BitVec 3 := 0
  /-- The rest before the reversal is running, with the customer state whose order applies. -/
  rest : Option Nat := none
  /-- Axes of the reversal in progress that have neither reached AT_END nor started no motion (R225). -/
  reversal : Option (BitVec 3) := none
  /-- The customer state whose reversal order is under way (R221). -/
  revCust : Nat := 0
  /-- REV_PEND: a reversal is pending or running. -/
  revPend : Bool := false
  /-- OB_LOCK.CAUSE; 0 when no lock-out is latched. -/
  lockCause : Nat := 0
  /-- OB_LOCK.RST_WHY. -/
  rstWhy : Nat := 0
  /-- P_LOCKOUT_CLR_N went low at this moment and is still low (OB_STAT.LCLR_HELD, OB_LOCK.CLR_MS); the conditions of R230 have held since, and
  this fall of the land has not yet brought its self-test (R231). -/
  lclrAt : Option Nat := none
  lclrCount : Bool := false
  /-- OB_CNT. -/
  detCnt : Nat := 0
  spdTrips : Nat := 0
  lockouts : Nat := 0
  /-- The last full self-test passed (SELFTEST_OK); the self-test now running. -/
  selftestOk : Bool := false
  selftest : Option SelftestWhy := none
  /-- Successive ticks on which decisions, efforts and counters differed (R208). -/
  runStop : Nat := 0
  runEff : Three Nat := .all 0
  runCnt : Three Nat := .all 0
  /-- Successive cross-checks that differed, per edge (R209). -/
  runAdc : Two Nat := .all 0
  /-- Successive violating effort samples above U and below Lo, and successive lagging updates (R217, R219). -/
  effHiRun : Three Nat := .all 0
  effLoRun : Three Nat := .all 0
  lagRun : Three Nat := .all 0
  /-- Successive updates above v_env (R223). -/
  envRun : Three Nat := .all 0
  /-- PROG_TMO is running since AT_END (R220). -/
  progArmed : BitVec 3 := 0
  /-- Axes whose torque read-back after a stop is pending: the leg currents, and the gate outputs (R224). -/
  readback : BitVec 3 := 0
  gateCheck : BitVec 3 := 0
  /-- The stop decision and the torque-removal decision of each monitor channel, as compared at the monitor tick (R207, R208). -/
  decided : Two Bool := .all false
  removed : Two Bool := .all false
  /-- OB_LEARN (EN, PROFILE, RUNS). -/
  learn : Word := 0x00080000
  /-- OB_LRNSTAT: RUNS_OK, RUNS_DISC; the bins. -/
  runsOk : Nat := 0
  runsDisc : Nat := 0
  learnAxes : Three LearnAxis := .all {}
  /-- A learning run is under way: the named axes that have not reached AT_END. -/
  learnRun : Option (BitVec 3) := none
  /-- OB_LRNIDX. -/
  lrnIdx : Word := 0
  deriving DecidableEq, Repr

/-- What the second monitor channel holds of its own (R207): its feedback edges and its copy of the observer, its effort estimate, the
runs of its detectors, and its analog edges. The first channel's stand in the portal's feedback ports and in the obstacle block. -/
structure MonChan where
  fbs : Three FbState := .all {}
  eff : Three Int := .all 0
  effHiRun : Three Nat := .all 0
  effLoRun : Three Nat := .all 0
  lagRun : Three Nat := .all 0
  envRun : Three Nat := .all 0
  edges : Two EdgeState := .all {}
  progArmed : BitVec 3 := 0
  deriving DecidableEq, Repr

/-! ### Acquisition front-end -/

/-- The front-end of a portal die (R238 to R244, R307). -/
structure AfeState where
  /-- AFE_RAW: latest 16-bit samples of channels 0 to 15. -/
  raw : Sixteen Half := .all 0
  /-- AFE_STAT. -/
  heldCnt : Nat := 0
  ovrCnt : Nat := 0
  /-- AFE_STREAM: the stream set. -/
  stream : Word := 0
  /-- The digital vector at the latest tick, and its event bits since that tick (R242). -/
  dvec : Dword := 0
  devents : Dword := 0
  /-- The cross-check falls in the current frame (R240). -/
  crossDue : Bool := false
  /-- Derived samples of the observer updates in the current window, per axis (R241). -/
  derived : Three (Option DerivedSample) := .all none
  /-- Digital words of the current 2 µs window. -/
  words : List (BitVec 1 × Dword) := []
  /-- Streaming is stopped until the next read-back or download (R312, R321). -/
  halted : Bool := true
  deriving DecidableEq, Repr

/-! ### Harness -/

/-- One timer of a fabric or harness (R90): the previous sample, the output, and the ticks until it changes. -/
structure TimerState where
  prev : Bool := false
  out : Bool := false
  left : Nat := 0
  running : Bool := false
  deriving DecidableEq, Repr

/-- One copy of a fabric or harness: cell flip-flops, the LUT outputs and flip-flop enables that settled after the latest
presentation, and the timers. -/
structure FabricCopy where
  ff : List Bool := []
  lut : List Bool := []
  en : List Bool := []
  timers : List TimerState := []
  deriving DecidableEq, Repr

/-- The sources presented to a portal harness at its latest tick (R94): local signals, command bits, LIMP_N and link up. -/
structure HarnessSrc where
  signals : BitVec 128 := 0
  cmd : Dword := 0
  limpN : Bool := false
  linkUp : Bool := false
  deriving DecidableEq, Repr

/-- The portal harness in both monitor channels (R94 to R96), with the exports as last driven. -/
structure PortalHarness where
  chan1 : FabricCopy := {}
  chan2 : FabricCopy := {}
  src : HarnessSrc := {}
  /-- Destinations 0x000 to 0x03F as last driven. -/
  dest : Dword := 0
  deriving DecidableEq, Repr

/-! ### Units -/

/-- One unit held or being downloaded (R81, R309): section tag, unit KIND, bytes, and the reference CRC-32C. -/
structure UnitData where
  tag : Word
  kind : Byte
  bytes : List Byte
  crc : Word
  /-- Section version under which the unit is read. -/
  version : Half
  deriving DecidableEq, Repr

/-! ### Inputs, switches, supplies, safety outputs, curtains -/

/-- One input filter (R336): counter or debounce time, the last raw sample, the filtered output. -/
structure InputFilter where
  count : Nat := 0
  lastRaw : Bool := false
  out : Bool := false
  deriving DecidableEq, Repr

/-- The digital inputs (R335 to R341). -/
structure InputState where
  filters : Sixteen InputFilter := .all {}
  /-- The filters take their state from the next sample (R336). -/
  restart : Bool := true
  /-- IN_STAT.RAW. -/
  raw : BitVec 16 := 0
  /-- IN_DIAG: open wire and over-temperature. -/
  ow : BitVec 16 := 0
  ot : BitVec 16 := 0
  /-- IN_EVT. -/
  evt : Word := 0
  /-- IN_CUR, 10 µA. -/
  current : Sixteen Half := .all 0
  deriving DecidableEq, Repr

/-- How a current-limit episode of a channel began (R343 to R345). -/
inductive EpisodeBy where
  | switchOn
  | inrushRetry
  | shortRetry
  deriving DecidableEq, Repr

/-- A retry that waits (R343 to R345): which kind, whether RETRY_INT has elapsed, whether the junction is above 145 °C, and the
moment before which a neighbour's episode still keeps it back. -/
structure RetryWait where
  short : Bool
  due : Bool := false
  hot : Bool := false
  at_ : Nat := 0
  deriving DecidableEq, Repr

/-- The class of a latched switch fault (R347). -/
inductive SwitchClass where
  | none
  | short
  | overload
  | ot
  deriving DecidableEq, Repr

/-- One protected switch channel (R342 to R349). -/
structure SwitchState where
  /-- Demanded state. -/
  demand : Bool := false
  /-- The output is on. -/
  on : Bool := false
  episode : Option EpisodeBy := none
  /-- A retry has switched the channel on, and its current has not reached ILIM yet (R343 to R345). -/
  retried : Option EpisodeBy := none
  /-- The output rose above 20 % of VSW in the present episode. -/
  rose : Bool := false
  retry : Option RetryWait := none
  /-- Short retries made since the channel was classed SHORT, 0 to 2. -/
  shortTries : Nat := 0
  /-- SW_DIAG: latched class, SHORT_CL, RETRY_LEFT, W1C flags, current. -/
  cls : SwitchClass := .none
  shortCl : Bool := false
  retryLeft : Nat := 0
  flags : Word := 0
  current : Half := 0
  shed : Bool := false
  /-- The loss last estimated before shedding, mW (R349). -/
  lastLoss : Nat := 0
  /-- A demanded switch-on is deferred (HOLD, R357; restore, R359). -/
  deferred : Bool := false
  deriving DecidableEq, Repr

/-- The field-supply states (R355). -/
inductive FieldState where
  | normal
  | warn
  | hold
  | uv
  deriving DecidableEq, Repr

/-- Supplies of a portal die (R349, R350, R355 to R361, R490, R491, R496). -/
structure SupplyState where
  field : FieldState := .normal
  /-- PS_STAT W1C flags. -/
  psEvt : Word := 0
  porVhold : Bool := false
  vfldMin : Nat := 0xFFFF
  vfld : Nat := 0
  vswLow : Bool := false
  /-- An analog frame has been converted since logic POR: VSW, VHOLD and the safety-output currents are measured. -/
  railsSeen : Bool := false
  /-- UV has been entered and the switches are not all restored yet (R359). -/
  restoring : Bool := false
  /-- PS_TEMP, signed °C. -/
  die : BitVec 16 := 0
  dieMax : BitVec 16 := 0x8000
  dieMeasured : Bool := false
  /-- Sensor supplies on, in overload, overload flags, count (SS_STAT). -/
  ssOn : BitVec 4 := 0
  ssOvl : BitVec 4 := 0
  ssEvt : BitVec 4 := 0
  ssCnt : Nat := 0
  /-- SW_BUDGET.EST and OVER (overBudget); the order of shedding, latest first. -/
  est : Nat := 0
  overBudget : Bool := false
  shedOrder : List (Fin 8) := []
  /-- VGATE below 9.0 V (R490). -/
  gateUv : Bool := false
  /-- Latest V_bus, 10 mV (AX_VBUS.VNOW), and VMOT_LOW. -/
  vbus : Nat := 0
  vmotLow : Bool := false
  /-- The die has been above 160 °C for 10 ms and not since below 140 °C (R497). -/
  dieHot : Bool := false
  deriving DecidableEq, Repr

/-- One safety output (R351 to R354). -/
structure SoState where
  /-- The output is on (between pulses). -/
  on : Bool := false
  /-- A pulse is in progress. -/
  pulse : Bool := false
  /-- Interlock-cell permission, kernel demand in the latest COMMAND, demand held standing (PST_SO). -/
  perm : Bool := false
  dem : Bool := false
  stand : Bool := false
  /-- A fault of R353 holds the output off. -/
  fault : Bool := false
  /-- The output, switched off, still reads above 3.0 V (STUCK present), and when that was last seen. -/
  stuck : Bool := false
  stuckAt : Nat := 0
  current : Half := 0
  /-- Moment at which the next pulse falls due. -/
  nextAt : Nat := 0
  /-- Since the interlock cell last became on: the latest kernel cycle whose inputs may be older than that, and whether a COMMAND of a later cycle has been
  accepted (R25). -/
  permCycle : Option Half := none
  permFresh : Bool := false
  deriving DecidableEq, Repr

/-- The phases of a curtain port (CUR_STAT.PHASE). -/
inductive CurtainPhase where
  | off
  | hello
  | select
  | live
  | lost
  | failed
  deriving DecidableEq, Repr

/-- One curtain port (R362 to R368). -/
structure CurtainState where
  phase : CurtainPhase := .off
  vsel : Nat := 0
  legacy : Bool := false
  /-- HELLO_REQ frames left unanswered in this negotiation. -/
  tries : Nat := 0
  /-- A valid version 1 BEAM frame arrived unprompted in this negotiation (R365). -/
  v1Seen : Bool := false
  /-- SUMMARY (R367). -/
  summary : Bool := true
  nbeams : Byte := 0
  status : Byte := 0
  beams : Dword := 0
  latch : Dword := 0
  ident : Word := 0
  seq : Option Byte := none
  crcErr : Nat := 0
  missed : Nat := 0
  evt : Word := 0
  /-- Bytes last sent to the curtain (HELLO_REQ, SELECT). -/
  sent : List Byte := []
  deriving DecidableEq, Repr

/-! ### Link, keeper, limp-home, portal state -/

/-- A frame of any type on its way to the other side. -/
inductive LinkFrame where
  | hello (h : FrameHdr) (f : HelloFrame)
  | time (h : FrameHdr) (stamp : Dword)
  | command (h : FrameHdr) (f : CommandFrame)
  | keeper (h : FrameHdr) (f : KeeperFrame)
  | event (h : FrameHdr) (f : EventFrame)
  | state (h : FrameHdr) (f : StateFrame)
  | config (h : FrameHdr) (f : ConfigFrame)
  | sample (h : FrameHdr) (f : SampleFrame)
  deriving DecidableEq, Repr

/-- One side of a girth link as a sender and receiver of frames (R297 to R299, R313 to R315). -/
structure LinkEnd where
  /-- Lanes up at this side. -/
  lanes : BitVec 2 := 0
  /-- SEQ of the next frame sent. -/
  txSeq : Byte := 0
  /-- SEQs of the last 32 frames accepted, newest first (R297). -/
  rxSeqs : List Byte := []
  /-- Frames sent and not yet received by the other side. -/
  outbox : List LinkFrame := []
  /-- Moments of recent lane errors (per lane) and link errors within 1 ms, newest first (R313, R315). -/
  laneErrs : Two (List Nat) := .all []
  linkErrs : List Nat := []
  /-- Link fault declared at this side. -/
  fault : Bool := true
  /-- The 50 µs silence after link fault runs (R315). -/
  silent : Bool := false
  /-- Lanes under background retraining (R311), those of them that are locked at this side, and those over which a valid TIME frame (at
  the portal side) or STATE frame (at the host side) has come. -/
  retrain : BitVec 2 := 0
  locked : BitVec 2 := 0
  proved : BitVec 2 := 0
  deriving DecidableEq, Repr

/-- The portal's progress from HELLO to accepting COMMANDs (R316, R324). -/
inductive TakeoverStep where
  | none
  | helloDone
  | keeperDone
  | ready
  deriving DecidableEq, Repr

/-- The portal side of the link, the keeper, the time and limp-home (R297 to R332). -/
structure PortalLink where
  fin : LinkEnd := {}
  /-- HELLO is complete and no link fault stands: PST_STATE.LINK_UP. -/
  up : Bool := false
  /-- Cause of the last link fault at this side (GL_STAT.WHY). -/
  why : Nat := 0
  takeover : TakeoverStep := .none
  /-- The unit download since HELLO was live: a takeover needs the read-back (R324). -/
  live : Bool := false
  /-- SEQ of the STATE frame sent for the read-back. -/
  readbackSeq : Byte := 0
  /-- Keeper: armed, next key, next service number, the last accepted service, NONCE (R317). -/
  keeperArmed : Bool := false
  keeperKey : Word := 0
  keeperServe : Nat := 1
  keeperAt : Nat := 0
  nonce : Word := 0
  /-- Portal time and its trim in 0.01 ppm (R312). -/
  time : Dword := 0
  trim : Int := 0
  /-- The part of a nanosecond that the trimmed clock carries, 1/10^8 ns. -/
  timeFrac : Nat := 0
  timeErr : Int := 0
  timeFree : Bool := true
  timeStep : Bool := false
  dly : Two Half := .all 0
  lowRate : Bool := false
  /-- The next lane loss is ordered (R328). -/
  ordered : Bool := false
  /-- Latest accepted COMMAND, and the moment of its acceptance. -/
  last : Option CommandFrame := none
  lastAt : Nat := 0
  /-- MOTION bytes of the latest accepted COMMAND still to be carried out, per axis, and its ORDER. -/
  motionDue : Three (Option Byte) := .all none
  orderDue : Byte := 0
  /-- Run-profile commands kept in brown-out hold, with their MSEQ (R357). -/
  kept : Three (Option (Byte × Byte)) := .all none
  /-- Hold window running until this moment; its outcome waits for a stop or reversal (R322). -/
  holdUntil : Option Nat := none
  outcomeWaits : Bool := false
  /-- LH_STAT parts. -/
  failsafe : Bool := true
  limp : Bool := false
  causePin : Bool := false
  causeLink : Bool := false
  limpN : Bool := false
  jogOpen : Bool := false
  jogClose : Bool := false
  /-- The jog request of a direction, open and close, must be released before it acts again (R226). -/
  jogBlocked : Two Bool := .all false
  /-- The standing jog request of a direction, open and close, has been refused (R330). -/
  jogRefused : Two Bool := .all false
  /-- Trained lanes over which the confirming HELLO has not come yet, and the SEQ of that HELLO (R311). -/
  helloLanes : BitVec 2 := 0
  helloSeq : Byte := 0
  /-- The last link loss was by order (R320, R328). -/
  lostByOrder : Bool := false
  permitHeld : Bool := false
  /-- LH_EVT; GL_EVT flags reported by the portal side. -/
  lhEvt : Word := 0
  glEvt : Word := 0
  /-- Lane errors and link errors counted at the portal side, modulo 4,096 (R314). -/
  laneErrs : Nat := 0
  linkErrs : Nat := 0
  /-- Portal time of the latest of these flags, the ETIME of the EVENT of CODE 0x0D (R306). -/
  noteTime : Dword := 0
  losses : Nat := 0
  limps : Nat := 0
  keeperExps : Nat := 0
  /-- GL_FRM.EARLY. -/
  early : Nat := 0
  /-- Moments of the latest eight EVENT frames sent, newest first, and the events queued beyond eight in 100 µs (R300). -/
  evtTimes : List Nat := []
  evtQueue : List EventFrame := []
  deriving DecidableEq, Repr

/-- One portal die. -/
structure PortalState where
  /-- Logic POR of the portal die is held (R491). -/
  por : Bool := false
  /-- The guarded state as the portal die holds it: PCODE[3:0]. -/
  cls : Guarded := .notInUse
  /-- The customer state current at the portal die: that of the latest accepted COMMAND, or ENTRY after an own change. -/
  cust : Nat := 0
  /-- The STRC payload as the portal die knows it: kinds, hold window and limp enable (R83). -/
  strc : List Byte := []
  /-- PST_PROOF.PROVEN, and channels whose open half has been seen (R68). -/
  proven : BitVec 16 := 0
  openHalf : BitVec 16 := 0
  /-- PST_ISO: ISO_DISC, ISO split since, CLS and LCK made since. -/
  isoDisc : Bool := false
  isoSplitAt : Option Nat := none
  agreeAt : Option Nat := none
  /-- PST_REFUSE. -/
  refuseWhy : Byte := 0
  refuseCnt : Nat := 0
  axes : Three AxisState := .all {}
  fbs : Three FbState := .all {}
  ob : ObState := {}
  /-- The second monitor channel (R207). -/
  mon2 : MonChan := {}
  afe : AfeState := {}
  harness : PortalHarness := {}
  /-- Units in force and units downloaded whose section is not complete (R309). -/
  units : List UnitData := []
  incoming : List UnitData := []
  /-- Bytes of the unit now arriving in DL_CHUNK frames: tag, KIND, bytes. -/
  chunk : Option (Word × Byte × List Byte) := none
  inputs : InputState := {}
  switches : Eight SwitchState := .all {}
  supply : SupplyState := {}
  sos : Two SoState := .all {}
  /-- SO_EVT and SO_CNT. -/
  soEvt : Word := 0
  soPulses : Word := 0
  curtains : Two CurtainState := .all {}
  link : PortalLink := {}
  deriving DecidableEq, Repr

end Sys2Proof.Machine
end

