-- ==== Sys2Proof/Machine/HostState.lean ====
section
/-! DEFINITION. The state of the host die: power states and start-up (R38 to R73), fuses, image, flash, password and
change log (R53, R74 to R110), host fabric (R86 to R93), door sequencer (R111 to R143), redundancy (R267 to R293), host side of
the girth links (R297 to R315), acquisition store (R246 to R265), CAN (R370 to R397), host port, interrupts and time (R399 to
R413), Nelzil (R414 to R440), archive (R441 to R460) and the tally island (R462 to R485). Every field's default is its value at reset. -/

namespace Sys2Proof.Machine

/-! ### Power states and start-up -/

/-- The power states (R38). -/
inductive Psm where
  | off
  | boot
  | fuseFail
  | dormant
  | standby
  | service
  | maintain
  | selftest
  | safe
  deriving DecidableEq, Repr

/-- The pending arm word (R46, R48). -/
structure Arm where
  word : Word
  src : CmdSource
  at_ : Nat
  /-- SEQ of the STATE_CMD that carried it, to be answered (R426). -/
  seq : Option Byte
  deriving DecidableEq, Repr

/-- A commanded transition still being carried out (R48): entry to DORMANT, entry to OFF, return from DORMANT: up to the awl test and the
retained CRCs, then with the links in training and their read-back (R65). -/
inductive Transition where
  | toDormant (src : CmdSource) (at_ : Nat)
  | toOff (src : CmdSource) (at_ : Nat)
  | fromDormant (src : CmdSource)
  | linksBack (src : CmdSource)
  deriving DecidableEq, Repr

/-- The state command whose execute word was accepted in the present kernel cycle (R50): its source, the SEQ of its message, and
PSM_CMDSTAT before it was carried out. -/
structure Accepted where
  src : CmdSource
  at_ : Nat
  seq : Option Byte
  cmdstat : Word
  deriving DecidableEq, Repr

/-- The step of start-up in progress (R52 to R59): POR held, fuse load, awl, flash wait, discovery, image read, signature
check, fabric configuration, girth training, download, done. -/
inductive BootStep where
  | por
  | fuseLoad
  | awl
  | flashWait
  | discovery
  | imageRead
  | signature
  | fabric
  | training
  | done
  deriving DecidableEq, Repr

/-- Power and start-up state: the PSM block (R38 to R73). -/
structure PsmState where
  state : Psm := .boot
  /-- RESET_N is low. -/
  resetLow : Bool := false
  /-- The host-die POR is held (R52). -/
  porHeld : Bool := true
  step : BootStep := .por
  /-- PSM_STATE.PHASE. -/
  phase : Nat := 0
  /-- PSM_STATE.SCOPE: a pair-scope SELFTEST runs. -/
  pairScope : Bool := false
  arm : Option Arm := none
  busy : Option Transition := none
  /-- The execute word of the present kernel cycle, until the cycle has ended (R50). -/
  accepted : Option Accepted := none
  /-- PSM_CMDSTAT. -/
  cmdstat : Word := 0
  /-- PSM_BOOT: RST_PIN, IMAGE, A_WHY, B_WHY, XSPI_MODE, SFDP_OK, XSPI_MHZ, LINK_UP, AWL_FAIL. -/
  boot : Word := 0
  /-- PSM_BOOTTIME, and the moment of POR release. -/
  bootTime : Word := 0
  bootFrom : Nat := 0
  /-- PSM_SAFE, PSM_WAKE, PSM_WAKE_EN. -/
  safe : Word := 0
  wake : Word := 0
  wakeEn : Word := 0xF7
  /-- PSM_PROOF and PSM_GRANT. -/
  proof : Word := 0
  grant : Word := 0xC1
  /-- What the configuration flash answered at discovery (R55), and whether the mode has settled on one in which the flash can be read; none before. -/
  flashDev : Option FlashDevice := none
  flashUp : Option Bool := none
  /-- PSM_BOOT, PSM_BOOTTIME, DEV_FUSE_VOTE and PSM_SAFE as they stood at the end of the last start-up (R446). -/
  startUp : Four Word := .all 0
  deriving DecidableEq, Repr

/-! ### Fuses -/

/-- One fuse record (R97): the cells programmed, by logical bit (data bits, then the 32 check bits) and cell. -/
structure FuseRecord where
  cells : List (Nat × Fin 3) := []
  deriving DecidableEq, Repr

/-- The fuse array (R53, R97) and what fuse load made of it: the DEV registers. -/
structure FuseState where
  factory : FuseRecord := {}
  keys : Four FuseRecord := .all {}
  revokes : Four FuseRecord := .all {}
  /-- DEV_FUSE, DEV_FUSE_VOTE, DEV_UID. -/
  devFuse : Word := 0
  vote : Word := 0
  uid : Dword := 0
  /-- Key-slot hashes as loaded, digest byte 0 lowest; void slots (R97). -/
  hashes : Four (BitVec 256) := .all 0
  void : BitVec 4 := 0
  deriving DecidableEq, Repr

/-! ### Image, flash, security -/

/-- A section of an image (R78). -/
structure Section where
  tag : Word
  version : Half
  flags : Half
  payload : List Byte
  crc : Word
  deriving DecidableEq, Repr

/-- An image as read: its 64-byte header and its sections in order. -/
structure Image where
  region : Region
  header : List Byte
  sections : List Section
  deriving DecidableEq, Repr

/-- A HARN_FLCTL command that is running (R104). -/
inductive FlashJob where
  | copy (target : Region)
  | erase (target : Region)
  | program (target : Region) (block : Nat) (data : List Byte)
  | verify (target : Region)
  | activate (target : Region)
  deriving DecidableEq, Repr

/-- The HARN block, the configuration flash and the active image (R55 to R58, R74 to R110). -/
structure HarnState where
  /-- The configuration flash, bytes that differ from the erased 0xFF. -/
  flash : List Host.Cell := []
  /-- The active image and whether it passed all checks at its last load. -/
  image : Option Image := none
  verified : Bool := false
  /-- The image now being checked at start-up. -/
  candidate : Option Image := none
  /-- Recovery MAINTAIN (R102). -/
  recovery : Bool := false
  /-- Units still to be downloaded, per portal (DL_PEND). -/
  dlPend : BitVec 4 := 0
  /-- HARN_FCMP, HARN_FLCTL, HARN_FLADDR, HARN_FLSTAT, HARN_SIDX, HARN_BUF. -/
  fcmp : Word := 0
  flctl : Word := 0
  fladdr : Word := 0
  flstat : Word := 0
  sidx : Word := 0
  buf : List Word := List.replicate 64 0
  job : Option FlashJob := none
  deriving DecidableEq, Repr

/-- A change-log entry before its CRC (R109). -/
structure LogEntry where
  time : Dword
  tool : Word
  tag : Word
  oldCrc : Word
  newCrc : Word
  seq : Half
  result : Byte
  source : Byte
  deriving DecidableEq, Repr

/-- A password held: who submitted it and when it was accepted (R100, R428). -/
structure HeldPassword where
  src : CmdSource
  at_ : Nat
  deriving DecidableEq, Repr

/-- A password computation in progress (R99): source, bytes, SALT and PW_HASH at its start. -/
structure PwJob where
  src : CmdSource
  bytes : List Byte
  salt : List Byte
  hash : List Byte
  deriving DecidableEq, Repr

/-- A key operation in progress (R98). -/
structure KeyJob where
  revoke : Bool
  slot : Fin 4
  hash : BitVec 256
  deriving DecidableEq, Repr

/-- The SEC block (R97 to R110). -/
structure SecState where
  pwd : Four Word := .all 0
  pwJob : Option PwJob := none
  /-- Passwords held, per channel. -/
  held : Three (Option HeldPassword) := .all none
  /-- SEC_PWSTAT.FAILED and FAIL_RUN; the moment the hold-off ends. -/
  failed : Bool := false
  failRun : Nat := 0
  holdUntil : Option Nat := none
  /-- SEC_SEAL.DROP and SW. -/
  drop : Bool := false
  sealSw : BitVec 4 := 0
  /-- SEC_KEYCTL, SEC_KEYSTAT, SEC_TOOLID, SEC_LOGIDX, SEC_KEYHASH. -/
  keyctl : Word := 0
  keystat : Word := 0
  toolId : Three Word := .all 0
  logIdx : Word := 0
  keyHash : Eight Word := .all 0
  keyJob : Option KeyJob := none
  /-- The change log, newest first, at most 1,024 entries; how many of them are not mirrored; SEC_LOGLOST. -/
  log : List LogEntry := []
  unmirrored : Nat := 0
  nextSeq : Half := 0
  logLost : Nat := 0
  deriving DecidableEq, Repr

/-! ### Host fabric, sequencer, redundancy -/

/-- The sources presented to one pair's fabric at its latest tick (R88, R92): portal signals, kernel signals, receive flags. -/
structure FabricSrc where
  portals : Four (BitVec 128) := .all 0
  kernel : BitVec 256 := 0
  rx : BitVec 64 := 0
  deriving DecidableEq, Repr

/-- The two copies of one pair's fabric (R86 to R93), with their source stage. -/
structure PairFabric where
  copyA : FabricCopy := {}
  copyB : FabricCopy := {}
  src : FabricSrc := {}
  deriving DecidableEq, Repr

/-- The host fabric: both pairs, and the destinations as last driven by the lead (bit d of the word: destination d, 0x000
to 0x87F). -/
structure FabricState where
  pairs : Two PairFabric := .all {}
  dest : BitVec 2176 := 0
  deriving DecidableEq, Repr

/-- An open door cycle (R441 to R444). -/
structure DoorCycle where
  number : Word
  start : Dword
  flags : Byte
  /-- ns spent in UNLOCKING, OPENING, OPEN, CLOSING and LOCKING. -/
  phases : List Nat
  /-- Moments of the start and of the latest kernel cycle folded in, on the model's clock. -/
  from_ : Nat
  lastAt : Nat
  vfldMin : Nat
  vbusMin : Nat
  cause : Half
  obst : Nat
  revs : Nat
  swFaults : Byte
  supply : Byte
  mark : Byte
  marks : Nat
  detTime : Dword
  detPos : Three Int
  cmpHits : Nat
  lagMax : Nat
  deriving DecidableEq, Repr

/-- The kernel's state for one portal (R111 to R143). -/
structure SeqPortal where
  cls : Guarded := .notInUse
  /-- Customer state index and whether one is current (CUST, CUST_VALID). -/
  cust : Nat := 0
  custValid : Bool := false
  released : Bool := false
  openPermit : Bool := false
  soDemand : Bool := false
  /-- SOA and SOB both on, as agreed (R423). -/
  soOn : Bool := false
  hfLeaf : Bool := false
  hfStep : Bool := false
  returnReady : Bool := false
  tmo : Bool := false
  /-- PCODE as last reported. -/
  pcode : Byte := 0x0F
  /-- Moment of entry to the current state (SEQ_PTIME). -/
  enteredAt : Nat := 0
  /-- Moments since which each role has been split, and since which CLS and LCK have been made (R113, R138). -/
  splitAt : Four (Option Nat) := .all none
  disc : BitVec 4 := 0
  agreeAt : Option Nat := none
  agreed500 : Bool := false
  /-- Switch demands, sequencer outputs, the standing MOTION and MSEQ (R124, R304). -/
  sw : Byte := 0
  seqOut : Byte := 0
  motion : Three Byte := .all 0
  mseq : Byte := 0
  /-- Kernel signals k = 29 and 30: blocked, and entered, in the last cycle. -/
  blocked : Bool := false
  entered : Bool := false
  /-- The next COMMAND carries TAKEOVER; an ORDER to send; read-back done since HELLO. -/
  takeover : Bool := false
  order : Byte := 0
  readBack : Bool := false
  /-- The switch demands are the stored fail-safe states until a state sets them (R137). -/
  adoptDue : Bool := true
  /-- The release guard fell in OBSTRUCTED or REOPENING: CLOSING follows once the stop or reversal is complete (R119). -/
  closePend : Bool := false
  /-- COMMAND sequence of the link (R282, R304). -/
  cseq : Half := 0
  /-- Next keeper service: number, key, cycles until it is built (R317). -/
  keeperServe : Half := 1
  keeperKey : Word := 0
  keeperRun : Bool := false
  /-- The door cycle that is open, and the next cycle number. -/
  cycle : Option DoorCycle := none
  nextCycle : Word := 0
  deriving DecidableEq, Repr

/-- A portal command on its way to the kernel or waiting for the portal's answer (R143, R230, R429). -/
structure PortalCmd where
  src : CmdSource
  seq : Byte
  portal : PortalId
  cmd : BitVec 4
  held : Bool
  /-- It came as a message and is answered as one. -/
  msg : Bool
  deriving DecidableEq, Repr

/-- What became of a portal command that came in on a Nelzil channel, still to be answered (R430). -/
structure PcmdResult where
  cmd : PortalCmd
  why : Nat
  deriving DecidableEq, Repr

/-- What SEQ_STAT and SEQ_PSTATE show, held while a burst that would have changed it is discarded (R271). -/
structure SeqShown where
  portals : Four SeqPortal
  zsDisc : Bool
  zs1 : Bool
  zs2 : Bool
  rel : BitVec 4
  deriving DecidableEq, Repr

/-- The SEQ block and the kernel's state. -/
structure SeqState where
  /-- SEQ_STAT.ZS_DISC_EV; ZS1, ZS2, REL as agreed; ZS_DISC and the moment since which ZS1 and ZS2 differ (R116). -/
  zsDiscEv : Bool := false
  zsDisc : Bool := false
  zs1 : Bool := false
  zs2 : Bool := false
  rel : BitVec 4 := 0
  zsDiffAt : Option Nat := none
  /-- SEQ_CYCLE, SEQ_LOAD, SEQ_HREQ, SEQ_PCMDSTAT, SEQ_BLOCK, SEQ_EVT. -/
  cycle : Word := 0
  load : Word := 0
  hreq : Word := 0
  pcmdStat : Word := 0
  block : Word := 0
  evt : Word := 0
  portals : Four SeqPortal := .all {}
  /-- What the host-visible registers show until the next committed burst, where the last one was discarded. -/
  shown : Option SeqShown := none
  /-- The agreed input words of the latest cycle (R275). -/
  agreed : List Word := List.replicate 128 0
  /-- The kernel signals of R128 as of the latest completed cycle. -/
  signals : BitVec 256 := 0
  /-- A lock-out reset or CLEAR_FAULT sent and not yet answered. -/
  waiting : Four (Option PortalCmd) := .all none
  /-- Execute word accepted in this cycle, for word 96 (R437), and the portal command for word 98. -/
  word96 : Word := 0
  word98 : Word := 0
  /-- Kernel cycles until the next KEEPER frames (R317). -/
  keeperIn : Nat := 10
  /-- Source and SEQ of the portal command that word 98 carries. -/
  pcmd : Option PortalCmd := none
  /-- Portal commands that wait behind it, one for each kernel cycle. -/
  pcmdQueue : List PortalCmd := []
  /-- Portal commands to answer on their channel, and stitch records whose summary is to be sent (R430, R433), in order. -/
  results : List PcmdResult := []
  summaries : List (List Byte) := []
  deriving DecidableEq, Repr

/-- Pair states (R279). -/
inductive PairState where
  | stopped
  | lead
  | shadow
  | leadSuspect
  | suspect
  | failed
  | test
  | candidate
  | retired
  deriving DecidableEq, Repr

/-- One core pair (R267 to R281). -/
structure PairInfo where
  state : PairState := .stopped
  fails : Nat := 0
  /-- Passed its most recent awl and has not failed or been marked suspect since (R41). -/
  admitted : Bool := false
  /-- The awl that covers its next maintenance record is due (R291). -/
  failedSince : Bool := false
  /-- Passed an awl after a failure in this power cycle (R291). -/
  passedAfter : Bool := false
  /-- State before a pair-scope test (R293). -/
  before : PairState := .stopped
  deriving DecidableEq, Repr

/-- One core's private SRAM (R267): its copy of the active image, and the kernel's data as the last cycle left it. -/
structure CoreState where
  image : Option Image := none
  data : List Word := []
  deriving DecidableEq, Repr

/-- The two cores of a pair, with the two-stage delay registers: the last two words that both cores took in, which the trailing core reads two core
cycles later, and the last two output words of the leading core, which wait to be compared; the newest first (R267). -/
structure PairCores where
  lead : CoreState := {}
  trail : CoreState := {}
  inDelay : Two Word := .all 0
  outDelay : Two (BitVec 112) := .all 0
  deriving DecidableEq, Repr

/-- A pair-scope SELFTEST in progress (R292): its pair, step 1 to 4, moment of its start and of the awl's end, and clean
signatures as CANDIDATE. -/
structure Graft where
  pair : PairId
  step : Nat
  from_ : Nat
  awlAt : Nat
  clean : Nat
  src : CmdSource
  deriving DecidableEq, Repr

/-- A planned or commanded swap that is pending (R287, R288). -/
structure PlannedSwap where
  latent : Bool
  since : Nat
  /-- The 1 s deadline has passed. -/
  due : Bool
  deriving DecidableEq, Repr

/-- The LOCK block (R267 to R293). -/
structure LockState where
  pairs : Two PairInfo := .all {}
  cores : Two PairCores := .all {}
  /-- The cross-pair signature that the lead formed at the end of the latest cycle (R283), and the moment of the latest cycle boundary. -/
  sig : Word := 0
  boundaryAt : Nat := 0
  /-- The pair that led before DORMANT (R281). -/
  ledBefore : Option PairId := none
  /-- The pair that holds, or held last, the lead: its kernel data and fabric state are the part's (R282). -/
  held : Option PairId := none
  actionReq : Bool := false
  xdisRun : Nat := 0
  evt : Word := 0
  /-- LOCK_SWAP, LOCK_SWAPT, LOCK_XSIG, LOCK_FPRINT, LOCK_AGREE. -/
  swap : Word := 0
  swapT : Dword := 0
  xsig : Word := 0
  fprint : Word := 0
  agree : Word := 0
  /-- LOCK_INFAULT0 to 3, and each word's disagreement run. -/
  infault : BitVec 128 := 0
  runs : List Nat := List.replicate 128 0
  awl : Word := 0
  awlLane : Word := 0
  misx : Word := 0
  misw : Word := 0
  plan : Option PlannedSwap := none
  graft : Option Graft := none
  /-- LOCK_GRAFT.WHY and MS of the last run. -/
  graftWhy : Nat := 0
  graftMs : Nat := 0
  ctlStat : Word := 0
  /-- Why the lead failed in this kernel cycle, awaiting promotion (LOCK_SWAP.CAUSE), and when its last burst went. -/
  promoteWhy : Nat := 0
  lastBurst : Nat := 0
  /-- A pair was declared failed in the present kernel cycle (R283, R284). -/
  failedNow : BitVec 2 := 0
  /-- The next released burst completes LOCK_SWAP.INTR_US. -/
  intrDue : Bool := false
  deriving DecidableEq, Repr

/-! ### Host side of the links -/

/-- The phases of a link (GL_STAT.PHASE). -/
inductive LinkPhase where
  | down
  | training
  | hello
  | download
  | readBack
  | running
  deriving DecidableEq, Repr

/-- What a CONFIG request outstanding at the host side is for (R300: at most one per link). -/
inductive ConfigUse where
  | spiRead
  | spiWrite
  | download
  | unitCrc
  | readbackAck
  | test
  | stream
  deriving DecidableEq, Repr

/-- The host side of one girth link (R297 to R315, R20, R37). -/
structure HostLink where
  fin : LinkEnd := {}
  up : Bool := false
  phase : LinkPhase := .down
  /-- GL_STAT.WHY, VSEL, PEER_STEP. -/
  why : Nat := 0
  vsel : Byte := 0
  peerStep : Byte := 0
  /-- GL_EVT flags of the mirror, GL_FRM counts, GL_TRAIN. -/
  evt : Word := 0
  linkErr : Nat := 0
  laneErr : Nat := 0
  try0 : Nat := 0
  try1 : Nat := 0
  trainFrom : Nat := 0
  trainUs : Nat := 0
  /-- GL_DLY. -/
  dly : Two Half := .all 0
  /-- Low-rate mode as the host knows it. -/
  lowRate : Bool := false
  /-- The latest STATE frame held, with its SEQ; an input-change EVENT renews its word 4. -/
  state : Option (Byte × StateFrame) := none
  /-- Moment of the latest STATE frame. -/
  stateAt : Nat := 0
  /-- The CONFIG request outstanding and those that wait. -/
  pending : Option (ConfigUse × ConfigFrame) := none
  queue : List (ConfigUse × ConfigFrame) := []
  nextTag : Half := 0
  /-- The portal's flags in its HELLO: LIVE, LIMP, LOCKOUT, FAULT. -/
  helloFlags : Byte := 0
  /-- NONCE from the portal's HELLO. -/
  nonce : Word := 0
  /-- What came with the latest STATE frame (R37). -/
  seen : PortalNote := {}
  /-- The stream set that the portal die has acknowledged, and the one last sent to it since HELLO (R19, R244). -/
  stream : Word := 0
  streamAsked : Option Word := none
  /-- Training attempts of the present training, per lane. -/
  attempts : Two Nat := .all 0
  /-- Unit CRCs read back so far, and the SEQ of the first STATE frame after HELLO (R324). -/
  ucrc : List Word := []
  rbSeq : Option Byte := none
  /-- The portal's units are those of the active image. -/
  unitsOk : Bool := false
  deriving DecidableEq, Repr

/-! ### Acquisition -/

/-- A sample as it is kept: the device time of its frame, update or tick, and its bytes. -/
structure AcqSample where
  time : Nat
  bytes : List Byte
  deriving DecidableEq, Repr

/-- A trigger that has reached its group and is not committed yet (R254, R255): the start of the sample interval in which its stamp
falls, and the sources that joined with their stamps (0 to 3 conditions, 4 host force, 5 auto). -/
structure PendingTrig where
  key : Nat
  stamps : List (Nat × Nat)
  late : Bool
  short : Bool
  deriving DecidableEq, Repr

/-- A trigger committed to the segment now filling (R255). -/
structure Committed where
  ttrig : Nat
  mask : Nat
  late : Bool
  short : Bool
  /-- Index of the trigger sample counted from the first kept sample. -/
  index : Nat
  deriving DecidableEq, Repr

/-- A closed segment in its slot (R258): header fields, data and results. -/
structure Segment where
  slot : Nat
  /-- Where it lies in the store: byte address and size of its slot. -/
  at_ : Nat
  size : Nat
  ttrig : Nat
  tpos : Nat
  /-- Index of the trigger sample. -/
  index : Nat
  mask : Nat
  seq : Half
  /-- FLAGS of the header; GSRC; CHMASK. -/
  flags : Byte
  gsrc : Nat
  chmask : Half
  meas : Eight Word
  samples : List AcqSample
  /-- Not yet copied by the archive (R250). -/
  archDue : Bool
  deriving DecidableEq, Repr

/-- One condition of a group (R252, R253): registers, armed, and the previous sample value. -/
structure GroupCond where
  cfg : Word := 0
  a : Word := 0
  b : Word := 0
  armed : Bool := false
  prev : Option (Nat × Int) := none
  deriving DecidableEq, Repr

/-- A trace segment that a stitch record may name (R444): its TTRIG and its identity. -/
structure TraceRef where
  ttrig : Nat
  ident : Word
  deriving DecidableEq, Repr

/-- One capture group (R248 to R263). -/
structure Group where
  /-- ACQ_GCFG (EN, PORTAL, SRC, MODE, EARLY, ARCH, RECD, CHMASK), GMEM, GLEN, GSEG, GAUTO, GMWIN. -/
  cfg : Word := 0x00200000
  mem : Word := 0
  len : Word := 0x03FF0000
  seg : Word := 0
  auto : Word := 0
  mwin : Word := 0xFFFFFFFF
  conds : Four GroupCond := .all {}
  meas : Eight Word := .all 0
  /-- GSTAT: ARMED, FULL, PAUSED, W1C flags, CFG_WHY, SLOT. -/
  armed : Bool := false
  full : Bool := false
  paused : Bool := false
  flags : Word := 0
  why : Nat := 0
  slot : Nat := 0
  /-- GCNT and GNEW. -/
  segs : Nat := 0
  missed : Nat := 0
  overlap : Nat := 0
  newest : Word := 0
  seq : Half := 0
  /-- Samples kept in the segment now filling, oldest first, and how many older ones the ring has dropped since arming. -/
  kept : List AcqSample := []
  dropped : Nat := 0
  trig : Option PendingTrig := none
  commit : Option Committed := none
  /-- Closed at a gap: the group re-arms when SAMPLE frames resume (R260). -/
  gapWait : Bool := false
  /-- The digital vector last received, and the instant of the last sample received since enable. -/
  lastWord : Dword := 0
  lastAt : Option Nat := none
  closed : List Segment := []
  /-- Closed segments whose slot has been overwritten since: what a stitch record names of them (R444). -/
  past : List TraceRef := []
  /-- Slots whose measurement is not complete. -/
  measuring : List Nat := []
  deriving DecidableEq, Repr

/-- The ACQ block (R246 to R265). -/
structure AcqState where
  stat : Word := 0
  ecc : Word := 0
  ing : Word := 0
  rdsel : Word := 0
  rdpage : Word := 0
  rdEcc : Bool := false
  /-- The selection holds its segment (R250, R265). -/
  holdApplies : Bool := false
  groups : Sixteen Group := .all {}
  /-- Store words (byte address of the word) with an uncorrectable error. -/
  bad : List Nat := []
  deriving DecidableEq, Repr

/-! ### CAN -/

/-- One message object with its side record (R380 to R382). -/
structure CanObject where
  id : Word := 0
  mask : Word := 0
  cfg : Word := 0
  stat : Word := 0
  data : List Byte := []
  time : Dword := 0
  frameId : Word := 0
  /-- Moment of TXREQ (lifetime), consecutive bit errors after arbitration (R393), abort when the attempt fails (R389). -/
  reqAt : Nat := 0
  bitErrs : Nat := 0
  abortAfter : Bool := false
  /-- FIFO head: the member whose turn is next, and the members that hold an untaken frame, oldest first (R385). -/
  fifoNext : Nat := 0
  fifoHeld : List Nat := []
  deriving DecidableEq, Repr

/-- Controller states (R375). -/
inductive CanCtl where
  | off
  | integrating
  | active
  | passive
  | busOff
  | recovering
  deriving DecidableEq, Repr

/-- One CAN controller (R370 to R397). -/
structure CanState where
  cfg : Word := 0
  nbt : Word := 0
  dbt : Word := 0
  tdc : Word := 0
  ctl : CanCtl := .off
  tec : Nat := 0
  rec_ : Nat := 0
  alone : Bool := false
  arPend : Bool := false
  evt : Word := 0
  cnt : Word := 0
  cmdstat : Word := 0
  abort : Word := 0
  errlog : Word := 0
  xstat : Word := 0
  xb : List Word := List.replicate 20 0
  /-- Objects that have ever been set up, by number in rising order; every other object is all zero. -/
  objects : List (Nat × CanObject) := []
  /-- The object whose frame is on the bus, with the frame. -/
  onBus : Option (Nat × CanFrame) := none
  /-- Consecutive ACK errors (R395); consecutive FD frames broken in the control field (R421). -/
  ackRun : Nat := 0
  fdRun : Nat := 0
  /-- While ALONE: moment of the last attempt. -/
  probeAt : Nat := 0
  /-- Device time of the start of the frame on the bus; the controller goes OFF when it ends (R376). -/
  sof : Dword := 0
  offDue : Bool := false
  /-- Objects whose memory holds an uncorrectable error (R397). -/
  bad : List Nat := []
  deriving DecidableEq, Repr

/-! ### Host port, interrupts, time -/

/-- A stored response (R406): status, SEQ, FLAGS, FAIL_IDX, data, CMD, and the CRC of its request. -/
structure SpiResponse where
  status : Byte
  seq : Byte
  flags : Byte
  failIdx : Byte
  data : List Word
  cmd : Byte
  reqCrc : Word
  deriving DecidableEq, Repr

/-- A request whose portal words are still outstanding (R20, R405). -/
structure SpiPending where
  req : SpiRequest
  /-- Index of the word that waits for its CONFIG answer. -/
  index : Nat
  /-- Words done so far, in order. -/
  data : List Word
  status : Byte
  failIdx : Option Nat
  undecoded : Bool
  done : Nat
  deriving DecidableEq, Repr

/-- The host port (R399 to R407). -/
structure HostPort where
  hrdy : Bool := false
  stored : Option SpiResponse := none
  /-- The answer last put on HMISO. -/
  answer : Option SpiResponse := none
  pending : Option SpiPending := none
  /-- NELZ_HPCNT. -/
  crcErr : Nat := 0
  aborts : Nat := 0
  deriving DecidableEq, Repr

/-- Device time and the TIME block (R302, R411 to R413, R432). -/
structure TimeState where
  /-- Device time, ns (R9). -/
  now : Dword := 0
  /-- TIME_HI as latched by the last read of TIME_LO. -/
  hiLatch : Word := 0
  cfg : Word := 0x3E8
  epoch : Half := 0
  synced : Bool := false
  src : BitVec 2 := 0
  ofs : Int := 0
  cap : Dword := 0
  setLo : Word := 0
  setHi : Word := 0
  cmdstat : Word := 0
  /-- A step that waits for a quiet point (R413): its source; the error to remove is what is left to slew. -/
  stepPend : Option (BitVec 2) := none
  /-- Error still to be slewed away, ns, the rate in ns per s, and the part of a nanosecond already slewed, in 10^-9 ns. -/
  slewLeft : Int := 0
  slewRate : Int := 0
  slewFrac : Int := 0
  /-- The TSYNC output is high until this moment on the model's clock. -/
  tsyncUntil : Nat := 0
  /-- The SYNC frame that waits for its FOLLOW_UP: channel, node, pair sequence, own stamp. -/
  syncWait : Option (CanId × BitVec 6 × Byte × Dword) := none
  goodPairs : Nat := 0
  lastPair : Nat := 0
  pairSeq : Two Byte := .all 0
  deriving DecidableEq, Repr

/-! ### Nelzil -/

/-- A peer (R419): its last HELLO and the moment of its last frame. -/
structure Peer where
  node : BitVec 6
  vmax : Byte
  vmin : Byte
  modes : Byte
  product : Byte
  seenAt : Nat
  deriving DecidableEq, Repr

/-- One part of a password that has arrived (R428): its number, or 255 for the one-message form, and its bytes. -/
structure PwPart where
  num : Nat
  bytes : List Byte
  deriving DecidableEq, Repr

/-- A message that waits for its send object (R416): object offset 0 to 7, payload. -/
structure OutMsg where
  slot : Fin 8
  data : List Byte
  deriving DecidableEq, Repr

/-- The password parts collected from one node (R428): their sender, LEN, the moment of the first, and the parts. -/
structure PwParts where
  node : BitVec 6
  len : Nat
  at_ : Nat
  parts : List PwPart
  deriving DecidableEq, Repr

/-- One Nelzil channel (R417 to R422). -/
structure NelzChannel where
  peers : List Peer := []
  /-- Settled version V; 0 with no peer. -/
  v : Nat := 0
  settling : Bool := false
  changedAt : Nat := 0
  fdCap : Bool := false
  clash : Bool := false
  hseq : Byte := 0
  lastHello : Option Nat := none
  /-- A HELLO is due (R418). -/
  helloDue : Bool := false
  /-- Passwords of which parts are still missing, the oldest first (R428). -/
  pwParts : List PwParts := []
  alive : Byte := 0
  /-- Moment of the latest LINES. -/
  linesAt : Option Nat := none
  /-- The pair sequence of a SYNC whose FOLLOW_UP is still to be sent (R432). -/
  followUp : Option Byte := none
  /-- Messages that wait until their send object is free. -/
  waiting : List OutMsg := []
  deriving DecidableEq, Repr

/-- A receive flag of the receive map (R439): values per channel, freshness moments. -/
structure RxFlag where
  value : Three Bool := .all false
  fresh : Three Bool := .all false
  at_ : Three Nat := .all 0
  deriving DecidableEq, Repr

/-- A mailbox message (R440). -/
structure MbxMessage where
  msg : BitVec 5
  data : List Byte
  deriving DecidableEq, Repr

/-- An answer to a command (R430): who sent it, CLASS × 8 + TYPE of the command, its SEQ, REASON (0: accepted or done), PORTAL. -/
structure Answer where
  src : CmdSource
  msg : Nat
  seq : Byte
  reason : Nat
  portal : Nat
  deriving DecidableEq, Repr

/-- The NELZ block and the message engine (R414 to R440). -/
structure NelzState where
  chans : Three NelzChannel := .all {}
  peerSel : Word := 0
  evt : Word := 0
  flags : List RxFlag := List.replicate 64 {}
  mbxTx : List Word := List.replicate 16 0
  mbxRx : List MbxMessage := []
  /-- The state command and the password to answer when they complete: source, SEQ. -/
  stateAnswer : Option (CmdSource × Byte) := none
  pwAnswer : Option CmdSource := none
  /-- Answers to commands that are to be sent, in order (R430). -/
  answers : List Answer := []
  deriving DecidableEq, Repr

/-! ### Archive -/

/-- A staged record or change-log entry: its number in its region, its bytes, and whether it is durable (R447, R453). A stitch record is held until the
tally island has passed its SEQ: before that its PREV_CRC and CRC are not formed (R482). -/
structure Staged where
  index : Nat
  bytes : List Byte
  durable : Bool
  held : Bool := false
  deriving DecidableEq, Repr

/-- What the eMMC interface is doing, or will do next (R450 to R455): initialisation, a journal write, a stripe write, a superblock
write (each for records or for the change log), the copy of a trace segment, the end of a commanded flush. -/
inductive EmmcOp where
  | idle
  | init
  | journal (log : Bool)
  | stripe (log : Bool)
  | superblock
  | trace
  | flushed
  deriving DecidableEq, Repr

/-- A superblock copy (R452). -/
structure Superblock where
  gen : Nat := 0
  uid : Dword := 0
  recordMib : Nat := 0
  nextIndex : Nat := 0
  /-- Durable records: those of complete stripes. -/
  durable : Nat := 0
  cycles : Four Word := .all 0
  /-- Entries of the log region, those in complete stripes, and the next SEQ. -/
  logHead : Nat := 0
  logDurable : Nat := 0
  logSeq : Half := 0
  /-- Next stripe of the trace region, and the next trace index. -/
  traceHead : Nat := 0
  traceNext : Nat := 0
  scrubPos : Nat := 0
  scrubPasses : Nat := 0
  deriving DecidableEq, Repr

/-- A tail-journal slot (R453): stripe number, count, generation, data. -/
structure Journal where
  stripe : Nat
  count : Nat
  gen : Nat
  data : List Byte
  deriving DecidableEq, Repr

/-- A trace segment on the medium (R455): its header's items and where it stands, in stripes of the trace region. -/
structure TraceEntry where
  index : Nat
  stripe : Nat
  stripes : Nat
  ident : Word
  bytes : Nat
  ttrig : Nat
  deriving DecidableEq, Repr

/-- The ARCH block, staging and the eMMC medium (R441 to R461). The medium is kept through every reset. -/
structure ArchState where
  /-- Contents of the medium, superblock copies and journals among them: (byte address, byte) where it differs from 0x00. -/
  medium : List Host.Cell := []
  /-- Sectors that the eMMC reports as uncorrectable reads (R456), and the headers of the traces held. -/
  unread : List Nat := []
  traces : List TraceEntry := []
  /-- ARCH_STAT.MEDIA 0 probing, 1 ready, 2 absent, 3 unformatted, 4 failed; FOREIGN, WRAPPED, MODE, WIDTH. -/
  media : Nat := 0
  foreign : Bool := false
  wrapped : Bool := false
  mode : BitVec 4 := 0
  width : BitVec 4 := 0
  evt : Word := 0
  mediaReg : Word := 0
  cap : Nat := 0
  lost : Nat := 0
  ecc : Word := 0
  cmdstat : Word := 0
  rdidx : Word := 0
  rdpage : Word := 0
  rdstat : Word := 0
  found : Word := 0
  rdwin : List Byte := []
  /-- Staging: records oldest first, at most 2,048; the change-log entries of the open log stripe. -/
  recs : List Staged := []
  logs : List Staged := []
  /-- Next record index and next number in the log region. -/
  next : Nat := 0
  logNext : Nat := 0
  /-- Index of the first record whose PREV_CRC and CRC are not formed yet, and the CRC of the record before it (R443, R482). -/
  formed : Nat := 0
  prevCrc : Word := 0
  /-- Numbers have been given from a superblock (R448). -/
  numbered : Bool := false
  /-- The superblock in force. -/
  sb : Superblock := {}
  op : EmmcOp := .idle
  /-- Operations that wait for the one under way, in order. -/
  opQueue : List EmmcOp := []
  /-- A record stripe, a log stripe, has been written that the superblock does not count yet (R453). -/
  ahead : Two Bool := .all false
  /-- Commands failed in a row, and whether initialisation has been repeated for it (R451). -/
  fails : Nat := 0
  retried : Bool := false
  /-- The place that the scrub pass has reached, counted over the slots of the three regions, and whether a pass is under way. -/
  scrubDone : Nat := 0
  scrubbing : Bool := false
  /-- Trace segment being copied: group, slot. -/
  traceJob : Option (Fin 16 × Nat) := none
  deriving DecidableEq, Repr

/-! ### Tally island -/

/-- Island states (R471). -/
inductive TallyMode where
  | start
  | counting
  | unsealed
  | sealing
  | noImage
  | halted
  deriving DecidableEq, Repr

/-- The track now running in a window (R479). `first` and `last`: the plane occluded first and the plane cleared last, 0 outer, 1 inner,
2 both in the same scan. -/
structure Track where
  first : Nat
  last : Nat
  together : Bool
  outerNow : Bool
  innerNow : Bool
  deriving DecidableEq, Repr

/-- What a counting window has counted (R479, R480). -/
structure WinCounts where
  inN : Nat := 0
  outN : Nat := 0
  unres : Nat := 0
  frames : Nat := 0
  missed : Nat := 0
  degraded : Bool := false
  legacy : Bool := false
  track : Option Track := none
  deriving DecidableEq, Repr

/-- What a window counts (R478 to R480): a frame with its ETIME, the frames missed before it, what it shows of the outer and of the inner plane,
whether it is of version 1 and whether STATUS.FAULT stands in it; a port that stops being live, with its ETIME; both planes clear for 100 ms. -/
inductive WinEvent where
  | frame (time missed : Nat) (outer inner : Option Bool) (legacy fault : Bool)
  | down (time : Nat)
  | clear
  deriving DecidableEq, Repr

/-- A counting window (R478 to R480) with the seal and key that it opened under. `recent` holds its latest events in order and `base` what it had counted
before them, since an end mark may reach the island after a frame that it shuts out. -/
structure Window where
  cycle : Word
  start : Dword
  end_ : Option Dword
  seq : Word
  counts : WinCounts
  base : WinCounts
  recent : List WinEvent
  incomplete : Bool
  hostReset : Bool
  timeStep : Bool
  sealEvt : Nat
  key : BitVec 256
  pub : BitVec 512
  deriving DecidableEq, Repr

/-- A seal-block copy (R468). -/
structure SealBlock where
  gen : Nat
  isSealed : Bool
  evt : Nat
  imgVer : Word
  imgCrc : Word
  wrapped : List Byte
  pub : BitVec 512
  deriving DecidableEq, Repr

/-- The island's fuse array (R467): the key-wrapping key, the hash of the tally signing key, the counter bits burnt; and the cells that do not read as they
were programmed. -/
structure IslandFuses where
  kek : BitVec 256 := 0
  keyHash : BitVec 256 := 0
  burnt : Nat := 0
  weak : List IslandCell := []
  deriving DecidableEq, Repr

/-- Whether a curtain port is live, and the moment from which that holds (R480). -/
structure PortLive where
  live : Bool := false
  since : Nat := 0
  deriving DecidableEq, Repr

/-- A curtain frame of which parts are still to come (R465). -/
structure PartFrame where
  total : Nat
  held : Nat
  bytes : List Byte
  deriving DecidableEq, Repr

/-- The tally island (R462 to R485). Its audit trail and image stand in the configuration flash. -/
structure TallyState where
  mode : TallyMode := .start
  why : Nat := 0
  anomaly : Bool := false
  flashErr : Bool := false
  nonCode : Bool := false
  selfCrc : Bool := false
  fuseFail : Bool := false
  /-- The image in the island's SRAM: the bytes up to LENGTH. -/
  image : List Byte := []
  imgVer : Word := 0
  imgCrc : Word := 0
  imgName : Four Word := .all 0
  fuses : IslandFuses := {}
  /-- What the island core has read from its fuses since its POR, by vote (R467): bits burnt in the seal event counter, the hash of the tally signing key, the
  key-wrapping key; and whether it has read them. -/
  used : Nat := 0
  keyHash : BitVec 256 := 0
  kek : BitVec 256 := 0
  loaded : Bool := false
  /-- TALLY_SEAL_N as last sampled reads low; its latest falling edge has been answered (R473). -/
  sealSw : Bool := false
  sealDone : Bool := false
  /-- Seal event number, private and public key of the seal in force; 0 and none without one. -/
  inForce : Nat := 0
  priv : Option (BitVec 256) := none
  pub : BitVec 512 := 0
  nextSeq : Word := 1
  pseq : Four Word := .all 0
  bad : Nat := 0
  /-- Unresolved tracks of the windows that have closed since POR. -/
  unresolved : Nat := 0
  carIdx : Nat := 0
  /-- The checks at POR are complete and wait for the part to leave BOOT, since they end in flash writes (R468). -/
  checkDue : Bool := false
  /-- Curtain events and cycle marks on their way to the island (R465, R466). -/
  inbox : List (PortalId × EventFrame) := []
  marks : List CycleMark := []
  /-- The open window of each portal; windows whose T_END is fixed and which close 1 ms later; windows closed and not yet signed. -/
  windows : Four (Option Window) := .all none
  ending : Four (List Window) := .all []
  closing : Four (List Window) := .all []
  /-- Records in the window, by SEQ mod 16: SEQ and 128 bytes. -/
  records : List (Word × List Byte) := []
  /-- Curtain frames being reassembled, per portal and port. -/
  parts : Four (Two (Option PartFrame)) := .all (.all none)
  /-- Liveness and SEQ of the last frame per portal and port. -/
  ports : Four (Two PortLive) := .all (.all {})
  lastSeq : Four (Two (Option Byte)) := .all (.all none)
  /-- The latest events of each portal, oldest first, for a start mark that reaches the island after them; and T_START and T_END of the latest windows that
  have closed (R478). -/
  early : Four (List WinEvent) := .all []
  spans : Four (List (Nat × Nat)) := .all []
  deriving DecidableEq, Repr

end Sys2Proof.Machine
end

