-- ==== Sys2Proof/Machine/State.lean ====
section
/-! DEFINITION. The whole state of the device as plain data, the state after reset, and the named stops. The host die and
the four portal dies are one block (R1, R3); commands that wait stand in a first-in first-out queue. -/

namespace Sys2Proof.Machine

/-- The device: the model's own clock, the host die, the four portal dies, the model's counter of free values, and the queue
of commands. -/
structure State where
  /-- Nanoseconds since the model began; the base of every age and time-out of the model. It is the model's own and is
  not reset by RESET_N. -/
  clock : Nat := 0
  psm : PsmState := {}
  fuse : FuseState := {}
  harn : HarnState := {}
  sec : SecState := {}
  fabric : FabricState := {}
  seq : SeqState := {}
  lock : LockState := {}
  links : Four HostLink := .all {}
  acq : AcqState := {}
  cans : Two CanState := .all {}
  port : HostPort := {}
  /-- IRQ_STAT and IRQ_EN (R409, R410). -/
  irqStat : Word := 0
  irqEn : Word := 1
  time : TimeState := {}
  nelz : NelzState := {}
  arch : ArchState := {}
  tally : TallyState := {}
  portals : Four PortalState := .all {}
  /-- The next free value the model draws (the model's own field, not the manual's). -/
  freeCtr : Nat := 0
  /-- Commands that wait, first in, first out. -/
  pending : List Instr := []
  deriving DecidableEq, Repr

/-- Why the block stops with a fault. No command of this device stops it: every error of the manual is reported in a
register, an event or a state, and the machine goes on. -/
inductive Fault where
  /-- Raised by no command of the model; the type is kept inhabited so that claims can name it. Safe. -/
  | stuck
  deriving DecidableEq, Repr

/-- Why the model has no meaning for a command. -/
inductive Refusal where
  /-- Raised by `exec` alone, for a command whose meaning is not written. Safe: the run stops. -/
  | notModelled (mnemonic : String)
  deriving DecidableEq, Repr

/-- The device with its host-die POR held (R52): every register at its reset value, no command waiting. -/
def State.reset : State := {}

end Sys2Proof.Machine
end

