-- ==== Sys2Proof/Machine/Units.lean ====
section
/-! DEFINITION. The units of an image as a portal die or the host die reads them: section tags (R80), axis and profile
records (R152 to R155) and STRC (R83). -/

namespace Sys2Proof.Machine

/-! ### Section tags: four ASCII characters, the first in the lowest byte (R78, R80) -/

/-- "IDNT". -/
def tagIDNT : Word := 0x544E4449

/-- "STRC". -/
def tagSTRC : Word := 0x43525453

/-- "HARN". -/
def tagHARN : Word := 0x4E524148

/-- "SEQT". -/
def tagSEQT : Word := 0x54514553

/-- "PROF". -/
def tagPROF : Word := 0x464F5250

/-- "ENVL". -/
def tagENVL : Word := 0x4C564E45

/-- "IOMP". -/
def tagIOMP : Word := 0x504D4F49

/-- "CANO". -/
def tagCANO : Word := 0x4F4E4143

/-- "NELZ". -/
def tagNELZ : Word := 0x5A4C454E

/-- "RECD". -/
def tagRECD : Word := 0x44434552

/-- "SIGN". -/
def tagSIGN : Word := 0x4E474953

/-! ### Units held by a portal die -/

/-- The unit of a section and KIND among the units held. -/
def unitOf (us : List UnitData) (tag : Word) (kind : Nat) : Option UnitData :=
  us.find? fun u => u.tag == tag && u.kind.toNat == kind

/-- The bytes of a unit; empty where none is held. -/
def unitBytes (us : List UnitData) (tag : Word) (kind : Nat) : List Byte :=
  match unitOf us tag kind with
  | some u => u.bytes
  | none => []

/-- The section version under which a unit is read; 0 where none is held. -/
def unitVer (us : List UnitData) (tag : Word) (kind : Nat) : Nat :=
  match unitOf us tag kind with
  | some u => u.version.toNat
  | none => 0

/-- Whether a unit is held. -/
def holds (us : List UnitData) (tag : Word) (kind : Nat) : Bool := (unitOf us tag kind).isSome

/-! ### STRC (R83) -/

/-- AXIS_KIND of axis a of portal p. -/
def strcAxisKind (b : List Byte) (p : PortalId) (a : AxisId) : Nat := rd8 b (4 + 3 * p.val + a.val)

/-- FB_KIND of axis a of portal p. -/
def strcFbKind (b : List Byte) (p : PortalId) (a : AxisId) : Nat := rd8 b (16 + 3 * p.val + a.val)

/-- Portals in use. -/
def strcInUse (b : List Byte) : BitVec 4 := BitVec.ofNat 4 (rd8 b 0)

/-- HOLD_WIN of portal p, µs. -/
def strcHoldWin (b : List Byte) (p : PortalId) : Nat := rd16 b (32 + 2 * p.val)

/-! ### Axis and profile records (R153 to R155) -/

/-- One axis record as its section version reads it. -/
structure AxisCfg where
  kind : Nat
  poles : Nat
  micro : Nat
  dirInv : Bool
  hallAlign : Bool
  pwmKhz : Nat
  gain : Nat
  dead : Nat
  r : Nat
  l : Nat
  ke : Nat
  iFull : Nat
  holdFrac : Nat
  holdDelay : Nat
  shunt : Nat
  ioc : Nat
  scale : Nat
  fbRatio : Nat
  dstop : Nat
  lagw : Nat
  kp : Nat
  kv : Nat
  deriving DecidableEq, Repr

/-- The record of axis `a` in a PROF unit of KIND 1; in version 1 bytes 40 to 63 read as 0 (R155). -/
def axisCfgOf (ver : Nat) (b : List Byte) (a : AxisId) : AxisCfg :=
  let o := 64 * a.val
  let r := slice b o 64
  let r := if ver = 1 then r.take 40 ++ zeros 24 else r
  { kind := rd8 r 0, poles := rd8 r 1, micro := rd8 r 2, dirInv := rd8 r 3 % 2 = 1, hallAlign := rd8 r 3 / 2 % 2 = 1,
    pwmKhz := rd8 r 4, gain := rd8 r 5, dead := rd16 r 6, r := rd16 r 8, l := rd16 r 10, ke := rd32 r 12,
    iFull := rd16 r 16, holdFrac := rd8 r 18, holdDelay := rd16 r 20, shunt := rd16 r 22, ioc := rd16 r 24,
    scale := rd32 r 28, fbRatio := rd32 r 32, dstop := rd32 r 36, lagw := rd32 r 40, kp := rd32 r 44, kv := rd32 r 48 }

/-- The axis record of axis `a` that the portal die holds. -/
def PortalState.axisCfg (P : PortalState) (a : AxisId) : AxisCfg :=
  axisCfgOf (unitVer P.units tagPROF 1) (unitBytes P.units tagPROF 1) a

/-- VMOT_DIV, from axis p.0's record (R153); a version 1 section's 0 is read as 80 (R155); 0 while no PROF unit is held. -/
def PortalState.vmotDiv (P : PortalState) : Nat :=
  if !holds P.units tagPROF 1 then 0
  else if unitVer P.units tagPROF 1 = 1 then 80
  else rd16 (unitBytes P.units tagPROF 1) 52

/-- VLOW, 0.1 V. -/
def PortalState.vlow (P : PortalState) : Nat :=
  if unitVer P.units tagPROF 1 = 1 then 0 else rd16 (unitBytes P.units tagPROF 1) 54

/-- VOV, 0.1 V: a 0 is read as 1,800 (R153); 0 while no PROF unit is held. -/
def PortalState.vov (P : PortalState) : Nat :=
  if !holds P.units tagPROF 1 then 0
  else
    let v := if unitVer P.units tagPROF 1 = 1 then 0 else rd16 (unitBytes P.units tagPROF 1) 56
    if v = 0 then 1800 else v

/-- One profile record (R154). -/
structure ProfCfg where
  axes : Nat
  close : Bool
  relative : Bool
  target : Int
  vmax : Nat
  amax : Nat
  dmax : Nat
  jerk : Nat
  dstop : Nat
  iRun : Nat
  iAcc : Nat
  deriving DecidableEq, Repr

/-- Profile `n` of a PROF unit of KIND 2; none past its end. -/
def profCfgOf (b : List Byte) (n : Nat) : Option ProfCfg :=
  if 32 * n + 32 ≤ b.length then
    let r := slice b (32 * n) 32
    some { axes := rd8 r 0 % 8, close := rd8 r 1 % 2 = 1, relative := rd8 r 1 / 2 % 2 = 1, target := rds32 r 4,
           vmax := rd32 r 8, amax := rd32 r 12, dmax := rd32 r 16, jerk := rd32 r 20, dstop := rd32 r 24,
           iRun := rd16 r 28, iAcc := rd16 r 30 }
  else none

/-- Profile `n` that the portal die holds. -/
def PortalState.prof (P : PortalState) (n : Nat) : Option ProfCfg := profCfgOf (unitBytes P.units tagPROF 2) n

/-- Axis units of a length in 0.1 mm: length × 0.1 × SCALE / 65,536, rounded to the nearest unit (R156). -/
def unitsOfTenths (scale tenths : Nat) : Nat := (2 * tenths * scale + 655360) / 1310720

end Sys2Proof.Machine
end

