-- ==== Sys2Proof/Machine/Fabric.lean ====
section
/-! DEFINITION. The fabric cells and timers (R86 to R91), alike in the host fabric and in the portal harnesses. -/

namespace Sys2Proof.Machine

/-- One cell record (R86). -/
structure CellCfg where
  lut : Nat
  ins : Four Nat
  level : Nat
  used : Bool
  link : Bool
  enSel : Nat
  init : Bool
  timer : Nat
  out : Nat
  deriving DecidableEq, Repr

/-- The cell record at an offset of a KIND 1 unit. -/
def cellAt (b : List Byte) : CellCfg :=
  let fl := rd8 b 11
  { lut := rd16 b 0, ins := ⟨rd16 b 2, rd16 b 4, rd16 b 6, rd16 b 8⟩, level := rd8 b 10 % 32, used := fl / 128 == 1,
    link := fl / 64 % 2 == 1, enSel := fl / 16 % 4, init := fl / 8 % 2 == 1, timer := rd8 b 12, out := rd16 b 14 }

/-- The records of a unit, `size` bytes each, by fuel. -/
def recordsGo (size : Nat) : Nat → List Byte → List (List Byte)
  | 0, _ => []
  | n + 1, b => if b.length < size then [] else b.take size :: recordsGo size n (b.drop size)

/-- The cell records of a KIND 1 unit. -/
def cellsOf (b : List Byte) : List CellCfg := (recordsGo 16 4096 b).map cellAt

/-- One timer record (R90): MODE, and PRESET in ticks. -/
structure TimerCfg where
  mode : Nat
  preset : Nat
  deriving DecidableEq, Repr

/-- The timer records of a KIND 2 unit. -/
def timersOf (b : List Byte) : List TimerCfg :=
  (recordsGo 8 256 b).map fun r => { mode := rd8 r 0, preset := rd24 r 2 * (if rd8 r 1 = 0 then 1 else 1000) }

/-- The cell exports to a destination (R89). -/
def CellCfg.exports (c : CellCfg) : Bool := c.used && c.out / 32768 == 1

/-- Its destination index. -/
def CellCfg.dest (c : CellCfg) : Nat := c.out % 8192

/-- The lowest-numbered used cell that links to timer `n` (R90). -/
def timerCell (cs : List CellCfg) (n : Nat) : Option Nat := cs.findIdx? fun c => c.used && c.link && c.timer == n

/-- Timers in use (R91): MODE not 0 and a linked used cell. -/
def timerUsed (cs : List CellCfg) (ts : List TimerCfg) (n : Nat) : Bool :=
  (match ts[n]? with
    | some t => t.mode != 0
    | none => false) && (timerCell cs n).isSome

/-! ### Settling (R87) -/

/-- What an input select of a cell at the given level reads. Unused cells, timers in reset and indexes without a source read 0. -/
def selRead (cs : List CellCfg) (k : FabricCopy) (src : Nat → Bool) (level sel : Nat) : Bool :=
  let i := sel % 8192
  if i < 4096 then
    match cs[i]? with
    | some c => if sel / 32768 == 1 || level ≤ c.level then k.ff.getD i false else k.lut.getD i false
    | none => false
  else if i < 4352 then
    match k.timers[i - 4096]? with
    | some t => t.out
    | none => false
  else if i = 8191 then true
  else src i

/-- The LUT output of a cell. -/
def lutRead (cs : List CellCfg) (k : FabricCopy) (src : Nat → Bool) (c : CellCfg) : Bool :=
  let r := selRead cs k src c.level
  c.used && Nat.testBit c.lut (bitsOf [r c.ins.x0, r c.ins.x1, r c.ins.x2, r c.ins.x3])

/-- The flip-flop enable of a cell (R86). EN_SEL 2 takes the output of the linked timer; in a cell with TIMER_LINK 0, which has none, the spec says nothing:
DESIGN CHOICE, the output of the timer that TIMER names (log 216). -/
def enRead (cs : List CellCfg) (k : FabricCopy) (src : Nat → Bool) (c : CellCfg) : Bool :=
  match c.enSel with
  | 0 => true
  | 1 => selRead cs k src c.level c.ins.x3
  | 2 => match k.timers[c.timer]? with
    | some t => t.out
    | none => false
  | _ => false

/-- All LUTs and enables settle on the sources presented, level by level. -/
def FabricCopy.settle (k : FabricCopy) (cs : List CellCfg) (src : Nat → Bool) : FabricCopy :=
  let k' := (List.range 32).foldl (fun (q : FabricCopy) l =>
    { q with lut := cs.mapIdx fun i c => if c.level = l then lutRead cs q src c else q.lut.getD i false })
    { k with lut := cs.map fun _ => false }
  { k' with en := cs.map fun c => enRead cs k' src c }

/-! ### Ticks (R90) -/

/-- One tick of a timer with its input as sampled. -/
def TimerState.tick (t : TimerState) (c : TimerCfg) (inp : Bool) : TimerState :=
  match c.mode with
  | 1 =>
    if !inp then {}
    else if t.out then { t with prev := true }
    else
      let left := if t.running then t.left - 1 else c.preset
      if left = 0 then { prev := true, out := true, left := 0, running := false }
      else { prev := true, out := false, left := left, running := true }
  | 2 =>
    if inp then { prev := true, out := true, left := 0, running := false }
    else if !t.out then { t with prev := false }
    else
      let left := if t.running then t.left - 1 else c.preset
      if left = 0 then {}
      else { prev := false, out := true, left := left, running := true }
  | 3 =>
    if c.preset = 0 then { prev := inp, out := inp, left := 0, running := false }
    else if t.out then
      if t.left ≤ 1 then { prev := inp, out := false, left := 0, running := false }
      else { prev := inp, out := true, left := t.left - 1, running := true }
    else if inp && !t.prev then { prev := true, out := true, left := c.preset, running := true }
    else { t with prev := inp }
  | _ => {}

/-- A running timer reaches its preset now (R90): an on-delay rises, an off-delay or a pulse falls. -/
def TimerState.expire (t : TimerState) (c : TimerCfg) : TimerState :=
  if t.running then { t with out := c.mode == 1, left := 0, running := false } else t

/-- One tick of a copy: flip-flops capture and timers sample what had settled, then the sources are presented and all settles. -/
def FabricCopy.tick (k : FabricCopy) (cs : List CellCfg) (ts : List TimerCfg) (src : Nat → Bool) : FabricCopy :=
  let ff := cs.mapIdx fun i c => c.used && (if k.en.getD i false then k.lut.getD i false else k.ff.getD i false)
  let timers := ts.mapIdx fun n t =>
    match timerCell cs n with
    | some i => (k.timers.getD n {}).tick t (k.lut.getD i false)
    | none => {}
  { k with ff := ff, timers := timers }.settle cs src

/-- Flip-flops upset in a copy. -/
def FabricCopy.upset (k : FabricCopy) (cs : List CellCfg) (l : List Nat) : FabricCopy :=
  { k with ff := k.ff.mapIdx fun i b =>
      if l.contains i && (match cs[i]? with
        | some c => c.used
        | none => false) then !b else b }

/-- A copy right after load (R86, R90, R91): every flip-flop at INIT, every timer low, nothing presented. -/
def FabricCopy.load (cs : List CellCfg) (ts : List TimerCfg) : FabricCopy :=
  { ff := cs.map (fun c => c.used && c.init), lut := [], en := [], timers := ts.map fun _ => ({} : TimerState) : FabricCopy
    }.settle cs fun _ => false

/-- Timer `n` of a copy expires now. -/
def FabricCopy.expire (k : FabricCopy) (cs : List CellCfg) (ts : List TimerCfg) (src : Nat → Bool) (n : Nat) : FabricCopy :=
  match ts[n]? with
  | some t => { k with timers := modAt k.timers n fun x => x.expire t }.settle cs src
  | none => k

/-- The value that a copy drives to a destination (R89): the flip-flop of the lowest used cell that exports it, else 0. -/
def FabricCopy.drives (k : FabricCopy) (cs : List CellCfg) (dest : Nat) : Bool :=
  match cs.findIdx? fun c => c.exports && c.dest == dest with
  | some i => k.ff.getD i false
  | none => false

/-- The first exporting cell whose flip-flops differ between two copies (R93, R95): its destination. -/
def copyMismatch (cs : List CellCfg) (k k' : FabricCopy) : Option Nat :=
  match (List.range cs.length).find? fun i =>
      (match cs[i]? with
        | some c => c.exports
        | none => false) && k.ff.getD i false != k'.ff.getD i false with
  | some i => (cs[i]?).map CellCfg.dest
  | none => none

/-- The first `n` destinations as a copy drives them. -/
def FabricCopy.destWord (k : FabricCopy) (cs : List CellCfg) (n : Nat) : BitVec n :=
  (cs.zipIdx.reverse).foldl (fun (w : BitVec n) (p : CellCfg × Nat) =>
    if p.1.exports && decide (p.1.dest < n) then putBit w p.1.dest (k.ff.getD p.2 false) else w) 0

end Sys2Proof.Machine
end

