-- ==== Sys2Proof/Machine/Trig.lean ====
section
/-! DEFINITION. Angles: π, the cosine of a part of a revolution (R165, R216) and the angle of a sin/cos pair (R193). π is taken to 2^-48 and a cosine to
2^-40 (log entry 192); at whole quarters of a revolution the cosine is exact. -/

namespace Sys2Proof.Machine

/-- 2π, to 2^-47. -/
def twoPi : Rat := mkRat 884279719003555 (2 ^ 47)

/-- One, in the fixed-point form of the series. -/
def fixOne : Int := 2 ^ 40

/-- A series in a squared angle, from the products of its successive factors. -/
def fixSeries (x2 : Int) (ds : List Int) : Int := ds.foldr (fun d c => fixOne - x2 * c / (fixOne * d)) fixOne

/-- 2π times `num`/`den`, in fixed point; used up to an eighth of a revolution. -/
def fixAngle (num den : Nat) : Int := (6908435304715 * num : Nat) / (den : Int)

/-- The cosine of an angle up to an eighth of a revolution, in fixed point. -/
def fixCos (num den : Nat) : Int :=
  let x := fixAngle num den
  fixSeries (x * x / fixOne) [2, 12, 30, 56, 90, 132, 182]

/-- The sine of an angle up to an eighth of a revolution, in fixed point. -/
def fixSin (num den : Nat) : Int :=
  let x := fixAngle num den
  x * fixSeries (x * x / fixOne) [6, 20, 42, 72, 110, 156, 210] / fixOne

/-- The cosine of `turns` revolutions. -/
def cosTurns (turns : Rat) : Rat :=
  let n := turns.den
  let m := (turns.num % (n : Int)).toNat
  let v := match 8 * m / n with
    | 0 => fixCos m n
    | 1 => fixSin (n - 4 * m) (4 * n)
    | 2 => -fixSin (4 * m - n) (4 * n)
    | 3 => -fixCos (n - 2 * m) (2 * n)
    | 4 => -fixCos (2 * m - n) (2 * n)
    | 5 => -fixSin (3 * n - 4 * m) (4 * n)
    | 6 => fixSin (4 * m - 3 * n) (4 * n)
    | _ => fixCos (n - m) n
  mkRat v (2 ^ 40)

/-- The last count of 4,096 for a revolution, at most 512, that does not pass the angle of (u, v), where 0 ≤ v ≤ u: by bisection from `lo` to `hi`. -/
def octantGo (u v : Int) : Nat → Nat → Nat → Nat
  | 0, lo, _ => lo
  | k + 1, lo, hi =>
    let m := (lo + hi + 1) / 2
    if u * fixSin m 4096 ≤ v * fixCos m 4096 then octantGo u v k m hi else octantGo u v k lo (m - 1)

/-- The counts below the angle of (u, v), 0 ≤ v ≤ u, and whether the angle lies beyond them; it lies on a count only at the ends of the octant. -/
def octant (u v : Int) : Nat × Bool :=
  if v = 0 then (0, false) else if u = v then (512, false) else (octantGo u v 9 0 511, true)

/-- The angle of a sin/cos pair in counts of 4,096 for a period (R193). Of the two counts next to an angle between them the device takes either
(`Config.angleUp`); a pair of zeros has no angle (`Config.angleOfZero`). -/
def scAngleOf (sin cos : Int) : Nat :=
  let au := |cos|
  let av := |sin|
  if sin = 0 ∧ cos = 0 then Config.angleOfZero % 4096
  else
    let (k, more) := if av ≤ au then octant au av else octant av au
    -- the angle within its quadrant: counts below it, and whether it lies beyond them
    let q := if av ≤ au then k else 1024 - k - b2n more
    -- the angle of the pair
    let lo := if 0 ≤ sin then (if 0 ≤ cos then q else 2048 - q - b2n more)
      else if cos < 0 then 2048 + q else 4096 - q - b2n more
    (lo + (if more then b2n (Config.angleUp sin cos) else 0)) % 4096

end Sys2Proof.Machine
end

