-- ==== Sys2Proof/Machine/Feedback.lean ====
section
/-! DEFINITION. The feedback ports (R179 to R206): the feedback record, the counter with its soft limits and compare,
the four sources, counting edges and the tracking observer. These functions act on one port; the portal reacts to what they
report. -/

namespace Sys2Proof.Machine

/-! ### The feedback record (R183) -/

/-- One feedback record. -/
structure FbCfg where
  kindByte : Nat
  flags : Nat
  filt : Nat
  hyst : Nat
  bw : Nat
  stillMs : Nat
  hallFilt : Nat
  cpr : Nat
  idxVal : Int
  idxTol : Nat
  softLo : Int
  softHi : Int
  ssiKhz : Nat
  dbits : Nat
  sbits : Nat
  period : Nat
  tm : Nat
  errMask : Nat
  jump : Nat
  wlo : Nat
  whi : Nat
  nom : Nat
  sinOfs : Int
  cosOfs : Int
  hallCfg : Nat
  deriving DecidableEq, Repr

/-- The record of axis `a` in the feedback unit, as written. -/
def fbCfgOf (b : List Byte) (a : AxisId) : FbCfg :=
  let r := slice b (64 * a.val) 64
  { kindByte := rd8 r 0, flags := rd8 r 1, filt := rd8 r 2, hyst := rd8 r 3, bw := rd16 r 4, stillMs := rd8 r 6,
    hallFilt := rd8 r 7, cpr := rd32 r 8, idxVal := rds32 r 12, idxTol := rd32 r 16, softLo := rds32 r 20,
    softHi := rds32 r 24, ssiKhz := rd16 r 28, dbits := rd8 r 30, sbits := rd8 r 31, period := rd16 r 32,
    tm := rd8 r 34, errMask := rd8 r 35, jump := rd32 r 36, wlo := rd8 r 40, whi := rd8 r 41, nom := rd16 r 42,
    sinOfs := rds16 r 44, cosOfs := rds16 r 46, hallCfg := rd8 r 48 }

/-- The feedback record of axis `a` that the portal die holds (IOMP KIND 0x08). -/
def PortalState.fbCfg (P : PortalState) (a : AxisId) : FbCfg := fbCfgOf (unitBytes P.units tagIOMP 8) a

namespace FbCfg

/-- The kind without bit 7. -/
def kind (c : FbCfg) : Nat := c.kindByte % 128

/-- The port uses its Hall inputs. -/
def usesHall (c : FbCfg) : Bool := c.kindByte / 128 == 1 || c.kind == 4

/-- CNT_INV. -/
def cntInv (c : FbCfg) : Bool := c.flags % 2 = 1

/-- IDX_MODE. -/
def idxMode (c : FbCfg) : Nat := c.flags / 2 % 4

/-- IDX_GATE. -/
def idxGate (c : FbCfg) : Bool := c.flags / 8 % 2 = 1

/-- WRAP. -/
def wrap (c : FbCfg) : Bool := c.flags / 16 % 2 = 1

/-- DBL. -/
def dbl (c : FbCfg) : Bool := c.flags / 32 % 2 = 1

/-- GRAY. -/
def gray (c : FbCfg) : Bool := c.flags / 64 % 2 = 1

/-- The soft limits in force: both 0 means the whole 32-bit range (R183). -/
def lo (c : FbCfg) : Int := if c.softLo = 0 ∧ c.softHi = 0 then -2147483648 else c.softLo

/-- See `lo`. -/
def hi (c : FbCfg) : Int := if c.softLo = 0 ∧ c.softHi = 0 then 2147483647 else c.softHi

/-- A count in the port's own sense, turned by CNT_INV. -/
def turn (c : FbCfg) (d : Int) : Int := if c.cntInv then -d else d

/-- The digital pairs that the port's kind uses: DAT, QZ, QB, QA (R179, R182). -/
def usedLines (c : FbCfg) : BitVec 4 :=
  if c.kind = 1 then 0b0111 else if c.kind = 2 then 0b1000 else if c.kind = 3 then 0b0100 else 0

/-- The port takes index events: a quadrature or sin/cos port whose IDX_MODE does not ignore them (R183, R187). -/
def indexed (c : FbCfg) : Bool := (c.kind == 1 || c.kind == 3) && c.idxMode != 0

/-- An index re-references the port only once it is armed: IDX_MODE 2 of a port that takes index events (R183, R187). -/
def armsIndex (c : FbCfg) : Bool := c.indexed && c.idxMode == 2

end FbCfg

/-! ### Event flags of FB_EVT -/

/-- Set a flag of FB_EVT. -/
def FbState.flag (f : FbState) (i : Nat) : FbState := { f with evt := raise f.evt i }

/-- Set a flag of FB_EVT where a condition holds. -/
def FbState.flagIf (f : FbState) (i : Nat) (b : Bool) : FbState := if b then f.flag i else f

/-! ### Compare (R197, R198) -/

/-- The compare values that a move from `p0` to `p1` passes: how many, from the value and the increment in force. -/
def cmpPassed (val inc p0 p1 : Int) : Nat :=
  if 0 < inc then (if p0 < val ∧ val ≤ p1 then ((p1 - val) / inc).toNat + 1 else 0)
  else if inc < 0 then (if val < p0 ∧ p1 ≤ val then ((val - p1) / (-inc)).toNat + 1 else 0)
  else if (p0 < val ∧ val ≤ p1) ∨ (val < p0 ∧ p1 ≤ val) then 1 else 0

/-- EN of FB_CMPCTL. -/
def FbState.cmpEn (f : FbState) : Bool := wbit f.cmpCtl 31

/-- A hit that passes `n` values, stamped with `t`: FB_CMPVAL advances past the counter, FB_CMPHITS counts the values,
CMP_SKIP shows that several were passed, and EN clears after a single hit or at the limit. -/
def FbState.cmpHit (f : FbState) (n : Nat) (t : Dword) : FbState :=
  let inc := f.cmpInc.toInt
  let hits := min (f.cmpHits + n) 0xFFFFFFFF
  let lim := fget f.cmpCtl 15 0
  let off := inc = 0 || (lim != 0 && lim ≤ hits)
  (({ f with cmpVal := wordOf (f.cmpVal.toInt + n * inc), cmpHits := hits, cmpT := t,
             cmpCtl := if off then putBit f.cmpCtl 31 false else f.cmpCtl } : FbState).flag 5).flagIf 4 (1 < n)

/-- Compare after a counter update from `p0` (R197); true on a hit. -/
def FbState.compare (f : FbState) (p0 : Int) (t : Dword) : FbState × Bool :=
  if f.cmpEn then
    let n := cmpPassed f.cmpVal.toInt f.cmpInc.toInt p0 f.pos
    if n = 0 then (f, false) else (f.cmpHit n t, true)
  else (f, false)

/-- A re-reference or FB_SETPOS moved the counter from `p0`: the values passed advance without a hit (R198). -/
def FbState.comparePast (f : FbState) (p0 : Int) : FbState :=
  if f.cmpEn then
    let n := cmpPassed f.cmpVal.toInt f.cmpInc.toInt p0 f.pos
    if n = 0 then f else ({ f with cmpVal := wordOf (f.cmpVal.toInt + n * f.cmpInc.toInt) } : FbState).flag 4
  else f

/-! ### The counter and its soft limits (R195) -/

/-- Put the counter at a value limited to the soft limits. Counts that an incremental source loses there leave the
position uncertain. A counter that stays at the limit is still in saturation. -/
def FbState.place (f : FbState) (c : FbCfg) (v : Int) (incremental : Bool) : FbState :=
  let hi := decide (c.hi < v) || (f.limHi && decide (v = c.hi))
  let lo := decide (v < c.lo) || (f.limLo && decide (v = c.lo))
  let g : FbState := { f with pos := clampI c.lo c.hi v, limHi := hi, limLo := lo,
                              uncertain := f.uncertain || (incremental && decide (c.hi < v ∨ v < c.lo)) }
  g.flagIf 3 ((hi && !f.limHi) || (lo && !f.limLo))

/-- What a counter update gives: the port, whether compare hit, and whether a feedback fault follows. -/
structure FbOut where
  fb : FbState
  hit : Bool
  fault : Bool
  deriving DecidableEq, Repr

/-! ### Counting edges (R200 to R203) -/

/-- An edge that becomes a first edge: the observer follows the counter. -/
def FbState.firstAt (f : FbState) (up : Bool) (ck : Nat) : FbState :=
  { f with still := false, firstEdge := true, dirUp := up, edgeAt := ck, edgePos := f.pos, intervals := [],
           seededAt := none, vHat := 0, aHat := 0, pHat := f.pos, spdQual := false }

/-- A counting edge in the direction `up` that moved `n` counts, at the moment `ck`. -/
def FbState.edge (f : FbState) (up : Bool) (n : Nat) (ck : Nat) : FbState :=
  let sg : Rat := if up then 1 else -1
  if f.still then f.firstAt up ck
  else if f.firstEdge then
    if f.dirUp = up then
      { f with firstEdge := false, dirUp := up, vHat := sg * n / secOfNs (ck - f.edgeAt), aHat := 0,
               seededAt := some ck, intervals := [ck - f.edgeAt], edgeAt := ck, edgePos := f.pos }
    else f.firstAt up ck
  else if sg * f.vHat < 0 then (f.firstAt up ck).flag 15
  else { f with dirUp := up, intervals := ((ck - f.edgeAt) :: f.intervals).take 4, edgeAt := ck, edgePos := f.pos }
where
  /-- Nanoseconds as seconds. -/
  secOfNs (ns : Nat) : Rat := mkRat ns 1000000000

/-- The counting edge of an SSI or sin/cos reading (R200): one that moved at least SS_HYST counts from the counter at the previous edge; a load of the
counter moves that value with it (log entry 238). -/
def FbState.edgeIfMoved (f : FbState) (c : FbCfg) (ck : Nat) : FbState :=
  let d := f.pos - f.edgePos
  if (c.hyst : Int) ≤ |d| then f.edge (0 < d) d.natAbs ck else f

/-! ### Quadrature and index (R185 to R188) -/

/-- An illegal transition (R186, R189): no count; IDX_MODE 2 is armed again. -/
def FbState.illegal (f : FbState) (c : FbCfg) : FbState :=
  ({ f with illCnt := satInc f.illCnt 0xFFFF, uncertain := true,
            idxArmed := f.idxArmed || c.armsIndex } : FbState).flag 14

/-- Place of a (QA, QB) pair in the sequence in which A leads B. -/
def quadPhase (qa qb : Bool) : Nat := if qa then (if qb then 2 else 1) else (if qb then 3 else 0)

/-- A filtered sample of QA and QB (R185, R186). -/
def FbState.quad (f : FbState) (c : FbCfg) (qa qb : Bool) (ck : Nat) (t : Dword) : FbOut :=
  let g : FbState := { f with qa := qa, qb := qb }
  let d := (quadPhase qa qb + 4 - quadPhase f.qa f.qb) % 4
  if d = 0 then ⟨g, false, false⟩
  else if d = 2 then ⟨g.illegal c, false, false⟩
  else
    let n := c.turn (if d = 1 then 1 else -1)
    let h := g.place c (f.pos + n) true
    let (k, hit) := (h.edge (0 < n) 1 ck).compare f.pos t
    ⟨k, hit, false⟩

/-- The counter is loaded: a load is no count, so it enters no saturation, and the next count that the limits take away does (R195; log entry 235). -/
def FbState.loadCounter (f : FbState) (v : Int) : FbState :=
  ({ f with pos := v, edgePos := f.edgePos + (v - f.pos), uncertain := false, limHi := false, limLo := false } : FbState).comparePast f.pos

/-- Re-reference to IDX_VAL (R187): the observer position shifts by the same correction. -/
def FbState.reReference (f : FbState) (c : FbCfg) : FbState :=
  { f.loadCounter c.idxVal with pHat := f.pHat + (c.idxVal - f.pos), idxArmed := false }

/-- A rising edge of QZ (R187, R188): an index event, on a quadrature port with IDX_GATE only while QA and QB are both high (log entry 193). In
IDX_MODE 2 an index that IDX_TOL refused leaves the port armed (log entry 231). -/
def FbState.index (f : FbState) (c : FbCfg) (illegalNow : Bool) : FbState :=
  let g := ({ f with idxPos := f.pos } : FbState).flag 13
  if !c.indexed || (c.kind == 1 && c.idxGate && !(f.qa && f.qb)) then f
  else if illegalNow || c.idxMode < 2 || (c.idxMode == 2 && !f.idxArmed) then g
  else if c.idxTol != 0 && decide ((c.idxTol : Int) < |c.idxVal - f.pos|) then
    ({ g with uncertain := true } : FbState).flag 12
  else g.reReference c

/-! ### Hall inputs (R189) -/

/-- The sector of a valid code before HALL_PHASE and HALL_INV: codes 1, 3, 2, 6, 4, 5 are sectors 0 to 5. -/
def hallIndex (code : Nat) : Option Nat := [1, 3, 2, 6, 4, 5].idxOf? code

/-- The sector of a code: HALL_PHASE is added modulo 6, and HALL_INV then reverses the order, sector 0 changing places with sector 5 (log entry 232). -/
def sectorOf (c : FbCfg) (code : Nat) : Option Nat :=
  (hallIndex code).map fun i =>
    let s := (i + c.hallCfg / 2 % 8) % 6
    if c.hallCfg % 2 = 1 then 5 - s else s

/-- A filtered Hall code (R189): the sector, and the count of a port of kind 4. -/
def FbState.hall (f : FbState) (c : FbCfg) (code : BitVec 3) (ck : Nat) (t : Dword) : FbOut :=
  let g : FbState := { f with hallCode := code }
  if !c.usesHall then ⟨g, false, false⟩
  else
    match sectorOf c code.toNat with
    | none => ⟨({ g with frameCnt := satInc f.frameCnt 0xFFFF } : FbState).flag 6, false, false⟩
    | some s =>
      let h : FbState := { g with hallSector := BitVec.ofNat 3 s }
      if c.kind != 4 || f.hallSector == 7 || f.hallSector.toNat == s then ⟨h, false, false⟩
      else
        let d := (s + 6 - f.hallSector.toNat) % 6
        if d = 1 ∨ d = 5 then
          let n := c.turn (if d = 1 then 1 else -1)
          let (k, hit) := ((h.place c (f.pos + n) true).edge (0 < n) 1 ck).compare f.pos t
          ⟨k, hit, false⟩
        else ⟨h.illegal c, false, false⟩

/-! ### SSI (R190 to R192) -/

/-- A request is skipped because DAT is low (R190); the third in a row that is skipped or discarded is a fault (R191). -/
def FbState.ssiSkip (f : FbState) : FbOut :=
  let n := f.ssiBad + 1
  ⟨(({ f with ssiBad := n } : FbState).flag 10).flagIf 0 (3 ≤ n), false, 3 ≤ n⟩

/-- A reading is discarded (R191): its flag, FRAME_CNT, and the fault at the third in a row. -/
def FbState.ssiDiscard (f : FbState) (flagNo : Nat) : FbOut :=
  let n := f.ssiBad + 1
  ⟨((({ f with ssiBad := n, frameCnt := satInc f.frameCnt 0xFFFF } : FbState).flag flagNo).flagIf 0 (3 ≤ n)), false,
   3 ≤ n⟩

/-- Gray to binary over `d` bits (R192). -/
def grayToBin (d : Nat) (g : Nat) : Nat :=
  (List.range d).reverse.foldl (fun (acc : Nat × Nat) i =>
    let b := (acc.1 + g / 2 ^ i) % 2
    (b, acc.2 + b * 2 ^ i)) (0, 0) |>.2

/-- The difference of two readings modulo 2^D, in -2^(D-1) to 2^(D-1) - 1. -/
def wrapDiff (d : Nat) (new prev : Nat) : Int := signed d (unsig d ((new : Int) - prev))

/-- A complete SSI frame (R191, R192). With WRAP the change of JUMP_MAX is taken modulo 2^D, as the count is (log entry 233). -/
def FbState.ssiFrame (f0 : FbState) (c : FbCfg) (x : SsiFrame) (ck : Nat) : FbOut :=
  let f : FbState := { f0 with ssiBusy := false, ssiData := BitVec.ofNat 32 (x.data.toNat % 2 ^ c.dbits), ssiStat := x.status }
  let w0 := x.data.toNat % 2 ^ c.dbits
  let w := if c.gray then grayToBin c.dbits w0 else w0
  let bad := x.trail || (c.dbl && (x.sep || x.data != x.data2 || x.status != x.status2)) ||
    (x.status.toNat &&& c.errMask) != 0
  let jump := match f.ssiPrev with
    | none => false
    | some q => c.jump != 0 && decide ((c.jump : Int) < |if c.wrap then wrapDiff c.dbits w q else (w : Int) - q|)
  if bad then f.ssiDiscard 11
  else if jump then f.ssiDiscard 9
  else
    let absolute : Int := if c.cntInv then (2 ^ c.dbits - 1 : Nat) - w else w
    let (v, inc) := match c.wrap, f.ssiPrev with
      | true, some q => (f.pos + c.turn (wrapDiff c.dbits w q), true)
      | _, _ => (absolute, c.wrap)
    let g : FbState := { f with ssiPrev := some w, ssiBad := 0, fresh := true, uncertain := false }
    let h := (g.place c v inc).edgeIfMoved c ck
    let (k, hit) := h.compare f.pos f.ssiLatch
    ⟨k, hit, false⟩

/-! ### Sin/cos (R193, R194) -/

/-- A sin/cos sample after offset correction. -/
def FbState.sincos (f0 : FbState) (c : FbCfg) (sn cs : BitVec 12) (ck : Nat) (t : Dword) : FbOut :=
  let x := sn.toInt - c.sinOfs
  let y := cs.toInt - c.cosOfs
  let sq := (x * x + y * y).toNat
  let ratio := (divR (256 * (sq : Int)) (c.nom * c.nom)).toNat
  let f : FbState := { f0 with sin := x, cos := y, rnow := min ratio 0xFFFF, rmin := min f0.rmin (min ratio 0xFFFF) }
  let n2 := c.nom * c.nom
  if 100 * sq < c.wlo * n2 ∨ c.whi * n2 < 100 * sq then
    let k := f.scBad + 1
    ⟨((({ f with scBad := k, frameCnt := satInc f.frameCnt 0xFFFF } : FbState).flag 8).flagIf 0 (8 ≤ k)), false, 8 ≤ k⟩
  else
    let a := scAngleOf x y
    let g : FbState := { f with scBad := 0, scAngle := some a }
    match f.scAngle with
    | none =>
      let (k, hit) := ((({ g with fresh := true } : FbState).place c (c.turn a) true).edgeIfMoved c ck).compare f.pos t
      ⟨k, hit, false⟩
    | some q =>
      let d := wrapDiff 12 a q
      if 1024 < |d| then ⟨({ g with uncertain := true } : FbState).flag 7, false, false⟩
      else
        let per : Int := if (a : Int) - q < -2048 then 1 else if 2048 < (a : Int) - q then -1 else 0
        let h := (({ g with fresh := true, scPeriods := f.scPeriods + per } : FbState).place c (f.pos + c.turn d) true)
        let (k, hit) := (h.edgeIfMoved c ck).compare f.pos t
        ⟨k, hit, false⟩

/-! ### Standstill and the observer (R199, R201) -/

/-- STILL is set: speed and acceleration are 0 and the observer stands at the counter. -/
def FbState.setStill (f : FbState) : FbState :=
  { f with still := true, spdQual := false, firstEdge := false, intervals := [], seededAt := none, vHat := 0, aHat := 0,
           pHat := f.pos }

/-- One observer update, every 10 µs (R199, R202). -/
def FbState.observe (f : FbState) (c : FbCfg) (ck : Nat) : FbState :=
  if f.still || f.firstEdge then { f with pHat := f.pos, vHat := 0, aHat := 0, fresh := false, spdQual := false }
  else
    let T : Rat := mkRat 1 100000
    let w0 : Rat := twoPi * c.bw
    let reading := !(c.kind == 2 || c.kind == 3) || f.fresh
    let e : Rat := if reading then f.pos - f.pHat else 0
    let p := if reading then f.pHat + T * (f.vHat + 3 * w0 * e) else f.pHat + T * f.vHat
    let v := f.vHat + T * (f.aHat + 3 * w0 * w0 * e)
    let a := f.aHat + T * (w0 * w0 * w0) * e
    let q := match f.seededAt with
      | some s => decide (3 ≤ w0 * mkRat (ck - s) 1000000000)
      | none => false
    { f with pHat := p, vHat := v, aHat := a, fresh := false, spdQual := f.spdQual || q }

/-- The time after the last counting edge at which STILL falls due, ns (R201). -/
def FbState.stillAfter (f : FbState) (c : FbCfg) : Nat := max (c.stillMs * 1000000) f.intervals.sum

/-- FB_SPEED: v_hat in 1/16 count/s, saturating. -/
def FbState.speed16 (f : FbState) : Int := clampI (-2147483648) 2147483647 (ratR (16 * f.vHat))

/-- FB_ACCEL: a_hat, saturating. -/
def FbState.accelReg (f : FbState) : Int := clampI (-2147483648) 2147483647 (ratR f.aHat)

/-- FB_PEST: p_hat in whole counts. -/
def FbState.pestReg (f : FbState) : Int := clampI (-2147483648) 2147483647 (ratR f.pHat)

/-- Write of FB_SETPOS with the axis in TORQUE_OFF (R196): the counter takes the value and the observer starts there, still and with no edge held (log
entry 234). -/
def FbState.setPos (f : FbState) (v : Int) : FbState := (f.loadCounter v).setStill

end Sys2Proof.Machine
end

