-- ==== Sys2Proof/Machine/IoCfg.lean ====
section
/-! DEFINITION. The detector record and envelopes (R233 to R236), the reversal orders (R127), and the input, switch, portal
I/O and curtain records (R333 to R363) as a portal die reads them. -/

namespace Sys2Proof.Machine

/-! ### Detector record (R234, R236) -/

/-- The portal part of the detector record, with the values of R236 where ENVL is absent. -/
structure DetCfg where
  edgMode : Nat
  edgDir : Nat
  edgConf : Nat
  edgAxes : Nat
  thr0 : Nat
  thr1 : Nat
  hyst : Nat
  vmin : Nat
  vmax : Nat
  baseTc : Nat
  ssRest : Nat
  ssSettle : Nat
  progTmo : Nat
  deriving DecidableEq, Repr

/-- One axis part of the detector record. -/
structure DetAxis where
  kf : Nat
  mEff : Nat
  lagStop : Nat
  ssDecel : Nat
  ssJerk : Nat
  /-- SS_VMARG; none: 10 % of v0 (R236). -/
  ssVmarg : Option Nat
  ssTdel : Nat
  effMax : Nat
  effConf : Nat
  progConf : Nat
  effortEn : Bool
  progressEn : Bool
  effOpen : Bool
  effClose : Bool
  deriving DecidableEq, Repr

/-- The detector record as written. -/
def PortalState.detBytes (P : PortalState) : List Byte := unitBytes P.units tagENVL 1

/-- The portal die holds an ENVL unit. -/
def PortalState.hasEnvl (P : PortalState) : Bool := holds P.units tagENVL 1

/-- The portal part in force. -/
def PortalState.det (P : PortalState) : DetCfg :=
  if P.hasEnvl then
    let b := P.detBytes
    { edgMode := rd8 b 0, edgDir := rd8 b 1, edgConf := rd8 b 2, edgAxes := rd8 b 3, thr0 := rd16 b 4, thr1 := rd16 b 6,
      hyst := rd16 b 8, vmin := rd16 b 10, vmax := rd16 b 12, baseTc := rd16 b 14, ssRest := rd16 b 16,
      ssSettle := rd16 b 18, progTmo := rd16 b 20 }
  else
    { edgMode := 0, edgDir := 1, edgConf := 0, edgAxes := 3, thr0 := 0, thr1 := 0, hyst := 0, vmin := 0, vmax := 0,
      baseTc := 0, ssRest := 20, ssSettle := 100, progTmo := 0 }

/-- The axis part in force; SS_JERK reads 0 in section version 1. -/
def PortalState.detAxis (P : PortalState) (a : AxisId) : DetAxis :=
  let x := P.axisCfg a
  if P.hasEnvl then
    let r := slice P.detBytes (32 + 32 * a.val) 32
    let fl := rd8 r 30
    { kf := rd32 r 0, mEff := rd32 r 4, lagStop := rd32 r 8, ssDecel := rd32 r 12,
      ssJerk := if unitVer P.units tagENVL 1 = 1 then 0 else rd32 r 16, ssVmarg := some (rd32 r 20), ssTdel := rd16 r 24,
      effMax := rd16 r 26, effConf := rd8 r 28, progConf := rd8 r 29, effortEn := fl % 2 = 1, progressEn := fl / 2 % 2 = 1,
      effOpen := fl / 4 % 2 = 1, effClose := fl / 8 % 2 = 1 }
  else
    { kf := 0, mEff := 0, lagStop := 4 * x.lagw, ssDecel := x.dstop, ssJerk := 0, ssVmarg := none, ssTdel := 5000,
      effMax := 0, effConf := 0, progConf := 10, effortEn := false, progressEn := x.lagw != 0, effOpen := false,
      effClose := false }

/-- One envelope record (R235). -/
structure Envelope where
  profile : Nat
  axis : Nat
  npts : Nat
  start : Int
  step : Nat
  bandHi : Nat
  bandLo : Nat
  learned : List Int
  deriving DecidableEq, Repr

/-- Size of an envelope record with its padding (R235). -/
def envSize (npts : Nat) : Nat := (16 + 2 * npts + 3) / 4 * 4

/-- The envelope records of a KIND 0x02 unit, by fuel; BAND_LO reads as BAND_HI in version 1 (R236). -/
def envelopesGo (ver : Nat) : Nat → List Byte → List Envelope
  | 0, _ => []
  | k + 1, b =>
    if b.length < 16 then []
    else
      let n := rd16 b 2
      { profile := rd8 b 0, axis := rd8 b 1, npts := n, start := rds32 b 4, step := rd32 b 8, bandHi := rd16 b 12,
        bandLo := if ver = 1 then rd16 b 12 else rd16 b 14,
        learned := (List.range n).map fun i => rds16 b (16 + 2 * i) } :: envelopesGo ver k (b.drop (envSize n))

/-- The envelope records that the portal die holds. -/
def PortalState.envelopes (P : PortalState) : List Envelope :=
  envelopesGo (unitVer P.units tagENVL 2) 48 (unitBytes P.units tagENVL 2)

/-- The record for a profile and axis. -/
def PortalState.envelope (P : PortalState) (prof : Nat) (a : AxisId) : Option Envelope :=
  P.envelopes.find? fun e => e.profile == prof && e.axis == a.val

/-- L(x): the learned effort interpolated linearly between points, 0.1 N; none outside the record's range (R217). -/
def Envelope.at (e : Envelope) (x : Int) : Option Rat :=
  let d := x - e.start
  if d < 0 ∨ ((e.npts : Int) - 1) * e.step < d then none
  else
    let i := (d / e.step).toNat
    let y0 : Rat := e.learned.getD i 0
    let y1 : Rat := e.learned.getD (i + 1) (e.learned.getD i 0)
    some (y0 + (y1 - y0) * mkRat (d % e.step) e.step)

/-! ### Reversal orders (R127) -/

/-- A reversal order. -/
structure RevOrder where
  kind : Nat
  profile : Nat
  dist : Nat
  deriving DecidableEq, Repr

/-- The reversal order of a customer state, KIND 0 where none is held. -/
def PortalState.revOrder (P : PortalState) (cust : Nat) : RevOrder :=
  let r := slice (unitBytes P.units tagSEQT 1) (4 * cust) 4
  { kind := rd8 r 0, profile := rd8 r 1, dist := rd16 r 2 }

/-! ### Inputs (R334, R338) -/

/-- One input record as its section version reads it. -/
structure InputCfg where
  role : Nat
  chb : Bool
  edgeOpen : Bool
  debounce : Bool
  lowMode : Bool
  owEn : Bool
  filt : Nat
  deriving DecidableEq, Repr

/-- The portal die holds its input records. -/
def PortalState.hasInputs (P : PortalState) : Bool := holds P.units tagIOMP 1

/-- The input record of channel `n`; until records are held every channel is an integrating counter of 5,000 with no role
(R336). -/
def PortalState.inputCfg (P : PortalState) (n : Nat) : InputCfg :=
  if P.hasInputs then
    let v := unitVer P.units tagIOMP 1
    let r := slice (unitBytes P.units tagIOMP 1) (4 * n) 4
    { role := rd8 r 0 % 16, chb := rd8 r 0 / 16 % 2 = 1, edgeOpen := rd8 r 0 / 32 % 2 = 1,
      debounce := rd8 r 1 % 2 = 1 && 2 ≤ v, lowMode := rd8 r 1 / 2 % 2 = 1 && 3 ≤ v, owEn := rd8 r 1 / 4 % 2 = 1,
      filt := rd16 r 2 }
  else { role := 0, chb := false, edgeOpen := false, debounce := false, lowMode := false, owEn := false, filt := 5000 }

/-- The role code of a dual-channel role. -/
def roleCode : Role → Nat
  | .cls => 1
  | .lck => 2
  | .str => 3
  | .iso => 4

/-- The filtered states of IN00 to IN15; a channel limited by its sink stage reads open (R340). -/
def PortalState.inputWord (P : PortalState) : BitVec 16 :=
  BitVec.ofNat 16 (bitsOf (P.inputs.filters.toList.map fun f => f.out)) &&& ~~~P.inputs.ot

/-- The open-wire flags: open wire or over-temperature (R340). -/
def PortalState.openWire (P : PortalState) : BitVec 16 := P.inputs.ow ||| P.inputs.ot

/-- Channel `n` reads closed: its filtered state is 1 and it does not report open wire (R113). -/
def PortalState.closed (P : PortalState) (n : Nat) : Bool := wbit P.inputWord n && !wbit P.openWire n

/-- Channels assigned to a role. -/
def PortalState.roleChans (P : PortalState) (r : Role) : List Nat :=
  (List.range 16).filter fun n => P.hasInputs && (P.inputCfg n).role == roleCode r

/-- The role is made: it has channels and every one reads closed (R113). -/
def PortalState.made (P : PortalState) (r : Role) : Bool :=
  let l := P.roleChans r
  !l.isEmpty && l.all fun n => P.closed n

/-- The role is broken: every one of its channels reads open. -/
def PortalState.broken (P : PortalState) (r : Role) : Bool := (P.roleChans r).all fun n => !P.closed n

/-- The role is split: neither made nor broken. -/
def PortalState.split (P : PortalState) (r : Role) : Bool := !P.made r && !P.broken r

/-! ### Switches (R334, R342) -/

/-- One switch record as its section version reads it. -/
structure SwitchCfg where
  ilim : Nat
  uc : Nat
  tEp : Nat
  retries : Nat
  retryInt : Nat
  fs : Bool
  olOff : Bool
  used : Bool
  prio : Nat
  deriving DecidableEq, Repr

/-- The switch record of channel `n`. -/
def PortalState.switchCfg (P : PortalState) (n : Nat) : SwitchCfg :=
  let r := slice (unitBytes P.units tagIOMP 2) (16 * n) 16
  let fl := rd8 r 7
  { ilim := rd16 r 0, uc := rd16 r 2, tEp := rd8 r 4, retries := rd8 r 5, retryInt := rd8 r 6, fs := fl % 2 = 1,
    olOff := fl / 2 % 2 = 1, used := fl / 4 % 2 = 1, prio := if unitVer P.units tagIOMP 2 = 3 then rd8 r 8 else 0 }

/-- The stored fail-safe states of channels 7 to 0 (LH_CFG.FS). -/
def PortalState.failSafeMask (P : PortalState) : Nat :=
  bitsOf ((List.range 8).map fun n => (P.switchCfg n).fs && (P.switchCfg n).used)

/-! ### Portal I/O record (R334, R351) and curtain records (R363) -/

/-- The portal I/O record as its section version reads it. -/
structure PioCfg where
  ssEn : BitVec 4
  soUsed : BitVec 2
  soPw : Nat
  soPer : Nat
  budget : Nat
  deriving DecidableEq, Repr

/-- The portal I/O record in force. -/
def PortalState.pio (P : PortalState) : PioCfg :=
  let b := unitBytes P.units tagIOMP 3
  if unitVer P.units tagIOMP 3 = 3 then
    { ssEn := BitVec.ofNat 4 (rd8 b 0), soUsed := BitVec.ofNat 2 (rd8 b 1), soPw := rd16 b 2, soPer := rd16 b 4,
      budget := rd16 b 6 }
  else
    { ssEn := BitVec.ofNat 4 (rd8 b 0), soUsed := BitVec.ofNat 2 (rd8 b 1), soPw := 200, soPer := 250, budget := 1200 }

/-- One curtain record as its section version reads it. -/
structure CurtainCfg where
  used : Bool
  legacyOk : Bool
  vmax : Nat
  nbeams : Nat
  mask : Dword
  identReq : Word
  deriving DecidableEq, Repr

/-- The curtain record of port `k`: KIND 0x04 is ignored in version 1, and VMAX is at most 1 in version 2. -/
def PortalState.curtainCfg (P : PortalState) (k : Nat) : CurtainCfg :=
  let v := unitVer P.units tagIOMP 4
  let r := slice (unitBytes P.units tagIOMP 4) (16 * k) 16
  { used := rd8 r 0 % 2 = 1 && 2 ≤ v, legacyOk := rd8 r 0 / 2 % 2 = 1, vmax := if v = 2 then min 1 (rd8 r 1) else rd8 r 1,
    nbeams := rd8 r 2, mask := BitVec.ofNat 64 (rd64 r 4), identReq := rdw r 12 }

end Sys2Proof.Machine
end

