-- ==== Sys2Proof/Machine/Link.lean ====
section
/-! DEFINITION. One end of a girth link: sending and accepting frames (R297, R300), lane and link errors (R313 to R315). -/

namespace Sys2Proof.Machine

/-- A frame without the lane on which its accepted copy arrived: a sender sends every frame on both lanes (R297). -/
def LinkFrame.bare : LinkFrame → LinkFrame
  | .hello h f => .hello { h with lane := 0 } f
  | .time h f => .time { h with lane := 0 } f
  | .command h f => .command { h with lane := 0 } f
  | .keeper h f => .keeper { h with lane := 0 } f
  | .event h f => .event { h with lane := 0 } f
  | .state h f => .state { h with lane := 0 } f
  | .config h f => .config { h with lane := 0 } f
  | .sample h f => .sample { h with lane := 0 } f

/-- Send a frame: it takes the direction's next SEQ (R299) and stands in the outbox until the other side receives it. -/
def LinkEnd.send (e : LinkEnd) (mk : FrameHdr → LinkFrame) : LinkEnd :=
  { e with txSeq := e.txSeq + 1, outbox := e.outbox ++ [mk ⟨e.txSeq, 0⟩] }

/-- The frame has arrived: it is no longer on its way. -/
def LinkEnd.arrived (e : LinkEnd) (f : LinkFrame) : LinkEnd := { e with outbox := e.outbox.erase f.bare }

/-- Accept a frame at the link layer (R297): the lane must be up, and the SEQ must not be that of one of the last 32
frames accepted. None: the copy is discarded. -/
def LinkEnd.accept (e : LinkEnd) (h : FrameHdr) : Option LinkEnd :=
  if wbit e.lanes h.lane.val && !e.rxSeqs.contains h.seq then
    some { e with rxSeqs := (h.seq :: e.rxSeqs).take 32 }
  else none

/-- Moments of the last millisecond, with a new one put in front. -/
def recent (ck : Nat) (l : List Nat) : List Nat := ck :: l.filter fun t => ck - t < 1000000

/-- A lane error at this end (R313, R314); true when it is the third within 1 ms. -/
def LinkEnd.laneError (e : LinkEnd) (ck : Nat) (lane : Fin 2) : LinkEnd × Bool :=
  let l := recent ck (e.laneErrs.at2 lane)
  ({ e with laneErrs := e.laneErrs.set2 lane l }, decide (3 ≤ l.length))

/-- A link error at this end (R314, R315); true when it is the third within 1 ms. -/
def LinkEnd.linkError (e : LinkEnd) (ck : Nat) : LinkEnd × Bool :=
  let l := recent ck e.linkErrs
  ({ e with linkErrs := l }, decide (3 ≤ l.length))

/-- Link fault declared at this end (R315): it sends nothing for 50 µs, and what was on its way is lost; the SEQs of accepted frames are kept (R297). -/
def LinkEnd.declareFault (e : LinkEnd) : LinkEnd :=
  { e with fault := true, silent := true, outbox := [], laneErrs := .all [], linkErrs := [], retrain := 0, locked := 0, proved := 0 }

/-- The lanes that are down at this end (R311). -/
def LinkEnd.downLanes (e : LinkEnd) : BitVec 2 := ~~~e.lanes

/-- Background retraining begins on some lanes (R311). -/
def LinkEnd.beginRetrain (e : LinkEnd) (m : BitVec 2) : LinkEnd :=
  { e with retrain := e.retrain ||| m, locked := e.locked &&& ~~~m, proved := e.proved &&& ~~~m, lanes := e.lanes &&& ~~~m }

/-- A lane under background retraining has locked at this end. -/
def LinkEnd.retrainLock (e : LinkEnd) (lane : Fin 2) : LinkEnd :=
  if wbit e.retrain lane.val then { e with locked := putBit e.locked lane.val true } else e

/-- A valid frame of the kind that R311 asks for came over a lane: it counts where the lane is retraining and locked. -/
def LinkEnd.prove (e : LinkEnd) (lane : Fin 2) : LinkEnd :=
  if wbit (e.retrain &&& e.locked) lane.val then { e with proved := putBit e.proved lane.val true } else e

/-- A lane rejoins at this end. -/
def LinkEnd.rejoin (e : LinkEnd) (m : BitVec 2) : LinkEnd :=
  { e with lanes := e.lanes ||| m, retrain := e.retrain &&& ~~~m, locked := e.locked &&& ~~~m, proved := e.proved &&& ~~~m }

/-- A lane goes down at this end. -/
def LinkEnd.lose (e : LinkEnd) (lane : Fin 2) : LinkEnd := { e with lanes := putBit e.lanes lane.val false }

/-- An end at which HELLO is complete: no link fault stands any more. -/
def LinkEnd.complete (e : LinkEnd) : LinkEnd := { e with fault := false }

end Sys2Proof.Machine
end

