-- ==== Sys2Proof/Machine/PortalView.lean ====
section
/-! DEFINITION. What a portal die shows: its state registers, the signals of R88, the words of a STATE frame (R305), and the
sending of EVENT and STATE frames (R300, R305, R306). -/

namespace Sys2Proof.Machine

/-- The class code of a guarded state (R111). -/
def Guarded.code : Guarded → Nat
  | .closedLocked => 0
  | .unlocking => 1
  | .opening => 2
  | .opened => 3
  | .closing => 4
  | .obstructed => 5
  | .reopening => 6
  | .locking => 7
  | .isolated => 8
  | .limp => 9
  | .lockedOut => 10
  | .fault => 11
  | .notInUse => 15

/-- The guarded state of a class code; any other code is 'not in use'. -/
def guardedOf : Nat → Guarded
  | 0 => .closedLocked
  | 1 => .unlocking
  | 2 => .opening
  | 3 => .opened
  | 4 => .closing
  | 5 => .obstructed
  | 6 => .reopening
  | 7 => .locking
  | 8 => .isolated
  | 9 => .limp
  | 10 => .lockedOut
  | 11 => .fault
  | _ => .notInUse

/-! ### Axes -/

/-- Drive state other than TORQUE_OFF. -/
def AxisState.enabled (x : AxisState) : Bool := x.drive != .torqueOff

/-- RUN or STOPPING. -/
def AxisState.moving (x : AxisState) : Bool := x.drive == .run || x.drive == .stopping

/-- Code of AX_STAT.DRIVE. -/
def Drive.code : Drive → Nat
  | .torqueOff => 0
  | .align => 1
  | .standstill => 2
  | .run => 3
  | .stopping => 4

/-- The ten flags of R177, flag 0 first. -/
def AxisState.flags (x : AxisState) : List Bool :=
  [x.enabled, x.moving, x.atEnd, x.holdRed, x.holdFirm, x.dutySat, x.lagWarn, !x.enabled, x.trip, x.openDir]

/-- The field supply is in HOLD or in UV, which is entered through it (R355, R357). -/
def PortalState.holding (P : PortalState) : Bool := P.supply.field == .hold || P.supply.field == .uv

/-- The axes moving, or carrying out a reversal (R211). -/
def PortalState.movingAxes (P : PortalState) : List AxisId := [0, 1, 2].filter fun a => (P.axes.get a).moving

/-- Feedback position of an axis in axis units (R149, R176). -/
def PortalState.fbUnits (P : PortalState) (a : AxisId) : Int :=
  divR ((P.fbs.get a).pos * (P.axisCfg a).fbRatio) 65536

/-- The FB_KIND of an axis as the portal die holds it, kind bits only. -/
def PortalState.fbKind (P : PortalState) (a : AxisId) : Nat := (P.fbCfg a).kind

/-! ### Faults present (R143, R353, R497) -/

/-- An analog edge in use reads out of its range in either monitor channel (R207, R214). -/
def PortalState.edgeBad (P : PortalState) : Bool :=
  (P.det.edgMode % 4 == 1 && (decide (P.det.edgConf ≤ P.ob.edges.fst.badRun) || decide (P.det.edgConf ≤ P.mon2.edges.fst.badRun))) ||
  (P.det.edgMode / 4 % 4 == 1 && (decide (P.det.edgConf ≤ P.ob.edges.snd.badRun) || decide (P.det.edgConf ≤ P.mon2.edges.snd.badRun)))

/-- A fault of the portal die is present: VGATE below 9.0 V, V_bus above VOV, the die above its limit, a safety output
that reads high while off, or an analog edge out of range. -/
def PortalState.faultPresent (P : PortalState) : Bool :=
  P.supply.gateUv || P.supply.dieHot || P.sos.fst.stuck || P.sos.snd.stuck || P.edgeBad ||
  (P.vov != 0 && decide (10 * P.vov < P.supply.vbus))

/-! ### State registers -/

/-- A limp jog runs. -/
def PortalState.jogging (P : PortalState) : Bool := P.link.jogOpen || P.link.jogClose

/-- PST_STATE.PCODE. -/
def PortalState.pcode (P : PortalState) : Nat :=
  P.cls.code + 16 * b2n P.ob.stop.isSome + 32 * b2n P.ob.revPend + 64 * b2n P.jogging + 128 * b2n (P.ob.lockCause != 0)

/-- CLASS of the latest accepted COMMAND. -/
def PortalState.lastCls (P : PortalState) : Nat :=
  match P.link.last with
  | some f => f.cls.toNat
  | none => 15

/-- FLAGS bit of the latest accepted COMMAND. -/
def PortalState.lastFlag (P : PortalState) (i : Nat) : Bool :=
  match P.link.last with
  | some f => wbit f.flags i
  | none => false

/-- The portal is released: its latest accepted COMMAND carries RELEASED, and no HELLO has armed the keeper since (R317, R320). -/
def PortalState.released (P : PortalState) : Bool := P.lastFlag 0 && !P.link.keeperArmed

/-- Device state code of the latest accepted COMMAND. -/
def PortalState.dstate (P : PortalState) : Nat :=
  match P.link.last with
  | some f => f.dstate.toNat
  | none => 0

/-- PST_STATE. -/
def PortalState.pstState (P : PortalState) : Word :=
  fmk 31 24 P.pcode ||| bitIf 19 P.faultPresent ||| bitIf 18 (P.ob.lockCause != 0) ||| bitIf 17 P.link.limp |||
  bitIf 16 P.link.up ||| fmk 13 8 P.cust ||| fmk 3 0 P.lastCls

/-- Input channels with a CLS or LCK role. -/
def PortalState.proofRoles (P : PortalState) : BitVec 16 :=
  BitVec.ofNat 16 (bitsOf ((List.range 16).map fun n =>
    P.hasInputs && ((P.inputCfg n).role == 1 || (P.inputCfg n).role == 2)))

/-- The portal is proven (R68): every channel with a CLS or LCK role is proven, and there is one. -/
def PortalState.provenAll (P : PortalState) : Bool :=
  P.proofRoles != 0 && (P.proofRoles &&& ~~~P.proven) == 0

/-- PST_PROOF. -/
def PortalState.pstProof (P : PortalState) : Word := fmk 31 16 P.proofRoles.toNat ||| fmk 15 0 P.proven.toNat

/-- PST_SO. -/
def PortalState.pstSo (P : PortalState) : Word :=
  let a := P.sos.fst
  let b := P.sos.snd
  bitIf 7 b.on ||| bitIf 6 a.on ||| bitIf 5 b.stand ||| bitIf 4 a.stand ||| bitIf 3 b.dem ||| bitIf 2 a.dem |||
  bitIf 1 b.perm ||| bitIf 0 a.perm

/-- Filtered level of the lowest ISO channel A or B. -/
def PortalState.isoChan (P : PortalState) (chb : Bool) : Bool :=
  match (P.roleChans .iso).find? fun n => (P.inputCfg n).chb == chb with
  | some n => wbit P.inputWord n
  | none => false

/-- PST_ISO at a moment of the model's clock. -/
def PortalState.pstIso (P : PortalState) (ck : Nat) : Word :=
  bitIf 31 P.isoDisc ||| bitIf 17 (P.isoChan true) ||| bitIf 16 (P.isoChan false) |||
  fmk 15 0 (match P.agreeAt with
    | some t => min ((ck - t) / 1000000) 0xFFFF
    | none => 0)

/-- PST_REFUSE. -/
def PortalState.pstRefuse (P : PortalState) : Word := fmk 31 24 P.refuseWhy.toNat ||| fmk 15 0 P.refuseCnt

/-- Limp demands that the limp map exports: channels 7 to 0 (harness destinations 0x010 to 0x017). -/
def PortalState.swLimp (P : PortalState) : Nat := P.harness.dest.toNat / 65536 % 256

/-- Portal-local event flags: harness destinations 0x020 to 0x03F. -/
def PortalState.eventFlags (P : PortalState) : Word := BitVec.ofNat 32 (P.harness.dest.toNat / 2 ^ 32)

/-- LH_STAT at a moment of the model's clock. -/
def PortalState.lhStat (P : PortalState) (ck : Nat) : Word :=
  let l := P.link
  bitIf 31 l.limp ||| bitIf 30 l.causePin ||| bitIf 29 l.causeLink ||| bitIf 28 l.holdUntil.isSome |||
  bitIf 27 l.failsafe ||| bitIf 26 l.jogOpen ||| bitIf 25 l.jogClose ||| bitIf 24 l.permitHeld |||
  fmk 23 16 P.swLimp ||| bitIf 15 l.timeFree |||
  fmk 10 0 (match l.holdUntil with
    | some t => (t - ck) / 1000
    | none => 0)

/-! ### Signals (R88, R177) and STATE words (R305) -/

/-- The output reads above 3.0 V: on and not in an off-pulse, or stuck (R352, R353). -/
def SoState.readback (x : SoState) : Bool := x.stuck || (x.on && !x.pulse)

/-- Switch states: channels on. -/
def PortalState.swOn (P : PortalState) : Nat := bitsOf (P.switches.toList.map fun w => w.on)

/-- Switch faults: channels with a latched class. -/
def PortalState.swFaults (P : PortalState) : Nat := bitsOf (P.switches.toList.map fun w => w.cls != .none)

/-- Signal word j: signals 32 j to 32 j + 31. -/
def PortalState.signalWord (P : PortalState) (j : Nat) : Word :=
  match j with
  | 0 => fmk 15 0 P.inputWord.toNat ||| fmk 31 16 P.openWire.toNat
  | 1 => fmk 7 0 P.swOn ||| fmk 15 8 P.swFaults ||| bitIf 16 P.sos.fst.readback ||| bitIf 17 P.sos.snd.readback |||
      bitIf 18 P.curtains.fst.summary ||| bitIf 19 P.curtains.snd.summary
  | 2 => BitVec.ofNat 32 (bitsOf ((P.axes.toList.flatMap fun x => x.flags) ++ [P.supply.vmotLow, P.supply.gateUv]))
  | 3 => fmk 7 0 P.pcode ||| bitIf 8 P.provenAll ||| bitIf 9 (P.cls == .isolated) ||| bitIf 10 P.link.up
  | _ => 0

/-- Signal k, 0 to 127. -/
def PortalState.signal (P : PortalState) (k : Nat) : Bool := wbit (P.signalWord (k / 32)) (k % 32)

/-- Words 0 to 7 of a STATE frame: those whose change causes one. -/
def PortalState.stateHead (P : PortalState) (ck : Nat) : List Word :=
  [P.pstState, P.pstProof, P.pstSo, P.pstIso ck, P.signalWord 0, P.signalWord 1, P.signalWord 2, P.signalWord 3]

/-- Word 13: CSEQ and MSEQ of the latest accepted COMMAND, and PST_REFUSE.REASON. -/
def PortalState.stateWord13 (P : PortalState) : Word :=
  match P.link.last with
  | some f => fmk 31 16 f.cseq.toNat ||| fmk 15 8 f.mseq.toNat ||| fmk 7 0 P.refuseWhy.toNat
  | none => fmk 7 0 P.refuseWhy.toNat

/-- A lag of an axis, in 0.01 mm. With a SCALE of 0 the manual gives no result. -/
def PortalState.lagTenths (P : PortalState) (a : AxisId) (ck : Nat) : Nat :=
  let sc := (P.axisCfg a).scale
  if sc = 0 then Config.measured 100 ck else (divR ((P.axes.get a).lag * 6553600) sc).natAbs

/-- SUPPLY of the stitch record as the supplies stand, but for DUTY_SAT: WARN is entered with any fall of the field supply (R355, R356). -/
def PortalState.supplyByte (P : PortalState) : Byte :=
  let f := P.supply.field
  BitVec.ofNat 8 (bitsOf [f != .normal, f == .hold, f == .uv, P.supply.vswLow, P.supply.vmotLow])

/-- What goes with a STATE frame. -/
def PortalState.note (P : PortalState) (ck : Nat) : PortalNote :=
  let x := P.link
  { lanes := x.fin.lanes, timeErr := x.timeErr, trim := x.trim, keeperAct := x.keeperArmed && !x.lowRate, serve := (x.keeperServe - 1) % 65536,
    keepAt := if x.keeperServe = 1 then none else some x.keeperAt, early := x.early, why := x.why, glEvt := x.glEvt, supply := P.supplyByte,
    vfld := P.supply.vfld, vbus := P.supply.vbus / 10, lag := max (P.lagTenths 0 ck) (P.lagTenths 1 ck), effort := P.ob.effHigh,
    lockCause := P.ob.lockCause, laneErrs := x.laneErrs, linkErrs := x.linkErrs }

/-- The STATE frame built now. -/
def PortalState.stateFrame (P : PortalState) (ck : Nat) : StateFrame :=
  { note := P.note ck, words :=
    { lo := { lo := ⟨P.pstState, P.pstProof, P.pstSo, P.pstIso ck⟩,
              hi := ⟨P.signalWord 0, P.signalWord 1, P.signalWord 2, P.signalWord 3⟩ },
      hi := { lo := ⟨wordOf (P.fbs.get 0).pos, wordOf (P.fbs.get 1).pos, wordOf (P.fbs.get 2).pos, P.ob.cause⟩,
              hi := ⟨P.eventFlags, P.stateWord13, P.lhStat ck, P.link.time.setWidth 32⟩ } } }

/-- Send a STATE frame: what was to be reported for GL_EVT goes with it. -/
def PortalState.sendState (P : PortalState) (ck : Nat) : PortalState :=
  { P with link := { P.link with fin := P.link.fin.send fun h => .state h (P.stateFrame ck), glEvt := 0 } }

/-! ### Events -/

/-- An EVENT frame may go now: no more than eight in any 100 µs (R300). -/
def PortalLink.mayEvent (l : PortalLink) (ck : Nat) : Bool :=
  match l.evtTimes[7]? with
  | some t => decide (100000 ≤ ck - t)
  | none => true

/-- Put an EVENT frame on its way, or queue it where eight have gone in the last 100 µs; a queued event of the same code
and axis is replaced (R300), but curtain traffic is never merged (R465). Nothing is sent while the link is down. -/
def PortalState.pushEvent (P : PortalState) (ck : Nat) (e : EventFrame) : PortalState :=
  let l := P.link
  if !l.up then P
  else if l.mayEvent ck then { P with link := { l with evtTimes := (ck :: l.evtTimes).take 8, fin := l.fin.send fun h => .event h e } }
  else
    let merges := fun (q : EventFrame) => q.code == e.code && q.axis == e.axis && e.code != 0x10 && e.code != 0x11
    { P with link := { l with evtQueue := (l.evtQueue.filter fun q => !merges q) ++ [e] } }

/-- Report an event, stamped with `t`. -/
def PortalState.eventAt (P : PortalState) (ck : Nat) (t : Dword) (code axis : Nat) (args : List Word) : PortalState :=
  P.pushEvent ck { etime := t, code := BitVec.ofNat 8 code, axis := BitVec.ofNat 8 axis, port := 0, parts := 0, args := args }

/-- Report an event at the present portal time. -/
def PortalState.event (P : PortalState) (ck : Nat) (code axis : Nat) (args : List Word) : PortalState :=
  P.eventAt ck P.link.time code axis args

/-- Send what was queued, as far as the frames of the last 100 µs allow. -/
def PortalState.flushEvents (P : PortalState) (ck : Nat) : PortalState :=
  let q := P.link.evtQueue
  q.foldl (fun R e => R.pushEvent ck e) { P with link := { P.link with evtQueue := [] } }

/-- After anything that happened on a portal die: a STATE frame where words 0 to 7 changed (R305). None is sent in low-rate
mode (R327) or while the link is down. -/
def PortalState.reported (Q P : PortalState) (ck : Nat) : PortalState :=
  if P.link.up && !P.link.lowRate && P.stateHead ck != Q.stateHead ck then P.sendState ck else P

end Sys2Proof.Machine
end

