-- ==== Sys2Proof/Machine/Learn.lean ====
section
/-! DEFINITION. Changes of single axes, feedback ports and of the obstacle block, the two monitor channels side by side (R207), and the learning of an
envelope (R237). -/

namespace Sys2Proof.Machine

/-- Change one axis. -/
def PortalState.modAxis (P : PortalState) (a : AxisId) (f : AxisState → AxisState) : PortalState :=
  { P with axes := P.axes.set a (f (P.axes.get a)) }

/-- Change one feedback port, in both monitor channels: each does so to what it holds itself (R207). -/
def PortalState.modFb (P : PortalState) (a : AxisId) (f : FbState → FbState) : PortalState :=
  { P with fbs := P.fbs.set a (f (P.fbs.get a)), mon2 := { P.mon2 with fbs := P.mon2.fbs.set a (f (P.mon2.fbs.get a)) } }

/-- Change every feedback port, in both monitor channels. -/
def PortalState.allFbs (P : PortalState) (f : AxisId → FbState → FbState) : PortalState :=
  { P with fbs := P.fbs.mapIdx f, mon2 := { P.mon2 with fbs := P.mon2.fbs.mapIdx f } }

/-- The portal die as the second monitor channel sees it (R207). -/
def PortalState.asChan2 (P : PortalState) : PortalState :=
  let m := P.mon2
  { P with fbs := m.fbs, ob := { P.ob with eff := m.eff, effHiRun := m.effHiRun, effLoRun := m.effLoRun, lagRun := m.lagRun, envRun := m.envRun,
                                           edges := m.edges, progArmed := m.progArmed } }

/-- What the monitor channel seen in `P` holds of its own. -/
def PortalState.chan (P : PortalState) : MonChan :=
  { fbs := P.fbs, eff := P.ob.eff, effHiRun := P.ob.effHiRun, effLoRun := P.ob.effLoRun, lagRun := P.ob.lagRun, envRun := P.ob.envRun, edges := P.ob.edges,
    progArmed := P.ob.progArmed }

/-- Both monitor channels do the same, each on what it holds itself (R207). -/
def PortalState.both (P : PortalState) (f : PortalState → PortalState) : PortalState := { f P with mon2 := (f P.asChan2).chan }

/-- Change the obstacle block. -/
def PortalState.modOb (P : PortalState) (f : ObState → ObState) : PortalState := { P with ob := f P.ob }

/-- Set a flag of OB_EVT. -/
def PortalState.obFlag (P : PortalState) (i : Nat) : PortalState := P.modOb fun o => { o with evt := raise o.evt i }

/-- The time test of progress supervision runs on an axis, or no longer, in both monitor channels. -/
def PortalState.setProgress (P : PortalState) (a : AxisId) (b : Bool) : PortalState :=
  { P.modOb fun o => { o with progArmed := putBit o.progArmed a.val b } with mon2 := { P.mon2 with progArmed := putBit P.mon2.progArmed a.val b } }

/-- AT_END arms the time test of progress supervision (R211, R220). -/
def PortalState.armProgress (P : PortalState) (a : AxisId) : PortalState :=
  if (P.axes.get a).atEnd && P.det.progTmo != 0 then P.setProgress a true else P

/-! ### Learning (R237) -/

/-- EN of OB_LEARN. -/
def ObState.learnEn (o : ObState) : Bool := wbit o.learn 31

/-- The profile to learn. -/
def ObState.learnProf (o : ObState) : Nat := fget o.learn 29 24

/-- RUNS of OB_LEARN; 0 means 16. -/
def ObState.learnRuns (o : ObState) : Nat := if fget o.learn 19 16 = 0 then 16 else fget o.learn 19 16

/-- Drop the samples of the run in progress. -/
def LearnAxis.clearRun (l : LearnAxis) : LearnAxis :=
  { l with bins := l.bins.map fun b => { b with runN := 0, runSum := 0 } }

/-- A bin with the mean of one accepted run. -/
def LearnBin.accept (b : LearnBin) : LearnBin :=
  if b.runN = 0 then b
  else
    let m := divR b.runSum b.runN
    { runN := 0, runSum := 0, sum := b.sum + m, lo := if b.n = 0 then m else min b.lo m,
      hi := if b.n = 0 then m else max b.hi m, n := b.n + 1 }

/-- The bins after an accepted run. -/
def LearnAxis.accept (l : LearnAxis) : LearnAxis := { l with bins := l.bins.map LearnBin.accept }

/-- A learning run that ends any other way than at AT_END on every named axis is discarded. -/
def PortalState.learnDiscard (P : PortalState) : PortalState :=
  match P.ob.learnRun with
  | none => P
  | some _ =>
    (P.modOb fun o => { o with learnRun := none, runsDisc := satInc o.runsDisc 255,
                               learnAxes := o.learnAxes.map LearnAxis.clearRun }).obFlag 8

/-- A named axis has reached AT_END; when it was the last, the run is accepted, and after RUNS runs learning is done. -/
def PortalState.learnAtEnd (P : PortalState) (a : AxisId) : PortalState :=
  match P.ob.learnRun with
  | none => P
  | some m =>
    let m' := putBit m a.val false
    if m' != 0 then P.modOb fun o => { o with learnRun := some m' }
    else
      let n := P.ob.runsOk + 1
      let P := P.modOb fun o => { o with learnRun := none, runsOk := min n 255, learnAxes := o.learnAxes.map LearnAxis.accept }
      if P.ob.learnRuns ≤ n then (P.modOb fun o => { o with learn := putBit o.learn 31 false }).obFlag 7 else P

/-- A run of profile `n` has begun on an axis, at AT_END already where its distance is 0; a run that started no motion is discarded. The bins
are those of the envelope record, or 128 points from the run's start to its target. A motion that first stops to turn round (R158) is not yet the run. -/
def PortalState.learnBegin (P : PortalState) (a : AxisId) (n : Nat) : PortalState :=
  match P.prof n with
  | none => P
  | some c =>
    if !P.ob.learnEn || n != P.ob.learnProf then P
    else
      let x := P.axes.get a
      let run := match P.ob.learnRun with
        | some r => r
        | none => BitVec.ofNat 3 c.axes
      let Q := P.modOb fun o => { o with learnRun := some run }
      match x.motion with
      | none => if x.atEnd then Q.learnAtEnd a else Q.learnDiscard
      | some m =>
        if m.target != m.goal && m.after != .rest then P else
        let l := P.ob.learnAxes.get a
        let blank : LearnBin := ⟨0, 0, 0, 0, 0, 0⟩
        let l' : LearnAxis :=
          if !l.bins.isEmpty then l.clearRun
          else
            match P.envelope n a with
            | some e => { start := e.start, step := e.step, bins := List.replicate e.npts blank }
            | none => { start := min x.demand m.target, step := max 1 ((|m.target - x.demand| + 126) / 127), bins := List.replicate 128 blank }
        Q.modOb fun o => { o with learnAxes := o.learnAxes.set a l' }

/-- A motion of an axis has ended: at AT_END on a named axis the run goes on to its acceptance, a motion that only turns round first (R158) is not yet
the run, and any other end discards it. -/
def PortalState.learnEnd (P : PortalState) (a : AxisId) (m : Motion) : PortalState :=
  let named := match P.ob.learnRun with
    | some r => wbit r a.val
    | none => false
  if !named || !(m.why == .profile || m.why == .controlledStop) then P
  else if m.endsAtTarget then P.learnAtEnd a
  else if m.target != m.goal && m.after != .rest && m.why == .profile then P
  else P.learnDiscard

/-- An effort sample of a learning run falls into its bin. -/
def PortalState.learnSample (P : PortalState) (a : AxisId) (x : Int) (e : Int) : PortalState :=
  match P.ob.learnRun with
  | none => P
  | some m =>
    let l := P.ob.learnAxes.get a
    if !wbit m a.val || x < l.start || l.step = 0 then P
    else
      let i := ((x - l.start) / l.step).toNat
      let l' := { l with bins := modAt l.bins i fun b => { b with runN := b.runN + 1, runSum := b.runSum + e } }
      P.modOb fun o => { o with learnAxes := o.learnAxes.set a l' }

/-- Learning ends and its results are dropped: the part has left SERVICE. -/
def PortalState.learnClear (P : PortalState) : PortalState :=
  P.modOb fun o => { o with learn := putBit o.learn 31 false, learnRun := none, runsOk := 0, runsDisc := 0,
                            learnAxes := .all {} }

end Sys2Proof.Machine
end

