-- ==== Sys2Proof/Machine/Planner.lean ====
section
/-! DEFINITION. The profile engine's paths (R151, R157 to R159, R223): jerk-limited changes of speed, the stopping point,
runs to a target, and the position, speed and acceleration along a path. Speeds are exact rationals; square roots are
taken to 2^-20 and durations to 1 ns, downwards (DESIGN CHOICE: the manual gives the ideal path and no rounding). -/

namespace Sys2Proof.Machine

/-- The square root of a rational, to 2^-20, downwards. -/
def sqrtR (q : Rat) : Rat :=
  if q ≤ 0 then 0 else mkRat (Nat.sqrt ((q.num.toNat * 2 ^ 40) / q.den)) (2 ^ 20)

/-- Seconds as whole nanoseconds, downwards; a negative time is 0. -/
def nsOf (t : Rat) : Nat := (t * 1000000000).floor.toNat

/-- Nanoseconds as seconds. -/
def secOf (ns : Nat) : Rat := mkRat ns 1000000000

/-- Speed at a time after the start of a segment. -/
def PathSeg.speed (g : PathSeg) (ns : Nat) : Rat :=
  let t := secOf ns
  g.v0 + g.a0 * t + g.jerk * t * t / 2

/-- Acceleration at a time after the start of a segment. -/
def PathSeg.accel (g : PathSeg) (ns : Nat) : Rat := g.a0 + g.jerk * secOf ns

/-- Travel from the start of a segment. -/
def PathSeg.travel (g : PathSeg) (ns : Nat) : Rat :=
  let t := secOf ns
  g.v0 * t + g.a0 * t * t / 2 + g.jerk * t * t * t / 6

/-- Travel of a whole path. -/
def pathTravel (p : List PathSeg) : Rat := p.foldl (fun x g => x + g.travel g.dur) 0

/-- Duration of a whole path. -/
def pathDur (p : List PathSeg) : Nat := p.foldl (fun x g => x + g.dur) 0

/-- Travel of a path up to a time. -/
def pathTravelTo : List PathSeg → Nat → Rat
  | [], _ => 0
  | g :: r, t => if t ≤ g.dur then g.travel t else g.travel g.dur + pathTravelTo r (t - g.dur)

/-- Advance along a path: the segments left and the time spent in the first of them. -/
def pathAdvance : List PathSeg → Nat → List PathSeg × Nat
  | [], t => ([], t)
  | g :: r, t => if t < g.dur then (g :: r, t) else pathAdvance r (t - g.dur)

/-- The speed at which an acceleration `a0`, brought to 0 at the jerk `j` (0: unlimited), has come to 0. -/
def settleSpeed (v0 a0 : Rat) (j : Nat) : Rat := if j = 0 then v0 else v0 + a0 * |a0| / (2 * j)

/-- A change of speed from (v0, a0) to (v1, 0) in the direction `sg` (1 or -1) at the acceleration limit `lim` and the jerk `j` above 0, as segments
`num`, `num` + 1 and `num` + 2. The peak acceleration is the square root of the speed change times the jerk where that stays below the limit
(R151). A present acceleration of the same sense above the limit is brought down to it at the jerk (log entry 50). -/
def rampGo (num : Nat) (sg v0 a0 v1 : Rat) (lim j : Nat) : List PathSeg :=
  let du := sg * (v1 - v0)
  let b := sg * a0
  let J : Rat := j
  let p := sqrtR (J * du + b * b / 2)
  let pk : Rat := if p ≤ lim then p else lim
  let up := decide (b ≤ pk)
  let t1 := nsOf ((if up then pk - b else b - pk) / J)
  let s1 : PathSeg := ⟨num, t1, v0, a0, if up then sg * J else -(sg * J)⟩
  let d1 := sg * (s1.speed t1 - v0)
  let t2 := if p ≤ lim then 0 else nsOf ((du - d1 - pk * pk / (2 * J)) / pk)
  let s2 : PathSeg := ⟨num + 1, t2, s1.speed t1, sg * pk, 0⟩
  [s1, s2, ⟨num + 2, nsOf (pk / J), s2.speed t2, sg * pk, -(sg * J)⟩]

/-- The first part of a rise of speed that begins while the axis still decelerates: the deceleration is brought to 0 first, as segment 7. -/
def riseLead (v0 a0 : Rat) (j : Nat) : List PathSeg := if a0 < 0 ∧ j ≠ 0 then [⟨7, nsOf (-a0 / j), v0, a0, j⟩] else []

/-- A change of speed from (v0, a0) to (v1, 0) in the direction of motion: segments 1 to 3 where it rises, 5 to 7 where it falls. Which of the two is
judged from the speed at which the present acceleration can have come to 0. A deceleration that would pass standstill before its jerk has brought it to
0 ends at standstill, its jerk being raised as far as that takes (log entry 50). Segments of no duration are dropped. -/
def ramp (v0 a0 v1 : Rat) (amax dmax j : Nat) : List PathSeg :=
  let vs := settleSpeed v0 a0 j
  let segs : List PathSeg :=
    if j = 0 then
      if v0 ≤ v1 then [⟨2, nsOf ((v1 - v0) / amax), v0, amax, 0⟩] else [⟨6, nsOf ((v0 - v1) / dmax), v0, -(dmax : Rat), 0⟩]
    else if vs < 0 ∧ a0 < 0 then
      let t := 2 * v0 / (-a0)
      ⟨7, nsOf t, v0, a0, if t = 0 then 0 else -a0 / t⟩ :: rampGo 1 1 0 0 v1 amax j
    else if vs ≤ v1 then
      let l := riseLead v0 a0 j
      if l.isEmpty then rampGo 1 1 v0 a0 v1 amax j else l ++ rampGo 1 1 vs 0 v1 amax j
    else rampGo 5 (-1) v0 a0 v1 dmax j
  segs.filter fun g => g.dur != 0

/-- The deceleration to standstill from (v0, a0) at the limit `d` and the jerk `j`, as segments 5 to 7. -/
def stopPath (v0 a0 : Rat) (d j : Nat) : List PathSeg := ramp v0 a0 0 d d j

/-- A path whose segments all report code 8 (R150). -/
def asStop (p : List PathSeg) : List PathSeg := p.map fun g => { g with num := 8 }

/-- Speed and direction limits of a motion. -/
structure Limits where
  vmax : Nat
  amax : Nat
  dmax : Nat
  jerk : Nat
  deriving DecidableEq, Repr

/-- The path that reaches the speed `vp` and comes to rest from there, without a cruise. Directions are positive. -/
def upDown (v0 a0 vp : Rat) (l : Limits) : List PathSeg := ramp v0 a0 vp l.amax l.dmax l.jerk ++ stopPath vp 0 l.dmax l.jerk

/-- The highest peak speed, in 1/65,536 unit/s, between two bounds whose path is no longer than `dist`. -/
def peakSearch (v0 a0 dist : Rat) (l : Limits) : Nat → Nat → Nat → Nat
  | 0, lo, _ => lo
  | k + 1, lo, hi =>
    let m := (lo + hi + 1) / 2
    if pathTravel (upDown v0 a0 (mkRat m 65536) l) ≤ dist then peakSearch v0 a0 dist l k m hi
    else peakSearch v0 a0 dist l k lo (m - 1)

/-- A run over `dist` from (v0, a0), all in the direction of motion and no shorter than the way to standstill (R151, R158): cruise at VMAX where the
distance allows it, and otherwise by way of the highest speed that it allows, which lies below the present one where the target is near the stopping
point. -/
def runPath (v0 a0 dist : Rat) (l : Limits) : List PathSeg :=
  let tr := pathTravel (upDown v0 a0 l.vmax l)
  if tr ≤ dist then
    ramp v0 a0 l.vmax l.amax l.dmax l.jerk ++
      (({ num := 4, dur := nsOf ((dist - tr) / l.vmax), v0 := l.vmax, a0 := 0, jerk := 0 } : PathSeg) :: stopPath l.vmax 0 l.dmax l.jerk)
  else upDown v0 a0 (mkRat (peakSearch v0 a0 dist l 50 0 (l.vmax * 65536)) 65536) l

/-- A path turned into the negative direction. -/
def negPath (p : List PathSeg) : List PathSeg := p.map fun g => { g with v0 := -g.v0, a0 := -g.a0, jerk := -g.jerk }

/-- A path in the open (positive) or the close direction. -/
def dirPath (isOpen : Bool) (p : List PathSeg) : List PathSeg := if isOpen then p else negPath p

/-- The shortest time, in ns, in which a path travels one unit, by bisection over its duration. -/
def firstUnitGo (p : List PathSeg) : Nat → Nat → Nat → Nat
  | 0, _, hi => hi
  | k + 1, lo, hi =>
    let m := (lo + hi) / 2
    if 1 ≤ |pathTravelTo p m| then firstUnitGo p k lo m else firstUnitGo p k (m + 1) hi

/-- The time, in ns, at which a path that starts at rest has travelled its first unit. -/
def firstUnit (p : List PathSeg) : Nat := firstUnitGo p 64 0 (pathDur p)

end Sys2Proof.Machine
end

