-- ==== Sys2Proof/Machine/Motion.lean ====
section
/-! DEFINITION. The axes of a portal die: torque off, enabling (R149, R150), runs, replacements and controlled stops (R157 to
R160), the step timer (R162, R163), and what follows a motion's end. -/

namespace Sys2Proof.Machine

/-- Set a flag of AX_EVT. -/
def AxisState.flag (x : AxisState) (i : Nat) : AxisState := { x with evt := raise x.evt i }

/-! ### Torque off -/

/-- TORQUE_OFF (R148): every gate low, no motion, no current demand. -/
def AxisState.off (x : AxisState) : AxisState :=
  { x with drive := .torqueOff, precharge := false, queued := none, motion := none, segment := 0, holdRed := false,
           dutySat := false, rate := 0, ival := 0, carry := 0, timer := 0, iDemand := 0, iPrev := 0,
           dnow := 0, dutyNext := .all 0, duty := .all 0, lagWarn := false, hallOff := false }

/-- Torque removed from an axis. -/
def PortalState.axisOff (P : PortalState) (a : AxisId) : PortalState := P.modAxis a AxisState.off

/-- Torque removed from all three axes. -/
def PortalState.allOff (P : PortalState) : PortalState := { P with axes := P.axes.map AxisState.off }

/-! ### Speed and intervals -/

/-- Demanded speed and acceleration at the present place of a motion; 0 once its path has run out. -/
def Motion.now (m : Motion) : Rat × Rat :=
  match m.path with
  | [] => (0, 0)
  | g :: _ => (g.speed m.tau, g.accel m.tau)

/-- The SEGMENT code of the present place of a motion; the last one once its path has run out. -/
def Motion.segmentNow (m : Motion) (last : Nat) : Nat :=
  match m.path with
  | [] => last
  | g :: _ => g.num

/-- The interval of a speed in units/s, in 1/256 of a 10 ns tick (R162); none for a speed so low that the interval passes
2^32 ticks, which counts as standstill (R163). -/
def intervalOf (v : Rat) : Option Nat :=
  if v = 0 then none
  else
    let i := (25600000000 / |v|).floor.toNat
    if 2 ^ 40 < i then none else some i

/-- The place of a motion on its path `ns` nanoseconds on. -/
def Motion.ahead (m : Motion) (ns : Nat) : Motion :=
  let (p, t) := pathAdvance m.path (m.tau + ns)
  { m with path := p, tau := t }

/-- The interval of the next step (R162): that of the path's speed at the middle of the step, half the interval of the present speed on (log entry 236).
Towards the end of a path whose speed then counts as standstill it is that of the present speed. -/
def Motion.stepInterval (m : Motion) : Option Nat :=
  (intervalOf m.now.1).map fun i => (intervalOf (m.ahead (i * 5 / 256)).now.1).getD i

/-- Load the step timer with an interval (R162, R163): the fraction is carried, and an interval below 50 ticks is clipped. -/
def AxisState.load (x : AxisState) (i : Nat) : AxisState :=
  if i < 50 * 256 then ({ x with ival := i, timer := 50, carry := 0, rateClip := true } : AxisState).flag 8
  else { x with ival := i, timer := (i + x.carry) / 256, carry := (i + x.carry) % 256, rateClip := false }

/-- Set an axis in motion. The step timer is loaded for the first step when the motion starts at rest; an axis already
stepping keeps the interval that is running. -/
def AxisState.start (x : AxisState) (m : Motion) (d : Drive) : AxisState :=
  let v := m.now.1
  let y : AxisState := { x with motion := some m, drive := d, segment := m.segmentNow x.segment, profile := m.profile,
                                openDir := decide (x.demand < m.target), holdRed := false, rate := ratR v }
  if v = 0 ∨ x.timer = 0 then
    let i := match m.stepInterval with
      | some i => i
      | none => firstUnit m.path * 256 / 10
    { y with carry := 0 }.load i
  else y

/-! ### Ends of motions -/

/-- Enter STANDSTILL at full current (R172). -/
def AxisState.rest (x : AxisState) (ck : Nat) : AxisState :=
  { x with drive := .standstill, motion := none, segment := 0, rate := 0, ival := 0, timer := 0, carry := 0,
           holdRed := false, holdFrom := ck }

/-- Reduced current at once, unless hold-firm is asserted (R172, R357). -/
def AxisState.reduce (x : AxisState) (ck : Nat) : AxisState :=
  if x.holdFirm then x else { x with holdRed := true, redAt := ck }

/-! ### Profiles (R157, R158) -/

/-- The limits of a profile. -/
def ProfCfg.limits (c : ProfCfg) : Limits := ⟨c.vmax, c.amax, c.dmax, c.jerk⟩

/-- Start a motion from rest over a signed distance in the direction `isOpen` (R157). A distance of 0 sets AT_END; a sign
against the direction sets DIR_CONFLICT; neither starts a motion. -/
def AxisState.runFrom (x : AxisState) (isOpen : Bool) (dist : Int) (l : Limits) (why : MotionWhy) (prof iRun iAcc : Nat) :
    AxisState :=
  if dist = 0 then { x with atEnd := true, profile := prof }
  else if (0 < dist) != isOpen then x.flag 7
  else
    let m : Motion := { why := why, profile := prof, target := x.demand + dist, goal := x.demand + dist,
                        path := dirPath isOpen (runPath 0 0 |dist| l), tau := 0, frac := 0, after := .rest, endsAtTarget := true, iRun := iRun, iAcc := iAcc }
    { x with atEnd := false }.start m .run

/-- The demanded speed and acceleration of an axis; 0 at rest. -/
def AxisState.pace (x : AxisState) : Rat × Rat :=
  match x.motion with
  | some m => m.now
  | none => (0, 0)

/-- A profile's signed distance from the demanded position (R157). -/
def ProfCfg.distance (c : ProfCfg) (demand : Int) : Int := if c.relative then c.target else c.target - demand

/-- The position that a profile's target names (R157). -/
def ProfCfg.goal (c : ProfCfg) (demand : Int) : Int := demand + c.distance demand

/-- Judge a profile from standstill, with the target that it has (R157, R158). -/
def AxisState.runProfile (x : AxisState) (n : Nat) (c : ProfCfg) (goal : Int) : AxisState :=
  { x with atEnd := false }.runFrom (!c.close) (goal - x.demand) c.limits .profile n c.iRun c.iAcc

/-- Replace the motion of an axis in RUN or STOPPING (R158). A stopping point at the present position is reached at once. -/
def AxisState.replaceProfile (x : AxisState) (ck : Nat) (m : Motion) (n : Nat) (c : ProfCfg) (goal : Int) : AxisState :=
  let (v, a) := m.now
  let isOpen := !c.close
  let sg : Rat := if isOpen then 1 else -1
  let v' := sg * v
  let a' := sg * a
  let l := c.limits
  let base : Motion := { why := .profile, profile := n, target := 0, goal := goal, path := [], tau := 0, frac := 0, after := .rest,
                         endsAtTarget := false, iRun := c.iRun, iAcc := c.iAcc }
  let y : AxisState := { x with atEnd := false }
  let here : AxisState := { y.rest ck with profile := n }
  if v' < 0 then
    -- the present motion opposes the profile: to standstill first, then judged from there
    let p := stopPath (-v') (-a') l.dmax l.jerk
    let d : Int := (pathTravel p).floor
    if d = 0 then (y.rest ck).runProfile n c goal
    else y.start { base with target := x.demand + (if isOpen then -d else d), path := dirPath (!isOpen) p, after := .judgeProfile n goal } .run
  else
    let p := stopPath v' a' l.dmax l.jerk
    let d : Int := (pathTravel p).floor
    let stopAt := x.demand + (if isOpen then d else -d)
    let ahead : Int := if isOpen then goal - stopAt else stopAt - goal
    if 0 < ahead then
      y.start { base with target := goal, path := dirPath isOpen (runPath v' a' |goal - x.demand| l), endsAtTarget := true } .run
    else if ahead = 0 then
      if d = 0 then { here with atEnd := true } else y.start { base with target := stopAt, path := dirPath isOpen p, endsAtTarget := true } .run
    else (if d = 0 then here else y.start { base with target := stopAt, path := dirPath isOpen p } .run).flag 7

/-! ### Controlled stops (R159) -/

/-- The deceleration and jerk of a controlled stop of a motion: those of its profile, of a limp jog, or the axis DSTOP where no
profile runs. -/
def PortalState.stopLimits (P : PortalState) (a : AxisId) (m : Motion) : Nat × Nat :=
  let x := P.axisCfg a
  match m.why with
  | .jogOpen | .jogClose => (unitsOfTenths x.scale 2500, unitsOfTenths x.scale 10000)
  | _ =>
    match P.prof m.profile with
    | some c => (c.dstop, c.jerk)
    | none => (x.dstop, 0)

/-- Bring a moving axis to a controlled stop (R159), after which `after` holds. A stop already under way, a safe stop or a reversal is not replaced; the
former takes the new sequel. `own`: the portal die begins it of its own accord (R22). One that ends where it begins ends a learning run there (R237). -/
def PortalState.controlledStop (P : PortalState) (ck : Nat) (a : AxisId) (after : MotionAfter) (own : Bool) : PortalState :=
  let x := P.axes.get a
  match x.motion with
  | none => P
  | some m =>
    match m.why with
    | .safeStop => P
    | .controlledStop => P.modAxis a fun x => { x with motion := some { m with after := after, own := m.own || own } }
    | _ =>
      let (v, ac) := m.now
      let sg : Rat := if v < 0 ∨ (v = 0 ∧ m.target < x.demand) then -1 else 1
      let (d, j) := P.stopLimits a m
      let p := stopPath (sg * v) (sg * ac) d j
      let n : Int := (pathTravel p).floor
      let stopAt := x.demand + (if sg = 1 then n else -n)
      let m' : Motion := { m with why := .controlledStop, target := stopAt, path := asStop (dirPath (sg = 1) p), tau := 0, frac := 0,
                                  after := after, endsAtTarget := decide (stopAt = m.goal), own := own }
      if stopAt = x.demand then
        ((P.modAxis a fun x =>
          let y := { x with atEnd := x.atEnd || m'.endsAtTarget }.rest ck
          if after = .torqueOff then y.off else if after = .restReduced || P.holding then y.reduce ck else y).learnEnd a m').armProgress a
      else P.modAxis a fun x => x.start m' .stopping

/-! ### Enabling (R149, R150) -/

/-- The axis can be enabled: it is used and its units are held, no lock-out is latched, the monitor's full self-test has passed (R209), no trip is
latched, the latest detection of its feedback port is over and found the configured kind (R181; log entry 237), and the field supply is not in UV
(R358). -/
def PortalState.canEnable (P : PortalState) (a : AxisId) : Bool :=
  (P.axisCfg a).kind != 0 && P.ob.lockCause == 0 && P.ob.selftestOk && !P.ob.selftest.isSome && !(P.axes.get a).trip &&
  ((P.fbCfg a).kindByte == 0 || (P.fbs.get a).passed) && P.supply.field != .uv && !P.link.lowRate

/-- A trip (R170): torque off, its flag, TRIP, and TRIP_CNT. -/
def AxisState.tripped (x : AxisState) (i : Nat) : AxisState :=
  ({ x.off with trip := true, tripCnt := satInc x.tripCnt 0xFFFF } : AxisState).flag i

/-- One axis trips, and reports it. -/
def PortalState.tripAxis (P : PortalState) (ck : Nat) (i : Nat) (a : AxisId) : PortalState :=
  let P := P.modAxis a fun x => x.tripped i
  P.event ck 0x08 a.val [(P.axes.get a).evt]

/-- All three axes trip. FAULT follows at the end of the command (R129): see `tripFault`. -/
def PortalState.tripAll (P : PortalState) (ck : Nat) (i : Nat) : PortalState :=
  ((P.tripAxis ck i 0).tripAxis ck i 1).tripAxis ck i 2

/-- Microsteps of one electrical period (R147). -/
def AxisCfg.period (c : AxisCfg) : Nat := if c.kind = 1 then 4 * 2 ^ c.micro else 6 * 2 ^ c.micro

/-- The electrical angle at which ALIGN energises the coils: the nearest full step, or the centre of the Hall sector on a kind 2
axis with HALL_ALIGN (R149, R189); of two full steps equally near the later one, and the nearest full step also where no valid Hall code has been
seen (log entry 190). -/
def PortalState.alignAngle (P : PortalState) (a : AxisId) : Int :=
  let c := P.axisCfg a
  let x := P.axes.get a
  let s := (P.fbs.get a).hallSector.toNat
  if c.kind = 2 ∧ c.hallAlign ∧ s ≠ 7 then divR ((2 * s + 1) * (2 ^ c.micro : Nat)) 2
  else
    let full : Int := (2 ^ c.micro : Nat)
    (2 * x.theta + full) / (2 * full) * full % (c.period : Int)

/-- Begin to enable an axis in TORQUE_OFF, a GATE_UV that it finds being a trip (R490): the low sides charge the bootstraps, the demanded position takes
the feedback position, and ALIGN follows at its own angle where an electrical reference is wanted and none is held. With a reference held the angle is
that of the demanded position (log entry 191). A first Hall edge that has not come yet is still awaited after a disable (R149). -/
def PortalState.enable (P : PortalState) (ck : Nat) (a : AxisId) : PortalState :=
  let c := P.axisCfg a
  let x := P.axes.get a
  if x.drive != .torqueOff || !P.canEnable a then P
  else if P.supply.gateUv then P.tripAll ck 13
  else
    let noFb := P.fbKind a == 0
    let held := x.refTheta + (if c.dirInv then -1 else 1) * (P.fbUnits a - divR (x.refCounter * c.fbRatio) 65536)
    let th := if !x.aligned then P.alignAngle a else if noFb then x.theta else held % (c.period : Int)
    let x : AxisState := { x with precharge := true, demand := if noFb then x.demand else P.fbUnits a, lag := 0,
                                  holdFrom := ck, aligned := x.aligned || c.kind == 3 }
    let x : AxisState := { x with drive := if x.aligned then .standstill else .align, theta := if c.kind == 3 then x.theta else th,
                                  hallAwait := x.hallAwait || (!x.aligned && c.kind == 2 && c.hallAlign) }
    let P' := { P with axes := P.axes.set a x, ob := { P.ob with removed := .all false } }
    P'.modFb a fun f => { f with idxArmed := (P.fbCfg a).armsIndex }

/-- End of ALIGN: the feedback position becomes the axis's electrical reference, at the angle that the coils now have. -/
def PortalState.alignEnd (P : PortalState) (ck : Nat) (a : AxisId) : PortalState :=
  P.modAxis a fun x => { x with drive := .standstill, aligned := true, refTheta := x.theta, refCounter := (P.fbs.get a).pos, holdFrom := ck }

/-! ### Motion bytes (R124) and run commands -/

/-- OP of a MOTION byte. -/
def motionOp (b : Byte) : Nat := b.toNat / 64

/-- Profile index of a MOTION byte. -/
def motionProf (b : Byte) : Nat := b.toNat % 64

/-- A MOTION byte that runs profile `n`. -/
def runByte (n : Nat) : Byte := BitVec.ofNat 8 (64 + n)

/-- The axes that a profile names. -/
def ProfCfg.axisList (c : ProfCfg) : List AxisId := [0, 1, 2].filter fun a => c.axes / 2 ^ a.val % 2 = 1

/-- The axis is enabled, or can be enabled without a trip (R160). -/
def PortalState.ready (P : PortalState) (a : AxisId) : Bool :=
  (P.axes.get a).enabled || (P.canEnable a && !P.supply.gateUv)

/-- A profile of several axes starts only when every axis that it names is ready (R160). -/
def PortalState.profReady (P : PortalState) (c : ProfCfg) : Bool :=
  c.axisList.length ≤ 1 || c.axisList.all fun a => P.ready a

/-- The axis is enabled and past its precharge and ALIGN. -/
def AxisState.canStep (x : AxisState) : Bool := x.drive != .torqueOff && x.drive != .align && !x.precharge

/-- Start several axes from the same tick (R151): those that are enabled, once none of them still precharges or aligns. -/
def PortalState.together (P : PortalState) (g : List AxisId) (go : PortalState → AxisId → PortalState) : PortalState :=
  let g := g.filter fun i => (P.axes.get i).enabled
  if g.all fun i => (P.axes.get i).canStep then g.foldl go P else P

/-- Without the opening permission of the latest accepted COMMAND no motion of direction open starts (R117). -/
def PortalState.permits (P : PortalState) (c : ProfCfg) : Bool := c.close || P.lastFlag 1

/-- Run profile `n` to a goal on an axis that is enabled and at rest or in motion (R157, R158). -/
def PortalState.runNow (P : PortalState) (ck : Nat) (a : AxisId) (n : Nat) (goal : Int) : PortalState :=
  match P.prof n with
  | none => P
  | some c =>
    if !P.permits c then P
    else
      let P := P.modAxis a fun x =>
        match x.drive, x.motion with
        | .run, some m | .stopping, some m => x.replaceProfile ck m n c goal
        | _, _ => x.runProfile n c goal
      (P.armProgress a).learnBegin a n

/-- Judge a profile from the standstill that its replacement first brought the axis to (R158, first case). -/
def PortalState.runJudged (P : PortalState) (a : AxisId) (n : Nat) (goal : Int) : PortalState :=
  match P.prof n with
  | none => P
  | some c => if P.permits c then ((P.modAxis a fun x => x.runProfile n c goal).armProgress a).learnBegin a n else P

/-- The runs queued on axes start together with the same run queued on others (R151), and none of them in brown-out hold (R357; log entry 240). -/
def PortalState.runQueued (P : PortalState) (ck : Nat) (a : AxisId) : PortalState :=
  match (P.axes.get a).queued with
  | none => P
  | some b =>
    if P.holding then P
    else P.together (([0, 1, 2] : List AxisId).filter fun i => (P.axes.get i).queued == some b) fun R i =>
      (R.modAxis i fun x => { x with queued := none }).runNow ck i (motionProf b) (R.axes.get i).queuedGoal

/-- Where profile `c` ends on axis `a`, one of the axes `g` that it drives: it is planned once (R151), so each axis whose demand moves as that of the
lowest-numbered of them travels its distance; any other is planned from its own place and speed (log entry 239). -/
def PortalState.goalOf (P : PortalState) (g : List AxisId) (c : ProfCfg) (a : AxisId) : Int :=
  let x := P.axes.get a
  match g with
  | [] => c.goal x.demand
  | l :: _ => if x.pace = (P.axes.get l).pace then x.demand + c.distance (P.axes.get l).demand else c.goal x.demand

/-- A run-profile command of the kernel to the axes `g`, which are those that its profile names (R150, R151, R157 to R160). AT_END and HOLD_RED clear
when it is accepted (R161, R172), and its target is fixed then (R157). All of them start, or have their motion replaced, from the same tick: at once,
unless one of them is still being enabled. -/
def PortalState.runCommand (P : PortalState) (ck : Nat) (g : List AxisId) (n : Nat) : PortalState :=
  match P.prof n with
  | none => P
  | some c =>
    if !P.profReady c then
      (g.foldl (fun R a => R.modAxis a fun x => x.flag 6) P).event ck 0x07 (g.headD 0).val [BitVec.ofNat 32 (runByte n).toNat]
    else
      let P := if P.ob.learnRun.isSome && g.any fun a => (P.axes.get a).moving then P.learnDiscard else P
      let P := g.foldl (fun R a => R.modAxis a fun x => { x with atEnd := false, holdRed := false }) P
      let P := g.foldl (fun R a => if (R.axes.get a).drive = .torqueOff then R.enable ck a else R) P
      let goal := P.goalOf g c
      let P := g.foldl (fun R a => R.modAxis a fun x => if x.enabled then { x with queued := some (runByte n), queuedGoal := goal a } else x) P
      g.foldl (fun R a => R.runQueued ck a) P

/-- The sequel of a controlled stop that rests: at reduced current at once in brown-out hold (R357). -/
def PortalState.restAfter (P : PortalState) : MotionAfter := if P.holding then .restReduced else .rest

/-- A controlled-stop command (R150, R159): an axis in TORQUE_OFF is enabled; a moving one stops; at standstill it ends where it begins, at full current
(R161, R172) outside brown-out hold (R357). -/
def PortalState.stopCommand (P : PortalState) (ck : Nat) (a : AxisId) : PortalState :=
  let P := P.modAxis a fun x => { x with queued := none, atEnd := false }
  let x := P.axes.get a
  if x.drive = .torqueOff then P.enable ck a
  else if x.moving then P.controlledStop ck a P.restAfter false
  else if x.canStep then P.modAxis a fun x => if P.holding then (x.rest ck).reduce ck else x.rest ck
  else P

/-- A disable command (R150): a moving axis stops first; any other enters TORQUE_OFF at once. -/
def PortalState.disableCommand (P : PortalState) (ck : Nat) (a : AxisId) : PortalState :=
  let P := P.modAxis a fun x => { x with queued := none, atEnd := false }
  if (P.axes.get a).moving then P.controlledStop ck a .torqueOff false else P.axisOff a

/-! ### Reversals and jogs -/

/-- Start the reversal of one axis that is enabled and at rest (R156, R225). -/
def PortalState.startReversal (P : PortalState) (a : AxisId) : PortalState :=
  let o := P.revOrder P.ob.revCust
  match P.prof o.profile with
  | none => P
  | some c =>
    (P.modAxis a fun x =>
      let d : Int := unitsOfTenths (P.axisCfg a).scale o.dist
      let dist := if o.kind = 2 then (if c.close then -d else d) else c.distance x.demand
      { x with atEnd := false }.runFrom (!c.close) dist c.limits .reversal o.profile c.iRun c.iAcc).armProgress a

/-- The lowest-numbered valid leaf profile of a direction (R330): both leaves, not the step, absolute target. -/
def PortalState.leafProfile (P : PortalState) (isOpen : Bool) : Option Nat :=
  (List.range 64).find? fun n =>
    match P.prof n with
    | some c => c.axes == 3 && !c.relative && c.close != isOpen
    | none => false

/-- Start a limp jog on one leaf that is enabled and at rest (R330). -/
def PortalState.startJog (P : PortalState) (a : AxisId) (isOpen : Bool) : PortalState :=
  match P.leafProfile isOpen with
  | none => P
  | some n =>
    match P.prof n with
    | none => P
    | some c =>
      let s := (P.axisCfg a).scale
      let l : Limits := ⟨50 * s / 65536, unitsOfTenths s 2500, unitsOfTenths s 2500, unitsOfTenths s 10000⟩
      (P.modAxis a fun x =>
        if x.motion.isSome then x
        else
          { x with atEnd := false }.runFrom isOpen (c.target - x.demand) l (if isOpen then .jogOpen else .jogClose) n c.iRun
            c.iAcc).armProgress a

/-- A limp jog of the given direction may start: no lock-out, both leaves hold an electrical reference and are enabled or can be, and an opening jog has
the opening permission of the last accepted COMMAND (R117, R330, R331; log entry 242). -/
def PortalState.jogOk (P : PortalState) (isOpen : Bool) : Bool :=
  P.ob.lockCause == 0 && P.axes.x0.aligned && P.axes.x1.aligned && P.ready 0 && P.ready 1 && (!isOpen || P.lastFlag 1)

/-- Limp jogs end. -/
def PortalState.endJog (P : PortalState) : PortalState :=
  { P with link := { P.link with jogOpen := false, jogClose := false } }

/-- A limp jog whose leaves are being enabled: both start from the same tick once both can step (R151), and neither does in brown-out hold (R357) or
where the jog is no longer allowed (R117, R330). -/
def PortalState.jogStart (P : PortalState) : PortalState :=
  let isOpen := P.link.jogOpen
  if P.holding || !P.jogOk isOpen then (if P.movingAxes.isEmpty then P.endJog else P)
  else if P.axes.x0.canStep && P.axes.x1.canStep then (P.startJog 0 isOpen).startJog 1 isOpen
  else P

/-- What an axis does once it is enabled: a limp jog, a reversal, or the command that enabled it, each together with the other axes concerned. -/
def PortalState.onEnabled (P : PortalState) (ck : Nat) (a : AxisId) : PortalState :=
  if P.link.limp && P.jogging then P.jogStart
  else
    match P.ob.reversal with
    | some m => P.together (([0, 1, 2] : List AxisId).filter fun i => wbit m i.val) PortalState.startReversal
    | none => P.runQueued ck a

/-- End of the low-side precharge (R149). -/
def PortalState.prechargeEnd (P : PortalState) (ck : Nat) (a : AxisId) : PortalState :=
  let x := P.axes.get a
  if !x.precharge then P
  else
    let P := P.modAxis a fun x => { x with precharge := false }
    if x.drive = .standstill then P.onEnabled ck a else P

/-! ### Steps (R162 to R164) -/

/-- One step of an axis: the demanded position and, on kinds 1 and 2, the electrical angle move by one. -/
def AxisState.stepOnce (x : AxisState) (c : AxisCfg) (up : Bool) : AxisState :=
  let d : Int := if up then 1 else -1
  let e : Int := if c.dirInv then -d else d
  { x with demand := x.demand + d, theta := if c.kind = 3 then x.theta else (x.theta + e) % (c.period : Int) }

/-- After a step that is not the last: the place on the path moves on by the interval, and the timer takes the next
interval (R162). Once the path has run out, or its speed counts as standstill, the last interval is kept. -/
def AxisState.nextStep (x : AxisState) (m : Motion) : AxisState :=
  let n := x.ival * 5 + m.frac
  let m' : Motion := { m.ahead (n / 128) with frac := n % 128 }
  let y : AxisState := { x with motion := some m', segment := m'.segmentNow x.segment }
  match m'.stepInterval with
  | some i => { y with rate := ratR m'.now.1 }.load i
  | none => y.load x.ival

end Sys2Proof.Machine
end

