-- ==== Sys2Proof/Machine/Switches.lean ====
section
/-! DEFINITION. Protected switches (R342 to R349), the demands that reach them (R304, R321, R329), sensor supplies (R350) and
the safety outputs (R24 to R26, R71, R351 to R354) of a portal die. -/

namespace Sys2Proof.Machine

/-- Change one switch channel. -/
def PortalState.modSw (P : PortalState) (n : Fin 8) (f : SwitchState → SwitchState) : PortalState :=
  { P with switches := P.switches.set n (f (P.switches.get n)) }

/-- The channels in order. -/
def chans8 : List (Fin 8) := [0, 1, 2, 3, 4, 5, 6, 7]

/-! ### The limp map (R94) -/

/-- A destination that some used cell of the portal harness exports. -/
def PortalState.limpExports (P : PortalState) (dest : Nat) : Bool :=
  let b := unitBytes P.units tagHARN 1
  (List.range (b.length / 16)).any fun i =>
    rd8 b (16 * i + 11) / 128 == 1 && rd16 b (16 * i + 14) / 32768 == 1 && rd16 b (16 * i + 14) % 8192 == dest

/-- The demanded state of channel `n` (R342): its limp demand in LIMP where the limp map exports one, its fail-safe state in
LIMP otherwise and while the fail-safe states apply, and the latest accepted COMMAND in every other case. -/
def PortalState.demandOf (P : PortalState) (n : Fin 8) : Bool :=
  let c := P.switchCfg n.val
  if P.link.limp then
    if P.limpExports (16 + n.val) then wbit P.harness.dest (16 + n.val) else c.fs
  else if P.link.failsafe then c.fs
  else
    match P.link.last with
    | some f => wbit f.sw n.val
    | none => c.fs

/-! ### Switching -/

/-- The channel is latched off (R347). -/
def SwitchState.latched (w : SwitchState) : Bool := w.cls != .none

/-- The output of a channel goes off: its episode and whatever retry it made are over. -/
def SwitchState.outOff (w : SwitchState) : SwitchState := { w with on := false, episode := none, retried := none, rose := false }

/-- A channel switched off on demand: its episode, retries and shedding end. -/
def SwitchState.demandOff (w : SwitchState) : SwitchState :=
  { w.outOff with demand := false, retry := none, shed := false, deferred := false }

/-- An unused channel stays off and reports no diagnosis (R342). -/
def SwitchState.unused (w : SwitchState) : SwitchState := { w.demandOff with cls := .none, shortCl := false, shortTries := 0, retryLeft := 0, flags := 0 }

/-- A channel newly demanded on: the full retry allowance, and the output on unless switch-on is deferred. -/
def SwitchState.demandOn (w : SwitchState) (c : SwitchCfg) (hold : Bool) : SwitchState :=
  { w with demand := true, on := !hold, deferred := hold, cls := .none, shortCl := false, shortTries := 0, rose := false,
           retry := none, episode := none, retried := none, retryLeft := c.retries }

/-- Bring one channel to its demand. -/
def PortalState.setDemand (P : PortalState) (n : Fin 8) (d : Bool) : PortalState :=
  let c := P.switchCfg n.val
  let w := P.switches.get n
  let unshed := fun (R : PortalState) => show PortalState from
    { R with supply := { R.supply with shedOrder := R.supply.shedOrder.filter fun k => k != n } }
  if !c.used || P.por then unshed (P.modSw n SwitchState.unused)
  else if d && !w.demand then P.modSw n fun w => w.demandOn c P.holding
  else if !d && w.demand then unshed (P.modSw n SwitchState.demandOff)
  else P

/-- Latch a channel off with a class. -/
def SwitchState.latch (w : SwitchState) (c : SwitchClass) : SwitchState :=
  { w.outOff with retry := none, cls := c }

/-- An episode that ends as a T_EP end without short classification (R343): an inrush retry if one is left, else OVERLOAD. -/
def SwitchState.inrushEnd (w : SwitchState) : SwitchState :=
  if w.retryLeft = 0 then w.latch .overload
  else { w.outOff with retry := some { short := false } }

/-- Class SHORT (R344): the channel goes off and gets its short retries. -/
def SwitchState.short (w : SwitchState) : SwitchState :=
  { w.outOff with shortCl := true, shortTries := 0, retry := some { short := true } }

/-- The output rose during a short retry (R344): the class is withdrawn, and an episode goes on as an inrush episode. -/
def SwitchState.unshort (w : SwitchState) : SwitchState :=
  { w with shortCl := false, retried := none, rose := true, episode := w.episode.map fun _ => EpisodeBy.inrushRetry }

/-- A short retry has failed (R344): the second one latches SHORT. -/
def SwitchState.shortFailed (w : SwitchState) : SwitchState :=
  if 1 ≤ w.shortTries then { w with shortTries := 2 }.latch .short
  else { w.outOff with shortTries := w.shortTries + 1, retry := some { short := true } }

/-- A short retry is under way: before its current reaches ILIM, or in the episode after it. -/
def SwitchState.inShortRetry (w : SwitchState) : Bool := w.retried == some .shortRetry || w.episode == some .shortRetry

/-- Channels next to `n`. -/
def neighbours (n : Fin 8) : List (Fin 8) := chans8.filter fun k => k.val + 1 == n.val || n.val + 1 == k.val

/-- The channel is in an episode that began with a retry (R345); a retry counts from its switch-on, so that two never fall together. -/
def SwitchState.inRetry (w : SwitchState) : Bool :=
  w.retried.isSome || w.episode == some .inrushRetry || w.episode == some .shortRetry

/-- Start a retry that is due, where its junction, its neighbours and the field supply allow it (R343, R345, R357); else it waits. -/
def PortalState.tryRetry (P : PortalState) (ck : Nat) (n : Fin 8) (hot : Bool) : PortalState :=
  let w := P.switches.get n
  match w.retry with
  | none => P
  | some r =>
    let near := (neighbours n).any fun k => (P.switches.get k).inRetry
    if hot || P.holding || near || decide (ck < r.at_) then
      P.modSw n fun w => { w with retry := some { r with due := true, hot := hot } }
    else P.modSw n fun w =>
      { w with retry := none, on := true, rose := false, retried := some (if r.short then .shortRetry else .inrushRetry),
               retryLeft := if r.short then w.retryLeft else w.retryLeft - 1 }

/-- Start every retry that is due and not kept back by its junction, in channel order (R345). -/
def PortalState.resumeRetries (P : PortalState) (ck : Nat) : PortalState :=
  chans8.foldl (fun R n =>
    match (R.switches.get n).retry with
    | some r => if r.due && !r.hot then R.tryRetry ck n false else R
    | none => R) P

/-- An episode that began with a retry has ended on channel `n`: retries deferred next to it start 20 µs later (R345). -/
def PortalState.episodeOver (P : PortalState) (ck : Nat) (n : Fin 8) (was : SwitchState) : PortalState :=
  if was.inRetry && !(P.switches.get n).inRetry then
    (neighbours n).foldl (fun R k => R.modSw k fun w =>
      { w with retry := w.retry.map fun r => if r.due then { r with at_ := ck + 20000 } else r }) P
  else P

/-- Bring every channel to its demand. An episode that a withdrawn demand ends frees the retries next to it 20 µs later (R345). -/
def PortalState.applyDemands (P : PortalState) (ck : Nat) : PortalState :=
  let Q := chans8.foldl (fun R n => R.setDemand n (P.demandOf n)) P
  chans8.foldl (fun R n => R.episodeOver ck n (P.switches.get n)) Q

/-! ### Sensor supplies (R350, R358) -/

/-- Sensor supplies that are on: enabled, not in overload, and the field supply not in UV. -/
def PortalState.refreshSs (P : PortalState) : PortalState :=
  { P with supply := { P.supply with
      ssOn := if P.por || P.supply.field == .uv then 0 else P.pio.ssEn &&& ~~~P.supply.ssOvl } }

/-! ### Safety outputs -/

/-- Change one safety output. -/
def PortalState.modSo (P : PortalState) (o : SoId) (f : SoState → SoState) : PortalState :=
  { P with sos := P.sos.setSo o (f (P.sos.so o)) }

/-- Bit number of a safety output: SOA 0, SOB 1. -/
def SoId.bit : SoId → Nat
  | .a => 0
  | .b => 1

/-- The other safety output. -/
def SoId.other : SoId → SoId
  | .a => .b
  | .b => .a

/-- The proven-switch condition at the output stage (R26): the portal is proven, or isolated and so exempt (R70). -/
def PortalState.proofOk (P : PortalState) : Bool := P.provenAll || P.cls == .isolated

/-- The output may be on (R24 to R26): interlock permission and a fresh kernel demand, no fault, the output used, the
proven-switch condition, and the field supply above UV; in FAULT, in LIMP and in the fail-safe states it is off (R321, R329, R353). -/
def PortalState.soWanted (P : PortalState) (o : SoId) : Bool :=
  let x := P.sos.so o
  x.perm && x.dem && !x.stand && !x.fault && wbit P.pio.soUsed (SoId.bit o) && P.proofOk && P.supply.field != .uv && !P.por &&
  P.cls != .fault && !P.link.failsafe && !P.link.limp

/-- The schedule of the off-pulses starts when the first of the two outputs is switched on (log entry 200): SOA's first falls due one SO_PER
later, SOB's half a period after it (R352). It then runs on, whether the outputs are on or off (R354). -/
def PortalState.soSchedule (P : PortalState) (ck : Nat) : PortalState :=
  let per := P.pio.soPer * 1000000
  if P.sos.fst.nextAt = 0 ∧ P.sos.snd.nextAt = 0 then
    { P with sos := ⟨{ P.sos.fst with nextAt := ck + per }, { P.sos.snd with nextAt := ck + per + per / 2 }⟩ }
  else P

/-- Bring one safety output to what R24 to R26 give. Switched off, a demand that stands is held standing (R25), and a pulse in progress ends with
the output off (R354). -/
def PortalState.soRefresh (P : PortalState) (ck : Nat) (o : SoId) : PortalState :=
  let w := P.soWanted o
  if w && !(P.sos.so o).on then (P.soSchedule ck).modSo o fun x => { x with on := true }
  else if !w && (P.sos.so o).on then P.modSo o fun x => { x with on := false, pulse := false, stand := x.stand || x.dem }
  else P

/-- Both safety outputs. -/
def PortalState.soRefreshAll (P : PortalState) (ck : Nat) : PortalState := (P.soRefresh ck .a).soRefresh ck .b

/-- Interlock permissions from the portal harness (R25): a permission that falls makes a demand that stands a standing one. When it rises, as many
kernel cycles as have passed since the latest accepted COMMAND, and the one after them, may still be built from inputs older than the rise, whether or
not their COMMANDs arrived (log entry 201). -/
def PortalState.setPerm (P : PortalState) (ck : Nat) (o : SoId) (b : Bool) : PortalState :=
  let cyc := P.link.last.map fun f => f.cycle + 1 + BitVec.ofNat 16 ((ck - P.link.lastAt) / 100000)
  (P.modSo o fun x =>
    if b && !x.perm then { x with perm := true, permCycle := cyc, permFresh := false }
    else { x with perm := b, stand := x.stand || (!b && x.dem) }).soRefresh ck o

/-- The COMMAND of a kernel cycle was built from inputs agreed after the interlock cell became on (R25). -/
def SoState.fresh (x : SoState) (cycle : Half) : Bool :=
  x.perm && (x.permFresh || (match x.permCycle with
    | some c => decide (0 < (cycle - c).toInt)
    | none => false))

/-- A kernel demand as the COMMAND of a cycle carries it (R24, R25, R71): a withdrawal clears the standing mark; a demand that comes while
the permission is off, from inputs older than the permission, or before the proof was recorded, is held standing. -/
def PortalState.setDem (P : PortalState) (ck : Nat) (o : SoId) (b : Bool) (cycle : Half) : PortalState :=
  let ok := P.proofOk
  (P.modSo o fun x =>
    let fresh := x.fresh cycle
    { x with dem := b, stand := b && (x.stand || (!x.dem && (!fresh || !ok))), permFresh := fresh,
             permCycle := if x.permCycle.isNone then some cycle else x.permCycle }).soRefresh ck o

/-- Both safety outputs off by the portal side, any demand held standing (R321, R358). -/
def PortalState.soAllOff (P : PortalState) : PortalState :=
  { P with sos := P.sos.map fun x => { x with on := false, pulse := false, stand := x.stand || x.dem } }

end Sys2Proof.Machine
end

