-- ==== Sys2Proof/Machine/Obstacles.lean ====
section
/-! DEFINITION. A portal die's safe states: fail-safe states (R321), FAULT, lock-out (R210, R229), LIMP (R329), detections and
the safe stop with its reversal (R211 to R227). -/

namespace Sys2Proof.Machine

/-- Set a flag of LH_EVT. -/
def PortalState.lhFlag (P : PortalState) (i : Nat) : PortalState :=
  { P with link := { P.link with lhEvt := raise P.link.lhEvt i, noteTime := P.link.time } }

/-! ### Fail-safe states, FAULT, LIMP -/

/-- Hold-firm of an axis (R121, R173): asserted it restores full current; its fall starts the hold delay again (R172). -/
def AxisState.setHoldFirm (x : AxisState) (ck : Nat) (b : Bool) : AxisState :=
  { x with holdFirm := b, holdRed := x.holdRed && !b, holdFrom := if x.holdFirm && !b then ck else x.holdFrom }

/-- Every axis loses hold-firm: what the latest COMMAND asserted no longer stands (R121, R320). -/
def PortalState.dropFirm (P : PortalState) (ck : Nat) : PortalState := { P with axes := P.axes.map fun x => x.setHoldFirm ck false }

/-- What the kernel has commanded and no axis has begun is discarded: MOTION bytes still due, runs kept in brown-out hold and runs queued behind an
enable (R23, R27). -/
def PortalState.dropMotion (P : PortalState) : PortalState :=
  { P with link := { P.link with motionDue := .all none, kept := .all none }, axes := P.axes.map fun x => { x with queued := none } }

/-- A motion of the latest accepted COMMAND is discarded where the portal die begins a stop, and the refusal is reported (R23, R27, R226). -/
def PortalState.refuseDue (P : PortalState) (ck : Nat) : PortalState :=
  let due := P.link.motionDue.toList.any fun b => b.isSome
  let Q := P.dropMotion
  match P.link.last with
  | some f =>
    if due then { Q with refuseWhy := 4, refuseCnt := satInc Q.refuseCnt 0xFFFF }.event ck 0x06 3 [4, f.cseq.setWidth 32] else Q
  | none => Q

/-- Axes in the fail-safe states (R321): moving axes stop and then lose torque; those at standstill lose it at once. A safe stop
runs to its own end. -/
def PortalState.stopAxes (P : PortalState) (ck : Nat) : PortalState :=
  let P := (P.dropFirm ck).dropMotion
  ([0, 1, 2] : List AxisId).foldl (fun R a =>
    if (R.axes.get a).moving then R.controlledStop ck a .torqueOff true else R.axisOff a) P

/-- Limp-home is left, and reported (R306). -/
def PortalState.limpExit (P : PortalState) (ck : Nat) : PortalState :=
  if P.link.limp then
    let P := { P with link := { P.link with limp := false, jogOpen := false, jogClose := false, causePin := false, causeLink := false } }
    (P.lhFlag 4).event ck 0x0B 3 [P.lhStat ck]
  else P

/-- The fail-safe states (R321); a portal in LIMP leaves it with them. -/
def PortalState.applyFailsafe (P : PortalState) (ck : Nat) : PortalState :=
  let P := ((P.learnDiscard.stopAxes ck).soAllOff).limpExit ck
  let P := { P with link := { P.link with failsafe := true, jogOpen := false, jogClose := false } }
  P.applyDemands ck

/-- The portal enters FAULT (R129, R32): it reports the flag register that caused it and takes its fail-safe states; a safe stop
under way runs to its end without reversal. -/
def PortalState.enterFault (P : PortalState) (ck : Nat) (why : Word) : PortalState :=
  if P.cls == .fault then P
  else
    let P := P.modOb fun o => { o with rest := none, reversal := none, revPend := false,
                                       stop := o.stop.map fun s => { s with noReversal := true } }
    let P := { P with cls := .fault }.applyFailsafe ck
    P.event ck 0x0A 3 [1, why]

/-- OB_LOCK at a moment of the model's clock. -/
def PortalState.obLock (P : PortalState) (ck : Nat) : Word :=
  fmk 31 28 P.ob.lockCause ||| fmk 27 24 P.ob.rstWhy |||
  fmk 15 0 (match P.ob.lclrAt with
    | some t => min ((ck - t) / 1000000) 0xFFFF
    | none => 0)

/-- A safety-path fault (R210): torque is removed from all three axes at once, neither stop nor reversal is carried out, the
lock-out latches with its cause, and the portal enters LOCKED_OUT. -/
def PortalState.lockOut (P : PortalState) (ck : Nat) (cause : Nat) : PortalState :=
  let P := (P.dropFirm ck).dropMotion.learnDiscard.allOff.endJog
  let P := P.modOb fun o => { o with stop := none, rest := none, reversal := none, revPend := false, readback := 0,
                                     progArmed := 0, gateCheck := 0, decided := .all false, removed := .all true }
  let P := { P with mon2 := { P.mon2 with progArmed := 0 } }
  if P.ob.lockCause != 0 then P
  else
    let P := (P.modOb fun o => { o with lockCause := cause, lockouts := satInc o.lockouts 255 }).obFlag 11
    let P := if P.cls == .fault then P else { P with cls := Guarded.lockedOut }
    P.event ck 0x09 3 [P.obLock ck]

/-- Enter LIMP (R329): moving axes stop and then lose torque, switches follow the limp map, safety outputs go off. The land brings LIMP in any state but
FAULT; a link loss leaves a portal in LOCKED_OUT there, with its switches as in LIMP (R320). -/
def PortalState.enterLimp (P : PortalState) (ck : Nat) (pin link : Bool) : PortalState :=
  let P := (P.learnDiscard.stopAxes ck).soAllOff
  let fresh := !P.link.limp
  let P := { P with
    cls := if P.cls == Guarded.lockedOut && !pin then P.cls else Guarded.limp
    link := { P.link with limp := true, failsafe := false, jogRefused := if fresh then .all false else P.link.jogRefused, causePin := P.link.causePin || pin,
                          causeLink := P.link.causeLink || link,
                          limps := if fresh then satInc P.link.limps 255 else P.link.limps } }
  let P := P.applyDemands ck
  if fresh then (P.lhFlag 5).event ck 0x0B 3 [P.lhStat ck] else P

/-- LIMP_EN of STRC for the portal. -/
def PortalState.limpEn (P : PortalState) (p : PortalId) : Bool := wbit (BitVec.ofNat 8 (rd8 P.strc 2)) p.val

/-- The outcome of R320 once nothing holds it up: limp-home where LIMP_EN is set, else the fail-safe states. A portal in FAULT
keeps its fail-safe states, and LIMP already is the outcome (R332). -/
def PortalState.lossOutcome (P : PortalState) (ck : Nat) (p : PortalId) : PortalState :=
  let P := { P with link := { P.link with outcomeWaits := false, holdUntil := none } }
  if P.cls == .fault then P.applyFailsafe ck
  else if P.link.limp then P
  else if P.limpEn p then P.enterLimp ck false true
  else (P.applyFailsafe ck).lhFlag 6

/-- A safe stop, its rest or its reversal is under way. -/
def PortalState.ownMotion (P : PortalState) : Bool :=
  P.ob.stop.isSome || P.ob.rest.isSome || P.ob.reversal.isSome

/-- The outcome that waited for a stop or a reversal is applied once it is over (R322). -/
def PortalState.afterOwnMotion (P : PortalState) (ck : Nat) (p : PortalId) : PortalState :=
  if P.link.outcomeWaits && !P.ownMotion then P.lossOutcome ck p else P

/-! ### Detection (R211, R221, R227) and the safe stop (R222 to R225) -/

/-- A portal state that a detection turns into OBSTRUCTED: one of the door-cycle states. -/
def Guarded.inCycle (g : Guarded) : Bool := g.code ≤ 7

/-- Plan the safe stop of one moving axis (R223). -/
def PortalState.stopAxis (P : PortalState) (a : AxisId) : PortalState × List PathSeg × Rat :=
  let x := P.axes.get a
  match x.motion with
  | none => (P, [], 0)
  | some m =>
    let (v, ac) := m.now
    let sg : Rat := if v < 0 ∨ (v = 0 ∧ m.target < x.demand) then -1 else 1
    let d := P.detAxis a
    let p := asStop (dirPath (sg = 1) (stopPath (sg * v) (sg * ac) d.ssDecel d.ssJerk))
    let n : Int := (pathTravel p).floor
    let m' : Motion := { m with why := .safeStop, target := x.demand + n, path := p, tau := 0, frac := 0, after := .torqueOff,
                                endsAtTarget := false }
    let y : AxisState := if n = 0 then { x with motion := some { m' with path := [] }, drive := .stopping, segment := 8,
                                                timer := 0, ival := 0, rate := 0, queued := none }
      else { x with queued := none }.start m' .stopping
    ({ P with axes := P.axes.set a y }, p, |v|)

/-- OB_CAUSE with one more cause in its MASK. -/
def addCause (w : Word) (cause : Nat) : Word := raise w (16 + cause)

/-- Record a detection: OB_CAUSE, OB_DETT, OB_DETPOS, DET and DET_CNT. -/
def PortalState.recordDet (P : PortalState) (cause axis : Nat) (t : Dword) : PortalState :=
  let pos := (⟨P.fbUnits 0, P.fbUnits 1, P.fbUnits 2⟩ : Three Int)
  let P := P.modOb fun o => { o with cause := addCause (fmk 31 28 cause ||| fmk 1 0 axis) cause, dett := t, detPos := pos,
                                     detCnt := satInc o.detCnt 0xFFFF }
  ({ P with afe := { P.afe with devents := putBit P.afe.devents 30 true } }).obFlag 15

/-- Report OBSTRUCTED (R227). -/
def PortalState.reportDet (P : PortalState) (ck : Nat) : PortalState :=
  let axis := fget P.ob.cause 1 0
  P.eventAt ck P.ob.dett 0x02 axis [P.ob.cause, wordOf P.ob.detPos.x0, wordOf P.ob.detPos.x1, wordOf P.ob.detPos.x2]

/-- A detection, not yet reported: it starts one safe stop of every moving axis and discards what the kernel has commanded (R27), or adds its cause to
the stop already running (R221). -/
def PortalState.detectAdd (P : PortalState) (ck : Nat) (cause axis : Nat) (t : Dword) (noRev faultAfter : Bool) : PortalState :=
  if P.ob.lockCause != 0 then P
  else
    match P.ob.stop with
    | some s =>
      let s' := { s with noReversal := s.noReversal || noRev, faultAfter := s.faultAfter || faultAfter }
      P.modOb fun o => { o with cause := addCause o.cause cause, stop := some s' }
    | none =>
      let mv := P.movingAxes
      if mv.isEmpty then P
      else
        let jog := P.jogging
        let opening := P.link.jogOpen
        let closing := P.link.jogClose
        let P := (P.learnDiscard.recordDet cause axis t).refuseDue ck
        let mask := BitVec.ofNat 3 (mv.foldl (fun n a => n + 2 ^ a.val) 0)
        let go := mv.foldl (fun (R : PortalState × Three (List PathSeg) × Three Rat) a =>
          let (Q, p, v) := R.1.stopAxis a
          (Q, R.2.1.set a p, R.2.2.set a v)) (P, .all [], .all 0)
        let P := go.1
        let rev := !(noRev || jog) && (P.revOrder P.cust).kind != 0
        let s : SafeStop := { axes := mask, cust := P.cust, noReversal := noRev || jog, faultAfter := faultAfter,
                              v0 := go.2.2, plan := go.2.1,
                              started := go.1.axes.map fun x => if x.timer = 0 then some ck else none }
        let P := P.modOb fun o => { o with stop := some s, stopAxes := mask, rest := none, reversal := none, revPend := rev,
                                           envRun := .all 0, decided := .all true, removed := .all false }
        let P := { P with mon2 := { P.mon2 with envRun := .all 0 } }
        let P := if jog then (P.endJog.lhFlag 2) else P
        { P with link := { P.link with jogBlocked := ⟨P.link.jogBlocked.fst || opening, P.link.jogBlocked.snd || closing⟩ },
                 cls := if P.cls.inCycle then .obstructed else P.cls }

/-- Report the detection where one has started a stop since `P` (R227). -/
def PortalState.reportFresh (Q P : PortalState) (ck : Nat) : PortalState :=
  if P.ob.stop.isNone && Q.ob.stop.isSome then Q.reportDet ck else Q

/-- A detection by itself, reported at once (R221, R227). -/
def PortalState.detect (P : PortalState) (ck : Nat) (cause axis : Nat) (t : Dword) (noRev faultAfter : Bool) : PortalState :=
  (P.detectAdd ck cause axis t noRev faultAfter).reportFresh P ck

/-- A portal's stop is complete (R225): it is reported, and the reversal order is acted upon. -/
def PortalState.stopComplete (P : PortalState) (ck : Nat) (p : PortalId) (s : SafeStop) : PortalState :=
  let P := (P.modOb fun o => { o with stop := none, decided := .all false }).event ck 0x03 3 [P.ob.evt]
  let o := P.revOrder s.cust
  if s.noReversal || o.kind = 0 || P.cls == .fault || P.ob.lockCause != 0 then
    let P := P.modOb fun o => { o with revPend := false }
    (if s.faultAfter then P.enterFault ck P.ob.evt else P).afterOwnMotion ck p
  else P.modOb fun o => { o with rest := some s.cust, revCust := s.cust, revPend := true }

/-- The stop has ended on an axis (R224): TORQUE_OFF, with its read-back to come. -/
def PortalState.axisStopEnd (P : PortalState) (ck : Nat) (p : PortalId) (a : AxisId) : PortalState :=
  match P.ob.stop with
  | none => P
  | some s =>
    if !wbit s.axes a.val then P
    else
      let s' := { s with axes := putBit s.axes a.val false }
      let P := (P.axisOff a).modOb fun o => { o with stop := some s', readback := putBit o.readback a.val true, gateCheck := putBit o.gateCheck a.val true }
      if s'.axes = 0 then P.stopComplete ck p s' else P

/-- v_plan has reached 0 on an axis of the stop (R224). -/
def PortalState.planDone (P : PortalState) (ck : Nat) (a : AxisId) : Bool :=
  match P.ob.stop with
  | none => false
  | some s =>
    let x := P.axes.get a
    let path := match x.motion with
      | some m => m.path.isEmpty || decide (x.demand = m.target)
      | none => true
    path || (match s.started.get a with
      | some t => decide (pathDur (s.plan.get a) ≤ ck - t)
      | none => false)

/-- v_env of an axis at a moment (R223), axis units/s: v0 stands until the axis's own start of deceleration and for SS_TDEL after it. -/
def PortalState.vEnv (P : PortalState) (ck : Nat) (a : AxisId) (s : SafeStop) : Rat :=
  let d := P.detAxis a
  let v0 := s.v0.get a
  let marg : Rat := match d.ssVmarg with
    | some m => m
    | none => v0 / 10
  let v : Rat := match s.started.get a with
    | none => v0
    | some t0 =>
      let t := ck - t0
      if t < d.ssTdel * 1000 then v0
      else
        match pathAdvance (s.plan.get a) (t - d.ssTdel * 1000) with
        | ([], _) => 0
        | (g :: _, u) => |g.speed u|
  v + marg

/-- |v_hat| of an axis in axis units/s. -/
def PortalState.speedUnits (P : PortalState) (a : AxisId) : Rat :=
  |(P.fbs.get a).vHat| * mkRat (P.axisCfg a).fbRatio 65536

/-- A speed trip (R223), decided by either monitor channel or by both: torque removed from every axis at once, no reversal, and the stop reported complete. -/
def PortalState.speedTrip (P : PortalState) (ck : Nat) (p : PortalId) (s : SafeStop) (by_ : Two Bool) : PortalState :=
  let P := (P.allOff.modOb fun o => { o with spdTrips := satInc o.spdTrips 255, removed := by_ }).obFlag 14
  P.stopComplete ck p { s with axes := 0, noReversal := true }

/-! ### Reversal (R225) -/

/-- The reversal is complete. -/
def PortalState.reversalDone (P : PortalState) (ck : Nat) (p : PortalId) : PortalState :=
  ((P.modOb fun o => { o with reversal := none, revPend := false }).event ck 0x04 3 []).afterOwnMotion ck p

/-- A named axis has done its part: enabled and at rest again, or without torque. -/
def AxisState.partDone (x : AxisState) : Bool :=
  (x.drive == .standstill && !x.precharge && !x.motion.isSome) || x.drive == .torqueOff

/-- Take from the reversal the axes that have done their part (R225), once none of them is still being enabled. -/
def PortalState.reversalCheck (P : PortalState) (ck : Nat) (p : PortalId) : PortalState :=
  match P.ob.reversal with
  | none => P
  | some m =>
    let m' := BitVec.ofNat 3 (bitsOf (([0, 1, 2] : List AxisId).map fun a => wbit m a.val && !(P.axes.get a).partDone))
    if ([0, 1, 2] : List AxisId).any fun a => wbit m a.val && (P.axes.get a).enabled && !(P.axes.get a).canStep then P
    else if m' = 0 then P.reversalDone ck p else P.modOb fun o => { o with reversal := some m' }

/-- The rest is over (R225): the axes named by the reversal profile are enabled, REOPENING is reported, and the profile runs. A reversal refused under
R160 shows OP_REFUSED on the axes named. -/
def PortalState.restEnd (P : PortalState) (ck : Nat) (p : PortalId) : PortalState :=
  match P.ob.rest with
  | none => P
  | some cust =>
    let o := P.revOrder cust
    let P := P.modOb fun ob => { ob with rest := none, revCust := cust }
    match P.prof o.profile with
    | none => P.reversalDone ck p
    | some c =>
      if !P.profReady c then
        ((c.axisList.foldl (fun R a => R.modAxis a fun x => x.flag 6) P).event ck 0x07 3 [BitVec.ofNat 32 (runByte o.profile).toNat]).reversalDone ck p
      else
        let P := P.modOb fun ob => { ob with reversal := some (BitVec.ofNat 3 c.axes), revPend := true }
        let P := { P with cls := if P.cls.inCycle then .reopening else P.cls }
        let P := c.axisList.foldl (fun R a => if (R.axes.get a).drive = .torqueOff then R.enable ck a else R) P
        (P.together c.axisList PortalState.startReversal).reversalCheck ck p

/-! ### Arming and pressed edges (R212, R215) -/

/-- A switching edge reads pressed: an EDGE input in the contact state its role names, or one that reports open wire. -/
def PortalState.swEdgePressed (P : PortalState) : Bool :=
  (List.range 16).any fun n =>
    let c := P.inputCfg n
    c.role == 5 && (wbit P.openWire n || (wbit P.inputWord n != c.edgeOpen))

/-- The edges are armed: an axis of EDG_AXES moves in a direction enabled in EDG_DIR. -/
def PortalState.edgesArmed (P : PortalState) : Bool :=
  let d := P.det
  P.movingAxes.any fun a =>
    d.edgAxes / 2 ^ a.val % 2 == 1 && (if (P.axes.get a).openDir then d.edgDir / 2 % 2 == 1 else d.edgDir % 2 == 1)

/-- The effort test is armed on an axis: RUN or STOPPING outside a safe stop, or a reversal (R211, R218). -/
def PortalState.armedOn (P : PortalState) (a : AxisId) : Bool :=
  let x := P.axes.get a
  x.moving && (match x.motion with
    | some m => m.why != .safeStop
    | none => false)

/-- Causes present at this tick, lowest code first, with their axis (3 for an edge) and whether the time is an interpolated
crossing. -/
def PortalState.causes (P : PortalState) (armed : Bool) : List (Nat × Nat × Nat) :=
  let d := P.det
  let edge := fun (i : Nat) (e : EdgeState) (mode : Nat) => show List (Nat × Nat × Nat) from
    if armed && mode == 1 && 0 < d.edgConf && d.edgConf ≤ e.run then [(i, 3, i)] else []
  let axes : List AxisId := [0, 1, 2]
  (if armed && P.swEdgePressed then [(1, 3, 0)] else []) ++
  edge 2 P.ob.edges.fst (d.edgMode % 4) ++ edge 3 P.ob.edges.snd (d.edgMode / 4 % 4) ++
  (axes.filter fun a => P.armedOn a && 0 < (P.detAxis a).effConf && (P.detAxis a).effConf ≤ P.ob.effHiRun.get a).map
    (fun a => (4, a.val, 0)) ++
  (axes.filter fun a => P.armedOn a && 0 < (P.detAxis a).effConf && (P.detAxis a).effConf ≤ P.ob.effLoRun.get a).map
    (fun a => (5, a.val, 0)) ++
  (axes.filter fun a => (P.axes.get a).moving && (P.detAxis a).progressEn && (P.detAxis a).progConf ≤ P.ob.lagRun.get a).map
    (fun a => (6, a.val, 0))

/-! ### Ends of ordinary motions -/

/-- What follows the last step of a motion (R161, R150, R158, R224, R225). An axis that comes to rest in brown-out hold holds at reduced current at once
(R357). -/
def PortalState.motionEnd (P : PortalState) (ck : Nat) (p : PortalId) (a : AxisId) (m : Motion) : PortalState :=
  match m.why with
  | .safeStop => P.modAxis a fun x => { x with motion := some { m with path := [] }, timer := 0, ival := 0, rate := 0 }
  | why =>
    let P := P.modAxis a fun x => { x with atEnd := x.atEnd || m.endsAtTarget }.rest ck
    let P := P.learnEnd a m
    let P := if m.endsAtTarget then P.armProgress a else P
    let P := match m.after with
      | .rest => if P.holding then P.modAxis a fun x => x.reduce ck else P
      | .restReduced => P.modAxis a fun x => x.reduce ck
      | .torqueOff => P.axisOff a
      | .judgeProfile n goal => P.runJudged a n goal
    let P := if why == .jogOpen || why == .jogClose || (why == .controlledStop && P.jogging) then
        (if P.movingAxes.isEmpty then P.endJog else P) else P
    P.reversalCheck ck p

/-- The first step of a safe stop on an axis is its start of deceleration (R222). -/
def PortalState.decelStarts (P : PortalState) (ck : Nat) (a : AxisId) : PortalState :=
  match P.ob.stop with
  | none => P
  | some s =>
    if wbit s.axes a.val && (s.started.get a).isNone then
      P.modOb fun o => { o with stop := some { s with started := s.started.set a (some ck) } }
    else P

/-- A step timer expires (R162): one step, then the next interval or the motion's end. -/
def PortalState.stepExpire (P : PortalState) (ck : Nat) (p : PortalId) (a : AxisId) : PortalState :=
  let x := P.axes.get a
  match x.motion with
  | none => P
  | some m =>
    if !x.moving || x.timer = 0 || x.demand = m.target then P
    else
      let y := x.stepOnce (P.axisCfg a) (x.demand < m.target)
      let P := ({ P with axes := P.axes.set a y } : PortalState).decelStarts ck a
      if y.demand = m.target then P.motionEnd ck p a m
      else P.modAxis a fun x => x.nextStep m

end Sys2Proof.Machine
end

