-- ==== Sys2Proof/Machine/PortalLink.lean ====
section
/-! DEFINITION. The portal side of a girth link: link loss and the hold window (R315 to R323), HELLO and takeover (R310, R324),
the keeper (R317 to R319), COMMAND frames (R23, R25, R117, R304, R325, R326) and their orders (R327, R328). -/

namespace Sys2Proof.Machine

/-- Change the link state of a portal die. -/
def PortalState.modLink (P : PortalState) (f : PortalLink → PortalLink) : PortalState := { P with link := f P.link }

/-- Set a flag that the portal side reports for GL_EVT. -/
def PortalState.glFlag (P : PortalState) (i : Nat) : PortalState := P.modLink fun l => { l with glEvt := raise l.glEvt i, noteTime := l.time }

/-! ### Link loss (R315, R320 to R322) -/

/-- The outcome of R320 falls due: it waits for a safe stop, its rest or its reversal (R322). -/
def PortalState.outcomeDue (P : PortalState) (ck : Nat) (p : PortalId) : PortalState :=
  if P.ownMotion then P.modLink fun l => { l with outcomeWaits := true, holdUntil := none } else P.lossOutcome ck p

/-- What the portal die does at the moment of link loss, without the outcome; `why` is the cause (GL_STAT.WHY). -/
def PortalState.dropLink (P : PortalState) (why : Nat) : PortalState :=
  let P := P.modLink fun l => { l with fin := l.fin.declareFault, why := if l.ordered then 5 else why, up := false, takeover := .none, keeperArmed := false,
                                       permitHeld := true, losses := satInc l.losses 0xFFFF, evtQueue := [] }
  { P with incoming := [], chunk := none, afe := { P.afe with halted := true } }.glFlag 3

/-- Low-rate mode ends: the input filters start again from the raw state (R336). -/
def PortalState.lowRateOver (P : PortalState) : PortalState :=
  if P.link.lowRate then { P.modLink fun l => { l with lowRate := false } with inputs := { P.inputs with restart := true } } else P

/-- Link fault at the portal side (R315, R320): by order nothing more follows; in FAULT and LIMP nothing changes; a released
portal holds for its hold window; any other takes its outcome at once. -/
def PortalState.linkFault (P : PortalState) (ck : Nat) (p : PortalId) (why : Nat) : PortalState :=
  let ordered := P.link.ordered
  let rel := P.released && !P.link.lowRate
  let P := P.lowRateOver
  let P := (P.dropLink why).modLink fun l => { l with lostByOrder := ordered }
  if ordered then P.modLink fun l => { l with ordered := false }
  else if P.cls == .fault || P.link.limp then P
  else if rel then
    let w := strcHoldWin P.strc p
    if w = 0 then P.outcomeDue ck p
    else (P.modLink fun l => { l with holdUntil := some (ck + w * 1000) }).lhFlag 7
  else P.outcomeDue ck p

/-- The keeper expires (R318): downloads in progress are dropped, the outcome of link loss follows without a hold window, and link
fault is declared. After ORDER 1 the fail-safe states stand already and there is no limp-home (R320). -/
def PortalState.keeperExpired (P : PortalState) (ck : Nat) (p : PortalId) : PortalState :=
  let ordered := P.link.ordered
  let P := (P.modLink fun l => { l with keeperExps := satInc l.keeperExps 255 }).lhFlag 1
  let P := (P.dropLink 4).modLink fun l => { l with lostByOrder := ordered }
  if ordered then P.modLink fun l => { l with ordered := false }
  else if P.cls == .fault || P.link.limp then P else P.outcomeDue ck p

/-- The hold window has run out (R320, R322). -/
def PortalState.holdExpired (P : PortalState) (ck : Nat) (p : PortalId) : PortalState :=
  match P.link.holdUntil with
  | none => P
  | some _ => P.outcomeDue ck p

/-! ### HELLO (R301, R310, R311, R323, R324) -/

/-- The portal die's HELLO. -/
def PortalState.hello (P : PortalState) (p : PortalId) (vsel : Byte) (nonce : Word) (d0 d1 : Half) : HelloFrame :=
  { role := 2, vmax := 3, vmin := 3, vsel := vsel, portal := BitVec.ofNat 8 p.val, step := 0xB1,
    lanes := P.link.fin.lanes.setWidth 8,
    flags := BitVec.ofNat 8 (b2n (!P.units.isEmpty) + 2 * b2n P.link.limp + 4 * b2n (P.ob.lockCause != 0) +
      8 * b2n (P.cls == .fault)),
    nonce := nonce, dly0 := d0, dly1 := d1 }

/-- K1 of a nonce, and the key after a key (R317). -/
def keeperNext (k : Word) : Word := crc32c (leBytes 4 k.toNat)

/-- What the portal die reports when the link is back: a keeper or link event, stamped with its own time (R306), and STATE (R324). -/
def PortalState.helloReport (P : PortalState) (ck : Nat) : PortalState :=
  let P := if P.link.lhEvt != 0 || P.link.glEvt != 0 then P.eventAt ck P.link.noteTime 0x0D 3 [P.link.lhEvt, P.link.glEvt] else P
  (P.modLink fun l => { l with readbackSeq := l.fin.txSeq }).sendState ck

/-- HELLO is complete at the portal side: the keeper is armed, a hold window still running ends with its outcome (R323), low-rate
mode ends, and STATE is sent at once (R324). Kernel cycles are counted anew, so a safety-output permission that no COMMAND has followed waits for one (R25). -/
def PortalState.helloComplete (P : PortalState) (ck : Nat) (p : PortalId) (f : HelloFrame) : PortalState :=
  let live := !P.units.isEmpty
  let P := if P.link.holdUntil.isSome then P.outcomeDue ck p else P
  let P := P.lowRateOver.modLink fun l =>
    { l with up := true, fin := l.fin.complete, ordered := false, live := live,
             takeover := if live then .helloDone else .ready, dly := ⟨f.dly0, f.dly1⟩, keeperArmed := true,
             keeperKey := keeperNext l.nonce, keeperServe := 1, keeperAt := ck }
  let P := { P with sos := P.sos.map fun (x : SoState) => if x.permFresh then x else { x with permCycle := none } }
  P.helloReport ck

/-- The other lane's copy of the confirming HELLO: that lane carries the link too (R311). -/
def PortalState.helloOther (P : PortalState) (lane : Fin 2) : PortalState :=
  P.modLink fun l => { l with helloLanes := putBit l.helloLanes lane.val false, fin := { l.fin with lanes := putBit l.fin.lanes lane.val true } }

/-- A HELLO of the host die, accepted at the link layer (R310): a first one is answered with a fresh nonce; a confirming one is echoed and completes
HELLO, on the lane that brought it (R311). A selected version other than 3 ends in link fault (VERSION). -/
def PortalState.helloTaken (P : PortalState) (ck : Nat) (p : PortalId) (h : FrameHdr) (f : HelloFrame) (nonce : Word) : PortalState :=
  if f.vsel = 0 then
    let g := P.hello p 0 nonce 0 0
    P.modLink fun l => { l with nonce := nonce, fin := l.fin.send fun x => .hello x g }
  else if f.vsel = 3 then
    let g := P.hello p 3 P.link.nonce f.dly0 f.dly1
    let here : BitVec 2 := putBit 0 h.lane.val true
    (P.modLink fun l => { l with helloLanes := l.fin.lanes &&& ~~~here, helloSeq := h.seq,
                                 fin := { l.fin.send fun x => .hello x g with lanes := here } }).helloComplete ck p f
  else (P.glFlag 2).linkFault ck p 3

/-- A HELLO of the host die as it arrives: a duplicate is discarded (R297), unless it shows that the second lane brought the confirmation as well. -/
def PortalState.helloReceived (P : PortalState) (ck : Nat) (p : PortalId) (h : FrameHdr) (f : HelloFrame) (nonce : Word) :
    PortalState :=
  if P.por || P.link.fin.silent || f.role != 1 then P
  else if P.link.up && h.seq == P.link.helloSeq && wbit P.link.helloLanes h.lane.val then P.helloOther h.lane
  else
    match P.link.fin.accept h with
    | none => P
    | some e => (P.modLink fun l => { l with fin := e }).helloTaken ck p h f nonce

/-- A frame that the portal die takes like any other: its logic runs, HELLO is complete, the outcome of a link loss does not wait (R323), and the frame
is no duplicate (R297, R316). -/
def PortalState.taking (P : PortalState) (h : FrameHdr) (f : PortalState → PortalState) : PortalState :=
  if P.por || !P.link.up || P.link.outcomeWaits then P
  else
    match P.link.fin.accept h with
    | none => P
    | some e => f (P.modLink fun l => { l with fin := e })

/-! ### The keeper (R317, R318) -/

/-- A KEEPER frame. While the keeper is not armed nothing is required of a frame, and the services go on being counted, so that the sequence
still fits when it is armed again. -/
def PortalState.keeperFrame (P : PortalState) (ck : Nat) (p : PortalId) (f : KeeperFrame) : PortalState :=
  let l := P.link
  let match_ := f.key == l.keeperKey && f.serve == BitVec.ofNat 16 l.keeperServe
  let age := ck - l.keeperAt
  if l.lowRate then P
  else if l.keeperArmed && (!match_ || decide (2000000 < age) || (l.keeperServe != 1 && decide (age < 500000))) then
    P.keeperExpired ck p
  else if !match_ then P
  else P.modLink fun l =>
      { l with keeperKey := keeperNext l.keeperKey, keeperServe := l.keeperServe + 1, keeperAt := ck,
               takeover := match l.takeover with
                 | .helloDone => .keeperDone
                 | t => t }

/-! ### COMMAND (R23, R304) -/

/-- Whether a MOTION byte lies within a guarded state (R111): OPENING runs opening profiles, CLOSING closing ones, the other
door-cycle states and ISOLATED take a controlled stop, ISOLATED and FAULT take a disable. -/
def PortalState.motionAllowed (P : PortalState) (g : Guarded) (b : Byte) : Bool :=
  match motionOp b with
  | 0 => true
  | 1 =>
    match P.prof (motionProf b) with
    | some c => (g == .opening && !c.close) || (g == .closing && c.close)
    | none => false
  | 2 => g.code ≤ 4 || g == .locking || g == .isolated
  | _ => g == .isolated || g == .fault

/-- A MOTION byte that opens. -/
def PortalState.motionOpens (P : PortalState) (b : Byte) : Bool :=
  motionOp b == 1 && (match P.prof (motionProf b) with
    | some c => !c.close
    | none => false)

/-- The portal die itself moves or stops an axis: a safe stop, its rest or its reversal, a limp jog, or a controlled stop of its own (R22, R23). -/
def PortalState.acting (P : PortalState) : Bool :=
  P.ownMotion || P.jogging || P.axes.toList.any fun x => x.moving && (match x.motion with
    | some m => m.own
    | none => false)

/-- Why the MOTION of a COMMAND is refused (PST_REFUSE.REASON); 0 when it is not. `busy`: the portal die moves or stops an axis itself when the COMMAND
reaches it. -/
def PortalState.refusal (P : PortalState) (f : CommandFrame) (busy : Bool) : Nat :=
  let ms := f.motion.toList
  if ms.all fun b => motionOp b = 0 then 0
  else if f.dstate != 5 then 1
  else if !wbit f.flags 0 then 2
  else if busy then 4
  else if !(ms.all fun b => P.motionAllowed P.cls b) then 3
  else if !wbit f.flags 1 && ms.any fun b => P.motionOpens b then 5
  else 0

/-- The guarded state after a COMMAND: the kernel's, except in the states that the portal die itself holds. -/
def PortalState.nextCls (P : PortalState) (f : CommandFrame) : Guarded :=
  if P.cls == .fault || P.ob.lockCause != 0 || P.link.limp || P.ownMotion then P.cls else guardedOf f.cls.toNat

/-- The axes of the safe stop, of its rest, or of the reversal under way (R226): those that were stopped and those that the reversal's profile names. -/
def PortalState.ownAxes (P : PortalState) : BitVec 3 :=
  if !P.ownMotion then 0
  else P.ob.stopAxes ||| (match P.ob.reversal, P.prof (P.revOrder P.ob.revCust).profile with
    | some _, some c => BitVec.ofNat 3 c.axes
    | _, _ => 0)

/-- Hold-firm from FLAGS: HF_LEAF for the leaves, HF_STEP for the step; none in ISOLATED, LIMP, LOCKED_OUT and FAULT, nor while the fail-safe states
stand in place of the COMMAND (R320, R321), nor on the axes of a safe stop, its rest or its reversal (R226). -/
def PortalState.applyHoldFirm (P : PortalState) (ck : Nat) (f : CommandFrame) : PortalState :=
  let ok := fun (a i : Nat) => P.cls.inCycle && !P.link.failsafe && !P.link.limp && wbit f.flags i && !wbit P.ownAxes a
  { P with axes := ⟨P.axes.x0.setHoldFirm ck (ok 0 4), P.axes.x1.setHoldFirm ck (ok 1 4), P.axes.x2.setHoldFirm ck (ok 2 5)⟩ }

/-- A motion that obeys the opening permission: its profile's direction is open (R157), and it is no reversal (R117, R122). -/
def PortalState.obeysPermit (P : PortalState) (a : AxisId) : Bool :=
  let x := P.axes.get a
  x.moving && (match x.motion with
    | some m => m.why == .jogOpen || (m.why == .profile && (match P.prof m.profile with
      | some c => !c.close
      | none => false))
    | none => false)

/-- The opening permission is 0: every opening motion that obeys it comes to a controlled stop (R117). -/
def PortalState.permitStop (P : PortalState) (ck : Nat) : PortalState :=
  ([0, 1, 2] : List AxisId).foldl (fun R a => if R.obeysPermit a then R.controlledStop ck a R.restAfter true else R) P

/-- Both leaves come to a controlled stop; `own` where the portal die begins it and limp-home is over (R23). -/
def PortalState.jogStop (P : PortalState) (ck : Nat) (own : Bool) : PortalState :=
  let P := (P.controlledStop ck 0 P.restAfter own).controlledStop ck 1 P.restAfter own
  if P.movingAxes.isEmpty then P.endJog else P

/-- A portal in LIMP leaves it at a COMMAND with RELEASED, when LIMP_N is not asserted (R326); a latched lock-out holds it in LOCKED_OUT (R229), and a
limp jog stops. -/
def PortalState.leaveLimp (P : PortalState) (ck : Nat) (f : CommandFrame) : PortalState :=
  if P.link.limp && wbit f.flags 0 && !P.link.limpN then
    let P := if P.jogging then (P.jogStop ck true).endJog else P
    let P := P.modLink fun l => { l with limp := false, causePin := false, causeLink := false }
    let g := if P.cls != Guarded.limp then P.cls else if P.ob.lockCause != 0 then .lockedOut else guardedOf f.cls.toNat
    let P := { P with cls := g }
    (P.lhFlag 4).event ck 0x0B 3 [P.lhStat ck]
  else P

/-- RELEASED as a COMMAND carries it: released, the keeper is disarmed and the switches follow the kernel; not released, the keeper is
armed (again) and the portal takes its fail-safe states (R38, R44, R317). -/
def PortalState.applyRelease (P : PortalState) (ck : Nat) (f : CommandFrame) : PortalState :=
  if wbit f.flags 0 then
    P.modLink fun l => { l with keeperArmed := false, failsafe := l.failsafe && P.cls == .fault,
                                permitHeld := false }
  else
    let P := P.modLink fun l => { l with keeperArmed := true, permitHeld := false }
    if P.link.failsafe || P.link.limp then P else P.applyFailsafe ck

/-- A COMMAND frame accepted at the link and after takeover. `stopNow`: the portal die begins a stop in the same cycle (R27);
`permOffNow`: its interlock cell goes off in the same cycle (R28). -/
def PortalState.command (P0 : PortalState) (ck : Nat) (f : CommandFrame) (stopNow permOffNow : Bool) : PortalState :=
  let P := P0.leaveLimp ck f
  let P := { P with cls := P.nextCls f, cust := (f.cust &&& 0x3F).toNat }
  let newMotion := match P0.link.last with
    | some g => g.mseq != f.mseq
    | none => true
  let why := if newMotion then P.refusal f (P0.acting || stopNow) else 0
  let P := P.modLink fun l => { l with last := some f, lastAt := ck, orderDue := f.order }
  let P := P.applyRelease ck f
  let P := if permOffNow then (P.setPerm ck .a false).setPerm ck .b false else P
  let P := (P.setDem ck .a (wbit f.flags 2) f.cycle).setDem ck .b (wbit f.flags 3) f.cycle
  let P := P.applyHoldFirm ck f
  let P := if wbit f.flags 1 then P else P.permitStop ck
  let P := if f.dstate = 5 then P else P.learnClear
  let P := P.applyDemands ck
  let P := if wbit f.flags 6 then P.lhFlag 0 else P
  let P :=
    if why != 0 then
      { P with refuseWhy := BitVec.ofNat 8 why, refuseCnt := satInc P.refuseCnt 0xFFFF }.event ck 0x06 3
        [BitVec.ofNat 32 why, f.cseq.setWidth 32]
    else if newMotion then
      P.modLink fun l => { l with motionDue := f.motion.map fun b => if motionOp b = 0 then none else some b }
    else P
  if P.link.lowRate then P else P.sendState ck

/-- A COMMAND frame as it arrives: before the takeover is complete it is discarded and counted (R324). -/
def PortalState.commandReceived (P : PortalState) (ck : Nat) (h : FrameHdr) (f : CommandFrame) (stopNow permOffNow : Bool) :
    PortalState :=
  P.taking h fun P =>
    match P.link.takeover with
    | .ready => P.command ck f stopNow permOffNow
    | _ => P.modLink fun l => { l with early := satInc l.early 255 }

/-- The MOTION byte that is due on an axis with the given OP is carried out once. -/
def PortalState.takeMotion (P : PortalState) (a : AxisId) (op : Nat) : Option (Byte × PortalState) :=
  match P.link.motionDue.get a with
  | some b =>
    if motionOp b = op then some (b, P.modLink fun l => { l with motionDue := l.motionDue.set a none }) else none
  | none => none

/-- The axes that a run byte due on axis `a` drives: `a`, and every other axis that its profile names (R151), unless another command is due on that one
(log entry 239). -/
def PortalState.sameRun (P : PortalState) (a : AxisId) (b : Byte) : List AxisId :=
  ([0, 1, 2] : List AxisId).filter fun i => i = a || ((match P.link.motionDue.get i with
    | some o => o == b
    | none => true) && (match P.prof (motionProf b) with
    | some c => c.axisList.contains i
    | none => false))

/-- A run-profile command of the latest COMMAND (R150 to R161), for all the axes of its profile at once (R151). In brown-out hold it is kept (R357); it
is accepted all the same, so AT_END and HOLD_RED clear (R161, R172). -/
def PortalState.motionRun (P : PortalState) (ck : Nat) (a : AxisId) : PortalState :=
  match P.takeMotion a 1 with
  | none => P
  | some (b, Q) =>
    let g := P.sameRun a b
    let P := Q.modLink fun l => { l with motionDue := l.motionDue.mapIdx fun i x => if g.contains i then none else x }
    if P.holding then
      let q := match P.link.last with
        | some f => f.mseq
        | none => 0
      let P := P.modLink fun l => { l with kept := l.kept.mapIdx fun i x => if g.contains i then some (b, q) else x }
      g.foldl (fun R i => R.modAxis i fun x => { x with atEnd := false, holdRed := false }) P
    else P.runCommand ck g (motionProf b)

/-- A controlled-stop command (R159). -/
def PortalState.motionStop (P : PortalState) (ck : Nat) (a : AxisId) : PortalState :=
  match P.takeMotion a 2 with
  | none => P
  | some (_, P) => P.stopCommand ck a

/-- A disable command (R150). -/
def PortalState.motionDisable (P : PortalState) (ck : Nat) (a : AxisId) : PortalState :=
  match P.takeMotion a 3 with
  | none => P
  | some (_, P) => P.disableCommand ck a

/-! ### Orders -/

/-- The ORDER of the latest COMMAND, carried out once. -/
def PortalState.takeOrder (P : PortalState) (o : Byte) : Option PortalState :=
  if P.link.orderDue = o then some (P.modLink fun l => { l with orderDue := 0 }) else none

/-- Ordered shutdown (R328): the fail-safe states, reported in STATE; the lane loss that follows is by order. -/
def PortalState.orderShutdown (P : PortalState) (ck : Nat) : PortalState :=
  match P.takeOrder 1 with
  | none => P
  | some P => ((P.applyFailsafe ck).modLink fun l => { l with ordered := true }).sendState ck

/-- Low-rate mode (R327): the fail-safe states, lane 1 powered down, the keeper suspended. -/
def PortalState.orderLowRate (P : PortalState) (ck : Nat) : PortalState :=
  match P.takeOrder 2 with
  | none => P
  | some P => (P.applyFailsafe ck).modLink fun l =>
      { l with lowRate := true, fin := { l.fin with lanes := l.fin.lanes &&& 1 } }

/-- Conditions of a lock-out reset other than the self-test (R230): the RST_WHY of the first that fails, 0 when all hold. -/
def PortalState.resetWhy (P : PortalState) (p : PortalId) : Nat :=
  if P.cls != .lockedOut then 1
  else if !P.made .cls then 2
  else if ([0, 1, 2] : List AxisId).any fun a =>
      (P.axes.get a).enabled || (strcAxisKind P.strc p a != 0 && strcFbKind P.strc p a % 128 != 0 && !(P.fbs.get a).still) then 3
  else 0

/-- A lock-out reset is refused: RESET_REF, RST_WHY and the EVENT of CODE 0x0E. -/
def PortalState.resetRefused (P : PortalState) (ck : Nat) (why src : Nat) : PortalState :=
  let P := (P.modOb fun o => { o with rstWhy := why }).obFlag 9
  P.event ck 0x0E 3 [0, P.obLock ck, BitVec.ofNat 32 src]

/-- A remote lock-out reset (R230): its self-test starts where the other conditions hold; a local reset already testing shares the
one self-test (R232). -/
def PortalState.orderLockoutReset (P : PortalState) (ck : Nat) (p : PortalId) : PortalState :=
  match P.takeOrder 3 with
  | none => P
  | some P =>
    let w := P.resetWhy p
    if w != 0 then P.resetRefused ck w 1
    else
      P.modOb fun o => { o with selftest := some (match o.selftest with
        | some .localReset => .bothResets
        | _ => .remoteReset) }

/-- A latched trip cleared. -/
def AxisState.clearTrip (x : AxisState) : AxisState := { x with trip := false }

/-- A feedback fault cleared: the port is probed again, with the runs of bad requests and samples begun anew (R181; log 229). -/
def FbState.clearFault (f : FbState) : FbState := { f with detect := 0, passed := false, ssiBad := 0, scBad := 0 }

/-- A fault of a safety output cleared. -/
def SoState.clearFault (x : SoState) : SoState := { x with fault := false }

/-- Clear fault (R129, R143): with no fault present the portal leaves FAULT, trips and safety-output faults clear, and the feedback
ports are probed again (R181). -/
def PortalState.orderClearFault (P : PortalState) (ck : Nat) : PortalState :=
  match P.takeOrder 4 with
  | none => P
  | some P =>
    if P.cls != .fault || P.faultPresent then P
    else
      let g := if P.ob.lockCause != 0 then Guarded.lockedOut else if P.link.limpN then .limp else guardedOf P.lastCls
      let P := { P.allFbs (fun _ f => f.clearFault) with
                        axes := P.axes.map AxisState.clearTrip, sos := P.sos.map SoState.clearFault, cls := g }
      let P := if P.link.limpN then P.enterLimp ck true false else P
      let P := if P.released && !P.link.limp then (P.modLink fun l => { l with failsafe := false }).applyDemands ck else P
      P.event ck 0x0A 3 [0, 0]

/-! ### LIMP_N (R329, R332) -/

/-- P<p>_LIMP_N has been low for 10 ms: LIMP, in any state but FAULT. -/
def PortalState.limpAssert (P : PortalState) (ck : Nat) : PortalState :=
  let P := P.modLink fun l => { l with limpN := true }
  if P.cls == .fault then P else P.enterLimp ck true false

/-- P<p>_LIMP_N rises: with the link down the portal stays in LIMP only if the outcome of R320 calls for it (R332). LH_STAT.CAUSE_PIN is the only word by
which the kernel can see the land: DEDUCED, it falls with the land (log 251). -/
def PortalState.limpRelease (P : PortalState) (ck : Nat) (p : PortalId) : PortalState :=
  let P := P.modLink fun l => { l with limpN := false, causePin := false }
  if P.link.limp && !P.link.up then
    if P.limpEn p && !P.link.lostByOrder then P.modLink fun l => { l with causeLink := true }
    else
      let P := if P.ob.lockCause != 0 then { P with cls := .lockedOut } else P
      (P.applyFailsafe ck).lhFlag 6
  else P

/-! ### Limp jogs (R330, R331) -/

/-- Begin a jog: leaves without torque are enabled, and both start from the same tick once they are (R151). -/
def PortalState.jogBegin (P : PortalState) (ck : Nat) (isOpen : Bool) : PortalState :=
  let P := P.modLink fun l => { l with jogOpen := isOpen, jogClose := !isOpen }
  (([0, 1] : List AxisId).foldl (fun R a => if (R.axes.get a).drive = .torqueOff then R.enable ck a else R) P).jogStart

/-- A jog request is refused: JOG_REF, once for each time that the request stands (R330; log entry 242). -/
def PortalState.jogRefuse (P : PortalState) (isOpen : Bool) : PortalState :=
  let r := P.link.jogRefused
  if (if isOpen then r.fst else r.snd) then P
  else (P.modLink fun l => { l with jogRefused := ⟨r.fst || isOpen, r.snd || !isOpen⟩ }).lhFlag 3

/-- A leaf has still to travel to the target of a jog (R330). -/
def PortalState.jogDistance (P : PortalState) (isOpen : Bool) : Bool :=
  match P.leafProfile isOpen with
  | none => false
  | some n =>
    match P.prof n with
    | none => false
    | some c => ([0, 1] : List AxisId).any fun a =>
        if isOpen then decide ((P.axes.get a).demand < c.target) else decide (c.target < (P.axes.get a).demand)

/-- The jog requests of the limp map as they stand now, before they stood as `was` (R330): a jog runs while its request alone is 1, begins as soon as
nothing stands in its way, and stops otherwise; the request of a direction in which a detection stopped a jog must be released first (R226). A request
that cannot be acted upon is refused (JOG_REF), one that has brought the leaves to their target begins no further jog, and none begins in brown-out hold
(R357). -/
def PortalState.jogRequests (P : PortalState) (ck : Nat) (was now : Bool × Bool) : PortalState :=
  if !P.link.limp then P
  else
    let P := P.modLink fun l => { l with jogBlocked := ⟨l.jogBlocked.fst && now.1, l.jogBlocked.snd && now.2⟩,
                                         jogRefused := ⟨l.jogRefused.fst && now.1, l.jogRefused.snd && now.2⟩ }
    let one := now.1 != now.2
    if P.jogging then
      if one && now.1 = P.link.jogOpen then P else P.jogStop ck false
    else if one && !(if now.1 then P.link.jogBlocked.fst else P.link.jogBlocked.snd) && !P.acting && !P.holding &&
        (was != now || P.jogDistance now.1) then
      if P.jogOk now.1 then P.jogBegin ck now.1 else P.jogRefuse now.1
    else P

end Sys2Proof.Machine
end

