-- ==== Sys2Proof/Machine/Drive.lean ====
section
/-! DEFINITION. The drive of an axis: current demand and voltages (R148, R165 to R169, R172 to R175), the bus (R167), effort (R216 to
R218), trips (R170), and the feedback rows of a portal die with lag and standstill (R176, R181 to R203, R219, R220, R223, R224). -/

namespace Sys2Proof.Machine

/-! ### Trips and feedback faults -/

/-- A trip latched in this command puts the portal into FAULT (R129, R170). -/
def PortalState.tripFault (P : PortalState) (ck : Nat) : PortalState :=
  match ([0, 1, 2] : List AxisId).find? fun a => (P.axes.get a).trip with
  | some a => if P.cls == .fault then P else P.learnDiscard.enterFault ck (P.axes.get a).evt
  | none => P

/-- While P<p>_LOCKOUT_CLR_N is low its 2 s count only as long as the conditions of R230 hold (R231). -/
def PortalState.lclrWatch (P : PortalState) (p : PortalId) : PortalState :=
  if P.ob.lclrCount && P.resetWhy p != 0 then P.modOb fun o => { o with lclrCount := false } else P

/-- What follows anything that happened on a portal die: a latched trip brings FAULT (R170), the outcome of a link loss is applied once nothing holds it
up any more (R322), and the count of a local reset ends where its conditions fail (R231). -/
def PortalState.followUp (P : PortalState) (ck : Nat) (p : PortalId) : PortalState := ((P.tripFault ck).afterOwnMotion ck p).lclrWatch p

/-- The legs that an axis kind uses (R144). -/
def legsUsed (kind : Nat) : Nat := if kind = 1 then 4 else if kind = 2 then 3 else if kind = 3 then 2 else 0

/-- Leg overcurrent (R170): OC_LEGS names the legs whose own comparators passed IOC. -/
def PortalState.legOvercurrent (P : PortalState) (ck : Nat) (a : AxisId) (legs : BitVec 4) : PortalState :=
  let n := legs.toNat % 2 ^ legsUsed (P.axisCfg a).kind
  if n = 0 then P
  else (P.modAxis a fun x => { x with evt := fput x.evt 3 0 n }).tripAxis ck 15 a

/-- Bootstrap undervoltage when its high side is due (R170). -/
def PortalState.bootUndervoltage (P : PortalState) (ck : Nat) (a : AxisId) (leg : Fin 4) : PortalState :=
  let x := P.axes.get a
  if x.enabled && !x.precharge && decide (leg.val < legsUsed (P.axisCfg a).kind) then P.tripAxis ck 14 a else P

/-- VGATE below 9.0 V for 1 µs (R170, R490). -/
def PortalState.vgateLow (P : PortalState) (ck : Nat) : PortalState :=
  let P := { P with supply := { P.supply with gateUv := true } }
  if P.axes.toList.any AxisState.enabled then P.tripAll ck 13 else P

/-- VGATE is back above 9.0 V. -/
def PortalState.vgateBack (P : PortalState) : PortalState := { P with supply := { P.supply with gateUv := false } }

/-- V_bus above VOV for 10 µs (R167); not judged while no PROF unit is held. -/
def PortalState.busOver (P : PortalState) (ck : Nat) : PortalState :=
  if P.vov = 0 then P else P.tripAll ck 12

/-! ### Current demand (R148, R172, R175) -/

/-- The value of a linear ramp over `len` ns at a time since its start. -/
def rampTo (v0 v1 : Int) (len t : Nat) : Int := if len ≤ t then v1 else v0 + divR ((v1 - v0) * t) len

/-- The current demand of an axis at a moment, mA. -/
def PortalState.current (P : PortalState) (ck : Nat) (a : AxisId) : Int :=
  let c := P.axisCfg a
  let x := P.axes.get a
  let full : Int := c.iFull
  if x.precharge then 0
  else
    match x.drive with
    | .torqueOff => 0
    | .align => rampTo 0 full 20000000 (ck - x.holdFrom - 20000)
    | .standstill => if x.holdRed then rampTo full (divR (full * c.holdFrac) 256) 10000000 (ck - x.redAt) else full
    | .run =>
      match x.motion with
      | some m => if x.segment = 4 then m.iRun else m.iAcc
      | none => full
    | .stopping =>
      match x.motion with
      | some m => m.iAcc
      | none => full

/-! ### Voltages (R165 to R169, R175); currents in mA, voltages in µV -/

/-- The shaft speed of an axis, rad/s (R199). -/
def PortalState.omega (P : PortalState) (a : AxisId) : Rat :=
  let f := P.fbCfg a
  if f.kind = 0 then Config.omegaNoFb (P.axes.get a).rate else (P.fbs.get a).vHat * twoPi / f.cpr

/-- The cosine of an electrical angle of `th` microsteps less `k` of `d` parts of a period of `n` microsteps. -/
def phaseCos (n : Nat) (th : Rat) (d k : Nat) : Rat := cosTurns (th / n - mkRat k d)

/-- PWM period in ns, exactly (R165, R175; log entry 241). -/
def AxisCfg.tPwm (c : AxisCfg) : Rat := mkRat 1000000 c.pwmKhz

/-- The modulation ceiling (R166). -/
def AxisCfg.ceiling (c : AxisCfg) : Rat := 1 - mkRat ((10 * c.dead + 250) * c.pwmKhz) 1000000

/-- Microsteps of electrical rotation in one PWM period at the demanded rate, signed. -/
def PortalState.thetaStep (P : PortalState) (a : AxisId) : Rat :=
  let c := P.axisCfg a
  let d : Rat := (P.axes.get a).rate * c.tPwm / 1000000000
  if c.dirInv then -d else d

/-- The electrical angle extrapolated to the centre of the period in which the duty applies, in microsteps: one PWM period at the demanded rate from
the moment of the sample (R165, R169; log entry 194: the manual does not give the moment of the computation). -/
def PortalState.thetaAhead (P : PortalState) (a : AxisId) : Rat := (P.axes.get a).theta + P.thetaStep a

/-- A value limited to a range about 0. -/
def clampR (lim v : Rat) : Rat := if v < -lim then -lim else if lim < v then lim else v

/-- The cosine that phase `k` takes at an electrical angle; 1 on kind 3. -/
def AxisCfg.shape (c : AxisCfg) (th : Rat) (k : Nat) : Rat :=
  match c.kind with
  | 1 => phaseCos c.period th 4 k
  | 2 => phaseCos c.period th 3 k
  | _ => 1

/-- The amplitude of the demanded current, µA: the current demand `i`, mA, on kinds 1 and 2 (R165), and the position loop's own demand, limited to it,
on kind 3 (R175). -/
def PortalState.amplitude (P : PortalState) (a : AxisId) (i : Int) : Rat :=
  let c := P.axisCfg a
  let x := P.axes.get a
  if c.kind = 3 then
    let f := P.fbs.get a
    let k : Rat := mkRat c.fbRatio 65536
    let e : Rat := x.demand - f.pHat * k
    clampR (1000 * i) (c.kp * e + c.kv * (x.rate - f.vHat * k))
  else 1000 * i

/-- The back-EMF feed-forward of phase `k`, µV. On kinds 1 and 2 it lies in phase with the demanded current in both directions of motion, as R165
assumes and its worked example shows for a closing run, so the speed counts by its magnitude (log entry 195). -/
def PortalState.backEmf (P : PortalState) (a : AxisId) (k : Nat) : Rat :=
  let c := P.axisCfg a
  let w := P.omega a
  c.ke * (if c.kind = 3 then w else |w|) * c.shape (P.thetaAhead a) k

/-- The demanded voltage of phase `k` (R165), µV, from the amplitudes of this period and of the one before, µA. The change of the demanded current is
that over the period in which the duty applies: from the amplitude before, half a step of the angle behind its centre, to the amplitude now, half a step
ahead (log entry 243). -/
def PortalState.phaseVolts (P : PortalState) (a : AxisId) (amp before : Rat) (k : Nat) : Rat :=
  let c := P.axisCfg a
  let th := P.thetaAhead a
  let h := P.thetaStep a / 2
  let di := amp * c.shape (th + h) k - before * c.shape (th - h) k
  c.r * amp * c.shape th k / 1000 + c.l * di * 1000 / c.tPwm + P.backEmf a k

/-- The peak of the voltage vector (R166), µV. -/
def peakVolts (kind : Nat) (v : Three Rat) : Rat :=
  match kind with
  | 1 => sqrtR (v.x0 * v.x0 + v.x1 * v.x1)
  | 2 => sqrtR ((v.x0 * v.x0 + v.x1 * v.x1 + v.x2 * v.x2) * 2 / 3)
  | _ => |v.x0|

/-- The bus voltage of a VMOT code, µV (R239). -/
def PortalState.busOf (P : PortalState) (code : BitVec 14) : Rat := mkRat (code.toNat * 15259 * P.vmotDiv) 100

/-- The bus of one PWM sample (R167): AX_VBUS, VMIN and VMOT_LOW. Nothing changes while no PROF unit is held. -/
def PortalState.sampleBus (P : PortalState) (a : AxisId) (code : BitVec 14) : PortalState :=
  if !holds P.units tagPROF 1 then P
  else
    let v := P.busOf code
    let n := min (ratR (v / 10000)).toNat 0xFFFF
    let P := { P with supply := { P.supply with vbus := n, vmotLow := P.vlow != 0 && decide (v < P.vlow * 100000) } }
    P.modAxis a fun x => { x with vmin := min x.vmin n }

/-- A leg current, mA (R239). -/
def AxisCfg.legCurrent (c : AxisCfg) (code : BitVec 14) : Int := divR (code.toInt * 30518) (10 * c.gain * c.shunt)

/-- The leg currents of one PWM sample; unused legs read 0. -/
def PortalState.sampleLegs (P : PortalState) (a : AxisId) (m : PwmSample) : PortalState :=
  let c := P.axisCfg a
  P.modAxis a fun x =>
    { x with ileg := m.legs.mapIdx fun l v => if l.val < legsUsed c.kind then c.legCurrent v else 0 }

/-- Dead-time compensation of one leg (R168), as a part of the period. -/
def AxisCfg.deadComp (c : AxisCfg) (i : Int) : Rat :=
  if i = 0 ∨ 50 * |i| < c.iFull then 0 else (if 0 < i then 1 else -1) * mkRat (10 * c.dead * c.pwmKhz) 1000000

/-- The third harmonic that is added to every phase of kind 2: minus a sixth of V cos 3φ, where the phase voltage is V cos φ (R165; log entry 196 for
the sixth). -/
def thirdHarmonic (v amp : Rat) : Rat := if amp = 0 then 0 else -(4 * v * v * v / (amp * amp) - 3 * v) / 6

/-- The duties of the legs from the phase voltages and their amplitude: the legs of an H-bridge take them with opposite signs. DIR_INV turns electrical
rotation alone, so it does not act on the armature of kind 3 (R146; log entry 197). -/
def legDuties (kind : Nat) (v : Three Rat) (amp bus : Rat) : Four Rat :=
  match kind with
  | 1 => ⟨v.x0 / bus, -v.x0 / bus, v.x1 / bus, -v.x1 / bus⟩
  | 2 =>
    let h := thirdHarmonic v.x0 amp
    ⟨(v.x0 + h) / bus, (v.x1 + h) / bus, (v.x2 + h) / bus, 0⟩
  | 3 => ⟨v.x0 / bus, -v.x0 / bus, 0, 0⟩
  | _ => .all 0

/-- √3 to 2^-20. -/
def sqrt3 : Rat := sqrtR 3

/-- The voltages of one PWM period: saturation, duties and AX_DUTY (R165 to R169). The duties computed in the period before
come into effect. None is computed while the bootstraps charge: no high side switches then (R149). -/
def PortalState.voltages (P : PortalState) (ck : Nat) (a : AxisId) (bus : Rat) : PortalState :=
  let c := P.axisCfg a
  let x := P.axes.get a
  let i := P.current ck a
  if !x.enabled || x.precharge || c.kind = 0 then
    P.modAxis a fun x => { x with iDemand := 0, iPrev := 0, dnow := 0, dutySat := false, duty := x.dutyNext,
                                  dutyNext := .all 0 }
  else
    let amp := P.amplitude a i
    let of := P.phaseVolts a amp x.iPrev
    let v : Three Rat := ⟨of 0, of 1, of 2⟩
    let v := if c.kind = 2 then v else if c.kind = 1 then { v with x2 := 0 } else ⟨v.x0, 0, 0⟩
    let b := if bus < 12000000 then 12000000 else bus
    let peak := peakVolts c.kind v
    let u := c.ceiling * b / (if c.kind = 2 then sqrt3 else 1)
    let sat := decide (u < peak)
    let w := if sat then v.map fun q => q * u / peak else v
    let duty := (if sat then u else peak) * (if c.kind = 2 then sqrt3 else 1) / b
    let dn := min (ratR (duty * 65536)).toNat 0xFFFF
    let legs := (legDuties c.kind w (if sat then u else peak) b).mapIdx fun l q =>
      if l.val < legsUsed c.kind then ratR ((q + c.deadComp (x.ileg.get l)) * 65536) else 0
    P.modAxis a fun x =>
      { x with iDemand := if c.kind = 3 then ratR (amp / 1000) else i, iPrev := amp, dnow := dn, dmax := max x.dmax dn, dutySat := sat,
               duty := x.dutyNext, dutyNext := legs, evt := if sat then raise x.evt 9 else x.evt,
               satCnt := if sat then satInc x.satCnt 0xFFFF else x.satCnt }

/-! ### Effort (R216 to R218) -/

/-- The torque-producing current of an axis, mA, positive where it drives in the open direction (R216). -/
def PortalState.iq (P : PortalState) (a : AxisId) : Rat :=
  let c := P.axisCfg a
  let x := P.axes.get a
  let n := c.period
  let d : Rat := mkRat (((P.fbs.get a).pos - x.refCounter) * c.fbRatio) 65536
  let th : Rat := x.refTheta + (if c.dirInv then -d else d)
  let i := x.ileg
  let q : Rat := match c.kind with
    | 1 => -(i.x0 : Rat) * phaseCos n th 4 1 + i.x2 * phaseCos n th 4 0
    | 2 => (-(i.x0 : Rat) * phaseCos n th 12 3 - i.x1 * phaseCos n th 12 7 - i.x2 * phaseCos n th 12 11) * 2 / 3
    | _ => i.x0
  if c.dirInv && c.kind != 3 then -q else q

/-- The linear acceleration in mm/s²: the observer's, or the profile's demand while SPD_QUAL is 0. -/
def PortalState.aLin (P : PortalState) (a : AxisId) : Rat :=
  let c := P.axisCfg a
  let f := P.fbs.get a
  if f.spdQual then f.aHat * c.fbRatio / c.scale
  else
    match (P.axes.get a).motion with
    | some m => m.now.2 * 65536 / c.scale
    | none => 0

/-- E of an axis, 0.1 N. -/
def PortalState.effort (P : PortalState) (a : AxisId) : Int :=
  let d := P.detAxis a
  let s : Rat := if (P.axes.get a).openDir then 1 else -1
  clampI (-32768) 32767 (ratR (s * (d.kf * P.iq a - d.mEff * P.aLin a) / 100000))

/-- The limits in force on an axis and whether the learned envelope gives them (R217). The envelope of a profile that is being
learned is not applied (R237). -/
def PortalState.effLimits (P : PortalState) (a : AxisId) : Int × Int × Bool :=
  let d := P.detAxis a
  let x := P.axes.get a
  let mx : Int := d.effMax
  let learning := P.ob.learnEn && P.ob.learnProf == x.profile
  match x.motion, P.envelope x.profile a with
  | some _, some e =>
    match e.at (P.fbUnits a) with
    | some l =>
      if (P.fbs.get a).spdQual && !learning then
        (min (ratR (l + e.bandHi)) mx, max (ratR (l - e.bandLo)) (-mx), true)
      else (mx, -mx, false)
    | none => (mx, -mx, false)
  | _, _ => (mx, -mx, false)

/-- One effort sample of an axis: E, its highest, the limits, and the runs of violations. -/
def PortalState.sampleEffort (P : PortalState) (a : AxisId) : PortalState :=
  let d := P.detAxis a
  if !d.effortEn then P
  else
    let e := P.effort a
    let (u, lo, env) := P.effLimits a
    let dir := if (P.axes.get a).openDir then d.effOpen else d.effClose
    let on := P.armedOn a && dir
    let up := fun (n : Nat) (b : Bool) => if on && b then n + 1 else 0
    let P := P.modOb fun o =>
      { o with eff := o.eff.set a e, effHigh := o.effHigh.set a (max (o.effHigh.get a) e), limU := o.limU.set a u,
               limLo := o.limLo.set a lo, envAct := putBit o.envAct a.val env,
               effHiRun := o.effHiRun.set a (up (o.effHiRun.get a) (u < e)),
               effLoRun := o.effLoRun.set a (up (o.effLoRun.get a) (e < lo)) }
    P.learnSample a (P.fbUnits a) e

/-- The leg currents of an axis have all fallen below 10 % of I_FULL: a pending read-back after a stop is passed (R224). -/
def PortalState.readbackSeen (P : PortalState) (a : AxisId) : PortalState :=
  let c := P.axisCfg a
  if (P.axes.get a).ileg.toList.all fun i => decide (10 * |i| < (c.iFull : Int)) then
    P.modOb fun o => { o with readback := putBit o.readback a.val false }
  else P

/-- The first look at the gate outputs after a stop: one that does not read low is a safety-path fault (R224). -/
def PortalState.gatesSeen (P : PortalState) (ck : Nat) (a : AxisId) (low : Bool) : PortalState :=
  if !wbit P.ob.gateCheck a.val then P
  else if low then P.modOb fun o => { o with gateCheck := putBit o.gateCheck a.val false }
  else P.lockOut ck 4

/-- One PWM period of an axis; the effort is estimated in each monitor channel (R207). -/
def PortalState.pwmPeriod (P : PortalState) (ck : Nat) (a : AxisId) (m : PwmSample) : PortalState :=
  let P := (P.sampleBus a m.vmot).sampleLegs a m
  (((P.voltages ck a (P.busOf m.vmot)).both fun R => R.sampleEffort a).readbackSeen a).gatesSeen ck a m.gatesLow

/-! ### Standstill current (R172 to R174), alignment (R149), clears -/

/-- HOLD_DELAY has run: reduced current, unless hold-firm is asserted or comes in the same cycle (R174). -/
def PortalState.holdDelay (P : PortalState) (ck : Nat) (a : AxisId) (holdFirmNow : Bool) : PortalState :=
  P.modAxis a fun x =>
    if x.drive = .standstill ∧ !x.precharge ∧ !x.holdRed ∧ !x.holdFirm ∧ !holdFirmNow then
      { x with holdRed := true, redAt := ck }
    else x

/-- ALIGN ends. What was commanded meanwhile follows. -/
def PortalState.alignDone (P : PortalState) (ck : Nat) (p : PortalId) (a : AxisId) : PortalState :=
  let x := P.axes.get a
  if x.drive = .align ∧ !x.precharge then ((P.alignEnd ck a).onEnabled ck a).reversalCheck ck p else P

/-- The low-side precharge ends. -/
def PortalState.prechargeDone (P : PortalState) (ck : Nat) (p : PortalId) (a : AxisId) : PortalState :=
  if (P.axes.get a).precharge then (P.prechargeEnd ck a).reversalCheck ck p else P

/-- AX_MCLR. -/
def PortalState.axMclr (P : PortalState) (a : AxisId) (duty vmin : Bool) : PortalState :=
  P.modAxis a fun x =>
    let x := if duty then { x with dmax := x.dnow, satCnt := 0 } else x
    if vmin then { x with vmin := P.supply.vbus } else x

/-! ### Feedback results -/

/-- A counter update of the feedback port of an axis, in both monitor channels (R207): in the first, a hit is reported, a reversal marked in the digital
vector, and a fault puts the portal into FAULT (R191, R194, R197). -/
def PortalState.fbApply (P : PortalState) (ck : Nat) (a : AxisId) (g : FbState → FbOut) : PortalState :=
  let f0 := P.fbs.get a
  let o := g f0
  let P := P.modFb a fun f => (g f).fb
  let rev := !f0.firstEdge && !f0.still && o.fb.firstEdge
  let ev := P.afe.devents
  let ev := if o.hit then putBit ev (32 + a.val) true else ev
  let P := { P with afe := { P.afe with devents := if rev then putBit ev (44 + a.val) true else ev } }
  let P := if o.hit then P.eventAt ck o.fb.cmpT 0x05 a.val [BitVec.ofNat 32 o.fb.cmpHits, wordOf o.fb.pos] else P
  if o.fault then P.enterFault ck o.fb.evt else P

/-- A filtered quadrature sample. -/
def PortalState.quadEdge (P : PortalState) (ck : Nat) (a : AxisId) (qa qb : Bool) : PortalState :=
  if (P.fbCfg a).kind = 1 then P.fbApply ck a (fun f => f.quad (P.fbCfg a) qa qb ck P.link.time) else P

/-- An index event. -/
def PortalState.indexEvent (P : PortalState) (a : AxisId) (illegalNow : Bool) : PortalState :=
  P.modFb a fun f => f.index (P.fbCfg a) illegalNow

/-- A Hall edge between two sectors of a kind 2 axis with HALL_ALIGN (R149, R170): the angle is corrected at the first edge after an
alignment; an edge more than 60° out corrects the angle and sets HALL_BAD, and the second in a row is a loss of commutation. -/
def PortalState.hallDrive (P : PortalState) (ck : Nat) (a : AxisId) (s0 s : Nat) : PortalState :=
  let c := P.axisCfg a
  let x := P.axes.get a
  if c.kind != 2 || !c.hallAlign || !x.enabled || s0 = 7 || s0 = s then P
  else
    let k : Int := (2 ^ c.micro : Nat)
    let edge : Int := (if (s + 6 - s0) % 6 = 1 then s else s0) * k
    let off := (x.theta - edge + 3 * k) % (6 * k) - 3 * k
    if x.hallAwait then
      P.modAxis a fun x => { x with theta := edge, refTheta := edge, refCounter := (P.fbs.get a).pos, hallAwait := false }
    else if |off| ≤ k then P.modAxis a fun x => { x with hallOff := false }
    else if x.hallOff then (P.modAxis a fun x => { x with hallOff := false }).tripAxis ck 11 a
    else P.modAxis a fun x => { x with theta := edge, hallOff := true }.flag 10

/-- A filtered Hall code (R189). -/
def PortalState.hallCode (P : PortalState) (ck : Nat) (a : AxisId) (code : BitVec 3) : PortalState :=
  let s0 := (P.fbs.get a).hallSector.toNat
  let P := P.fbApply ck a fun f => f.hall (P.fbCfg a) code ck P.link.time
  P.hallDrive ck a s0 (P.fbs.get a).hallSector.toNat

/-- An SSI request falls due (R190). -/
def PortalState.ssiRequest (P : PortalState) (ck : Nat) (a : AxisId) (datHigh : Bool) : PortalState :=
  let f := P.fbs.get a
  if (P.fbCfg a).kind != 2 || f.ssiBusy then P
  else if datHigh then P.modFb a fun f => { f with ssiBusy := true, ssiLatch := P.link.time }
  else P.fbApply ck a FbState.ssiSkip

/-- An SSI frame ends (R191, R192). -/
def PortalState.ssiFrame (P : PortalState) (ck : Nat) (a : AxisId) (x : SsiFrame) : PortalState :=
  if (P.fbs.get a).ssiBusy then P.fbApply ck a (fun f => f.ssiFrame (P.fbCfg a) x ck) else P

/-- A sin/cos sample (R193, R194). -/
def PortalState.sincos (P : PortalState) (ck : Nat) (a : AxisId) (sn cs : BitVec 12) : PortalState :=
  if (P.fbCfg a).kind = 3 then P.fbApply ck a (fun f => f.sincos (P.fbCfg a) sn cs ck P.link.time) else P

/-! ### Observer update (R176, R199, R219, R220, R223, R224, R241) -/

/-- Lag and the demand of an axis in TORQUE_OFF (R176). -/
def PortalState.updateLag (P : PortalState) (a : AxisId) : PortalState :=
  let c := P.axisCfg a
  let fb := P.fbUnits a
  let none := P.fbKind a == 0
  P.modAxis a fun x =>
    if x.drive = .torqueOff then { x with demand := if none then x.demand else fb, lag := 0, lagWarn := false }
    else
      let lag := if none then 0 else x.demand - fb
      { x with lag := lag, lagWarn := c.lagw != 0 && decide ((c.lagw : Int) < |lag|) }

/-- The lag limit of R220. -/
def PortalState.progLimit (P : PortalState) (a : AxisId) : Rat :=
  let c := P.axisCfg a
  if c.lagw = 0 then mkRat (P.detAxis a).lagStop 4 else c.lagw

/-- Progress supervision at an observer update: successive lagging updates, and the settling of R220. -/
def PortalState.progress (P : PortalState) (a : AxisId) : PortalState :=
  let d := P.detAxis a
  let x := P.axes.get a
  let bad := d.progressEn && x.moving && decide ((d.lagStop : Int) < |x.lag|)
  let settled := decide ((|x.lag| : Int) ≤ P.progLimit a)
  P.modOb fun o =>
    { o with lagRun := o.lagRun.set a (if bad then o.lagRun.get a + 1 else 0),
             progArmed := if settled then putBit o.progArmed a.val false else o.progArmed }

/-- The successive updates of a monitor channel above v_env in a safe stop (R223). -/
def PortalState.envCheck (P : PortalState) (ck : Nat) (a : AxisId) : PortalState :=
  match P.ob.stop with
  | none => P
  | some s =>
    if !wbit s.axes a.val then P
    else P.modOb fun o => { o with envRun := o.envRun.set a (if P.vEnv ck a s < P.speedUnits a then o.envRun.get a + 1 else 0) }

/-- The speed check of a safe stop on one axis: the second update in a row above v_env, in either channel, trips (R223). -/
def PortalState.speedCheck (P : PortalState) (ck : Nat) (p : PortalId) (a : AxisId) : PortalState :=
  match P.ob.stop with
  | none => P
  | some s =>
    let by_ : Two Bool := ⟨decide (2 ≤ P.ob.envRun.get a), decide (2 ≤ P.mon2.envRun.get a)⟩
    if wbit s.axes a.val && (by_.fst || by_.snd) then P.speedTrip ck p s by_ else P

/-- A stop ends on an axis once its plan is done and STILL is set in either monitor channel (R207, R224; log entry 244). -/
def PortalState.stillCheck (P : PortalState) (ck : Nat) (p : PortalId) (a : AxisId) : PortalState :=
  match P.ob.stop with
  | none => P
  | some s => if wbit s.axes a.val && ((P.fbs.get a).still || (P.mon2.fbs.get a).still) && P.planDone ck a then P.axisStopEnd ck p a else P

/-- The derived sample of an axis (R241). -/
def PortalState.derivedOf (P : PortalState) (a : AxisId) : DerivedSample :=
  let f := P.fbs.get a
  { speed := wordOf f.speed16,
    effort := if (P.detAxis a).effortEn then BitVec.ofNat 16 (sat16 (P.ob.eff.get a)) else 0,
    dflags := BitVec.ofNat 16 (bitsOf [f.spdQual, f.still, (P.axes.get a).moving, P.ob.stop.isSome, wbit P.ob.envAct a.val]) }

/-- The observer update of one monitor channel: observer, lag, progress supervision and speed envelope (R199, R219, R223). -/
def PortalState.observeStep (P : PortalState) (ck : Nat) (a : AxisId) : PortalState :=
  let c := P.fbCfg a
  let P := if c.kind = 0 then P else P.modFb a fun f => f.observe c ck
  ((P.updateLag a).progress a).envCheck ck a

/-- One observer update of an axis, in both monitor channels (R207). -/
def PortalState.observerUpdate (P : PortalState) (ck : Nat) (p : PortalId) (a : AxisId) : PortalState :=
  let P := (P.both fun R => R.observeStep ck a).speedCheck ck p a
  let P := P.stillCheck ck p a
  if (P.fbCfg a).kind = 0 then P
  else if wbit P.afe.stream (16 + a.val) && !P.afe.halted then
    { P with afe := { P.afe with derived := P.afe.derived.set a (some (P.derivedOf a)) } }
  else P

/-- The standstill time has run with no counting edge (R201, R204), for a monitor channel that is not still already (R207). -/
def PortalState.stillTimeout (P : PortalState) (ck : Nat) (p : PortalId) (a : AxisId) (edgeNow : Bool) : PortalState :=
  if edgeNow || ((P.fbs.get a).still && (P.mon2.fbs.get a).still) then P
  else (P.modFb a fun f => if f.still then f else f.setStill).stillCheck ck p a

/-! ### Feedback registers -/

/-- FB_SETPOS (R196). -/
def PortalState.setPos (P : PortalState) (a : AxisId) (v : Word) : PortalState :=
  let off := (P.axes.get a).drive = .torqueOff
  P.modFb a fun f => if off then f.setPos v.toInt else f.flag 16

/-- FB_CLR (R186, R187, R194). -/
def PortalState.fbClr (P : PortalState) (a : AxisId) (rearm rmin cnt : Bool) : PortalState :=
  P.modFb a fun f =>
    let f := if rearm && (P.fbCfg a).armsIndex then { f with idxArmed := true } else f
    let f := if rmin then { f with rmin := f.rnow } else f
    if cnt then { f with illCnt := 0, frameCnt := 0 } else f

/-- A write of FB_CMPCTL (R197): EN clears FB_CMPHITS, and a counter that stands at FB_CMPVAL is a hit at once. -/
def FbState.cmpCtlWrite (f : FbState) (v : Word) (t : Dword) : FbOut :=
  let f : FbState := { f with cmpCtl := v &&& 0x8000FFFF, cmpHits := if wbit v 31 then 0 else f.cmpHits }
  if wbit v 31 && decide (f.pos = f.cmpVal.toInt) then ⟨f.cmpHit 1 t, true, false⟩ else ⟨f, false, false⟩

/-- FB_CMPCTL (R197). -/
def PortalState.cmpCtl (P : PortalState) (ck : Nat) (a : AxisId) (v : Word) : PortalState :=
  P.fbApply ck a fun f => f.cmpCtlWrite v P.link.time

/-- FB_CMPVAL (R198). -/
def PortalState.cmpValWrite (P : PortalState) (a : AxisId) (v : Word) : PortalState :=
  P.modFb a fun f => { f with cmpVal := v }

/-! ### Detection of the feedback ports (R181, R182) -/

/-- Detection of R181 is complete on a port. -/
def FbState.detected (f : FbState) : Bool := wbit f.detect 8

/-- The probe of one port ends: what was found, and whether a configured kind is missing. -/
def FbState.probed (f : FbState) (c : FbCfg) (x : FbFound) : FbState :=
  let kindOk := match c.kind with
    | 1 => x.quad
    | 2 => x.ssi
    | 3 => x.sincos
    | 4 => x.hall
    | _ => true
  let hallOk := c.kindByte / 128 != 1 || x.hall
  let g : FbState := { f with detect := BitVec.ofNat 32 (256 + bitsOf [x.quad, x.ssi, x.sincos, x.hall]), lineOk := x.lineOk,
                              passed := kindOk && hallOk }
  g.flagIf 1 (!(kindOk && hallOk))

/-- Port probing ends: a missing kind keeps its axis in TORQUE_OFF and puts the portal into FAULT. -/
def PortalState.detectionDone (P : PortalState) (ck : Nat) (found : Three FbFound) : PortalState :=
  if !holds P.units tagIOMP 8 then P
  else
    let due := fun (a : AxisId) => (P.axisCfg a).kind != 0 && !(P.fbs.get a).detected
    let P' := P.allFbs fun a f => if due a then f.probed (P.fbCfg a) (found.get a) else f
    match ([0, 1, 2] : List AxisId).find? fun a => due a && !(P'.fbs.get a).passed with
    | some a => (P'.axisOff a).enterFault ck (P'.fbs.get a).evt
    | none => P'

/-- A feedback fault of the wiring (R182): LINE_FAULT and FB_FAULT, and FAULT. -/
def PortalState.lineFault (P : PortalState) (ck : Nat) (a : AxisId) : PortalState :=
  let P := P.modFb a fun f => (f.flag 2).flag 0
  P.enterFault ck (P.fbs.get a).evt

/-- A used digital pair has been invalid for 2 µs. -/
def PortalState.lineInvalid (P : PortalState) (ck : Nat) (a : AxisId) (line : Fin 4) : PortalState :=
  let f := P.fbs.get a
  if f.passed && wbit (P.fbCfg a).usedLines line.val then
    (P.modFb a fun f => { f with lineOk := putBit f.lineOk line.val false }).lineFault ck a
  else P

/-- A Hall code of 0 or 7 has held for 100 ms. -/
def PortalState.hallInvalid (P : PortalState) (ck : Nat) (a : AxisId) : PortalState :=
  let f := P.fbs.get a
  if f.passed && (P.fbCfg a).usesHall && (f.hallCode == 0 || f.hallCode == 7) then P.lineFault ck a else P

end Sys2Proof.Machine
end

