-- ==== Sys2Proof/Machine/Monitor.lean ====
section
/-! DEFINITION. The safety monitor of a portal die (R207 to R210, R229 to R232), its detectors at the monitor tick (R211 to R215,
R220, R221), the analog edges (R213, R214), the ends of a stop (R224), and the control of learning (R237). -/

namespace Sys2Proof.Machine

/-! ### The two channels (R208) -/

/-- One tick of a comparison: successive ticks on which the channels differ. -/
def runOn (n : Nat) (differs : Bool) : Nat := if differs then n + 1 else 0

/-- What the first channel of a monitor tick holds beside the second's: the comparisons of R208, with 2.0 N for the efforts. -/
def PortalState.compared (P : PortalState) : PortalState :=
  let o := P.ob
  let m := P.mon2
  let eff := fun (a : AxisId) => runOn (o.runEff.get a) (decide (20 < |o.eff.get a - m.eff.get a|))
  let cnt := fun (a : AxisId) => runOn (o.runCnt.get a) ((P.fbs.get a).pos != (m.fbs.get a).pos)
  P.modOb fun o =>
    { o with runStop := runOn o.runStop (o.decided.fst != o.decided.snd || o.removed.fst != o.removed.snd),
             runEff := ⟨eff 0, eff 1, eff 2⟩, runCnt := ⟨cnt 0, cnt 1, cnt 2⟩ }

/-- The lock-out cause that the comparisons give: MON_DISAGREE 1, CNT_DISAGREE 2, 0 for none. -/
def ObState.disagree (o : ObState) : Nat :=
  if 3 ≤ o.runStop || o.runEff.toList.any (fun n => decide (3 ≤ n)) then 1
  else if o.runCnt.toList.any fun n => decide (3 ≤ n) then 2
  else 0

/-- What upsets change in the second channel at a tick: its efforts and its counters. -/
def PortalState.upset (P : PortalState) (d : MonitorDiff) : PortalState :=
  let m := P.mon2
  { P with mon2 := { m with eff := m.eff.mapIdx fun a e => e + d.effort.get a,
                            fbs := m.fbs.mapIdx fun a f => { f with pos := f.pos + d.counter.get a } } }

/-- The detections of one channel at a tick, as (cause, axis, edge): those of its own detectors, and those that failed comparators report while an axis
moves; none where its decisions are mute (R207). -/
def PortalState.channelCauses (P : PortalState) (armed : Bool) (stuck : BitVec 8) (mute : Bool) : List (Nat × Nat × Nat) :=
  if mute then []
  else P.causes armed ++ (match P.movingAxes with
    | [] => []
    | a :: _ => (([1, 2, 3, 4, 5, 6] : List Nat).filter fun c => wbit stuck c).map fun c => (c, if c ≤ 3 then 3 else a.val, c - 2))

/-- The detections of either channel, lowest cause first, each once. -/
def mergeCauses (c1 c2 : List (Nat × Nat × Nat)) : List (Nat × Nat × Nat) :=
  let l := c1 ++ c2.filter fun c => !c1.contains c
  (List.range 7).flatMap fun k => l.filter fun c => c.1 = k

/-- The detectors of one tick (R211 to R221): the first cause starts the stop, the others are added to it, and all of them are reported together (R227).
An edge that is pressed at the moment of arming is detected at that moment (R215), any other at its crossing (R213). -/
def PortalState.detectTick (P : PortalState) (ck : Nat) (armed : Bool) (cs : List (Nat × Nat × Nat)) : PortalState :=
  let arming := armed && !P.ob.armed
  let Q := cs.foldl (fun (R : PortalState) (c : Nat × Nat × Nat) =>
    let t := if arming then P.link.time
      else if c.1 = 2 then P.ob.edges.fst.crossing
      else if c.1 = 3 then P.ob.edges.snd.crossing
      else P.link.time
    R.detectAdd ck c.1 c.2.1 t false false) P
  (Q.reportFresh P ck).modOb fun o => { o with armed := armed }

/-- A channel removes torque (R207): every axis loses it at once, and with it what was commanded and a learning run (R237); a safe stop under way is
complete without a reversal, and a reversal is over. -/
def PortalState.torqueRemoved (P : PortalState) (ck : Nat) (p : PortalId) : PortalState :=
  let P := P.learnDiscard.dropMotion.allOff
  match P.ob.stop with
  | some s => P.stopComplete ck p { s with axes := 0, noReversal := true }
  | none => P.reversalCheck ck p

/-- One monitor tick (R207, R208, R210): each channel decides, the decisions, efforts and counters are compared, and a safety-path fault wins over a
detection of the same tick. Either channel's decision alone acts. A non-code word inside the die puts the portal into FAULT (R18). That channel 2 runs
one clock behind is not visible at a tick of 1 µs (log entry 202). -/
def PortalState.monitorTick (P : PortalState) (ck : Nat) (p : PortalId) (d : MonitorDiff) : PortalState :=
  if P.por then P
  else
    let P := P.upset d
    let P := if d.nonCode then P.enterFault ck 0 else P
    let armed := P.edgesArmed
    let c1 := P.channelCauses armed d.stuck.fst d.mute.fst
    let c2 := P.asChan2.channelCauses armed d.stuck.snd d.mute.snd
    let runs := P.ob.stop.isSome
    let dec : Two Bool := ⟨!d.mute.fst && ((runs && P.ob.decided.fst) || !c1.isEmpty), !d.mute.snd && ((runs && P.ob.decided.snd) || !c2.isEmpty)⟩
    let P := (P.modOb fun o => { o with decided := dec, removed := ⟨o.removed.fst || d.torque.fst, o.removed.snd || d.torque.snd⟩ }).compared
    let w := P.ob.disagree
    if w != 0 then P.lockOut ck w
    else
      let P := if d.torque.fst || d.torque.snd then P.torqueRemoved ck p else P
      (P.detectTick ck armed (mergeCauses c1 c2)).modOb fun o => { o with decided := if o.stop.isSome then dec else .all false }

/-! ### Tests (R209) -/

/-- The injection test: a comparator that does not report the value is a safety-path fault. -/
def PortalState.injectionTest (P : PortalState) (ck : Nat) (allReported : Bool) : PortalState :=
  if P.por || allReported then P else P.lockOut ck 5

/-- Two readings of one edge differ by more than 40 mV. -/
def crossDiffers (a b : AdcCode) : Bool :=
  let d := (a.code.toNat : Int) - b.code.toNat
  decide (4000000 < |d| * 30518)

/-- The cross-check of the two ADCs: three successive differences on an edge are a safety-path fault. Channels 6 and 7 of this frame are
held (R240). -/
def PortalState.crossCheck (P : PortalState) (ck : Nat) (r : CrossReadings) : PortalState :=
  if P.por then P
  else
    let P := { P with afe := { P.afe with crossDue := true } }
    let n0 := runOn P.ob.runAdc.fst (crossDiffers r.adc0.fst r.adc1.fst)
    let n1 := runOn P.ob.runAdc.snd (crossDiffers r.adc0.snd r.adc1.snd)
    let P := P.modOb fun o => { o with runAdc := ⟨n0, n1⟩ }
    if 3 ≤ n0 || 3 ≤ n1 then P.lockOut ck 3 else P

/-- The CRC of the detector settings and envelopes held: one that no longer matches its reference is a safety-path fault. `upset`: the
bytes in the die's memory have been upset. -/
def PortalState.tableCrc (P : PortalState) (ck : Nat) (upset : Bool) : PortalState :=
  let us := P.units.filter fun u => u.tag == tagENVL
  if P.por || us.isEmpty then P
  else if upset || us.any fun u => crc32c u.bytes != u.crc then P.lockOut ck 6
  else P

/-! ### The full self-test and lock-out resets (R209, R229 to R232) -/

/-- A lock-out reset succeeds: the lock-out clears and the portal leaves LOCKED_OUT. -/
def PortalState.lockCleared (P : PortalState) : PortalState :=
  let g := if P.cls == .lockedOut then (if P.link.limp then Guarded.limp else guardedOf P.lastCls) else P.cls
  ({ P with cls := g }.modOb fun o => { o with lockCause := 0 }).obFlag 10

/-- The EVENT of an accepted reset. -/
def PortalState.resetAccepted (P : PortalState) (ck src : Nat) : PortalState :=
  P.event ck 0x0E 3 [1, P.obLock ck, BitVec.ofNat 32 src]

/-- The full self-test ends. After a download it opens the axes or latches the lock-out; at a reset it clears the lock-out or refuses
the reset. A remote and a local reset that share one test are both answered (R232). -/
def PortalState.selftestComplete (P : PortalState) (ck : Nat) (pass : Bool) : PortalState :=
  match P.ob.selftest with
  | none => P
  | some why =>
    let P := P.modOb fun o => { o with selftest := none, selftestOk := pass }
    match why with
    | .download => if pass then P else P.lockOut ck 5
    | .remoteReset => if pass then P.lockCleared.resetAccepted ck 1 else P.resetRefused ck 4 1
    | .localReset => if pass then P.lockCleared.resetAccepted ck 2 else P.resetRefused ck 4 2
    | .bothResets =>
      if pass then (P.lockCleared.resetAccepted ck 1).resetAccepted ck 2
      else (P.resetRefused ck 4 1).resetRefused ck 4 2

/-- P<p>_LOCKOUT_CLR_N has been low for 2 s while the other conditions held: the self-test of a local reset runs, once for each fall of the land (R231). -/
def PortalState.localReset (P : PortalState) (p : PortalId) : PortalState :=
  if P.por || !P.ob.lclrCount || P.resetWhy p != 0 then P
  else P.modOb fun o =>
    { o with lclrCount := false,
             selftest := some (match o.selftest with
               | some .remoteReset => .bothResets
               | some .bothResets => .bothResets
               | _ => .localReset) }

/-- A sample of the land (R231): its fall starts the count where the conditions hold, its rise ends it. -/
def PortalState.lclrLand (P : PortalState) (ck : Nat) (p : PortalId) (low : Bool) : PortalState :=
  if low then
    if P.ob.lclrAt.isSome then P else P.modOb fun o => { o with lclrAt := some ck, lclrCount := P.resetWhy p == 0 }
  else P.modOb fun o => { o with lclrAt := none, lclrCount := false }

/-! ### Analog edges (R213, R214) -/

/-- EDG_THR of an edge, mV. -/
def DetCfg.thr (d : DetCfg) (e : Fin 2) : Nat := if e = 0 then d.thr0 else d.thr1

/-- The edge is in use. -/
def DetCfg.edgeUsed (d : DetCfg) (e : Fin 2) : Bool := (if e = 0 then d.edgMode % 4 else d.edgMode / 4 % 4) == 1

/-- A sample of an analog edge at the moment `t`: level above baseline, the runs of samples above the threshold and out of range, and
the baseline, which follows only while the edge is not armed. A rise through the threshold notes its crossing, to 1/256 of the
sample period of 2 µs. -/
def EdgeState.sample (x : EdgeState) (d : DetCfg) (thr : Nat) (level : Rat) (armed : Bool) (t : Dword) : EdgeState :=
  let base := match x.base with
    | some b => b
    | none => level
  let above := level - base
  let hot := decide ((thr : Rat) < above)
  let frac := clampI 0 256 (ratR (256 * ((thr : Rat) - x.above) / (above - x.above)))
  let crossing := t - 2000 + BitVec.ofNat 64 (frac.toNat * 2000 / 256)
  let tc : Rat := mkRat d.baseTc 10
  { base := some (if armed then base else if d.baseTc = 0 then level else base + (level - base) * mkRat 2 1000000 / tc)
    above := above
    run := runOn x.run hot
    badRun := runOn x.badRun (decide (level < d.vmin) || decide ((d.vmax : Rat) < level))
    pressed := if armed && hot && d.edgConf ≤ x.run + 1 then true
      else if above < (thr : Rat) - d.hyst then false
      else x.pressed
    crossing := if hot && x.run = 0 then crossing else x.crossing }

/-- One sample of an analog edge. The sample that completes EDG_CONF out of range in either monitor channel (R207) sets EDGE_FAULT: an armed edge is
then detected, and the portal enters FAULT when that stop completes; otherwise it enters FAULT at once (R214). -/
def PortalState.edgeSample (P : PortalState) (ck : Nat) (e : Fin 2) (code : BitVec 14) : PortalState :=
  let d := P.det
  if P.por || !d.edgeUsed e then P
  else
    let armed := P.edgesArmed
    let P := P.both fun R => R.modOb fun o =>
      { o with edges := o.edges.set2 e ((o.edges.at2 e).sample d (d.thr e) (mkRat (code.toNat * 30518) 100000) armed P.link.time) }
    let bad := (P.ob.edges.at2 e).badRun = d.edgConf || (P.mon2.edges.at2 e).badRun = d.edgConf
    if bad && d.edgConf != 0 then
      let P := P.obFlag 12
      if armed && P.ob.lockCause = 0 then P.detect ck (2 + e.val) 3 P.link.time true true else P.enterFault ck P.ob.evt
    else P

/-! ### The time test, and the ends of a stop (R220, R224) -/

/-- PROG_TMO has run on an axis since AT_END without the lag settling in either monitor channel (R207, R220). At standstill the portal still enters
OBSTRUCTED, the axis loses torque, and the reversal order applies. -/
def PortalState.progressTimeout (P : PortalState) (ck : Nat) (p : PortalId) (a : AxisId) : PortalState :=
  if P.por || !(wbit P.ob.progArmed a.val || wbit P.mon2.progArmed a.val) then P
  else
    let P := P.setProgress a false
    let t := P.link.time
    let still := !(P.axes.get a).moving
    if P.ob.lockCause != 0 then P
    else if P.ob.stop.isSome || !P.movingAxes.isEmpty then
      let P := P.detect ck 7 a.val t false false
      if still then (P.axisOff a).modOb fun o => { o with readback := putBit o.readback a.val true, gateCheck := putBit o.gateCheck a.val true } else P
    else
      let P := ((P.learnDiscard.recordDet 7 a.val t).refuseDue ck).axisOff a
      let P := P.modOb fun o => { o with readback := putBit o.readback a.val true, gateCheck := putBit o.gateCheck a.val true, stopAxes := 0, rest := none, reversal := none,
                                         revPend := (P.revOrder P.cust).kind != 0 }
      let P := { P with cls := if P.cls.inCycle then .obstructed else P.cls }
      let s : SafeStop := { axes := 0, cust := P.cust, noReversal := false, faultAfter := false, v0 := .all 0, started := .all (some ck),
                            plan := .all [] }
      (P.reportDet ck).stopComplete ck p s

/-- SS_SETTLE has run after v_plan reached 0 on an axis that is not still (R224). -/
def PortalState.settleTimeout (P : PortalState) (ck : Nat) (p : PortalId) (a : AxisId) : PortalState :=
  match P.ob.stop with
  | none => P
  | some s => if wbit s.axes a.val && P.planDone ck a then (P.obFlag 13).axisStopEnd ck p a else P

/-- The leg currents have not fallen, or the gate outputs not been read back, in time after a stop (R224): a safety-path fault. -/
def PortalState.readbackTimeout (P : PortalState) (ck : Nat) (a : AxisId) : PortalState :=
  if wbit (P.ob.readback ||| P.ob.gateCheck) a.val then P.lockOut ck 4 else P

/-! ### Learning (R237) -/

/-- The axes that a learned profile names all have a KF. -/
def PortalState.learnable (P : PortalState) (n : Nat) : Bool :=
  P.hasEnvl && (match P.prof n with
    | some c => c.axisList.all fun a => (P.detAxis a).kf != 0
    | none => false)

/-- A write of OB_LEARN. EN = 1 is accepted only in SERVICE with the portal released and a KF for each named axis; otherwise it is
discarded and LRN_REF is set. -/
def PortalState.learnWrite (P : PortalState) (w : Word) : PortalState :=
  let v := w &&& 0xBF0F0000
  if wbit w 31 then
    if P.dstate = 5 && P.released && P.learnable (fget w 29 24) then
      P.modOb fun o => { o with learn := v, learnRun := none, runsOk := 0, runsDisc := 0, learnAxes := .all {} }
    else P.obFlag 6
  else P.modOb fun o => { o with learn := v, learnRun := none, learnAxes := o.learnAxes.map LearnAxis.clearRun }

end Sys2Proof.Machine
end

