-- ==== Sys2Proof/Machine/PortalIo.lean ====
section
/-! DEFINITION. The inputs, proofs and isolation switch of a portal die (R68 to R70, R335 to R341), its switches and supplies (R343 to
R350, R355 to R361, R491), safety-output tests (R352 to R354), harness (R94 to R96), curtain ports (R362 to R368), time (R312),
low-rate mode (R327), and the front-end (R238 to R245). -/

namespace Sys2Proof.Machine

/-! ### Input filters (R336) -/

/-- The filter restarted from a raw state, with no transition. -/
def InputFilter.restart (c : InputCfg) (raw : Bool) : InputFilter :=
  { count := if c.debounce then 0 else if raw then c.filt else 0, lastRaw := raw, out := raw }

/-- One sample of a filter. -/
def InputFilter.sample (x : InputFilter) (c : InputCfg) (raw : Bool) : InputFilter :=
  if c.debounce then
    let t := if raw = x.lastRaw then min (x.count + 1) c.filt else 0
    { count := t, lastRaw := raw, out := if c.filt ≤ t then raw else x.out }
  else
    let n := if raw then min (x.count + 1) c.filt else x.count - 1
    { count := n, lastRaw := raw, out := if n = c.filt then true else if n = 0 then false else x.out }

/-- The filter taken over by a changed record: it keeps its state and starts from it. -/
def InputFilter.adopt (x : InputFilter) (old new : InputCfg) : InputFilter :=
  if old.filt = new.filt ∧ old.debounce = new.debounce then x
  else { count := if new.debounce then 0 else if x.out then new.filt else 0, lastRaw := x.out, out := x.out }

/-! ### Proofs (R68, R69) and the isolation switch (R138) -/

/-- The portal die knows that the part is in OFF or DORMANT: neither half of a proof counts. -/
def PortalState.proofPaused (P : PortalState) : Bool :=
  P.link.lowRate || (match P.link.last with
    | some f => f.dstate == 0
    | none => false)

/-- What the proofs make of a sample: filtered states before and after it, with the open-wire reports that stood. A closing counts where
the channel has been seen open; neither counts under an open-wire report. -/
def PortalState.prove (P : PortalState) (was now ow : BitVec 16) : PortalState :=
  if P.proofPaused then P
  else
    let closing := now &&& ~~~was &&& ~~~ow
    { P with proven := P.proven ||| (closing &&& P.openHalf), openHalf := P.openHalf ||| (~~~now &&& ~~~ow) }

/-- An open-wire report withdraws a proof. -/
def PortalState.withdraw (P : PortalState) (n : Fin 16) : PortalState :=
  { P with proven := putBit P.proven n.val false, openHalf := putBit P.openHalf n.val false }

/-- Moments since which the isolation switch has been split, and CLS and LCK have been made. -/
def PortalState.trackRoles (P : PortalState) (ck : Nat) : PortalState :=
  let keep := fun (b : Bool) (t : Option Nat) => show Option Nat from
    if b then (match t with
      | some m => some m
      | none => some ck) else none
  { P with isoSplitAt := keep (P.split .iso) P.isoSplitAt, agreeAt := keep (P.made .cls && P.made .lck) P.agreeAt }

/-- After the input word or the open-wire flags may have changed: the change is reported, and the safety outputs follow the proof. -/
def PortalState.inputsChanged (P : PortalState) (ck : Nat) (was : Word) (filtered : Bool) : PortalState :=
  let P := (P.trackRoles ck).soRefreshAll ck
  let now := P.signalWord 0
  if filtered && now != was then P.event ck 0x01 3 [now, now ^^^ was] else P

/-- The filtered states, whatever the sinks do. -/
def PortalState.filtered (P : PortalState) : BitVec 16 :=
  BitVec.ofNat 16 (bitsOf (P.inputs.filters.toList.map fun f => f.out))

/-- One sample of the lands: LOCKOUT_CLR_N (R231), and all inputs (R336). A channel that reads on drops its open-wire report (R339). In low-rate mode no
input is filtered. -/
def PortalState.inputSample (P : PortalState) (ck : Nat) (p : PortalId) (x : LandSample) : PortalState :=
  let P := P.lclrLand ck p x.lclrLow
  if P.link.lowRate then P
  else
    let raw := x.word
    let word := P.signalWord 0
    let was := P.filtered
    let ow := P.openWire
    let first := P.inputs.restart
    let fs := P.inputs.filters.mapIdx fun n x =>
      let c := P.inputCfg n.val
      if first then InputFilter.restart c (wbit raw n.val) else x.sample c (wbit raw n.val)
    let P := { P with inputs := { P.inputs with filters := fs, restart := false, raw := raw } }
    let now := P.filtered
    let P := P.prove (if first then now else was) now ow
    let P := { P with inputs := { P.inputs with ow := P.inputs.ow &&& ~~~now } }
    P.inputsChanged ck word true

/-- The 1 Hz sample of the closed and locked inputs in low-rate mode (R327): unfiltered, reported in STATE, and in EVENT on a change. A channel
that reads on drops its open-wire report (R339). -/
def PortalState.lowRateSample (P : PortalState) (ck : Nat) (raw : BitVec 16) : PortalState :=
  if P.por || !P.link.lowRate then P
  else
    let word := P.signalWord 0
    let locks := fun (n : Fin 16) => wbit P.proofRoles n.val
    let fs := P.inputs.filters.mapIdx fun n x => if locks n then { x with out := wbit raw n.val } else x
    let P := { P with inputs := { P.inputs with filters := fs, raw := (P.inputs.raw &&& ~~~P.proofRoles) ||| (raw &&& P.proofRoles),
                                                ow := P.inputs.ow &&& ~~~(raw &&& P.proofRoles) } }
    (P.inputsChanged ck word true).sendState ck

/-- Open wire after 10 ms (R339): reported on a channel with OW_EN that reads off; its proof is withdrawn. -/
def PortalState.openWireSet (P : PortalState) (ck : Nat) (n : Fin 16) : PortalState :=
  if P.por || !P.hasInputs || !(P.inputCfg n.val).owEn || wbit P.filtered n.val || wbit P.inputs.ow n.val then P
  else
    let word := P.signalWord 0
    let P := { P with inputs := { P.inputs with ow := putBit P.inputs.ow n.val true, evt := raise P.inputs.evt n.val } }
    (P.withdraw n).inputsChanged ck word false

/-- The current has been back for 10 ms: the report clears. -/
def PortalState.openWireClear (P : PortalState) (ck : Nat) (n : Fin 16) : PortalState :=
  let word := P.signalWord 0
  { P with inputs := { P.inputs with ow := putBit P.inputs.ow n.val false } }.inputsChanged ck word false

/-- An input's sink reaches 160 °C (R340): the channel reads open and as open wire. -/
def PortalState.inputHot (P : PortalState) (ck : Nat) (n : Fin 16) : PortalState :=
  if P.por then P
  else
    let word := P.signalWord 0
    let P := { P with inputs := { P.inputs with ot := putBit P.inputs.ot n.val true,
                                                evt := raise P.inputs.evt (16 + n.val) } }
    (P.withdraw n).inputsChanged ck word (wbit P.filtered n.val)

/-- The sink has cooled below 145 °C. -/
def PortalState.inputCool (P : PortalState) (ck : Nat) (n : Fin 16) : PortalState :=
  let word := P.signalWord 0
  { P with inputs := { P.inputs with ot := putBit P.inputs.ot n.val false } }.inputsChanged ck word (wbit P.filtered n.val)

/-! ### Current-limit episodes (R343 to R348) -/

/-- An episode begins at ILIM (R343): with a retry, where one has just switched the channel on, else with the switch-on. -/
def SwitchState.episodeStart (w : SwitchState) : SwitchState :=
  if w.on && w.episode.isNone then
    { w with episode := some (match w.retried with
               | some e => e
               | none => .switchOn)
             retried := none, rose := false }
  else w

/-- See `SwitchState.episodeStart`. -/
def PortalState.episodeStart (P : PortalState) (n : Fin 8) : PortalState := P.modSw n SwitchState.episodeStart

/-- The current has stayed below ILIM for 100 µs: the channel stays on, and a short classification is withdrawn. -/
def PortalState.episodeSuccess (P : PortalState) (ck : Nat) (n : Fin 8) : PortalState :=
  let was := P.switches.get n
  (P.modSw n fun w =>
    if w.episode.isNone && w.retried.isNone then w
    else { w with episode := none, retried := none, rose := false, shortCl := w.shortCl && !w.inShortRetry }).episodeOver ck n was

/-- T_EP has elapsed: SHORT where the output never rose, else an inrush retry or OVERLOAD. While VSW_LOW is set nothing is classed SHORT. -/
def PortalState.tepExpire (P : PortalState) (ck : Nat) (n : Fin 8) (rose : Bool) : PortalState :=
  let was := P.switches.get n
  (P.modSw n fun w =>
    match w.episode with
    | none | some .shortRetry => w
    | some _ => if w.rose || rose || P.supply.vswLow then w.inrushEnd else w.short).episodeOver ck n was

/-- A channel next to `n` is classed SHORT. -/
def PortalState.nearShort (P : PortalState) (n : Fin 8) : Bool := (neighbours n).any fun k => (P.switches.get k).shortCl

/-- The die temperature lies above 150 °C. -/
def PortalState.dieAbove150 (P : PortalState) : Bool := decide (150 < P.supply.die.toInt)

/-- A channel that has risen, or is in no episode, reaches 160 °C (R343): OT, or a retry under R346. -/
def PortalState.hotRisen (P : PortalState) (n : Fin 8) (w : SwitchState) : SwitchState :=
  if w.episode.isSome && P.nearShort n && !P.dieAbove150 then { w with flags := raise w.flags 16 }.inrushEnd else w.latch .ot

/-- The end of a short retry (R344): risen, its class is withdrawn; else it has failed. While VSW_LOW is set nothing counts as SHORT (R361). -/
def SwitchState.shortRetryOver (w : SwitchState) (rose vswLow : Bool) : SwitchState :=
  if w.rose || rose then w.unshort
  else if vswLow then (if w.episode.isSome then { w with shortCl := false }.inrushEnd else w.unshort)
  else w.shortFailed

/-- A channel's junction reaches 160 °C (R343, R346); while VSW_LOW is set an episode that it ends is a T_EP end (R361). An unused channel reports
nothing (R342). -/
def PortalState.junctionHot (P : PortalState) (ck : Nat) (n : Fin 8) (rose : Bool) : PortalState :=
  let was := P.switches.get n
  if !(P.switchCfg n.val).used then P
  else
    (P.modSw n fun w =>
      let w := { w with flags := raise w.flags 17 }
      match w.episode with
      | none => if w.on then w.latch .ot else w
      | some .shortRetry =>
        if w.rose || rose then (if P.supply.vswLow then w.unshort.inrushEnd else P.hotRisen n w.unshort) else w.shortRetryOver false P.supply.vswLow
      | some _ =>
        if P.supply.vswLow then w.inrushEnd
        else if !(w.rose || rose) then w.short
        else P.hotRisen n w).episodeOver ck n was

/-- The 100 µs of a short retry are over (R344). -/
def PortalState.shortRetryEnd (P : PortalState) (ck : Nat) (n : Fin 8) (rose : Bool) : PortalState :=
  let was := P.switches.get n
  (P.modSw n fun w => if w.inShortRetry then w.shortRetryOver rose P.supply.vswLow else w).episodeOver ck n was

/-- Open load in the off state (R348). -/
def PortalState.olOff (P : PortalState) (n : Fin 8) : PortalState :=
  let c := P.switchCfg n.val
  P.modSw n fun w => if c.used && c.olOff && !w.on && !P.supply.vswLow then { w with flags := raise w.flags 19 } else w

/-- Undercurrent (R348). -/
def PortalState.undercurrent (P : PortalState) (n : Fin 8) : PortalState :=
  let c := P.switchCfg n.val
  P.modSw n fun w =>
    if c.used && c.uc != 0 && w.on && w.episode.isNone && !P.supply.vswLow then { w with flags := raise w.flags 18 } else w

/-! ### Conduction budget (R349) -/

/-- The channel that is shed next: on, PRIO not 0, the highest PRIO, and the highest number among equals. -/
def PortalState.shedNext (P : PortalState) : Option (Fin 8) :=
  chans8.foldl (fun (b : Option (Fin 8)) n =>
    let q := (P.switchCfg n.val).prio
    if !(P.switches.get n).on || q = 0 then b
    else
      match b with
      | some k => if (P.switchCfg k.val).prio ≤ q then some n else b
      | none => some n) none

/-- Shed a channel. -/
def PortalState.shed (P : PortalState) (ck : Nat) (n : Fin 8) (loss : Nat) : PortalState :=
  let was := P.switches.get n
  let P := (P.modSw n fun w =>
    { w.outOff with retry := none, shed := true, lastLoss := loss }).episodeOver ck n was
  { P with supply := { P.supply with shedOrder := n :: P.supply.shedOrder, overBudget := false } }

/-- The 100 ms average of the conduction losses, per channel in mW, with the channel currents (R349). -/
def PortalState.budget (P : PortalState) (ck : Nat) (loss current : Eight Half) : PortalState :=
  if P.por then P
  else
    let sw := P.switches.mapIdx fun n w => ({ w with current := current.get n } : SwitchState)
    let P := { P with switches := sw }
    let part := fun (n : Fin 8) =>
      let w := P.switches.get n
      if w.on && w.episode.isNone then (loss.get n).toNat else 0
    let est := chans8.foldl (fun t n => t + part n) 0
    let P := { P with supply := { P.supply with est := est } }
    if est ≤ P.pio.budget then { P with supply := { P.supply with overBudget := false } }
    else
      match P.shedNext with
      | some n => P.shed ck n (loss.get n).toNat
      | none => { P with supply := { P.supply with overBudget := true } }

/-- A second of headroom: the channel shed last returns where the estimate with its loss stays at or below 80 % of BUDGET. Only a load that is demanded
is switched on (R347). -/
def PortalState.budgetRestore (P : PortalState) : PortalState :=
  match P.supply.shedOrder with
  | [] => P
  | n :: r =>
    let w := P.switches.get n
    let drop : PortalState := { P with supply := { P.supply with shedOrder := r } }
    if !w.demand || !w.shed || w.latched || !(P.switchCfg n.val).used then drop
    else if P.holding || P.por || decide (80 * P.pio.budget < 100 * (P.supply.est + w.lastLoss)) then P
    else drop.modSw n fun w => { w with on := true, shed := false }

/-! ### Sensor supplies (R350) -/

/-- A supply has been at its limit for 1 ms: off. -/
def PortalState.ssOverload (P : PortalState) (k : Fin 4) : PortalState :=
  if !wbit P.supply.ssOn k.val then P
  else
    { P with supply := { P.supply with ssOvl := putBit P.supply.ssOvl k.val true, ssEvt := putBit P.supply.ssEvt k.val true,
                                       ssCnt := satInc P.supply.ssCnt 0xFFFF } }.refreshSs

/-- Every 100 ms an overloaded supply is switched on again. -/
def PortalState.ssRetry (P : PortalState) (k : Fin 4) : PortalState :=
  { P with supply := { P.supply with ssOvl := putBit P.supply.ssOvl k.val false } }.refreshSs

/-! ### Safety-output tests (R352 to R354) -/

/-- The output is used (R351). -/
def PortalState.soUsed (P : PortalState) (o : SoId) : Bool := wbit P.pio.soUsed (SoId.bit o)

/-- An off-pulse falls due: made only while the output is on; the next one falls due one SO_PER later. -/
def PortalState.soPulse (P : PortalState) (ck : Nat) (o : SoId) : PortalState :=
  P.modSo o fun x => { x with pulse := x.on, nextAt := ck + P.pio.soPer * 1000000 }

/-- The off-pulse ends: passed, with the output on again. -/
def PortalState.soPulseEnd (P : PortalState) (o : SoId) : PortalState :=
  if (P.sos.so o).pulse then
    let Q := P.modSo o fun x => { x with pulse := false }
    { Q with soPulses := Q.soPulses + 1 }
  else P

/-- A fault of R353: its flag, both outputs off, and FAULT. -/
def PortalState.soFault (P : PortalState) (ck : Nat) (o : SoId) (both : Bool) (flag : Nat) : PortalState :=
  let P := { P with soEvt := raise P.soEvt flag }
  let P := P.modSo o fun x => { x with fault := true }
  let P := if both then P.modSo (SoId.other o) fun x => { x with fault := true } else P
  P.soAllOff.enterFault ck P.soEvt

/-- Flag number of a fault of one output: the A flag lies one above the B flag. -/
def soBit (o : SoId) (b : Nat) : Nat := b + (match o with
  | .a => 1
  | .b => 0)

/-- A check of R352 fails. An off decision of the same clock takes effect as well (R354). -/
def PortalState.soCheck (P : PortalState) (ck : Nat) (o : SoId) (c : SoCheck) (offNow : Bool) : PortalState :=
  let x := P.sos.so o
  let y := P.sos.so (SoId.other o)
  let P := if offNow then P.soAllOff else P
  if !P.soUsed o then P
  else
    match c with
    | .notFallen => if x.pulse then (if y.on then P.soFault ck o true 1 else P.soFault ck o false (soBit o 6)) else P
    | .notReturned =>
      if x.on && !x.pulse then { P with soPulses := P.soPulses - 1 }.soFault ck o false (soBit o 6) else P
    | .otherFell => if x.pulse && y.on then P.soFault ck o true 1 else P

/-- An output that is off reads above 3.0 V. -/
def PortalState.soStuckHigh (P : PortalState) (ck : Nat) (o : SoId) : PortalState :=
  if P.por || !P.soUsed o || (P.sos.so o).on then P
  else (P.modSo o fun x => { x with stuck := true, stuckAt := ck }).soFault ck o false (soBit o 4)

/-- An output at its 1.0 A limit. -/
def PortalState.soOvercurrent (P : PortalState) (ck : Nat) (o : SoId) : PortalState :=
  if P.soUsed o && (P.sos.so o).on then P.soFault ck o false (soBit o 2) else P

/-- An output that carries no load. -/
def PortalState.soOpen (P : PortalState) (ck : Nat) (o : SoId) : PortalState :=
  if P.soUsed o && (P.sos.so o).on && !(P.sos.so o).pulse then P.soFault ck o false (soBit o 8) else P

/-! ### Field supply (R355 to R361) -/

/-- Depth of a field-supply state. -/
def FieldState.depth : FieldState → Nat
  | .normal => 0
  | .warn => 1
  | .hold => 2
  | .uv => 3

/-- Enter a state and every shallower one not yet entered: WARN_EV is bit 23, HOLD_EV 22, UV_EV 21. -/
def PortalState.fieldFlags (P : PortalState) (t : FieldState) : PortalState :=
  let d := P.supply.field.depth
  let ev := [1, 2, 3].foldl (fun (w : Word) i => if d < i ∧ i ≤ t.depth then raise w (24 - i) else w) P.supply.psEvt
  { P with supply := { P.supply with psEvt := ev, field := if d < t.depth then t else P.supply.field } }

/-- Brown-out hold begins: axes under a profile or a jog come to a controlled stop and hold at reduced current at once; safe stops and
reversals run on (R226, R357). A jog whose leaves do not move yet is over. -/
def PortalState.holdActions (P : PortalState) (ck : Nat) : PortalState :=
  let P := ([0, 1, 2] : List AxisId).foldl (fun R a =>
    match (R.axes.get a).motion with
    | some m =>
      if m.why = .reversal then R
      else if m.why = .controlledStop ∧ m.after = .torqueOff then R
      else R.controlledStop ck a .restReduced true
    | none => R) P
  if P.movingAxes.isEmpty then P.endJog else P

/-- UV (R358): every switch, safety output and sensor supply off, and every gate. Demands are kept for the recovery. -/
def PortalState.uvActions (P : PortalState) : PortalState :=
  let lit := P.sos.fst.on || P.sos.snd.on
  let P := P.learnDiscard.soAllOff.allOff
  let sw := P.switches.map fun w =>
    { w.outOff with retry := none, deferred := w.demand && !w.latched && !w.shed }
  let P := { P with switches := sw, soEvt := if lit then raise P.soEvt 0 else P.soEvt,
                    supply := { P.supply with restoring := true } }
  P.refreshSs

/-- VFLD has been below a threshold for its filter time. -/
def PortalState.fieldEnter (P : PortalState) (ck : Nat) (p : PortalId) (t : FieldState) : PortalState :=
  let d := P.supply.field.depth
  if P.por || decide (t.depth ≤ d) then P
  else
    let P := P.fieldFlags t
    let P := if d < 2 ∧ 2 ≤ t.depth then P.holdActions ck else P
    if t = .uv then P.uvActions.reversalCheck ck p else P

/-- A deferred channel comes on, with full allowance. -/
def SwitchState.undefer (w : SwitchState) (c : SwitchCfg) : SwitchState :=
  if w.deferred then { w with on := w.demand, deferred := false, retryLeft := c.retries, shortTries := 0, shortCl := false } else w

/-- HOLD is left (R357, R359): after UV the switches return one per millisecond, otherwise at once; retries resume; kept runs start where
their MSEQ still stands, the axes of one run together (R151), and so do runs that hold kept queued behind an enable (log entry 240). -/
def PortalState.holdLeft (P : PortalState) (ck : Nat) : PortalState :=
  let P := if P.supply.restoring then P
    else { P with switches := P.switches.mapIdx fun n w => w.undefer (P.switchCfg n.val) }
  let P := P.resumeRetries ck
  let q : Option Byte := P.link.last.map fun f => f.mseq
  let kept := P.link.kept
  let P := { P with link := { P.link with kept := .all none } }
  let P := ([0, 1, 2] : List AxisId).foldl (fun R a => R.runQueued ck a) P
  (kept.toList.filterMap id).eraseDups.foldl (fun (R : PortalState) (x : Byte × Byte) =>
    if q = some x.2 then R.runCommand ck (([0, 1, 2] : List AxisId).filter fun a => kept.get a == some x) (motionProf x.1) else R) P

/-- The deepest state is left (R355). -/
def PortalState.fieldRecover (P : PortalState) (ck : Nat) : PortalState :=
  match P.supply.field with
  | .normal => P
  | .warn => { P with supply := { P.supply with field := .normal } }
  | .hold => { P with supply := { P.supply with field := .warn } }.holdLeft ck
  | .uv => { P with supply := { P.supply with field := .hold } }.refreshSs

/-- One more switch returns after UV (R359). -/
def PortalState.restoreStep (P : PortalState) : PortalState :=
  if P.holding || !P.supply.restoring then P
  else
    match chans8.find? fun n => (P.switches.get n).deferred with
    | some n => P.modSw n fun w => w.undefer (P.switchCfg n.val)
    | none => { P with supply := { P.supply with restoring := false } }

/-- Logic POR of the portal die (R360, R491): everything it held is lost. -/
def PortalState.logicPor : PortalState := { por := true, supply := { porVhold := true } }

/-- The portal logic restarts: the inputs start from their first sample, and the full self-test runs (R229). -/
def PortalState.porRelease (P : PortalState) : PortalState :=
  if P.por then { P with por := false, ob := { P.ob with selftest := some .download } } else P

/-- VSW below 10.0 V for 100 µs, or back (R361). -/
def PortalState.vswSet (P : PortalState) (low : Bool) : PortalState :=
  { P with supply := { P.supply with vswLow := low, psEvt := if low && !P.supply.vswLow then raise P.supply.psEvt 20 else P.supply.psEvt } }

/-! ### Die temperature (R496, R497) -/

/-- A measurement: the first replaces both fields. -/
def PortalState.dieTemp (P : PortalState) (t : BitVec 16) : PortalState :=
  let s := P.supply
  { P with supply := { s with die := t, dieMeasured := true,
                              dieMax := if !s.dieMeasured || decide (s.dieMax.toInt < t.toInt) then t else s.dieMax,
                              dieHot := s.dieHot && !decide (t.toInt < 140) } }

/-- PS_STAT. -/
def PortalState.psStat (P : PortalState) : Word :=
  fmk 31 30 P.supply.field.depth ||| bitIf 29 P.supply.porVhold ||| (P.supply.psEvt &&& 0x00F00000) ||| fmk 15 0 P.supply.vfldMin

/-- Above 160 °C for 10 ms: FAULT. -/
def PortalState.dieOver (P : PortalState) (ck : Nat) : PortalState :=
  if P.por then P else { P with supply := { P.supply with dieHot := true } }.enterFault ck P.psStat

/-! ### The portal harness (R94 to R96) -/

/-- What the harness reads from its sources. -/
def HarnessSrc.read (h : HarnessSrc) (i : Nat) : Bool :=
  if 0x1400 ≤ i ∧ i < 0x1480 then wbit h.signals (i - 0x1400)
  else if 0x1800 ≤ i ∧ i < 0x1840 then wbit h.cmd (i - 0x1800)
  else if i = 0x1840 then h.limpN
  else if i = 0x1841 then h.linkUp
  else false

/-- The sources as they stand. -/
def PortalState.harnessSrc (P : PortalState) : HarnessSrc :=
  { signals := BitVec.ofNat 128 ((P.signalWord 0).toNat + 2 ^ 32 * (P.signalWord 1).toNat + 2 ^ 64 * (P.signalWord 2).toNat +
      2 ^ 96 * (P.signalWord 3).toNat),
    cmd := match P.link.last with
      | some f => f.cbits
      | none => 0
    limpN := P.link.limpN, linkUp := P.link.up }

/-- The harness cells and timers held. -/
def PortalState.harnessCells (P : PortalState) : List CellCfg := cellsOf (unitBytes P.units tagHARN 1)

/-- See `harnessCells`. -/
def PortalState.harnessTimers (P : PortalState) : List TimerCfg := timersOf (unitBytes P.units tagHARN 2)

/-- The harness right after its units have taken effect. -/
def PortalState.loadHarness (P : PortalState) : PortalState :=
  let k := FabricCopy.load P.harnessCells P.harnessTimers
  { P with harness := { chan1 := k, chan2 := k } }

/-- What the exported outputs do: permissions, limp demands, jog requests and event flags. -/
def PortalState.driveHarness (P : PortalState) (ck : Nat) (dest : Dword) : PortalState :=
  let old := P.harness.dest
  let jog := fun (d : Dword) => (wbit d 24, wbit d 25)
  let P := { P with harness := { P.harness with dest := dest } }
  let P := (P.setPerm ck .a (wbit dest 0)).setPerm ck .b (wbit dest 1)
  let P := if P.link.limp then P.applyDemands ck else P
  let P := P.jogRequests ck (jog old) (jog dest)
  if (dest &&& ~~~old) >>> (32 : Nat) != 0 then P.event ck 0x0C 3 [P.eventFlags] else P

/-- One tick of the portal harness (R95): both monitor channels evaluate it, and a difference in an exported output forces both
permissions off and puts the portal into FAULT. -/
def PortalState.harnessTick (P : PortalState) (ck : Nat) (upsets : List HarnessUpset) : PortalState :=
  if P.por || !holds P.units tagHARN 1 then P
  else
    let cs := P.harnessCells
    let ts := P.harnessTimers
    let src := P.harnessSrc
    let hit := fun (two : Bool) => (upsets.filter fun u => u.chan2 == two).map fun u => u.cell.toNat
    let k1 := (P.harness.chan1.tick cs ts src.read).upset cs (hit false)
    let k2 := (P.harness.chan2.tick cs ts src.read).upset cs (hit true)
    let P := { P with harness := { P.harness with chan1 := k1, chan2 := k2, src := src } }
    match copyMismatch cs k1 k2 with
    | some _ => ((P.setPerm ck .a false).setPerm ck .b false).enterFault ck 0
    | none => P.driveHarness ck (k1.destWord cs 64)

/-- A harness timer reaches its preset now. -/
def PortalState.harnessExpire (P : PortalState) (n : Nat) : PortalState :=
  let cs := P.harnessCells
  let ts := P.harnessTimers
  let r := P.harness.src.read
  { P with harness := { P.harness with chan1 := P.harness.chan1.expire cs ts r n, chan2 := P.harness.chan2.expire cs ts r n } }

/-! ### Curtain ports (R362 to R368, R465) -/

/-- Code of CUR_STAT.PHASE. -/
def CurtainPhase.code : CurtainPhase → Nat
  | .off => 0
  | .hello => 1
  | .select => 2
  | .live => 3
  | .lost => 4
  | .failed => 5

/-- CUR_STAT. -/
def CurtainState.stat (c : CurtainState) : Word :=
  fmk 31 28 c.phase.code ||| fmk 27 24 c.vsel ||| bitIf 23 c.legacy ||| bitIf 22 c.summary ||| fmk 15 8 c.nbeams.toNat |||
  fmk 7 0 c.status.toNat

/-- A frame to a curtain with its CRC. -/
def curtainOut (l : List Byte) : List Byte := l ++ leBytes 2 (crc16 l).toNat

/-- The CRC of a received frame is right. -/
def curtainCrcOk (l : List Byte) : Bool :=
  2 ≤ l.length && (crc16 (l.take (l.length - 2))).toNat == rd16 l (l.length - 2)

/-- Change one port, and report a change of its phase to the tally island. -/
def PortalState.modCur (P : PortalState) (ck : Nat) (k : Fin 2) (c : CurtainState) : PortalState :=
  let old := P.curtains.at2 k
  let P := { P with curtains := P.curtains.set2 k c }
  if old.phase = c.phase then P
  else P.pushEvent ck { etime := P.link.time, code := 0x11, axis := 3, port := BitVec.ofNat 8 k.val, parts := 0, args := [c.stat] }

/-- Set a flag of CUR_EVT. -/
def CurtainState.flag (c : CurtainState) (i : Nat) : CurtainState := { c with evt := raise c.evt i }

/-- A port goes to lost, or fails: its summary reads interrupted. -/
def CurtainState.lose (c : CurtainState) : CurtainState := { c with phase := .lost, legacy := false, summary := true }.flag 5

/-- HELLO_REQ. -/
def CurtainState.request (c : CurtainState) (r : CurtainCfg) : CurtainState :=
  { c with phase := .hello, sent := curtainOut [0x5A, 0x10, BitVec.ofNat 8 (min 2 r.vmax), 1] }

/-- A negotiation starts. -/
def CurtainState.negotiate (c : CurtainState) (r : CurtainCfg) : CurtainState :=
  { c with tries := 0, v1Seen := false, legacy := false, vsel := 0, seq := none, summary := true }.request r

/-- HELLO_RSP (R365). Outside a negotiation its TYPE is not that of VSEL, so it counts as discarded (R366). -/
def PortalState.curtainHello (P : PortalState) (ck : Nat) (k : Fin 2) (l : List Byte) : PortalState :=
  let c := P.curtains.at2 k
  let r := P.curtainCfg k.val
  if c.phase == .off then P
  else if c.phase != .hello || l.length != 12 || rd8 l 0 != 0xA5 || rd8 l 1 != 0x11 || !curtainCrcOk l then
    P.modCur ck k { c with crcErr := satInc c.crcErr 0xFFFF }
  else
    let c := { c with nbeams := BitVec.ofNat 8 (rd8 l 4), ident := rdw l 6 }
    let v := min (min 2 r.vmax) (rd8 l 2)
    if rd8 l 5 != 5 || (r.nbeams != 0 && r.nbeams != rd8 l 4) || (r.identReq != 0 && r.identReq != rdw l 6) then
      P.modCur ck k ({ c with phase := .failed }.flag 3)
    else if v < rd8 l 3 || v = 0 then P.modCur ck k ({ c with phase := .failed }.flag 0)
    else P.modCur ck k { c with phase := .select, vsel := v, sent := curtainOut [0x5A, 0x12, BitVec.ofNat 8 v, 0] }

/-- A HELLO_REQ is left unanswered, or no BEAM frame follows SELECT (R365). -/
def PortalState.curtainTimeout (P : PortalState) (ck : Nat) (k : Fin 2) : PortalState :=
  let c := P.curtains.at2 k
  let r := P.curtainCfg k.val
  match c.phase with
  | .hello =>
    let c := { c with tries := c.tries + 1 }
    if c.tries < 3 then P.modCur ck k (c.request r)
    else if r.legacyOk && c.v1Seen then P.modCur ck k ({ c with phase := .live, vsel := 1, legacy := true }.flag 4)
    else P.modCur ck k c.lose
  | .select => P.modCur ck k c.lose
  | _ => P

/-- Every 100 ms a lost or failed port negotiates again. -/
def PortalState.curtainRetry (P : PortalState) (ck : Nat) (k : Fin 2) : PortalState :=
  let c := P.curtains.at2 k
  if P.por || !(P.curtainCfg k.val).used || !(c.phase == .lost || c.phase == .failed) then P
  else P.modCur ck k (c.negotiate (P.curtainCfg k.val))

/-- The version of a valid BEAM frame. -/
def beamVersion (l : List Byte) : Option Nat :=
  if rd8 l 0 = 0xA5 && curtainCrcOk l then
    (if rd8 l 1 = 1 && l.length = 15 then some 1 else if rd8 l 1 = 2 && l.length = 26 then some 2 else none)
  else none

/-- What a valid BEAM frame of version `v` leaves in the port (R366, R367). -/
def CurtainState.beam (c : CurtainState) (r : CurtainCfg) (v : Nat) (l : List Byte) : CurtainState :=
  let sq : Byte := l.getD 2 0
  let skipped := match c.seq with
    | some s => (sq - s - 1).toNat
    | none => 0
  let beams : Dword := BitVec.ofNat 64 (rd64 l 4)
  let latch : Dword := if v = 2 then BitVec.ofNat 64 (rd64 l 12) else 0
  let st : Byte := l.getD (if v = 2 then 22 else 12) 0
  let c : CurtainState := { c with seq := some sq, missed := min 0xFFFF (c.missed + skipped), nbeams := l.getD 3 0, beams := beams,
                                   latch := latch, status := st, summary := ((beams ||| latch) &&& r.mask) != 0 || wbit st 0 }
  let c := if wbit st 0 then c.flag 2 else c
  if wbit st 1 then c.flag 1 else c

/-- Forward a frame to the tally island, in parts of 20 bytes (R465). -/
def PortalState.forwardBeam (P : PortalState) (ck : Nat) (k : Fin 2) (l : List Byte) : PortalState :=
  let n := (l.length + 19) / 20
  (List.range n).foldl (fun R i =>
    let b := slice l (20 * i) 20
    R.pushEvent ck { etime := P.link.time, code := 0x10, axis := 3, port := BitVec.ofNat 8 k.val,
                     parts := BitVec.ofNat 8 (16 * n + i), args := (List.range 5).map fun j => wordAt b j }) P

/-- No version is selected on a port. -/
def CurtainState.unselected (c : CurtainState) : Bool := c.vsel == 0 && !(c.phase == .live || c.phase == .select)

/-- The version of the BEAM frames that a port takes: VSEL, and 1 while none is selected, as a curtain that streams unprompted sends (R365, R366). -/
def CurtainState.wants (c : CurtainState) : Nat := if c.unselected then 1 else c.vsel

/-- A BEAM frame arrives. One that is valid goes to the tally island in whatever phase the port is (R368; log entry 245), one of another version is
discarded (R366). -/
def PortalState.curtainBeam (P : PortalState) (ck : Nat) (k : Fin 2) (l : List Byte) : PortalState :=
  let c := P.curtains.at2 k
  let r := P.curtainCfg k.val
  let drop := P.modCur ck k { c with crcErr := satInc c.crcErr 0xFFFF }
  match beamVersion l with
  | none => if c.phase = .off then P else drop
  | some v =>
    if c.phase = .off then P
    else if v != c.wants then (if c.unselected then P else drop)
    else
      (match c.phase with
      | .live => P.modCur ck k (c.beam r v l)
      | .select => P.modCur ck k ({ c.beam r v l with phase := .live }.flag 4)
      | .hello => P.modCur ck k { c with v1Seen := true }
      | _ => P).forwardBeam ck k l

/-- No valid BEAM frame for 1.5 ms. -/
def PortalState.curtainLost (P : PortalState) (ck : Nat) (k : Fin 2) : PortalState :=
  let c := P.curtains.at2 k
  if c.phase = .live then P.modCur ck k c.lose else P

/-- A frame with a bad CRC, a wrong START or a wrong TYPE is discarded. -/
def PortalState.curtainDiscard (P : PortalState) (ck : Nat) (k : Fin 2) : PortalState :=
  let c := P.curtains.at2 k
  if c.phase = .off then P else P.modCur ck k { c with crcErr := satInc c.crcErr 0xFFFF }

/-! ### Portal time (R312) -/

/-- The trim for an error of `e` ns, in 0.01 ppm, within 200 ppm: the rate at which e / 16 passes from one TIME frame to the next, every 10 µs or, in low-rate
mode, every 100 ms. -/
def trimFor (e : Int) (lowRate : Bool) : Int := clampI (-20000) 20000 (if lowRate then divR e 16 else 625 * e)

/-- A TIME frame of the link: its arrival plus the delay of its lane is the device time. An error above 1 µs steps the portal time, which
stops the stream; a smaller one trims the rate. Over a lane that is being retrained it counts for the lane (R311). -/
def PortalState.timeFrame (P : PortalState) (h : FrameHdr) (stamp : Dword) : PortalState :=
  let target := stamp + BitVec.ofInt 64 (divR (P.link.dly.at2 h.lane).toNat 10)
  let e := (target - P.link.time).toInt
  if 1000 < |e| then
    let P := { P with link := { P.link with time := target, timeErr := e, timeFree := false, timeStep := true, noteTime := target,
                                            glEvt := raise P.link.glEvt 0 } }
    { P with afe := { P.afe with halted := true } }
  else
    { P with link := { P.link with timeErr := e, timeFree := false, trim := trimFor e P.link.lowRate } }

/-- No TIME frame for 20 µs: the portal time runs free, on the portal's own oscillator. -/
def PortalState.timeFree (P : PortalState) : PortalState := { P with link := { P.link with timeFree := true, trim := 0 } }

/-! ### The front-end (R238 to R245, R307) -/

/-- The 16 bits of a stored sample: HELD, OVR, code. -/
def sampleWord (c : AdcCode) : Half := (c.code.setWidth 16 : Half) ||| (if c.ovr then 0x4000 else 0)

/-- A sample held from the frame before. -/
def heldWord (w : Half) : Half := w ||| 0x8000

/-- Every channel of one analog frame. In the frame of the cross-check channels 6 and 7 are held (R240). -/
def AfeState.convert (f : AfeState) (codes : Sixteen AdcCode) : AfeState :=
  let raw := f.raw.mapIdx fun c w => if f.crossDue && (c.val == 6 || c.val == 7) then heldWord w else sampleWord (codes.get c)
  let n := (codes.toList.filter fun c => c.ovr).length
  { f with raw := raw, heldCnt := if f.crossDue then satInc f.heldCnt 0xFFFF else f.heldCnt, ovrCnt := min 0xFFFF (f.ovrCnt + n),
           crossDue := false }

/-- The derived samples of the window: those of the streamed axes in ascending order, where an observer update fell in it (R307). -/
def PortalState.derivedFrame (P : PortalState) : List DerivedSample :=
  let d := P.afe.derived
  if d.toList.all Option.isNone then []
  else (([0, 1, 2] : List AxisId).filter fun a => wbit P.afe.stream (16 + a.val)).map fun a => (d.get a).getD (P.derivedOf a)

/-- The SAMPLE frame of the window that closes now. -/
def AfeState.frame (f : AfeState) (start : Nat) (der : List DerivedSample) : SampleFrame :=
  let ana := (List.range 16).filter fun c => wbit f.stream c
  { content := BitVec.ofNat 8 (b2n (!ana.isEmpty) + 2 * b2n (!der.isEmpty) + 4 * b2n (!f.words.isEmpty)),
    tt := BitVec.ofNat 32 (start / 1000), analog := ana.map fun c => f.raw.toList.getD c 0, derived := der,
    digital := f.words }

/-- One analog frame ends: the samples are taken, VFLD is noted, and the window's SAMPLE frame is sent where anything is streamed. -/
def PortalState.adcFrame (P : PortalState) (codes : Sixteen AdcCode) : PortalState :=
  if P.por then P
  else
    let f := P.afe.convert codes
    let v := (divR ((codes.get 13).code.toNat * 2441) 10000).toNat
    let P := { P with supply := { P.supply with vfld := v, vfldMin := min P.supply.vfldMin v, railsSeen := true } }
    let go := P.link.up && !P.link.lowRate && !f.halted && f.stream != 0
    let fr := f.frame (P.link.time.toNat / 2000 * 2000) P.derivedFrame
    let P := { P with afe := { f with derived := .all none, words := [] } }
    if go then { P with link := { P.link with fin := P.link.fin.send fun h => .sample h fr } } else P

/-- The level bits of the digital vector (R242). -/
def PortalState.digitalLevels (P : PortalState) : Nat :=
  let ax := fun (f : AxisState → Bool) => bitsOf (P.axes.toList.map f)
  let fb := fun (f : FbState → Bool) => bitsOf (P.fbs.toList.map f)
  P.inputWord.toNat + 2 ^ 16 * P.swOn + 2 ^ 24 * bitsOf [P.sos.fst.readback, P.sos.snd.readback] +
  2 ^ 26 * bitsOf [P.curtains.fst.summary, P.curtains.snd.summary] +
  2 ^ 28 * bitsOf [P.link.limpN, P.ob.lclrAt.isSome] + 2 ^ 31 * b2n P.ob.stop.isSome +
  2 ^ 35 * ax (fun x => x.moving) + 2 ^ 38 * ax (fun x => x.atEnd) + 2 ^ 41 * fb (fun f => f.still) +
  2 ^ 47 * ax (fun x => !x.enabled) + 2 ^ 50 * ax (fun x => x.dutySat) + 2 ^ 53 * fb (fun f => f.uncertain) +
  2 ^ 56 * P.swFaults

/-- A digital word at the present tick, where the stream takes them. -/
def PortalState.digitalWord (P : PortalState) (v : Dword) : PortalState :=
  if wbit P.afe.stream 19 && !P.afe.halted then
    { P with afe := { P.afe with words := P.afe.words ++ [(BitVec.ofNat 1 (P.link.time.toNat / 1000), v)] } }
  else P

/-- One 1 µs tick of the digital vector: a word where a level bit changed or an event bit is 1. -/
def PortalState.digitalSample (P : PortalState) : PortalState :=
  if P.por then P
  else
    let v := BitVec.ofNat 64 P.digitalLevels ||| (P.afe.devents &&& eventBits)
    let old := P.afe.dvec
    let P := { P with afe := { P.afe with dvec := v, devents := 0 } }
    if (v &&& ~~~eventBits) != (old &&& ~~~eventBits) || (v &&& eventBits) != 0 then P.digitalWord v else P

/-- No word for 2^31 ticks: a word with no change. -/
def PortalState.digitalKeepalive (P : PortalState) : PortalState :=
  if P.por then P else P.digitalWord (P.afe.dvec &&& ~~~eventBits)

end Sys2Proof.Machine
end

