-- ==== Sys2Proof/Machine/PortalRegs.lean ====
section
/-! DEFINITION. The registers that a portal die serves (R35, and the register tables of its blocks): what each word reads, and what
a write does. Offsets count from the base of the portal block. -/

namespace Sys2Proof.Machine

/-- Two halves of a word. -/
def halves (hi lo : Nat) : Word := fmk 31 16 hi ||| fmk 15 0 lo

/-- Four bytes of a word, highest first. -/
def quarters (a b c d : Nat) : Word := fmk 31 24 a ||| fmk 23 16 b ||| fmk 15 8 c ||| fmk 7 0 d

/-- A word from a number. -/
def wnat (n : Nat) : Word := BitVec.ofNat 32 n

/-! ### AX -/

/-- AX_STAT. -/
def PortalState.axStat (P : PortalState) (a : AxisId) : Word :=
  let x := P.axes.get a
  fmk 31 28 x.segment ||| fmk 27 22 x.profile ||| fmk 21 19 x.drive.code ||| bitIf 15 x.openDir ||| bitIf 14 x.trip |||
  bitIf 13 (!x.enabled) ||| bitIf 12 x.lagWarn ||| bitIf 11 x.dutySat ||| bitIf 10 x.holdFirm ||| bitIf 9 x.holdRed |||
  bitIf 8 x.atEnd ||| bitIf 7 x.moving ||| bitIf 6 x.enabled ||| bitIf 5 x.rateClip ||| bitIf 4 x.aligned |||
  bitIf 3 P.supply.vmotLow ||| bitIf 2 P.supply.gateUv

/-- Registers of one axis. -/
def PortalState.axRead (P : PortalState) (a : AxisId) (o : Nat) : Option Word :=
  let c := P.axisCfg a
  let x := P.axes.get a
  match o with
  | 0x000 => some (fmk 31 28 c.kind ||| fmk 27 24 c.micro ||| fmk 23 16 c.poles ||| fmk 15 8 c.pwmKhz ||| bitIf 1 c.hallAlign |||
      bitIf 0 c.dirInv)
  | 0x004 => some (halves (if c.pwmKhz = 0 then 0 else (400000 + c.pwmKhz) / (2 * c.pwmKhz)) c.dead)
  | 0x008 => some (halves c.r c.l)
  | 0x00C => some (wnat c.ke)
  | 0x010 => some (fmk 31 16 c.iFull ||| fmk 15 8 c.holdFrac ||| fmk 6 0 c.gain)
  | 0x014 => some (halves c.shunt c.holdDelay)
  | 0x018 => some (halves P.vmotDiv c.ioc)
  | 0x01C => some (halves P.vov P.vlow)
  | 0x020 => some (wnat c.scale)
  | 0x024 => some (wnat c.fbRatio)
  | 0x028 => some (wnat c.dstop)
  | 0x02C => some (wnat c.lagw)
  | 0x030 => some (wnat c.kp)
  | 0x034 => some (wnat c.kv)
  | 0x040 => some (P.axStat a)
  | 0x044 => some x.evt
  | 0x048 => some (wordOf x.demand)
  | 0x04C => some (wordOf x.lag)
  | 0x050 => some (wordOf x.rate)
  | 0x054 => some (wnat (min x.ival 0xFFFFFFFF))
  | 0x058 => some (halves x.vmin P.supply.vbus)
  | 0x05C => some (halves x.dmax x.dnow)
  | 0x060 => some (halves (sat16 x.ileg.x1) (sat16 x.ileg.x0))
  | 0x064 => some (halves (sat16 x.ileg.x3) (sat16 x.ileg.x2))
  | 0x068 => some (halves x.satCnt x.tripCnt)
  | 0x06C => some 0
  | _ => none

/-! ### FB -/

/-- FB_STAT. -/
def FbState.stat (f : FbState) : Word :=
  bitIf 31 f.still ||| bitIf 30 f.spdQual ||| bitIf 29 f.uncertain ||| bitIf 28 f.limHi ||| bitIf 27 f.limLo |||
  bitIf 26 f.idxArmed ||| bitIf 25 f.firstEdge ||| bitIf 24 f.dirUp ||| fmk 19 16 f.lineOk.toNat ||| fmk 10 8 f.hallSector.toNat |||
  fmk 2 0 f.hallCode.toNat

/-- Registers of one feedback port. -/
def PortalState.fbRead (P : PortalState) (a : AxisId) (o : Nat) : Option Word :=
  let c := P.fbCfg a
  let f := P.fbs.get a
  match o with
  | 0x000 => some (quarters c.kindByte c.flags c.filt c.hyst)
  | 0x004 => some (fmk 31 16 c.bw ||| fmk 15 8 c.stillMs ||| fmk 7 0 c.hallFilt)
  | 0x008 => some (wnat c.cpr)
  | 0x00C => some (wordOf c.idxVal)
  | 0x010 => some (wnat c.idxTol)
  | 0x014 => some (wordOf c.softLo)
  | 0x018 => some (wordOf c.softHi)
  | 0x01C => some (fmk 31 16 c.ssiKhz ||| fmk 15 8 c.dbits ||| fmk 7 0 c.sbits)
  | 0x020 => some (fmk 31 16 c.period ||| fmk 15 8 c.tm ||| fmk 7 0 c.errMask)
  | 0x024 => some (wnat c.jump)
  | 0x028 => some (fmk 31 24 c.wlo ||| fmk 23 16 c.whi ||| fmk 15 0 c.nom)
  | 0x02C => some (halves (sat16 c.sinOfs) (sat16 c.cosOfs))
  | 0x030 => some (fmk 3 0 (c.hallCfg % 16))
  | 0x040 => some (wordOf f.pos)
  | 0x044 => some (wordOf f.speed16)
  | 0x048 => some (wordOf f.accelReg)
  | 0x04C => some (wordOf f.pestReg)
  | 0x050 => some f.stat
  | 0x054 => some f.evt
  | 0x058 => some (halves f.illCnt f.frameCnt)
  | 0x05C => some (wordOf f.idxPos)
  | 0x060 => some f.ssiData
  | 0x064 => some (fmk 7 0 f.ssiStat.toNat)
  | 0x068 => some (halves (sat16 f.sin) (sat16 f.cos))
  | 0x06C => some (halves f.rmin f.rnow)
  | 0x070 => some f.detect
  | 0x074 | 0x078 => some 0
  | 0x080 => some f.cmpVal
  | 0x084 => some f.cmpInc
  | 0x088 => some f.cmpCtl
  | 0x08C => some (wnat f.cmpHits)
  | 0x090 => some (f.cmpT.setWidth 32)
  | 0x094 => some ((f.cmpT >>> (32 : Nat)).setWidth 32)
  | _ => none

/-! ### SW, SS, PS -/

/-- Class code of SW_DIAG. -/
def SwitchClass.code : SwitchClass → Nat
  | .none => 0
  | .short => 1
  | .overload => 2
  | .ot => 3

/-- SW_DIAG of a channel. -/
def SwitchState.diag (w : SwitchState) : Word :=
  fmk 31 28 w.cls.code ||| bitIf 27 w.latched ||| bitIf 26 w.episode.isSome ||| bitIf 25 w.shortCl ||| fmk 23 20 w.retryLeft |||
  (w.flags &&& 0x000F0000) ||| fmk 15 0 w.current.toNat

/-- One bit for each of the eight channels. -/
def PortalState.swBits (P : PortalState) (f : SwitchState → Bool) : Nat := bitsOf (P.switches.toList.map f)

/-- The configuration words of a channel. -/
def PortalState.swCfg (P : PortalState) (n : Nat) (second : Bool) : Word :=
  let c := P.switchCfg n
  if second then fmk 31 24 c.tEp ||| fmk 23 20 c.retries ||| fmk 18 16 c.prio ||| fmk 15 8 c.retryInt ||| bitIf 2 c.used |||
    bitIf 1 c.olOff ||| bitIf 0 c.fs
  else halves c.ilim c.uc

/-- A physical quantity that no command carries (VSW, VHOLD, the safety-output currents): its reset value 0 until the first analog frame after logic POR
(log entry 203). -/
def PortalState.rail (P : PortalState) (k ck : Nat) : Nat := if P.supply.railsSeen then Config.measured k ck else 0

/-- Registers of the switch, sensor-supply and field-supply blocks. VSW and VHOLD are physical quantities that no command carries. -/
def PortalState.swRead (P : PortalState) (ck o : Nat) : Option Word :=
  let s := P.supply
  if o < 0x40 then (if o % 4 = 0 then some (P.swCfg (o / 8) (o % 8 = 4)) else none)
  else if 0x80 ≤ o ∧ o < 0xA0 then
    (if o % 4 = 0 then (P.switches.toList[(o - 0x80) / 4]?).map SwitchState.diag else none)
  else
    match o with
    | 0x040 => some (quarters (P.swBits fun w => w.shed) (P.swBits fun w => w.episode.isSome) P.swFaults P.swOn)
    | 0x044 => some (bitIf 31 s.overBudget |||
        fmk 26 16 (if holds P.units tagIOMP 3 then P.pio.budget else 0) ||| fmk 11 0 (min s.est 0xFFF))
    | 0x048 => some (bitIf 31 s.vswLow ||| fmk 15 0 (P.rail 1 ck))
    | 0x100 => some (fmk 3 0 P.pio.ssEn.toNat)
    | 0x104 => some (fmk 31 16 s.ssCnt ||| fmk 11 8 s.ssEvt.toNat ||| fmk 7 4 s.ssOvl.toNat ||| fmk 3 0 s.ssOn.toNat)
    | 0x140 => some P.psStat
    | 0x144 => some (halves (P.rail 2 ck) s.vfld)
    | 0x148 => some (halves s.dieMax.toNat s.die.toNat)
    | _ => none

/-! ### IN, CUR -/

/-- Registers of a curtain port. -/
def PortalState.curRead (P : PortalState) (k : Fin 2) (o : Nat) : Option Word :=
  let r := P.curtainCfg k.val
  let c := P.curtains.at2 k
  match o with
  | 0x00 => some (fmk 31 24 (b2n r.used + 2 * b2n r.legacyOk) ||| fmk 23 16 r.vmax ||| fmk 15 8 r.nbeams)
  | 0x04 => some (r.mask.setWidth 32)
  | 0x08 => some ((r.mask >>> (32 : Nat)).setWidth 32)
  | 0x0C => some r.identReq
  | 0x10 => some c.stat
  | 0x14 => some (c.beams.setWidth 32)
  | 0x18 => some ((c.beams >>> (32 : Nat)).setWidth 32)
  | 0x1C => some (c.latch.setWidth 32)
  | 0x20 => some ((c.latch >>> (32 : Nat)).setWidth 32)
  | 0x24 => some c.ident
  | 0x28 => some (halves c.crcErr c.missed)
  | 0x2C => some c.evt
  | _ => none

/-- The mirror of an input record. -/
def PortalState.inCfg (P : PortalState) (n : Nat) : Word :=
  if P.hasInputs then
    let c := P.inputCfg n
    fmk 31 24 (c.role + 16 * b2n c.chb + 32 * b2n c.edgeOpen) |||
    fmk 23 16 (b2n c.debounce + 2 * b2n c.lowMode + 4 * b2n c.owEn) ||| fmk 15 0 c.filt
  else 0

/-- Registers of the inputs and the curtain ports. -/
def PortalState.inRead (P : PortalState) (o : Nat) : Option Word :=
  let i := P.inputs
  if o < 0x40 then (if o % 4 = 0 then some (P.inCfg (o / 4)) else none)
  else if 0x50 ≤ o ∧ o < 0x70 then
    if o % 4 = 0 then
      let n := (o - 0x50) / 2
      some (halves (i.current.toList.getD (n + 1) 0).toNat (i.current.toList.getD n 0).toNat)
    else none
  else if 0x100 ≤ o ∧ o < 0x140 then P.curRead 0 (o - 0x100)
  else if 0x140 ≤ o ∧ o < 0x180 then P.curRead 1 (o - 0x140)
  else
    match o with
    | 0x040 => some (halves i.raw.toNat P.inputWord.toNat)
    | 0x044 => some (halves i.ot.toNat i.ow.toNat)
    | 0x048 => some i.evt
    | _ => none

/-! ### SO -/

/-- Registers of the safety outputs. Their currents are physical quantities that no command carries. -/
def PortalState.soRead (P : PortalState) (ck o : Nat) : Option Word :=
  let c := P.pio
  let a := P.sos.fst
  let b := P.sos.snd
  match o with
  | 0x000 => some (if holds P.units tagIOMP 3 then fmk 31 16 c.soPer ||| fmk 15 14 c.soUsed.toNat ||| fmk 8 0 c.soPw else 0)
  | 0x004 => some (fmk 31 16 ((a.nextAt - ck) / 1000000) ||| bitIf 5 b.readback ||| bitIf 4 a.readback |||
      bitIf 3 b.pulse ||| bitIf 2 a.pulse ||| bitIf 1 b.fault ||| bitIf 0 a.fault)
  | 0x008 => some P.soEvt
  | 0x00C => some (halves (P.rail 4 ck) (P.rail 3 ck))
  | 0x010 => some P.soPulses
  | _ => none

/-! ### OB -/

/-- OB_STAT. -/
def PortalState.obStat (P : PortalState) : Word :=
  let o := P.ob
  let armed := bitsOf (([0, 1, 2] : List AxisId).map fun a => P.armedOn a && (P.detAxis a).effortEn)
  bitIf 31 o.stop.isSome ||| bitIf 30 o.rest.isSome ||| bitIf 29 o.revPend ||| bitIf 28 (o.lockCause != 0) ||| bitIf 27 o.learnEn |||
  bitIf 26 o.lclrAt.isSome ||| bitIf 25 o.selftestOk ||| bitIf 19 o.edges.snd.pressed ||| bitIf 18 o.edges.fst.pressed |||
  bitIf 17 o.armed ||| bitIf 16 P.swEdgePressed ||| fmk 10 8 o.envAct.toNat ||| fmk 6 4 armed ||| fmk 2 0 o.stopAxes.toNat

/-- The learning bin that OB_LRNIDX selects, with its axis. -/
def ObState.lrnAxis (o : ObState) : LearnAxis :=
  match fget o.lrnIdx 9 8 with
  | 0 => o.learnAxes.x0
  | 1 => o.learnAxes.x1
  | 2 => o.learnAxes.x2
  | _ => {}

/-- OB_LRNDATA. -/
def ObState.lrnData (o : ObState) : Word :=
  match o.lrnAxis.bins[fget o.lrnIdx 7 0]? with
  | some b => if b.n = 0 then 0 else halves (sat16 (divR b.sum b.n)) (sat16 (b.hi - b.lo))
  | none => 0

/-- Registers of one axis part of the detector record, in force or as R236 gives it; they mirror the record, so they read 0 without one. -/
def PortalState.obAxisRead (P : PortalState) (a : AxisId) (o : Nat) : Option Word :=
  let d := P.detAxis a
  let r := fun (w : Word) => if P.hasEnvl then w else 0
  match o with
  | 0x00 => some (r (wnat d.kf))
  | 0x04 => some (r (wnat d.mEff))
  | 0x08 => some (r (wnat d.lagStop))
  | 0x0C => some (r (wnat d.ssDecel))
  | 0x10 => some (r (wnat d.ssJerk))
  | 0x14 => some (r (match d.ssVmarg with
      | some m => wnat m
      | none => 0))
  | 0x18 => some (r (halves d.effMax d.ssTdel))
  | 0x1C => some (r (quarters (bitsOf [d.effortEn, d.progressEn, d.effOpen, d.effClose]) d.progConf d.effConf
      (P.envelopes.countP fun e => e.axis == a.val)))
  | _ => none

/-- Registers of the obstacle block. -/
def PortalState.obRead (P : PortalState) (ck o : Nat) : Option Word :=
  let d := P.det
  let ob := P.ob
  let r := fun (w : Word) => if P.hasEnvl then w else 0
  let mv := fun (q : Rat) => sat16 (ratR q)
  let base := fun (e : EdgeState) => show Nat from
    (match e.base with
      | some b => mv b
      | none => 0)
  if 0x40 ≤ o ∧ o < 0x60 then P.obAxisRead 0 (o - 0x40)
  else if 0x60 ≤ o ∧ o < 0x80 then P.obAxisRead 1 (o - 0x60)
  else if 0x80 ≤ o ∧ o < 0xA0 then P.obAxisRead 2 (o - 0x80)
  else
    match o with
    | 0x000 => some (r (quarters d.edgMode d.edgDir d.edgConf d.edgAxes))
    | 0x004 => some (r (halves d.thr1 d.thr0))
    | 0x008 => some (r (halves d.vmax d.vmin))
    | 0x00C => some (r (halves d.baseTc d.hyst))
    | 0x010 => some (r (halves d.ssSettle d.ssRest))
    | 0x014 => some (r (wnat d.progTmo))
    | 0x100 => some P.obStat
    | 0x104 => some ob.evt
    | 0x108 => some ob.cause
    | 0x10C => some (ob.dett.setWidth 32)
    | 0x110 => some ((ob.dett >>> (32 : Nat)).setWidth 32)
    | 0x114 => some (wordOf ob.detPos.x0)
    | 0x118 => some (wordOf ob.detPos.x1)
    | 0x11C => some (wordOf ob.detPos.x2)
    | 0x120 => some (halves (sat16 ob.effHigh.x0) (sat16 ob.eff.x0))
    | 0x124 => some (halves (sat16 ob.effHigh.x1) (sat16 ob.eff.x1))
    | 0x128 => some (halves (sat16 ob.effHigh.x2) (sat16 ob.eff.x2))
    | 0x12C => some (halves (sat16 ob.limLo.x0) (sat16 ob.limU.x0))
    | 0x130 => some (halves (sat16 ob.limLo.x1) (sat16 ob.limU.x1))
    | 0x134 => some (halves (sat16 ob.limLo.x2) (sat16 ob.limU.x2))
    | 0x140 => some (halves (mv ob.edges.snd.above) (mv ob.edges.fst.above))
    | 0x144 => some (halves (base ob.edges.snd) (base ob.edges.fst))
    | 0x150 => some (P.obLock ck)
    | 0x154 => some (fmk 31 16 ob.detCnt ||| fmk 15 8 ob.spdTrips ||| fmk 7 0 ob.lockouts)
    | 0x160 => some ob.learn
    | 0x164 => some (fmk 23 16 ob.runsOk ||| fmk 15 8 ob.runsDisc ||| fmk 7 0 (ob.lrnAxis.bins.length % 256))
    | 0x168 => some ob.lrnIdx
    | 0x16C => some ob.lrnData
    | 0x170 => some (wordOf ob.lrnAxis.start)
    | 0x174 => some (wordOf ob.lrnAxis.step)
    | _ => none

/-! ### LH, AFE, PST -/

/-- Registers of limp-home. -/
def PortalState.lhRead (P : PortalState) (ck : Nat) (p : PortalId) (o : Nat) : Option Word :=
  let prof := fun (isOpen : Bool) => show Nat from (P.leafProfile isOpen).getD 0
  match o with
  | 0x000 => some (bitIf 31 (P.limpEn p) ||| fmk 25 24 (bitsOf [P.limpExports 24, P.limpExports 25]) ||| fmk 23 16 P.failSafeMask |||
      fmk 15 0 (strcHoldWin P.strc p))
  | 0x004 => some (P.lhStat ck)
  | 0x008 => some P.link.lhEvt
  | 0x00C => some (fmk 29 24 (prof true) ||| fmk 21 16 (prof false))
  | 0x010 => some (wnat (50 * (P.axisCfg 0).scale / 65536))
  | 0x014 => some (fmk 31 16 P.link.losses ||| fmk 15 8 P.link.limps ||| fmk 7 0 P.link.keeperExps)
  | _ => none

/-- Registers of the front-end. -/
def PortalState.afeRead (P : PortalState) (o : Nat) : Option Word :=
  let f := P.afe
  if 0x10 ≤ o ∧ o < 0x30 then
    if o % 4 = 0 then
      let n := (o - 0x10) / 2
      some (halves (f.raw.toList.getD (n + 1) 0).toNat (f.raw.toList.getD n 0).toNat)
    else none
  else
    match o with
    | 0x000 => some f.stream
    | 0x004 => some (halves f.heldCnt f.ovrCnt)
    | 0x030 => some (f.dvec.setWidth 32)
    | 0x034 => some ((f.dvec >>> (32 : Nat)).setWidth 32)
    | _ => none

/-- Registers of the portal state. -/
def PortalState.pstRead (P : PortalState) (ck o : Nat) : Option Word :=
  match o with
  | 0x000 => some P.pstState
  | 0x004 => some P.pstProof
  | 0x008 => some (P.pstIso ck)
  | 0x00C => some P.pstSo
  | 0x010 => some P.pstRefuse
  | _ => none

/-- The CRC of the n-th unit held (GL_UCRC). -/
def PortalState.unitCrc (P : PortalState) (n : Nat) : Word :=
  match P.units[n]? with
  | some u => u.crc
  | none => 0

/-- A read of a portal-block word that the portal die serves; none where nothing decodes it (R7). -/
def PortalState.read (P : PortalState) (ck : Nat) (p : PortalId) (o : Nat) : Option Word :=
  if o < 0x400 then P.pstRead ck o
  else if o < 0x800 then P.axRead 0 (o - 0x400)
  else if o < 0xC00 then P.axRead 1 (o - 0x800)
  else if o < 0x1000 then P.axRead 2 (o - 0xC00)
  else if o < 0x1100 then P.fbRead 0 (o - 0x1000)
  else if o < 0x1200 then P.fbRead 1 (o - 0x1100)
  else if o < 0x1300 then P.fbRead 2 (o - 0x1200)
  else if 0x1400 ≤ o ∧ o < 0x1800 then P.swRead ck (o - 0x1400)
  else if 0x1800 ≤ o ∧ o < 0x1C00 then P.inRead (o - 0x1800)
  else if 0x1C00 ≤ o ∧ o < 0x2000 then P.soRead ck (o - 0x1C00)
  else if 0x2000 ≤ o ∧ o < 0x2400 then P.obRead ck (o - 0x2000)
  else if 0x2400 ≤ o ∧ o < 0x2800 then P.lhRead ck p (o - 0x2400)
  else if 0x2840 ≤ o ∧ o < 0x2880 then (if o % 4 = 0 then some (P.unitCrc ((o - 0x2840) / 4)) else none)
  else if 0x3000 ≤ o ∧ o < 0x4000 then P.afeRead (o - 0x3000)
  else none

/-! ### Writes -/

/-- What a write of a portal-block word comes to (STATUS of R308): 0 done or discarded, 1 undecoded, 2 refused. -/
structure PortalWrite where
  portal : PortalState
  status : Nat
  deriving DecidableEq, Repr

/-- A write of a feedback register. -/
def PortalState.fbWrite (P : PortalState) (ck : Nat) (a : AxisId) (o : Nat) (v rc : Word) : Option PortalWrite :=
  match o with
  | 0x054 => some ⟨P.modFb a fun f => { f with evt := w1c f.evt v rc 0x1FFFF }, 0⟩
  | 0x074 => some ⟨P.setPos a v, if (P.axes.get a).drive = .torqueOff then 0 else 2⟩
  | 0x078 => some ⟨P.fbClr a (wbit v 2) (wbit v 1) (wbit v 0), 0⟩
  | 0x080 => some ⟨P.cmpValWrite a v, 0⟩
  | 0x084 => some ⟨P.modFb a fun f => { f with cmpInc := v }, 0⟩
  | 0x088 => some ⟨P.cmpCtl ck a v, 0⟩
  | _ => none

/-- A write of an axis register. -/
def PortalState.axWrite (P : PortalState) (a : AxisId) (o : Nat) (v rc : Word) : Option PortalWrite :=
  match o with
  | 0x044 => some ⟨P.modAxis a fun x => { x with evt := w1c x.evt v rc 0xFFC0 }, 0⟩
  | 0x06C => some ⟨P.axMclr a (wbit v 1) (wbit v 0), 0⟩
  | _ => none

/-- A write of a switch or supply register. -/
def PortalState.swWrite (P : PortalState) (o : Nat) (v rc : Word) : Option PortalWrite :=
  let s := P.supply
  if 0x80 ≤ o ∧ o < 0xA0 ∧ o % 4 = 0 then
    let n : Nat := (o - 0x80) / 4
    let sw := P.switches.mapIdx fun i w => if i.val = n then ({ w with flags := w1c w.flags v rc 0xF0000 } : SwitchState) else w
    some ⟨{ P with switches := sw }, 0⟩
  else
    match o with
    | 0x104 => some ⟨{ P with supply := { s with ssEvt := (s.ssEvt &&& ~~~BitVec.ofNat 4 (fget v 11 8)) ||| BitVec.ofNat 4 (fget rc 11 8) } }, 0⟩
    | 0x140 => some ⟨{ P with supply := { s with psEvt := w1c s.psEvt v rc 0xF00000 } }, 0⟩
    | _ => none

/-- A write of an input or curtain register. -/
def PortalState.inWrite (P : PortalState) (o : Nat) (v rc : Word) : Option PortalWrite :=
  let cur := fun (k : Fin 2) =>
    let c := P.curtains.at2 k
    let c' : CurtainState := { c with evt := w1c c.evt v rc 0x3F }
    (⟨{ P with curtains := P.curtains.set2 k c' }, 0⟩ : PortalWrite)
  match o with
  | 0x048 => some ⟨{ P with inputs := { P.inputs with evt := w1c P.inputs.evt v rc 0xFFFFFFFF } }, 0⟩
  | 0x12C => some (cur 0)
  | 0x16C => some (cur 1)
  | _ => none

/-- A write of an obstacle register. -/
def PortalState.obWrite (P : PortalState) (o : Nat) (v rc : Word) : Option PortalWrite :=
  match o with
  | 0x104 => some ⟨P.modOb fun b => { b with evt := w1c b.evt v rc 0xFFC0 }, 0⟩
  | 0x160 =>
    let ok := !wbit v 31 || (P.dstate = 5 && P.released && P.learnable (fget v 29 24))
    some ⟨P.learnWrite v, if ok then 0 else 2⟩
  | 0x168 => some ⟨P.modOb fun b => { b with lrnIdx := v &&& 0x3FF }, 0⟩
  | _ => none

/-- The registers of a portal block that a write can change. -/
def PortalState.writeAt (P : PortalState) (ck o : Nat) (v rc : Word) : Option PortalWrite :=
  if o = 0x008 then some ⟨{ P with isoDisc := wbit (w1c (bitIf 31 P.isoDisc) v rc 0x80000000) 31 }, 0⟩
  else if o < 0x400 then none
  else if o < 0x800 then P.axWrite 0 (o - 0x400) v rc
  else if o < 0xC00 then P.axWrite 1 (o - 0x800) v rc
  else if o < 0x1000 then P.axWrite 2 (o - 0xC00) v rc
  else if o < 0x1100 then P.fbWrite ck 0 (o - 0x1000) v rc
  else if o < 0x1200 then P.fbWrite ck 1 (o - 0x1100) v rc
  else if o < 0x1300 then P.fbWrite ck 2 (o - 0x1200) v rc
  else if 0x1400 ≤ o ∧ o < 0x1800 then P.swWrite (o - 0x1400) v rc
  else if 0x1800 ≤ o ∧ o < 0x1C00 then P.inWrite (o - 0x1800) v rc
  else if o = 0x1C08 then some ⟨{ P with soEvt := w1c P.soEvt v rc 0x3FF }, 0⟩
  else if 0x2000 ≤ o ∧ o < 0x2400 then P.obWrite (o - 0x2000) v rc
  else if o = 0x2408 then some ⟨P.modLink fun l => { l with lhEvt := w1c l.lhEvt v rc 0xFF }, 0⟩
  else none

/-- A write of a portal-block word, `rc` being the flags that the hardware sets in the same cycle (R8): a word that only reads is left as it is (R6),
and one that nothing decodes is discarded (R7). -/
def PortalState.write (P : PortalState) (ck : Nat) (p : PortalId) (o : Nat) (v rc : Word) : PortalWrite :=
  match P.writeAt ck o v rc with
  | some w => w
  | none => ⟨P, if (P.read ck p o).isSome then 0 else 1⟩

end Sys2Proof.Machine
end

