-- ==== Sys2Proof/Machine/AcqCfg.lean ====
section
/-! DEFINITION. The configuration of a capture group (R248, R252, R261): the fields of its registers, and the check that setting EN
makes. The records of the RECD section hold the same words (R459). -/

namespace Sys2Proof.Machine

/-- EN. -/
def Group.en (g : Group) : Bool := wbit g.cfg 31

/-- PORTAL. -/
def Group.portal (g : Group) : Nat := fget g.cfg 27 26

/-- SRC: 0 analog, 1 derived, 2 digital. -/
def Group.src (g : Group) : Nat := fget g.cfg 25 24

/-- EARLY. -/
def Group.early (g : Group) : Bool := wbit g.cfg 21

/-- ARCH. -/
def Group.arch (g : Group) : Bool := wbit g.cfg 20

/-- RECD. -/
def Group.recd (g : Group) : Bool := wbit g.cfg 19

/-- CHMASK. -/
def Group.chmask (g : Group) : Nat := fget g.cfg 15 0

/-- The channels or axes of a frame, in ascending order. -/
def Group.lanes (g : Group) : List Nat := bitIdx (BitVec.ofNat 16 g.chmask) (if g.src = 0 then 16 else 3)

/-- Bytes of one sample. -/
def Group.frameSize (g : Group) : Nat :=
  if g.src = 0 then 2 * g.lanes.length else if g.src = 1 then 8 * g.lanes.length else 12

/-- LEN. -/
def Group.lenN (g : Group) : Nat := fget g.len 31 16 + 1

/-- PRE. -/
def Group.pre (g : Group) : Nat := fget g.len 15 0

/-- NSEG. -/
def Group.nseg (g : Group) : Nat := fget g.seg 11 0 + 1

/-- DSPAN, ms. -/
def Group.dspan (g : Group) : Nat := fget g.seg 31 16

/-- AUTO_US. -/
def Group.autoUs (g : Group) : Nat := fget g.auto 25 0

/-- A size rounded up to a multiple of `n`. -/
def roundUp (n k : Nat) : Nat := (k + n - 1) / n * n

/-- Size of a segment: 64 bytes of header plus LEN × frame size, rounded up to 16 (R248). -/
def Group.segSize (g : Group) : Nat := roundUp 16 (64 + g.lenN * g.frameSize)

/-- Start of the group's block, 4 KiB units. -/
def Group.base (g : Group) : Nat := fget g.mem 9 0

/-- Size of the group's block, 4 KiB units. -/
def Group.size (g : Group) : Nat := fget g.mem 26 16

/-- KIND of a condition. -/
def GroupCond.kind (c : GroupCond) : Nat := fget c.cfg 31 28

/-- POL of a condition. -/
def GroupCond.pol (c : GroupCond) : Bool := wbit c.cfg 27

/-- SRC of a condition. -/
def GroupCond.src (c : GroupCond) : Nat := fget c.cfg 15 8

/-- Whether a condition of KIND `k` suits the source (R252). -/
def condSuits (src k : Nat) : Bool :=
  match k with
  | 0 => true
  | 1 | 2 | 3 | 4 => src < 2
  | 5 => src == 2
  | 6 | 7 | 8 | 9 => true
  | _ => false

/-- Whether a measurement suits the source (R261). -/
def measSuits (src : Nat) (w : Word) : Bool :=
  let chan := fget w 7 0
  match fget w 31 28 with
  | 0 => true
  | 1 | 2 | 3 | 4 | 5 | 6 | 7 => if src = 0 then chan < 16 else src == 1 && decide (chan < 6)
  | 8 => src == 2 && decide (chan < 64) && decide (fget w 23 16 < 64)
  | _ => false

/-- What the check needs of STRC: portals in use, and axes that have a feedback kind, bit 3 p + a. -/
structure GroupEnv where
  use : BitVec 4
  fb : BitVec 12
  deriving DecidableEq, Repr

/-- Axis `a` of a portal has feedback. -/
def GroupEnv.hasFb (e : GroupEnv) (p a : Nat) : Bool := e.fb.getLsbD (3 * p + a)

/-- Whether the source provides what a condition names. -/
def Group.provides (g : Group) (e : GroupEnv) (c : GroupCond) : Bool :=
  match c.kind with
  | 1 | 2 | 3 | 4 => if g.src = 0 then c.src < 16 else decide (c.src < 6) && e.hasFb g.portal (c.src / 2)
  | 6 => c.src < 3
  | _ => true

/-- Whether the source provides the channel that a measurement names: a derived channel only of an axis that has feedback (R241). -/
def Group.measurable (g : Group) (e : GroupEnv) (w : Word) : Bool :=
  g.src != 1 || decide (fget w 31 28 = 0) || e.hasFb g.portal (fget w 7 0 / 2)

/-- The check of R248 for group `n` among the other groups that are enabled: 0, or the code of the first failure. -/
def Group.check (g : Group) (n : Nat) (others : List Group) (e : GroupEnv) : Nat :=
  let overlaps := others.any fun o => decide (g.base < o.base + o.size) && decide (o.base < g.base + g.size)
  if decide (g.size * 4096 < g.nseg * g.segSize) || overlaps || decide (1024 < g.base + g.size) then 1
  else if g.lenN < 64 || g.lenN - 1 < g.pre then 2
  else if g.conds.toList.any fun c => !condSuits g.src c.kind then 3
  else if g.conds.toList.any fun c => c.kind == 9 && decide (n ≤ c.src) then 4
  else if g.meas.toList.any fun w => !measSuits g.src w then 5
  else if !e.use.getLsbD g.portal || g.src == 3 || (g.src == 1 && g.lanes.any fun a => !e.hasFb g.portal a) ||
      g.conds.toList.any (fun c => !g.provides e c) || g.meas.toList.any (fun w => !g.measurable e w) then 6
  else 0

/-- The group that a record of the RECD section defines: its 26 words (R459). -/
def groupOfWords (w : Nat → Word) : Group :=
  let c := fun n => ({ cfg := w (6 + 3 * n) &&& 0xFC00FF00, a := w (7 + 3 * n), b := w (8 + 3 * n) } : GroupCond)
  { cfg := (w 0 &&& 0x8FF0FFFF) ||| bitIf 19 true, mem := w 1 &&& 0x07FF03FF, len := w 2, seg := w 3 &&& 0xFFFF0FFF,
    auto := w 4 &&& 0x03FFFFFF, mwin := w 5, conds := ⟨c 0, c 1, c 2, c 3⟩,
    meas := (Eight.all (0 : Word)).mapIdx fun i _ => w (18 + i.val) &&& 0xF0FF00FF }

end Sys2Proof.Machine
end

