-- ==== Sys2Proof/Machine/Crypto.lean ====
section
/-! DEFINITION. SHA-256, HMAC, PBKDF2 (R99), ECDSA P-256 (R84, R475) and AES-256 key wrap (R468): the standard algorithms the manual names. -/

namespace Sys2Proof.Machine

/-! ### SHA-256 (FIPS 180-4)

The manual names the algorithm alone. Its constants are formed here as the standard defines them, from the roots of the first primes; the eight working
variables are held as two histories of four words, since each round makes one new word of either and the others only move on. -/

/-- The largest `r` below 2^k, above `r0`, whose power `e` does not exceed `x`, bit by bit. -/
def rootGo (e x : Nat) : Nat → Nat → Nat
  | 0, r => r
  | k + 1, r => rootGo e x k (if (r + 2 ^ k) ^ e ≤ x then r + 2 ^ k else r)

/-- The first 32 bits of the fractional part of the `e`-th root of `p`. -/
def rootBits (e p : Nat) : Word := BitVec.ofNat 32 (rootGo e (p * 2 ^ (32 * e)) 36 0)

/-- The 64 primes up to 311. -/
def shaPrimes : List Nat :=
  (List.range 312).filter fun n => 2 ≤ n && [2, 3, 5, 7, 11, 13, 17].all fun d => n == d || n % d != 0

/-- XOR of a word turned right by three distances. -/
def turns (x : Word) (i j k : Nat) : Word := x.rotateRight i ^^^ x.rotateRight j ^^^ x.rotateRight k

/-- XOR of a word turned right by two distances and shifted right by a third. -/
def turnsShift (x : Word) (i j k : Nat) : Word := x.rotateRight i ^^^ x.rotateRight j ^^^ x >>> k

/-- The message schedule from its latest sixteen words, oldest first: `n` further words, and those that remain. -/
def shaSchedule : Nat → List Word → List Word
  | 0, l => l
  | n + 1, l =>
    let next := l.headD 0 + turnsShift (l.getD 1 0) 7 18 3 + l.getD 9 0 + turnsShift (l.getD 14 0) 17 19 10
    l.headD 0 :: shaSchedule n (l.drop 1 ++ [next])

/-- One round with the sum of its constant and its schedule word: `p` holds the latest four words of the first history, `q` those of the second. -/
def shaRound (s : List Word × List Word) (kw : Word) : List Word × List Word :=
  match s with
  | (p0 :: p1 :: p2 :: p3 :: _, q0 :: q1 :: q2 :: q3 :: _) =>
    let choice := q2 ^^^ (q0 &&& (q1 ^^^ q2))
    let majority := (p0 &&& p1) ||| (p2 &&& (p0 ||| p1))
    let t := q3 + choice + kw + turns q0 6 11 25
    ((t + majority + turns p0 2 13 22) :: [p0, p1, p2], (p3 + t) :: [q0, q1, q2])
  | s => s

/-- One block of 64 bytes into the hash value. -/
def shaBlock (h : List Word) (blk : List Byte) : List Word :=
  let msg := (List.range 16).map fun i => BitVec.ofNat 32 (beNat (slice blk (4 * i) 4))
  let kw := List.zipWith (fun x y => x + y) (shaPrimes.map (rootBits 3)) (shaSchedule 48 msg)
  let v := kw.foldl shaRound (h.take 4, h.drop 4)
  List.zipWith (fun x y => x + y) h (v.1 ++ v.2)

/-- The padded message: whole blocks, the length in bits at the end. -/
def shaPad (m : List Byte) : List Byte :=
  let gap := (m.length + 72) / 64 * 64 - (m.length + 9)
  m ++ (0x80 :: zeros gap) ++ beBytes 8 (8 * m.length)

/-- Blocks of a message, by fuel. -/
def shaBlocks : Nat → List Byte → List Word → List Word
  | 0, _, h => h
  | n + 1, m, h => shaBlocks n (m.drop 64) (shaBlock h (m.take 64))

/-- The 32-byte SHA-256 digest. -/
def sha256 (m : List Byte) : List Byte :=
  let p := shaPad m
  (shaBlocks (p.length / 64) p ((shaPrimes.take 8).map (rootBits 2))).flatMap fun w => beBytes 4 w.toNat

/-- HMAC-SHA256. -/
def hmac (key msg : List Byte) : List Byte :=
  let k0 := if key.length > 64 then sha256 key else key
  let k := k0 ++ zeros (64 - k0.length)
  sha256 (k.map (· ^^^ 0x5C) ++ sha256 (k.map (· ^^^ 0x36) ++ msg))

/-- One iteration of PBKDF2 on the pair of the latest block and the running XOR. -/
def pbkdf2Step (key : List Byte) (u : List Byte × List Byte) : List Byte × List Byte :=
  let n := hmac key u.1
  (n, (u.2.zip n).map fun x => x.1 ^^^ x.2)

/-- PBKDF2-HMAC-SHA256 with 4,096 iterations and 32 bytes of result (R82, R99). -/
def pbkdf2 (pw salt : List Byte) : List Byte :=
  let u1 := hmac pw (salt ++ [0, 0, 0, 1])
  (iter (pbkdf2Step pw) 4095 (u1, u1)).2

/-! ### ECDSA P-256 (FIPS 186-4) -/

/-- The field prime. -/
def p256 : Nat := 0xffffffff00000001000000000000000000000000ffffffffffffffffffffffff

/-- The group order. -/
def n256 : Nat := 0xffffffff00000000ffffffffffffffffbce6faada7179e84f3b9cac2fc632551

/-- The curve's b. -/
def b256 : Nat := 0x5ac635d8aa3a93e7b3ebbd55769886bc651d06b0cc53b0f63bce3c3e27d2604b

/-- A point: none is the point at infinity. -/
abbrev EcPoint := Option (Nat × Nat)

/-- The base point. -/
def g256 : EcPoint := some (0x6b17d1f2e12c4247f8bce6e563a440f277037d812deb33a0f4a13945d898c296,
  0x4fe342e2fe1a7f9b8ee7eb4a7c0f9e162bce33576b315ececbb6406837bf51f5)

/-- Modular power by square and multiply over the 256 bits of the exponent. -/
def powModGo (m : Nat) : Nat → Nat → Nat → Nat → Nat
  | 0, _, _, acc => acc
  | k + 1, b, e, acc => powModGo m k (b * b % m) (e / 2) (if e % 2 = 1 then acc * b % m else acc)

/-- The inverse modulo a prime. -/
def invMod (m a : Nat) : Nat := powModGo m 256 (a % m) (m - 2) 1

/-- Addition on the curve. -/
def ecAdd (x y : EcPoint) : EcPoint :=
  match x, y with
  | none, q => q
  | q, none => q
  | some (x1, y1), some (x2, y2) =>
    if x1 = x2 ∧ (y1 + y2) % p256 = 0 then none
    else
      let l := if x1 = x2 then (3 * x1 * x1 + (p256 - 3)) * invMod p256 (2 * y1) % p256
        else (y2 + (p256 - y1)) * invMod p256 (x2 + (p256 - x1)) % p256
      let x3 := (l * l + 2 * p256 - x1 - x2) % p256
      some (x3, (l * (x1 + (p256 - x3)) + (p256 - y1)) % p256)

/-- Multiplication of a point, by double and add over 256 bits. -/
def ecMulGo : Nat → Nat → EcPoint → EcPoint → EcPoint
  | 0, _, _, acc => acc
  | k + 1, e, q, acc => ecMulGo k (e / 2) (ecAdd q q) (if e % 2 = 1 then ecAdd acc q else acc)

/-- A multiple of a point. -/
def ecMul (e : Nat) (q : EcPoint) : EcPoint := ecMulGo 256 e q none

/-- Whether a public key names a point of the curve. -/
def ecOn (x y : Nat) : Bool :=
  x < p256 && y < p256 && y * y % p256 == (x * x * x + (p256 - 3) * x + b256) % p256

/-- Whether (r, s) signs the digest under the public key (x, y). -/
def ecdsaVerify (x y : Nat) (digest : Nat) (r sg : Nat) : Bool :=
  if ecOn x y && 0 < r && r < n256 && 0 < sg && sg < n256 then
    let w := invMod n256 sg
    match ecAdd (ecMul (digest * w % n256) g256) (ecMul (r * w % n256) (some (x, y))) with
    | none => false
    | some (x1, _) => x1 % n256 == r
  else false

/-- The signature of a digest under the private key d with the nonce k. -/
def ecdsaSign (d digest k : Nat) : Nat × Nat :=
  match ecMul k g256 with
  | none => (0, 0)
  | some (x1, _) =>
    let r := x1 % n256
    (r, invMod n256 k * (digest + r * d) % n256)

/-! ### AES-256 (FIPS 197) and its key wrap (RFC 3394)

A block is sixteen bytes, column by column. -/

/-- A byte times x modulo x^8 + x^4 + x^3 + x + 1. -/
def aesDbl (x : Byte) : Byte := if x.getLsbD 7 then (x <<< 1) ^^^ 0x1B else x <<< 1

/-- Product of two bytes, by the lowest bits of the second. -/
def aesMulGo : Nat → Byte → Byte → Byte
  | 0, _, _ => 0
  | n + 1, x, y => (if y.getLsbD 0 then x else 0) ^^^ aesMulGo n (aesDbl x) (y >>> 1)

/-- Product of two bytes. -/
def aesMul (x y : Byte) : Byte := aesMulGo 8 x y

/-- The powers of 3, which run through every byte but 0. -/
def aesPowers : List Byte := (List.range 255).map fun n => iter (fun x => x ^^^ aesDbl x) n (1 : Byte)

/-- The inverse of a byte: the power of 3 whose exponent makes 255 with its own; 0 for 0. -/
def aesInv (x : Byte) : Byte := if x = 0 then 0 else aesPowers.getD ((255 - aesPowers.idxOf x) % 255) 0

/-- The S-box of a byte: the affine transformation of its inverse. -/
def aesSub (x : Byte) : Byte :=
  let y := aesInv x
  y ^^^ y.rotateLeft 1 ^^^ y.rotateLeft 2 ^^^ y.rotateLeft 3 ^^^ y.rotateLeft 4 ^^^ 0x63

/-- The S-box. -/
def aesBox : List Byte := (List.range 256).map fun n => aesSub (BitVec.ofNat 8 n)

/-- A byte through the S-box. -/
def subByte (x : Byte) : Byte := aesBox.getD x.toNat 0

/-- A byte back through the S-box. -/
def unsubByte (x : Byte) : Byte := BitVec.ofNat 8 (aesBox.idxOf x)

/-- Byte-wise sum. -/
def xorBytes (a b : List Byte) : List Byte := List.zipWith (fun x y => x ^^^ y) a b

/-- The key schedule after its first `i` words: the words so far, newest first, and how many are still to come. -/
def aesExpandGo : Nat → Nat → List (List Byte) → List (List Byte)
  | 0, _, l => l
  | n + 1, i, l =>
    let last := l.headD []
    let t := if i % 8 = 0 then xorBytes ((last.drop 1 ++ last.take 1).map subByte) (iter aesDbl (i / 8 - 1) 1 :: zeros 3)
      else if i % 8 = 4 then last.map subByte else last
    aesExpandGo n (i + 1) (xorBytes (l.getD 7 []) t :: l)

/-- The fifteen round keys of a key of 32 bytes. -/
def aesKeys (key : List Byte) : List (List Byte) :=
  let w := (aesExpandGo 52 8 ((List.range 8).map fun i => slice key (28 - 4 * i) 4)).reverse
  (List.range 15).map fun r => ((w.drop (4 * r)).take 4).flatten

/-- Byte `r` of column `c` of a block taken from the column that row `r` has been turned to, by `k` columns for each row. -/
def aesTurn (k : Nat) (b : List Byte) : List Byte := (List.range 16).map fun i => b.getD ((i + 4 * k * (i % 4)) % 16) 0

/-- Each column times a circulant matrix with the given first row. -/
def aesMix (m : List Byte) (b : List Byte) : List Byte :=
  (List.range 16).map fun i =>
    (List.range 4).foldl (fun x j => x ^^^ aesMul (m.getD ((j + 4 - i % 4) % 4) 0) (b.getD (i / 4 * 4 + j) 0)) 0

/-- One block encrypted under round keys. -/
def aesEncrypt (keys : List (List Byte)) (b : List Byte) : List Byte :=
  let first := xorBytes b (keys.headD [])
  let x := ((keys.drop 1).take 13).foldl (fun x k => xorBytes (aesMix [2, 3, 1, 1] (aesTurn 1 (x.map subByte))) k) first
  xorBytes (aesTurn 1 (x.map subByte)) (keys.getD 14 [])

/-- One block decrypted under round keys. -/
def aesDecrypt (keys : List (List Byte)) (b : List Byte) : List Byte :=
  let first := (aesTurn 3 (xorBytes b (keys.getD 14 []))).map unsubByte
  let x := ((keys.drop 1).take 13).foldr (fun k x => (aesTurn 3 (aesMix [14, 11, 13, 9] (xorBytes x k))).map unsubByte) first
  xorBytes x (keys.headD [])

/-- The 64-bit words of a message. -/
def words64 (b : List Byte) : List (List Byte) := (List.range (b.length / 8)).map fun i => slice b (8 * i) 8

/-- Step `t` of the wrap: the register A and the 64-bit words in the order in which their turn comes. -/
def wrapStep (keys : List (List Byte)) (x : List Byte × List (List Byte)) (t : Nat) : List Byte × List (List Byte) :=
  let b := aesEncrypt keys (x.1 ++ x.2.headD [])
  (xorBytes (b.take 8) (beBytes 8 t), x.2.drop 1 ++ [b.drop 8])

/-- Step `t` of the wrap undone. -/
def unwrapStep (keys : List (List Byte)) (x : List Byte × List (List Byte)) (t : Nat) : List Byte × List (List Byte) :=
  let b := aesDecrypt keys (xorBytes x.1 (beBytes 8 t) ++ x.2.getLastD [])
  (b.take 8, b.drop 8 :: x.2.dropLast)

/-- Bytes wrapped under a key of 256 bits. -/
def aesWrap (key : BitVec 256) (b : List Byte) : List Byte :=
  let r := words64 b
  let x := ((List.range (6 * r.length)).map (· + 1)).foldl (wrapStep (aesKeys (beBytes 32 key.toNat))) (List.replicate 8 0xA6, r)
  x.1 ++ x.2.flatten

/-- Bytes unwrapped; none where the integrity check fails. -/
def aesUnwrap (key : BitVec 256) (b : List Byte) : Option (List Byte) :=
  let r := (words64 b).drop 1
  let x := ((List.range (6 * r.length)).map (· + 1)).reverse.foldl (unwrapStep (aesKeys (beBytes 32 key.toNat))) (b.take 8, r)
  if x.1 = List.replicate 8 0xA6 then some x.2.flatten else none

end Sys2Proof.Machine
end

