-- ==== Sys2Proof/Machine/Fuses.lean ====
section
/-! DEFINITION. The fuse array (R53, R97): records of voted bits with their own check words, fuse load, and the burning of key and
revocation records (R98). The manual fixes no place of a record within the 8,192 bits and no place of a field within the factory
record: both are the model's. -/

namespace Sys2Proof.Machine

/-- Data bits of a record: with their check words the nine records make up the 8,192 bits of the array, the factory record holding all that the
others leave. -/
def recSize : FuseRecId → Nat
  | .factory => 6876
  | .key _ => 256
  | .revoke _ => 1

/-- Address of a record's first logical bit. -/
def recBase : FuseRecId → Nat
  | .factory => 0
  | .key k => 6908 + 288 * k.val
  | .revoke k => 8060 + 33 * k.val

/-- The nine records in address order. -/
def fuseRecords : List FuseRecId :=
  [.factory, .key 0, .key 1, .key 2, .key 3, .revoke 0, .revoke 1, .revoke 2, .revoke 3]

/-- The cells of a record. -/
def FuseState.rcd (f : FuseState) : FuseRecId → FuseRecord
  | .factory => f.factory
  | .key k => f.keys.get k
  | .revoke k => f.revokes.get k

/-- Replace a record's cells. -/
def FuseState.setRcd (f : FuseState) (i : FuseRecId) (r : FuseRecord) : FuseState :=
  match i with
  | .factory => { f with factory := r }
  | .key k => { f with keys := f.keys.set k r }
  | .revoke k => { f with revokes := f.revokes.set k r }

/-- What one cell reads: none for a marginal cell. -/
def cellReads (r : FuseRecord) (reads : List CellRead) (i : FuseRecId) (bit : Nat) (c : Fin 3) : Option Bool :=
  match reads.find? fun x => x.rcd == i && x.bit == bit && x.cell == c with
  | some x => (match x.value with
      | .marginal => none
      | .reads v => some v)
  | none => some (r.cells.contains (bit, c))

/-- A logical bit: the value on which at least two known cells agree, and whether it was decided two to one or with a marginal cell. -/
def voteBit (a b c : Option Bool) : Option Bool × Bool :=
  let n := fun (v : Bool) => [a, b, c].countP fun x => x == some v
  if n true = 3 then (some true, false)
  else if n false = 3 then (some false, false)
  else if n true = 2 then (some true, true)
  else if n false = 2 then (some false, true)
  else (none, false)

/-- The logical bits of a record (data first, then the check word) of which some cell is programmed or reads otherwise than programmed, each once. The
others read 0 from all three cells. -/
def touchedBits (r : FuseRecord) (reads : List CellRead) (i : FuseRecId) : List Nat :=
  let l := r.cells.map (fun c => c.1) ++ (reads.filter fun x => x.rcd == i).map fun x => x.bit
  (l.filter fun b => decide (b < recSize i + 32)).foldl (fun l b => if l.contains b then l else l ++ [b]) []

/-- A record as fuse load reads it: its touched bits, each as voted. -/
def readRecord (r : FuseRecord) (reads : List CellRead) (i : FuseRecId) : List (Nat × Option Bool × Bool) :=
  (touchedBits r reads i).map fun b =>
    (b, voteBit (cellReads r reads i b 0) (cellReads r reads i b 1) (cellReads r reads i b 2))

/-- The number that voted bits spell, bit `base` lowest. -/
def bitsNat (base : Nat) (l : List (Nat × Option Bool × Bool)) : Nat :=
  l.foldl (fun n b => if b.2.1 == some true then n + 2 ^ (b.1 - base) else n) 0

/-- The lowest bit without two agreeing known cells. -/
def lowestUndecided (l : List (Nat × Option Bool × Bool)) : Option Nat :=
  l.foldl (fun m b => if b.2.1.isSome then m else some (match m with
    | some n => min n b.1
    | none => b.1)) none

/-- The check word of a record of `n` bits with value `v`: CRC-32C over its bits, packed into bytes lowest bit first. -/
def recordCrc (n v : Nat) : Word := crc32c (leBytes ((n + 7) / 8) v)

/-- What a record comes to. -/
structure RecordLoad where
  id : FuseRecId
  value : Nat
  /-- The check word is programmed. -/
  checked : Bool
  /-- Some data cell is programmed. -/
  burnt : Bool
  /-- First bit without two agreeing known cells, where that fails the load. -/
  undecided : Option Nat
  /-- The check word does not match. -/
  mismatch : Bool
  corr : Nat
  deriving DecidableEq, Repr

/-- Load one record (R53, R97). -/
def loadRecord (f : FuseState) (reads : List CellRead) (i : FuseRecId) : RecordLoad :=
  let l := readRecord (f.rcd i) reads i
  let d := l.filter fun b => decide (b.1 < recSize i)
  let c := l.filter fun b => decide (recSize i ≤ b.1)
  let v := bitsNat 0 d
  let checked := c.any fun b => b.2.1 != some false
  let burnt := d.any fun b => b.2.1 != some false
  let judged := checked || (i == .factory && burnt)
  { id := i, value := v, checked := checked, burnt := burnt,
    undecided := if judged then (lowestUndecided l).map fun n => recBase i + n else none,
    mismatch := judged && recordCrc (recSize i) v != BitVec.ofNat 32 (bitsNat (recSize i) c),
    corr := l.countP fun b => b.2.2 }

/-- A void record: cells programmed, check word not. -/
def RecordLoad.isVoid (r : RecordLoad) : Bool := r.burnt && !r.checked

/-- The records as loaded. -/
def FuseState.records (f : FuseState) (reads : List CellRead) : List RecordLoad := fuseRecords.map fun i => loadRecord f reads i

/-- The load of one record among all. -/
def recordAt (l : List RecordLoad) (i : FuseRecId) : RecordLoad :=
  match l.find? fun r => r.id == i with
  | some r => r
  | none => ⟨i, 0, false, false, none, false, 0⟩

/-- Slot bits of a condition. -/
def slotBits (f : Fin 4 → Bool) : Nat := bitsOf (([0, 1, 2, 3] : List (Fin 4)).map f)

/-- CORR: the bits decided two to one, or with a marginal cell, at a load. -/
def corrected (l : List RecordLoad) : Nat := min (l.foldl (fun n r => n + r.corr) 0) 0x1FFF

/-- The DEV registers from the records (R53, R97). -/
def FuseState.apply (f : FuseState) (l : List RecordLoad) : FuseState :=
  let fac := recordAt l .factory
  let key := fun k => recordAt l (.key k)
  let rev := fun k => recordAt l (.revoke k)
  let valid := slotBits fun k => (key k).checked
  let revoked := slotBits fun k => (rev k).isVoid || ((rev k).checked && (rev k).value == 1)
  { f with devFuse := bitIf 31 true ||| bitIf 16 (Nat.testBit fac.value 64) ||| fmk 15 12 revoked ||| fmk 11 8 valid,
           vote := fmk 12 0 (corrected l), uid := BitVec.ofNat 64 fac.value,
           hashes := ⟨BitVec.ofNat 256 (key 0).value, BitVec.ofNat 256 (key 1).value, BitVec.ofNat 256 (key 2).value,
             BitVec.ofNat 256 (key 3).value⟩,
           void := BitVec.ofNat 4 (slotBits fun k => (key k).isVoid) }

/-- Fuse load (R53): the registers, or none of the records on a failure, with DEV_FUSE_VOTE naming it; CORR counts in either case. -/
def FuseState.load (f : FuseState) (reads : List CellRead) : FuseState × Bool :=
  let l := f.records reads
  match l.findSome? fun r => r.undecided with
  | some a => ({ f with devFuse := bitIf 30 true, vote := fmk 28 16 a ||| fmk 12 0 (corrected l) }, false)
  | none =>
    match l.find? fun r => r.mismatch with
    | some r => ({ f with devFuse := bitIf 30 true, vote := bitIf 31 true ||| fmk 28 16 (recBase r.id) ||| fmk 12 0 (corrected l) }, false)
    | none => (f.apply l, true)

/-- COMPAT. -/
def FuseState.compat (f : FuseState) : Bool := wbit f.devFuse 16

/-- The slot holds a hash (KEY_VALID). -/
def FuseState.valid (f : FuseState) (k : Fin 4) : Bool := wbit f.devFuse (8 + k.val)

/-- The slot is revoked (KEY_REVOKED). -/
def FuseState.revoked (f : FuseState) (k : Fin 4) : Bool := wbit f.devFuse (12 + k.val)

/-- The cells of the set bits of a number, three for each, from a bit on. -/
def cellsFor (v n at_ : Nat) : List (Nat × Fin 3) :=
  (List.range n).flatMap fun b => if Nat.testBit v b then [(at_ + b, 0), (at_ + b, 1), (at_ + b, 2)] else []

/-- Cells burnt besides those that are already; no cell is burnt twice. -/
def addCells (l new : List (Nat × Fin 3)) : List (Nat × Fin 3) := l ++ new.filter fun c => !l.contains c

/-- Burn data cells of a record; its check word is written last (R97). -/
def FuseState.burnData (f : FuseState) (i : FuseRecId) (v : Nat) : FuseState :=
  f.setRcd i { cells := addCells (f.rcd i).cells (cellsFor v (recSize i) 0) }

/-- Burn the check word of a record. -/
def FuseState.burnCheck (f : FuseState) (i : FuseRecId) (v : Nat) : FuseState :=
  f.setRcd i { cells := addCells (f.rcd i).cells (cellsFor (recordCrc (recSize i) v).toNat 32 (recSize i)) }

/-- The registers after a key operation. The UID, the options and the count of corrections stay as fuse load left them. -/
def FuseState.reread (f : FuseState) : FuseState :=
  let g := f.apply (f.records [])
  { g with vote := f.vote, uid := f.uid, devFuse := fput (fput f.devFuse 15 12 (fget g.devFuse 15 12)) 11 8 (fget g.devFuse 11 8) }

end Sys2Proof.Machine
end

