-- ==== Sys2Proof/Machine/Mem.lean ====
section
/-! DEFINITION. Sparse memories as lists of (address, byte): addresses strictly rising, no entry equal to the byte `d` that an unlisted
address reads as. The configuration flash has `d` = 0xFF, its erased value; the eMMC medium has `d` = 0. -/

namespace Sys2Proof.Machine

/-- The canonical form: addresses rise strictly and no entry holds the default. -/
def cellsWf (d : Byte) : List Host.Cell → Bool
  | [] => true
  | [c] => c.2 != d
  | c :: e :: r => c.2 != d && decide (c.1 < e.1) && cellsWf d (e :: r)

/-- The byte at an address. -/
def memGet (d : Byte) : List Host.Cell → Nat → Byte
  | [], _ => d
  | c :: r, a => if c.1 = a then c.2 else if a < c.1 then d else memGet d r a

/-- Write one byte. -/
def memSet (d : Byte) : List Host.Cell → Nat → Byte → List Host.Cell
  | [], a, v => if v = d then [] else [(a, v)]
  | c :: r, a, v =>
    if a < c.1 then (if v = d then c :: r else (a, v) :: c :: r)
    else if a = c.1 then (if v = d then r else (a, v) :: r)
    else c :: memSet d r a v

/-- Write bytes from an address on. -/
def memPut (d : Byte) (m : List Host.Cell) (a : Nat) : List Byte → List Host.Cell
  | [] => m
  | v :: r => memPut d (memSet d m a v) (a + 1) r

/-- Bring `n` bytes from an address on back to the default. -/
def memErase (m : List Host.Cell) (a n : Nat) : List Host.Cell := m.filter fun c => decide (c.1 < a) || decide (a + n ≤ c.1)

/-- Read `n` bytes from an address on, in one walk over the list. -/
def memRead (d : Byte) : Nat → Nat → List Host.Cell → List Byte
  | 0, _, _ => []
  | n + 1, a, m =>
    let t := m.dropWhile fun c => decide (c.1 < a)
    match t with
    | [] => d :: memRead d n (a + 1) []
    | c :: r => if c.1 = a then c.2 :: memRead d n (a + 1) r else d :: memRead d n (a + 1) t

end Sys2Proof.Machine
end

