-- ==== Sys2Proof/Machine/Image.lean ====
section
/-! DEFINITION. The harness image: reading it from the flash, its framing (R74 to R85), and every check of R57 in its order, with the
ranges of R517 section by section. -/

namespace Sys2Proof.Machine

/-! ### Framing (R74 to R84) -/

/-- Where a region starts in the flash (R56). -/
def regionBase : Region → Nat
  | .a => 0
  | .b => 0x400000

/-- Size of a region. -/
def regionSize : Nat := 0x400000

/-- Known tags with the lowest format major that requires them and the accepted section versions (R80). -/
structure KnownTag where
  tag : Word
  major : Nat
  top : Nat
  deriving DecidableEq, Repr

/-- The table of R80; every section's versions start at 1. -/
def knownTags : List KnownTag :=
  [⟨tagIDNT, 1, 2⟩, ⟨tagSTRC, 1, 3⟩, ⟨tagHARN, 1, 2⟩, ⟨tagSEQT, 1, 3⟩, ⟨tagPROF, 1, 2⟩, ⟨tagENVL, 2, 2⟩, ⟨tagIOMP, 1, 3⟩,
   ⟨tagCANO, 2, 2⟩, ⟨tagNELZ, 2, 3⟩, ⟨tagRECD, 3, 2⟩, ⟨tagSIGN, 1, 1⟩]

/-- The row of a tag. -/
def knownTag (t : Word) : Option KnownTag := knownTags.find? fun k => k.tag == t

/-- The sections of a chain (R77); none where the chain is broken. -/
def chainGo : Nat → List Byte → Option (List Section)
  | 0, _ => none
  | n + 1, b =>
    if b.isEmpty then some []
    else if b.length < 16 then none
    else
      let len := rd32 b 8
      let pad := roundUp 16 len
      if b.length < 16 + pad then none
      else if ((b.drop (16 + len)).take (pad - len)).any fun x => x != 0 then none
      else
        let s : Section := { tag := rdw b 0, version := BitVec.ofNat 16 (rd16 b 4), flags := BitVec.ofNat 16 (rd16 b 6),
                             payload := (b.drop 16).take len, crc := rdw b 12 }
        (chainGo n (b.drop (16 + pad))).map fun r => s :: r

/-- The bytes of the image in a region, as far as its LENGTH goes. -/
def imageBytes (flash : List Host.Cell) (r : Region) : List Byte :=
  let h := memRead 0xFF 64 (regionBase r) flash
  memRead 0xFF (min (rd32 h 8) regionSize) (regionBase r) flash

/-- A unit of a section's directory (R81). -/
structure ImgUnit where
  unit : Nat
  kind : Nat
  bytes : List Byte
  deriving DecidableEq, Repr

/-- The units of a payload; none where the directory or a unit runs past the payload. -/
def unitsOf (b : List Byte) : Option (List ImgUnit) :=
  let n := rd16 b 0
  if b.length < 4 + 12 * n then none
  else
    let es := (List.range n).map fun i => (rd8 b (4 + 12 * i), rd8 b (5 + 12 * i), rd32 b (8 + 12 * i), rd32 b (12 + 12 * i))
    if es.any fun e => decide (b.length < e.2.2.1 + e.2.2.2) then none
    else some (es.map fun e => ⟨e.1, e.2.1, (b.drop e.2.2.1).take e.2.2.2⟩)

/-- The section of a tag. -/
def Image.sec (g : Image) (t : Word) : Option Section := g.sections.find? fun s => s.tag == t

/-- The payload of a section; empty where it is absent. -/
def Image.payload (g : Image) (t : Word) : List Byte :=
  match g.sec t with
  | some s => s.payload
  | none => []

/-- The version of a section; 0 where it is absent. -/
def Image.ver (g : Image) (t : Word) : Nat :=
  match g.sec t with
  | some s => s.version.toNat
  | none => 0

/-- The image carries the section. -/
def Image.has (g : Image) (t : Word) : Bool := (g.sec t).isSome

/-- The units of a section, in directory order. -/
def Image.units (g : Image) (t : Word) : List ImgUnit :=
  match unitsOf (g.payload t) with
  | some l => l
  | none => []

/-- One unit of a section. Of two directory entries with the same UNIT and KIND, which the manual neither forbids nor orders, the first counts (DESIGN
CHOICE; log entry 205). -/
def Image.unit (g : Image) (t : Word) (unit kind : Nat) : Option (List Byte) :=
  ((g.units t).find? fun u => u.unit == unit && u.kind == kind).map ImgUnit.bytes

/-- The bytes of a unit; empty where absent. -/
def Image.unitBytes (g : Image) (t : Word) (unit kind : Nat) : List Byte :=
  match g.unit t unit kind with
  | some b => b
  | none => []

/-- STRC as it is read: in version 1 the field at offset 2 is ignored, and limp-home is disabled for every portal (R83). -/
def Image.strc (g : Image) : List Byte := if g.ver tagSTRC = 1 then (g.payload tagSTRC).set 2 0 else g.payload tagSTRC

/-- Portals in use. -/
def Image.inUse (g : Image) (p : Nat) : Bool := (strcInUse g.strc).getLsbD p

/-- Format major and minor, SERIAL. -/
def Image.major (g : Image) : Nat := rd8 g.header 4

/-- Format minor. -/
def Image.minor (g : Image) : Nat := rd8 g.header 5

/-! ### Step 4: structure, before any CRC -/

/-- Whether bytes are a whole number of padded envelope records (R235), with the records' lengths. -/
def envWalk : Nat → List Byte → Option (List (List Byte))
  | 0, _ => none
  | n + 1, b =>
    if b.isEmpty then some []
    else if b.length < 16 then none
    else
      let size := roundUp 4 (16 + 2 * rd16 b 2)
      if b.length < size then none else (envWalk n (b.drop size)).map fun r => b.take size :: r

/-- Sections whose host units of KIND 0x10 + p belong to portal p. -/
def perPortal (t : Word) : Bool := t == tagSEQT || t == tagPROF || t == tagIOMP

/-- The portal a unit is for: none for a unit of the host alone. -/
def ImgUnit.portal (u : ImgUnit) (t : Word) : Option Nat :=
  if 16 ≤ u.unit then some (u.unit - 16)
  else if u.unit = 0 ∧ perPortal t ∧ 16 ≤ u.kind then some (u.kind - 16)
  else none

/-- Record size and record count (0: any number) of the kinds of R81. A kind that its section does not define has no size, so any size is accepted (log
entry 247). -/
def kindSize (t : Word) (kind : Nat) : Nat × Nat :=
  if t = tagHARN then (match kind with
    | 1 => (16, 0)
    | 2 => (8, 0)
    | _ => (1, 0))
  else if t = tagPROF then (match kind with
    | 1 => (64, 3)
    | 2 => (32, 0)
    | _ => (1, 0))
  else if t = tagENVL then (if kind = 1 then (128, 1) else (1, 0))
  else if t = tagIOMP then (match kind with
    | 1 => (4, 16)
    | 2 => (16, 8)
    | 3 => (32, 1)
    | 4 => (16, 2)
    | 8 => (64, 3)
    | _ => (1, 0))
  else if t = tagCANO then (match kind with
    | 1 => (32, 2)
    | 2 => (16, 128)
    | 3 => (16, 128)
    | _ => (1, 0))
  else if t = tagNELZ then (match kind with
    | 1 => (32, 1)
    | 2 => (8, 0)
    | _ => (1, 0))
  else if t = tagRECD then (if kind = 1 then (32, 1) else (1, 0))
  else (1, 0)

/-- The size rule of one unit (R81, R123, R127, R235, R459). -/
def Image.sizeOk (g : Image) (t : Word) (u : ImgUnit) : Bool :=
  let n := u.bytes.length
  let skip := match u.portal t with
    | some p => !(decide (p < 4) && g.inUse p)
    | none => false
  if skip then true
  else if u.unit = 0 && perPortal t && decide (16 ≤ u.kind) then
    if t = tagSEQT then decide (16 ≤ n) && n == 16 + 16 * rd8 u.bytes 0 + 8 * rd16 u.bytes 2
    else if t = tagIOMP then n == 16
    else
      match g.unit tagPROF u.kind 2 with
      | some b => n == b.length / 32
      | none => true
  else if t = tagSEQT && u.kind == 1 then
    (match g.unit tagSEQT 0 u.unit with
      | some b => n == 4 * rd8 b 0
      | none => true)
  else if t = tagENVL && u.kind == 2 then (envWalk (n + 1) u.bytes).isSome
  else if t = tagRECD && u.kind == 2 then g.ver tagRECD == 1 || (n % 112 == 0 && decide (n ≤ 1792))
  else if t = tagIOMP && u.kind == 4 && g.ver tagIOMP == 1 then true
  else
    let k := kindSize t u.kind
    if k.2 = 0 then n % k.1 == 0 else n == k.1 * k.2

/-- Payload sizes of IDNT, STRC and SIGN (R82). -/
def payloadOk (s : Section) : Bool :=
  if s.tag = tagIDNT then
    (match s.version.toNat with
      | 1 => s.payload.length == 128
      | 2 => s.payload.length == 160
      | _ => true)
  else if s.tag = tagSTRC then s.payload.length == 64
  else if s.tag = tagSIGN then s.payload.length == 132
  else true

/-- Tags whose payload opens with no unit directory. -/
def noDir (t : Word) : Bool := t == tagIDNT || t == tagSTRC || t == tagSIGN

/-- The image of a byte string; none where step 4 rejects it. -/
def parseImage (r : Region) (b : List Byte) : Option Image :=
  if b.length < 64 then none
  else
    match chainGo (b.length / 16 + 1) (b.drop 64) with
    | none => none
    | some secs =>
      let g : Image := { region := r, header := b.take 64, sections := secs }
      let tags := (secs.map Section.tag).filter fun t => (knownTag t).isSome
      let ends := (match secs.head? with
          | some s => s.tag == tagIDNT
          | none => false) && (match secs.getLast? with
          | some s => s.tag == tagSIGN
          | none => false)
      let dirs := secs.all fun s => (knownTag s.tag).isNone || noDir s.tag || (unitsOf s.payload).isSome
      let sizes := secs.all fun s => (knownTag s.tag).isNone || noDir s.tag || (g.units s.tag).all (g.sizeOk s.tag)
      if secs.length == rd16 b 12 && ends && decide tags.Nodup && secs.all payloadOk && dirs && sizes then some g else none

/-! ### Step 6: content -/

/-- A number lies in a range. -/
def inR (n lo hi : Nat) : Bool := decide (lo ≤ n) && decide (n ≤ hi)

/-- Bits of a number that must be 0. -/
def zeroBits (n mask : Nat) : Bool := n &&& mask == 0

/-- STRC (R83, R180). -/
def strcOk (v : Nat) (b : List Byte) : Bool :=
  zeroBits (rd8 b 0) 0xF0 && zeroBits (rd8 b 1) 0xFE && (v == 1 || zeroBits (rd8 b 2) 0xF0) && inR (rd8 b 3) 1 63 &&
    ((List.range 12).all fun i =>
      let k := rd8 b (4 + i)
      let f := rd8 b (16 + i)
      let n := f % 128
      decide (k ≤ 3) && decide (n ≤ 4) && (decide (f < 128) || inR n 1 3) && !(k == 3 && f == 0) && !(n == 4 && (k == 1 || k == 3))) &&
    ((List.range 4).all fun p => decide (rd16 b (32 + 2 * p) ≤ 1000))

/-- A cell record (R86). -/
def cellOk (r : List Byte) : Bool :=
  ([2, 4, 6, 8, 14] : List Nat).all (fun o => zeroBits (rd16 r o) 0x6000) && zeroBits (rd8 r 10) 0xE0 && zeroBits (rd8 r 11) 7 &&
    rd8 r 11 / 16 % 4 != 3

/-- A timer record (R90). -/
def timerOk (r : List Byte) : Bool := decide (rd8 r 0 ≤ 3) && decide (rd8 r 1 ≤ 1)

/-- The fabric units of the host or of a portal. -/
def Image.harnOk (g : Image) (unit cells timers : Nat) : Bool :=
  let c := recordsGo 16 65536 (g.unitBytes tagHARN unit 1)
  let t := recordsGo 8 65536 (g.unitBytes tagHARN unit 2)
  decide (c.length ≤ cells) && decide (t.length ≤ timers) && c.all cellOk && t.all timerOk

/-- The profile directory of a portal. -/
def Image.profDir (g : Image) (p : Nat) : List Byte := g.unitBytes tagPROF 0 (16 + p)

/-- The state table and reversal orders of a portal (R122 to R127). -/
def Image.seqtOk (g : Image) (p : Nat) : Bool :=
  let v := g.ver tagSEQT
  match g.unit tagSEQT 0 (16 + p), g.unit tagSEQT (16 + p) 1 with
  | some b, some r =>
    let ns := rd8 b 0
    let nt := rd16 b 2
    let st := fun n => slice b (16 + 16 * n) 16
    let tr := fun n => slice b (16 + 16 * ns + 8 * n) 8
    let dir := g.profDir p
    inR ns 1 64 && decide (nt ≤ 256) &&
      ((List.range ns).all fun n => decide (rd8 (st n) 0 ≤ 7) && zeroBits (rd8 (st n) 1) 0xC0) &&
      ((List.range 8).all fun k => decide (rd8 b (4 + k) < ns) && rd8 (st (rd8 b (4 + k))) 0 == k) &&
      ((List.range nt).all fun n => decide (rd8 (tr n) 0 < ns) && decide (rd8 (tr n) 1 < ns) && zeroBits (rd16 (tr n) 2) 0x3C00 &&
        (decide (v < 3) || zeroBits (rd16 (tr n) 4) 0x3C00)) &&
      ((List.range ns).all fun n =>
        let k := rd8 r (4 * n)
        decide (k ≤ 2) && (k == 0 || decide (128 ≤ rd8 dir (rd8 r (4 * n + 1)))))
  | _, _ => false

/-- The axis and profile records of a portal (R152 to R155, R180). -/
def Image.profOk (g : Image) (p : Nat) : Bool :=
  let v := g.ver tagPROF
  match g.unit tagPROF (16 + p) 1, g.unit tagPROF (16 + p) 2 with
  | some ax, some pr =>
    let kind := fun (a : Nat) => rd8 g.strc (4 + 3 * p + a)
    let fb := fun (a : Nat) => rd8 g.strc (16 + 3 * p + a)
    let n := pr.length / 32
    let dir := g.profDir p
    let axis := fun (a : Nat) =>
      let r := slice ax (64 * a) 64
      let k := rd8 r 0
      k == kind a && (k == 0 ||
        ((match k with
            | 2 => inR (rd8 r 1) 1 32
            | 3 => rd8 r 1 == 0 && v != 1
            | _ => true) &&
          decide (rd8 r 2 ≤ 8) && zeroBits (rd8 r 3) 0xFC && inR (rd8 r 4) 16 64 && inR (rd8 r 5) 5 80 && inR (rd16 r 6) 4 400 &&
          decide (rd16 r 20 ≤ 10000) && decide (1 ≤ rd32 r 36) &&
          !(k == 2 && rd8 r 3 / 2 % 2 == 1 && decide (fb a < 128) && fb a != 4) &&
          (a != 0 || v == 1 || (inR (rd16 r 52) 20 200 && decide (rd16 r 56 ≤ 1800)))))
    let profile := fun (i : Nat) =>
      let r := slice pr (32 * i) 32
      let ax := rd8 r 0
      let stepper := ([0, 1, 2] : List Nat).any fun a => Nat.testBit ax a && (kind a == 1 || kind a == 2)
      decide (ax ≤ 7) && zeroBits (rd8 r 1) 0xFC && decide (1 ≤ rd32 r 8) && (!stepper || decide (rd32 r 8 ≤ 2000000)) &&
        decide (1 ≤ rd32 r 12) && decide (1 ≤ rd32 r 16) && decide (1 ≤ rd32 r 24)
    ([0, 1, 2] : List Nat).all axis && inR n 1 64 && (List.range n).all profile && (dir.isEmpty || dir.length == n) &&
      dir.all fun d => zeroBits d.toNat 0x38
  | _, _ => false

/-- A leaf profile of a direction is in the directory (R330). -/
def Image.hasLeaf (g : Image) (p : Nat) (close : Bool) : Bool :=
  let pr := g.unitBytes tagPROF (16 + p) 2
  ((g.profDir p).zipIdx).any fun d =>
    decide (128 ≤ d.1.toNat) && d.1.toNat % 8 == 3 && (d.1.toNat / 64 % 2 == 1) == close && rd8 pr (32 * d.2 + 1) / 2 % 2 == 0

/-- A portal harness exports a destination. -/
def Image.exportsTo (g : Image) (p dest : Nat) : Bool :=
  (cellsOf (g.unitBytes tagHARN (16 + p) 1)).any fun c => c.exports && c.dest == dest

/-- An exported jog request needs its leaf profile (R330). -/
def Image.jogOk (g : Image) (p : Nat) : Bool :=
  (!g.exportsTo p 0x18 || g.hasLeaf p false) && (!g.exportsTo p 0x19 || g.hasLeaf p true)

/-- The detector record and envelopes of a portal (R216, R233 to R236). -/
def Image.envlOk (g : Image) (p : Nat) : Bool :=
  if !g.has tagENVL then true
  else
    match g.unit tagENVL (16 + p) 1 with
    | none => false
    | some b =>
      let m := rd8 b 0
      let edges := m == 0 || (inR (rd8 b 2) 1 8 && inR (rd16 b 14) 1 600 && (m % 4 == 0 || decide (rd16 b 8 < rd16 b 4)) &&
        (m / 4 % 4 == 0 || decide (rd16 b 8 < rd16 b 6)))
      let axis := fun (a : Nat) =>
        let o := 32 + 32 * a
        let fl := rd8 b (o + 30)
        rd8 g.strc (4 + 3 * p + a) == 0 ||
          (decide (1 ≤ rd32 b (o + 12)) && inR (rd8 b (o + 28)) 1 8 && decide (1 ≤ rd8 b (o + 29)) && zeroBits fl 0xF0 &&
            (rd8 g.strc (16 + 3 * p + a) != 0 || zeroBits fl 3))
      let e := g.unitBytes tagENVL (16 + p) 2
      let recs := match envWalk (e.length + 1) e with
        | some l => l
        | none => []
      zeroBits m 0xFA && zeroBits (rd8 b 1) 0xFC && zeroBits (rd8 b 3) 0xF8 && edges && decide (rd16 b 16 ≤ 1000) &&
        inR (rd16 b 18) 1 1000 && decide (rd16 b 20 ≤ 10000) && ([0, 1, 2] : List Nat).all axis &&
        (recs.all fun r => decide (rd8 r 0 ≤ 63) && decide (rd8 r 1 ≤ 2) && inR (rd16 r 2) 2 256 && decide (1 ≤ rd32 r 8)) &&
        decide ((recs.map fun r => (rd8 r 0, rd8 r 1)).Nodup) && decide (recs.length ≤ 48) &&
        decide (recs.foldl (fun s r => s + rd16 r 2) 0 ≤ 8192)

/-- Both or neither channel of a role; both where `need` (R338). -/
def rolePair (roles : List Nat) (role : Nat) (need : Bool) : Bool :=
  let a := roles.any fun r => r % 16 == role && r / 16 % 2 == 0
  let b := roles.any fun r => r % 16 == role && r / 16 % 2 == 1
  (a && b) || (!need && !a && !b)

/-- A feedback record (R180, R183, R189, R190). -/
def fbRecordOk (r : List Byte) (fb poles : Nat) : Bool :=
  let lo := rds32 r 20
  let hi := rds32 r 24
  let n := rd8 r 30 + rd8 r 31
  let edges := if rd8 r 1 / 32 % 2 = 1 then 2 * n + 3 else n + 2
  let khz := rd16 r 28
  rd8 r 0 == fb && (fb == 0 ||
    (zeroBits (rd8 r 1) 0x80 && decide (1 ≤ rd8 r 2) && decide (1 ≤ rd8 r 3) && inR (rd16 r 4) 20 2000 && inR (rd8 r 6) 1 100 &&
      decide (1 ≤ rd8 r 7) && inR (rd32 r 8) 1 2147483647 && (decide (lo < hi) || (lo == 0 && hi == 0)) && inR khz 100 4000 &&
      inR (rd8 r 30) 8 32 && decide (rd8 r 31 ≤ 8) && decide (20 ≤ rd16 r 32) && inR (rd8 r 34) 1 64 &&
      decide (rd8 r 40 < rd8 r 41) && zeroBits (rd8 r 48) 0xF0 && decide (rd8 r 48 / 2 % 8 ≤ 5) &&
      (fb != 4 || rd32 r 8 == 6 * poles) &&
      (fb % 128 != 2 || decide (edges * 1000 + rd8 r 34 * khz ≤ rd16 r 32 * khz))))

/-- The I/O units of a portal (R333 to R363, R183). -/
def Image.iompOk (g : Image) (p : Nat) : Bool :=
  let v := g.ver tagIOMP
  match g.unit tagIOMP (16 + p) 1, g.unit tagIOMP (16 + p) 2, g.unit tagIOMP (16 + p) 3, g.unit tagIOMP 0 (16 + p) with
  | some ib, some sb, some io, some table =>
    let roles := (List.range 16).map fun n => rd8 ib (4 * n)
    let input := fun (n : Nat) => zeroBits (rd8 ib (4 * n)) 0xC0 && decide (rd8 ib (4 * n) % 16 ≤ 5) && zeroBits (rd8 ib (4 * n + 1)) 0xF8 &&
      decide (1 ≤ rd16 ib (4 * n + 2))
    let switch := fun (n : Nat) =>
      let r := slice sb (16 * n) 16
      rd8 r 7 / 4 % 2 == 0 || (inR (rd16 r 0) 500 6000 && decide (rd16 r 2 ≤ 1000) && decide (1 ≤ rd8 r 4) && decide (rd8 r 5 ≤ 15) &&
        inR (rd8 r 6) 1 16 && zeroBits (rd8 r 7) 0xF8 && (decide (v < 3) || decide (rd8 r 8 ≤ 7)))
    let ioOk := zeroBits (rd8 io 0) 0xF0 && zeroBits (rd8 io 1) 0xFC &&
      (decide (v < 3) || (inR (rd16 io 2) 100 500 && inR (rd16 io 4) 50 1000 && inR (rd16 io 6) 100 1200))
    let cb := g.unitBytes tagIOMP (16 + p) 4
    let curtain := fun (k : Nat) =>
      let r := slice cb (16 * k) 16
      rd8 r 0 % 2 == 0 || (zeroBits (rd8 r 0) 0xFC && (if v = 2 then decide (1 ≤ rd8 r 1) else inR (rd8 r 1) 1 2) && decide (rd8 r 2 ≤ 64))
    let fbk := fun (a : Nat) => rd8 g.strc (16 + 3 * p + a)
    let fbOk := match g.unit tagIOMP (16 + p) 8 with
      | none => ([0, 1, 2] : List Nat).all fun a => fbk a == 0
      | some fb => ([0, 1, 2] : List Nat).all fun a =>
          fbRecordOk (slice fb (64 * a) 64) (fbk a) (rd8 (g.unitBytes tagPROF (16 + p) 1) (64 * a + 1))
    table.map BitVec.toNat == roles && (List.range 16).all input && rolePair roles 1 true && rolePair roles 2 true &&
      rolePair roles 3 true && rolePair roles 4 false && (List.range 8).all switch && ioOk &&
      (v == 1 || cb.isEmpty || (curtain 0 && curtain 1)) && fbOk
  | _, _, _, _ => false

/-- A controller record (R373); version 1 reads bytes 5 to 9 as 0 and ignores FD_EN and TDC_EN. -/
def canRecordOk (v : Nat) (b : List Byte) : Bool :=
  let fl := rd8 b 0
  let r := fun o => if v = 1 ∧ 5 ≤ o ∧ o ≤ 9 then 0 else rd8 b o
  let fd := fl / 2 % 2 == 1 && v != 1
  let nbit := (r 1 + 1) * (r 2 + r 3 + 3)
  let dbit := (r 5 + 1) * (r 6 + r 7 + 3)
  zeroBits fl 0xC0 && (fl % 2 == 0 ||
    (decide (1 ≤ r 2) && decide (r 3 ≤ 127) && decide (r 4 ≤ r 3) && decide (r 5 ≤ 31) && decide (r 6 ≤ 31) && decide (r 7 ≤ 15) &&
      decide (r 8 ≤ r 7) && decide (r 9 ≤ 127) && decide (rd16 b 10 ≤ 10000) && decide (80 ≤ nbit) &&
      (!fd || (decide (10 ≤ dbit) && decide (dbit ≤ nbit)))))

/-- ID, MASK and CFG of object record `n`. -/
def objWords (b : List Byte) (n : Nat) : Word × Word × Word := (rdw b (16 * n), rdw b (16 * n + 4), rdw b (16 * n + 8))

/-- FIFO_LEN of a CFG word. -/
def cfgFifo (c : Word) : Nat := fget c 15 8

/-- The word is that of the head of a FIFO range: a receive object with FIFO_LEN from 2 on (R385). -/
def headShape (c : Word) : Bool := !wbit c 30 && decide (2 ≤ cfgFifo c)

/-- The word heads a FIFO that takes part in acceptance: with EN (R383, R385). -/
def isHead (c : Word) : Bool := wbit c 31 && headShape c

/-- The object records of a controller (R380, R385). -/
def objectsOk (b : List Byte) : Bool :=
  let cfg := fun n => (objWords b n).2.2
  let heads := (List.range 128).filter fun n => headShape (cfg n)
  let one := fun (n : Nat) =>
    let w := objWords b n
    let c := w.2.2
    !wbit w.1 29 && (wbit w.1 31 || fget w.1 17 0 == 0) && fget w.2.1 31 29 == 0 && fget c 29 28 != 3 && fget c 25 24 == 0 &&
      (cfgFifo c == 0 || inR (cfgFifo c) 2 64)
  let fifo := fun (n : Nat) =>
    decide (n + cfgFifo (cfg n) ≤ 128) && (List.range (cfgFifo (cfg n))).all fun i =>
      !wbit (cfg (n + i)) 30 && fget (cfg (n + i)) 29 28 == fget (cfg n) 29 28 && (i == 0 || !headShape (cfg (n + i)))
  b.isEmpty || ((List.range 128).all one && heads.all fifo)

/-- CANO (R372 to R374). -/
def Image.canoOk (g : Image) : Bool :=
  !g.has tagCANO || (match g.unit tagCANO 0 1 with
    | none => false
    | some b => canRecordOk (g.ver tagCANO) (slice b 0 32) && canRecordOk (g.ver tagCANO) (slice b 32 32) &&
        objectsOk (g.unitBytes tagCANO 0 2) && objectsOk (g.unitBytes tagCANO 0 3))

/-- A controller is enabled in CANO. -/
def Image.canEn (g : Image) (c : Nat) : Bool := rd8 (g.unitBytes tagCANO 0 1) (32 * c) % 2 == 1

/-- NELZ (R438, R439). -/
def Image.nelzOk (g : Image) : Bool :=
  !g.has tagNELZ || (match g.unit tagNELZ 0 1 with
    | none => false
    | some b =>
      let en := rd8 b 2
      let m := recordsGo 8 65536 (g.unitBytes tagNELZ 0 2)
      inR (rd8 b 0) 1 3 && inR (rd8 b 1) 1 (rd8 b 0) && zeroBits en 0xF8 && zeroBits (rd8 b 3) 0xF0 && inR (rd8 b 4) 1 63 &&
        rd8 b 4 != rd8 g.strc 3 && decide (rd8 b 5 ≤ 112) && zeroBits (rd8 b 6) 0x88 && inR (rd16 b 8) 10 1000 && inR (rd16 b 10) 5 1000 &&
        (en % 2 == 0 || g.canEn 0) && (en / 2 % 2 == 0 || g.canEn 1) && decide (m.length ≤ 64) &&
        m.all fun r => decide (rd8 r 2 ≤ 63) && decide (rd16 r 4 ≤ 60000))

/-- What the group check needs of STRC. -/
def groupEnv (strc : List Byte) : GroupEnv :=
  { use := strcInUse strc, fb := BitVec.ofNat 12 (bitsOf ((List.range 12).map fun i => rd8 strc (16 + i) % 128 != 0)) }

/-- The group records of RECD: group number and group (R459). -/
def Image.groupRecs (g : Image) : List (Nat × Group) :=
  if g.ver tagRECD = 1 then []
  else (recordsGo 112 16 (g.unitBytes tagRECD 0 2)).map fun r => (rd8 r 0, groupOfWords fun n => rdw r (4 + 4 * n))

/-- Value ranges of a group record beyond the check of R248: the SRC of a SEQ condition names one of three kinds of entry. -/
def groupRangeOk (r : Group) : Bool :=
  fget r.cfg 25 24 != 3 && fget r.cfg 23 22 != 3 && inR r.size 1 1024 && (r.conds.toList.all fun c =>
      c.kind != 7 || c.src / 64 != 3) && (r.autoUs == 0 || inR r.autoUs 1000 60000000)

/-- RECD (R459). -/
def Image.recdOk (g : Image) : Bool :=
  !g.has tagRECD || (match g.unit tagRECD 0 1 with
    | none => false
    | some b =>
      let l := g.groupRecs
      let tg := if g.ver tagRECD = 1 then 0 else rd16 b 6
      inR (rd16 b 0) 1024 32768 && inR (rd16 b 2) 1 365 && inR (rd16 b 4) 100 10000 && zeroBits (rd8 b 8) 0xFE &&
        (l.all fun r => decide (r.1 ≤ 15) && groupRangeOk r.2 &&
          r.2.check r.1 ((l.filter fun o => o.1 != r.1 && o.2.en).map Prod.snd) (groupEnv g.strc) == 0) &&
        decide ((l.map Prod.fst).Nodup) &&
        (List.range 16).all fun n => !Nat.testBit tg n || l.any fun r => r.1 == n && r.2.arch)

/-- Versions, unknown tags, section FLAGS and required sections (R76, R79, R80). -/
def Image.sectionsOk (g : Image) : Bool :=
  (g.sections.all fun s => zeroBits s.flags.toNat 0xFFF8 && match knownTag s.tag with
    | some k => inR s.version.toNat 1 k.top
    | none => wbit s.flags 2) &&
  knownTags.all fun k => decide (g.major < k.major) || g.has k.tag

/-- Every directory entry is for the host or for a portal (R81, R517). -/
def Image.unitsNamed (g : Image) : Bool := g.sections.all fun s => noDir s.tag || (knownTag s.tag).isNone || (g.units s.tag).all fun u =>
    u.unit == 0 || inR u.unit 16 19

/-- Step 6 of R57. -/
def Image.contentOk (g : Image) : Bool :=
  g.sectionsOk && g.unitsNamed && strcOk (g.ver tagSTRC) g.strc && decide (rd8 (g.payload tagSIGN) 0 ≤ 3) && g.harnOk 0 4096 256 &&
    (([0, 1, 2, 3] : List Nat).all fun p => !g.inUse p ||
      (g.harnOk (16 + p) 512 32 && g.seqtOk p && g.profOk p && g.jogOk p && g.envlOk p && g.iompOk p)) &&
    g.canoOk && g.nelzOk && g.recdOk

/-! ### The checks of R57, in order -/

/-- Steps 1 to 3, on the 64-byte header. -/
def headerWhy (h : List Byte) : Nat :=
  if h.take 4 != [0x54, 0x4C, 0x58, 0x48] then 1
  else if !(rd8 h 4 == 1 || rd8 h 4 == 2 || (rd8 h 4 == 3 && decide (rd8 h 5 ≤ 2))) then 2
  else if !(([0x10, 0x20, 0x40] : List Nat).contains (rd8 h 6) && decide (rd8 h 7 ≤ 3)) then 3
  else 0

/-- Result of a check: 0 with the image, or the rejection code. -/
structure ImageCheck where
  why : Nat
  image : Option Image
  deriving DecidableEq, Repr

/-- Steps 1 to 6. -/
def checkContent (flash : List Host.Cell) (r : Region) : ImageCheck :=
  let h := memRead 0xFF 64 (regionBase r) flash
  let w := headerWhy h
  if w ≠ 0 then ⟨w, none⟩
  else if regionSize < rd32 h 8 ∨ rd32 h 8 % 16 ≠ 0 then ⟨4, none⟩
  else
    match parseImage r (imageBytes flash r) with
    | none => ⟨4, none⟩
    | some g =>
      if g.sections.any fun s => crc32c s.payload != s.crc then ⟨4, none⟩
      else if !g.contentOk then ⟨3, none⟩
      else ⟨0, some g⟩

/-- Step 7: ECDSA P-256 over the bytes before the SIGN header (R84). -/
def Image.signatureOk (g : Image) (flash : List Host.Cell) : Bool :=
  let b := imageBytes flash g.region
  let s := g.payload tagSIGN
  let n := fun o => beNat (slice s o 32)
  rd8 s 1 == 1 && ecdsaVerify (n 4) (n 36) (beNat (sha256 (b.take (b.length - 160)))) (n 68) (n 100)

/-- The key-hash slot that signed the image. -/
def Image.slot (g : Image) : Nat := rd8 (g.payload tagSIGN) 0

/-- Step 8: the slot holds the hash of PUBKEY and is not revoked. -/
def Image.slotOk (g : Image) (f : FuseState) : Bool :=
  let k : Fin 4 := ⟨g.slot % 4, by omega⟩
  decide (g.slot < 4) && f.valid k && !f.revoked k && hashBytes (f.hashes.get k) == sha256 (slice (g.payload tagSIGN) 4 64)
where
  /-- The 32 bytes of a slot's hash: SEC_KEYHASH0 holds digest bytes 0 to 3, first byte lowest. -/
  hashBytes (h : BitVec 256) : List Byte := leBytes 32 h.toNat

/-- Steps 7 and 8. -/
def Image.signWhy (g : Image) (flash : List Host.Cell) (f : FuseState) : Nat :=
  if !g.signatureOk flash then 5 else if !g.slotOk f then 6 else 0

/-- Every check of R57, in its order. -/
def checkImage (flash : List Host.Cell) (f : FuseState) (r : Region) : ImageCheck :=
  let c := checkContent flash r
  match c.image with
  | none => c
  | some g => let w := g.signWhy flash f
    if w = 0 then c else ⟨w, none⟩

/-! ### What the part reads of an image it holds -/

/-- The host fabric's cells. -/
def Image.hostCells (g : Image) : List CellCfg := cellsOf (g.unitBytes tagHARN 0 1)

/-- The host fabric's timers. -/
def Image.hostTimers (g : Image) : List TimerCfg := timersOf (g.unitBytes tagHARN 0 2)

/-- The units of the image that go to portal `p`, in section and directory order. The UNIT byte decides; the HOST and PORTAL flags of a section header
are not read, and the manual names no outcome where they disagree with the units (DESIGN CHOICE; log entry 206). -/
def Image.portalUnits (g : Image) (p : Nat) : List UnitData :=
  if !g.inUse p then []
  else g.sections.flatMap fun s =>
    if (knownTag s.tag).isNone || noDir s.tag then []
    else ((g.units s.tag).filter fun u => u.unit == 16 + p).map fun u =>
      { tag := s.tag, kind := BitVec.ofNat 8 u.kind, bytes := u.bytes, crc := crc32c u.bytes, version := s.version }

/-- Kinds of the units that a section holds for a portal. -/
def Image.portalKinds (g : Image) (t : Word) (p : Nat) : List Nat := ((g.units t).filter fun u => u.unit == 16 + p).map ImgUnit.kind

/-- PSM_GRANT as STRC sets it; bits 1 and 2 of each byte read 0. -/
def Image.grant (g : Image) : Word :=
  let b := g.strc
  bitIf 24 (rd8 b 1 % 2 == 1) ||| fmk 23 16 (rd8 b 30 &&& 0xF9) ||| fmk 15 8 (rd8 b 29 &&& 0xF9) ||| fmk 7 0 (rd8 b 28 &&& 0xF9)

end Sys2Proof.Machine
end

