-- ==== Sys2Proof/Machine/Operands.lean ====
section
/-! DEFINITION. The operand forms of commands: the request of the host port with its CRC, its words and their addresses (R400, R404, R405), the
payload of a CAN frame and its DLC (R381), the key byte of a command word (R6). -/

namespace Sys2Proof.Machine

/-! ### Requests of the host port -/

/-- The bytes of a request that its CRC covers. -/
def requestBytes (r : SpiRequest) : List Byte :=
  [r.cmd] ++ leBytes 4 r.addr.toNat ++ leBytes 2 r.length.toNat ++ [r.seq] ++ (wordBytes r.payload).take (if r.cmd = 2 then r.length.toNat else 0)

/-- The request's CRC holds, and no crossing of the host port spoilt it: a non-code word is discarded and reported as a CRC failure (R18; log 217).
WRITE alone has a payload, of the length that its header gives. -/
def requestOk (r : SpiRequest) : Bool :=
  !r.nonCode && r.crc == crc32 (requestBytes r) && r.payload.length == (if r.cmd = 2 then (r.length.toNat + 3) / 4 else 0)

/-- Number of words of a request. -/
def reqWords (r : SpiRequest) : Nat := r.length.toNat / 4

/-- Address of word `i`. -/
def reqAddr (r : SpiRequest) (i : Nat) : Nat := (r.addr.toNat + 4 * i) % 4294967296

/-- ADDR or LENGTH is not a multiple of 4, or LENGTH is out of range for CMD. ADDR is ignored without words. -/
def reqMisaligned (r : SpiRequest) : Bool :=
  let n := r.length.toNat
  if r.cmd = 1 ∨ r.cmd = 2 then r.addr.toNat % 4 != 0 || n % 4 != 0 || decide (n < 4) || decide (1024 < n) else n != 0

/-! ### CAN frames -/

/-- Payload bytes of a DLC. -/
def dlcLen (fd : Bool) (dlc : Nat) : Nat :=
  if dlc ≤ 8 then dlc
  else if !fd then 8
  else
    match dlc with
    | 9 => 12
    | 10 => 16
    | 11 => 20
    | 12 => 24
    | 13 => 32
    | 14 => 48
    | _ => 64

/-- The DLC of a payload length. -/
def lenDlc (n : Nat) : Nat :=
  if n ≤ 8 then n else if n ≤ 12 then 9 else if n ≤ 16 then 10 else if n ≤ 20 then 11 else if n ≤ 24 then 12 else if n ≤ 32 then 13
  else if n ≤ 48 then 14 else 15

/-! ### Command words -/

/-- The key byte of a command word. -/
def keyOf (v : Word) : Byte := BitVec.ofNat 8 (fget v 31 24)

end Sys2Proof.Machine
end

