-- ==== Sys2Proof/Machine/Can.lean ====
section
/-! DEFINITION. The two CAN controllers (R370 to R398): the CANO section, controller states and error counters, message objects, acceptance
and FIFO ranges, sending, the transfer buffer. Error counting follows ISO 11898-1, which the manual names (R377). -/

namespace Sys2Proof.Machine

/-! ### Objects (R380, R381) -/

/-- Message object `n`; one never set up is all zero. -/
def CanState.obj (c : CanState) (n : Nat) : CanObject :=
  match c.objects.find? fun x => x.1 == n with
  | some x => x.2
  | none => {}

/-- Put an object into a list that rises by number; an all-zero object is not listed. -/
def putObj (n : Nat) (o : CanObject) : List (Nat × CanObject) → List (Nat × CanObject)
  | [] => if o = {} then [] else [(n, o)]
  | x :: r =>
    if n < x.1 then (if o = {} then x :: r else (n, o) :: x :: r)
    else if n = x.1 then (if o = {} then r else (n, o) :: r)
    else x :: putObj n o r

/-- Replace object `n`; there is none past 127. -/
def CanState.setObj (c : CanState) (n : Nat) (o : CanObject) : CanState := if n < 128 then { c with objects := putObj n o c.objects } else c

/-- Change object `n`. -/
def CanState.modObj (c : CanState) (n : Nat) (f : CanObject → CanObject) : CanState := c.setObj n (f (c.obj n))

/-- CFG.EN. -/
def CanObject.en (o : CanObject) : Bool := wbit o.cfg 31

/-- CFG.DIR: a send object. -/
def CanObject.sends (o : CanObject) : Bool := wbit o.cfg 30

/-- CFG.OWN. -/
def CanObject.own (o : CanObject) : Nat := fget o.cfg 29 28

/-- STAT.NDAT. -/
def CanObject.ndat (o : CanObject) : Bool := wbit o.stat 31

/-- STAT.TXREQ. -/
def CanObject.txreq (o : CanObject) : Bool := wbit o.stat 29

/-- STAT.FILL. -/
def CanObject.fill (o : CanObject) : Nat := fget o.stat 6 0

/-- The head of a FIFO range. -/
def CanObject.head (o : CanObject) : Bool := isHead o.cfg

/-- Object `n` belongs to a FIFO range without being its head. -/
def CanState.member (c : CanState) (n : Nat) : Bool :=
  c.objects.any fun x => x.2.head && decide (x.1 < n) && decide (n < x.1 + cfgFifo x.2.cfg)

/-! ### Controller (R373, R375, R377) -/

/-- A FLAGS bit of the controller record: 0 EN, 1 FD_EN, 2 MON, 3 AUTO_BO, 4 WAKE_STB, 5 TDC_EN. -/
def CanState.flag (c : CanState) (i : Nat) : Bool := wbit c.cfg (24 + i)

/-- FD_EN. -/
def CanState.fdEn (c : CanState) : Bool := c.flag 1

/-- State code (R375). -/
def CanCtl.code : CanCtl → Nat
  | .off => 0
  | .integrating => 1
  | .active => 2
  | .passive => 3
  | .busOff => 4
  | .recovering => 5

/-- The controller takes part in the traffic of the bus. -/
def CanState.onLine (c : CanState) : Bool := c.ctl == .active || c.ctl == .passive

/-- CANx_TXD is driven: error active or passive, and not in bus monitoring mode (R375). -/
def CanState.drives (c : CanState) : Bool := c.onLine && !c.flag 2

/-- EWARN. -/
def CanState.ewarn (c : CanState) : Bool := decide (96 ≤ c.tec) || decide (96 ≤ c.rec_)

/-- CAN_STAT. -/
def CanState.statWord (c : CanState) : Word :=
  fmk 31 29 c.ctl.code ||| bitIf 28 c.ewarn ||| bitIf 27 c.alone ||| bitIf 26 c.arPend ||| fmk 23 16 (min c.rec_ 255) ||| fmk 8 0 (min c.tec 511)

/-- Raise a flag of CAN_EVT. -/
def CanState.flagEvt (c : CanState) (bit : Nat) : CanState := { c with evt := raise c.evt bit }

/-- New error counters: EWARN, PASSIVE, ACTIVE and BUS_OFF follow from them (R376, R377). -/
def CanState.count (c : CanState) (tec rec_ : Nat) : CanState :=
  let was := c.ewarn
  let c := { c with tec := tec, rec_ := min rec_ 255 }
  let c := if c.ewarn && !was then c.flagEvt 29 else c
  if !c.onLine then c
  else if 255 < tec then
    let c := { c with ctl := .busOff, arPend := c.flag 3, cnt := fInc c.cnt 31 24, onBus := none }
    c.flagEvt 31
  else if 127 < tec ∨ 127 < rec_ then (if c.ctl == .passive then c else { c with ctl := .passive }.flagEvt 30)
  else { c with ctl := .active }

/-- CAN_ERRLOG.TYPE. -/
def errTypeCode : CanErrType → Nat
  | .bit0 => 1
  | .bit1 => 2
  | .stuff => 3
  | .form => 4
  | .ack => 5
  | .crc => 6

/-- CAN_ERRLOG.FIELD. -/
def errFieldCode : CanErrField → Nat
  | .arbitration => 1
  | .control => 2
  | .data => 3
  | .crc => 4
  | .ack => 5
  | .eof => 6

/-- An error frame: BUS_ERR and CAN_ERRLOG. -/
def CanState.logError (c : CanState) (e : CanError) (tx : Bool) : CanState :=
  let w := fmk 31 28 (errTypeCode e.kind) ||| fmk 27 24 (errFieldCode e.field) ||| bitIf 23 tx ||| bitIf 22 e.dataRate ||| fmk 15 0 (fget (fInc c.errlog 15 0) 15 0)
  { c with errlog := w }.flagEvt 21

/-! ### Requests (R387 to R389) -/

/-- Set the request of object `n`: a request already pending keeps its attempt count. -/
def CanState.request (c : CanState) (n ck : Nat) : CanState :=
  c.modObj n fun o =>
    let s := if o.txreq then o.stat else fput o.stat 28 16 0
    { o with stat := raise (fput s 28 24 0) 29, reqAt := ck, abortAfter := false }

/-- The request of object `n` is aborted, with its reason. -/
def CanState.abortReq (c : CanState) (n why : Nat) : CanState :=
  let c := c.modObj n fun o => { o with stat := fput (raise (putBit o.stat 29 false) 27) 26 24 why, abortAfter := false }
  let c := { c with abort := fput (fput (fInc c.abort 31 16) 10 8 why) 6 0 n }
  (if why = 3 then c.flagEvt 26 else c).flagEvt 25

/-- Numbers of the objects with a pending request. -/
def CanState.pendingTx (c : CanState) : List Nat := (c.objects.filter fun x => x.2.en && x.2.sends && x.2.txreq).map Prod.fst

/-- Abort every pending request that satisfies a condition. -/
def CanState.abortAll (c : CanState) (why : Nat) (which : Nat → CanObject → Bool) : CanState :=
  (c.pendingTx.filter fun n => which n (c.obj n)).foldl (fun c n => c.abortReq n why) c

/-- The lifetime of a request has expired. -/
def CanObject.expired (o : CanObject) (ck : Nat) : Bool :=
  let l := fget o.cfg 7 0
  l != 0 && decide (l * 10000000 ≤ ck - o.reqAt)

/-- Arbitration rank (R388): the identifier as it stands on the bus, a standard one followed by 18 ones, then the remote bit. -/
def CanObject.rank (o : CanObject) : Nat :=
  if wbit o.id 31 then fget o.id 28 0 else fget o.id 28 18 * 262144 + 262143

/-- The better of two pending objects. -/
def CanState.better (c : CanState) (m n : Nat) : Nat :=
  let a := (c.obj m).rank
  let b := (c.obj n).rank
  if b < a then n
  else if a < b then m
  else if wbit (c.obj m).id 31 && !wbit (c.obj n).id 31 then n else m

/-- The object whose request goes next. -/
def CanState.nextTx (c : CanState) : Option Nat :=
  match c.pendingTx with
  | [] => none
  | n :: r => some (r.foldl c.better n)

/-- The frame of a send object. -/
def CanState.frameOf (c : CanState) (o : CanObject) : CanFrame :=
  let fd := wbit o.cfg 27 && c.fdEn
  let dlc := fget o.stat 11 8
  { ide := wbit o.id 31, rtr := wbit o.id 30 && !fd, fdf := fd, brs := fd && wbit o.cfg 26, esi := fd && c.ctl == .passive,
    ident := BitVec.ofNat 29 (fget o.id 28 0), dlc := BitVec.ofNat 4 dlc,
    data := if wbit o.id 30 && !fd then [] else slice o.data 0 (dlcLen fd dlc) }

/-- An uncorrectable error read from object `n` (R397). -/
def CanState.eccObj (c : CanState) (n : Nat) : CanState :=
  let c := if (c.obj n).txreq then c.abortReq n 6 else c
  let c := c.modObj n fun o => { o with cfg := putBit o.cfg 31 false }
  { c with abort := fput (fput c.abort 10 8 7) 6 0 n, bad := c.bad.erase n }.flagEvt 22

/-- An attempt starts (R388, R389): none in bus monitoring mode, and while ALONE one per 100 ms (R395). -/
def CanState.txStart (c : CanState) (ck : Nat) (now : Dword) : CanState :=
  if !c.onLine || c.flag 2 || c.onBus.isSome || c.offDue || (c.alone && decide (ck - c.probeAt < 100000000)) then c
  else
    match c.nextTx with
    | none => c
    | some n =>
      let o := c.obj n
      if c.bad.contains n then c.eccObj n
      else if o.expired ck then c.abortReq n 4
      else { c with onBus := some (n, c.frameOf o), probeAt := ck, sof := now }

/-- The controller goes OFF: every pending request is aborted with STOPPED (R376). -/
def CanState.goOff (c : CanState) : CanState :=
  let c := c.abortAll 6 fun _ _ => true
  { c with ctl := .off, tec := 0, rec_ := 0, alone := false, arPend := false, onBus := none, ackRun := 0, fdRun := 0, offDue := false }

/-- A trigger for OFF: at the end of the frame being sent, else at once. -/
def CanState.turnOff (c : CanState) : CanState :=
  if c.ctl == .off then c else if c.onBus.isSome then { c with offDue := true } else c.goOff

/-- What becomes of a request whose attempt ended in an error. -/
def CanState.afterError (c : CanState) (n : Nat) (e : CanError) : CanState :=
  let bitErr := (e.kind == CanErrType.bit0 || e.kind == CanErrType.bit1) && e.field != CanErrField.arbitration
  let c := c.modObj n fun o => { o with stat := fInc o.stat 23 16, bitErrs := if bitErr then o.bitErrs + 1 else 0 }
  let o := c.obj n
  let retry := fget o.cfg 23 16
  if !o.txreq then c
  else if o.abortAfter then c.abortReq n 5
  else if 3 ≤ o.bitErrs then c.abortReq n 3
  else if retry < 255 ∧ retry < fget o.stat 23 16 then c.abortReq n (if e.kind == CanErrType.ack then 1 else 2)
  else c

/-- What the flag of an error adds to a counter (ISO 11898-1): 8 for each bit error while an active flag was sent, and 8 for each run of 8 further dominant
bits after a flag. -/
def CanState.flagCount (c : CanState) (e : CanError) : Nat := 8 * ((if c.ctl == .active then e.flagErrors else 0) + e.dominantRuns)

/-- TEC after an error of a transmitter (R377 and ISO 11898-1): no change for an ACK error of an error-passive one that saw no dominant bit, nor
for a stuff error during arbitration, but for what its flag adds. -/
def CanState.txErrorTec (c : CanState) (e : CanError) : Nat :=
  let own := if e.kind == CanErrType.ack && c.ctl == .passive && !e.dominantInFlag then 0
    else if e.kind == CanErrType.stuff && e.field == CanErrField.arbitration then 0
    else if e.inOverload then 0 else 8
  c.tec + own + c.flagCount e

/-- The frame had been acknowledged when its error came: it lies after the ACK slot (R395). -/
def CanError.acked (e : CanError) : Bool := e.field == CanErrField.eof || (e.field == CanErrField.ack && e.kind != CanErrType.ack)

/-- An attempt that ends in an error frame. -/
def CanState.txError (c : CanState) (n : Nat) (f : CanFrame) (e : CanError) : CanState :=
  let tec := c.txErrorTec e
  let run := if e.kind == CanErrType.ack then c.ackRun + 1 else 0
  let c := { c.logError e true with alone := c.alone && !CanError.acked e, ackRun := run, fdRun := if !f.fdf then c.fdRun else if e.field == CanErrField.control then c.fdRun + 1 else 0 }
  let c := if run = 16 ∧ !c.alone then { c with alone := true }.flagEvt 27 else c
  (c.afterError n e).count tec c.rec_

/-- A frame sent and acknowledged. -/
def CanState.txDone (c : CanState) (n : Nat) (f : CanFrame) (tdcv : BitVec 7) : CanState :=
  let c := c.modObj n fun o =>
    { o with stat := putBit (putBit (raise (putBit o.stat 29 false) 28) 14 f.fdf) 13 f.brs, time := c.sof, frameId := o.id, bitErrs := 0,
             abortAfter := false }
  let tdc := if f.brs && wbit c.tdc 31 then fput c.tdc 6 0 tdcv.toNat else c.tdc
  { c with alone := false, ackRun := 0, fdRun := if f.fdf then 0 else c.fdRun, tdc := tdc }.count (c.tec - 1) c.rec_

/-- The end of an attempt (R389). -/
def CanState.txEnd (c : CanState) (e : TxEnd) : CanState :=
  match c.onBus with
  | none => c
  | some (n, f) =>
    let c := { c with onBus := none }
    let c := match e with
      | .success tdcv => c.txDone n f tdcv
      | .lostArbitration => if (c.obj n).abortAfter && (c.obj n).txreq then c.abortReq n 5 else c
      | .error x => c.txError n f x
    if c.offDue then c.goOff else c

/-! ### Acceptance (R384 to R386) -/

/-- An object takes a frame. -/
def CanState.accepts (c : CanState) (n : Nat) (o : CanObject) (f : CanFrame) : Bool :=
  o.en && !o.sends && !c.member n && f.ide == wbit o.id 31 && (fget o.mask 28 0 &&& (f.ident.toNat ^^^ fget o.id 28 0)) == 0

/-- What an object holds of a frame, NDAT set; FILL and the flags of a FIFO head stay. -/
def CanObject.store (o : CanObject) (f : CanFrame) (time : Dword) (mlst : Bool) : CanObject :=
  let s := bitIf 31 true ||| bitIf 30 (mlst || wbit o.stat 30) ||| bitIf 15 f.esi ||| bitIf 14 f.fdf ||| bitIf 13 f.brs ||| bitIf 12 f.rtr |||
    fmk 11 8 f.dlc.toNat ||| fmk 6 0 o.fill
  { o with stat := s, data := slice (if f.rtr then [] else f.data) 0 64, time := time, frameId := bitIf 31 f.ide ||| fmk 28 0 f.ident.toNat }

/-- The member of a FIFO whose turn it is to take a frame: the next in turn that holds no untaken one. -/
def CanObject.fifoTurn (h : CanObject) : Option Nat :=
  let len := cfgFifo h.cfg
  ((List.range len).map fun i => (h.fifoNext + i) % len).find? fun i => !h.fifoHeld.contains i

/-- What a FIFO head records of the members that hold a frame. -/
def CanObject.holds (h : CanObject) (l : List Nat) : CanObject := { h with stat := fput h.stat 6 0 l.length, fifoHeld := l }

/-- A FIFO head takes a frame: the members in turn; one of which every member holds an untaken frame discards it. -/
def CanState.fifoPut (c : CanState) (n : Nat) (f : CanFrame) (time : Dword) : CanState :=
  let h := c.obj n
  match h.fifoTurn with
  | none => { c.modObj n fun o => { o with stat := raise o.stat 30 } with cnt := fInc c.cnt 7 0 }.flagEvt 24
  | some i =>
    if c.bad.contains (n + i) then c.eccObj (n + i)
    else
      let c := c.modObj (n + i) fun o => o.store f time false
      c.modObj n fun o => { o.holds (o.fifoHeld ++ [i]) with fifoNext := (i + 1) % cfgFifo h.cfg }

/-- A frame received without error: a free value where REC falls from above 127 (ISO 11898-1 allows 119 to 127). A classical controller takes no CAN FD
frame (R370, R373): PRESUMED, it keeps out of it as ISO 11898-1 has it of a protocol exception (log 254). -/
def CanState.receive (c : CanState) (f : CanFrame) (time : Dword) (free : Nat) : CanState :=
  if !(c.onLine || c.ctl == .integrating) || (f.fdf && !c.fdEn) then c
  else
    let r := if 127 < c.rec_ then 119 + free % 9 else c.rec_ - 1
    let c := { c with alone := false, ackRun := 0 }.count c.tec r
    match c.objects.find? fun x => c.accepts x.1 x.2 f with
    | none => { c with cnt := fInc c.cnt 15 8 }
    | some (n, o) =>
      if c.bad.contains n then c.eccObj n
      else if o.head then c.fifoPut n f time
      else
        let lost := o.ndat
        let c := c.modObj n fun o => o.store f time lost
        if lost then c.flagEvt 24 else c

/-- An error frame while the controller receives: REC rises by 1, but for a bit error in an overload flag, by 8 more where the bit after its error flag is
dominant, and by what the flag adds. -/
def CanState.rxError (c : CanState) (e : CanError) : CanState :=
  if !c.onLine then c
  else (c.logError e false).count c.tec (c.rec_ + (if e.inOverload then 0 else 1) + (if e.dominantInFlag then 8 else 0) + c.flagCount e)

/-! ### Recovery (R376, R379, R396) -/

/-- Recovery from bus-off starts, once. -/
def CanState.recover (c : CanState) : CanState :=
  if c.ctl == .busOff then { c with ctl := .recovering, arPend := false, cnt := fInc c.cnt 23 16 } else c

/-- AR_MS has elapsed. -/
def CanState.autoRecover (c : CanState) : CanState := if c.flag 3 then c.recover else c

/-- Recovery is complete: requests whose lifetime has expired are aborted before the first frame is sent. -/
def CanState.recovered (c : CanState) (ck : Nat) : CanState :=
  if c.ctl != .recovering then c
  else
    let c := { c with ctl := .active, tec := 0, rec_ := 0 }.flagEvt 28
    c.abortAll 4 fun _ o => o.expired ck

/-- 11 recessive bits. -/
def CanState.integrated (c : CanState) : CanState := if c.ctl == .integrating then { c with ctl := .active } else c

/-! ### CAN_CMD (R379, R387, R389) -/

/-- A command is refused. -/
def CanState.cmdErr (c : CanState) (why : Nat) : CanState := { c with cmdstat := fput (raise c.cmdstat 30) 3 0 why }

/-- A command is accepted. -/
def CanState.cmdOk (c : CanState) : CanState := { c with cmdstat := fput (raise c.cmdstat 31) 3 0 0 }

/-- RECOVER. -/
def CanState.cmdRecover (c : CanState) (key : Byte) : CanState :=
  if key ≠ 0x6C then c.cmdErr 1 else if c.ctl ≠ .busOff then c.cmdErr 2 else c.recover.cmdOk

/-- Why a command on a send object is refused; 0 when it is not. -/
def CanState.sendWhy (c : CanState) (key : Byte) (n : Nat) : Nat :=
  let o := c.obj n
  if key ≠ 0x6C then 1 else if !o.sends || o.own != 1 then 3 else if !o.en || c.ctl == .off then 4 else 0

/-- TXREQ. -/
def CanState.cmdTxreq (c : CanState) (key : Byte) (n ck : Nat) : CanState :=
  let w := c.sendWhy key n
  if w ≠ 0 then c.cmdErr w else (c.request n ck).cmdOk

/-- ABORT. -/
def CanState.cmdAbort (c : CanState) (key : Byte) (n : Nat) : CanState :=
  let w := c.sendWhy key n
  if w ≠ 0 then c.cmdErr w
  else if !(c.obj n).txreq then c.cmdOk
  else if (match c.onBus with
    | some (m, _) => m == n
    | none => false) then (c.modObj n fun o => { o with abortAfter := true }).cmdOk
  else (c.abortReq n 5).cmdOk

/-! ### The transfer buffer (R390, R391) -/

/-- The 20 words of an object. -/
def CanObject.words (o : CanObject) : List Word := [o.id, o.mask, o.cfg, o.stat] ++ (List.range 16).map (wordAt o.data)

/-- A transfer is refused. -/
def CanState.xErr (c : CanState) (why : Nat) : CanState := { c with xstat := fput (raise c.xstat 29) 3 0 why }

/-- A transfer is complete. -/
def CanState.xOk (c : CanState) : CanState := { c with xstat := fput (raise c.xstat 30) 3 0 0 }

/-- The head of whose range object `n` is a further member. -/
def CanState.headOf (c : CanState) (n : Nat) : Option Nat :=
  (c.objects.find? fun x => x.2.head && decide (x.1 < n) && decide (n < x.1 + cfgFifo x.2.cfg)).map Prod.fst

/-- The frame of member `i` of FIFO `h` has been taken. -/
def CanState.fifoTaken (c : CanState) (h i : Nat) : CanState :=
  (c.modObj (h + i) fun x => { x with stat := putBit x.stat 31 false }).modObj h fun x => x.holds (x.fifoHeld.erase i)

/-- READ: of a FIFO head the oldest member held; a member read by its own number is taken out of its range. -/
def CanState.xRead (c : CanState) (n : Nat) : CanState :=
  let o := c.obj n
  let m := match o.head, o.fifoHeld with
    | true, i :: _ => n + i
    | _, _ => n
  if c.bad.contains n then (c.eccObj n).xOk
  else if c.bad.contains m then (c.eccObj m).xOk
  else
    let c := { c with xb := (c.obj m).words }
    let c := match o.head, o.fifoHeld with
      | true, i :: _ => c.fifoTaken n i
      | _, _ => match c.headOf n with
        | some h => c.fifoTaken h (n - h)
        | none => c.modObj n fun x => { x with stat := putBit x.stat 31 false }
    (c.modObj n fun x => { x with stat := putBit x.stat 30 false }).xOk

/-- A read of an object through its window: an uncorrectable error is found in any read (R397). -/
def CanState.readEffect (c : CanState) (o : Nat) : CanState :=
  let n := (o - 0x1000) / 0x50
  if 0x1000 ≤ o ∧ o < 0x3800 ∧ c.bad.contains n = true then c.eccObj n else c

/-- WRITE. -/
def CanState.xWrite (c : CanState) (n : Nat) (send : Bool) (ck : Nat) : CanState :=
  let o := c.obj n
  if !o.sends || o.own != 1 then c.xErr 2
  else if send && (!o.en || c.ctl == .off) then c.xErr 3
  else
    let c := c.modObj n fun o =>
      { o with stat := fput o.stat 11 8 (fget (c.xb.getD 3 0) 11 8), data := wordBytes ((c.xb.drop 4).take 16) }
    (if send then c.request n ck else c).xOk

/-! ### Configuration of objects (R374, R383, R385) -/

/-- The bits of ID, MASK and CFG that exist. -/
def objMask (word : Nat) (v : Word) : Word :=
  match word with
  | 0 => if wbit v 31 then v &&& 0xDFFFFFFF else v &&& 0xDFFC0000
  | 1 => v &&& 0x1FFFFFFF
  | _ => v &&& 0xFCFFFFFF

/-- A CFG word may stand in object `n`: ownership, the controller's kind, and the FIFO range. -/
def CanState.cfgOk (c : CanState) (n : Nat) (v : Word) : Bool :=
  let len := cfgFifo v
  let own := fget v 29 28
  let heads := c.objects.filter fun x => x.1 != n && x.2.head
  let range := (List.range len).all fun i =>
    (i == 0 || (!(c.obj (n + i)).sends && (c.obj (n + i)).own == own)) &&
      !heads.any fun h => decide (h.1 ≤ n + i) && decide (n + i < h.1 + cfgFifo h.2.cfg)
  decide (own ≤ 1) && (!wbit v 31 ||
    ((c.fdEn || !wbit v 27) && (!isHead v || (decide (len ≤ 64) && decide (n + len ≤ 128) && range))))

/-- A host write of ID, MASK or CFG. -/
def CanState.writeCfg (c : CanState) (n : Nat) (word : Nat) (v : Word) : CanState :=
  let o := c.obj n
  let v := objMask word v
  if o.en || decide (1 < o.own) || (word == 2 && !c.cfgOk n v) then c.flagEvt 23
  else
    match word with
    | 0 => c.setObj n { o with id := v }
    | 1 => c.setObj n { o with mask := v }
    | _ => c.setObj n { o with cfg := v, fifoNext := 0, fifoHeld := [], stat := fput o.stat 6 0 0 }

/-- The object of a record of 16 bytes; version 1 has no FDF and no BRS. -/
def objectOf (v : Nat) (b : List Byte) (n : Nat) : CanObject :=
  let w := objWords b n
  { id := objMask 0 w.1, mask := objMask 1 w.2.1, cfg := objMask 2 (if v = 1 then w.2.2 &&& 0xF3FFFFFF else w.2.2) }

/-- All objects of a unit. -/
def objectsOf (v : Nat) (b : List Byte) : List (Nat × CanObject) :=
  if b.isEmpty then []
  else ((List.range 128).map fun n => (n, objectOf v b n)).filter fun x => x.2 != {}

/-- The controller's registers from its record (R373); version 1 is classical only. -/
def CanState.loadRecord (c : CanState) (v : Nat) (r : List Byte) : CanState :=
  let r := if v = 1 then [BitVec.ofNat 8 (rd8 r 0 &&& 0xDD)] ++ slice r 1 4 ++ zeros 5 ++ slice r 10 22 else r
  { c with cfg := fmk 31 24 (rd8 r 0) ||| fmk 15 0 (rd16 r 10),
           nbt := fmk 31 24 (rd8 r 1) ||| fmk 23 16 (rd8 r 2) ||| fmk 14 8 (rd8 r 3) ||| fmk 6 0 (rd8 r 4),
           dbt := fmk 28 24 (rd8 r 5) ||| fmk 20 16 (rd8 r 6) ||| fmk 11 8 (rd8 r 7) ||| fmk 3 0 (rd8 r 8),
           tdc := bitIf 31 (Nat.testBit (rd8 r 0) 5) ||| fmk 22 16 (rd8 r 9) }

/-- The objects are written at an activation. A frame on the bus ends without an object of its own. -/
def CanState.loadObjects (c : CanState) (objs : List (Nat × CanObject)) : CanState :=
  { c with objects := objs, bad := [], onBus := c.onBus.map fun x => (128, x.2) }

/-- A controller at an activation: its record and objects; EN brings it onto the bus, or keeps it there, and without EN every pending request is aborted
with STOPPED before its object is written (R376). -/
def CanState.load (c : CanState) (v : Nat) (r : List Byte) (objs : List (Nat × CanObject)) : CanState :=
  let c := c.loadRecord v r
  if c.flag 0 then
    let c := c.loadObjects objs
    if c.ctl == .off then { c with ctl := .integrating, tec := 0, rec_ := 0 } else c
  else ((c.abortAll 6 fun _ _ => true).loadObjects objs).turnOff

/-- DORMANT to STANDBY: an enabled controller is back on the bus (R376). -/
def CanState.wake (c : CanState) : CanState :=
  if c.flag 0 && c.ctl == .off then { c with ctl := .integrating, tec := 0, rec_ := 0 } else c

/-- CANx_STB (R378). -/
def CanState.standby (c : CanState) : Bool := c.ctl == .off && c.flag 4

/-! ### The controllers in the state -/

/-- Change a controller. -/
def State.modCan (s : State) (c : CanId) (f : CanState → CanState) : State := { s with cans := s.cans.setCan c (f (s.cans.can c)) }

/-- A controller. -/
def State.can (s : State) (c : CanId) : CanState := s.cans.can c

end Sys2Proof.Machine
end

