-- ==== Sys2Proof/Machine/Acq.lean ====
section
/-! DEFINITION. The capture groups at work (R244 to R265): samples kept, conditions, triggers and their placement, segments, modes,
measurements, the read window and the store's error correction. Every operation here is on the ACQ block alone. -/

namespace Sys2Proof.Machine

/-- Change one group. -/
def AcqState.mod (s : AcqState) (n : Fin 16) (f : Group → Group) : AcqState := { s with groups := s.groups.set n (f (s.groups.get n)) }

/-- The sixteen group numbers. -/
def allGroups : List (Fin 16) := [0, 1, 2, 3, 4, 5, 6, 7] ++ [8, 9, 10, 11, 12, 13, 14, 15]

/-- Ts of a source, ns (R249). -/
def Group.ts (g : Group) : Nat := if g.src = 0 then 2000 else if g.src = 1 then 10000 else 1000

/-- MODE; the unnamed code 3 acts as one of the named ones, which one is open. -/
def Group.mode (g : Group) (n : Fin 16) : Nat :=
  if fget g.cfg 23 22 = 3 then (Config.mode3 n.val).val else fget g.cfg 23 22

/-! ### Slots -/

/-- The selection of ACQ_RDSEL holds a slot of group `n` (R250, R265). -/
def AcqState.rdHolds (s : AcqState) (n : Fin 16) (k : Nat) : Bool :=
  wbit s.rdsel 31 && s.holdApplies && fget s.rdsel 27 24 == n.val && fget s.rdsel 11 0 == k

/-- The closed segment of a slot. -/
def Group.segAt (g : Group) (k : Nat) : Option Segment := g.closed.find? fun x => x.slot == k

/-- A slot is held (R250). -/
def AcqState.held (s : AcqState) (n : Fin 16) (k : Nat) : Bool :=
  let g := s.groups.get n
  (g.segAt k).isSome && (s.rdHolds n k || g.measuring.contains k ||
    (g.arch && match g.segAt k with
      | some x => x.archDue
      | none => false))

/-- Store addresses of a group's slot, in bytes. -/
def Group.slotAt (g : Group) (k : Nat) : Nat := g.base * 4096 + k * g.segSize

/-- Identity word of a segment (R263). -/
def segId (n : Fin 16) (slot : Nat) (seq : Half) : Word := fmk 31 28 n.val ||| fmk 27 16 slot ||| seq.setWidth 32

/-- Only some closed segments stay; what a stitch record could name of the others is kept (R444). -/
def Group.keepOnly (g : Group) (n : Fin 16) (p : Segment → Bool) : Group :=
  let keep := g.closed.filter p
  let gone := (g.closed.filter fun x => !p x).map fun x => ({ ttrig := x.ttrig, ident := segId n x.slot x.seq } : TraceRef)
  { g with closed := keep, past := g.past ++ gone, measuring := g.measuring.filter fun k => keep.any fun x => x.slot == k }

/-- The closed segments that a stretch of the store overwrites are gone, whichever group closed them. -/
def Group.overwritten (g : Group) (i : Fin 16) (a n : Nat) : Group :=
  g.keepOnly i fun x => decide (x.at_ + x.size ≤ a) || decide (a + n ≤ x.at_)

/-- Arm a slot: what stood there is overwritten. -/
def AcqState.arm (s : AcqState) (n : Fin 16) (k : Nat) (rest : List AcqSample) : AcqState :=
  let g := s.groups.get n
  let a := g.slotAt k
  let t := { s with groups := s.groups.mapIdx fun i (h : Group) => h.overwritten i a g.segSize }
  let t := t.mod n fun g => { g.keepOnly n (fun x => x.slot != k) with armed := true, full := false, paused := false, gapWait := false, slot := k, kept := rest,
                                                                          dropped := 0, trig := none, commit := none }
  { t with bad := t.bad.filter fun x => decide (x < a) || decide (a + g.segSize ≤ x) }

/-- The next slot of a ring that is not held, after slot `k`. -/
def AcqState.freeSlot (s : AcqState) (n : Fin 16) (k : Nat) : Option Nat :=
  let m := (s.groups.get n).nseg
  ((List.range m).map fun i => (k + 1 + i) % m).find? fun j => !s.held n j

/-- A paused group resumes as soon as a slot is released (R250). -/
def AcqState.resume (s : AcqState) (n : Fin 16) : AcqState :=
  let g := s.groups.get n
  if g.paused then
    match s.freeSlot n g.slot with
    | some k => s.arm n k []
    | none => s
  else s

/-- Every paused group looks for a released slot. -/
def AcqState.resumeAll (s : AcqState) : AcqState := allGroups.foldl AcqState.resume s

/-- After a segment closes (R250); `rest` holds the samples that came after it. -/
def AcqState.moveOn (s : AcqState) (n : Fin 16) (rest : List AcqSample) : AcqState :=
  let g := s.groups.get n
  let stop := s.mod n fun g => { g with armed := false, full := true, kept := [], dropped := 0, trig := none, commit := none }
  match g.mode n with
  | 0 => stop
  | 1 => if g.slot + 1 < g.nseg then s.arm n (g.slot + 1) rest else stop
  | _ =>
    match s.freeSlot n g.slot with
    | some k => s.arm n k rest
    | none => s.mod n fun g => { g with armed := false, paused := true, kept := [], dropped := 0, trig := none, commit := none }

/-! ### Closing a segment (R258, R263) -/

/-- One analog sample word has HELD or OVR set. -/
def Group.anyBit (g : Group) (l : List AcqSample) (b : Nat) : Bool :=
  g.src == 0 && l.any fun x => (List.range g.lanes.length).any fun i => Nat.testBit (rd16 x.bytes (2 * i)) b

/-- The segment that closes with the given samples. -/
def Group.segment (g : Group) (n : Fin 16) (l : List AcqSample) (gap : Bool) : Segment :=
  let c : Committed := match g.commit with
    | some c => c
    | none => { ttrig := 0, mask := 0, late := false, short := false, index := 0 }
  let first := match l.head? with
    | some x => x.time
    | none => 0
  let fl := bitIf 0 (Nat.testBit c.mask 5) ||| bitIf 1 c.short ||| bitIf 2 (g.anyBit l 15) ||| bitIf 3 gap ||| bitIf 4 c.late |||
    bitIf 6 (g.anyBit l 14)
  { slot := g.slot, at_ := g.slotAt g.slot, size := g.segSize, ttrig := c.ttrig, tpos := 256 * (c.ttrig - first) / g.ts, index := c.index, mask := c.mask, seq := g.seq,
    flags := fl.setWidth 8, gsrc := n.val + 16 * g.portal + 64 * g.src,
    chmask := if g.src = 0 then BitVec.ofNat 16 g.chmask else if g.src = 1 then BitVec.ofNat 16 (g.chmask % 8) else 0,
    meas := .all 0, samples := l, archDue := g.arch }

/-- Put a closed segment into its slot; its measurement starts (R262). -/
def Group.put (g : Group) (n : Fin 16) (x : Segment) : Group :=
  { g with closed := x :: g.closed.filter (fun y => y.slot != x.slot), measuring := x.slot :: g.measuring.filter (fun k => k != x.slot),
           segs := satInc g.segs 0xFFFF, newest := segId n x.slot x.seq, seq := g.seq + 1 }

/-- The segment now filling closes with its first `k` samples, and the group moves on. -/
def AcqState.close (s : AcqState) (n : Fin 16) (k : Nat) : AcqState :=
  let g := s.groups.get n
  (s.mod n fun g => g.put n (g.segment n (g.kept.take k) false)).moveOn n (g.kept.drop k)

/-- The segment closes once it has its samples (R249). -/
def AcqState.closeIfFull (s : AcqState) (n : Fin 16) : AcqState :=
  let g := s.groups.get n
  match g.commit with
  | some c =>
    let want := c.index + (g.lenN - g.pre)
    if want ≤ g.kept.length then s.close n want else s
  | none => s

/-! ### Triggers (R254 to R256) -/

/-- Count a trigger that records nothing. -/
def Group.overlapped (g : Group) : Group := { g with overlap := satInc g.overlap 0xFF }

/-- A digital group writes a word at its trigger tick even when nothing changed (R249): the levels of the word before, with no event (R242). -/
def Group.withTick (g : Group) (t : Nat) : List AcqSample :=
  if g.src != 2 || g.kept.any (fun x => x.time == t) then g.kept
  else
    let before := g.kept.takeWhile fun x => decide (x.time < t)
    let v := match before.getLast? with
      | some x => rd64 x.bytes 4
      | none => g.lastWord.toNat
    before ++ [{ time := t, bytes := leBytes 4 (t / 1000) ++ leBytes 8 (BitVec.ofNat 64 v &&& ~~~eventBits).toNat }] ++ g.kept.dropWhile fun x =>
        decide (x.time < t)

/-- How many kept samples lie at or before an instant. -/
def Group.upTo (g : Group) (t : Nat) : Nat := g.kept.countP fun x => decide (x.time ≤ t)

/-- The instant of the newest sample received. -/
def Group.newestAt (g : Group) : Option Nat :=
  match g.kept.getLast? with
  | some x => some x.time
  | none => g.lastAt

/-- Start of the sample interval in which a stamp falls (R254): ticks of 1 us for a digital group, else the frames or updates, Ts apart, with the
newest of them. -/
def Group.startOf (g : Group) (stamp : Nat) : Nat :=
  if g.src = 2 then stamp / 1000 * 1000
  else match g.newestAt with
    | some t => if t ≤ stamp then t + (stamp - t) / g.ts * g.ts else t - (t - stamp + g.ts - 1) / g.ts * g.ts
    | none => stamp / g.ts * g.ts

/-- Index, counted since arming, of the sample in whose interval a stamp falls. It may be one that has not arrived yet: frames and updates come Ts apart,
and a digital group writes a word at the trigger tick. -/
def Group.indexOf (g : Group) (stamp : Nat) : Nat :=
  let n := g.upTo stamp
  if g.src = 2 then g.dropped + n - (if g.kept.any (fun x => x.time == g.startOf stamp) then 1 else 0)
  else if n = 0 && !g.kept.isEmpty then g.dropped
  else match g.newestAt with
    | some t => g.dropped + g.kept.length + (stamp - t) / g.ts - (g.kept.length - n) - 1
    | none => g.dropped

/-- A trigger of source `c` with its stamp opens a segment. None: it maps to a sample before PRE samples and EARLY is 0. -/
def Group.place (g : Group) (c stamp : Nat) : Option PendingTrig :=
  let late := g.upTo stamp == 0 && !g.kept.isEmpty
  let short := decide (g.indexOf stamp < g.pre)
  if short && !g.early then none else some { key := g.startOf stamp, stamps := [(c, stamp)], late := late, short := short }

/-- SEQ conditions join only the segment they open (R255). -/
def Group.isSeq (g : Group) (c : Nat) : Bool :=
  match g.conds.toList[c]? with
  | some x => c < 4 && x.kind == 7
  | none => false

/-- A trigger joins the one that waits for its commit: same sample. Auto gives way to the others (R256). -/
def PendingTrig.join (t : PendingTrig) (c stamp : Nat) : PendingTrig :=
  if c = 5 then t else { t with stamps := (t.stamps.filter fun x => x.1 != 5 && x.1 != c) ++ [(c, stamp)] }

/-- A trigger reaches its group. -/
def Group.arrival (g : Group) (c stamp : Nat) : Group :=
  if !g.en then g
  else if g.paused then { g with missed := satInc g.missed 0xFF }
  else if !g.armed then g
  else if g.commit.isSome then g.overlapped
  else
    match g.trig with
    | none =>
      match g.place c stamp with
      | some t => { g with trig := some t, flags := g.flags ||| bitIf 25 t.late }
      | none => g.overlapped
    | some t =>
      let key := g.startOf stamp
      if key = t.key then
        if g.isSeq c && t.stamps.any (fun x => x.1 != c && x.1 != 5) && !t.stamps.any (fun x =>
            x.1 == c) then g.overlapped else { g with trig := some (t.join c stamp) }
      else if t.key < key then g.overlapped
      else
        match g.place c stamp with
        | some u => ({ g with trig := some u, flags := g.flags ||| bitIf 25 u.late }).overlapped
        | none => g.overlapped

/-- A trigger reaches group `n`. -/
def AcqState.arrival (s : AcqState) (n : Fin 16) (c stamp : Nat) : AcqState := s.mod n fun g => g.arrival c stamp

/-- Bits of the sources that joined. -/
def trigMask (l : List (Nat × Nat)) : Nat := bitsOf ((List.range 6).map fun c => l.any fun x => x.1 == c)

/-- Stamp of the lowest-numbered source. -/
def trigStamp (l : List (Nat × Nat)) : Nat :=
  match (List.range 6).findSome? fun c => l.find? fun x => x.1 == c with
  | some x => x.2
  | none => 0

/-- The group commits its trigger: PRE samples before the trigger sample stay. A stamp older than every sample kept is placed at the first, and late. -/
def Group.doCommit (g : Group) (t : PendingTrig) : Group :=
  let g := { g with kept := g.withTick t.key }
  let n := g.upTo (t.key + g.ts - 1)
  let has := g.kept.any fun x => decide (t.key ≤ x.time)
  let late := t.late || (n == 0 && !g.kept.isEmpty)
  let idx := if n = 0 then 0 else if has || t.late then n - 1 else n
  let cut := idx - g.pre
  { g with kept := g.kept.drop cut, dropped := g.dropped + cut, trig := none, flags := g.flags ||| bitIf 25 late,
           commit := some { ttrig := trigStamp t.stamps, mask := trigMask t.stamps, late := late, short := decide (g.dropped + idx < g.pre),
                            index := idx - cut } }

/-- The first sample of a segment whose trigger is committed already, later than its stamp: the trigger is late (R254). -/
def Group.judgeLate (g : Group) : Group :=
  match g.commit, g.kept with
  | some c, [x] => if c.ttrig < x.time && !c.late then { g with commit := some { c with late := true }, flags := g.flags ||| bitIf 25 true } else g
  | _, _ => g

/-- LINK conditions that name group `n` (R257). -/
def AcqState.links (s : AcqState) (n : Fin 16) (ttrig : Nat) : AcqState :=
  allGroups.foldl (fun s h =>
    ([0, 1, 2, 3] : List (Fin 4)).foldl (fun s c =>
      let x := (s.groups.get h).conds.get c
      if x.kind = 9 ∧ x.src = n.val then s.arrival h c.val ttrig else s) s) s

/-- The commit of group `n`. -/
def AcqState.commit (s : AcqState) (n : Fin 16) : AcqState :=
  match (s.groups.get n).trig with
  | none => s
  | some t => ((s.mod n fun g => g.doCommit t).links n (trigStamp t.stamps)).closeIfFull n

/-- A condition of KIND `k` that meets `f` fires in every group of a portal. -/
def AcqState.fireKind (s : AcqState) (portal k stamp : Nat) (f : GroupCond → Bool) : AcqState :=
  allGroups.foldl (fun s h =>
    ([0, 1, 2, 3] : List (Fin 4)).foldl (fun s c =>
      let g := s.groups.get h
      let x := g.conds.get c
      if g.en ∧ g.portal = portal ∧ x.kind = k ∧ f x then s.arrival h c.val stamp else s) s) s

/-- Host force (R256). -/
def AcqState.force (s : AcqState) (groups : BitVec 16) (now : Nat) : AcqState :=
  allGroups.foldl (fun s h => if wbit groups h.val && (s.groups.get h).armed then s.arrival h 4 now else s) s

/-- AUTO_US after arming the auto trigger fires; its stamp is the expiry. Once the segment's trigger is committed its timer has no meaning and counts no
OVERLAP (log entry 249). -/
def AcqState.autoFire (s : AcqState) (n : Fin 16) (now : Nat) : AcqState :=
  let g := s.groups.get n
  if g.armed && g.autoUs != 0 && g.commit.isNone then s.arrival n 5 now else s

/-- DSPAN ms after its trigger a digital segment closes (R249). -/
def AcqState.dspan (s : AcqState) (n : Fin 16) : AcqState :=
  let g := s.groups.get n
  if g.src = 2 && g.dspan != 0 && g.armed && g.commit.isSome then s.close n g.kept.length else s

/-! ### Conditions on samples (R252, R253) -/

/-- The value of a channel in a sample: analog channel, or derived channel of R241; none where the sample does not hold it. -/
def Group.value (g : Group) (ch : Nat) (x : AcqSample) : Option Int :=
  if g.src = 0 then
    (g.lanes.findIdx? fun c => c == ch).map fun i =>
      let v := rd16 x.bytes (2 * i) % 16384
      if ch < 12 then signed 14 v else (v : Int)
  else if g.src = 1 then
    (g.lanes.findIdx? fun a => a == ch / 2).map fun i =>
      if ch % 2 = 0 then rds32 x.bytes (8 * i) else rds16 x.bytes (8 * i + 4)
  else none

/-- The channel's sample has HELD set. -/
def Group.heldAt (g : Group) (ch : Nat) (x : AcqSample) : Bool :=
  g.src == 0 && (match g.lanes.findIdx? fun c => c == ch with
    | some i => Nat.testBit (rd16 x.bytes (2 * i)) 15
    | none => false)

/-- The instant of a channel's sample: the frame start plus the slot offset (R238). -/
def Group.instant (g : Group) (ch : Nat) (x : AcqSample) : Nat := if g.src = 0 then x.time + 250 * (ch % 8) else x.time

/-- A condition sees a new sample: the condition after it, and the stamp where it fires. A CROSS whose sample stands at LEVEL has a fraction of 256, its
own instant, and a sample that fires does not arm the condition again, with HYST 0 either (log entry 248). -/
def Group.judge (g : Group) (c : GroupCond) (x : AcqSample) : GroupCond × Option Nat :=
  let sg : Int := if c.pol then -1 else 1
  match c.kind with
  | 1 | 4 =>
    match g.value c.src x with
    | none => (c, none)
    | some v =>
      let t := g.instant c.src x
      let lvl := c.a.toInt
      let fires := c.armed && decide (sg * lvl ≤ sg * v)
      let armed := if fires then false else c.armed || decide (sg * v ≤ sg * lvl - c.b.toNat)
      let stamp := match c.kind, c.prev with
        | 4, some (t0, s0) => t0 + (((256 * (lvl - s0)).fdiv (v - s0)).toNat * g.ts) / 256
        | _, _ => t
      ({ c with armed := armed, prev := some (t, v) }, if fires then some stamp else none)
  | 2 =>
    match g.value c.src x with
    | none => (c, none)
    | some v => (c, if sg * c.a.toInt < sg * v then some (g.instant c.src x) else none)
  | 3 =>
    match g.value c.src x with
    | none => (c, none)
    | some v =>
      let inside := fun (u : Int) => decide (c.a.toInt ≤ u) && decide (u ≤ c.b.toInt)
      let fires := match c.prev with
        | some (_, u) => if c.pol then inside u && !inside v else !inside u && inside v
        | none => false
      ({ c with prev := some (x.time, v) }, if fires then some (g.instant c.src x) else none)
  | 5 =>
    let w := if wbit c.cfg 26 then rdw x.bytes 8 else rdw x.bytes 4
    let hit := (w &&& c.a) == c.b
    let fires := hit && (!c.pol || (match c.prev with
      | some (_, u) => u == 0
      | none => false))
    ({ c with prev := some (x.time, if hit then 1 else 0) }, if fires then some x.time else none)
  | _ => (c, none)

/-- The ring keeps at most LEN samples before a commit. -/
def Group.trim (g : Group) : Group :=
  if g.commit.isNone && decide (g.lenN < g.kept.length) then
    { g with kept := g.kept.drop (g.kept.length - g.lenN), dropped := g.dropped + (g.kept.length - g.lenN) }
  else g

/-- SAMPLE frames of its portal have resumed: a group that a gap closed arms again (R260). -/
def AcqState.regain (s : AcqState) (n : Fin 16) : AcqState :=
  let g := s.groups.get n
  if !g.gapWait then s
  else match g.mode n with
    | 0 => s.arm n 0 []
    | 1 => if g.slot + 1 < g.nseg then s.arm n (g.slot + 1) []
      else s.mod n fun g => { g with gapWait := false, armed := false, full := true }
    | _ => match s.freeSlot n g.slot with
      | some k => s.arm n k []
      | none => s.mod n fun g => { g with gapWait := false, armed := false, paused := true }

/-- A sample reaches an enabled group of its portal and source: the conditions see it; an armed group keeps it, and the segment closes when full. -/
def AcqState.sample (s : AcqState) (n : Fin 16) (x : AcqSample) : AcqState :=
  let g := s.groups.get n
  if !g.en then s
  else
    let r := g.conds.map fun c => g.judge c x
    let g1 := { g with conds := r.map Prod.fst, lastWord := if g.src = 2 then BitVec.ofNat 64 (rd64 x.bytes 4) else g.lastWord, lastAt := some x.time,
                       kept := if g.armed then (g.kept.filter fun (y : AcqSample) => y.time != x.time) ++ [x] else g.kept }
    let s := s.mod n fun _ => g1.trim.judgeLate
    let s := (r.toList.zipIdx).foldl (fun s q => match q.1.2 with
      | some stamp => s.arrival n q.2 stamp
      | none => s) s
    s.closeIfFull n

/-! ### Ingest (R244, R307) -/

/-- The stream set of a portal, as AFE_STREAM shows it: what its enabled groups require. -/
def AcqState.streamSet (s : AcqState) (portal : Nat) : Word :=
  allGroups.foldl (fun (w : Word) h =>
    let g := s.groups.get h
    if g.en && g.portal == portal then
      w ||| (if g.src = 0 then fmk 15 0 g.chmask else if g.src = 1 then fmk 18 16 (g.chmask % 8) else bitIf 19 true)
    else w) 0

/-- Device time of a window from its TT, nearest to `now` (R307). -/
def windowTime (tt : Word) (now : Nat) : Nat :=
  let us := now / 1000
  ((us : Int) + (tt - BitVec.ofNat 32 us).toInt).toNat * 1000

/-- Items of a frame by the set bits of what is streamed: the value for bit `i`, or a default. -/
def pickBy {α : Type} (bits : List Nat) (l : List α) (i : Nat) (d : α) : α :=
  match bits.findIdx? fun b => b == i with
  | some k => l.getD k d
  | none => d

/-- A frame sent with the given stream set holds all that a group takes (R244): one of an older set, from before the group was enabled, holds no sample
for it. -/
def Group.streamed (g : Group) (stream : Word) : Bool :=
  if g.src = 0 then g.lanes.all fun c => wbit stream c
  else if g.src = 1 then g.lanes.all fun a => wbit stream (16 + a)
  else wbit stream 19

/-- A SAMPLE frame of a portal, sent with the given stream set, is ingested. -/
def AcqState.ingest (s : AcqState) (portal : Nat) (stream : Word) (f : SampleFrame) (now : Nat) : AcqState :=
  let t := windowTime f.tt now
  let ana := bitIdx stream 16
  let der := (bitIdx stream 19).filterMap fun i => if 16 ≤ i then some (i - 16) else none
  allGroups.foldl (fun s n =>
    let g := s.groups.get n
    if !g.en || g.portal != portal || !g.streamed stream then s
    else
    let s := s.regain n
    if g.src = 0 then
      if f.analog.isEmpty then s
      else s.sample n { time := t, bytes := g.lanes.flatMap fun c => leBytes 2 (pickBy ana f.analog c 0).toNat }
    else if g.src = 1 then
      if f.derived.isEmpty then s
      else
        let one := fun (a : Nat) =>
          let x := pickBy der f.derived a ⟨0, 0, 0⟩
          leBytes 4 x.speed.toNat ++ leBytes 2 x.effort.toNat ++ leBytes 2 x.dflags.toNat
        s.sample n { time := t, bytes := g.lanes.flatMap one }
    else f.digital.foldl (fun s w =>
      let us := t / 1000 + w.1.toNat
      s.sample n { time := us * 1000, bytes := leBytes 4 us ++ leBytes 8 w.2.toNat }) s) s

/-- The link of a portal fails, or the part enters SAFE (R260). -/
def AcqState.gap (s : AcqState) (portal : Nat) : AcqState :=
  allGroups.foldl (fun s n =>
    let g := s.groups.get n
    if g.en && g.armed && !g.gapWait && g.portal == portal then
      let t := s.mod n fun g =>
        let h := g.put n (g.segment n g.kept true)
        { h with kept := [], dropped := 0, trig := none, commit := none, armed := false, gapWait := true, flags := g.flags ||| bitIf 24 true }
      { t with stat := raise t.stat (16 + portal) }
    else s) s

/-- The high-water mark of a portal's ingest buffer follows a level that it reaches (R246, ACQ_ING). -/
def AcqState.noteLevel (s : AcqState) (portal : Nat) (level : Byte) : AcqState :=
  { s with ing := fput s.ing (8 * portal + 7) (8 * portal) (max (fget s.ing (8 * portal + 7) (8 * portal)) level.toNat) }

/-- A portal's ingest buffer overflows: ING_FAULT, and the open segments of the portal close with GAP (R246). -/
def AcqState.overflowed (s : AcqState) (portal : Nat) : AcqState :=
  let t := s.gap portal
  { t with stat := raise t.stat 30 }

/-! ### Configuration -/

/-- The enabled groups other than `n`. -/
def AcqState.othersOf (s : AcqState) (n : Fin 16) : List Group :=
  allGroups.filterMap fun h => if h != n && (s.groups.get h).en then some (s.groups.get h) else none

/-- Setting EN: the check, then slot 0 armed with no condition armed (R248, R253). -/
def AcqState.enable (s : AcqState) (n : Fin 16) (e : GroupEnv) : AcqState :=
  let g := s.groups.get n
  let why := g.check n.val (s.othersOf n) e
  if why ≠ 0 then s.mod n fun g => { g with cfg := putBit g.cfg 31 false, why := why }
  else
    let unarmed := fun (c : GroupCond) => ({ c with armed := false, prev := none } : GroupCond)
    (s.mod n fun g => { g.keepOnly n (fun _ => false) with cfg := putBit g.cfg 31 true, why := 0, segs := 0, missed := 0, overlap := 0,
                                                           conds := g.conds.map unarmed, lastAt := none }).arm n 0 []

/-- EN is cleared: the segment now filling is given up. -/
def AcqState.disable (s : AcqState) (n : Fin 16) : AcqState :=
  s.mod n fun g => { g with cfg := putBit g.cfg 31 false, armed := false, full := false, paused := false, gapWait := false, kept := [], dropped := 0,
                            trig := none, commit := none }

/-- A configuration write is refused. -/
def AcqState.refuse (s : AcqState) (n : Fin 16) : AcqState := s.mod n fun g => { g with flags := raise g.flags 26 }

/-- GCFG.REARM: a FULL group is armed at slot 0 (R250). -/
def AcqState.rearm (s : AcqState) (n : Fin 16) : AcqState :=
  let g := s.groups.get n
  if g.recd then s.refuse n else if g.en && g.full then s.arm n 0 [] else s

/-- A write of ACQ_GCFG. -/
def AcqState.writeCfg (s : AcqState) (n : Fin 16) (v : Word) (e : GroupEnv) : AcqState :=
  let g := s.groups.get n
  let fields : Word := 0x0FF0FFFF
  let m : Word := fields &&& ~~~(bitIf 19 true)
  if g.recd then s.refuse n
  else if g.en then
    let s := if ((g.cfg ^^^ v) &&& m) == 0 then s else s.refuse n
    if !wbit v 31 then s.disable n else if wbit v 30 then s.rearm n else s
  else
    let s := s.mod n fun g => { g with cfg := wrw g.cfg v m }
    if wbit v 31 then s.enable n e else s

/-- A write of another configuration register of a group. -/
def AcqState.writeField (s : AcqState) (n : Fin 16) (f : Group → Group) : AcqState :=
  let g := s.groups.get n
  if g.recd || g.en then s.refuse n else s.mod n f

/-- The groups that the RECD section defines are loaded; those of the image before are cleared (R248). -/
def AcqState.load (s : AcqState) (defs : List (Nat × Group)) (e : GroupEnv) : AcqState :=
  let s := allGroups.foldl (fun s n => if (s.groups.get n).recd then s.mod n (fun g =>
      ({ seq := g.seq, past := (g.keepOnly n fun _ => false).past } : Group)) else s) s
  let s := allGroups.foldl (fun s n =>
    match defs.find? fun d => d.1 == n.val with
    | some d => s.mod n fun g => ({ d.2 with seq := g.seq, past := (g.keepOnly n fun _ => false).past, cfg := putBit d.2.cfg 31 false } : Group)
    | none => s) s
  allGroups.foldl (fun s n =>
    match defs.find? fun d => d.1 == n.val with
    | some d => if d.2.en then s.enable n e else s
    | none => s) s

/-- Entry to DORMANT or OFF: EN is cleared in every group, and the store is not retained (R250). -/
def AcqState.shut (s : AcqState) : AcqState :=
  let t := allGroups.foldl AcqState.disable s
  { t with groups := t.groups.map fun g => { g with closed := [], measuring := [] }, bad := [] }

/-! ### Measurements (R261, R262) -/

/-- The window of a segment: indexes of its first sample and of the sample after its last. -/
def Group.window (g : Group) (x : Segment) : Nat × Nat :=
  let b := fget g.mwin 31 16
  let a := fget g.mwin 15 0
  let n := x.samples.length
  (if b = 0xFFFF then 0 else x.index - b, if a = 0xFFFF then n else min n (x.index + a))

/-- The values of a channel in the window with their instants; samples with HELD set are left out. -/
def Group.series (g : Group) (x : Segment) (ch : Nat) : List (Nat × Int) :=
  let w := g.window x
  ((x.samples.take w.2).drop w.1).filterMap fun y =>
    if g.heldAt ch y then none else (g.value ch y).map fun v => (g.instant ch y, v)

/-- Highest of a list. -/
def maxI : List Int → Int → Int := fun l d => l.foldl max d

/-- Lowest of a list. -/
def minI : List Int → Int → Int := fun l d => l.foldl min d

/-- Rising crossings of `mid` (scaled by 2) with hysteresis `hyst` (scaled by 8): instants, latest first, and whether armed. -/
def risesGo (mid8 hyst8 : Int) : List (Nat × Int) → Bool → List Nat → List Nat
  | [], _, acc => acc
  | (t, v) :: r, armed, acc =>
    if armed && decide (mid8 ≤ 8 * v) then risesGo mid8 hyst8 r false (t :: acc)
    else risesGo mid8 hyst8 r (armed || decide (8 * v ≤ mid8 - hyst8)) acc

/-- The first instant at which a series crosses a level (scaled by 10) upwards, and what follows it. -/
def riseTo (lvl10 : Int) : List (Nat × Int) → Option (Nat × List (Nat × Int))
  | [] => none
  | [_] => none
  | (_, v) :: (t, w) :: r =>
    if 10 * v < lvl10 ∧ lvl10 ≤ 10 * w then some (t, (t, w) :: r) else riseTo lvl10 ((t, w) :: r)

/-- The square root of num / den, times 16, to the unit: the manual gives no rounding. -/
def root16 (num den : Nat) : Int :=
  let n := 256 * num
  let r := Nat.sqrt (n / den)
  if r * r * den = n then r else if Config.roundsUp n den then r + 1 else r

/-- Bit `b` of a digital word changes, or reads 1 where it is an event bit (R242). -/
def bitHits (b : Nat) (prev : Option Nat) (v : Nat) : Bool :=
  if wbit eventBits b then Nat.testBit v b else
    match prev with
    | some u => Nat.testBit u b != Nat.testBit v b
    | none => false

/-- The first word of a digital series in which a bit changes, and what follows it. -/
def bitHit (b : Nat) : Option Nat → List (Nat × Nat) → Option (Nat × Nat × List (Nat × Nat))
  | _, [] => none
  | prev, (t, v) :: r => if bitHits b prev v then some (t, v, r) else bitHit b (some v) r

/-- A result in ns as a 32-bit word; none where it does not fit, which the manual leaves open. -/
def fitNs (i : Int) : Option Word := if 0 ≤ i ∧ i ≤ 4294967295 then some (wordOf i) else none

/-- A signed result as a 32-bit word; none where it does not fit, which the manual leaves open. -/
def fit32 (i : Int) : Option Word := if -2147483648 ≤ i ∧ i ≤ 2147483647 then some (wordOf i) else none

/-- A measurement over a segment: none where the result is open. One that is off leaves 0 (log entry 250). -/
def Group.measure (g : Group) (x : Segment) (w : Word) : Option Word :=
  let bad : Option Word := some 0xFFFFFFFF
  let ch := fget w 7 0
  let l := g.series x ch
  match fget w 31 28 with
  | 0 => some 0
  | 8 =>
    if g.src ≠ 2 then bad
    else
      let win := g.window x
      let prev := (x.samples[win.1 - 1]?).bind fun y => if win.1 = 0 then none else some (rd64 y.bytes 4)
      match bitHit ch prev (((x.samples.take win.2).drop win.1).map fun y => (rd32 y.bytes 0, rd64 y.bytes 4)) with
      | some (t, v, r) => match bitHit (fget w 23 16) (some v) r with
        | some (u, _, _) => fitNs (((u + 4294967296 - t) % 4294967296 * 1000 : Nat) : Int)
        | none => bad
      | none => bad
  | k =>
    match l with
    | [] => bad
    | (_, v0) :: _ =>
      let vs := l.map Prod.snd
      let mx := maxI vs v0
      let mn := minI vs v0
      let n := vs.length
      match k with
      | 1 =>
        let c := risesGo (4 * (mx + mn)) (mx - mn) l false []
        (match c.head?, c.getLast? with
          | some b, some a => if c.length < 2 ∨ mx = mn then bad else fitNs (divR ((b - a : Nat) : Int) (c.length - 1))
          | _, _ => bad)
      | 2 => fit32 (16 * (mx - mn))
      | 3 => fit32 (16 * (vs.foldl (fun (m v : Int) => if m.natAbs < v.natAbs then v else m) v0))
      | 4 => fit32 (divR (16 * vs.foldl (fun (a b : Int) => a + b) 0) n)
      | 5 => fit32 (root16 (vs.foldl (fun (a : Nat) (b : Int) => a + b.natAbs * b.natAbs) 0) n)
      | 6 =>
        (match riseTo (10 * mn + (mx - mn)) l with
          | some (t, r) =>
            let lvl := 10 * mn + 9 * (mx - mn)
            (match r.head? with
              | some (t0, v) => if lvl ≤ 10 * v then fitNs ((t0 - t : Nat) : Int)
                else match riseTo lvl r with
                  | some (u, _) => fitNs ((u - t : Nat) : Int)
                  | none => bad
              | none => bad)
          | none => bad)
      | 7 => some (wordOf (clampI (-2147483648) 2147483647 (vs.foldl (fun (a b : Int) => a + b) 0 * g.ts / 1000)))
      | _ => bad

/-- The measurement engine finishes the segment of a slot: MEAS0 to MEAS7 with open results given in `fill`, and MEAS_DONE; the slot is
released. -/
def AcqState.measured (s : AcqState) (n : Fin 16) (slot : Nat) (fill : Nat → Word) : AcqState :=
  let g := s.groups.get n
  if g.measuring.contains slot then
    let fin := fun (x : Segment) =>
      if x.slot = slot then
        { x with meas := g.meas.mapIdx fun i w => match g.measure x w with
                   | some r => r
                   | none => fill i.val,
                 flags := x.flags ||| 0x20 }
      else x
    (s.mod n fun g => { g with measuring := g.measuring.filter (fun k => k != slot), closed := g.closed.map fin }).resume n
  else s

/-- The archive has copied a segment (R250). -/
def AcqState.copied (s : AcqState) (n : Fin 16) (slot : Nat) : AcqState :=
  (s.mod n fun g => { g with closed := g.closed.map fun x => if x.slot = slot then { x with archDue := false } else x }).resume n

/-! ### Reading (R258, R259, R264) -/

/-- The bytes of a closed segment as the read window and the archive present it. -/
def Segment.bytes (x : Segment) : List Byte :=
  let first := match x.samples.head? with
    | some y => y.time
    | none => 0
  let data := x.samples.flatMap AcqSample.bytes
  leBytes 8 x.ttrig ++ leBytes 8 first ++ leBytes 4 x.tpos ++ leBytes 4 x.samples.length ++ leBytes 2 x.mask ++ leBytes 2 x.seq.toNat ++
    [BitVec.ofNat 8 x.gsrc, x.flags] ++ leBytes 2 x.chmask.toNat ++ (x.meas.toList.flatMap fun w => leBytes 4 w.toNat) ++
    data ++ zeros (roundUp 16 data.length - data.length)

/-- The selected segment. -/
def AcqState.selected (s : AcqState) : Option Segment :=
  (s.groups.get ⟨fget s.rdsel 27 24 % 16, by omega⟩).segAt (fget s.rdsel 11 0)

/-- An ARCH segment that the archive has still to copy, with its group. -/
def AcqState.nextDue (s : AcqState) : Option (Fin 16 × Nat) :=
  allGroups.findSome? fun n =>
    let g := s.groups.get n
    if g.arch then (g.closed.find? fun x => x.archDue).map fun x => (n, x.slot) else none

/-- A word of the read window; whether the store word is uncorrectable. Such a word is returned as read: which bits are wrong is open. -/
def AcqState.readWin (s : AcqState) (off : Nat) : Word × Bool :=
  match s.selected with
  | none => (0, false)
  | some x =>
    let o := fget s.rdpage 6 0 * 32768 + off
    let b := x.bytes
    if o < b.length then
      (if s.bad.contains (x.at_ + o) then (Config.upsetWord (x.at_ + o) (rdw b o), true) else (rdw b o, false))
    else (0, false)

/-- A word of the window is read (R247). -/
def AcqState.readWinEffect (s : AcqState) (off : Nat) : AcqState :=
  if (s.readWin off).2 then { s with stat := raise s.stat 31, rdEcc := true } else s

/-- A slot begins to refill: the closed segment that stood in it is gone. -/
def Group.refilled (g : Group) (n : Fin 16) (k : Nat) : Group := g.keepOnly n fun x => x.slot != k

/-- A write of ACQ_RDSEL; a ring that begins to refill the slot in the same store cycle wins (R265). -/
def AcqState.select (s : AcqState) (w : Word) (refillNow : Bool) : AcqState :=
  let t : AcqState := { s with rdsel := w &&& 0x8F000FFF, holdApplies := !refillNow }
  (if refillNow then t.mod ⟨fget w 27 24 % 16, by omega⟩ fun g => g.refilled ⟨fget w 27 24 % 16, by omega⟩ (fget w 11 0) else t).resumeAll

/-- The scrub slot corrects single errors and meets uncorrectable words (R247): word addresses in bytes. -/
def AcqState.scrub (s : AcqState) (single double : List Nat) : AcqState :=
  let fresh := double.filter fun a => !s.bad.contains a
  { s with ecc := fput (fput s.ecc 31 16 (min 0xFFFF (fget s.ecc 31 16 + single.length))) 15 0 (min 0xFFFF (fget s.ecc 15 0 + fresh.length)),
           bad := s.bad ++ fresh }

/-! ### Registers of a group -/

/-- ACQ_GSTAT. -/
def Group.stat (g : Group) : Word :=
  bitIf 31 g.armed ||| bitIf 30 g.commit.isSome ||| bitIf 29 g.full ||| bitIf 28 g.paused |||
    bitIf 27 (g.armed && decide (g.pre ≤ g.dropped + g.kept.length)) ||| g.flags ||| fmk 19 16 g.why ||| fmk 11 0 g.slot

/-- ACQ_GCNT. -/
def Group.cnt (g : Group) : Word := fmk 31 16 g.segs ||| fmk 15 8 g.missed ||| fmk 7 0 g.overlap

end Sys2Proof.Machine
end

