-- ==== Sys2Proof/Machine/PortalCfg.lean ====
section
/-! DEFINITION. CONFIG frames at a portal die (R308): register access, unit download (R309) with what follows when a section takes
effect, the read-back acknowledgement (R324), and the awl's test (R289). -/

namespace Sys2Proof.Machine

/-- Answer a CONFIG request (R308). -/
def PortalState.answer (P : PortalState) (f : ConfigFrame) (status : Nat) (data : List Byte) : PortalState :=
  let g : ConfigFrame := { f with op := f.op ||| 0x80, status := BitVec.ofNat 8 status, data := data }
  P.modLink fun l => { l with fin := l.fin.send fun h => .config h g }

/-- A CONFIG request of the given OP arrives on a link that is up; none: it is discarded. -/
def PortalState.takeConfig (P : PortalState) (h : FrameHdr) (f : ConfigFrame) (op : Nat) : Option PortalState :=
  if P.por || !P.link.up || P.link.outcomeWaits || f.op.toNat != op then none
  else (P.link.fin.accept h).map fun e => P.modLink fun l => { l with fin := e }

/-- READ. -/
def PortalState.configRead (P : PortalState) (ck : Nat) (p : PortalId) (h : FrameHdr) (f : ConfigFrame) : PortalState :=
  match P.takeConfig h f 1 with
  | none => P
  | some P =>
    match P.read ck p f.addr.toNat with
    | some w => P.answer f 0 (leBytes 4 w.toNat)
    | none => P.answer f 1 (zeros 4)

/-- WRITE. The host die sets the stream register, which software can only read, by a WRITE to it with ARG 1 (R19, R244; log entry 204). -/
def PortalState.configWrite (P : PortalState) (ck : Nat) (p : PortalId) (h : FrameHdr) (f : ConfigFrame) : PortalState :=
  match P.takeConfig h f 2 with
  | none => P
  | some P =>
    if f.addr = 0x3000 ∧ f.arg = 1 then ({ P with afe := { P.afe with stream := rdw f.data 0 } }).answer f 0 []
    else
      let w := P.write ck p f.addr.toNat (rdw f.data 0) 0
      w.portal.answer f w.status []

/-! ### Unit download (R309) -/

/-- Bytes written into a buffer at an offset. -/
def putBytes (b : List Byte) (o : Nat) (d : List Byte) : List Byte := slice b 0 o ++ d ++ b.drop (o + d.length)

/-- DL_CHUNK: bytes of the unit that is arriving. -/
def PortalState.configChunk (P : PortalState) (h : FrameHdr) (f : ConfigFrame) : PortalState :=
  match P.takeConfig h f 3 with
  | none => P
  | some P =>
    let kind : Byte := BitVec.ofNat 8 (fget f.arg 31 24)
    let old := match P.chunk with
      | some (t, k, b) => if t = f.addr ∧ k = kind then b else []
      | none => []
    ({ P with chunk := some (f.addr, kind, putBytes old (fget f.arg 23 0) f.data) }).answer f 0 []

/-- Units with the units of one section replaced. -/
def replaceSection (us : List UnitData) (tag : Word) (new : List UnitData) : List UnitData :=
  us.takeWhile (fun u => u.tag != tag) ++ new ++ (us.dropWhile fun u => u.tag != tag).filter fun u => u.tag != tag

/-- New input records (R336, R339): the filters keep their state, and a report that is no longer checked clears. -/
def PortalState.adoptInputs (P Q : PortalState) (ck : Nat) : PortalState :=
  let fs := P.inputs.filters.mapIdx fun n x => if Q.inputs.restart then x else x.adopt (Q.inputCfg n.val) (P.inputCfg n.val)
  let keep : BitVec 16 := BitVec.ofNat 16 (bitsOf ((List.range 16).map fun n => (P.inputCfg n).owEn))
  let word := Q.signalWord 0
  { P with inputs := { P.inputs with filters := fs, ow := P.inputs.ow &&& keep } }.inputsChanged ck word false

/-- New curtain records (R365): a used port negotiates, any other is off. -/
def PortalState.startCurtains (P : PortalState) (ck : Nat) : PortalState :=
  ([0, 1] : List (Fin 2)).foldl (fun R k =>
    let r := R.curtainCfg k.val
    if r.used then R.modCur ck k ((R.curtains.at2 k).negotiate r) else R.modCur ck k {}) P

/-- The probe of a feedback port starts (R181). -/
def FbState.undetect (f : FbState) : FbState := { f with detect := 0, passed := false }

/-- A section takes effect: `Q` is the portal die before. -/
def PortalState.sectionEffect (P Q : PortalState) (ck : Nat) (tag : Word) : PortalState :=
  let P :=
    if tag = tagHARN then
      let R := P.loadHarness
      { R with harness := { R.harness with dest := Q.harness.dest } }.driveHarness ck (R.harness.chan1.destWord R.harnessCells 64)
    else if tag = tagIOMP then
      let R := ((P.adoptInputs Q ck).applyDemands ck).refreshSs.startCurtains ck
      (R.allFbs fun _ f => f.undetect).soRefreshAll ck
    else if tag = tagENVL then
      P.both fun R => R.modOb fun o => { o with edges := o.edges.map fun e => { e with base := none } }
    else P
  if tag = tagENVL || !P.hasEnvl then
    P.modOb fun o => { o with selftestOk := false, selftest := some .download }
  else P

/-- The portal die holds every unit that the image has for it. -/
def holdsAll (held : List UnitData) (want : List (Word × Byte × Word)) : Bool :=
  want.all fun u => held.any fun v => (v.tag, v.kind, v.crc) == u

/-- DL_END: the unit's CRC is checked, and the section takes effect once every unit of it that the image holds for this portal has
passed. The portal streams again once all its sections are downloaded (R244). A keeper expiry in the same clock wins (R319). -/
def PortalState.configEnd (P : PortalState) (ck : Nat) (p : PortalId) (h : FrameHdr) (f : ConfigFrame) (expiryNow : Bool) : PortalState :=
  if expiryNow then (if P.link.keeperArmed && !P.link.lowRate then P.keeperExpired ck p else P)
  else
    match P.takeConfig h f 4 with
    | none => P
    | some P =>
      let tag := f.addr
      let kind : Byte := BitVec.ofNat 8 (fget f.arg 31 24)
      let bytes := match P.chunk with
        | some (t, k, b) => if t = tag ∧ k = kind then slice b 0 (fget f.arg 23 0) else zeros (fget f.arg 23 0)
        | none => zeros (fget f.arg 23 0)
      let crc := crc32c bytes
      let P := { P with chunk := none }
      if crc != rdw f.data 0 then
        ({ P with incoming := P.incoming.filter fun u => !(u.tag == tag && u.kind == kind) }).answer f 3 []
      else
        let u : UnitData := { tag := tag, kind := kind, bytes := bytes, crc := crc, version := f.image.version }
        let inc := P.incoming.filter (fun u => !(u.tag == tag && u.kind == kind)) ++ [u]
        let all := f.image.kinds.all fun k => inc.any fun u => u.tag == tag && u.kind.toNat == k
        if !all then ({ P with incoming := inc }).answer f 0 []
        else
          let new := inc.filter fun u => u.tag == tag
          let held := replaceSection P.units tag new
          let R := { P with units := held, incoming := inc.filter (fun u => u.tag != tag), strc := f.image.strc,
                            afe := { P.afe with halted := P.afe.halted && !holdsAll held f.image.want } }
          (R.sectionEffect P ck tag).answer f 0 []

/-- READBACK_ACK (R324): after the first keeper service it completes the takeover; it restarts the stream (R312, R321). -/
def PortalState.configReadback (P : PortalState) (ck : Nat) (p : PortalId) (h : FrameHdr) (f : ConfigFrame) (expiryNow : Bool) : PortalState :=
  if expiryNow then (if P.link.keeperArmed && !P.link.lowRate then P.keeperExpired ck p else P)
  else
    match P.takeConfig h f 5 with
    | none => P
    | some P =>
      let go := { P with strc := f.image.strc, afe := { P.afe with halted := false } }
      match P.link.takeover with
      | .keeperDone =>
        if f.addr.setWidth 8 = P.link.readbackSeq then (go.modLink fun l => { l with takeover := .ready }).answer f 0 []
        else P.answer f 2 []
      | .ready => (go.modLink fun l => { l with timeStep := false }).answer f 0 []
      | _ => P.answer f 4 []

/-- TEST (R289, step 7): differences are injected into the comparisons of R208 in test mode; one that is not reported latches the lock-out
with cause MON_TEST. -/
def PortalState.configTest (P : PortalState) (ck : Nat) (h : FrameHdr) (f : ConfigFrame) (detected : Bool) : PortalState :=
  match P.takeConfig h f 6 with
  | none => P
  | some P => (if detected then P else P.lockOut ck 5).answer f 0 []

end Sys2Proof.Machine
end

