-- ==== Sys2Proof/Machine/Base.lean ====
section
/-! DEFINITION. Access to the parts of the whole state: a portal die, the host side of a link, the kernel's record of a portal, the free
values, device time. -/

namespace Sys2Proof.Machine

/-! ### Free values -/

/-- The next free value. -/
def State.free (s : State) : Nat := Config.free s.freeCtr

/-- One free value has been drawn. -/
def State.drawn (s : State) : State := { s with freeCtr := s.freeCtr + 1 }

/-! ### Portal dies -/

/-- Replace a portal die. -/
def State.setPortal (s : State) (p : PortalId) (P : PortalState) : State := { s with portals := s.portals.set p P }

/-- Something happens on portal die `p`: nothing while its logic is held in POR (R356, R361); what follows from it
comes with it (`followUp`), and STATE is sent where words 0 to 7 have changed (R305). -/
def State.onPortal (s : State) (p : PortalId) (f : PortalState → PortalState) : State :=
  let Q := s.portals.get p
  if Q.por then s else s.setPortal p (PortalState.reported Q ((f Q).followUp s.clock p) s.clock)

/-! ### Links and the kernel's portals -/

/-- Change the host side of a link. -/
def State.modLink (s : State) (p : PortalId) (f : HostLink → HostLink) : State := { s with links := s.links.set p (f (s.links.get p)) }

/-- The host side of a link. -/
def State.link (s : State) (p : PortalId) : HostLink := s.links.get p

/-- Change the kernel's record of a portal. -/
def State.modSeq (s : State) (p : PortalId) (f : SeqPortal → SeqPortal) : State :=
  { s with seq := { s.seq with portals := s.seq.portals.set p (f (s.seq.portals.get p)) } }

/-- The kernel's record of a portal. -/
def State.sp (s : State) (p : PortalId) : SeqPortal := s.seq.portals.get p

/-- The four portals. -/
def allPortals : List PortalId := [0, 1, 2, 3]

/-- Do something for every portal. -/
def State.eachPortal (s : State) (f : State → PortalId → State) : State := allPortals.foldl f s

/-! ### Time, image -/

/-- Device time, ns. -/
def State.now (s : State) : Nat := s.time.now.toNat

/-- STRC of the active image; empty without one. -/
def State.strc (s : State) : List Byte :=
  match s.harn.image with
  | some g => g.strc
  | none => []

/-- A portal is in use by the active image. -/
def State.inUse (s : State) (p : PortalId) : Bool :=
  match s.harn.image with
  | some g => g.inUse p.val
  | none => false

/-- What the check of a capture group takes from the active image. -/
def State.groupEnv (s : State) : GroupEnv := Sys2Proof.Machine.groupEnv s.strc

/-- What goes to a portal die with the units of a section of the active image. -/
def State.imageNote (s : State) (p : PortalId) (tag : Word) : ImageNote :=
  match s.harn.image with
  | some g => { version := BitVec.ofNat 16 (g.ver tag), kinds := g.portalKinds tag p.val, strc := g.strc,
                want := (g.portalUnits p.val).map fun u => (u.tag, u.kind, crc32c u.bytes) }
  | none => {}

/-- The units of the active image for a portal. -/
def State.imageUnits (s : State) (p : PortalId) : List UnitData :=
  match s.harn.image with
  | some g => g.portalUnits p.val
  | none => []

/-! ### Answers to commands that came as messages (R426 to R430) -/

/-- An answer is due; a refusal raises CMD_REF. -/
def State.answerCmd (s : State) (a : Answer) : State :=
  { s with nelz := { s.nelz with answers := s.nelz.answers ++ [a], evt := if a.reason = 0 then s.nelz.evt else raise s.nelz.evt 22 } }

/-- The state command that is being carried out for a message is answered. -/
def State.answerState (s : State) (reason : Nat) : State :=
  match s.nelz.stateAnswer with
  | none => s
  | some (src, q) =>
    ({ s with nelz := { s.nelz with stateAnswer := none } }).answerCmd { src := src, msg := 8, seq := q, reason := reason, portal := 0 }

end Sys2Proof.Machine
end

