-- ==== Sys2Proof/Machine/Stage.lean ====
section
/-! DEFINITION. The change log (R109, R110) and the staging of archive records (R443 to R449). -/

namespace Sys2Proof.Machine

/-! ### Little fields of records -/

/-- A 16-bit number limited to its range, as bytes. -/
def le16sat (n : Nat) : List Byte := leBytes 2 (min n 0xFFFF)

/-- A signed number limited to 16 bits, as bytes. -/
def le16int (i : Int) : List Byte := leBytes 2 (sat16 i)

/-! ### Staging of records -/

/-- The record as it stands in the archive: INDEX and PREV_CRC filled in, and its CRC (R443). -/
def numberRecord (body : List Byte) (index : Nat) (prev : Word) : List Byte :=
  let b := slice body 0 4 ++ leBytes 4 index ++ slice body 8 108 ++ leBytes 4 prev.toNat ++ zeros 4
  b ++ leBytes 4 (crc32c b).toNat

/-- PREV_CRC and CRC are formed, in order, up to the first record that is held (R443, R482). -/
def ArchState.form (a : ArchState) : ArchState :=
  let go := fun (x : List Staged × Nat × Word × Bool) (r : Staged) =>
    if r.index < x.2.1 ∨ x.2.2.2 then (x.1 ++ [r], x.2)
    else if r.held then (x.1 ++ [r], x.2.1, x.2.2.1, true)
    else
      let b := numberRecord r.bytes r.index x.2.2.1
      (x.1 ++ [{ r with bytes := b }], r.index + 1, rdw b 124, false)
  let x := a.recs.foldl go ([], a.formed, a.prevCrc, false)
  { a with recs := x.1, formed := x.2.1, prevCrc := x.2.2.1 }

/-- A complete stripe that is not yet written: the archive writes it (R453). -/
def ArchState.stripeDue (a : ArchState) (log : Bool) : Bool :=
  if log then !a.ahead.snd && decide (a.sb.logDurable + 256 ≤ a.logNext) else !a.ahead.fst && decide (a.sb.durable + 64 ≤ a.formed)

/-- Put an operation behind those that wait, unless it waits already; an idle interface takes it at once. -/
def ArchState.enqueue (a : ArchState) (o : EmmcOp) : ArchState :=
  if a.media != 1 then a
  else if a.op == .idle then { a with op := o }
  else if a.opQueue.contains o then a else { a with opQueue := a.opQueue ++ [o] }

/-- With a complete stripe staged its write is due. -/
def ArchState.checkStripe (a : ArchState) (log : Bool) : ArchState :=
  if a.stripeDue log && a.op != .stripe log then a.enqueue (.stripe log) else a

/-- Room in staging (R447): the oldest durable record goes, and where none is durable the oldest is lost. -/
def ArchState.room (a : ArchState) : ArchState :=
  if a.recs.length < 2048 then a
  else
    let wanted := a.recs.takeWhile fun r => !r.durable
    match a.recs.drop wanted.length with
    | _ :: rest => { a with recs := wanted ++ rest }
    | [] => { a with recs := a.recs.drop 1, lost := satInc a.lost 0xFFFFFFFF, evt := raise a.evt 28 }

/-- Stage a record, held or not: 128 bytes in which INDEX is filled in here, and PREV_CRC and CRC as soon as they can be formed. -/
def ArchState.stageHeld (a : ArchState) (body : List Byte) (held : Bool) : ArchState :=
  let r : Staged := { index := a.next, bytes := slice body 0 4 ++ leBytes 4 a.next ++ body.drop 8, durable := false, held := held }
  { a.room with recs := a.room.recs ++ [r], next := a.next + 1 }.form.checkStripe false

/-- Stage a record that waits for nothing. -/
def ArchState.stage (a : ArchState) (body : List Byte) : ArchState := a.stageHeld body false

/-- Number of staged records that are not durable. -/
def ArchState.staged (a : ArchState) : Nat := a.recs.countP fun r => !r.durable

/-- HARN_SERIAL of the active image. -/
def State.serial (s : State) : Word :=
  match s.harn.image with
  | some g => rdw g.header 16
  | none => 0

/-- The first 16 bytes of a record, INDEX left open. -/
def recordHead (kind portal flags : Nat) (cycle serial : Word) : List Byte :=
  leBytes 1 kind ++ leBytes 1 1 ++ leBytes 1 portal ++ leBytes 1 flags ++ zeros 4 ++ leBytes 4 cycle.toNat ++ leBytes 4 serial.toNat

/-- Stage a record of the state. -/
def State.stageRecord (s : State) (body : List Byte) : State := { s with arch := s.arch.stage body }

/-- An archive event record (R446): 1 initialisation, 2 format. -/
def State.archEvent (s : State) (event : Nat) : State :=
  s.stageRecord (recordHead 3 0xFF 0 0 s.serial ++ leBytes 8 s.now ++ leBytes 1 event ++ zeros 3 ++ wordBytes s.psm.startUp.toList ++ zeros 72)

/-! ### The change log -/

/-- Tag word of four letters. -/
def tagACTV : Word := 0x56544341

/-- Tag FLWR. -/
def tagFLWR : Word := 0x52574C46

/-- Tag MNTN. -/
def tagMNTN : Word := 0x4E544E4D

/-- Tag PASS. -/
def tagPASS : Word := 0x53534150

/-- Tag KEYP. -/
def tagKEYP : Word := 0x5059454B

/-- Tag KREV. -/
def tagKREV : Word := 0x5645524B

/-- Tag SEAL. -/
def tagSEAL : Word := 0x4C414553

/-- The 32 bytes of an entry (R109). -/
def LogEntry.bytes (e : LogEntry) : List Byte :=
  let b := leBytes 8 e.time.toNat ++ leBytes 4 e.tool.toNat ++ leBytes 4 e.tag.toNat ++ leBytes 4 e.oldCrc.toNat ++
    leBytes 4 e.newCrc.toNat ++ leBytes 2 e.seq.toNat ++ [e.result, e.source]
  b ++ leBytes 4 (crc32c b).toNat

/-- Code of a channel in registers and log entries. -/
def chanCode : Channel → Nat
  | .host => 1
  | .canA => 2
  | .canB => 3

/-- SEC_TOOLID of a source code; 0 for the part itself. -/
def SecState.tool (x : SecState) (src : Nat) : Word :=
  match src with
  | 1 => x.toolId.x0
  | 2 => x.toolId.x1
  | 3 => x.toolId.x2
  | _ => 0

/-- Write a change-log entry: the ring holds 1,024, and one that is overwritten before it is mirrored is lost (R109). -/
def State.logEntry (s : State) (tool tag oldCrc newCrc : Word) (result source : Nat) : State :=
  let x := s.sec
  let e : LogEntry := { time := s.time.now, tool := tool, tag := tag, oldCrc := oldCrc, newCrc := newCrc, seq := x.nextSeq,
                        result := BitVec.ofNat 8 result, source := BitVec.ofNat 8 source }
  let lost := decide (1024 ≤ x.log.length) && decide (1024 ≤ x.unmirrored)
  let y := { x with log := (e :: x.log).take 1024, nextSeq := x.nextSeq + 1, unmirrored := min (x.unmirrored + 1) 1024,
                    logLost := if lost then satInc x.logLost 0xFFFFFFFF else x.logLost }
  let a := s.arch
  let l := a.logs ++ [({ index := a.logNext, bytes := e.bytes, durable := false } : Staged)]
  let b := { a with logs := l.drop (l.length - 1280), logNext := a.logNext + 1 }
  { s with sec := y, arch := b.checkStripe true }

/-- An entry with the tool identity of its source. -/
def State.logFrom (s : State) (tag oldCrc newCrc : Word) (result source : Nat) : State :=
  s.logEntry (s.sec.tool source) tag oldCrc newCrc result source

end Sys2Proof.Machine
end

