-- ==== Sys2Proof/Machine/Archive.lean ====
section
/-! DEFINITION. The archive on the eMMC (R450 to R461): the outer code over a stripe, the three regions, journals and superblock,
initialisation, the scrub, traces, and the ARCH commands. -/

namespace Sys2Proof.Machine

/-! ### The outer code (R456) -/

/-- A symbol times α in GF(2^8) with polynomial 0x11D. -/
def gfDbl (x : Byte) : Byte := if x.getLsbD 7 then (x <<< 1) ^^^ 0x1D else x <<< 1

/-- Product of two symbols, by the bits of the second. -/
def gfMulGo : Nat → Byte → Byte → Byte
  | 0, _, _ => 0
  | n + 1, x, y => (if y.getLsbD 0 then x else 0) ^^^ gfMulGo n (gfDbl x) (y >>> 1)

/-- Product in GF(2^8). -/
def gfMul (x y : Byte) : Byte := gfMulGo 8 x y

/-- α to a power. -/
def gfPow : Nat → Byte
  | 0 => 1
  | n + 1 => gfDbl (gfPow n)

/-- Inverse of a non-zero symbol: its power 254. -/
def gfInv (x : Byte) : Byte :=
  let s := fun (y : Byte) => gfMul y y
  let x2 := s x
  let x4 := s x2
  let x8 := s x4
  let x16 := s x8
  let x32 := s x16
  let x64 := s x32
  gfMul (gfMul (gfMul x2 x4) (gfMul x8 x16)) (gfMul (gfMul x32 x64) (s x64))

/-- Symbol-wise sum of two blocks. -/
def blkAdd (a b : List Byte) : List Byte := List.zipWith (fun x y => x ^^^ y) a b

/-- A block times a symbol. -/
def blkMul (k : Byte) (a : List Byte) : List Byte := a.map fun x => gfMul k x

/-- S0: the sum of the blocks. -/
def syn0 (l : List (List Byte)) : List Byte := l.foldl blkAdd (zeros 512)

/-- S1: the sum of α^k times block k. -/
def syn1 (l : List (List Byte)) : List Byte := l.foldr (fun b acc => blkAdd b (acc.map gfDbl)) (zeros 512)

/-- The stripe of sixteen data blocks: the blocks with P and Q. -/
def encodeStripe (data : List (List Byte)) : List (List Byte) :=
  let a := syn0 data
  let b := syn1 data
  let q := blkMul (gfInv (gfPow 16 ^^^ gfPow 17)) (blkAdd b (blkMul (gfPow 16) a))
  data ++ [blkAdd a q, q]

/-- What decoding a stripe comes to. -/
inductive StripeResult where
  | good
  | corrected (blocks : List Nat)
  | uncorrectable
  deriving DecidableEq, Repr

/-- Decode a stripe with some blocks flagged as erasures. -/
def decodeStripe (l : List (List Byte)) (erased : List Nat) : List (List Byte) × StripeResult :=
  let s0 := syn0 l
  let s1 := syn1 l
  let clean := s0.all (· == 0) && s1.all (· == 0)
  let fix := fun (k : Nat) (e : List Byte) (m : List (List Byte)) => modAt m k fun b => blkAdd b e
  match erased with
  | [] =>
    if clean then (l, .good)
    else
      match (List.range 18).find? fun k => blkMul (gfPow k) s0 == s1 with
      | some k => (fix k s0 l, .corrected [k])
      | none => (l, .uncorrectable)
  | [e] => (fix e s0 l, .corrected [e])
  | [e, f] =>
    let y := blkMul (gfInv (gfPow e ^^^ gfPow f)) (blkAdd s1 (blkMul (gfPow e) s0))
    (fix e (blkAdd s0 y) (fix f y l), .corrected [e, f])
  | _ => (l, .uncorrectable)

/-! ### Regions (R452) -/

/-- The three regions of stripes. -/
inductive StripeRegion where
  | records
  | logs
  | traces
  deriving DecidableEq, Repr

/-- Stripes of the record region. -/
def ArchState.recStripes (a : ArchState) : Nat := a.sb.recordMib * 2048 / 18

/-- First sector of the trace region. -/
def ArchState.traceBase (a : ArchState) : Nat := 139264 + a.sb.recordMib * 2048

/-- Stripes of the trace region. -/
def ArchState.traceStripes (a : ArchState) : Nat := (a.cap - a.traceBase) / 18

/-- Byte address of a stripe; the regions are rings. -/
def ArchState.stripeAt (a : ArchState) (r : StripeRegion) (n : Nat) : Nat :=
  match r with
  | .records => 512 * (139264 + 18 * (n % max 1 a.recStripes))
  | .logs => 512 * (8192 + 18 * (n % 7281))
  | .traces => 512 * (a.traceBase + 18 * (n % max 1 a.traceStripes))

/-- The 18 blocks of a stripe as they stand on the medium. -/
def ArchState.readStripe (a : ArchState) (r : StripeRegion) (n : Nat) : List (List Byte) :=
  let b := memRead 0 9216 (a.stripeAt r n) a.medium
  (List.range 18).map fun k => (b.drop (512 * k)).take 512

/-- Data of up to 8,192 bytes as sixteen blocks. -/
def dataBlocks (d : List Byte) : List (List Byte) := (List.range 16).map fun k => slice d (512 * k) 512

/-- Write bytes, whole sectors of them, from a byte address on: what the eMMC reported of those sectors is over. -/
def ArchState.put (a : ArchState) (at_ : Nat) (b : List Byte) : ArchState :=
  { a with medium := memPut 0 (memErase a.medium at_ b.length) at_ b,
           unread := a.unread.filter fun k => decide (k < at_ / 512) || decide ((at_ + b.length + 511) / 512 ≤ k) }

/-- Write a stripe in place: data blocks, P and Q. -/
def ArchState.writeStripe (a : ArchState) (r : StripeRegion) (n : Nat) (d : List Byte) : ArchState :=
  a.put (a.stripeAt r n) (encodeStripe (dataBlocks d)).flatten

/-- Blocks of a stripe that the eMMC reports as uncorrectable reads. -/
def ArchState.reported (a : ArchState) (r : StripeRegion) (n : Nat) : List Nat :=
  (List.range 18).filter fun k => a.unread.contains (a.stripeAt r n / 512 + k)

/-- A record's or entry's own CRC: the last word over the bytes before it. -/
def ownCrcOk (b : List Byte) : Bool := crc32c (b.take (b.length - 4)) == rdw b (b.length - 4)

/-- Data blocks in which a record or log entry fails its CRC (R456). -/
def badBlocks (r : StripeRegion) (l : List (List Byte)) : List Nat :=
  let size := match r with
    | .records => 128
    | .logs => 32
    | .traces => 0
  if size = 0 then []
  else (List.range 16).filter fun k =>
    !(List.range (512 / size)).all fun i => ownCrcOk (slice (l.getD k []) (size * i) size)

/-- Erasures of a stripe: those the eMMC reports and those whose contents fail their CRC. -/
def erasuresOf (r : StripeRegion) (l : List (List Byte)) (reported : List Nat) : List Nat :=
  let bad := badBlocks r l
  (List.range 18).filter fun k => reported.contains k || bad.contains k

/-- A stripe as it is delivered: data, the number of blocks corrected, whether it is uncorrectable. -/
def ArchState.loadStripe (a : ArchState) (r : StripeRegion) (n : Nat) : List Byte × Nat × Bool :=
  let l := a.readStripe r n
  match decodeStripe l (erasuresOf r l (a.reported r n)) with
  | (m, .good) => ((m.take 16).flatten, 0, false)
  | (m, .corrected ks) => ((m.take 16).flatten, ks.length, false)
  | (m, .uncorrectable) => ((m.take 16).flatten, 0, true)

/-- What a read of a stripe reports (R456): CORRECTED, or UNCORR with one more stripe in ARCH_ECC. The repaired block is not rewritten, so that
CORR_BLOCKS stays with the scrub (R457). -/
def ArchState.noteRead (a : ArchState) (corrected : Nat) (lost : Bool) : ArchState :=
  let b := if corrected = 0 then a else { a with evt := raise a.evt 30 }
  if lost then { b with evt := raise b.evt 29, ecc := fInc b.ecc 15 0 } else b

/-! ### Writes (R453) -/

/-- Entries of a stripe and their size. -/
def ringShape (log : Bool) : Nat × Nat := if log then (256, 32) else (64, 128)

/-- The staged records or log entries. -/
def ArchState.ring (a : ArchState) (log : Bool) : List Staged := if log then a.logs else a.recs

/-- The number up to which a region's items can be written: of the records those whose CRC is formed (R482). -/
def ArchState.ringNext (a : ArchState) (log : Bool) : Nat := if log then a.logNext else a.formed

/-- Something that can be written is not durable. -/
def ArchState.ringDue (a : ArchState) (log : Bool) : Bool := (a.ring log).any fun r => !r.durable && decide (r.index < a.ringNext log)

/-- Replace the staged records or entries of a region. -/
def ArchState.setRing (a : ArchState) (log : Bool) (l : List Staged) : ArchState := if log then { a with logs := l } else { a with recs := l }

/-- The bytes of stripe `n` as staged, an item that is not staged reading 0. -/
def ArchState.stripeBytes (a : ArchState) (log : Bool) (n count : Nat) : List Byte :=
  let k := ringShape log
  let l := a.ring log
  (List.range count).flatMap fun i =>
    match l.find? fun r => r.index == n * k.1 + i with
    | some r => r.bytes
    | none => zeros k.2

/-- Items with numbers in a range are durable. -/
def ArchState.markDurable (a : ArchState) (log : Bool) (lo hi : Nat) : ArchState :=
  a.setRing log ((a.ring log).map fun r => if lo ≤ r.index ∧ r.index < hi then { r with durable := true } else r)

/-! #### Tail journals and superblock as bytes

The manual gives their items and not their layout: DESIGN CHOICE (log 258). -/

/-- Byte address of a tail-journal slot. -/
def slotAddr (log second : Bool) : Nat := 512 * (64 + 64 * b2n log + 32 * b2n second)

/-- A tail-journal slot: the header sector, then the sixteen data blocks of the stripe. -/
def Journal.bytes (j : Journal) : List Byte :=
  let d := slice j.data 0 8192
  leBytes 4 j.stripe ++ leBytes 4 j.count ++ leBytes 4 j.gen ++ leBytes 4 (crc32c d).toNat ++ zeros 496 ++ d

/-- The tail-journal slot that stands in the medium; none where the eMMC cannot read it or the CRC of its data does not match. -/
def ArchState.journalAt (a : ArchState) (log second : Bool) : Option Journal :=
  let at_ := slotAddr log second
  let h := memRead 0 16 at_ a.medium
  let d := memRead 0 8192 (at_ + 512) a.medium
  if (List.range 17).any fun k => a.unread.contains (at_ / 512 + k) then none
  else if crc32c d = rdw h 12 then some { stripe := rd32 h 0, count := rd32 h 4, gen := rd32 h 8, data := d } else none

/-- Which of two copies, by their generations, is the older one and is written next: the second one. -/
def olderIsSecond (fst snd : Option Nat) : Bool :=
  match fst, snd with
  | none, _ => false
  | some _, none => true
  | some x, some y => decide (y ≤ x)

/-- The newest valid journal slot of a region. -/
def ArchState.journal (a : ArchState) (log : Bool) : Option Journal :=
  match a.journalAt log false, a.journalAt log true with
  | some x, some y => if x.gen < y.gen then some y else some x
  | some x, none => some x
  | none, y => y

/-- The journal write of a region completes: the older slot holds the open stripe, whose items are durable. -/
def ArchState.journalDone (a : ArchState) (log : Bool) : ArchState :=
  let k := ringShape log
  let n := a.ringNext log
  let s := n / k.1
  let gen := match a.journal log with
    | some x => x.gen + 1
    | none => 1
  let j : Journal := { stripe := s, count := n % k.1, gen := gen, data := a.stripeBytes log s (n % k.1) }
  let second := olderIsSecond ((a.journalAt log false).map Journal.gen) ((a.journalAt log true).map Journal.gen)
  (a.put (slotAddr log second) j.bytes).markDurable log (s * k.1) n

/-- A stripe write completes: the stripe is in place, and the superblock that follows will count it. -/
def ArchState.stripeDone (a : ArchState) (log : Bool) : ArchState :=
  if !a.stripeDue log then a
  else
    let k := ringShape log
    let s := (if log then a.sb.logDurable else a.sb.durable) / k.1
    { a.writeStripe (if log then .logs else .records) s (a.stripeBytes log s k.1) with
      ahead := if log then { a.ahead with snd := true } else { a.ahead with fst := true } }

/-- The superblock as it is written now: it counts the stripes written since the last. -/
def State.newSuperblock (s : State) : Superblock :=
  let a := s.arch
  { a.sb with gen := a.sb.gen + 1, uid := s.fuse.uid, nextIndex := a.next, cycles := s.seq.portals.map fun q => q.nextCycle,
              durable := a.sb.durable + 64 * b2n a.ahead.fst, logDurable := a.sb.logDurable + 256 * b2n a.ahead.snd,
              logHead := a.logNext, logSeq := s.sec.nextSeq }

/-- A superblock copy: one sector, which ends in its CRC-32C. -/
def Superblock.bytes (b : Superblock) : List Byte :=
  let h := [0x54, 0x4C, 0x58, 0x41] ++ leBytes 4 1 ++ leBytes 4 b.gen ++ leBytes 8 b.uid.toNat ++ leBytes 4 b.recordMib ++ leBytes 4 b.nextIndex ++
    leBytes 4 b.durable ++ wordBytes b.cycles.toList ++ leBytes 4 b.logHead ++ leBytes 4 b.logDurable ++ leBytes 4 b.logSeq.toNat ++
    leBytes 4 b.traceHead ++ leBytes 4 b.traceNext ++ leBytes 4 b.scrubPos ++ leBytes 4 b.scrubPasses ++ zeros 432
  h ++ leBytes 4 (crc32c h).toNat

/-- A superblock copy read; none where its magic, its format version or its CRC-32C is wrong. -/
def readSuperblock (b : List Byte) : Option Superblock :=
  if b.take 4 = [0x54, 0x4C, 0x58, 0x41] ∧ rd32 b 4 = 1 ∧ ownCrcOk b then
    some { gen := rd32 b 8, uid := BitVec.ofNat 64 (rd64 b 12), recordMib := rd32 b 20, nextIndex := rd32 b 24, durable := rd32 b 28,
           cycles := ⟨rdw b 32, rdw b 36, rdw b 40, rdw b 44⟩, logHead := rd32 b 48, logDurable := rd32 b 52,
           logSeq := BitVec.ofNat 16 (rd32 b 56), traceHead := rd32 b 60, traceNext := rd32 b 64, scrubPos := rd32 b 68, scrubPasses := rd32 b 72 }
  else none

/-- The superblock copy in a sector, 0 or 1; none where it is not valid or cannot be read. -/
def ArchState.superAt (a : ArchState) (sector : Nat) : Option Superblock :=
  if a.unread.contains sector then none else readSuperblock (memRead 0 512 (512 * sector) a.medium)

/-- Write a superblock over the older copy: it is in force, and the stripes that it counts are durable. -/
def ArchState.putSuperblock (a : ArchState) (b : Superblock) : ArchState :=
  let second := olderIsSecond ((a.superAt 0).map Superblock.gen) ((a.superAt 1).map Superblock.gen)
  let c := ((a.put (512 * b2n second) b.bytes).markDurable false a.sb.durable b.durable).markDurable true a.sb.logDurable b.logDurable
  { c with sb := b, ahead := .all false, wrapped := a.wrapped || decide (a.recStripes * 64 < b.durable),
           logs := c.logs.filter fun r => decide (b.logDurable ≤ r.index) }

/-- Change-log entries not yet mirrored (SEC_LOGSTAT.UNMIRRORED). -/
def State.countMirror (s : State) : State :=
  { s with sec := { s.sec with unmirrored := min 1024 (s.arch.logs.countP fun r => !r.durable) } }

/-! ### Traces (R455) -/

/-- The bytes of an archived segment: its trace header, then its bytes. -/
def traceStream (index : Nat) (ident : Word) (ttrig : Nat) (seg : List Byte) : List Byte :=
  let h := leBytes 4 0x53584C54 ++ leBytes 4 index ++ leBytes 4 ident.toNat ++ leBytes 4 seg.length ++ leBytes 8 ttrig ++ zeros 36
  h ++ leBytes 4 (crc32c h).toNat ++ seg

/-- Stripes that two runs of a ring share. -/
def ringOverlap (n a la b lb : Nat) : Bool :=
  (List.range la).any fun i => (List.range lb).any fun j => (a + i) % n == (b + j) % n

/-- The copy of a trace segment completes. -/
def State.traceDone (s : State) : State :=
  match s.arch.traceJob with
  | none => s
  | some (g, slot) =>
    let a := { s.arch with traceJob := none }
    match (s.acq.groups.get g).segAt slot with
    | none => { s with arch := a }
    | some x =>
      let seg := x.bytes
      let id := segId g slot x.seq
      let st := traceStream a.sb.traceNext id x.ttrig seg
      let n := (st.length + 8191) / 8192
      let b := (List.range n).foldl (fun (b : ArchState) i => b.writeStripe .traces (a.sb.traceHead + i) (slice st (8192 * i) 8192)) a
      let e : TraceEntry := { index := a.sb.traceNext, stripe := a.sb.traceHead, stripes := n, ident := id, bytes := seg.length, ttrig := x.ttrig }
      let keep := b.traces.filter fun t => !ringOverlap (max 1 a.traceStripes) t.stripe t.stripes e.stripe n
      { s with acq := s.acq.copied g slot,
               arch := { b with traces := keep ++ [e], sb := { b.sb with traceNext := e.index + 1, traceHead := e.stripe + n } } }

/-- A closed segment of a group with ARCH set is handed to the copy slot. -/
def State.traceCopy (s : State) (g : Fin 16) (slot : Nat) : State :=
  let gr := s.acq.groups.get g
  match gr.segAt slot with
  | none => s
  | some x =>
    if s.arch.media = 1 ∧ gr.arch ∧ x.archDue ∧ s.arch.traceJob = none ∧ 0 < s.arch.traceStripes then
      { s with arch := { s.arch with traceJob := some (g, slot) }.enqueue .trace }
    else s

/-- The next ARCH segment that the archive has not copied yet goes to the copy slot. -/
def State.nextTrace (s : State) : State :=
  match s.acq.nextDue with
  | some (g, slot) => s.traceCopy g slot
  | none => s

/-- A copy completes while the part is on its way to DORMANT or OFF: the next segment follows, and the superblock after the last (R44, R250). -/
def State.traceFlush (s : State) : State :=
  match s.psm.busy with
  | some (.toDormant _ _) | some (.toOff _ _) => if s.acq.nextDue.isSome then s.nextTrace else { s with arch := s.arch.enqueue .superblock }
  | _ => s

/-! ### The policy (R459) -/

/-- RECD's policy record. -/
structure RecdPolicy where
  recordMib : Nat
  scrubDays : Nat
  flushMs : Nat
  traceGroups : Nat
  autoFormat : Bool
  deriving DecidableEq, Repr

/-- The policy of the active image; the defaults where RECD is absent. -/
def State.policy (s : State) : RecdPolicy :=
  match s.harn.image with
  | some g =>
    if g.has tagRECD then
      let b := g.unitBytes tagRECD 0 1
      { recordMib := rd16 b 0, scrubDays := rd16 b 2, flushMs := rd16 b 4, traceGroups := if g.ver tagRECD = 1 then 0 else rd16 b 6,
        autoFormat := rd8 b 8 % 2 == 1 }
    else ⟨5120, 30, 1000, 0, true⟩
  | none => ⟨5120, 30, 1000, 0, true⟩

/-! ### Numbers given at initialisation (R448) -/

/-- A record numbered anew, CYCLE moved by its portal's offset. -/
def Staged.renumbered (r : Staged) (off : Four Word) (i : Nat) : Staged :=
  let p := rd8 r.bytes 2
  let cyc := rdw r.bytes 8 + (if h : rd8 r.bytes 0 = 1 ∧ p < 4 then off.get ⟨p, h.2⟩ else 0)
  { r with index := i, bytes := slice r.bytes 0 4 ++ leBytes 4 i ++ leBytes 4 cyc.toNat ++ r.bytes.drop 12 }

/-- Staged records renumbered after an index, whose predecessor has the given CRC. -/
def ArchState.renumber (a : ArchState) (base : Nat) (prev : Word) (off : Four Word) : ArchState :=
  let l := (a.recs.filter fun r => !r.durable).mapIdx fun i r => r.renumbered off (base + i)
  { a with recs := l, next := base + l.length, formed := base, prevCrc := prev }.form

/-- Log entries renumbered, SEQ moved by an offset. -/
def ArchState.renumberLogs (a : ArchState) (base : Nat) (off : Half) : ArchState :=
  let one := fun (i : Nat) (r : Staged) =>
    let b := slice r.bytes 0 24 ++ leBytes 2 ((BitVec.ofNat 16 (rd16 r.bytes 24) : Half) + off).toNat ++ slice r.bytes 26 2
    ({ r with index := base + i, bytes := b ++ leBytes 4 (crc32c b).toNat } : Staged)
  let l := (a.logs.filter fun r => !r.durable).mapIdx one
  { a with logs := l, logNext := base + l.length }

/-- Numbers of the kernel's cycles and of the log moved by their offsets; the cycles that the tally island knows move alike, so that an end mark finds
its record (R482; log 263). -/
def State.moveNumbers (s : State) (off : Four Word) (seqOff : Half) : State :=
  let moved := fun (p : PortalId) (w : Window) => ({ w with cycle := w.cycle + off.get p } : Window)
  let q := s.seq.portals.mapIdx fun p (x : SeqPortal) =>
    ({ x with nextCycle := x.nextCycle + off.get p, cycle := x.cycle.map fun c => { c with number := c.number + off.get p } } : SeqPortal)
  let x := s.sec
  { s with seq := { s.seq with portals := q },
           sec := { x with nextSeq := x.nextSeq + seqOff, log := x.log.map fun e => { e with seq := e.seq + seqOff } },
           tally := { s.tally with marks := s.tally.marks.map fun m => { m with cycle := m.cycle + off.get m.portal },
                                   windows := s.tally.windows.mapIdx fun p w => w.map (moved p),
                                   ending := s.tally.ending.mapIdx fun p l => l.map (moved p),
                                   closing := s.tally.closing.mapIdx fun p l => l.map (moved p) } }

/-- The items of a journal slot. -/
def Journal.items (j : Journal) (log : Bool) : List Staged :=
  let k := ringShape log
  (List.range j.count).map fun i => { index := j.stripe * k.1 + i, bytes := slice j.data (k.2 * i) k.2, durable := true }

/-- Numbers are taken from the superblock in force and from the journals, which are reloaded; the stripes at the heads are rewritten from
staging (R448, R453). -/
def State.takeNumbers (s : State) : State :=
  let a := s.arch
  let jr := match a.journal false with
    | some j => if a.sb.durable ≤ j.stripe * 64 then j.items false else []
    | none => []
  let jl := match a.journal true with
    | some j => if a.sb.logDurable ≤ j.stripe * 256 then j.items true else []
    | none => []
  let endOf := fun (l : List Staged) (d : Nat) => match l.getLast? with
    | some r => max d (r.index + 1)
    | none => d
  let cyc := a.sb.cycles.mapIdx fun p (w : Word) => jr.foldl (fun (w : Word) (r : Staged) =>
    if rd8 r.bytes 0 = 1 ∧ rd8 r.bytes 2 = p.val ∧ w.toNat ≤ rd32 r.bytes 8 then rdw r.bytes 8 + 1 else w) w
  let seqBase := match jl.getLast? with
    | some r => if a.sb.logHead ≤ r.index + 1 then (BitVec.ofNat 16 (rd16 r.bytes 24 + 1) : Half) else a.sb.logSeq
    | none => a.sb.logSeq
  let base := endOf jr a.sb.nextIndex
  let logBase := endOf jl a.sb.logHead
  let prev := match jr.getLast? with
    | some r => rdw r.bytes 124
    | none => if base = 0 then 0 else rdw (slice (a.loadStripe .records ((base - 1) / 64)).1 (128 * ((base - 1) % 64)) 128) 124
  let b := (a.renumber base prev cyc).renumberLogs logBase seqBase
  let c := { b with recs := jr ++ b.recs, logs := jl ++ b.logs, numbered := true }
  let d := if jr.isEmpty then c else c.writeStripe .records (base / 64) (c.stripeBytes false (base / 64) (base % 64))
  let e := if jl.isEmpty then d else d.writeStripe .logs (logBase / 256) (d.stripeBytes true (logBase / 256) (logBase % 256))
  ({ s with arch := e }.moveNumbers cyc seqBase)

/-! ### Initialisation and format (R450, R460) -/

/-- Bytes of the medium in a range are all 0x00 or all 0xFF. -/
def ArchState.blank (a : ArchState) (at_ n : Nat) : Bool :=
  let l := memRead 0 n at_ a.medium
  l.all (· == 0) || l.all (· == 0xFF)

/-- Both superblock sectors and the first stripe of each region are blank. -/
def ArchState.allBlank (a : ArchState) (mib : Nat) : Bool :=
  a.blank 0 1024 && a.blank (512 * 139264) 9216 && a.blank (512 * 8192) 9216 && a.blank (512 * (139264 + mib * 2048)) 9216

/-- The superblock that a format writes. -/
def State.freshSuperblock (s : State) : Superblock :=
  { gen := 1, uid := s.fuse.uid, recordMib := s.policy.recordMib, cycles := s.seq.portals.map fun q => q.nextCycle, logSeq := s.sec.nextSeq }

/-- Format the medium: empty regions, a fresh superblock, the records that are not durable numbered from 0. -/
def State.format (s : State) : State :=
  let b := s.freshSuperblock
  let a := { s.arch with medium := memPut 0 [] 0 b.bytes, unread := [], traces := [], sb := b, media := 1, ahead := .all false,
                         foreign := false, wrapped := false, evt := raise s.arch.evt 27, numbered := true, scrubDone := 0, scrubbing := false,
                         op := .idle, opQueue := [], traceJob := none }
  { s with arch := (((a.renumber 0 0 (.all 0)).renumberLogs 0 0).checkStripe false).checkStripe true }

/-- The superblock in force: the valid copy of the higher generation. -/
def ArchState.superblock (a : ArchState) : Option Superblock :=
  match a.superAt 0, a.superAt 1 with
  | some x, some y => some (if x.gen < y.gen then y else x)
  | some x, none => some x
  | none, y => y

/-- Initialisation starts, or is repeated: the operation under way and those that wait are taken up after it. -/
def ArchState.startInit (a : ArchState) : ArchState :=
  let again := match a.op with
    | .idle | .init => a.opQueue
    | o => o :: a.opQueue
  { a with op := .init, opQueue := again, media := 0, fails := 0, ahead := .all false }

/-- A command that waited for the interface ends. -/
def ArchState.cmdDone (a : ArchState) (ok : Bool) : ArchState :=
  if wbit a.cmdstat 31 then
    let w := putBit a.cmdstat 31 false
    { a with cmdstat := if ok then fput (raise w 30) 3 0 0 else fput (raise w 29) 3 0 4 }
  else a

/-- The medium cannot be used (R449): nothing waits for it any more, and a command that did has failed. -/
def ArchState.noMedium (a : ArchState) (media : Nat) : ArchState :=
  { a with media := media, op := .idle, opQueue := [], traceJob := none, retried := false }.cmdDone false

/-- R451 gives the medium up. -/
def ArchState.giveUp (a : ArchState) : ArchState := { a with fails := 0, evt := raise a.evt 31 }.noMedium 4

/-- The widest bus width that passes its test in a mode; 0 where the mode cannot be used. -/
def busWidth (m : EmmcMode) (tuning : Bool) : Nat :=
  if !m.supported || (tuning && !m.tuned) then 0 else if m.bus8 then 8 else if m.bus4 then 4 else if m.bus1 then 1 else 0

/-- The mode and width that R450 selects: HS200, HS SDR, backward-compatible; 0 where none passes. -/
def modeOf (i : EmmcInfo) : Nat × Nat :=
  if busWidth i.hs200 true ≠ 0 then (3, busWidth i.hs200 true)
  else if busWidth i.hs false ≠ 0 then (2, busWidth i.hs false)
  else if busWidth i.legacy false ≠ 0 then (1, busWidth i.legacy false)
  else (0, 0)

/-- A medium is ready: what waited for it is taken up, and a REINIT is done; a FLUSH that still waits ends with its own writes. -/
def ArchState.ready (a : ArchState) : ArchState :=
  let b := if a.opQueue.contains .flushed then a else a.cmdDone true
  match b.opQueue with
  | [] => b
  | o :: r => { b with op := o, opQueue := r }

/-- Initialisation completes: capacity, mode, life, superblock, numbers, the event record. Where no mode passes, the medium is given up: DESIGN CHOICE
(log 259). -/
def State.initDone (s : State) (i : EmmcInfo) : State :=
  let m := modeOf i
  let clip := decide (125000000 < i.sectors)
  let eol := decide (9 ≤ i.lifeA.toNat) || decide (9 ≤ i.lifeB.toNat) || decide (2 ≤ i.preEol.toNat)
  let evt := s.arch.evt ||| bitIf 25 clip ||| bitIf 26 eol
  let a := { s.arch with cap := min i.sectors 125000000, mode := BitVec.ofNat 4 m.1, width := BitVec.ofNat 4 m.2, evt := evt, op := .idle, fails := 0,
                         retried := false, unread := i.unread,
                         mediaReg := fmk 31 24 i.rev.toNat ||| fmk 23 16 i.lifeA.toNat ||| fmk 15 8 i.lifeB.toNat ||| fmk 7 0 i.preEol.toNat }
  if m.1 = 0 then { s with arch := a.giveUp }
  else
    match a.superblock with
    | some b =>
      let a := { a with sb := b, media := 1, foreign := b.uid != s.fuse.uid,
                        wrapped := decide (b.recordMib * 2048 / 18 * 64 < b.durable), scrubDone := b.scrubPos }
      let s := { s with arch := a }
      let s := if a.numbered then s else s.takeNumbers
      let s := { s with arch := s.arch.ready }
      let s := (s.archEvent 1).countMirror
      { s with arch := (s.arch.checkStripe false).checkStripe true }
    | none =>
      if s.policy.autoFormat && a.allBlank s.policy.recordMib then
        let s := (({ s with arch := a }.format).archEvent 1).countMirror
        { s with arch := s.arch.cmdDone true }
      else
        let reinit := !a.opQueue.contains .flushed
        { s with arch := (if reinit then a.cmdDone true else a).noMedium 3 }.archEvent 1

/-! ### Operations of the interface -/

/-- The next operation that waits is taken; a flush that has come to its end is reported. -/
def ArchState.nextOp (a : ArchState) : ArchState :=
  match a.opQueue with
  | [] => { a with op := .idle }
  | .flushed :: r =>
    let b := { a with op := .idle, opQueue := r }.cmdDone true
    (match r with
      | [] => b
      | o :: r => { b with op := o, opQueue := r })
  | o :: r => { a with op := o, opQueue := r }

/-- The operation under way completes. -/
def State.emmcDone (s : State) (i : EmmcInfo) : State :=
  let ok := { s.arch with fails := 0, retried := false }
  match s.arch.op with
  | .idle => s
  | .init => s.initDone i
  | .journal log => { s with arch := (ok.journalDone log).nextOp }.countMirror
  | .stripe log =>
    let a := ok.stripeDone log
    let a := { a with opQueue := EmmcOp.superblock :: (a.opQueue.filter fun o => o != EmmcOp.superblock) }
    { s with arch := a.nextOp }
  | .superblock => { s with arch := (((ok.putSuperblock s.newSuperblock).nextOp).checkStripe false).checkStripe true }.countMirror
  | .trace =>
    let t := ({ s with arch := ok }.traceDone).traceFlush
    { t with arch := t.arch.nextOp }
  | .flushed => { s with arch := ok.nextOp }

/-- A command to the eMMC fails: after three in a row initialisation is repeated, and after that fails too the medium is given up
(R451). -/
def State.emmcFail (s : State) : State :=
  let a := s.arch
  if a.op = .idle then s
  else
    let n := a.fails + 1
    if n < 3 then { s with arch := { a with fails := n } }
    else if a.retried then { s with arch := a.giveUp }
    else { s with arch := { a.startInit with retried := true } }

/-- A device that has not answered CMD1 within 1 s is absent (R450); where initialisation was being repeated, that has failed too (R451). -/
def State.emmcAbsent (s : State) : State :=
  if s.arch.op = .init then { s with arch := if s.arch.retried then s.arch.giveUp else s.arch.noMedium 2 } else s

/-- The journal write falls due: FLUSH_MS have passed and something staged is not durable. -/
def State.journalDue (s : State) (log : Bool) : State :=
  if s.arch.ringDue log then { s with arch := s.arch.enqueue (.journal log) } else s

/-- Everything staged is written at once: journals and superblock (R454). -/
def ArchState.flushNow (a : ArchState) : ArchState :=
  (((a.enqueue (.journal false)).enqueue (.journal true)).enqueue .superblock).enqueue .flushed

/-- The flush on the way to DORMANT or OFF: journals and superblock, and every ARCH segment copied (R44, R250). -/
def State.flushArchive (s : State) : State := ({ s with arch := s.arch.flushNow } : State).nextTrace

/-! ### The scrub (R457, R458)

A pass goes through the slots of the three regions in order, at places that no write moves. -/

/-- A ring of `size` slots of which `n` stripes have been written: slots that hold one, and the slot of the head where it holds an old one. -/
def ringSlots (size n : Nat) : Nat × Option Nat := (min n size, if size ≤ n ∧ 0 < size then some (n % size) else none)

/-- The first slot from a place on that a pass reads: a written one, but never the head's. -/
def nextSlot (k : Nat × Option Nat) (from_ : Nat) : Option Nat :=
  let i := if k.2 = some from_ then from_ + 1 else from_
  if i < k.1 then some i else none

/-- Slots below a place that a pass reads. -/
def slotsBelow (k : Nat × Option Nat) (i : Nat) : Nat :=
  min i k.1 - (match k.2 with
    | some h => b2n (decide (h < i))
    | none => 0)

/-- The record and log rings as the scrub sees them, by the stripes that the superblock counts. -/
def ArchState.scrubRing (a : ArchState) (log : Bool) : Nat × Option Nat :=
  if log then ringSlots 7281 (a.sb.logDurable / 256) else ringSlots a.recStripes (a.sb.durable / 64)

/-- Slots of the trace region that hold a stripe of a segment. -/
def ArchState.traceSlots (a : ArchState) : List Nat :=
  a.traces.flatMap fun t => (List.range t.stripes).map fun i => (t.stripe + i) % max 1 a.traceStripes

/-- The lowest of some numbers from a place on. -/
def lowestFrom (l : List Nat) (from_ : Nat) : Option Nat :=
  l.foldl (fun m k => if k < from_ then m else some (match m with
    | some x => min x k
    | none => k)) none

/-- The stripe that a pass reads next from a place on, and the place after it. -/
def ArchState.scrubNext (a : ArchState) (at_ : Nat) : Option (StripeRegion × Nat × Nat) :=
  let r := a.recStripes
  match if at_ < r then nextSlot (a.scrubRing false) at_ else none with
  | some i => some (.records, i, i + 1)
  | none =>
    match if at_ < r + 7281 then nextSlot (a.scrubRing true) (at_ - r) else none with
    | some i => some (.logs, i, r + i + 1)
    | none => (lowestFrom a.traceSlots (at_ - (r + 7281))).map fun i => (.traces, i, r + 7281 + i + 1)

/-- The place of the stripe that is being written: the head's slot of its region. -/
def ArchState.writingAt (a : ArchState) : Option Nat :=
  match a.op with
  | .stripe false => some (a.sb.durable / 64 % max 1 a.recStripes)
  | .stripe true => some (a.recStripes + a.sb.logDurable / 256 % 7281)
  | _ => none

/-- Stripes that a pass reads below a place, and in all. -/
def ArchState.scrubCount (a : ArchState) (at_ : Nat) : Nat × Nat :=
  let r := a.recStripes
  let big := r + 7281 + a.traceStripes
  let count := fun (i : Nat) => slotsBelow (a.scrubRing false) i + slotsBelow (a.scrubRing true) (i - r) +
    a.traceSlots.countP fun k => decide (r + 7281 + k < i)
  (count at_, count big)

/-- One scheduled scrub read, with the blocks that the eMMC reports as uncorrectable reads. It gives way to a write; a pass that has reached the stripe
being written skips it. -/
def State.scrubRead (s : State) (erased : List Nat) : State :=
  let a := s.arch
  if a.media ≠ 1 then s
  else if a.op ≠ .idle then
    if a.writingAt = some a.scrubDone then { s with arch := { a with scrubDone := a.scrubDone + 1 } } else s
  else
    match a.scrubNext a.scrubDone with
    | none =>
      { s with arch := { a with scrubDone := 0, scrubbing := false,
                                sb := { a.sb with scrubPos := 0, scrubPasses := a.sb.scrubPasses + 1 } }.enqueue .superblock }
    | some (r, n, next) =>
      let l := a.readStripe r n
      let res := decodeStripe l (erasuresOf r l erased)
      let first := a.stripeAt r n / 512
      let told := (a.unread.filter fun k => decide (k < first) || decide (first + 18 ≤ k)) ++ (erased.filter fun k => decide (k < 18)).map fun k => first + k
      let step := { a with scrubDone := next, scrubbing := true, sb := { a.sb with scrubPos := next }, unread := told }
      match res.2 with
      | .good => { s with arch := step }
      | .corrected ks =>
        let b := ks.foldl (fun (b : ArchState) k => b.put (a.stripeAt r n + 512 * k) (res.1.getD k [])) step
        { s with arch := { b with evt := raise a.evt 30, ecc := fput a.ecc 31 16 (min 0xFFFF (fget a.ecc 31 16 + ks.length)) } }
      | .uncorrectable => { s with arch := step.noteRead 0 true }

/-! ### ARCH commands -/

/-- A command is refused with its reason. -/
def ArchState.cmdErr (a : ArchState) (why : Nat) : ArchState := { a with cmdstat := fput (raise a.cmdstat 29) 3 0 why }

/-- A command is done. -/
def ArchState.cmdOk (a : ArchState) : ArchState := { a with cmdstat := fput (raise a.cmdstat 30) 3 0 0 }

/-- A command is under way. -/
def ArchState.cmdBusy (a : ArchState) : ArchState := { a with cmdstat := fput (raise a.cmdstat 31) 3 0 0 }

/-- What every ARCH command is checked for first: the key, then a command in progress. -/
def ArchState.cmd (a : ArchState) (key : Byte) (f : ArchState → ArchState) : ArchState :=
  if key ≠ 0x4B then a.cmdErr 1 else if wbit a.cmdstat 31 then a.cmdErr 5 else f a

/-- FLUSH. -/
def ArchState.cmdFlush (a : ArchState) : ArchState := if a.media = 1 then a.cmdBusy.flushNow else a.cmdErr 4

/-- SCRUB_NOW: a pass starts from its beginning. -/
def ArchState.cmdScrub (a : ArchState) : ArchState :=
  if a.media = 1 then { a with scrubDone := 0, scrubbing := true, sb := { a.sb with scrubPos := 0 } }.cmdOk else a.cmdErr 4

/-- REINIT. -/
def ArchState.cmdReinit (a : ArchState) : ArchState := if a.op = .init then a.cmdErr 5 else a.cmdBusy.startInit

/-- FORMAT. -/
def State.cmdFormat (s : State) (key : Byte) : State :=
  let a := s.arch
  if key ≠ 0x4B then { s with arch := a.cmdErr 1 }
  else if wbit a.cmdstat 31 then { s with arch := a.cmdErr 5 }
  else if s.psm.state ≠ .maintain then { s with arch := a.cmdErr 2 }
  else if s.harn.recovery then { s with arch := a.cmdErr 3 }
  else if a.media ≠ 1 ∧ a.media ≠ 3 then { s with arch := a.cmdErr 4 }
  else
    let s := (s.format.archEvent 2).countMirror
    { s with arch := s.arch.cmdOk }

/-- A record, from staging or from the medium: its bytes, blocks corrected, uncorrectable, staged. None: it is not held. -/
def ArchState.recordOf (a : ArchState) (i : Nat) : Option (List Byte × Nat × Bool × Bool) :=
  match a.recs.find? fun r => r.index == i with
  | some r => some (r.bytes, 0, false, true)
  | none =>
    if a.media = 1 ∧ i < a.sb.durable ∧ a.sb.durable ≤ i + 64 * a.recStripes then
      let d := a.loadStripe .records (i / 64)
      some (slice d.1 (128 * (i % 64)) 128, d.2.1, d.2.2, false)
    else none

/-- LOAD: the record or trace page selected by ARCH_RDIDX and ARCH_RDPAGE. -/
def ArchState.cmdLoad (a : ArchState) : ArchState :=
  let i := a.rdidx.toNat
  if wbit a.rdpage 31 then
    if a.media ≠ 1 then a.cmdErr 4
    else
      match a.traces.find? fun t => t.index == i with
      | none => a.cmdErr 6
      | some t =>
        let k := fget a.rdpage 15 0
        if t.stripes * 4 ≤ k then a.cmdErr 6
        else
          let d := a.loadStripe .traces (t.stripe + k / 4)
          let h := slice (a.loadStripe .traces t.stripe).1 0 64
          { a.noteRead d.2.1 d.2.2 with
            rdwin := slice d.1 (2048 * (k % 4)) 2048,
            rdstat := bitIf 31 (ownCrcOk h) ||| bitIf 30 (d.2.1 != 0) ||| bitIf 29 d.2.2 ||| fmk 27 0 t.bytes }.cmdOk
  else
    match a.recordOf i with
    | none => a.cmdErr 6
    | some (b, corr, unc, st) =>
      { a.noteRead corr unc with
        rdwin := b, rdstat := bitIf 31 (ownCrcOk b) ||| bitIf 30 (corr != 0) ||| bitIf 29 unc ||| bitIf 28 st ||| fmk 27 0 128 }.cmdOk

/-- FIND: the latest trace with the identity that a record names and a TTRIG not before its T_START. -/
def ArchState.cmdFind (a : ArchState) (tsel : BitVec 2) : ArchState :=
  if a.media ≠ 1 then a.cmdErr 4
  else if tsel = 3 then a.cmdErr 6
  else
    match a.recordOf a.rdidx.toNat with
    | none => a.cmdErr 6
    | some (b, corr, unc, _) =>
      let id := rdw b (88 + 4 * tsel.toNat)
      let hit := a.traces.reverse.find? fun t => id != 0 && t.ident == id && decide (rd64 b 16 ≤ t.ttrig)
      { a.noteRead corr unc with found := match hit with
          | some t => BitVec.ofNat 32 t.index
          | none => 0xFFFFFFFF }.cmdOk

/-! ### Tally references (R482) -/

/-- A record is the stitch record of a portal and cycle that waits for its SEQ. -/
def Staged.waits (r : Staged) (p : PortalId) (cycle : Word) : Bool :=
  r.held && rd8 r.bytes 0 == 1 && rd8 r.bytes 2 == p.val && rdw r.bytes 8 == cycle

/-- What the tally island has to pass for a cycle has come: the SEQ goes into TALLY_REF of the stitch record that waited for it, or TALLY_REF keeps 0 where
there is none, and the CRCs are formed. -/
def ArchState.passRef (a : ArchState) (p : PortalId) (cycle : Word) (sq : Option Word) : ArchState :=
  let one := fun (r : Staged) =>
    if r.waits p cycle then
      ({ r with held := false, bytes := match sq with
          | some q => slice r.bytes 0 100 ++ leBytes 4 q.toNat ++ r.bytes.drop 104
          | none => r.bytes } : Staged)
    else r
  if a.recs.any fun r => r.waits p cycle then ({ a with recs := a.recs.map one }.form).checkStripe false else a

end Sys2Proof.Machine
end

