-- ==== Sys2Proof/Machine/HostLink.lean ====
section
/-! DEFINITION. The host side of the girth links (R297 to R316, R324, R327): training, HELLO, CONFIG requests with the unit download
and the read-back, lane loss and link fault. Both sides' error counts stand in the host die's mirror (R37). -/

namespace Sys2Proof.Machine

/-! ### Sending -/

/-- Send a frame on a link. -/
def HostLink.send (l : HostLink) (mk : FrameHdr → LinkFrame) : HostLink := { l with fin := l.fin.send mk }

/-- A frame of portal die `p` has arrived at the host side. -/
def State.portalFrame (s : State) (p : PortalId) (f : LinkFrame) : State :=
  let P := s.portals.get p
  s.setPortal p { P with link := { P.link with fin := P.link.fin.arrived f } }

/-- A frame of the host die has arrived at portal die `p`. -/
def State.hostFrame (s : State) (p : PortalId) (f : LinkFrame) : State := s.modLink p fun l => { l with fin := l.fin.arrived f }

/-! ### CONFIG requests (R300, R308) -/

/-- The next CONFIG request goes out when none is outstanding. -/
def HostLink.pump (l : HostLink) : HostLink :=
  if !l.up || l.pending.isSome then l
  else
    match l.queue with
    | [] => l
    | (u, f) :: r =>
      let g : ConfigFrame := { f with tag := l.nextTag }
      { l with queue := r, pending := some (u, g), nextTag := l.nextTag + 1 }.send fun h => .config h g

/-- Queue CONFIG requests behind those that wait. -/
def HostLink.request (l : HostLink) (fs : List (ConfigUse × ConfigFrame)) : HostLink := { l with queue := l.queue ++ fs }.pump

/-- A CONFIG request frame. -/
def configFrame (op : Byte) (addr arg : Word) (data : List Byte) : ConfigFrame :=
  { op := op, status := 0, tag := 0, addr := addr, arg := arg, data := data }

/-- The requests that download one unit: its chunks of 256 bytes, then DL_END with its CRC (R308, R309) and what else the portal die takes of the image. -/
def unitRequests (n : ImageNote) (u : UnitData) : List (ConfigUse × ConfigFrame) :=
  let k := fmk 31 24 u.kind.toNat
  ((List.range ((u.bytes.length + 255) / 256)).map fun i =>
    (.download, configFrame 3 u.tag (k ||| fmk 23 0 (256 * i)) ((u.bytes.drop (256 * i)).take 256))) ++
  [(.download, { configFrame 4 u.tag (k ||| fmk 23 0 u.bytes.length) (leBytes 4 (crc32c u.bytes).toNat) with image := n })]

/-- The requests that download units of the active image to portal die `p`. -/
def State.unitsRequests (s : State) (p : PortalId) (us : List UnitData) : List (ConfigUse × ConfigFrame) :=
  us.flatMap fun u => unitRequests (s.imageNote p u.tag) u

/-- The requests that read the unit CRCs a portal die holds: one word more than the image has units for it, within GL_UCRC. -/
def ucrcRequests (units : Nat) : List (ConfigUse × ConfigFrame) :=
  (List.range (min (units + 1) 16)).map fun n => (.unitCrc, configFrame 1 (BitVec.ofNat 32 (0x2840 + 4 * n)) 0 [])

/-- The acknowledgement of the read-back, quoting the SEQ of the STATE frame (R324). -/
def ackRequest (n : ImageNote) (q : Byte) : ConfigUse × ConfigFrame := (.readbackAck, { configFrame 5 (q.setWidth 32) 0 [] with image := n })

/-- The read-back's last step is due: units in order, first STATE frame held. -/
def HostLink.ack (l : HostLink) (n : ImageNote) : HostLink :=
  let busy := l.queue.any (fun x => x.1 == .readbackAck) || (match l.pending with
    | some (u, _) => u == .readbackAck
    | none => false)
  match l.phase, l.rbSeq with
  | .readBack, some q => if l.unitsOk && !busy then l.request [ackRequest n q] else l
  | _, _ => l

/-- See `HostLink.ack`. -/
def State.ack (s : State) (p : PortalId) : State := s.modLink p fun l => l.ack (s.imageNote p 0)

/-- Download every unit of the active image to portal die `p` (R59, R81). -/
def State.download (s : State) (p : PortalId) : State :=
  let fs := s.unitsRequests p (s.imageUnits p)
  let s := { s with harn := { s.harn with dlPend := putBit s.harn.dlPend p.val (!fs.isEmpty) } }
  s.modLink p fun l => ({ l with phase := .download, unitsOk := fs.isEmpty, queue := l.queue.filter fun x => x.1 != ConfigUse.download }.request fs)

/-- PSM_BOOT.LINK_UP of a portal: trained, HELLO done and sections downloaded. R59 speaks of start-up alone: DESIGN CHOICE, the bit also rises for a
link that completes later, and it does not fall on a link loss (log 209). -/
def State.bootLinkUp (s : State) (p : PortalId) : State := { s with psm := { s.psm with boot := raise s.psm.boot (4 + p.val) } }

/-- The portal is ready for COMMANDs. -/
def State.linkRunning (s : State) (p : PortalId) : State :=
  ((s.modLink p fun l => { l with phase := .running }).modSeq p fun q => { q with readBack := true }).bootLinkUp p

/-- A device-scope SELFTEST runs the awl's step 7 in a portal die, through a CONFIG TEST frame (R289, R308). -/
def State.sendTest (s : State) (p : PortalId) : State :=
  if s.psm.state == .selftest && !s.psm.pairScope && (s.link p).up then s.modLink p fun l => l.request [(.test, configFrame 6 0 0 [])] else s

/-- The portal die of a HELLO with LIVE needs the read-back before it takes a COMMAND (R324). -/
def HostLink.needsAck (l : HostLink) (q : SeqPortal) : Bool := wbit l.helloFlags 0 && !q.readBack

/-- A download has nothing left to send: the read-back goes on, or the link runs. -/
def State.downloadDone (s : State) (p : PortalId) : State :=
  let s := { s with harn := { s.harn with dlPend := putBit s.harn.dlPend p.val false } }
  if (s.link p).needsAck (s.sp p) then (s.modLink p fun l => { l with phase := .readBack, unitsOk := true }).ack p
  else ((s.modLink p fun l => { l with unitsOk := true }).linkRunning p).sendTest p

/-- The unit of the image that a download request belongs to. -/
def unitFor (us : List UnitData) (f : ConfigFrame) : List UnitData :=
  us.filter fun u => u.tag == f.addr && u.kind.toNat == fget f.arg 31 24

/-- A download request has been answered: a unit whose CRC differs is sent again (R309). -/
def State.downloadAnswer (s : State) (p : PortalId) (req ans : ConfigFrame) : State :=
  let s := if ans.status = 3 then
      let again := s.unitsRequests p (unitFor (s.imageUnits p) req)
      s.modLink p fun l => { l with queue := again ++ l.queue }.pump
    else s
  let l := s.link p
  let left := l.queue.any (fun x => x.1 == .download) || (match l.pending with
    | some (u, _) => u == .download
    | none => false)
  if left || l.phase != .download then s else s.downloadDone p

/-- A unit CRC has been read back: with the last one the CRCs are compared with the active image's; where they differ, the units are
downloaded first (R324). -/
def State.ucrcAnswer (s : State) (p : PortalId) (ans : ConfigFrame) : State :=
  let s := s.modLink p fun l => { l with ucrc := l.ucrc ++ [rdw ans.data 0] }
  let us := s.imageUnits p
  let want := ((us.map fun (u : UnitData) => crc32c u.bytes) ++ [0]).take 16
  let l := s.link p
  if l.ucrc.length < want.length then s
  else if l.ucrc == want then (s.modLink p fun l => { l with unitsOk := true }).ack p
  else s.download p

/-- The read-back acknowledgement has been answered: accepted, the takeover follows (R325); not yet due, it is sent again (R324). -/
def State.ackAnswer (s : State) (p : PortalId) (ans : ConfigFrame) : State :=
  if ans.status = 0 then
    if (s.sp p).readBack then s
    else ((s.modSeq p fun q => { q with takeover := true, adoptDue := true }).linkRunning p)
  else if ans.status = 4 then s.ack p
  else s

/-- The CONFIG request that sets the stream set of a portal die (R19, R244; log 204). -/
def streamRequest (w : Word) : ConfigUse × ConfigFrame := (.stream, configFrame 2 0x3000 1 (leBytes 4 w.toNat))

/-- The stream set has changed since it was last sent: the new one is sent once the link runs. -/
def State.sendStream (s : State) (p : PortalId) : State :=
  let w := s.acq.streamSet p.val
  let l := s.link p
  if l.phase == .running && l.streamAsked != some w then s.modLink p fun l => ({ l with streamAsked := some w }).request [streamRequest w] else s

/-- What becomes of an answer that is not a host-port access. -/
def State.configAnswered (s : State) (p : PortalId) (u : ConfigUse) (req ans : ConfigFrame) : State :=
  match u with
  | .download => s.downloadAnswer p req ans
  | .unitCrc => s.ucrcAnswer p ans
  | .readbackAck => s.ackAnswer p ans
  | .stream => if ans.status = 0 then s.modLink p fun l => { l with stream := rdw req.data 0 } else s
  | .test | .spiRead | .spiWrite => s

/-- The outstanding request that an answer matches by TAG and OP, and the link after it. -/
def HostLink.takeAnswer (l : HostLink) (h : FrameHdr) (f : ConfigFrame) : Option (HostLink × ConfigUse × ConfigFrame) :=
  if !l.up then none
  else
    match l.fin.accept h, l.pending with
    | some e, some (u, req) =>
      if f.tag = req.tag ∧ f.op = req.op ||| 0x80 then some ({ l with fin := e, pending := none }.pump, u, req) else none
    | _, _ => none

/-! ### Training (R310, R311) -/

/-- The device is in a state, and in BOOT at a step, in which links are trained (R38, R45, R59). -/
def State.mayTrain (s : State) : Bool :=
  match s.psm.state with
  | .off | .fuseFail | .safe => false
  | .dormant => match s.psm.busy with
    | some (.linksBack _) => true
    | _ => false
  | .boot => s.psm.step == .training || s.psm.step == .done
  | _ => true

/-- Training of a link starts. -/
def HostLink.train (l : HostLink) (ck : Nat) : HostLink :=
  { l with fin := { l.fin with lanes := 0, silent := false, retrain := 0, locked := 0, proved := 0 }, up := false, phase := .training, lowRate := false, vsel := 0, trainFrom := ck,
           attempts := .all 1, try0 := satInc l.try0 255, try1 := satInc l.try1 255, pending := none, queue := [],
           ucrc := [], rbSeq := none, unitsOk := false, stream := 0, streamAsked := none }

/-- Train the link of portal `p`. -/
def State.train (s : State) (p : PortalId) : State :=
  (s.modLink p fun l => l.train s.clock).modSeq p fun q => { q with readBack := false, keeperRun := false, released := false }

/-- Train all four links. -/
def State.trainAll (s : State) : State := s.eachPortal State.train

/-- The host die's HELLO. -/
def HostLink.hello (l : HostLink) (p : PortalId) (vsel : Byte) (nonce : Word) (d0 d1 : Half) : HelloFrame :=
  { role := 1, vmax := 3, vmin := 1, vsel := vsel, portal := BitVec.ofNat 8 p.val, step := 0xB1, lanes := l.fin.lanes.setWidth 8, flags := 0,
    nonce := nonce, dly0 := d0, dly1 := d1 }

/-- The lanes of an end that are up, or that are locked again and have carried the frame R311 asks of this side. -/
def LinkEnd.ready (e : LinkEnd) : BitVec 2 := e.lanes ||| (e.retrain &&& e.locked &&& e.proved)

/-- Lanes under background retraining rejoin at both sides once both have locked them, the portal side has received a valid TIME frame and the host
side a valid STATE frame over them (R311). -/
def State.rejoin (s : State) (p : PortalId) : State :=
  let l := s.link p
  let P := s.portals.get p
  let m := l.fin.ready &&& P.link.fin.ready &&& (l.fin.retrain ||| P.link.fin.retrain)
  if m = 0 || !l.up || !P.link.up then s
  else
    let s := s.modLink p fun l => { l with fin := l.fin.rejoin m, evt := raise l.evt 4 }
    s.onPortal p fun P => P.modLink fun x => { x with fin := x.fin.rejoin m }

/-- A lane in training locks at the host side, which sends a first HELLO on it; under background retraining the lock is kept. -/
def State.laneLockedHost (s : State) (p : PortalId) (lane : Fin 2) : State :=
  let l := s.link p
  if l.up then (s.modLink p fun l => { l with fin := l.fin.retrainLock lane }).rejoin p
  else if l.fin.silent || !(l.phase == .training || l.phase == .hello) || decide (3 < l.attempts.at2 lane) || wbit l.fin.lanes lane.val then s
  else s.modLink p fun l =>
    let l := { l with phase := .hello, fin := { l.fin with lanes := putBit l.fin.lanes lane.val true } }
    l.send fun h => .hello h (l.hello p 0 0 0 0)

/-- A lane locks at the portal side. While the link is up a lane rejoins only after the retraining of R311; the retraining that ends low-rate mode
(R327) brings it up. -/
def State.laneLockedPortal (s : State) (p : PortalId) (lane : Fin 2) : State :=
  let s := s.onPortal p fun P =>
    P.modLink fun l =>
      if l.fin.silent then l
      else if l.up && !l.lowRate then { l with fin := l.fin.retrainLock lane }
      else { l with fin := { l.fin with lanes := putBit l.fin.lanes lane.val true } }
  s.rejoin p

/-- A lane has not locked within 1 ms: three attempts at most; with both lanes given up the link stays in link fault. -/
def State.trainRetry (s : State) (p : PortalId) (lane : Fin 2) : State :=
  let l := s.link p
  let n := l.attempts.at2 lane
  if !(l.phase == .training || l.phase == .hello) || l.up || wbit l.fin.lanes lane.val || decide (3 < n) then s
  else s.modLink p fun l =>
    let l := { l with attempts := l.attempts.set2 lane (n + 1) }
    if n < 3 then (if lane = 0 then { l with try0 := satInc l.try0 255 } else { l with try1 := satInc l.try1 255 })
    else if l.attempts == .all 4 then { l with phase := .down, why := 6 } else l

/-- Every 100 ms (R311): both sides retrain the lanes of a running link that are down there; a link that is down is trained again. -/
def State.backgroundRetrain (s : State) (p : PortalId) : State :=
  let l := s.link p
  if l.up then
    if l.lowRate then s
    else
      let s := s.onPortal p fun P => P.modLink fun x => if x.up then { x with fin := x.fin.beginRetrain x.fin.downLanes } else x
      s.modLink p fun l => { l with fin := l.fin.beginRetrain l.fin.downLanes }
  else if s.mayTrain && !l.fin.silent && (l.phase == .down || decide (3000000 ≤ s.clock - l.trainFrom)) then s.train p
  else s

/-! ### Link fault (R313 to R315) -/

/-- Link fault at the host side, with its cause; the portal's segments close with GAP (R260). A host-port access that was outstanding is
answered with the link-down status. -/
def State.hostLinkFault (s : State) (p : PortalId) (why : Nat) : State :=
  let s := s.modLink p fun l =>
    { l with fin := l.fin.declareFault, up := false, phase := .down, why := why, evt := raise l.evt 3, lowRate := false, pending := none,
             queue := [], ucrc := [], rbSeq := none, unitsOk := false, stream := 0, streamAsked := none }
  let s := s.modSeq p fun q => { q with readBack := false, keeperRun := false, released := false }
  { s with acq := s.acq.gap p.val }

/-- The lanes of a link stop without a word: entry to SAFE, a reset, the end of entry to OFF. -/
def State.stopLink (s : State) (p : PortalId) (why : Nat) : State :=
  let s := s.hostLinkFault p why
  s.modLink p fun l => { l with fin := { l.fin with lanes := 0, silent := true } }

/-- Stop every link. -/
def State.stopLinks (s : State) (why : Nat) : State := s.eachPortal fun s p => s.stopLink p why

/-- A lane is judged down at the host side. In low-rate mode the time-outs of R327 alone declare link fault. -/
def State.laneDownHost (s : State) (p : PortalId) (lane : Fin 2) : State :=
  let l := s.link p
  if !wbit l.fin.lanes lane.val then s
  else
    let s := s.modLink p fun l => { l with fin := { l.fin with lanes := putBit l.fin.lanes lane.val false }, evt := raise l.evt (6 - lane.val) }
    if l.up && !l.lowRate && (s.link p).fin.lanes == 0 then s.hostLinkFault p 1 else s

/-- A lane is judged down at the portal side. -/
def PortalState.laneDown (P : PortalState) (ck : Nat) (p : PortalId) (lane : Fin 2) : PortalState :=
  if !wbit P.link.fin.lanes lane.val then P
  else
    let R := (P.modLink fun l => { l with fin := { l.fin with lanes := putBit l.fin.lanes lane.val false } }).glFlag (6 - lane.val)
    if P.link.up && !P.link.lowRate && R.link.fin.lanes == 0 then R.linkFault ck p 1 else R

/-- A malformed copy at the host side: a lane error where its twin is valid, else a link error. -/
def State.linkErrorHost (s : State) (p : PortalId) (lane : Fin 2) (twin : Bool) : State :=
  let l := s.link p
  if !wbit l.fin.lanes lane.val then s
  else if twin then
    let r := l.fin.laneError s.clock lane
    let s := s.modLink p fun l => { l with fin := r.1, laneErr := satInc l.laneErr 0xFFF }
    if r.2 then s.laneDownHost p lane else s
  else
    let r := l.fin.linkError s.clock
    let s := s.modLink p fun l => { l with fin := r.1, linkErr := satInc l.linkErr 0xFFF, evt := raise l.evt 1 }
    if r.2 && l.up && !l.lowRate then s.hostLinkFault p 2 else s

/-- A malformed copy at the portal side, counted there (R314). -/
def State.linkErrorPortal (s : State) (p : PortalId) (lane : Fin 2) (twin : Bool) : State :=
  let P := s.portals.get p
  if P.por || !wbit P.link.fin.lanes lane.val then s
  else if twin then
    let r := P.link.fin.laneError s.clock lane
    s.onPortal p fun P =>
      let R := P.modLink fun l => { l with fin := r.1, laneErrs := (l.laneErrs + 1) % 4096 }
      if r.2 then R.laneDown s.clock p lane else R
  else
    let r := P.link.fin.linkError s.clock
    s.onPortal p fun P =>
      let R := (P.modLink fun l => { l with fin := r.1, linkErrs := (l.linkErrs + 1) % 4096 }).glFlag 1
      if r.2 && P.link.up && !P.link.lowRate then R.linkFault s.clock p 2 else R

/-- The 50 µs of silence end at whichever side keeps it; training resumes. -/
def State.silenceEnd (s : State) (p : PortalId) : State :=
  let s := s.onPortal p fun P => P.modLink fun l => { l with fin := { l.fin with silent := false } }
  if !s.mayTrain then s
  else if (s.link p).up || (s.link p).phase != .down then s
  else s.train p

/-- Low-rate mode: no TIME for 1 s, or no STATE for 3 s (R327). -/
def State.lowRateTimeout (s : State) (p : PortalId) (side : LinkSide) : State :=
  match side with
  | .host => if (s.link p).lowRate && (s.link p).up then s.hostLinkFault p 1 else s
  | .portal => s.onPortal p fun P => if P.link.lowRate && P.link.up then P.linkFault s.clock p 1 else P

/-! ### HELLO (R301, R310) -/

/-- HELLO is complete at the host side: the keeper starts from K1 (R317), and the read-back or the download begins (R324). -/
def State.helloDone (s : State) (p : PortalId) (f : HelloFrame) : State :=
  let s := s.modLink p fun l =>
    { l with up := true, fin := l.fin.complete, helloFlags := f.flags, peerStep := f.step,
             trainUs := min ((s.clock - l.trainFrom) / 1000) 0xFFFF, stateAt := s.clock }
  let s := s.modSeq p fun q => { q with keeperServe := 1, keeperKey := keeperNext (s.link p).nonce, keeperRun := true, readBack := false }
  if wbit f.flags 0 then s.modLink p fun l => { l with phase := .readBack }.request (ucrcRequests (s.imageUnits p).length)
  else
    let s := s.download p
    if (s.link p).unitsOk then s.downloadDone p else s

/-- One-way delay of a lane, 0.1 ns, from its round trip: half of it, less the portal's fixed turnaround (R310). -/
def oneWay (rtt : Nat) : Half := BitVec.ofNat 16 (min 0xFFFF (rtt / 2 - Config.turnaround))

/-- A portal die's HELLO: the first is answered with the selected version and the measured delays, the echo completes HELLO; with no common
version the link ends in link fault. `rtt` is the measured round trip of each lane, in 0.1 ns. A duplicate is discarded (R297). -/
def State.helloHost (s : State) (p : PortalId) (h : FrameHdr) (f : HelloFrame) (rtt : Two Nat) : State :=
  let l := s.link p
  if l.phase != .hello || l.up || l.fin.silent || f.role != 2 then s
  else
    match l.fin.accept h with
    | none => s
    | some e =>
      let s := s.modLink p fun l => { l with fin := e }
      if f.vsel = 0 then
        let v := min 3 f.vmax.toNat
        let d := rtt.map oneWay
        let s := s.modLink p fun l => { l with nonce := f.nonce, helloFlags := f.flags, peerStep := f.step, dly := d }
        if v < max 1 f.vmin.toNat then (s.modLink p fun l => { l with evt := raise l.evt 2 }).hostLinkFault p 3
        else s.modLink p fun l =>
          let l := { l with vsel := BitVec.ofNat 8 v }
          l.send fun x => .hello x (l.hello p l.vsel f.nonce d.fst d.snd)
      else if l.vsel != 0 && f.vsel == l.vsel then s.helloDone p f
      else s

/-! ### The mirror (R37) -/

/-- GL_STAT. The mirror knows a link fault of the portal side from the silence that follows it (R13). A link that has not come up since reset has no fault yet:
FAULT needs a cause. -/
def HostLink.stat (l : HostLink) : Word :=
  let ph := match l.phase with
    | .down => 0
    | .training => 1
    | .hello => 2
    | .download => 3
    | .readBack => 4
    | .running => 5
  bitIf 31 (l.up && !l.fin.fault) ||| bitIf 30 (l.fin.fault && l.why != 0) ||| fmk 29 28 l.seen.lanes.toNat |||
    fmk 27 26 l.fin.lanes.toNat ||| bitIf 25 l.seen.keeperAct ||| bitIf 24 l.lowRate ||| fmk 23 20 l.why ||| fmk 19 16 ph |||
    fmk 15 8 l.vsel.toNat ||| fmk 7 0 l.peerStep.toNat

/-- What a STATE frame brings of the portal side into the mirror, GL_FRM counting what has come since the frame before. After its own reset the host die
takes the cause of the last link fault from the portal die, and the keeper's expiry from it always. -/
def HostLink.refresh (l : HostLink) (x : PortalNote) : HostLink :=
  { l with seen := x, evt := l.evt ||| x.glEvt, laneErr := min 0xFFF (l.laneErr + (x.laneErrs + 4096 - l.seen.laneErrs) % 4096),
           linkErr := min 0xFFF (l.linkErr + (x.linkErrs + 4096 - l.seen.linkErrs) % 4096), why := if l.why = 0 || x.why = 4 then x.why else l.why }

end Sys2Proof.Machine
end

