-- ==== Sys2Proof/Machine/HostFabric.lean ====
section
/-! DEFINITION. The host harness fabric (R86 to R93, R113, R128): its sources, its tick with the comparison of the copies, the
destinations that the lead pair drives, and what of it the agreed input vector takes (R275, R437). -/

namespace Sys2Proof.Machine

/-! ### Codes -/

/-- Code of a device state (R38). -/
def Psm.code : Psm → Nat
  | .off => 0
  | .boot => 1
  | .fuseFail => 2
  | .dormant => 3
  | .standby => 4
  | .service => 5
  | .maintain => 6
  | .selftest => 7
  | .safe => 8

/-- Code of a pair state (R279). -/
def PairState.code : PairState → Nat
  | .stopped => 0
  | .lead => 1
  | .shadow => 2
  | .leadSuspect => 3
  | .suspect => 4
  | .failed => 5
  | .test => 6
  | .candidate => 7
  | .retired => 8

/-- The pair holds the lead role. -/
def PairState.leads (x : PairState) : Bool := x == .lead || x == .leadSuspect

/-- The pair runs the kernel and its fabric. -/
def PairState.runs (x : PairState) : Bool := x.leads || x == .shadow || x == .candidate

/-- The pair that holds the lead role. -/
def LockState.lead (l : LockState) : Option PairId :=
  if l.pairs.fst.state.leads then some .pommel else if l.pairs.snd.state.leads then some .cantle else none

/-- The part runs under SERVICE rules: SERVICE, or SELFTEST of pair scope (R43). -/
def State.inService (s : State) : Bool := s.psm.state == .service || (s.psm.state == .selftest && s.psm.pairScope)

/-- Device state code that COMMAND frames and the kernel signals carry; a pair-scope SELFTEST is under SERVICE rules. -/
def State.dstate (s : State) : Nat := if s.inService then 5 else s.psm.state.code

/-! ### Sources (R88) -/

/-- The STATE words held of a portal; zeros before the first. -/
def HostLink.words (l : HostLink) : List Word :=
  match l.state with
  | some (_, f) => f.words.toList
  | none => List.replicate 16 0

/-- One STATE word held of a portal. -/
def HostLink.word (l : HostLink) (n : Nat) : Word := l.words.getD n 0

/-- The portal signals of the girth receiver; link up is the host side's own. -/
def HostLink.signals (l : HostLink) : BitVec 128 :=
  let n := fun i => (l.word (4 + i)).toNat * 2 ^ (32 * i)
  putBit (BitVec.ofNat 128 (n 0 + n 1 + n 2 + n 3)) 106 l.up

/-- The receive-map entry of flag `f` (R439). -/
def State.rxEntry (s : State) (f : Nat) : Option (List Byte) :=
  match s.harn.image with
  | some g =>
    let b := g.unitBytes tagNELZ 0 2
    if 8 * f + 8 ≤ b.length then some (slice b (8 * f) 8) else none
  | none => none

/-- Receive flag `f`: the bit of the latest matching message while it is fresh; with DUAL both channels' bits. -/
def State.rxFlag (s : State) (f : Nat) : Bool :=
  match s.rxEntry f, s.nelz.flags[f]? with
  | some b, some x =>
    if rd8 b 3 / 16 % 2 = 1 then x.fresh.x1 && x.value.x1 && x.fresh.x2 && x.value.x2 else x.fresh.x0 && x.value.x0
  | _, _ => false

/-- The 64 receive flags. -/
def State.rxWord (s : State) : BitVec 64 := BitVec.ofNat 64 (bitsOf ((List.range 64).map s.rxFlag))

/-- The sources that a pair's source stage presents at a tick. -/
def State.fabricSrc (s : State) : FabricSrc :=
  { portals := s.links.map HostLink.signals, kernel := s.seq.signals, rx := s.rxWord }

/-- A source by its index, cells and timers apart. -/
def FabricSrc.read (x : FabricSrc) (i : Nat) : Bool :=
  if 0x1400 ≤ i ∧ i < 0x1800 then
    let k := (i - 0x1400) % 256
    if k < 128 then wbit (x.portals.get ⟨(i - 0x1400) / 256 % 4, by omega⟩) k else false
  else if 0x1800 ≤ i ∧ i < 0x1900 then wbit x.kernel (i - 0x1800)
  else if 0x1C00 ≤ i ∧ i < 0x1C40 then wbit x.rx (i - 0x1C00)
  else false

/-! ### Ticks (R92, R93) -/

/-- The host cells of the active image. -/
def State.hostCells (s : State) : List CellCfg :=
  match s.harn.image with
  | some g => g.hostCells
  | none => []

/-- The host timers of the active image. -/
def State.hostTimers (s : State) : List TimerCfg :=
  match s.harn.image with
  | some g => g.hostTimers
  | none => []

/-- Both fabrics are configured from the active image. -/
def State.loadFabric (s : State) : State :=
  let k := FabricCopy.load s.hostCells s.hostTimers
  { s with fabric := { pairs := .all { copyA := k, copyB := k, src := {} }, dest := 0 } }

/-- One pair's fabric after a tick, before its destinations are driven; the destination of the first mismatch. -/
def PairFabric.tick (f : PairFabric) (cs : List CellCfg) (ts : List TimerCfg) (src : FabricSrc) (upA upB : List Nat) :
    PairFabric × Option Nat :=
  let a := (f.copyA.tick cs ts src.read).upset cs upA
  let b := (f.copyB.tick cs ts src.read).upset cs upB
  ({ copyA := a, copyB := b, src := src }, copyMismatch cs a b)

/-- Cells of a pair's copy that are upset. -/
def upsetCells (l : List FabricUpset) (i : PairId) (copyB : Bool) : List Nat :=
  l.filterMap fun u => if u.pair = i ∧ u.copyB = copyB then some u.cell.toNat else none

/-- HARN_FCMP after a mismatch on a pair's fabric. -/
def fcmpAfter (w : Word) (i : PairId) (dest : Nat) : Word :=
  let w := if fget w 31 30 = 0 then fput w 27 16 dest else w
  let bit := match i with
    | .pommel => 31
    | .cantle => 30
  fInc (raise w bit) 15 0

/-- The tick of one pair's fabric: whether its copies differ. The lead pair's exports drive the destinations, which keep their values on a
mismatch. -/
def State.tickPair (s : State) (upsets : List FabricUpset) (i : PairId) : State × Bool :=
  if !(s.lock.pairs.pair i).state.runs then (s, false)
  else
    let cs := s.hostCells
    let r := (s.fabric.pairs.pair i).tick cs s.hostTimers s.fabricSrc (upsetCells upsets i false) (upsetCells upsets i true)
    let f := { s.fabric with pairs := s.fabric.pairs.setPair i r.1 }
    match r.2 with
    | some d => ({ s with fabric := f, harn := { s.harn with fcmp := fcmpAfter s.harn.fcmp i d } }, true)
    | none =>
      let f := if s.lock.lead = some i then { f with dest := r.1.copyA.destWord cs 2176 } else f
      ({ s with fabric := f }, false)

/-- The fingerprint of a copy (R286): CRC-32C of the flip-flops of every used cell and of every timer in use. The manual does not give the order of
the bits: DESIGN CHOICE, flip-flops by cell number, then the timers by number (log 214). -/
def FabricCopy.fingerprint (k : FabricCopy) (cs : List CellCfg) (ts : List TimerCfg) : Word :=
  let ffs := (cs.zipIdx.filter fun c => c.1.used).map fun c => k.ff.getD c.2 false
  let timer := fun (n : Nat) =>
    let t := k.timers.getD n {}
    leBytes 1 (bitsOf [t.prev, t.out, t.running]) ++ leBytes 4 t.left
  crc32c (leBytes ((ffs.length + 7) / 8) (bitsOf ffs) ++ ((List.range ts.length).filter (timerUsed cs ts)).flatMap timer)

/-- The XOR of the fingerprints of copies A and B of a pair. -/
def State.fabricPrint (s : State) (i : PairId) : Word :=
  let f := s.fabric.pairs.pair i
  f.copyA.fingerprint s.hostCells s.hostTimers ^^^ f.copyB.fingerprint s.hostCells s.hostTimers

/-- Timer `n` of both fabrics reaches its preset now. -/
def State.expireTimer (s : State) (n : Nat) : State :=
  let cs := s.hostCells
  let ts := s.hostTimers
  let one := fun (f : PairFabric) =>
    ({ f with copyA := f.copyA.expire cs ts f.src.read n, copyB := f.copyB.expire cs ts f.src.read n } : PairFabric)
  { s with fabric := { s.fabric with pairs := s.fabric.pairs.map one } }

/-! ### What the kernel takes (R275, R437) -/

/-- The fabric exports of a pair: what its copies drive to every destination (R89); copy A stands for both, since a mismatch fails the pair (R93). -/
def State.exports (s : State) (i : PairId) : BitVec 2176 := (s.fabric.pairs.pair i).copyA.destWord s.hostCells 2176

/-- Word `n` of the kernel input word, 0 to 31, as a pair's own fabric exports it (R275). -/
def State.inputWord (s : State) (i : PairId) (n : Nat) : Word := BitVec.ofNat 32 ((s.exports i).toNat / 2 ^ (32 * n))

/-- The words 0 to 31 in which the exports of two pairs differ. -/
def exportDiff (a b : BitVec 2176) : BitVec 128 :=
  let x := a ^^^ b
  BitVec.ofNat 128 (bitsOf ((List.range 32).map fun n => x.toNat / 2 ^ (32 * n) % 2 ^ 32 != 0))

/-- The receivers and the destinations are routed to pair `i` (R282). -/
def State.routeTo (s : State) (i : PairId) : State := { s with fabric := { s.fabric with dest := s.exports i } }

/-- Command bits of portal `p` (R89). -/
def FabricState.cbits (f : FabricState) (p : PortalId) : Dword := BitVec.ofNat 64 (f.dest.toNat / 2 ^ (0x400 + 0x100 * p.val))

/-- A password is held for a channel: accepted no earlier than 10 s ago (R100). -/
def State.pwHeld (s : State) (ch : Channel) : Bool :=
  match s.sec.held.chan ch with
  | some h => decide (s.clock - h.at_ ≤ 10000000000)
  | none => false

/-- Two sources are the same (R46, R427): on CAN the channel with the node, else the host port. -/
def sameSource (a b : CmdSource) : Bool := a.ch == b.ch && (a.ch == .host || a.node == b.node)

/-- A password is held for a channel and source (R100, R428). -/
def State.pwHeldBy (s : State) (src : CmdSource) : Bool :=
  s.pwHeld src.ch && match s.sec.held.chan src.ch with
    | some h => sameSource h.src src
    | none => false

/-- Word 102: versions of the channels, and SYNCED. -/
def State.word102 (s : State) : Word :=
  fmk 3 0 (s.nelz.chans.chan .canA).v ||| fmk 7 4 (s.nelz.chans.chan .canB).v ||| bitIf 8 s.time.synced

/-- Word 98: the portal command presented, with what is held for its channel and source at the capture (R437). -/
def State.captureCmd (s : State) : Word :=
  match s.seq.pcmd with
  | some c => putBit s.seq.word98 4 (s.pwHeldBy c.src)
  | none => s.seq.word98

/-- What word `n` of the input vector captures at the leading core of the lead pair (R275, R277). -/
def State.capture (s : State) (n : Nat) : Word :=
  if n < 32 then
    match s.lock.lead with
    | some i => s.inputWord i n
    | none => 0
  else if h : n < 96 then
    let l := s.links.get ⟨(n - 32) / 16, by omega⟩
    let w := l.word ((n - 32) % 16)
    if (n - 32) % 16 = 0 then putBit w 16 l.up else w
  else
    match n with
    | 96 => s.seq.word96
    | 97 => fmk 15 0 (fget s.seq.hreq 15 0)
    | 98 => s.captureCmd
    | 99 => fmk 2 0 (bitsOf [s.pwHeld .host, s.pwHeld .canA, s.pwHeld .canB])
    | 100 => BitVec.ofNat 32 s.rxWord.toNat
    | 101 => BitVec.ofNat 32 (s.rxWord.toNat / 2 ^ 32)
    | 102 => s.word102
    | _ => 0

/-- The fail-safe value of word `n`: for a portal's words the latest capture, the portal being treated as in link fault, else 0. -/
def failSafeWord (n : Nat) (w : Word) : Word := if 32 ≤ n ∧ n < 96 then w else 0

/-- Some word of the portal whose words word `n` belongs to is faulty. -/
def portalFaulty (infault : BitVec 128) (n : Nat) : Bool :=
  decide (32 ≤ n ∧ n < 96) && (List.range 16).any fun i => wbit infault (n / 16 * 16 + i)

/-- Word `n` of the vector from its capture: a faulty word has its fail-safe value, and link-up of a portal one of whose words is faulty reads 0 (R275,
R277). -/
def agreedWord (infault : BitVec 128) (n : Nat) (w : Word) : Word :=
  let w := if wbit infault n then failSafeWord n w else w
  if n % 16 = 0 && portalFaulty infault n then putBit w 16 false else w

end Sys2Proof.Machine
end

