-- ==== Sys2Proof/Machine/Stitch.lean ====
section
/-! DEFINITION. The door cycle and its stitch record (R441 to R444), the cycle marks to the tally island (R466) and the maintenance record
(R445). -/

namespace Sys2Proof.Machine

/-! ### The open cycle -/

/-- Change the open door cycle of a portal. -/
def State.modCycle (s : State) (p : PortalId) (f : DoorCycle → DoorCycle) : State :=
  s.modSeq p fun q => { q with cycle := q.cycle.map f }

/-- Which of the five phases of R443 a guarded state counts in. -/
def phaseOf : Guarded → Option Nat
  | .unlocking => some 0
  | .opening => some 1
  | .opened => some 2
  | .closing => some 3
  | .locking => some 4
  | _ => none

/-- Agreed word `n` of portal `p`. -/
def State.pword (s : State) (p : PortalId) (n : Nat) : Word := s.seq.agreed.getD (32 + 16 * p.val + n) 0

/-- MASK and FIRST of OB_CAUSE as a stitch record holds them. -/
def causeHalf (w : Word) : Half := BitVec.ofNat 16 (fget w 31 28 * 4096 + fget w 23 16)

/-- A cause that joins the first stop while it lasts (R221): OB_CAUSE with the same first cause, as a STATE frame built since that detection reports it. -/
def DoorCycle.joined (c : DoorCycle) (cause built : Word) : DoorCycle :=
  if c.obst = 1 ∧ 0 ≤ (built - c.detTime.setWidth 32).toInt ∧
      fget cause 31 28 = c.cause.toNat / 4096 then { c with cause := c.cause ||| causeHalf cause } else c

/-- Fold one kernel cycle into an open door cycle: the time in the present phase, what came with the STATE frame held, and the agreed switch, axis and
obstacle words. -/
def DoorCycle.fold (c : DoorCycle) (ck : Nat) (cls : Guarded) (x : Option PortalNote) (swWord axisFlags cause built : Word) : DoorCycle :=
  let c := c.joined cause built
  let ph := match phaseOf cls with
    | some i => modAt c.phases i fun n => n + (ck - c.lastAt)
    | none => c.phases
  let sat : Byte := BitVec.ofNat 8 (32 * b2n (wbit axisFlags 5 || wbit axisFlags 15 || wbit axisFlags 25))
  let c := { c with phases := ph, lastAt := ck, supply := c.supply ||| sat, swFaults := c.swFaults ||| BitVec.ofNat 8 (fget swWord 15 8) }
  match x with
  | some x => { c with vfldMin := min c.vfldMin x.vfld, vbusMin := min c.vbusMin x.vbus, lagMax := max c.lagMax x.lag, supply := c.supply ||| x.supply }
  | none => c

/-- What came with the latest STATE frame of a portal; none before the first. -/
def HostLink.noted (l : HostLink) : Option PortalNote := l.state.map fun _ => l.seen

/-- Fold the kernel cycle into the open door cycle of a portal. -/
def State.foldCycle (s : State) (p : PortalId) : State :=
  let cls := (s.sp p).cls
  let x := (s.link p).noted
  let sw := s.pword p 5
  let ax := s.pword p 6
  let ob := s.pword p 11
  let at_ := s.pword p 15
  s.modCycle p fun c => c.fold s.clock cls x sw ax ob at_

/-- Send a mark to the tally island. -/
def State.mark (s : State) (m : CycleMark) : State := { s with tally := { s.tally with marks := s.tally.marks ++ [m] } }

/-- Overwritten segments from before this moment are no longer of interest to a portal's stitch records (R444). -/
def State.forgetTraces (s : State) (p : PortalId) : State :=
  let old := fun (g : Group) => if g.portal = p.val then { g with past := g.past.filter fun x => decide (s.now ≤ x.ttrig) } else g
  { s with acq := { s.acq with groups := s.acq.groups.map old } }

/-- A door cycle opens (R441). -/
def State.openCycle (s : State) (p : PortalId) : State :=
  let q := s.sp p
  let c : DoorCycle :=
    { number := q.nextCycle, start := s.time.now, flags := 0, phases := [0, 0, 0, 0, 0], from_ := s.clock, lastAt := s.clock,
      vfldMin := 0xFFFF, vbusMin := 0xFFFF, cause := 0, obst := 0, revs := 0, swFaults := 0, supply := 0, mark := 0,
      marks := 0, detTime := 0, detPos := .all 0, cmpHits := 0, lagMax := 0 }
  let s := s.modSeq p fun q => { q with cycle := some c, nextCycle := q.nextCycle + 1 }
  ((s.forgetTraces p).foldCycle p).mark { portal := p, isEnd := false, cycle := q.nextCycle, time := s.time.now, incomplete := false }

/-! ### The record (R443, R444) -/

/-- Put a segment into a list that rises by TTRIG. -/
def insertTrace (x : TraceRef) : List TraceRef → List TraceRef
  | [] => [x]
  | y :: r => if x.ttrig < y.ttrig then x :: y :: r else y :: insertTrace x r

/-- Closed segments of the groups in TRACE_GROUPS of a portal with a TTRIG in the given span, in TTRIG order, those whose slot has been overwritten since
among them. -/
def State.traceRefs (s : State) (p : PortalId) (lo hi : Nat) : List TraceRef :=
  let t := s.policy.traceGroups
  let of := fun (n : Fin 16) =>
    let g := s.acq.groups.get n
    if Nat.testBit t n.val && g.portal == p.val then
      (g.past ++ g.closed.map fun x => ({ ttrig := x.ttrig, ident := segId n x.slot x.seq } : TraceRef)).filter fun x =>
          decide (lo ≤ x.ttrig) && decide (x.ttrig ≤ hi)
    else []
  (allGroups.flatMap of).foldl (fun l x => insertTrace x l) []

/-- The 128 bytes of a stitch record, INDEX, PREV_CRC and CRC left open. -/
def State.cycleRecord (s : State) (p : PortalId) (c : DoorCycle) (flags : Nat) (fault : Half) (cust : Nat) (cls : Guarded) : List Byte :=
  let refs := s.traceRefs p c.start.toNat s.now
  let flags := flags ||| c.flags.toNat ||| (4 * b2n (c.supply &&& 7 != 0)) ||| (128 * b2n (decide (3 < refs.length)))
  let tr := fun (i : Nat) => match refs[i]? with
    | some x => leBytes 4 x.ident.toNat
    | none => zeros 4
  let eff := (s.link p).seen.effort
  recordHead 1 p.val flags c.number s.serial ++ leBytes 8 c.start.toNat ++ leBytes 4 (min ((s.clock - c.from_) / 1000000) 0xFFFFFFFF) ++
    (c.phases.flatMap fun n => le16sat (n / 1000000)) ++ leBytes 1 cust ++ leBytes 1 cls.code ++
    (eff.toList.flatMap le16int) ++ le16sat c.vfldMin ++ le16sat c.vbusMin ++ leBytes 2 c.cause.toNat ++ leBytes 1 (min c.obst 255) ++
    leBytes 1 (min c.revs 255) ++ leBytes 2 fault.toNat ++ leBytes 4 (s.pword p 1).toNat ++ [c.swFaults, c.supply, c.mark] ++
    leBytes 1 (min c.marks 255) ++ leBytes 8 c.detTime.toNat ++ (c.detPos.toList.flatMap fun i => leBytes 4 (unsig 32 i)) ++
    le16sat c.cmpHits ++ le16sat c.lagMax ++ tr 0 ++ tr 1 ++ tr 2 ++ zeros 28

/-- FAULT_CODE of the record: KIND and cause of R431. -/
def faultCode (kind cause : Nat) : Half := BitVec.ofNat 16 (4096 * kind + cause % 256)

/-- The open door cycle of a portal ends: its record is staged, its summary is due, and the island is told (R441). With the island in COUNTING the record waits
for the SEQ that the end mark brings (R482). -/
def State.closeCycle (s : State) (p : PortalId) (flags : Nat) (fault : Half) (cust : Nat) (cls : Guarded) : State :=
  match (s.foldCycle p).sp p |>.cycle with
  | none => s
  | some c =>
    let s := s.foldCycle p
    let body := s.cycleRecord p c flags fault cust cls
    let s := { s with arch := s.arch.stageHeld body (s.tally.mode == TallyMode.counting) }
    let s := (s.modSeq p fun q => { q with cycle := none }).mark
      { portal := p, isEnd := true, cycle := c.number, time := s.time.now, incomplete := Nat.testBit flags 4 }
    let sum := match s.arch.recs.getLast? with
      | some r => [r.bytes]
      | none => []
    { s with seq := { s.seq with summaries := s.seq.summaries ++ sum } }

/-- The open door cycle of every portal ends INCOMPLETE: the part leaves SERVICE. -/
def State.closeAllCycles (s : State) (fault : Half) : State :=
  s.eachPortal fun s p => s.closeCycle p 16 fault (s.sp p).cust (s.sp p).cls

/-! ### What is folded in as it is reported (R442) -/

/-- A detection (EVENT 0x02). -/
def DoorCycle.detected (c : DoorCycle) (t : Dword) (cause : Word) (pos : Three Int) : DoorCycle :=
  let c := { c with obst := satInc c.obst 255, flags := c.flags ||| 1 }
  if c.obst = 1 then
    { c with cause := causeHalf cause, detTime := t, detPos := pos }
  else c

/-- A reversal completed (EVENT 0x04). -/
def DoorCycle.reversed (c : DoorCycle) : DoorCycle := { c with revs := satInc c.revs 255, flags := c.flags ||| 8 }

/-- A compare hit (EVENT 0x05). -/
def DoorCycle.compareHit (c : DoorCycle) : DoorCycle := { c with cmpHits := satInc c.cmpHits 0xFFFF }

/-- A record mark entered. -/
def DoorCycle.marked (c : DoorCycle) (m : Byte) : DoorCycle := { c with mark := m, marks := satInc c.marks 255 }

/-! ### The maintenance record (R291, R445) -/

/-- Stage a maintenance record: the pair (1 Pommel, 2 Cantle) and the cause class. -/
def State.maintenance (s : State) (pair cause : Nat) : State :=
  s.stageRecord (recordHead 2 0xFF 0 0 s.serial ++ leBytes 8 s.now ++ leBytes 1 pair ++ leBytes 1 cause ++ zeros 2 ++
    wordBytes [s.lock.awlLane, s.lock.misw, s.lock.misx, s.lock.awl, s.lock.swap] ++ zeros 80)

end Sys2Proof.Machine
end

