-- ==== Sys2Proof/Machine/Safe.lean ====
section
/-! DEFINITION. What the device state and the core pairs share: refusals of state commands (R42, R73), pair states (R279, R280), and entry
to SAFE (R45, R50, R66). -/

namespace Sys2Proof.Machine

/-! ### PSM_CMDSTAT (R73) -/

/-- A state command, or an arm, is refused. -/
def PsmState.refuse (x : PsmState) (why : Nat) : PsmState :=
  { x with cmdstat := fInc (fput (raise x.cmdstat 30) 19 16 why) 15 0 }

/-- A commanded transition is complete. -/
def PsmState.done (x : PsmState) : PsmState := { x with cmdstat := fput (raise x.cmdstat 31) 19 16 0 }

/-! ### Pair states -/

/-- Admission under R41 as R279 gives it with each state. -/
def admittedIn (old : Bool) : PairState → Bool
  | .lead => true
  | .shadow => true
  | .candidate => true
  | .stopped => old
  | _ => false

/-- A pair's record. -/
def State.pair (s : State) (i : PairId) : PairInfo := s.lock.pairs.pair i

/-- Change a pair's record. -/
def State.modPair (s : State) (i : PairId) (f : PairInfo → PairInfo) : State :=
  { s with lock := { s.lock with pairs := s.lock.pairs.setPair i (f (s.lock.pairs.pair i)) } }

/-- Raise a flag of LOCK_EVT. -/
def State.lockEvt (s : State) (bit : Nat) : State := { s with lock := { s.lock with evt := raise s.lock.evt bit } }

/-- A pair changes its state: SHADOW_LOST where it leaves SHADOW other than by promotion. -/
def State.movePair (s : State) (i : PairId) (st : PairState) : State :=
  let lost := (s.pair i).state == .shadow && st != .lead && st != .shadow
  let s := if lost then s.lockEvt 14 else s
  s.modPair i fun x => { x with state := st, admitted := admittedIn x.admitted st }

/-- A pair stops: entry to DORMANT, OFF or SAFE. A retired pair stays retired. -/
def State.stopPair (s : State) (i : PairId) : State := if (s.pair i).state == .retired then s else s.movePair i .stopped

/-- Both pairs stop. -/
def State.stopPairs (s : State) : State := (s.stopPair .pommel).stopPair .cantle

/-- LOCK_GRAFT.MS of the present run. -/
def State.graftMs (s : State) : Nat :=
  match s.lock.graft with
  | some g => min ((s.clock - g.from_) / 1000000) 0xFFFF
  | none => s.lock.graftMs

/-- A pair-scope SELFTEST ends otherwise than in SHADOW: its code of R293, GRAFT_FAIL, and the part is back in SERVICE. -/
def State.endGraft (s : State) (why : Nat) : State :=
  match s.lock.graft with
  | none => s
  | some _ =>
    let l := { s.lock with graftWhy := why, graftMs := s.graftMs, graft := none }
    let p := if s.psm.state == .selftest && s.psm.pairScope then { s.psm with state := .service, pairScope := false } else s.psm
    ({ s with lock := l, psm := p }).lockEvt 16

/-! ### SAFE (R45, R50, R66) -/

/-- The flag of a cause in PSM_SAFE; FIRST holds one more. -/
def safeBit : SafeCause → Nat
  | .noPair => 0
  | .pairDisagree => 1
  | .noImage => 2
  | .selftestFail => 3
  | .refLoss => 4

/-- The kernel's outputs for a portal when the kernel stops: nothing released, permitted or demanded. -/
def SeqPortal.quiet (q : SeqPortal) : SeqPortal :=
  { q with released := false, openPermit := false, soDemand := false, soOn := false, returnReady := false, hfLeaf := false, hfStep := false }

/-- The kernel stops: no portal is released, and what was pending at the pairs is dropped; portal commands that came as messages are
refused (R436). -/
def State.stopKernel (s : State) : State :=
  let left := (s.seq.pcmd.toList ++ s.seq.pcmdQueue).filter fun c => c.msg
  { s with seq := { s.seq with portals := s.seq.portals.map SeqPortal.quiet, word96 := 0, word98 := 0, pcmd := none, pcmdQueue := [], shown := none,
                               results := s.seq.results ++ left.map fun c => { cmd := c, why := 2 } },
           lock := { s.lock with plan := none, promoteWhy := 0, failedNow := 0, intrDue := false } }

/-- What SAFE makes of the state command at hand (R50): one accepted in the present kernel cycle is discarded and reported as PREEMPTED, its own
report undone; so is one that is still being carried out. -/
def State.preempt (s : State) : State :=
  let old := s.psm.accepted.filter fun a => s.clock - a.at_ ≤ 100000
  let b := s.psm.busy
  let s : State := { s with psm := { s.psm with accepted := none } }
  match old with
  | some a =>
    let s : State := { s with psm := ({ s.psm with cmdstat := a.cmdstat } : PsmState).refuse 11 }
    (match a.seq, b with
      | some q, none => s.answerCmd { src := a.src, msg := 8, seq := q, reason := 11, portal := 0 }
      | _, _ => s)
  | none => if b.isSome then { s with psm := s.psm.refuse 11 } else s

/-- What start-up came to is kept for the archive event records (R446). -/
def State.noteStartUp (s : State) : State :=
  { s with psm := { s.psm with startUp := ⟨s.psm.boot, s.psm.bootTime, s.fuse.vote, s.psm.safe⟩ } }

/-- The part enters SAFE, from any state but OFF, FUSE_FAIL and SAFE. A transition being carried out is given up. -/
def State.enterSafe (s : State) (c : SafeCause) : State :=
  match s.psm.state with
  | .off | .fuseFail | .safe => s
  | _ =>
    let s := s.closeAllCycles (faultCode 3 (safeBit c + 1))
    let s := match s.lock.graft with
      | some g => (s.endGraft 4).modPair g.pair fun x => { x with state := .failed, admitted := false }
      | none => s
    let s := s.stopKernel.stopPairs
    let s := if c = .pairDisagree then
        (s.modPair .pommel fun x => { x with admitted := false }).modPair .cantle fun x => { x with admitted := false }
      else s
    let s := s.answerState 11 |>.preempt
    let p := s.psm
    let p := { p with state := .safe, pairScope := false, busy := none,
                      safe := fput (raise p.safe (safeBit c)) 11 8 (safeBit c + 1) }
    let t := ({ s with psm := p, harn := { s.harn with recovery := false } } : State)
    (if s.psm.state = .boot then t.noteStartUp else t).stopLinks 1

end Sys2Proof.Machine
end

