-- ==== Sys2Proof/Machine/Redundant.lean ====
section
/-! DEFINITION. Redundant execution (R267 to R293): the failure of a pair, promotion and swaps, the cross-pair comparison, fingerprints,
the awl test, the agreement of inputs, and the return of a pair. -/

namespace Sys2Proof.Machine

/-! ### A pair declared failed (R273, R280, R284) -/

/-- Bit of a pair: Pommel's, or Cantle's one below. -/
def pairBit (hi : Nat) : PairId → Nat
  | .pommel => hi
  | .cantle => hi - 1

/-- Code of a pair in LOCK_MISW and LOCK_FPRINT. -/
def pairCode : PairId → Nat
  | .pommel => 1
  | .cantle => 2

/-- The flag of a reason for failure: mismatch, checker non-code, fabric copy mismatch, non-code crossing. -/
def failBit (i : PairId) : Nat → Nat
  | 1 => pairBit 31 i
  | 2 => pairBit 29 i
  | 3 => pairBit 27 i
  | _ => 25

/-- A failure counted: at 4 the pair is retired. -/
def State.countFail (s : State) (i : PairId) : State :=
  let n := satInc (s.pair i).fails 15
  let s := s.modPair i fun x => { x with fails := n }
  if 4 ≤ n then (s.movePair i .retired).lockEvt 15 else s

/-- The other pair is a clean SHADOW. -/
def State.cleanShadow (s : State) (i : PairId) : Bool := (s.pair i).state == .shadow && s.lock.xdisRun == 0

/-- The lead has been declared failed: promotion awaits the next boundary, or the part enters SAFE. -/
def State.leadFailed (s : State) (i : PairId) (why : Nat) : State :=
  let o := i.other
  if s.lock.graft.isSome || (s.pair o).state != .shadow then s.enterSafe .noPair
  else if s.lock.xdisRun != 0 then s.enterSafe .pairDisagree
  else { s with lock := { s.lock with promoteWhy := why, plan := none } }

/-- A pair is declared failed: reason 1 lockstep mismatch, 2 checker non-code, 3 fabric copy mismatch, 4 non-code crossing. -/
def State.declareFailed (s : State) (i : PairId) (why : Nat) : State :=
  let st := (s.pair i).state
  if !st.runs then s
  else
    let s := (s.lockEvt (failBit i why)).movePair i .failed
    let s := s.modPair i fun x => { x with failedSince := true }
    let s := s.countFail i
    let s := { s with lock := { s.lock with failedNow := putBit s.lock.failedNow (pairCode i - 1) true } }
    if st.leads then s.leadFailed i why
    else if st == .candidate then s.endGraft 3
    else if s.lock.promoteWhy != 0 then s.enterSafe .noPair
    else s

/-! ### The MISR and its windows (R269, R270) -/

/-- The 112 bus outputs of a core folded onto 32 lanes. The manual does not say which outputs meet on a lane: DESIGN CHOICE, output `i` goes to lane
`i mod 32` (log 212). -/
def laneFold (x : BitVec 112) : Word :=
  x.setWidth 32 ^^^ (x >>> (32 : Nat)).setWidth 32 ^^^ (x >>> (64 : Nat)).setWidth 32 ^^^ (x >>> (96 : Nat)).setWidth 32

/-- One core cycle of the 32-bit MISR with the CRC-32C polynomial. The manual does not say which way it shifts: DESIGN CHOICE, as the CRC does (log 212). -/
def misrStep (m lanes : Word) : Word := ((m >>> (1 : Nat)) ^^^ (if wbit m 0 then 0x82F63B78 else 0)) ^^^ lanes

/-- The signature of a window. -/
def misrSign (l : List (BitVec 112)) : Word := l.foldl (fun m x => misrStep m (laneFold x)) 0xFFFFFFFF

/-- The outputs of the leading core as they leave the two-stage output delay register, and the register afterwards. -/
def delayed (d : Two (BitVec 112)) (l : List (BitVec 112)) : List (BitVec 112) × Two (BitVec 112) :=
  let all := d.snd :: d.fst :: l
  let rest := (all.drop l.length).take 2
  (all.take l.length, ⟨rest.getD 1 0, rest.getD 0 0⟩)

/-- The signatures of the leading and the trailing core at the end of a window. -/
def PairCores.signs (c : PairCores) (w : MisrWindow) : Word × Word := (misrSign (delayed c.outDelay w.lead).1, misrSign w.trail)

/-- What the two-rail checker puts out at the end of a window: 0b01 for equal signatures, 0b10 for others, unless a fault holds its rails. -/
def PairCores.rails (c : PairCores) (w : MisrWindow) : BitVec 2 :=
  w.rails.getD (if (c.signs w).1 = (c.signs w).2 then 1 else 2)

/-- Why a window fails a pair; 0 where its writes may leave the pair: 1 lockstep mismatch, also of a write of which the two cores' copies differ; 2
checker non-code; 4 non-code crossing. -/
def PairCores.windowWhy (c : PairCores) (w : MisrWindow) : Nat :=
  if c.rails w = 1 then (if w.writes.any fun x => x.1 != x.2 then 1 else if w.crossingNonCode then 4 else 0)
  else if c.rails w = 2 then 1 else 2

/-- LOCK_MISW and LOCK_MISX of a failing window (R273). -/
def State.recordWindow (s : State) (i : PairId) (window : Nat) (xor : Word) : State :=
  { s with lock := { s.lock with misw := fmk 31 30 (pairCode i) ||| fmk 24 9 (s.seq.cycle.toNat % 65536) ||| fmk 8 0 window, misx := xor } }

/-- The window of 64 core cycles at 300 MHz, counted from the latest cycle boundary, in which the present moment falls. -/
def State.windowNow (s : State) : Nat := min 468 ((s.clock - s.lock.boundaryAt) * 3 / 640)

/-- The end of a MISR window: equal codes and equal words let the writes pass. -/
def State.misrWindow (s : State) (i : PairId) (w : MisrWindow) : State :=
  if !(s.pair i).state.runs then s
  else
    let c := s.lock.cores.pair i
    let why := c.windowWhy w
    let s : State := { s with lock := { s.lock with cores := s.lock.cores.setPair i { c with outDelay := (delayed c.outDelay w.lead).2 } } }
    if why = 0 then s else (s.recordWindow i w.window.toNat ((c.signs w).1 ^^^ (c.signs w).2)).declareFailed i why

/-- The two fabric copies of a pair drove a destination differently (R93, R273). The cores' signatures of the window are equal, or the window itself
fails the pair: DEDUCED, LOCK_MISX reads 0 (log 213). -/
def State.fabricFailed (s : State) (i : PairId) : State := (s.recordWindow i s.windowNow 0).declareFailed i 3

/-! ### Promotion and swaps (R282, R287, R288) -/

/-- LOCK_SWAP and LOCK_SWAPT at a change of the lead role; the destinations follow the new lead. -/
def State.noteSwap (s : State) (cause : Nat) (fromC : Bool) : State :=
  let i : PairId := if fromC then .pommel else .cantle
  let s := s.routeTo i
  let w := s.lock.swap
  let w := fmk 31 28 cause ||| bitIf 27 fromC ||| fmk 23 16 (satInc (fget w 23 16) 255) ||| fmk 15 0 (fget w 15 0)
  { s with lock := { s.lock with swap := w, swapT := s.time.now, intrDue := true, held := some i } }

/-- The boundary after the lead failed: the clean shadow leads. -/
def State.promote (s : State) : State :=
  let why := s.lock.promoteWhy
  let go := fun (i : PairId) =>
    let s := ((s.movePair i .lead).lockEvt 20).noteSwap why (i == .pommel)
    ({ s with lock := { s.lock with promoteWhy := 0 } } : State)
  if why = 0 then s
  else if (s.pair .pommel).state == .shadow then go .pommel
  else if (s.pair .cantle).state == .shadow then go .cantle
  else s

/-- A quiet point: no axis of a portal in use moves, and none has a stop, reversal or limp jog in progress (R287). -/
def State.quietPoint (s : State) : Bool :=
  allPortals.all fun p => !s.inUse p ||
    (fget ((s.link p).word 0) 30 28 == 0 && !wbit ((s.link p).word 6) 1 && !wbit ((s.link p).word 6) 11 && !wbit ((s.link p).word 6) 21)

/-- A planned or commanded swap that is due at this boundary is carried out. While the other pair is CANDIDATE the plan waits for it to become SHADOW;
with no clean shadow to take over, a suspect lead goes on and ACTION_REQ is set. -/
def State.planSwap (s : State) : State :=
  match s.lock.plan, s.lock.lead with
  | some q, some i =>
    let o := i.other
    if (s.pair o).state == .candidate then s
    else if (s.pair o).state != .shadow then
      { s with lock := { s.lock with plan := none, actionReq := s.lock.actionReq || q.latent } }
    else if !s.cleanShadow o then { s with lock := { s.lock with actionReq := s.lock.actionReq || q.latent } }
    else if q.due || s.quietPoint then
      let s := (s.movePair o .lead).movePair i (if q.latent then .suspect else .shadow)
      let s := (s.lockEvt 19).noteSwap (if q.latent then 5 else 6) (i == .cantle)
      { s with lock := { s.lock with plan := none } }
    else s
  | _, _ => s

/-- The 1 s deadline of a planned swap has come. -/
def State.planDeadline (s : State) : State :=
  { s with lock := { s.lock with plan := s.lock.plan.map fun q => { q with due := true } } }

/-! ### The cross-pair comparison (R283, R284) -/

/-- The comparison of a candidate: three clean ones in a row make it SHADOW. -/
def State.candidateSig (s : State) (g : Graft) (x : XSig) : State :=
  match x with
  | .equal =>
    if g.clean < 2 then { s with lock := { s.lock with graft := some { g with clean := g.clean + 1 }, xsig := fInc s.lock.xsig 7 0 } }
    else
      let s := { s with lock := { s.lock with xsig := fInc s.lock.xsig 7 0, graftWhy := 0, graftMs := s.graftMs, graft := none },
                        psm := { s.psm with state := .service, pairScope := false } }
      (s.movePair g.pair .shadow).lockEvt 17
  | .differ =>
    let s := { s with lock := { s.lock with xsig := fput (fInc s.lock.xsig 31 16) 7 0 0 } }
    (((s.movePair g.pair .failed).modPair g.pair fun y => { y with failedSince := true }).countFail g.pair).endGraft 3
  | .nonCode =>
    ({ s with lock := { s.lock with graft := some { g with clean := 0 }, xsig := fput s.lock.xsig 7 0 0 } }).lockEvt 21

/-- The comparison of a shadow. -/
def State.shadowSig (s : State) (o : PairId) (x : XSig) : State :=
  let l := s.lock
  match x with
  | .equal =>
    if l.xdisRun = 0 then { s with lock := { l with xsig := fInc l.xsig 7 0 } }
    else ({ s with lock := { l with xdisRun := 0, xsig := fput l.xsig 7 0 0 } }).movePair o .suspect
  | .differ =>
    let n := l.xdisRun + 1
    let s := { s with lock := { l with xdisRun := n, xsig := fput (fInc l.xsig 31 16) 7 0 0 } }
    let s := if n = 1 then s.lockEvt 22 else s
    if 4 ≤ n then s.enterSafe .pairDisagree else s
  | .nonCode =>
    (({ s with lock := { l with xsig := fput l.xsig 7 0 0, actionReq := true } }).lockEvt 21).movePair o .suspect

/-- What the two-rail cross-pair checker puts out, the lead having formed signature `own`. -/
def crossResult (x : XCheck) (own : Word) : XSig :=
  let other := own ^^^ x.diff
  match x.rails.getD (if own = other then 1 else 2) with
  | 1 => .equal
  | 2 => .differ
  | _ => .nonCode

/-- A checker non-code in a cycle in which a pair was declared failed: a pair still in SHADOW becomes SUSPECT as in any cycle (R283), and cannot then
take over from a lead that failed: no admitted shadow remains (R280, R284). -/
def State.explainedNonCode (s : State) : State :=
  let s := ({ s with lock := { s.lock with xsig := fput s.lock.xsig 7 0 0 } }).lockEvt 21
  let go := fun (i : PairId) =>
    let s := ({ s with lock := { s.lock with actionReq := true } }).movePair i .suspect
    if s.lock.promoteWhy != 0 then s.enterSafe .noPair else s
  if (s.pair .pommel).state == .shadow then go .pommel else if (s.pair .cantle).state == .shadow then go .cantle else s

/-- The comparison in a cycle in which a pair was declared failed: the failure explains a difference, which is counted all the same (R284). -/
def State.explainedSig (s : State) (x : XSig) : State :=
  let s : State := { s with lock := { s.lock with xdisRun := 0 } }
  match x with
  | .equal => s
  | .differ => { s with lock := { s.lock with xsig := fput (fInc s.lock.xsig 31 16) 7 0 0 } }
  | .nonCode => s.explainedNonCode

/-- The comparison at the end of a kernel cycle. -/
def State.crossCompare (s : State) (k : XCheck) : State :=
  let x := crossResult k s.lock.sig
  if s.lock.failedNow != 0 then s.explainedSig x
  else
    match s.lock.lead, s.lock.graft with
    | some i, some g => if (s.pair i.other).state == .candidate then s.candidateSig g x else s
    | some i, none =>
      if (s.pair i.other).state == .shadow then s.shadowSig i.other x else { s with lock := { s.lock with xdisRun := 0 } }
    | none, _ => s

/-! ### Fingerprints (R286) -/

/-- A latent difference within a pair: WHERE [2] fabric, [1] private SRAM, [0] register file. -/
def State.latent (s : State) (i : PairId) (wh : Nat) : State :=
  if wh = 0 ∨ !(s.pair i).state.runs then s
  else
    let s := { s with lock := { s.lock with fprint := fput (fput s.lock.fprint 6 4 wh) 1 0 (pairCode i) } }
    let s := s.lockEvt (pairBit 24 i)
    match (s.pair i).state with
    | .lead =>
      let s := s.movePair i .leadSuspect
      let plan : PlannedSwap := { latent := true, since := s.clock, due := false }
      if (s.pair i.other).state == .shadow then
        { s with lock := { s.lock with plan := some plan, actionReq := s.lock.actionReq || !s.cleanShadow i.other } }
      else if (s.pair i.other).state == .candidate then { s with lock := { s.lock with plan := some plan, actionReq := true } }
      else { s with lock := { s.lock with plan := none, actionReq := true } }
    | .shadow => s.movePair i .suspect
    | _ => s

/-- A core's private SRAM as bytes: the kernel's data, then the sections of the image copy. -/
def CoreState.bytes (c : CoreState) : List Byte :=
  wordBytes c.data ++ match c.image with
    | some g => g.header ++ g.sections.flatMap fun x => x.payload
    | none => []

/-- WHERE of a pair's differences: [2] fabric, [1] private SRAM, [0] register file. -/
def State.fpWhere (s : State) (d : FpDiff) (i : PairId) : Nat :=
  let c := s.lock.cores.pair i
  let sram := if c.lead = c.trail then d.sram.pair i else crc32c c.lead.bytes ^^^ crc32c c.trail.bytes ^^^ d.sram.pair i
  bitsOf [d.regs.pair i != 0, sram != 0, s.fabricPrint i != 0]

/-- The XOR of the kernel-state fingerprints of the two pairs. -/
def State.kernelPrint (s : State) (d : FpDiff) : Word :=
  let a := s.lock.cores.fst.lead.data
  let b := s.lock.cores.snd.lead.data
  if a = b then d.kernel else crc32c (wordBytes a) ^^^ crc32c (wordBytes b) ^^^ d.kernel

/-- A difference of the kernel state across the pairs makes the shadow suspect. -/
def State.kernelDiff (s : State) : State :=
  match s.lock.lead with
  | some i =>
    if (s.pair i.other).state == .shadow then
      ({ s with lock := { s.lock with fprint := fput (fput s.lock.fprint 6 4 0) 1 0 3 } }).movePair i.other .suspect
    else s
  | none => s

/-- A fingerprint comparison. -/
def State.fingerprints (s : State) (d : FpDiff) : State :=
  if s.lock.lead.isNone then s
  else
    let w := s.lock.fprint
    let across := s.kernelPrint d != 0
    let p := s.fpWhere d .pommel
    let c := s.fpWhere d .cantle
    let s := { s with lock := { s.lock with fprint := fput w 31 16 ((fget w 31 16 + 1) % 65536) } }
    let s := (s.latent .pommel p).latent .cantle c
    if across then s.kernelDiff else s

/-! ### LOCK_CTL (R277, R288) -/

/-- A LOCK_CTL command is refused. -/
def State.lockErr (s : State) (why : Nat) : State := { s with lock := { s.lock with ctlStat := fput (raise s.lock.ctlStat 30) 3 0 why } }

/-- A LOCK_CTL command is accepted. -/
def State.lockOk (s : State) : State := { s with lock := { s.lock with ctlStat := fput (raise s.lock.ctlStat 31) 3 0 0 } }

/-- SWAP. -/
def State.ctlSwap (s : State) (key : Byte) : State :=
  if key ≠ 0xA7 then s.lockErr 1
  else if s.psm.state ≠ .standby ∧ s.psm.state ≠ .service then s.lockErr 2
  else if s.lock.plan.isSome then s.lockErr 4
  else
    match s.lock.lead with
    | some i =>
      if (s.pair i).state == .lead && s.cleanShadow i.other then
        ({ s with lock := { s.lock with plan := some { latent := false, since := s.clock, due := false } } }).lockOk
      else s.lockErr 3
    | none => s.lockErr 3

/-- No input word is faulty any more. -/
def LockState.clearInfault (l : LockState) : LockState := { l with infault := 0, runs := List.replicate 128 0 }

/-- CLEAR_INFAULT. -/
def State.ctlClearInfault (s : State) (key : Byte) : State :=
  if key ≠ 0xA7 then s.lockErr 1
  else if s.psm.state ≠ .maintain then s.lockErr 2
  else ({ s with lock := s.lock.clearInfault }).lockOk

/-! ### The awl test (R289 to R291, R281) -/

/-- Steps 1 to 5 passed. -/
def awlPass (r : AwlRun) : Bool := r.lanes == 0 && r.delayBit.isNone && !r.checkerFail && !r.fabricFail && !r.burnishFail

/-- The result byte of LOCK_AWL. -/
def awlByte (r : AwlRun) : Nat :=
  128 + 64 * b2n (awlPass r) + 32 * b2n (r.lanes != 0) + 16 * b2n r.delayBit.isSome + 8 * b2n r.checkerFail + 4 * b2n r.fabricFail +
    2 * b2n r.burnishFail

/-- LOCK_AWLLANE of a failing pair: the bit position of step 2, else the lanes of step 1. -/
def awlLaneOf (r : AwlRun) : Word :=
  match r.delayBit with
  | some n => BitVec.ofNat 32 n
  | none => r.lanes

/-- Cause class of R291. -/
def awlCause (r : AwlRun) (again : Bool) : Nat :=
  if again then 4 else if r.checkerFail then 1 else if r.delayBit.isSome then 2 else if r.lanes != 0 then 3 else 4

/-- After a failure the awl that covers the pair writes the maintenance record; a pair that passes is remembered. -/
def State.awlRecord (s : State) (i : PairId) (r : AwlRun) (ok : Bool) : State :=
  let x := s.pair i
  if !x.failedSince then s
  else
    (s.maintenance (pairCode i) (awlCause r x.passedAfter)).modPair i fun x => { x with failedSince := false, passedAfter := x.passedAfter || ok }

/-- The results of an awl run of both pairs in LOCK_AWL, LOCK_AWLLANE and PSM_BOOT.AWL_FAIL; a retired pair is absent. -/
def State.awlNote (s : State) (p c : AwlRun) (xRan xFail : Bool) : State :=
  let hasP := (s.pair .pommel).state != .retired
  let hasC := (s.pair .cantle).state != .retired
  let failP := hasP && !awlPass p
  let failC := hasC && !awlPass c
  let w := fmk 31 24 (if hasP then awlByte p else 0) ||| fmk 23 16 (if hasC then awlByte c else 0) ||| bitIf 15 xRan ||| bitIf 14 (xRan && xFail)
  let lane := if failP then awlLaneOf p else if failC then awlLaneOf c else 0
  { s with lock := { s.lock with awl := w, awlLane := lane },
           psm := { s.psm with boot := putBit (putBit s.psm.boot 3 failC) 2 failP } }

/-- Both cores of a pair hold the active image in their private SRAM (R267). -/
def State.loadCores (s : State) (i : PairId) : State :=
  let c := s.lock.cores.pair i
  let c := { c with lead := { c.lead with image := s.harn.image }, trail := { c.trail with image := s.harn.image } }
  { s with lock := { s.lock with cores := s.lock.cores.setPair i c } }

/-- The lead's cores and fabric copies are copied to a pair (R292, steps 3 and 4). -/
def State.copyPair (s : State) (src dst : PairId) : State :=
  { s with lock := { s.lock with cores := s.lock.cores.setPair dst (s.lock.cores.pair src) },
           fabric := { s.fabric with pairs := s.fabric.pairs.setPair dst (s.fabric.pairs.pair src) } }

/-- A pair that passed the awl starts from the kernel data and the fabric state of pair `src`, and holds the active image: both pairs then evaluate every
cycle alike (R282). The spec does not say from which pair they start: DESIGN CHOICE, the one that led last, if it passed, else the new lead (log 252). -/
def State.matchTo (s : State) (src : Option PairId) (i : PairId) : State :=
  match src with
  | some j => (if j = i then s else s.copyPair j i).loadCores i
  | none => s.loadCores i

/-- The end of an awl run that is not pair scope: the lead is chosen (R281), the other passing pair shadows it, or is suspect where step 6
failed; a pair that fails is FAILED. -/
def State.awlBoth (s : State) (p c : AwlRun) (xFail : Bool) (prefer : Option PairId) : State :=
  let okP := (s.pair .pommel).state != .retired && awlPass p
  let okC := (s.pair .cantle).state != .retired && awlPass c
  let s := s.awlNote p c true xFail
  let covered := fun (s : State) (i : PairId) (r : AwlRun) (ok : Bool) => if (s.pair i).state == .retired then s else s.awlRecord i r ok
  let s := covered (covered s .pommel p okP) .cantle c okC
  let ok : PairId → Bool := fun i => if i = .pommel then okP else okC
  let lead := match prefer with
    | some i => if ok i then some i else if okP then some .pommel else if okC then some .cantle else none
    | none => if okP then some .pommel else if okC then some .cantle else none
  let other : PairState := if xFail then .suspect else .shadow
  let src := (if s.lock.held.all ok then s.lock.held else none).or lead
  let put := fun (s : State) (i : PairId) =>
    if (s.pair i).state == .retired then s
    else
      let st := if !ok i then .failed else if lead == some i then .lead else other
      (if ok i then s.matchTo src i else s).modPair i fun x => ({ x with state := st, admitted := admittedIn false st } : PairInfo)
  let s := put (put s .pommel) .cantle
  { s with lock := { s.lock with held := lead.or s.lock.held, xdisRun := 0, xsig := fput s.lock.xsig 7 0 0, plan := none, promoteWhy := 0, failedNow := 0,
                                 intrDue := false, lastBurst := s.clock } }

/-- Both pairs are under test. -/
def State.pairsToTest (s : State) : State :=
  let go := fun (s : State) (i : PairId) => if (s.pair i).state == .retired then s else s.movePair i .test
  go (go s .pommel) .cantle

/-! ### Bringing a pair back (R292, R293) -/

/-- The pair-scope awl ends: the graft starts, or the pair fails. -/
def State.pairAwl (s : State) (r : AwlRun) (xFail : Bool) : State :=
  match s.lock.graft with
  | none => s
  | some g =>
    if g.step ≠ 1 then s
    else
      let ok := awlPass r && !xFail
      let byte := awlByte r - (if xFail && awlPass r then 64 else 0)
      let w := (match g.pair with
        | .pommel => fmk 31 24 byte
        | .cantle => fmk 23 16 byte) ||| bitIf 15 true ||| bitIf 14 xFail
      let bit := match g.pair with
        | .pommel => 2
        | .cantle => 3
      let s := { s with lock := { s.lock with awl := w, awlLane := if awlPass r then 0 else awlLaneOf r },
                        psm := { s.psm with boot := putBit s.psm.boot bit (!ok) } }
      let s := s.awlRecord g.pair r ok
      if ok then { s with lock := { s.lock with graft := some { g with step := 2, awlAt := s.clock } } }
      else (s.movePair g.pair .failed |>.countFail g.pair).endGraft 1

/-- At a cycle boundary with no marked line left the final synchronisation takes place, beside an admitted lead (R280): the pair is CANDIDATE. -/
def State.graftSync (s : State) (clean : Bool) : State :=
  match s.lock.graft with
  | some g =>
    if g.step = 2 ∧ clean ∧ (s.pair g.pair.other).state = .lead then
      ({ s.copyPair g.pair.other g.pair with lock := { (s.copyPair g.pair.other g.pair).lock with graft := some { g with step := 4, clean := 0 } } }).movePair
        g.pair .candidate
    else s
  | none => s

/-- 20 ms after the awl without final synchronisation: the pair is back in its state before the test. -/
def State.graftTimeout (s : State) : State :=
  match s.lock.graft with
  | some g => if g.step = 2 ∨ g.step = 3 then (s.modPair g.pair fun x => { x with state := x.before }).endGraft 2 else s
  | none => s

/-! ### Agreed inputs (R275 to R278) -/

/-- LOCK_AGREE after word `n` has differed. -/
def agreeNote (w : Word) (n run : Nat) : Word := fput (fput (fInc w 31 16) 14 8 n) 4 0 run

/-- RUN of LOCK_AGREE returns to 0 where the word it tells of agrees. -/
def agreeAgain (w : Word) (agrees : Nat → Bool) : Word := if agrees (fget w 14 8) then fput w 4 0 0 else w

/-- The words that some voting core captured otherwise than the leading core of the lead pair: the synchronisers resolved them so, or they are the shadow's
own fabric exports (R275). The cores of pairs in LEAD, LEAD_SUSPECT and SHADOW vote (R278). -/
def State.dissent (s : State) (dis : Two (Two (BitVec 128))) : BitVec 128 :=
  let of := fun (i : PairId) =>
    let d := dis.pair i
    if (s.pair i).state.leads then d.snd
    else if (s.pair i).state == .shadow then d.fst ||| d.snd ||| exportDiff (s.exports i.other) (s.exports i) else 0
  of .pommel ||| of .cantle

/-- The agreement of the vector at a cycle boundary: the captures that differ count a run of their word, a word that agrees ends its run, and
the sixteenth in a row declares the word faulty from the next cycle on. -/
def State.agree (s : State) (dis : Two (Two (BitVec 128))) : State :=
  let l := s.lock
  let m := s.dissent dis
  let d := fun (n : Nat) => wbit m n && !wbit l.infault n
  let runs := l.runs.mapIdx fun n r => if wbit l.infault n then r else if d n then min 16 (r + 1) else 0
  let faulty := (List.range 128).filter fun n => d n && decide (15 ≤ l.runs.getD n 0)
  let agreed := (List.range 128).map fun n => agreedWord l.infault n (s.capture n)
  let note := ((List.range 128).filter d).foldl (fun w n => agreeNote w n (runs.getD n 0)) (agreeAgain l.agree fun n => !d n && !wbit l.infault n)
  let s := { s with seq := { s.seq with agreed := agreed },
                    lock := { l with runs := runs, agree := note, infault := faulty.foldl (fun w n => putBit w n true) l.infault } }
  if faulty.isEmpty then s else s.lockEvt 18

end Sys2Proof.Machine
end

