-- ==== Sys2Proof/Machine/Kernel.lean ====
section
/-! DEFINITION. The Orozia door kernel (R111 to R143): the roles, the release guard, the guarded states and their transitions, the outputs,
and the kernel cycle with its burst of COMMAND and KEEPER frames (R271, R304, R317). -/

namespace Sys2Proof.Machine

/-! ### The state table (R122 to R127) -/

/-- A state record (R124) as its section version reads it (R126). -/
structure SeqRec where
  cls : Guarded
  flags : Nat
  motion : Three Byte
  swSet : Byte
  swClr : Byte
  out : Byte
  timeout : Nat
  mark : Byte
  deriving DecidableEq, Repr

/-- A transition record (R125). -/
structure TransRec where
  from_ : Nat
  dest : Nat
  condA : Nat
  condB : Nat
  prio : Nat
  deriving DecidableEq, Repr

/-- The state-table unit of portal `p` and the version of its section. -/
def State.seqTable (s : State) (p : PortalId) : List Byte × Nat :=
  match s.harn.image with
  | some g => (g.unitBytes tagSEQT 0 (16 + p.val), g.ver tagSEQT)
  | none => ([], 0)

/-- State record `i`. -/
def seqRec (t : List Byte × Nat) (i : Nat) : SeqRec :=
  let r := slice t.1 (16 + 16 * i) 16
  let r := if t.2 = 1 then r.take 7 ++ zeros 9 else r
  { cls := guardedOf (rd8 r 0), flags := rd8 r 1, motion := ⟨r.getD 2 0, r.getD 3 0, r.getD 4 0⟩, swSet := r.getD 5 0, swClr := r.getD 6 0,
    out := r.getD 7 0, timeout := rd16 r 8, mark := r.getD 10 0 }

/-- Transition record `i`. -/
def transRec (t : List Byte × Nat) (i : Nat) : TransRec :=
  let r := slice t.1 (16 + 16 * rd8 t.1 0 + 8 * i) 8
  { from_ := rd8 r 0, dest := rd8 r 1, condA := rd16 r 2, condB := if t.2 < 3 then 0 else rd16 r 4, prio := rd8 r 6 }

/-- ENTRY of a guarded state code 0 to 7. -/
def seqEntry (t : List Byte × Nat) (code : Nat) : Nat := rd8 t.1 (4 + code)

/-- Put a transition into a list ordered by PRIO, equal ones in record order. -/
def insertTrans (x : TransRec) : List TransRec → List TransRec
  | [] => [x]
  | y :: r => if x.prio < y.prio then x :: y :: r else y :: insertTrans x r

/-- The transitions from a customer state, by PRIO and then by record index (R131). -/
def transFrom (t : List Byte × Nat) (i : Nat) : List TransRec :=
  (((List.range (rd16 t.1 2)).map (transRec t)).filter fun x => x.from_ == i).foldl (fun l x => insertTrans x l) []

/-- Bit `b` of the kernel input word as agreed. -/
def SeqState.inBit (q : SeqState) (b : Nat) : Bool := wbit (q.agreed.getD (b / 32) 0) (b % 32)

/-- One condition: its bit, or its complement where NEG is set. -/
def SeqState.cond (q : SeqState) (c : Nat) : Bool := q.inBit (c % 1024) != Nat.testBit c 14

/-- The conditions of a transition hold (R125). -/
def SeqState.holds (q : SeqState) (t : TransRec) : Bool :=
  let va := Nat.testBit t.condA 15
  let vb := Nat.testBit t.condB 15
  (va || vb) && (!va || q.cond t.condA) && (!vb || q.cond t.condB)

/-! ### Roles (R113) -/

/-- How a role reads. -/
inductive RoleLevel where
  | made
  | broken
  | split
  deriving DecidableEq, Repr

/-- How a role of portal `p` reads in the agreed inputs: a channel that reports open wire counts as open, and a portal die that reports no
input with a CLS or LCK role holds no input records. -/
def State.role (s : State) (p : PortalId) (r : Role) : RoleLevel :=
  let table := match s.harn.image with
    | some g => g.unitBytes tagIOMP 0 (16 + p.val)
    | none => []
  let w := s.pword p 4
  let l := if fget (s.pword p 1) 31 16 = 0 then [] else (List.range 16).filter fun n => rd8 table n % 16 == roleCode r
  let n := l.countP fun n => wbit w n && !wbit w (16 + n)
  if n = 0 then .broken else if n = l.length then .made else .split

/-- A role is made. -/
def State.isMade (s : State) (p : PortalId) (r : Role) : Bool := s.role p r == .made

/-- CLS, LCK and STR are made. -/
def State.allMade (s : State) (p : PortalId) : Bool := s.isMade p .cls && s.isMade p .lck && s.isMade p .str

/-- Position of a role among the four. -/
def roleIdx : Role → Fin 4
  | .cls => 0
  | .lck => 1
  | .str => 2
  | .iso => 3

/-- How long each role has been split, and CLS and LCK made (R113, R138). -/
def SeqPortal.track (q : SeqPortal) (ck : Nat) (lv : Role → RoleLevel) : SeqPortal :=
  let one := fun (q : SeqPortal) (r : Role) =>
    let i := roleIdx r
    if lv r == .split then { q with splitAt := q.splitAt.set i (some ((q.splitAt.get i).getD ck)) }
    else { q with splitAt := q.splitAt.set i none, disc := putBit q.disc i.val false }
  let q := [Role.cls, Role.lck, Role.str, Role.iso].foldl one q
  if lv .cls == .made && lv .lck == .made then { q with agreeAt := some (q.agreeAt.getD ck) }
  else { q with agreeAt := none, agreed500 := false }

/-! ### The release guard (R115) -/

/-- The states in which no release guard holds. -/
def Guarded.held (g : Guarded) : Bool := g == .isolated || g == .limp || g == .lockedOut || g == .fault

/-- The states that belong to the portal die until they are left by adoption. -/
def Guarded.portalHeld (g : Guarded) : Bool := g == .limp || g == .lockedOut || g == .fault

/-- The release guard of portal `p` in guarded state `g`, `rel` telling whether it is released. -/
def State.guard (s : State) (p : PortalId) (g : Guarded) (rel : Bool) : Bool :=
  s.seq.inBit 0 && s.seq.inBit 1 && s.seq.inBit (4 + p.val) && s.inService && rel && !g.held

/-! ### Entering states -/

/-- A transition is blocked (R129). -/
def State.block (s : State) (p : PortalId) (why frm dest : Nat) : State :=
  let w := s.seq.block
  let w := bitIf 31 true ||| fmk 29 28 p.val ||| fmk 27 24 why ||| fmk 23 18 frm ||| fmk 17 12 dest ||| fmk 11 0 (satInc (fget w 11 0) 4095)
  ({ s with seq := { s.seq with block := w } }).modSeq p fun q => { q with blocked := true }

/-- Raise a flag of SEQ_EVT for a portal: the field's lowest bit is `lo`. -/
def State.seqEvt (s : State) (p : PortalId) (lo : Nat) : State := { s with seq := { s.seq with evt := raise s.seq.evt (lo + p.val) } }

/-- Entry of the profile directory of portal `p`. -/
def State.profEntry (s : State) (p : PortalId) (n : Nat) : Nat :=
  match s.harn.image with
  | some g => rd8 (g.profDir p.val) n
  | none => 0

/-- A motion lies within its guarded state (R111, R120): keep always; a controlled stop where the table names it; a profile of the
state's direction that names the axis. -/
def State.motionFits (s : State) (p : PortalId) (g : Guarded) (a : Nat) (b : Byte) : Bool :=
  match motionOp b with
  | 0 => true
  | 1 =>
    let d := s.profEntry p (motionProf b)
    decide (128 ≤ d) && Nat.testBit d a && ((g == .opening && !Nat.testBit d 6) || (g == .closing && Nat.testBit d 6))
  | 2 => g == .closedLocked || g == .unlocking || g == .opened || g == .locking
  | _ => false

/-- New MOTION bytes: MSEQ moves on where they order something (R304). -/
def SeqPortal.setMotion (q : SeqPortal) (m : Three Byte) : SeqPortal :=
  { q with motion := m, mseq := if m.toList.all fun b => motionOp b == 0 then q.mseq else q.mseq + 1 }

/-- Fail-safe states of the switches in the active image (R137). -/
def State.imageFailSafe (s : State) (p : PortalId) : Byte :=
  match s.harn.image with
  | some g =>
    let b := g.unitBytes tagIOMP (16 + p.val) 2
    BitVec.ofNat 8 (bitsOf ((List.range 8).map fun n => rd8 b (16 * n + 7) % 2 == 1 && Nat.testBit (rd8 b (16 * n + 7)) 2))
  | none => 0

/-- SEQ conditions of the capture groups (R252, KIND 7): the customer state, the guarded state, or any entry. -/
def State.seqTrigger (s : State) (p : PortalId) (cust : Option Nat) (g : Guarded) : State :=
  let hit := fun (c : GroupCond) =>
    match c.src / 64 with
    | 0 => cust == some (c.src % 64)
    | 1 => c.src % 16 == g.code
    | 2 => true
    | _ => false
  { s with acq := s.acq.fireKind p.val 7 s.now hit }

/-- The portal is in a guarded state from now on. -/
def State.putClass (s : State) (p : PortalId) (g : Guarded) (cust : Option Nat) : State :=
  let s := s.modSeq p fun q =>
    { q with cls := g, cust := cust.getD q.cust, custValid := cust.isSome, enteredAt := s.clock, entered := true, tmo := false,
             closePend := q.closePend && (g == .obstructed || g == .reopening) }
  s.seqTrigger p cust g

/-- The door cycle at the entry of a customer state (R441). -/
def State.cycleAtEntry (s : State) (p : PortalId) (i : Nat) (r : SeqRec) : State :=
  let start := Nat.testBit r.flags 4 && s.inService
  let stop := Nat.testBit r.flags 5
  let note := fun (s : State) => if Nat.testBit r.flags 3 && r.mark != 0 then s.modCycle p fun c => c.marked r.mark else s
  let s := if start then s else note s
  let s := if stop then s.closeCycle p 0 0 i r.cls else if start then s.closeCycle p 16 0 i r.cls else s
  if start then note (s.openCycle p) else s

/-- Enter customer state `i` (R124). Entered by adoption its motions are not ordered (R325). -/
def State.enterCust (s : State) (p : PortalId) (i : Nat) (adopted : Bool) : State :=
  let r := seqRec (s.seqTable p) i
  let frm := (s.sp p).cust
  let fs := s.imageFailSafe p
  let s := s.putClass p r.cls (some i)
  let s := s.modSeq p fun q =>
    { q with sw := ((if q.adoptDue then fs else q.sw) ||| r.swSet) &&& ~~~r.swClr, adoptDue := false }
  let fit := fun (a : Nat) (b : Byte) => s.motionFits p r.cls a b
  let m : Three Byte := r.motion.mapIdx fun a b => if fit a.val b then b else 0x80
  let bad := m != r.motion || !(r.motion.mapIdx fun a b => fit a.val b).toList.all id
  let s := if adopted then s.modSeq p fun q => { q with motion := .all 0 }
    else
      let s := if bad then s.block p 7 frm i else s
      s.modSeq p fun q => q.setMotion m
  s.cycleAtEntry p i r

/-- ISOLATED (R137): a controlled stop and disable of every axis, the switches at their fail-safe states. -/
def State.enterIsolated (s : State) (p : PortalId) : State :=
  let s := s.closeCycle p 16 0 (s.sp p).cust .isolated
  let fs := s.imageFailSafe p
  (s.putClass p .isolated none).modSeq p fun q =>
    ({ q with sw := fs, adoptDue := false } : SeqPortal).setMotion (.all 0xC0)

/-- FLAGS and FAULT_CODE of a record that a portal-held state ends. -/
def cycleEndOf (g : Guarded) (lockCause : Nat) : Nat × Half :=
  match g with
  | .limp => (48, 0)
  | .lockedOut => (80, faultCode 2 lockCause)
  | .fault => (18, faultCode 1 0)
  | _ => (16, 0)

/-- LIMP, LOCKED_OUT or FAULT: no customer state; FAULT disables the axes (R111). -/
def State.enterHeld (s : State) (p : PortalId) (g : Guarded) : State :=
  let e := cycleEndOf g (s.link p).seen.lockCause
  let s := s.closeCycle p e.1 e.2 (s.sp p).cust g
  (s.putClass p g none).modSeq p fun q => if g == .fault then q.setMotion (.all 0xC0) else { q with motion := .all 0 }

/-- FAULT on a discrepancy (R113, R129). -/
def State.discFault (s : State) (p : PortalId) : State := (s.enterHeld p .fault).seqEvt p 24

/-- Adoption (R130): from the agreed inputs. The state is entered where it is a new one. -/
def State.adopt (s : State) (p : PortalId) : State :=
  let q := s.sp p
  let t := s.seqTable p
  let s := if s.inService then s.seqEvt p 12 else s
  if s.isMade p .iso then (if q.cls == .isolated && !(s.inService && !q.released) then s else s.enterIsolated p)
  else
    let x := if s.allMade p then (Guarded.closedLocked, seqEntry t 0) else (Guarded.opened, seqEntry t 3)
    if q.cls == x.1 && q.custValid && q.cust == x.2 && !q.adoptDue then s else s.enterCust p x.2 true

/-! ### Causes of a change, in their order (R131) -/

/-- LIMP_N holds portal `p` in LIMP: LH_STAT.CAUSE_PIN of its STATE. With the land released, the link up and the read-back done the kernel adopts a portal
whose die is still in limp-home (R129, R325, R326). -/
def State.limpHeld (s : State) (p : PortalId) : Bool := wbit (s.pword p 14) 30 || !wbit (s.pword p 0) 16 || !(s.sp p).readBack

/-- The guarded state that portal die `p` reports of itself, where the kernel is to adopt it: it differs from the CLASS of the die's latest
accepted COMMAND, or its latch stands, and R129 has the transition. -/
def State.reported (s : State) (p : PortalId) : Option Guarded :=
  let w := s.pword p 0
  let c := (s.sp p).cls
  let g := guardedOf (fget w 27 24)
  let own := fget w 27 24 != fget w 3 0
  if g == c then none
  else
    match g with
    | .limp => if c != .fault && (own || wbit w 17) && s.limpHeld p then some .limp else none
    | .lockedOut => if c != .fault && (own || wbit w 18) then some .lockedOut else none
    | .fault => if own then some .fault else none
    | .obstructed => if own && (c == .opening || c == .closing || c == .reopening) then some .obstructed else none
    | .reopening =>
      if !own then none else if c == .obstructed then some .reopening
      else if c == .opening || c == .closing then some .obstructed else none
    | _ => none

/-- Adopt what the portal die reports. -/
def State.adoptReported (s : State) (p : PortalId) (g : Guarded) : State :=
  if g.portalHeld then s.enterHeld p g else s.enterCust p (seqEntry (s.seqTable p) g.code) false

/-- The portal may be left from a portal-held state: LIMP_N is released, the lock-out latch is gone, or CLEAR_FAULT is accepted. -/
def State.mayReturn (s : State) (p : PortalId) (clear : Bool) : Bool :=
  let w := s.pword p 0
  match (s.sp p).cls with
  | .limp => !s.limpHeld p
  | .lockedOut => !wbit w 18
  | .fault => clear
  | _ => false

/-- The stop or reversal is complete: PCODE bits 5 and 4 are 0. -/
def State.stopComplete (s : State) (p : PortalId) : Bool := fget (s.pword p 0) 29 28 == 0

/-- The kernel's own rules in SERVICE, in their order; none where no rule fires. The returns need the link and the read-back. -/
def State.kernelRule (s : State) (p : PortalId) (fell rel clear : Bool) : Option State :=
  let q := s.sp p
  let t := s.seqTable p
  let forced := fun (i : Nat) => some ((s.enterCust p (seqEntry t i) false).seqEvt p 20)
  if !q.cls.held && q.disc != 0 then some (s.discFault p)
  else if !q.cls.held && s.isMade p .iso then some (s.enterIsolated p)
  else if fell && q.cls == .unlocking then forced 7
  else if fell && (q.cls == .opening || q.cls == .opened) then forced 4
  else if q.closePend && s.stopComplete p then forced 4
  else if q.cls == .closedLocked && !s.allMade p then some ((s.enterCust p (seqEntry t 7) false).seqEvt p 28)
  else if q.cls == .isolated && s.role p .iso == .broken && q.agreed500 && s.allMade p then some (s.enterCust p (seqEntry t 0) false)
  else if rel && s.mayReturn p clear then some (s.adopt p)
  else none

/-- Why a customer transition between two guarded states is blocked (R120, R129); 0 when it may fire. Where several guards of one transition fail, the spec
names no order of SEQ_BLOCK.REASON: DESIGN CHOICE, RELEASE before UNLOCK, MOTION before RELEASE, CLOSED before LOCKED (log 211). -/
def State.stepWhy (s : State) (p : PortalId) (a b : Guarded) (guard : Bool) : Nat :=
  let done := s.stopComplete p
  let closed := s.isMade p .cls && s.isMade p .str
  if a == b then 0
  else
    match a, b with
    | .closedLocked, .unlocking => if guard then 0 else 2
    | .unlocking, .opening => if !guard then 2 else if s.role p .lck == .broken then 0 else 3
    | .unlocking, .locking => if closed then 0 else 4
    | .opening, .opened => 0
    | .opening, .closing => 0
    | .opened, .closing => 0
    | .closing, .locking => if closed then 0 else 4
    | .locking, .closedLocked => if !closed then 4 else if s.isMade p .lck then 0 else 5
    | .obstructed, .opening | .obstructed, .opened | .reopening, .opening | .reopening, .opened =>
      if !done then 6 else if guard then 0 else 2
    | .obstructed, .closing | .reopening, .closing => if done then 0 else 6
    | _, _ => 1

/-- The customer's transitions, tried in order until one fires. -/
def customerGo (p : PortalId) (t : List Byte × Nat) (guard : Bool) : List TransRec → State → State
  | [], s => s
  | x :: r, s =>
    if !s.seq.holds x then customerGo p t guard r s
    else
      let q := s.sp p
      let why := s.stepWhy p q.cls (seqRec t x.dest).cls guard
      if why = 0 then s.enterCust p x.dest false else customerGo p t guard r (s.block p why q.cust x.dest)

/-- The customer's transitions of one cycle. -/
def State.customer (s : State) (p : PortalId) (guard : Bool) : State :=
  let t := s.seqTable p
  customerGo p t guard (transFrom t (s.sp p).cust) s

/-- A portal outside SERVICE, or newly released: a discrepancy, a return, else adoption (R130). -/
def State.outside (s : State) (p : PortalId) (clear : Bool) : State :=
  let q := s.sp p
  if !q.cls.held && q.disc != 0 then s.discFault p
  else if q.cls.portalHeld then (if s.mayReturn p clear then s.adopt p else s)
  else s.adopt p

/-! ### Outputs (R115, R121, R135, R138) -/

/-- The kernel's outputs for a portal after the cycle's change. -/
def State.outputs (s : State) (p : PortalId) (rel : Bool) : State :=
  let q := s.sp p
  let r := seqRec (s.seqTable p) q.cust
  let firm := q.custValid && q.cls.inCycle
  let ready := q.cls == .isolated && q.agreed500 && s.isMade p .cls && s.isMade p .lck && s.isMade p .str && wbit (s.pword p 7) 8
  let discs := fget (q.disc.setWidth 32) 2 0 != 0
  let dem := s.inService && rel &&
    ((q.cls == .closedLocked && q.custValid && Nat.testBit r.flags 2 && s.allMade p && !discs) || (q.cls == .isolated && ready))
  let permit := s.guard p q.cls rel
  s.modSeq p fun q =>
    { q with released := rel, openPermit := permit, soDemand := dem, soOn := wbit (s.pword p 2) 6 && wbit (s.pword p 2) 7, returnReady := ready, hfLeaf := firm && Nat.testBit r.flags 0,
             hfStep := firm && Nat.testBit r.flags 1, seqOut := if q.custValid then r.out else 0,
                 pcode := if (s.link p).state.isSome then BitVec.ofNat 8 (fget (s.pword p 0) 31 24) else q.pcode }

/-! ### Portal commands (R143, R429, R437) -/

/-- The agreed words 98 and 99 tell of a password held for a channel, and for the source of the command (R437). -/
def SeqState.pwAgreed (q : SeqState) (ch : Channel) : Bool := wbit (q.agreed.getD 98 0) 4 && wbit (q.agreed.getD 99 0) (chanCode ch - 1)

/-- Why a portal command is refused; 0 when it is accepted. -/
def State.pcmdWhy (s : State) (c : PortalCmd) : Nat :=
  let q := s.sp c.portal
  let w := s.pword c.portal 0
  if c.cmd = 1 then
    if q.cls != .fault then 2 else if !wbit w 16 || wbit w 19 || !q.readBack then 3 else 0
  else if c.cmd = 2 then
    if q.cls != .lockedOut then 2 else if s.seq.pwAgreed c.src.ch then 0 else 4
  else 2

/-- The result of a portal command: in SEQ_PCMDSTAT for the register, else to be answered on its channel. -/
def State.pcmdResult (s : State) (c : PortalCmd) (why : Nat) : State :=
  if c.msg then { s with seq := { s.seq with results := s.seq.results ++ [{ cmd := c, why := why }] } }
  else
    let w := if why = 0 then fput (raise s.seq.pcmdStat 31) 3 0 0 else fput (raise s.seq.pcmdStat 30) 3 0 why
    { s with seq := { s.seq with pcmdStat := w } }

/-- Word 98 of a portal command (R437). -/
def PortalCmd.word (c : PortalCmd) : Word :=
  bitIf 31 true ||| fmk 29 28 (chanCode c.src.ch) ||| fmk 9 8 c.portal.val ||| bitIf 4 c.held ||| fmk 3 0 c.cmd.toNat

/-- The next portal command that waits is presented in word 98. -/
def State.nextPcmd (s : State) : State :=
  match s.seq.pcmdQueue with
  | [] => { s with seq := { s.seq with pcmd := none, word98 := 0 } }
  | c :: r => { s with seq := { s.seq with pcmd := some c, word98 := c.word, pcmdQueue := r } }

/-- A portal command is passed to the kernel, one in each cycle. -/
def State.queuePcmd (s : State) (c : PortalCmd) : State :=
  let t : State := { s with seq := { s.seq with pcmdQueue := s.seq.pcmdQueue ++ [c] } }
  if s.seq.pcmd.isSome then t else t.nextPcmd

/-- The portal command of this cycle: refused, or accepted with its ORDER; a lock-out reset consumes the password. Also tells the portal whose
CLEAR_FAULT is accepted. -/
def State.takePcmd (s : State) : State × Option PortalId :=
  match s.seq.pcmd with
  | none => ({ s with seq := { s.seq with word98 := 0 } }, none)
  | some c =>
    let valid := wbit (s.seq.agreed.getD 98 0) 31
    let s := s.nextPcmd
    if !valid then (s, none)
    else
      let why := s.pcmdWhy c
      if why ≠ 0 then (s.pcmdResult c why, none)
      else if c.cmd = 1 then ((s.modSeq c.portal fun q => { q with order := 4 }).pcmdResult c 0, some c.portal)
      else
        let s := s.modSeq c.portal fun q => { q with order := 3 }
        let s := { s with sec := { s.sec with held := s.sec.held.setChan c.src.ch none } }
        ({ s with seq := { s.seq with waiting := s.seq.waiting.set c.portal (some c) } }, none)

/-! ### One portal in one cycle (R131) -/

/-- One cycle of portal `p`. -/
def State.evalPortal (s : State) (clear : Option PortalId) (p : PortalId) : State :=
  let s := s.modSeq p fun q => { q with blocked := false, entered := false }
  if !s.inUse p then s.modSeq p fun q => { q.quiet with cls := .notInUse, custValid := false }
  else
    let up := wbit (s.pword p 0) 16
    let lv := fun (r : Role) => s.role p r
    let s := if up then s.modSeq p fun q => q.track s.clock lv else s
    let s := s.foldCycle p
    let q := s.sp p
    let rel := s.inService && up && q.readBack
    let guard := s.guard p q.cls rel
    let fell := s.inService && q.openPermit && !guard
    let s := if fell && (q.cls == .obstructed || q.cls == .reopening) then s.modSeq p fun q => { q with closePend := true } else s
    let s := if !up then s.closeCycle p 48 (faultCode 5 (s.link p).why) q.cust q.cls else s
    let own := if up then s.reported p else none
    let c := clear == some p
    let s := match own with
      | some g =>
        let s := s.adoptReported p g
        if fell && g == Guarded.obstructed then s.modSeq p fun q => { q with closePend := true } else s
      | none =>
        if !s.inService || (rel && !q.released) then s.outside p c
        else
          match s.kernelRule p fell rel c with
          | some t => t
          | none => if q.custValid && q.cls.inCycle then s.customer p guard else s
    s.outputs p rel

/-! ### Kernel signals (R128) and SEQ_STAT (R116) -/

/-- The 32 signals of a portal. -/
def SeqPortal.signals (q : SeqPortal) (hreq : Nat) : Nat :=
  q.cls.code + 16 * (q.cust % 64) + bitsOf [q.released, q.openPermit, q.hfLeaf, q.hfStep, q.soDemand, q.tmo] * 1024 + q.seqOut.toNat * 65536 +
    hreq % 16 * 16777216 + bitsOf [q.returnReady, q.blocked, q.entered, q.custValid] * 268435456

/-- All kernel signals. -/
def State.kernelSignals (s : State) : BitVec 256 :=
  let h := fget (s.seq.agreed.getD 97 0) 15 0
  let one := fun (p : PortalId) => (s.sp p).signals (h / 16 ^ p.val) * 2 ^ (32 * p.val)
  let g := s.dstate + bitsOf [s.inService, false, s.seq.zs1 && s.seq.zs2, s.seq.zsDisc] * 16
  BitVec.ofNat 256 (one 0 + one 1 + one 2 + one 3 + g * 2 ^ 128)

/-- ZS1, ZS2 and REL as agreed, and since when ZS1 and ZS2 have differed. -/
def State.trainLines (s : State) : State :=
  let q := s.seq
  let a := q.inBit 0
  let b := q.inBit 1
  let q := { q with zs1 := a, zs2 := b, rel := BitVec.ofNat 4 (bitsOf [q.inBit 4, q.inBit 5, q.inBit 6, q.inBit 7]) }
  { s with seq := if a == b then { q with zsDiffAt := none, zsDisc := false } else { q with zsDiffAt := some (q.zsDiffAt.getD s.clock) } }

/-! ### The burst (R271, R304, R317) -/

/-- The ORDER of the transition being carried out (R44): ordered shutdown, low-rate mode. -/
def PsmState.order (x : PsmState) : Byte :=
  match x.busy with
  | some (.toOff _ _) => 1
  | some (.toDormant _ _) => 2
  | _ => 0

/-- The COMMAND frame for portal `p`. With TAKEOVER it keeps every motion and withdraws the demands (R325). The final one, with ORDER 1, tells of OFF
(R44, R68). -/
def State.commandFrame (s : State) (p : PortalId) : CommandFrame :=
  let q := s.sp p
  let d := q.soDemand && !q.takeover
  { cseq := q.cseq, cycle := s.seq.cycle.setWidth 16, cls := BitVec.ofNat 4 q.cls.code, cust := BitVec.ofNat 8 q.cust,
    dstate := BitVec.ofNat 8 (if s.psm.order = 1 then 0 else s.dstate), order := if s.psm.order = 0 then q.order else s.psm.order,
    flags := BitVec.ofNat 16 (bitsOf [q.released, q.openPermit, d, d, q.hfLeaf, q.hfStep, q.takeover]), sw := q.sw, mseq := q.mseq,
    motion := if q.takeover then .all 0 else q.motion, cbits := s.fabric.cbits p }

/-- Send the COMMAND of portal `p`, once its link runs. What is to be ordered is ordered anew after a takeover, whose MOTION kept everything. After
ORDER 1 none follows; ORDER 2 begins low-rate mode. -/
def State.sendCommandNow (s : State) (p : PortalId) : State :=
  let s := s.modSeq p fun q => { q with cseq := q.cseq + 1 }
  if !s.inUse p || !(s.link p).up || !(s.sp p).readBack then s
  else
    let f := s.commandFrame p
    let s := s.modLink p fun l => l.send fun h => .command h f
    let s := s.modSeq p fun q => { q with takeover := false, mseq := if q.takeover then (q.setMotion q.motion).mseq else q.mseq, order := if s.psm.order = 0 then 0 else q.order }
    if f.order = 1 then s.modSeq p fun q => { q with readBack := false }
    else if f.order = 2 then s.modLink p fun l => { l with lowRate := true, fin := { l.fin with lanes := l.fin.lanes &&& 1 }, stateAt := s.clock }
    else s

/-- The COMMAND of a kernel cycle; a link in low-rate mode carries none (R327). -/
def State.sendCommand (s : State) (p : PortalId) : State :=
  if (s.link p).lowRate then s.modSeq p fun q => { q with cseq := q.cseq + 1 } else s.sendCommandNow p

/-- Send the KEEPER of portal `p`. -/
def State.sendKeeper (s : State) (p : PortalId) : State :=
  let l := s.link p
  let q := s.sp p
  if !l.up || l.lowRate || !q.keeperRun then s
  else
    let s := s.modLink p fun l => l.send fun h => .keeper h { key := q.keeperKey, serve := q.keeperServe }
    s.modSeq p fun q => { q with keeperKey := keeperNext q.keeperKey, keeperServe := q.keeperServe + 1 }

/-- The burst is committed: COMMAND frames, every tenth cycle the KEEPER frames, and the stream sets (R244). -/
def State.burst (s : State) : State :=
  let s := s.eachPortal State.sendCommand
  let k := s.seq.keeperIn
  let s := if k ≤ 1 then s.eachPortal State.sendKeeper else s
  let s := { s with seq := { s.seq with keeperIn := if k ≤ 1 then 10 else k - 1 } }
  let s := s.eachPortal State.sendStream
  let l := s.lock
  let us := min ((s.clock - l.lastBurst) / 1000) 0xFFFF
  { s with lock := { l with lastBurst := s.clock, swap := if l.intrDue then fput l.swap 15 0 us else l.swap, intrDue := false },
           seq := { s.seq with signals := s.kernelSignals, word96 := 0, shown := none } }

/-- The evaluation of a cycle (R131, R133). -/
def State.evaluate (s : State) (us : Byte) : State :=
  let s := s.trainLines
  let r := s.takePcmd
  let s := r.1.eachPortal fun s p => s.evalPortal r.2 p
  let top := max (fget s.seq.load 15 8) us.toNat
  { s with seq := { s.seq with load := fmk 15 8 top ||| fmk 7 0 us.toNat } }

/-- What the host-visible registers of the sequencer show of the kernel. -/
def SeqState.view (q : SeqState) : SeqShown :=
  q.shown.getD { portals := q.portals, zsDisc := q.zsDisc, zs1 := q.zs1, zs2 := q.zs2, rel := q.rel }

/-- The cycle in which a shadow takes the lead after a failure: it has computed the cycle like the lead, and its burst of that cycle is
discarded (R272, R282). What the burst would have written of the host-visible registers is not written (R271). -/
def State.discarded (s t : State) : State :=
  { t with arch := s.arch, acq := s.acq, tally := s.tally,
           seq := { t.seq with evt := s.seq.evt, block := s.seq.block, load := s.seq.load, summaries := s.seq.summaries, zsDiscEv := s.seq.zsDiscEv,
                               shown := some s.seq.view } }

/-- The links are in training on the return from DORMANT (R65). -/
def PsmState.linksBack (x : PsmState) : Bool :=
  match x.busy with
  | some (.linksBack _) => true
  | _ => false

/-- The kernel runs: a pair leads, or the shadow is about to (R38, R54); on the return from DORMANT once the pairs are back. -/
def State.kernelRuns (s : State) : Bool :=
  (s.lock.lead.isSome || s.lock.promoteWhy != 0) &&
    (match s.psm.state with
      | .boot | .standby | .service | .maintain => true
      | .selftest => s.psm.pairScope
      | .dormant => s.psm.linksBack
      | _ => false)

/-- A link that has not come up within start-up or the return from DORMANT stays in link fault (R59, R65). -/
def HostLink.giveUp (l : HostLink) : HostLink := if l.up then l else { l with phase := .down, why := 6 }

/-- A link is back: it runs, or its training is over without success. -/
def HostLink.settled (l : HostLink) (ck : Nat) : Bool := l.phase == .running || l.phase == .down || decide (10000000 ≤ ck - l.trainFrom)

/-- The return from DORMANT is complete once every link is back and the portals behind them have been read back (R65): the part is in STANDBY, and its CAN
controllers are back on the bus (R376, R378). -/
def State.backFromDormant (s : State) : State :=
  if s.psm.linksBack && allPortals.all fun p => (s.link p).settled s.clock then
    let s := s.eachPortal fun s p => s.modLink p HostLink.giveUp
    ({ s with psm := { s.psm.done with state := .standby, busy := none }, cans := s.cans.map CanState.wake }).answerState 0
  else s

/-! ### What a pair holds of the kernel (R267, R283) -/

/-- A portal's part of the kernel's data as words. The manual does not lay it out: DESIGN CHOICE (log 214). -/
def SeqPortal.dataWords (q : SeqPortal) : List Word :=
  let m := q.motion
  [fmk 7 0 q.cls.code ||| fmk 15 8 q.cust ||| fmk 31 16 (bitsOf [q.custValid, q.released, q.openPermit, q.soDemand, q.hfLeaf, q.hfStep, q.returnReady,
      q.tmo, q.blocked, q.entered, q.takeover, q.readBack, q.adoptDue, q.closePend, q.keeperRun, q.agreed500]),
    fmk 7 0 q.sw.toNat ||| fmk 15 8 q.seqOut.toNat ||| fmk 23 16 q.mseq.toNat ||| fmk 31 24 q.order.toNat,
    fmk 7 0 m.x0.toNat ||| fmk 15 8 m.x1.toNat ||| fmk 23 16 m.x2.toNat ||| fmk 27 24 q.disc.toNat,
    fmk 15 0 q.cseq.toNat ||| fmk 31 16 q.keeperServe.toNat, q.keeperKey, q.nextCycle, wnat (q.enteredAt % 4294967296)]

/-- The kernel's data at the end of a cycle. -/
def SeqState.dataWords (q : SeqState) : List Word :=
  [q.cycle, fmk 3 0 (bitsOf [q.zs1, q.zs2, q.zsDisc, q.zsDiscEv]) ||| fmk 7 4 q.rel.toNat, q.block, q.evt] ++
    q.portals.toList.flatMap SeqPortal.dataWords

/-- A COMMAND payload as R304 lays it out. -/
def commandWords (f : CommandFrame) : List Word :=
  [fmk 15 0 f.cseq.toNat ||| fmk 31 16 f.cycle.toNat,
    fmk 3 0 f.cls.toNat ||| fmk 15 8 f.cust.toNat ||| fmk 23 16 f.dstate.toNat ||| fmk 31 24 f.order.toNat,
    fmk 15 0 f.flags.toNat ||| fmk 23 16 f.sw.toNat ||| fmk 31 24 f.mseq.toNat,
    fmk 7 0 f.motion.x0.toNat ||| fmk 15 8 f.motion.x1.toNat ||| fmk 23 16 f.motion.x2.toNat,
    f.cbits.setWidth 32, (f.cbits >>> (32 : Nat)).setWidth 32, 0, 0]

/-- The KEEPER payloads of a burst; none but in every tenth cycle. -/
def SeqState.keeperWords (q : SeqState) : List Word :=
  if q.keeperIn ≤ 1 then q.portals.toList.flatMap fun x => if x.keeperRun then [x.keeperKey, fmk 15 0 x.keeperServe.toNat] else [] else []

/-- The host-visible registers that a burst writes. -/
def State.registerWords (s : State) : List Word := [s.seq.evt, s.seq.block, s.seq.pcmdStat, s.seq.load, s.seq.word98]

/-- The output burst of a cycle in issue order: COMMAND and KEEPER frames, registers, the results of portal commands, the summaries, and the door-cycle records
staged, which the summaries stand for (R429, R433, R441). The manual gives no layout: DESIGN CHOICE (log 214). -/
def State.burstBytes (s : State) : List Byte :=
  wordBytes ((allPortals.flatMap fun p => if s.inUse p then commandWords (s.commandFrame p) else []) ++ s.seq.keeperWords ++ s.registerWords ++
    s.seq.results.map fun r => r.cmd.word ||| fmk 27 24 r.why) ++ s.seq.summaries.flatten

/-- The cross-pair signature of a cycle: CRC-32C of the output burst in issue order, then of the state digest (R283). -/
def State.signature (s : State) : Word := crc32c (s.burstBytes ++ wordBytes [crc32c (wordBytes s.seq.dataWords)])

/-- A pair's cores at the end of a cycle: the kernel's data in both private SRAMs, and the end of the input vector in the input delay register. -/
def PairCores.cycle (c : PairCores) (q : SeqState) : PairCores :=
  { c with lead := { c.lead with data := q.dataWords }, trail := { c.trail with data := q.dataWords },
           inDelay := ⟨q.agreed.getD 127 0, q.agreed.getD 126 0⟩ }

/-- The end of an evaluation in every pair that runs: signature and cores. -/
def State.cycleEnd (s : State) : State :=
  let l := s.lock
  let one := fun (c : Two PairCores) (i : PairId) => if (s.pair i).state.runs then c.setPair i ((c.pair i).cycle s.seq) else c
  { s with lock := { l with sig := s.signature, boundaryAt := s.clock, cores := one (one l.cores .pommel) .cantle } }

/-- What happens at the boundary itself: the comparison of the cycle that has ended, promotion and swaps, the final synchronisation of a
graft. -/
def State.boundary (s : State) (k : KernelInputs) : State :=
  let s := s.crossCompare k.xsig
  let s := s.promote.planSwap
  let s := { s with lock := { s.lock with failedNow := 0 } }
  s.graftSync k.graftClean

/-- The kernel cycle in which an execute word was accepted has ended (R50). -/
def State.cycleOver (s : State) : State := { s with psm := { s.psm with accepted := none } }

/-- A kernel cycle. -/
def State.kernelCycle (s : State) (k : KernelInputs) : State :=
  if !s.kernelRuns then s
  else
    let swapped := s.lock.promoteWhy != 0
    let s := (s.boundary k).cycleOver.backFromDormant
    if s.lock.lead.isNone then s
    else
      let s := { s with seq := { s.seq with cycle := s.seq.cycle + 1 } }
      let s := s.agree k.dis
      if swapped then
        let held := s.seq.pcmd
        let t := ({ s with seq := { s.seq with pcmd := none } }).evaluate k.evalUs
        let t := s.discarded t
        ({ t with seq := { t.seq with pcmd := held, pcmdQueue := s.seq.pcmdQueue, word98 := s.seq.word98 } }).cycleEnd
      else (s.evaluate k.evalUs).cycleEnd.burst

/-! ### Timers of the kernel -/

/-- TIMEOUT of the customer state expires (R132). -/
def State.stateTimeout (s : State) (p : PortalId) : State :=
  let q := s.sp p
  if q.custValid && (seqRec (s.seqTable p) q.cust).timeout != 0 then s.modSeq p fun q => { q with tmo := true } else s

/-- ZS1 and ZS2 have differed for 500 ms (R116). -/
def State.zsDiscrepancy (s : State) : State :=
  if s.seq.zsDiffAt.isSome && !s.seq.zsDisc then { s with seq := { s.seq with zsDisc := true, zsDiscEv := true } } else s

/-- A role has been split for 500 ms: the next kernel cycle takes the portal to FAULT, in the order of R131 (R113, R129). -/
def State.roleDiscrepancy (s : State) (p : PortalId) (r : Role) : State :=
  if ((s.sp p).splitAt.get (roleIdx r)).isNone then s else s.modSeq p fun q => { q with disc := putBit q.disc (roleIdx r).val true }

/-- CLS and LCK have been made on both channels for 500 ms (R138, R139). -/
def State.isoAgree (s : State) (p : PortalId) : State :=
  if (s.sp p).agreeAt.isSome then s.modSeq p fun q => { q with agreed500 := true } else s

/-! ### SEQ_PCMD (R143) -/

/-- A write of SEQ_PCMD: a wrong key is refused at once; else the command waits for the next kernel cycle. -/
def State.seqPcmd (s : State) (key : Byte) (p : PortalId) (cmd : BitVec 4) : State :=
  if key ≠ 0x5E then { s with seq := { s.seq with pcmdStat := fput (raise s.seq.pcmdStat 30) 3 0 1 } }
  else
    let h := s.pwHeld .host
    s.queuePcmd { src := { ch := .host, node := 0 }, seq := 0, portal := p, cmd := cmd, held := h, msg := false }

/-- A portal die has decided on a remote lock-out reset (R230, EVENT 0x0E). -/
def State.lockoutDecided (s : State) (p : PortalId) (ok : Bool) (why : Nat) : State :=
  match s.seq.waiting.get p with
  | none => s
  | some c =>
    let s := { s with seq := { s.seq with waiting := s.seq.waiting.set p none } }
    s.pcmdResult c (if ok then 0 else match why with
      | 1 => 2
      | 2 => 5
      | 3 => 5
      | 4 => 3
      | n => n)

end Sys2Proof.Machine
end

