-- ==== Sys2Proof/Machine/HostFrames.lean ====
section
/-! DEFINITION. STATE, EVENT and SAMPLE frames as the host die takes them in (R305 to R307, R316), and the link faults and HELLO of both
sides with what they mean for the host die's mirror (R37). -/

namespace Sys2Proof.Machine

/-- Accept a frame at the host side after HELLO (R297, R316): none where it is discarded. -/
def State.acceptHost (s : State) (p : PortalId) (h : FrameHdr) : Option State :=
  let l := s.link p
  if !l.up then none
  else (l.fin.accept h).map fun e => s.modLink p fun l => { l with fin := e }

/-! ### STATE (R305) -/

/-- PSM_PROOF from the signals of a portal (R68, R70): proven is k = 104, isolated k = 105. -/
def State.noteProof (s : State) (p : PortalId) (w7 : Word) : State :=
  { s with psm := { s.psm with proof := putBit (putBit s.psm.proof p.val (wbit w7 8)) (8 + p.val) (wbit w7 9) } }

/-- What the mirror of R37 takes of the portal side. -/
def State.mirror (s : State) (p : PortalId) (x : PortalNote) : State := s.modLink p fun l => l.refresh x

/-- The first STATE frame after HELLO is the one the read-back quotes (R324). -/
def HostLink.noteReadback (l : HostLink) (n : ImageNote) (q : Byte) : HostLink :=
  if l.phase == .readBack && l.rbSeq.isNone then { l with rbSeq := some q }.ack n else l

/-- A STATE frame. Over a lane that retrains it counts for R311. One that reports TIME_STEP is acknowledged, so that streaming resumes (R413). -/
def State.stateFrame (s : State) (p : PortalId) (h : FrameHdr) (f : StateFrame) : State :=
  let s := s.portalFrame p (.state h f)
  let s := (s.modLink p fun l => { l with fin := l.fin.prove h.lane }).rejoin p
  match s.acceptHost p h with
  | none => s
  | some s =>
    let stepped := wbit f.note.glEvt 0
    let s := s.modLink p fun l => { l with state := some (h.seq, f), stateAt := s.clock }
    let s := if stepped && (s.link p).phase == .running then s.modLink p fun l => l.request [ackRequest (s.imageNote p 0) h.seq] else s
    ((s.mirror p f.note).noteProof p f.words.lo.hi.x3).modLink p fun l => l.noteReadback (s.imageNote p 0) h.seq

/-! ### EVENT (R306) -/

/-- Replace word 4 of the STATE frame held. -/
def withWord4 (f : StateFrame) (w : Word) : StateFrame :=
  let lo := f.words.lo
  { words := { f.words with lo := { lo with hi := { lo.hi with x0 := w } } } }

/-- An input change renews word 4; in DORMANT, or on the way there, a change of a closed or locked input is a wake event (R63, R64). -/
def State.inputChanged (s : State) (p : PortalId) (w changed : Word) : State :=
  let s := s.modLink p fun l => { l with state := l.state.map fun x => (x.1, withWord4 x.2 w) }
  let roles := fget ((s.link p).word 1) 31 16
  let asleep := s.psm.state == .dormant || (match s.psm.busy with
    | some (.toDormant _ _) => true
    | _ => false)
  if asleep && (fget changed 15 0 &&& roles) != 0 then { s with psm := { s.psm with wake := raise s.psm.wake (4 + p.val) } } else s

/-- A detection reported (R252, KIND 8; R442). -/
def State.detection (s : State) (p : PortalId) (f : EventFrame) : State :=
  let cause := f.args.getD 0 0
  let mask := fget cause 23 16
  let pos : Three Int := ⟨signed 32 (f.args.getD 1 0).toNat, signed 32 (f.args.getD 2 0).toNat, signed 32 (f.args.getD 3 0).toNat⟩
  let s := { s with acq := s.acq.fireKind p.val 8 f.etime.toNat fun c => c.src == 0 || c.src &&& mask != 0 }
  s.modCycle p fun c => c.detected f.etime cause pos

/-- A compare hit reported (R197, R252 KIND 6, R442). -/
def State.compareHit (s : State) (p : PortalId) (f : EventFrame) : State :=
  let s := { s with acq := s.acq.fireKind p.val 6 f.etime.toNat fun c => c.src == f.axis.toNat }
  s.modCycle p DoorCycle.compareHit

/-- Curtain traffic goes to the tally island (R465). -/
def State.toIsland (s : State) (p : PortalId) (f : EventFrame) : State :=
  { s with tally := { s.tally with inbox := s.tally.inbox ++ [(p, f)] } }

/-- What an EVENT frame means, by its CODE. -/
def State.eventMeaning (s : State) (p : PortalId) (f : EventFrame) : State :=
  let a := fun n => f.args.getD n 0
  match f.code.toNat with
  | 0x01 => s.inputChanged p (a 0) (a 1)
  | 0x02 => s.detection p f
  | 0x04 => s.modCycle p DoorCycle.reversed
  | 0x05 => s.compareHit p f
  | 0x06 => s.seqEvt p 16
  | 0x0D => s.modLink p fun l => { l with evt := l.evt ||| a 1 }
  | 0x0E => if a 2 = 1 then s.lockoutDecided p (a 0 == 1) (fget (a 1) 27 24) else s
  | 0x10 => s.toIsland p f
  | 0x11 => s.toIsland p f
  | _ => s

/-- An EVENT frame: it sets the portal's bit of IRQ_STAT (R409). -/
def State.eventFrame (s : State) (p : PortalId) (h : FrameHdr) (f : EventFrame) : State :=
  let s := s.portalFrame p (.event h f)
  match s.acceptHost p h with
  | none => s
  | some s => ({ s with irqStat := raise s.irqStat (4 + p.val) }).eventMeaning p f

/-! ### SAMPLE (R307) -/

/-- A SAMPLE frame, with the level that the portal's ingest buffer reaches in 1/256 of 4 KiB; where the buffer overflows the frame does not
enter the store (R246). -/
def State.sampleFrame (s : State) (p : PortalId) (h : FrameHdr) (f : SampleFrame) (level : Byte) (lost : Bool) : State :=
  let s := s.portalFrame p (.sample h f)
  match s.acceptHost p h with
  | none => s
  | some s =>
    let a := s.acq.noteLevel p.val level
    { s with acq := if lost then a.overflowed p.val else a.ingest p.val (s.link p).stream f s.now }

/-! ### TIME (R302, R312) -/

/-- A TIME frame goes out; none in link fault. -/
def State.sendTime (s : State) (p : PortalId) : State :=
  if (s.link p).up then s.modLink p fun l => l.send fun h => .time h s.time.now else s

end Sys2Proof.Machine
end

