-- ==== Sys2Proof/Machine/Load.lean ====
section
/-! DEFINITION. What the host die takes from an image when it is loaded (R57, R106): the grants, the fabric copies, the CAN controllers and
the message engine's objects (R374, R416), the receive map and the capture groups (R439, R459). -/

namespace Sys2Proof.Machine

/-! ### The NELZ configuration (R438) -/

/-- The configuration record of the message engine with the part's node number. -/
structure NelzCfg where
  vmax : Nat
  vmin : Nat
  chEn : Nat
  modes : Nat
  hostNode : Nat
  objBase : Nat
  pcmdGrant : Nat
  statusMs : Nat
  linesMs : Nat
  node : Nat
  deriving DecidableEq, Repr

/-- The NELZ configuration of an image: its record, or the defaults where NELZ is absent. A section of version v caps VMAX at v. -/
def Image.nelzCfg (g : Image) : NelzCfg :=
  let node := rd8 g.strc 3
  match g.unit tagNELZ 0 1 with
  | some b =>
    { vmax := min (rd8 b 0) (g.ver tagNELZ), vmin := rd8 b 1, chEn := rd8 b 2, modes := rd8 b 3, hostNode := rd8 b 4,
      objBase := rd8 b 5, pcmdGrant := rd8 b 6, statusMs := rd16 b 8, linesMs := rd16 b 10, node := node }
  | none =>
    { vmax := 1, vmin := 1, chEn := 4, modes := 0, hostNode := if node = 63 then 62 else 63, objBase := 0, pcmdGrant := 0, statusMs := 50,
      linesMs := 20, node := node }

/-- The NELZ configuration in force: without an image the reset values of its registers. -/
def State.nelzCfg (s : State) : NelzCfg :=
  match s.harn.image with
  | some g => g.nelzCfg
  | none =>
    { vmax := 1, vmin := 1, chEn := 4, modes := 0, hostNode := 63, objBase := 0, pcmdGrant := 0, statusMs := 50, linesMs := 20, node := 0 }

/-- Position of a channel in CH_EN, PCMD_GRANT and PSM_GRANT order: CH_EN has CAN-A first and the mailbox last. -/
def chanEnBit : Channel → Nat
  | .canA => 0
  | .canB => 1
  | .host => 2

/-- The channel of a controller. -/
def canChan : CanId → Channel
  | .a => .canA
  | .b => .canB

/-- The controller of a channel. -/
def chanCan : Channel → Option CanId
  | .canA => some .a
  | .canB => some .b
  | .host => none

/-- Nelzil runs on a channel. -/
def NelzCfg.enabled (k : NelzCfg) (ch : Channel) : Bool := Nat.testBit k.chEn (chanEnBit ch)

/-! ### The engine's objects (R416) -/

/-- CLASS × 8 + TYPE of the message that send object `i` of the engine carries. -/
def slotMsg : Nat → Nat
  | 0 => 0
  | 1 => 1
  | 2 => 2
  | 3 => 12
  | 4 => 16
  | 5 => 17
  | 6 => 11
  | _ => 24

/-- Standard identifier of a message (R414), as it stands in an object's ID word. -/
def nelzId (msg node : Nat) : Word := fmk 28 18 (msg / 8 * 512 + msg % 8 * 64 + node)

/-- RETRY and LIFE of send object `i`. -/
def NelzCfg.slotLimits (k : NelzCfg) (i : Nat) : Nat × Nat :=
  match i with
  | 0 => (255, 0)
  | 1 => (255, max 1 (2 * k.statusMs / 10))
  | 2 => (255, max 1 (2 * k.linesMs / 10))
  | 3 => (16, 100)
  | 4 => (16, 100)
  | _ => (16, 0)

/-- Object `i` of the engine's sixteen: eight send objects and a FIFO of eight that accepts every standard identifier. -/
def NelzCfg.object (k : NelzCfg) (i : Nat) : CanObject :=
  if i < 8 then
    let l := k.slotLimits i
    { id := nelzId (slotMsg i) k.node, cfg := 0xE0000000 ||| fmk 23 16 l.1 ||| fmk 7 0 l.2 }
  else { cfg := 0xA0000000 ||| (if i = 8 then fmk 15 8 8 else 0) }

/-- A controller with the engine's objects. -/
def CanState.addEngine (c : CanState) (k : NelzCfg) : CanState :=
  (List.range 16).foldl (fun c i => c.setObj (k.objBase + i) (k.object i)) c

/-- The CAN controllers at an activation: without CANO both are OFF. Each enabled one holds the engine's objects (R416), where NELZ names their
OBJ_BASE: an absent NELZ gives none (R438). -/
def State.loadCan (s : State) (g : Image) (c : CanId) : State :=
  let i := match c with
    | .a => 0
    | .b => 1
  let v := g.ver tagCANO
  let b := g.unitBytes tagCANO 0 1
  let r := if b.isEmpty then zeros 32 else slice b (32 * i) 32
  let k := g.nelzCfg
  s.modCan c fun x =>
    let x := x.load v r (objectsOf v (g.unitBytes tagCANO 0 (2 + i)))
    if x.flag 0 && g.has tagNELZ then x.addEngine k else x

/-! ### Loading -/

/-- An image that passed every check becomes the active one. R102 does not say when recovery MAINTAIN ends: DESIGN CHOICE, with the first ACTIVATE that
succeeds (log 215). -/
def State.takeImage (s : State) (g : Image) : State :=
  { s with harn := { s.harn with image := some g, verified := true, recovery := false },
           psm := { s.psm with grant := g.grant } }

/-- The host die is configured from its image: the cores' copies of it, fabric copies, controllers, receive flags, capture groups; the kernel enters its states
anew. -/
def State.configure (s : State) (g : Image) : State :=
  let s := (s.loadFabric.loadCores .pommel).loadCores .cantle
  let s := (s.loadCan g .a).loadCan g .b
  let s := { s with nelz := { s.nelz with flags := List.replicate 64 {} } }
  let s := { s with acq := s.acq.load g.groupRecs s.groupEnv }
  s.eachPortal fun s p => s.modSeq p fun q => { q with adoptDue := true }

end Sys2Proof.Machine
end

