-- ==== Sys2Proof/Machine/Secure.lean ====
section
/-! DEFINITION. The maintenance password (R99 to R102), the seal switches (R103), replacing an image (R104 to R108), the change log's events
(R110) and the key slots (R97, R98). -/

namespace Sys2Proof.Machine

/-! ### Password (R99 to R102) -/

/-- PW_HASH and SALT of the active image (R82). -/
def Image.pwHash (g : Image) : List Byte := slice (g.payload tagIDNT) 80 32

/-- SALT. -/
def Image.salt (g : Image) : List Byte := slice (g.payload tagIDNT) 64 16

/-- A submission that came as a message is answered (R428). -/
def State.answerPw (s : State) (src : CmdSource) (msg : Bool) (reason : Nat) : State :=
  if msg then s.answerCmd { src := src, msg := 9, seq := 0, reason := reason, portal := 0 } else s

/-- A password is accepted: bound to its channel, and the run of rejections ends. -/
def State.pwAccept (s : State) (src : CmdSource) : State :=
  { s with sec := { s.sec with held := s.sec.held.setChan src.ch (some { src := src, at_ := s.clock }), failRun := 0 } }

/-- A rejection: counted, a hold-off of 1 s, or of 60 s from the eighth in a row on, and a PASS entry. -/
def State.pwReject (s : State) (src : CmdSource) : State :=
  let n := satInc s.sec.failRun 255
  let hold := if 8 ≤ n then 60000000000 else 1000000000
  ({ s with sec := { s.sec with failed := true, failRun := n, holdUntil := some (s.clock + hold) } }).logFrom
    tagPASS 0 (BitVec.ofNat 32 n) 1 (chanCode src.ch)

/-- A submission (R99 to R102): LEN and the bytes written. During a hold-off, or while another is computed, it is discarded. The manual says that a
password's bytes lie from 0x20 to 0x7E and names no refusal of others: DESIGN CHOICE, the bytes are computed with as they are (log 220). -/
def State.submit (s : State) (src : CmdSource) (len : Nat) (bytes : List Byte) (msg : Bool) : State :=
  if s.sec.holdUntil.isSome || s.sec.pwJob.isSome then s.answerPw src msg 2
  else
    match s.harn.image with
    | none =>
      if len = 0 then (s.pwAccept src).answerPw src msg 0
      else if len ≤ 16 then ({ s with sec := { s.sec with failed := true } }).answerPw src msg 1
      else (s.pwReject src).answerPw src msg 1
    | some g =>
      if len = 0 ∨ 16 < len then (s.pwReject src).answerPw src msg 1
      else
        { s with sec := { s.sec with pwd := .all 0, pwJob := some { src := src, bytes := slice bytes 0 len, salt := g.salt, hash := g.pwHash } },
                 nelz := { s.nelz with pwAnswer := if msg then some src else none } }

/-- A write of SEC_PWCTL. -/
def State.pwctl (s : State) (w : Word) : State :=
  if wbit w 31 then s.submit { ch := .host, node := 0 } (fget w 4 0) (wordBytes s.sec.pwd.toList) false else s

/-- The computation ends: the result is compared with PW_HASH. -/
def State.pwComputed (s : State) : State :=
  match s.sec.pwJob with
  | none => s
  | some j =>
    let ok := pbkdf2 j.bytes j.salt == j.hash && j.hash != zeros 32
    let msg := s.nelz.pwAnswer.isSome
    let s := { s with sec := { s.sec with pwJob := none }, nelz := { s.nelz with pwAnswer := none } }
    if ok then (s.pwAccept j.src).answerPw j.src msg 0 else (s.pwReject j.src).answerPw j.src msg 1

/-- A held password lapses. -/
def State.pwExpire (s : State) (ch : Channel) : State := { s with sec := { s.sec with held := s.sec.held.setChan ch none } }

/-- The hold-off ends. -/
def State.pwHoldoffEnd (s : State) : State := { s with sec := { s.sec with holdUntil := none } }

/-! ### Seal switches (R103) -/

/-- COMPAT is set and some seal switch reads low. -/
def State.sealLow (s : State) : Bool := s.fuse.compat && s.sec.sealSw != 15

/-- A filtered seal switch has changed. -/
def State.sealChange (s : State) (sw : BitVec 4) : State :=
  let closed := s.fuse.compat && s.psm.state == .maintain && s.sec.sealSw == 15 && sw != 15
  let s := { s with sec := { s.sec with sealSw := sw } }
  if closed then ({ s with sec := { s.sec with drop := true } }).logEntry 0 tagSEAL 0 (BitVec.ofNat 32 sw.toNat) 0 4 else s

/-! ### Flash commands (R104 to R106) -/

/-- Bit of a region in REG_OK; its code in log entries is one more. -/
def regionBit : Region → Nat
  | .a => 0
  | .b => 1

/-- A region has passed VERIFY since its last change. -/
def HarnState.regOk (h : HarnState) (r : Region) : Bool := wbit h.flstat (regionBit r)

/-- The region holds the active image. -/
def HarnState.isActive (h : HarnState) (r : Region) : Bool :=
  match h.image with
  | some g => g.region == r
  | none => false

/-- Why a command is refused; 0 when it is not. Commands: 1 COPY, 2 ERASE, 3 PROGRAM, 4 VERIFY, 5 ACTIVATE. -/
def State.flashWhy (s : State) (cmd : Nat) (t : Region) : Nat :=
  let h := s.harn
  if s.psm.state ≠ .maintain then 1
  else if h.job.isSome then 7
  else if s.sealLow then 4
  else if h.recovery ∧ cmd = 1 then 8
  else
    match cmd with
    | 1 => if h.isActive t then 2 else 0
    | 2 => if h.isActive t && !h.regOk t.other then 2 else 0
    | 3 => if h.isActive t && !h.regOk t.other then 2 else if h.fladdr &&& 0xFFC000FF != 0 then 3 else 0
    | 5 => if h.regOk t then 0 else 6
    | _ => 0

/-- A command is refused or has failed. -/
def HarnState.flErr (h : HarnState) (why : Nat) : HarnState := { h with flstat := fput (raise h.flstat 29) 27 24 why }

/-- A command has completed. -/
def HarnState.flDone (h : HarnState) : HarnState := { h with flstat := fput (raise h.flstat 30) 27 24 0 }

/-- REG_OK of a region. -/
def HarnState.setOk (h : HarnState) (r : Region) (ok : Bool) : HarnState := { h with flstat := putBit h.flstat (regionBit r) ok }

/-- What a command will do. -/
def HarnState.jobOf (h : HarnState) (cmd : Nat) (t : Region) : FlashJob :=
  match cmd with
  | 1 => .copy t
  | 2 => .erase t
  | 3 => .program t (fget h.fladdr 21 8) (wordBytes h.buf)
  | 4 => .verify t
  | _ => .activate t

/-- A write of HARN_FLCTL with a command. -/
def State.flashStart (s : State) (cmd : Nat) (t : Region) : State :=
  let why := s.flashWhy cmd t
  let h := s.harn
  let h := if why = 1 ∨ why = 8 then h else { h with flctl := fmk 31 28 cmd ||| bitIf 24 (t == .b) }
  if why ≠ 0 then { s with harn := h.flErr why }
  else
    let h := { h with job := some (h.jobOf cmd t) }
    { s with harn := if cmd ≤ 3 then h.setOk t false else h }

/-- Bytes whose contents the device leaves open after a failed write. -/
def State.scramble (s : State) (a n : Nat) : State :=
  { s with harn := { s.harn with flash := memPut 0xFF s.harn.flash a ((List.range n).map fun i => BitVec.ofNat 8 (Config.free (s.freeCtr + i))) },
           freeCtr := s.freeCtr + n }

/-- An FLWR entry (R110). -/
def State.logWrite (s : State) (t : Region) (result : Nat) : State :=
  s.logFrom tagFLWR 0 (BitVec.ofNat 32 (regionBit t + 1)) result 1

/-- A write into the flash ends. -/
def State.flashWritten (s : State) (t : Region) (ok log : Bool) (a n : Nat) (new : List Host.Cell) : State :=
  let s := if ok then { s with harn := { s.harn with flash := new }.flDone } else ({ s with harn := s.harn.flErr 5 }).scramble a n
  if log then s.logWrite t (if ok then 0 else 2) else s

/-- VERIFY ends: every check of R57, in its order. -/
def State.verified (s : State) (t : Region) : State :=
  let c := checkImage s.harn.flash s.fuse t
  let h := { s.harn with flstat := fput s.harn.flstat 18 16 c.why }.setOk t (c.why = 0)
  { s with harn := h.flDone }

/-- The entries of an activation (R110): tag, CRC before, CRC after, of each section whose CRC, presence or version differs. -/
def sectionChanges (old new : List Section) : List (Word × Word × Word) :=
  let look := fun (l : List Section) (t : Word) => l.find? fun x => x.tag == t
  let changed := new.filterMap fun x =>
    match look old x.tag with
    | some y => if y.crc == x.crc && y.version == x.version then none else some (x.tag, y.crc, x.crc)
    | none => some (x.tag, 0, x.crc)
  let gone := old.filterMap fun x => if (look new x.tag).isSome then none else some (x.tag, x.crc, 0)
  changed ++ gone

/-- CRC of the SIGN section; 0 without an image. -/
def signCrc : Option Image → Word
  | some g => (match g.sec tagSIGN with
      | some x => x.crc
      | none => 0)
  | none => 0

/-- TOOL of an image (R74). -/
def Image.tool (g : Image) : Word := rdw g.header 20

/-- Units go to every portal whose link is up; a portal in link fault gets them when its link returns (R106). -/
def State.downloadAll (s : State) : State :=
  s.eachPortal fun s p =>
    if (s.link p).up then s.download p
    else { s with harn := { s.harn with dlPend := putBit s.harn.dlPend p.val (!(s.imageUnits p).isEmpty) } }

/-- ACTIVATE ends. -/
def State.activated (s : State) (t : Region) : State :=
  let c := checkImage s.harn.flash s.fuse t
  let old := s.harn.image
  let s := { s with harn := { s.harn with flstat := fput s.harn.flstat 18 16 c.why } }
  match c.image with
  | none =>
    let new := (checkContent s.harn.flash t).image
    ({ s with harn := (s.harn.setOk t false).flErr 6 }).logFrom tagACTV (signCrc old) (signCrc new) 2 1
  | some g =>
    let s := ((s.takeImage g).configure g).downloadAll
    let before := match old with
      | some o => o.sections
      | none => []
    let s := (sectionChanges before g.sections).foldl (fun s x => s.logEntry g.tool x.1 x.2.1 x.2.2 0 1) s
    let s := s.logFrom tagACTV (signCrc old) (signCrc (some g)) 0 1
    { s with harn := s.harn.flDone }

/-- The running command ends, the device having worked or not. -/
def State.flashComplete (s : State) (ok : Bool) : State :=
  match s.harn.job with
  | none => s
  | some j =>
    let s := { s with harn := { s.harn with job := none } }
    let m := s.harn.flash
    match j with
    | .copy t =>
      let d := match s.harn.image with
        | some g => imageBytes m g.region
        | none => []
      let b := regionBase t
      s.flashWritten t ok true b regionSize (memPut 0xFF (memErase m b regionSize) b d)
    | .erase t => s.flashWritten t ok true (regionBase t) regionSize (memErase m (regionBase t) regionSize)
    | .program t blk d =>
      let a := regionBase t + 256 * blk
      s.flashWritten t ok (blk == 0) a 256 (memPut 0xFF m a d)
    | .verify t => if ok then s.verified t else { s with harn := s.harn.flErr 5 }
    | .activate t =>
      if ok then s.activated t
      else ({ s with harn := s.harn.flErr 5 }).logFrom tagACTV (signCrc s.harn.image) 0 2 1

/-! ### Key slots (R97, R98) -/

/-- The hash in SEC_KEYHASH0 to SEC_KEYHASH7. -/
def SecState.keyValue (x : SecState) : BitVec 256 :=
  BitVec.ofNat 256 ((x.keyHash.toList.zipIdx).foldl (fun n w => n + w.1.toNat * 2 ^ (32 * w.2)) 0)

/-- The valid, unrevoked slots. -/
def FuseState.goodSlots (f : FuseState) : List (Fin 4) := ([0, 1, 2, 3] : List (Fin 4)).filter fun k => f.valid k && !f.revoked k

/-- Why a key operation is refused; 0 when it is not. -/
def State.keyWhy (s : State) (revoke : Bool) (k : Fin 4) : Nat :=
  if s.psm.state ≠ .maintain then 1
  else if s.harn.recovery then 6
  else if s.sealLow then 5
  else if !revoke then (if s.fuse.valid k || s.fuse.void.getLsbD k.val || !(s.fuse.keys.get k).cells.isEmpty then 2 else 0)
  else if (match s.harn.image with
    | some g => g.slot == k.val
    | none => false) then 3
  else if s.fuse.goodSlots == [k] then 4
  else 0

/-- A key entry of the change log. -/
def State.logKey (s : State) (revoke : Bool) (k : Fin 4) (result : Nat) : State :=
  s.logFrom (if revoke then tagKREV else tagKEYP) 0 (BitVec.ofNat 32 k.val) result 1

/-- A key operation is refused or has failed. -/
def SecState.keyErr (x : SecState) (why : Nat) : SecState := { x with keystat := fput (raise x.keystat 29) 3 0 why }

/-- The fuse record of a key operation and its value. -/
def KeyJob.rcd (j : KeyJob) : FuseRecId × Nat := if j.revoke then (.revoke j.slot, 1) else (.key j.slot, j.hash.toNat)

/-- A write of SEC_KEYCTL with an operation: the data cells are burnt first, the check word last. -/
def State.keyStart (s : State) (revoke : Bool) (k : Fin 4) : State :=
  if s.sec.keyJob.isSome then s
  else
    let why := s.keyWhy revoke k
    let ctl := fmk 31 28 (if revoke then 2 else 1) ||| fmk 25 24 k.val
    let s := if why = 1 ∨ why = 6 then s else { s with sec := { s.sec with keyctl := ctl } }
    if why ≠ 0 then ({ s with sec := s.sec.keyErr why }).logKey revoke k 1
    else
      let j : KeyJob := { revoke := revoke, slot := k, hash := s.sec.keyValue }
      { s with sec := { s.sec with keyJob := some j }, fuse := s.fuse.burnData j.rcd.1 j.rcd.2 }

/-- The operation ends with the check word and the read-back. -/
def State.keyComplete (s : State) (ok : Bool) : State :=
  match s.sec.keyJob with
  | none => s
  | some j =>
    let f := s.fuse.burnCheck j.rcd.1 j.rcd.2
    let x := { s.sec with keyJob := none }
    if ok then
      ({ s with fuse := f.reread, sec := { x with keystat := fput (raise x.keystat 30) 3 0 0 } }).logKey j.revoke j.slot 0
    else ({ s with fuse := f, sec := x.keyErr 7 }).logKey j.revoke j.slot 2

end Sys2Proof.Machine
end

