-- ==== Sys2Proof/Machine/Psm.lean ====
section
/-! DEFINITION. The power states (R38 to R51), start-up (R52 to R61), DORMANT and wake (R63 to R65), SAFE (R66), host-die reset (R39,
R515). -/

namespace Sys2Proof.Machine

/-! ### Reset and start-up (R39, R41, R52, R53, R515) -/

/-- A host-die reset: every register of the host die is at its reset value. The portal dies, the tally island, the flash, the fuse cells, the
eMMC medium and the model's own fields go on. -/
def State.hostReset (s : State) : State :=
  let a := s.arch
  { State.reset with
    clock := s.clock, freeCtr := s.freeCtr, pending := s.pending, portals := s.portals,
    seq := { portals := .all { enteredAt := s.clock } },
    tally := { s.tally with inbox := [], marks := [] },
    fuse := { s.fuse with devFuse := 0, vote := 0, uid := 0, hashes := .all 0, void := 0 },
    harn := { flash := s.harn.flash },
    arch := { medium := a.medium, unread := a.unread, traces := a.traces } }

/-- Start-up begins: fuse load. -/
def State.startUp (s : State) (rstPin : Bool) : State :=
  { s with psm := { s.psm with porHeld := false, resetLow := false, step := .fuseLoad, boot := bitIf 31 rstPin, bootFrom := s.clock } }

/-- POR is released; with RESET_N low the start waits for its release. -/
def State.porRelease (s : State) : State :=
  if !s.psm.porHeld then s
  else if s.psm.resetLow then { s with psm := { s.psm with porHeld := false } }
  else s.startUp false

/-- RESET_N falls. -/
def State.resetAssert (s : State) : State :=
  let held := s.psm.porHeld
  let t := s.hostReset
  { t with psm := { t.psm with porHeld := held, resetLow := true } }

/-- RESET_N rises. -/
def State.resetRelease (s : State) : State :=
  if !s.psm.resetLow then s
  else if s.psm.porHeld then { s with psm := { s.psm with resetLow := false } }
  else s.startUp true

/-- A host supply falls below its threshold: host-die POR (R488). -/
def State.supplyLost (s : State) : State :=
  let low := s.psm.resetLow
  let t := s.hostReset
  { t with psm := { t.psm with resetLow := low } }

/-- The part is in BOOT at a step of start-up. -/
def State.booting (s : State) (x : BootStep) : Bool := s.psm.state == .boot && !s.psm.porHeld && !s.psm.resetLow && s.psm.step == x

/-- The next step of start-up, with its PHASE. -/
def State.bootStep (s : State) (x : BootStep) (phase : Nat) : State := { s with psm := { s.psm with step := x, phase := phase } }

/-- Fuse load is complete: the pairs start under the awl test, or FUSE_FAIL. -/
def State.fuseLoaded (s : State) (reads : List CellRead) : State :=
  if !s.booting .fuseLoad then s
  else
    let r := s.fuse.load reads
    let s := { s with fuse := r.1 }
    if r.2 then (s.pairsToTest).bootStep .awl 2 else { s with psm := { s.psm with state := .fuseFail } }

/-- A pair is under test. -/
def State.testing (s : State) : Bool := (s.pair .pommel).state == .test || (s.pair .cantle).state == .test

/-- The awl test of start-up ends, or the one that follows SAFE to MAINTAIN (R54, R280). -/
def State.awlDone (s : State) (p c : AwlRun) (xFail : Bool) : State :=
  let boot := s.booting .awl
  if !boot && !(s.psm.state == .maintain && s.testing) then s
  else
    let s := s.awlBoth p c xFail none
    if s.lock.lead.isNone then s.enterSafe .noPair else if boot then s.bootStep .flashWait 3 else s

/-! ### Flash discovery (R55) -/

/-- The flash is ready, or the wait is over. -/
def State.flashReady (s : State) (dev : Option FlashDevice) : State :=
  if !s.booting .flashWait then s else { s with psm := { s.psm with flashDev := dev, step := .discovery } }

/-- The magic of a region. -/
def hasMagic (flash : List Host.Cell) (r : Region) : Bool := memRead 0xFF 4 (regionBase r) flash == [0x54, 0x4C, 0x58, 0x48]

/-- Limit of the part's clock in a mode, MHz. -/
def modeLimit (m : Nat) : Nat := if 3 ≤ m then 200 else 133

/-- The mode and clock that are settled; none where the flash fails every mode. Without a valid SFDP table it is 1-1-1 at 25 MHz. -/
def settle (flash : List Host.Cell) (d : FlashDevice) : Option (Nat × Nat) :=
  if !d.sfdpOk then some (0, 25)
  else
    let seen := hasMagic flash .a || hasMagic flash .b
    (([4, 3, 2, 1, 0] : List Nat).find? fun m => d.modes.getLsbD m && d.readable.getLsbD m && seen).map fun m => (m, min d.maxMhz (modeLimit m))

/-- PSM_BOOT.XSPI_MODE and XSPI_MHZ. -/
def State.bootMode (s : State) (x : Nat × Nat) : State := { s with psm := { s.psm with boot := fput (fput s.psm.boot 21 19 x.1) 15 8 x.2 } }

/-- A_WHY or B_WHY. -/
def State.bootWhy (s : State) (r : Region) (why : Nat) : State :=
  { s with psm := { s.psm with boot := match r with
    | .a => fput s.psm.boot 27 25 why
    | .b => fput s.psm.boot 24 22 why } }

/-- Discovery is complete: image A is read next. A flash that was never ready shows no SFDP signature: mode 1-1-1 at 25 MHz is reported. It leaves no
image, as does one that fails every mode or cannot be read in the mode that is settled. -/
def State.flashSettled (s : State) : State :=
  if !s.booting .discovery then s
  else
    let up := fun (s : State) (b : Bool) => ({ s with psm := { s.psm with flashUp := some b } } : State)
    let none' := fun (s : State) => (((up s false).bootWhy .a 1).bootWhy .b 1).enterSafe .noImage
    match s.psm.flashDev with
    | none => none' (s.bootMode (0, 25))
    | some d =>
      let s := { s with psm := { s.psm with boot := putBit s.psm.boot 18 d.sfdpOk } }
      match settle s.harn.flash d with
      | none => none' s
      | some x =>
        let s := s.bootMode x
        if d.readable.getLsbD x.1 then (up s true).bootStep .imageRead 4 else none' s

/-! ### Image selection (R57, R84) -/

/-- The region being read. -/
def State.bootRegion (s : State) : Region := if s.psm.phase = 5 then .b else .a

/-- The region read is rejected: B is tried after A, and after B the part enters SAFE. -/
def State.rejectImage (s : State) (why : Nat) : State :=
  let r := s.bootRegion
  let s := ({ s with harn := { s.harn with candidate := none } }).bootWhy r why
  match r with
  | .a => s.bootStep .imageRead 5
  | .b => s.enterSafe .noImage

/-- The image has been read: structure, CRCs and content are checked. -/
def State.imageRead (s : State) : State :=
  if !s.booting .imageRead then s
  else
    let c := checkContent s.harn.flash s.bootRegion
    match c.image with
    | none => s.rejectImage c.why
    | some g => ({ s with harn := { s.harn with candidate := some g } }).bootStep .signature s.psm.phase

/-- PSM_BOOT.IMAGE. -/
def State.bootImage (s : State) (r : Region) : State := { s with psm := { s.psm with boot := fput s.psm.boot 29 28 (regionBit r + 1) } }

/-- The signature and the key slot are checked. -/
def State.signatureDone (s : State) : State :=
  if !s.booting .signature then s
  else
    match s.harn.candidate with
    | none => s
    | some g =>
      let w := g.signWhy s.harn.flash s.fuse
      if w ≠ 0 then s.rejectImage w
      else (({ s.takeImage g with harn := { (s.takeImage g).harn with candidate := none } }).bootImage g.region).bootStep .fabric s.psm.phase

/-- The fabric copies are configured; every link is trained (R59). -/
def State.fabricDone (s : State) : State :=
  if !s.booting .fabric then s
  else
    match s.harn.image with
    | none => s
    | some g => ((s.configure g).bootStep .training 6).trainAll

/-- Number of admitted pairs. -/
def State.admittedPairs (s : State) : Nat := b2n (s.pair .pommel).admitted + b2n (s.pair .cantle).admitted

/-- Start-up ends in STANDBY, with a pair admitted and an image loaded (R41). Where no pair is admitted any more the table has no transition: the
part stays in BOOT (log 207). -/
def State.bootDone (s : State) : State :=
  if !s.booting .training || s.admittedPairs = 0 || s.harn.image.isNone then s
  else
    let us := BitVec.ofNat 32 ((s.clock - s.psm.bootFrom) / 1000)
    let s := s.eachPortal fun s p => s.modLink p HostLink.giveUp
    ({ s with psm := { s.psm with state := .standby, step := .done, phase := 7, bootTime := us } } : State).noteStartUp

/-! ### State commands (R46 to R51) -/

/-- Code of a target state. -/
def psmTarget (w : Word) : Nat := fget w 7 4

/-- R41: a commanded transition exists from a state to a target with a scope. -/
def hasTransition (st : Psm) (tgt scope : Nat) : Bool :=
  match st, tgt, scope with
  | .standby, 5, 0 => true
  | .service, 4, 0 => true
  | .standby, 3, 0 => true
  | .dormant, 4, 0 => true
  | .standby, 6, 0 => true
  | .safe, 6, 0 => true
  | .maintain, 4, 0 => true
  | .standby, 7, 0 => true
  | .safe, 7, 0 => true
  | .service, 7, 1 => true
  | .standby, 0, 0 => true
  | .dormant, 0, 0 => true
  | .maintain, 0, 0 => true
  | .safe, 0, 0 => true
  | _, _, _ => false

/-- A word is a well-formed arm word for the present state (R46, R51). -/
def State.armWord (s : State) (w : Word) : Bool :=
  fget w 31 8 == 0xC50000 && fget w 2 0 == 0 && hasTransition s.psm.state (psmTarget w) (fget w 3 3)

/-- Lowest bit of a channel's grant byte. -/
def grantByte : Channel → Nat
  | .host => 0
  | .canA => 8
  | .canB => 16

/-- A channel holds the grant for a target (R49). -/
def State.granted (s : State) (ch : Channel) (tgt : Nat) : Bool := wbit s.psm.grant (grantByte ch + tgt % 8)

/-- SRC and TARGET of the last command. -/
def State.noteCmd (s : State) (src : CmdSource) (tgt : Nat) : State :=
  { s with psm := { s.psm with cmdstat := fput (fput s.psm.cmdstat 29 28 (chanCode src.ch)) 27 24 tgt } }

/-- An answer to a state command that came as a message. -/
def State.answerWord (s : State) (src : CmdSource) (ans : Option Byte) (why : Nat) : State :=
  match ans with
  | some q => s.answerCmd { src := src, msg := 8, seq := q, reason := why, portal := 0 }
  | none => s

/-- A word is refused, or an arm cancelled. -/
def State.refuseWord (s : State) (src : CmdSource) (ans : Option Byte) (tgt why : Nat) : State :=
  let s := s.noteCmd src tgt
  ({ s with psm := s.psm.refuse why }).answerWord src ans why

/-- The pending arm is cancelled at 10 ms. -/
def State.armTimeout (s : State) : State :=
  match s.psm.arm with
  | none => s
  | some a => ({ s with psm := { s.psm with arm := none } }).refuseWord a.src a.seq (psmTarget a.word) 1

/-- Some axis of a portal in use is in motion, by the latest STATE frames. -/
def State.anyMoving (s : State) : Bool :=
  allPortals.any fun p => s.inUse p && (wbit ((s.link p).word 6) 1 || wbit ((s.link p).word 6) 11 || wbit ((s.link p).word 6) 21)

/-- Why the guard of a transition is false (R41); 0 when it holds. Where several guards of MAINTAIN fail at once the spec names no order: DESIGN CHOICE,
the first of NO_PAIR, PASSWORD and SEAL in the order of R41's table is reported (log 208). -/
def State.guardWhy (s : State) (src : CmdSource) (tgt scope : Nat) : Nat :=
  let n := s.admittedPairs
  match tgt with
  | 5 => if 2 ≤ n ∨ (n = 1 ∧ wbit s.psm.grant 24) then 0 else 7
  | 4 =>
    (match s.psm.state with
      | .service => if s.anyMoving then 6 else 0
      | .maintain => if s.harn.image.isSome && s.harn.verified then 0 else 10
      | _ => 0)
  | 6 => if n = 0 then 7 else if !s.pwHeldBy src then 8 else if s.sealLow then 9 else 0
  | 7 =>
    if scope = 0 then 0
    else
      (match s.lock.lead with
        | none => 7
        | some i =>
          if !(s.pair i).admitted then 7
          else if (s.pair i.other).admitted || (s.pair i.other).state == .retired || decide (4 ≤ (s.pair i.other).fails) then 12
          else 0)
  | _ => 0

/-- An MNTN entry (R110). -/
def State.logMaintain (s : State) (src : CmdSource) (why : Nat) : State :=
  s.logFrom tagMNTN 0 (BitVec.ofNat 32 why) (if why = 0 then 0 else 1) (chanCode src.ch)

/-- A transition that is complete at once. -/
def State.enter (s : State) (st : Psm) : State := { s with psm := { s.psm.done with state := st } }

/-- MAINTAIN is entered: the password is consumed; from SAFE the pairs restart under the awl test and the links are trained. -/
def State.enterMaintain (s : State) (src : CmdSource) : State :=
  let fromSafe := s.psm.state == .safe
  let s := { s with sec := { s.sec with held := s.sec.held.setChan src.ch none }, harn := { s.harn with recovery := s.harn.image.isNone } }
  let s := (s.enter .maintain).logMaintain src 0
  if fromSafe then s.pairsToTest.trainAll else s

/-- A device-scope SELFTEST begins; the awl's step 7 goes to every portal die whose link is up (R289). -/
def State.enterSelftest (s : State) : State :=
  let fromSafe := s.psm.state == .safe
  let s := { s.enter .selftest with psm := { (s.enter .selftest).psm with pairScope := false } }
  let s := s.stopKernel.pairsToTest
  if fromSafe then s.trainAll else s.eachPortal State.sendTest

/-- A pair-scope SELFTEST begins (R292): the pair that does not lead is under test, and its cores restart from mask ROM. -/
def State.enterPairTest (s : State) (src : CmdSource) : State :=
  match s.lock.lead with
  | none => s
  | some i =>
    let o := i.other
    let s := { s.enter .selftest with psm := { (s.enter .selftest).psm with pairScope := true } }
    let s := (s.modPair o fun x => { x with before := x.state }).movePair o .test
    { s with lock := { s.lock with graft := some { pair := o, step := 1, from_ := s.clock, awlAt := s.clock, clean := 0, src := src },
                                   cores := s.lock.cores.setPair o {} } }

/-- A transition that is carried out over some time begins. -/
def State.begin (s : State) (src : CmdSource) (ans : Option Byte) (t : Transition) : State :=
  { s with psm := { s.psm with busy := some t }, nelz := { s.nelz with stateAnswer := ans.map fun q => (src, q) } }

/-- Carry out a command whose guard holds (R44). Where the kernel does not run, the final COMMAND of an entry to OFF is sent at once; else the next
burst is that COMMAND. -/
def State.perform (s : State) (src : CmdSource) (ans : Option Byte) (tgt scope : Nat) : State :=
  match tgt with
  | 5 => (s.enter .service).answerWord src ans 0
  | 6 => (s.enterMaintain src).answerWord src ans 0
  | 7 => (if scope = 0 then s.enterSelftest else s.enterPairTest src).answerWord src ans 0
  | 4 =>
    (match s.psm.state with
      | .dormant => (s.begin src ans (.fromDormant src)).pairsToTest
      | .service => ((s.closeAllCycles 0).enter .standby).answerWord src ans 0
      | _ => (s.enter .standby).answerWord src ans 0)
  | 3 => s.flushArchive.begin src ans (.toDormant src s.clock)
  | _ =>
    let s := s.flushArchive.begin src ans (.toOff src s.clock)
    if s.kernelRuns then s else s.eachPortal State.sendCommandNow

/-- A command whose execute word arrived is refused. -/
def State.refuseExec (s : State) (src : CmdSource) (ans : Option Byte) (tgt why : Nat) : State :=
  let s := s.refuseWord src ans tgt why
  if tgt = 6 then s.logMaintain src why else s

/-- Word 96 of the agreed inputs: the execute word accepted in this cycle (R437). -/
def execWord (src : CmdSource) (tgt scope : Nat) : Word := bitIf 31 true ||| fmk 19 18 (chanCode src.ch) ||| fmk 7 4 tgt ||| fmk 3 3 scope

/-- The execute word of this kernel cycle is accepted: SAFE may still come first in it (R50). Without a lead there is no kernel cycle. -/
def State.accept (s : State) (src : CmdSource) (ans : Option Byte) : State :=
  if s.kernelRuns then { s with psm := { s.psm with accepted := some { src := src, at_ := s.clock, seq := ans, cmdstat := s.psm.cmdstat } } } else s

/-- An execute word is accepted. A fault that forces SAFE in the same cycle comes first (R50). -/
def State.executeArm (s : State) (src : CmdSource) (ans : Option Byte) (arm : Word) (safe : Option SafeCause) : State :=
  let tgt := psmTarget arm
  let scope := fget arm 3 3
  let s := { s with seq := { s.seq with word96 := execWord src tgt scope } }
  let t := match safe with
    | some c => s.enterSafe c
    | none => s
  if t.psm.state ≠ s.psm.state then t.refuseExec src ans tgt 11
  else if !hasTransition s.psm.state tgt scope then s.refuseExec src ans tgt 4
  else
    let why := s.guardWhy src tgt scope
    if why ≠ 0 then s.refuseExec src ans tgt why
    else
      let s := s.noteCmd src tgt
      (s.accept src ans).perform src ans tgt scope

/-- A pending arm that is older than 10 ms is cancelled before anything else is judged. -/
def State.lapseArm (s : State) : State :=
  match s.psm.arm with
  | some a => if 10000000 < s.clock - a.at_ then s.armTimeout else s
  | none => s

/-- A word of a state command from a source: `ans` is the SEQ of the message that carried it. -/
def State.psmWord (s : State) (src : CmdSource) (ans : Option Byte) (w : Word) (safe : Option SafeCause) : State :=
  let s := s.lapseArm
  match s.psm.arm with
  | some a =>
    if !sameSource src a.src then s.refuseWord src ans (psmTarget w) 5
    else
      let s := { s with psm := { s.psm with arm := none } }
      if w = ~~~a.word then s.executeArm src ans a.word safe else s.refuseWord src ans (psmTarget a.word) 2
  | none =>
    if s.psm.busy.isSome then s.refuseWord src ans (psmTarget w) 5
    else if !s.armWord w then s.refuseWord src ans (psmTarget w) 4
    else if !s.granted src.ch (psmTarget w) then s.refuseWord src ans (psmTarget w) 3
    else
      (({ s with psm := { s.psm with arm := some { word := w, src := src, at_ := s.clock, seq := ans } } }).noteCmd src (psmTarget w)).answerWord
        src ans 0

/-- The arm word of a target with a scope. -/
def armWordOf (tgt scope : Nat) : Word := 0xC5000000 ||| fmk 7 4 tgt ||| fmk 3 3 scope

/-- The execute word of a target with a scope arrives. -/
def State.execCmd (s : State) (src : CmdSource) (tgt scope : Nat) (safe : Option SafeCause) : State :=
  s.psmWord src none (~~~armWordOf tgt scope) safe

/-! ### Transitions that take time (R44, R65) -/

/-- The controllers go OFF. -/
def State.cansOff (s : State) : State := { s with cans := s.cans.map CanState.turnOff }

/-- The flush of an entry that began at `at_` no longer holds it up: everything is written and every ARCH segment copied, or 40 ms have passed (R44,
R250, R454). -/
def State.flushOver (s : State) (at_ : Nat) : Bool :=
  s.arch.media != 1 || (s.arch.op == .idle && s.acq.nextDue.isNone) || decide (40000000 ≤ s.clock - at_)

/-- The entry to DORMANT or OFF that is complete now is answered. -/
def State.leaveAnswer (s : State) : State :=
  match s.psm.busy with
  | some (.toDormant _ at_) | some (.toOff _ at_) => if s.flushOver at_ then s.answerState 0 else s
  | _ => s

/-- Entry to DORMANT is complete: the pairs stop with their state retained. -/
def State.dormantEntered (s : State) : State :=
  match s.psm.busy with
  | some (.toDormant _ at_) =>
    if !s.flushOver at_ then s else
    let lead := s.lock.lead
    let s := s.stopKernel.stopPairs
    let s := { s with psm := { s.psm.done with state := .dormant, busy := none }, lock := { s.lock with ledBefore := lead },
                      acq := s.acq.shut }
    s.cansOff
  | _ => s

/-- The ordered shutdown is complete. -/
def State.offEntered (s : State) : State :=
  match s.psm.busy with
  | some (.toOff _ at_) =>
    if !s.flushOver at_ then s else
    let s := (s.stopKernel.stopPairs).stopLinks 5
    ({ s with psm := { s.psm.done with state := .off, busy := none }, harn := { s.harn with recovery := false }, acq := s.acq.shut }).cansOff
  | _ => s

/-- After a retained CRC that does not match the image is loaded anew from the flash, A before B (R65, R57). -/
def State.reload (s : State) : State :=
  let a := checkImage s.harn.flash s.fuse .a
  let s := (s.bootWhy .a a.why).bootWhy .b 0
  match a.image with
  | some g => ((s.takeImage g).bootImage .a).configure g
  | none =>
    let b := checkImage s.harn.flash s.fuse .b
    let s := s.bootWhy .b b.why
    match b.image with
    | some g => ((s.takeImage g).bootImage .b).configure g
    | none =>
      { s with harn := { s.harn with image := none, verified := false },
               psm := { s.psm with grant := 0xC1, boot := fput s.psm.boot 29 28 0 } }.enterSafe .noImage

/-- The return from DORMANT: awl test and retained CRCs; then the links are trained and the portals read back before STANDBY is reached (R65). -/
def State.dormantReturned (s : State) (p c : AwlRun) (xFail crcOk : Bool) : State :=
  match s.psm.busy with
  | some (.fromDormant src) =>
    let s := s.awlBoth p c xFail s.lock.ledBefore
    if s.lock.lead.isNone then s.enterSafe .noPair
    else
      let s := if crcOk then s else s.reload
      if s.psm.state == .safe then s
      else
        let s := { s with psm := { s.psm with busy := some (.linksBack src) } }
        s.trainAll
  | _ => s

/-- PRT_FAIL and PRT_RAN of LOCK_AWL: step 7 runs on every portal whose link is up. A portal die that does not report a difference latches its lock-out
itself, when the TEST frame reaches it. -/
def State.portalTests (s : State) (fails : Four Bool) : State :=
  let ran := allPortals.map fun p => (s.link p).up
  let bad := allPortals.map fun p => (s.link p).up && fails.get p
  { s with lock := { s.lock with awl := fput (fput s.lock.awl 11 8 (bitsOf bad)) 7 4 (bitsOf ran) } }

/-- A device-scope SELFTEST ends (R41, R66, R277). -/
def State.selftestDone (s : State) (p c : AwlRun) (xFail : Bool) (fails : Four Bool) : State :=
  if s.psm.state != .selftest || s.psm.pairScope then s
  else
    let s := (s.awlBoth p c xFail none).portalTests fails
    let s := { s with lock := { s.lock.clearInfault with actionReq := false } }
    if s.lock.lead.isNone then
      let s := s.enterSafe .selftestFail
      if s.harn.image.isNone then { s with psm := { s.psm with safe := raise s.psm.safe 2 } } else s
    else if s.harn.image.isNone then s.enterSafe .noImage
    else { s with psm := { s.psm with state := .standby } }

/-! ### Reference and wake (R63, R64, R492) -/

/-- The reference is lost; while POR or RESET_N holds the host die nothing follows. -/
def State.referenceLost (s : State) : State := if s.psm.porHeld || s.psm.resetLow then s else s.enterSafe .refLoss

/-- Wake events are recorded: in DORMANT, and from the moment STANDBY to DORMANT begins. -/
def State.asleep (s : State) : Bool :=
  s.psm.state == .dormant || match s.psm.busy with
    | some (.toDormant _ _) => true
    | _ => false

/-- A wake event. -/
def State.wakeEvent (s : State) (bit : Nat) : State := if s.asleep then { s with psm := { s.psm with wake := raise s.psm.wake bit } } else s

/-- CANx_RXD has been low for 5 µs while CANx_STB is high. -/
def State.wakeCan (s : State) (c : CanId) : State :=
  if (s.can c).standby then s.wakeEvent (match c with
    | .a => 1
    | .b => 2) else s

end Sys2Proof.Machine
end

