-- ==== Sys2Proof/Machine/Time.lean ====
section
/-! DEFINITION. Device time at the host die (R411 to R413, R432): the latch of TIME_HI, TSYNC, slews and steps. -/

namespace Sys2Proof.Machine

/-- Change the TIME block. -/
def State.modTime (s : State) (f : TimeState → TimeState) : State := { s with time := f s.time }

/-- TIME_LO is read: the high word of the same instant is latched (R411). -/
def TimeState.latch (t : TimeState) : TimeState := { t with hiLatch := BitVec.ofNat 32 (t.now.toNat / 4294967296) }

/-- TIME_CFG.TSYNC_OUT. -/
def TimeState.tsyncOut (t : TimeState) : Bool := wbit t.cfg 31

/-- PER_MS; 0 reads as 1,000. -/
def TimeState.perMs (t : TimeState) : Nat := if fget t.cfg 9 0 = 0 then 1000 else fget t.cfg 9 0

/-- A rising edge of the TSYNC input is captured, to within 40 ns either way: where in that range is left open (R412). -/
def State.tsyncEdge (s : State) : State :=
  if s.time.tsyncOut then s
  else (s.modTime fun t => { t with cap := t.now + BitVec.ofNat 64 (s.free % 81) - 40 }).drawn

/-- The TSYNC output goes high for 1 µs (R412). -/
def State.tsyncPulse (s : State) : State :=
  if s.time.tsyncOut then s.modTime fun t => { t with tsyncUntil := s.clock + 1000 } else s

/-- Level of the TSYNC output. -/
def State.tsyncLevel (s : State) : Bool := s.time.tsyncOut && decide (s.clock < s.time.tsyncUntil)

/-! ### Slew and step (R413) -/

/-- Nothing is left to slew. -/
def TimeState.settled (t : TimeState) : TimeState := { t with slewLeft := 0, slewRate := 0, slewFrac := 0, stepPend := none }

/-- An error is slewed away at the rate that would remove it within 1 s, at most 100 ppm (R432). -/
def TimeState.slew (t : TimeState) (e : Int) : TimeState :=
  { t with slewLeft := e, slewRate := clampI (-100000) 100000 e, slewFrac := 0 }

/-- Counting windows that are open span a step of device time. -/
def TallyState.timeStepped (t : TallyState) : TallyState :=
  let mark := fun (x : Window) => ({ x with timeStep := true } : Window)
  { t with windows := t.windows.map fun w => w.map mark, ending := t.ending.map fun l => l.map mark }

/-- Device time steps by `e` ns. -/
def State.stepTime (s : State) (e : Int) (src : BitVec 2) : State :=
  { s with time := { s.time.settled with now := s.time.now + BitVec.ofInt 64 e, epoch := s.time.epoch + 1, src := src },
           nelz := { s.nelz with evt := raise s.nelz.evt 20 }, tally := s.tally.timeStepped }

/-- An error against the master: more than 1 ms is a step, in SERVICE one that waits for a quiet point while time slews towards it; less is
slewed away (R413, R432). -/
def State.applyOffset (s : State) (e : Int) (src : BitVec 2) : State :=
  if e.natAbs ≤ 1000000 then s.modTime fun t => { t.slew e with src := src, stepPend := none }
  else if s.inService then s.modTime fun t => { t.slew e with src := src, stepPend := some src }
  else s.stepTime e src

/-- A step that waits is made. -/
def State.stepWaiting (s : State) : State :=
  match s.time.stepPend with
  | none => s
  | some src => s.stepTime s.time.slewLeft src

/-- A step that waits is made at a quiet point, or at once when the part has left SERVICE. -/
def State.pendingStep (s : State) : State := if !s.inService || s.quietPoint then s.stepWaiting else s

/-- Time slews for `ns` nanoseconds of the reference. -/
def TimeState.advance (t : TimeState) (ns : Nat) : TimeState :=
  let f := t.slewFrac + t.slewRate * ns
  let d := f / 1000000000
  let d := if 0 ≤ t.slewLeft then min d t.slewLeft else max d t.slewLeft
  let left := t.slewLeft - d
  let u := { t with now := t.now + BitVec.ofInt 64 (ns + d), slewLeft := left, slewFrac := f % 1000000000 }
  if left = 0 then u.settled else u

/-- TIME_CMD (R413): STEP to the target written, refused while SYNCED. -/
def State.timeCmdStep (s : State) (key : Byte) : State :=
  let err := fun (why : Nat) => s.modTime fun t => { t with cmdstat := fput (raise t.cmdstat 30) 3 0 why }
  if key ≠ 0x71 then err 1
  else if s.time.synced then err 2
  else
    let target : Int := s.time.setHi.toNat * 4294967296 + s.time.setLo.toNat
    (s.stepTime (target - s.time.now.toNat) 3).modTime fun t => { t with cmdstat := fput (raise t.cmdstat 31) 3 0 0 }

/-- TIME_STAT. -/
def TimeState.stat (t : TimeState) (master : Bool) : Word :=
  fmk 31 16 t.epoch.toNat ||| bitIf 15 t.synced ||| bitIf 14 master ||| bitIf 13 t.stepPend.isSome ||| fmk 12 11 t.src.toNat

end Sys2Proof.Machine
end

