-- ==== Sys2Proof/Machine/Nelz.lean ====
section
/-! DEFINITION. The Nelzil message engine (R414 to R440): channels, peers and versions, sending, receiving, commands, status and train lines,
time synchronisation, summaries, the receive map, the mailbox. -/

namespace Sys2Proof.Machine

/-! ### Channels -/

/-- The engine serves: not in OFF or FUSE_FAIL, nor while the host die is held in reset (R38). -/
def State.nelzRuns (s : State) : Bool :=
  !s.psm.porHeld && !s.psm.resetLow && (match s.psm.state with
    | .off | .fuseFail => false
    | _ => true)

/-- The engine runs on a channel. -/
def State.nelzOn (s : State) (ch : Channel) : Bool := s.nelzRuns && s.nelzCfg.enabled ch

/-- A channel's record. -/
def State.chan (s : State) (ch : Channel) : NelzChannel := s.nelz.chans.chan ch

/-- Change a channel's record. -/
def State.modChan (s : State) (ch : Channel) (f : NelzChannel → NelzChannel) : State :=
  { s with nelz := { s.nelz with chans := s.nelz.chans.setChan ch (f (s.nelz.chans.chan ch)) } }

/-- Raise a flag of NELZ_EVT. -/
def State.nelzEvt (s : State) (bit : Nat) : State := { s with nelz := { s.nelz with evt := raise s.nelz.evt bit } }

/-- The three channels. -/
def allChans : List Channel := [.host, .canA, .canB]

/-- The two CAN channels. -/
def canChans : List Channel := [.canA, .canB]

/-- CAN FD frames can be sent on a channel; the mailbox carries every length. -/
def State.chanFd (s : State) (ch : Channel) : Bool :=
  match chanCan ch with
  | some c => (s.can c).fdEn
  | none => true

/-- A MODES bit of the NELZ section: 0 TMASTER, 1 TFOLLOW, 2 SUMMARY, 3 TALLY. -/
def NelzCfg.mode (k : NelzCfg) (i : Nat) : Bool := Nat.testBit k.modes i

/-! ### Versions (R415, R419 to R421) -/

/-- Lowest and highest version of a message; none for a CLASS and TYPE that is not listed. -/
def msgVersions : Nat → Option (Nat × Nat)
  | 0 => some (1, 3)
  | 1 => some (1, 3)
  | 2 => some (1, 3)
  | 8 => some (3, 3)
  | 9 => some (1, 3)
  | 10 => some (1, 3)
  | 11 => some (3, 3)
  | 12 => some (1, 3)
  | 16 => some (1, 3)
  | 17 => some (1, 3)
  | 24 => some (3, 3)
  | _ => none

/-- The versions of a message in the form of its length; none where no form has that length. -/
def formVersions (msg len : Nat) : Option (Nat × Nat) :=
  match msgVersions msg with
  | none => none
  | some v =>
    if msg = 9 then (if len = 8 then some (1, 1) else if len = 20 then some (2, 3) else none)
    else if msg = 17 then (if len = 8 then some (1, 1) else if len = 64 then some (2, 3) else none)
    else if msg = 11 then (if len = 16 then some v else none)
    else if msg = 24 then (if len = 64 then some v else none)
    else if len = 8 then some v else none

/-- The part takes a message: some version of its form lies within its own range (R415, R420). -/
def NelzCfg.takes (k : NelzCfg) (msg len : Nat) : Bool :=
  match formVersions msg len with
  | some (lo, hi) => decide (lo ≤ k.vmax) && decide (k.vmin ≤ hi)
  | none => false

/-- Peers that the part speaks with at all. -/
def NelzCfg.known (k : NelzCfg) (ps : List Peer) : List Peer := ps.filter fun p => decide (k.vmin ≤ p.vmax.toNat)

/-- The lowest VMAX among the part and its peers. -/
def NelzCfg.lowest (k : NelzCfg) (ps : List Peer) : Nat := (k.known ps).foldl (fun n p => min n p.vmax.toNat) k.vmax

/-- The peers that count; the others are excluded. -/
def NelzCfg.counted (k : NelzCfg) (ps : List Peer) : List Peer :=
  let m := k.lowest ps
  (k.known ps).filter fun p => decide (p.vmin.toNat ≤ m)

/-- A node is excluded. -/
def NelzCfg.excluded (k : NelzCfg) (ps : List Peer) (node : BitVec 6) : Bool :=
  (ps.any fun p => p.node == node) && !((k.counted ps).any fun p => p.node == node)

/-- The version that a peer table asks for. -/
def NelzCfg.version (k : NelzCfg) (ps : List Peer) (fd cap : Bool) : Nat :=
  let c := k.counted ps
  let m := k.lowest ps
  if c.isEmpty then 0 else if !fd || cap || (c.any fun p => !wbit p.modes 0) then min m 1 else m

/-! ### Sending (R415, R416) -/

/-- Object of a send slot. -/
def NelzCfg.slotObj (k : NelzCfg) (slot : Nat) : Nat := k.objBase + slot

/-- Object `n` carries a frame that is on the bus. -/
def CanState.sending (c : CanState) (n : Nat) : Bool :=
  match c.onBus with
  | some (m, _) => m == n
  | none => false

/-- A message is put into its send object and its transmission requested: up to 8 bytes as a classical frame, longer ones as CAN FD. -/
def CanState.loadMsg (c : CanState) (n : Nat) (data : List Byte) (ck : Nat) : CanState :=
  let fd := decide (8 < data.length)
  (c.modObj n fun o =>
    { o with cfg := putBit (putBit o.cfg 27 fd) 26 (fd && c.fdEn), stat := fput o.stat 11 8 (lenDlc data.length), data := data }).request n ck

/-- A message may be sent now: HELLO always, another only within its versions, and not while another node carries the part's number (R415, R418, R422). -/
def State.fits (s : State) (ch : Channel) (slot len : Nat) : Bool :=
  let x := s.chan ch
  slot == 0 || (!x.clash && match formVersions (slotMsg slot) len with
    | some (lo, hi) => decide (lo ≤ x.v) && decide (x.v ≤ hi)
    | none => false)

/-- The request of object `n` holds a message of slot `slot` that may not be sent now, and its frame is not on the bus. -/
def State.unfit (s : State) (ch : Channel) (c : CanId) (slot : Nat) : Bool :=
  let n := s.nelzCfg.slotObj slot
  let o := (s.can c).obj n
  o.own == 2 && o.txreq && !(s.can c).sending n && !s.fits ch slot o.data.length

/-- What may no longer be sent on a CAN channel, waiting or requested, is given up. The rules stop its sending and name no outcome of a pending request:
DEDUCED, aborted with STOPPED as R421 has it (log 256). -/
def State.dropUnfit (s : State) (ch : Channel) (c : CanId) : State :=
  let stop := (List.range 8).filter fun i => s.unfit ch c i
  let s := s.modChan ch fun x => { x with waiting := x.waiting.filter fun m => s.fits ch m.slot.val m.data.length }
  if stop.isEmpty then s else s.modCan c fun x => stop.foldl (fun x i => x.abortReq (s.nelzCfg.slotObj i) 6) x

/-- A send object can be written: status slots at any moment except while on the bus, the others once their request is done. -/
def CanState.slotFree (c : CanState) (n slot : Nat) : Bool := !c.sending n && (decide (slot < 3) || !(c.obj n).txreq)

/-- Put a message on a CAN channel: it waits where its object is not free; a status message replaces one that waits. -/
def State.enqueue (s : State) (ch : Channel) (c : CanId) (slot : Fin 8) (data : List Byte) : State :=
  if (s.can c).ctl == .off then s
  else
    let n := s.nelzCfg.slotObj slot.val
    let w := if slot.val < 3 then (s.chan ch).waiting.filter fun m => m.slot != slot else (s.chan ch).waiting
    let behind := w.any fun m => m.slot == slot
    if !behind && (s.can c).slotFree n slot.val then
      (s.modChan ch fun x => { x with waiting := w }).modCan c fun x => x.loadMsg n data s.clock
    else s.modChan ch fun x => { x with waiting := w ++ [{ slot := slot, data := data }] }

/-- Take what can go from the messages that wait: the first of each slot whose object is free. -/
def State.pumpOne (s : State) (ch : Channel) (c : CanId) (m : OutMsg) : State :=
  let n := s.nelzCfg.slotObj m.slot.val
  let ahead := (s.chan ch).waiting.any fun x => x.slot == m.slot
  if (s.can c).ctl == .off then s
  else if !ahead && (s.can c).slotFree n m.slot.val then s.modCan c fun x => x.loadMsg n m.data s.clock
  else s.modChan ch fun x => { x with waiting := x.waiting ++ [m] }

/-- Messages that wait go out as their objects become free. -/
def State.pump (s : State) (ch : Channel) : State :=
  match chanCan ch with
  | none => s
  | some c =>
    let s := s.dropUnfit ch c
    let w := (s.chan ch).waiting
    if w.isEmpty then s
    else w.foldl (fun t m => t.pumpOne ch c m) (s.modChan ch fun x => { x with waiting := [] })

/-- A message for HOST_NODE enters the mailbox queue, or is dropped where it is full (R440). -/
def State.toMailbox (s : State) (msg : Nat) (data : List Byte) : State :=
  if 8 ≤ s.nelz.mbxRx.length then s.nelzEvt 17
  else { s with nelz := { s.nelz with mbxRx := s.nelz.mbxRx ++ [{ msg := BitVec.ofNat 5 msg, data := data }] } }

/-- Send a message other than HELLO. Of these the mailbox takes only what is addressed to it. -/
def State.sendMsg (s : State) (ch : Channel) (slot : Fin 8) (data : List Byte) : State :=
  let msg := slotMsg slot.val
  if !s.nelzOn ch || !s.fits ch slot.val data.length then s
  else
    match chanCan ch with
    | some c => s.enqueue ch c slot data
    | none => if msg = 12 then s.toMailbox msg data else s

/-- Send a message on both CAN channels. -/
def State.sendCans (s : State) (slot : Fin 8) (data : List Byte) : State := canChans.foldl (fun s ch => s.sendMsg ch slot data) s

/-! ### HELLO (R417, R418, R422) -/

/-- The part's HELLO on a channel. -/
def State.helloBytes (s : State) (ch : Channel) : List Byte :=
  let k := s.nelzCfg
  let x := s.chan ch
  let fd := s.chanFd ch
  leBytes 1 k.vmax ++ leBytes 1 k.vmin ++ leBytes 1 (bitsOf [fd, fd, k.mode 0, k.mode 3]) ++ [1, 0x98, 0xB1] ++ leBytes 1 x.v ++ [x.hseq]

/-- Put a HELLO out. -/
def State.putHello (s : State) (ch : Channel) : State :=
  let d := s.helloBytes ch
  let t := s.modChan ch fun x => { x with hseq := x.hseq + 1, lastHello := some s.clock, helloDue := false }
  match chanCan ch with
  | some c => if (s.can c).ctl == .off then s.modChan ch fun x => { x with helloDue := false } else t.enqueue ch c 0 d
  | none => t.toMailbox 0 d

/-- The latest HELLO of a channel is less than 10 ms old. -/
def NelzChannel.tooSoon (x : NelzChannel) (ck : Nat) : Bool :=
  match x.lastHello with
  | some t => decide (ck - t < 10000000)
  | none => false

/-- A HELLO is due: it goes out, or as soon as 10 ms have passed since the last. -/
def State.helloNow (s : State) (ch : Channel) : State :=
  let x := s.chan ch
  if !s.nelzOn ch then s
  else if x.tooSoon s.clock then s.modChan ch fun x => { x with helloDue := true }
  else s.putHello ch

/-- A HELLO is due for another reason than the period: none while another node carries the part's number. -/
def State.helloSoon (s : State) (ch : Channel) : State := if (s.chan ch).clash then s else s.helloNow ch

/-- A HELLO that waited for its 10 ms. -/
def State.helloLate (s : State) (ch : Channel) : State := if (s.chan ch).helloDue && !(s.chan ch).tooSoon s.clock then s.helloNow ch else s

/-- Every 1 s; to the mailbox the part sends no HELLO of its own. -/
def State.helloPeriodic (s : State) (ch : Channel) : State := if ch == .host then s else s.helloNow ch

/-! ### The peer table (R419 to R421) -/

/-- V of a channel changes. -/
def State.setV (s : State) (ch : Channel) (v : Nat) : State :=
  let old := (s.chan ch).v
  let s := s.modChan ch fun x => { x with v := v, settling := false }
  if old = v then s
  else
    let s := match ch with
      | .canA => s.nelzEvt 27
      | .canB => s.nelzEvt 26
      | .host => s
    s.helloSoon ch

/-- The version that a channel's peer table asks for now. -/
def State.wantV (s : State) (ch : Channel) : Nat := s.nelzCfg.version (s.chan ch).peers (s.chanFd ch) (s.chan ch).fdCap

/-- The version is worked out anew: a fall takes effect at once, and so does a rise from 0 with the first peer of a table that was empty; another rise
waits. -/
def State.resettle (s : State) (ch : Channel) (first : Bool) : State :=
  let x := s.chan ch
  let w := s.wantV ch
  if w < x.v ∨ (first = true ∧ x.v = 0) then s.setV ch w
  else s.modChan ch fun x => { x with settling := decide (x.v < w) }

/-- The table has not changed for 1 s: a rise that waits takes effect. -/
def State.settleExpire (s : State) (ch : Channel) : State := if (s.chan ch).settling then s.setV ch (s.wantV ch) else s

/-- The table has not changed for 3 s: the cap of R421 is lifted. -/
def State.fdCapExpire (s : State) (ch : Channel) : State :=
  if (s.chan ch).fdCap then
    let s := s.modChan ch fun x => { x with fdCap := false }
    s.setV ch (s.wantV ch)
  else s

/-- Put a peer into a table that rises by node. -/
def putPeer (p : Peer) : List Peer → List Peer
  | [] => [p]
  | q :: r => if p.node < q.node then p :: q :: r else if p.node = q.node then p :: r else q :: putPeer p r

/-- A peer as its HELLO gives it. -/
def peerOf (node : BitVec 6) (b : List Byte) (ck : Nat) : Peer :=
  { node := node, vmax := b.getD 0 0, vmin := b.getD 1 0, modes := b.getD 2 0, product := b.getD 4 0, seenAt := ck }

/-- A HELLO with the part's own node number (R422). -/
def State.clashHello (s : State) (ch : Channel) : State :=
  if (s.chan ch).clash then s else (s.modChan ch fun x => { x with clash := true }).nelzEvt 25

/-- The own node number of the part on a channel. -/
def State.nodeNum (s : State) : BitVec 6 := BitVec.ofNat 6 s.nelzCfg.node

/-- A HELLO of another node: it joins the table or renews its entry. -/
def State.peerHello (s : State) (ch : Channel) (node : BitVec 6) (b : List Byte) : State :=
  let x := s.chan ch
  let k := s.nelzCfg
  let p := peerOf node b s.clock
  let old := x.peers.find? fun q => q.node == node
  let same := match old with
    | some q => { q with seenAt := p.seenAt } == p
    | none => false
  let out := k.excluded x.peers
  let s := s.modChan ch fun x => { x with peers := putPeer p x.peers, changedAt := if same then x.changedAt else s.clock }
  let now := s.nelzCfg.excluded (s.chan ch).peers
  let s := if (s.chan ch).peers.any (fun q => now q.node && !out q.node) then s.nelzEvt 24 else s
  let s := if old.isSome then s else
    match ch with
    | .canA => s.nelzEvt 31
    | .canB => s.nelzEvt 30
    | .host => s
  let v := (s.chan ch).v
  let s := if same then s else s.resettle ch x.peers.isEmpty
  if old.isNone && (s.chan ch).v == v then s.helloSoon ch else s

/-- A peer has been silent for 3 s. -/
def State.peerLost (s : State) (ch : Channel) (node : BitVec 6) : State :=
  if !((s.chan ch).peers.any fun p => p.node == node) then s
  else
    let s := s.modChan ch fun x => { x with peers := x.peers.filter fun p => p.node != node, changedAt := s.clock }
    let s := match ch with
      | .canA => s.nelzEvt 29
      | .canB => s.nelzEvt 28
      | .host => s
    s.resettle ch false

/-- 3 s have passed since the last HELLO with the part's own node number. -/
def State.clashExpire (s : State) (ch : Channel) : State := s.modChan ch fun x => { x with clash := false }

/-- Pending requests of the engine in the given slots are aborted with STOPPED. -/
def State.abortSlots (s : State) (ch : Channel) (which : Nat → Bool) : State :=
  match chanCan ch with
  | none => s
  | some c =>
    let k := s.nelzCfg
    let slots := (List.range 8).filter which
    let s := s.modChan ch fun x => { x with waiting := x.waiting.filter fun m => !which m.slot.val }
    s.modCan c fun x => slots.foldl (fun x i => if (x.obj (k.slotObj i)).txreq then x.abortReq (k.slotObj i) 6 else x) x

/-- Two FD frames in a row ended in their control field (R421). -/
def State.fdFallback (s : State) (ch : Channel) : State :=
  match chanCan ch with
  | none => s
  | some c =>
    if !s.nelzOn ch || decide ((s.can c).fdRun < 2) then s
    else
      let k := s.nelzCfg
      let fd := fun (i : Nat) => wbit ((s.can c).obj (k.slotObj i)).cfg 27
      let s := s.modCan c fun x => { x with fdRun := 0 }
      let s := (s.modChan ch fun x => { x with fdCap := true, waiting := x.waiting.filter fun m => decide (m.data.length ≤ 8) }).nelzEvt 23
      let s := s.abortSlots ch fd
      let v := (s.chan ch).v
      let s := s.resettle ch false
      if (s.chan ch).v = v then s.helloSoon ch else s

/-! ### Receiving (R414, R415, R439) -/

/-- The receive-map entry of a flag names a message on a channel. -/
def mapMatches (b : List Byte) (ch : Channel) (node : BitVec 6) (msg : Nat) (payload : List Byte) : Bool :=
  let bit := match ch with
    | .canA => 5
    | .canB => 6
    | .host => 7
  rd8 b 0 == msg && (rd8 b 1 == 0 || rd8 b 1 == node.toNat) && Nat.testBit (rd8 b 3) bit && decide (rd8 b 2 < payload.length)

/-- Position of a channel among a flag's values: with DUAL each CAN channel has its own. -/
def mapSlot (b : List Byte) (ch : Channel) : Fin 3 :=
  if rd8 b 3 / 16 % 2 = 1 then (match ch with
    | .host => 0
    | .canA => 1
    | .canB => 2) else 0

/-- A flag takes the bit of a matching message. -/
def RxFlag.take (x : RxFlag) (b : List Byte) (ch : Channel) (payload : List Byte) (ck : Nat) : RxFlag :=
  let i := mapSlot b ch
  let v := Nat.testBit (rd8 payload (rd8 b 2)) (rd8 b 3 % 8) != Nat.testBit (rd8 b 3) 3
  { value := x.value.set i v, fresh := x.fresh.set i true, at_ := x.at_.set i ck }

/-- The receive map takes a message. -/
def State.mapTake (s : State) (ch : Channel) (node : BitVec 6) (msg : Nat) (payload : List Byte) : State :=
  let one := fun (i : Nat) (x : RxFlag) =>
    match s.rxEntry i with
    | some b => if mapMatches b ch node msg payload then x.take b ch payload s.clock else x
    | none => x
  { s with nelz := { s.nelz with flags := s.nelz.flags.mapIdx one } }

/-- No matching message has come for FRESH_MS: the value is stale. -/
def State.flagStale (s : State) (f : Fin 64) (ch : Channel) : State :=
  match s.rxEntry f.val, s.nelz.flags[f.val]? with
  | some b, some x =>
    let i := mapSlot b ch
    if rd16 b 4 = 0 ∨ !x.fresh.get i then s
    else ({ s with nelz := { s.nelz with flags := setAt s.nelz.flags f.val { x with fresh := x.fresh.set i false } } }).nelzEvt 21
  | _, _ => s

/-- Identifiers of the frames that the engine's FIFO holds, oldest first. -/
def CanState.fifoIds (c : CanState) (n : Nat) : List Word :=
  let o := c.obj n
  o.fifoHeld.map fun i => (c.obj (n + i)).frameId

/-- The oldest frame of a FIFO is taken by the engine, not by the transfer buffer. -/
def CanState.fifoDrop (c : CanState) (n : Nat) : CanState :=
  let y := c.xRead n
  { y with xb := c.xb, xstat := c.xstat }

/-- The engine takes a message from its FIFO, in order. -/
def State.takeFifo (s : State) (ch : Channel) (node : BitVec 6) (msg : Nat) : State :=
  match chanCan ch with
  | none => s
  | some c =>
    let n := s.nelzCfg.objBase + 8
    let o := (s.can c).obj n
    let before := ((s.can c).fifoIds n).takeWhile fun i => i != nelzId msg node.toNat
    if o.head && o.own == 2 && decide (before.length < o.fill) then s.modCan c fun x => iter (fun y => y.fifoDrop n) (before.length + 1) x else s

/-- A message that the engine takes: the peer's age and the receive map follow. None where it is discarded. -/
def State.nelzTake (s : State) (ch : Channel) (node : BitVec 6) (msg : Nat) (payload : List Byte) : Option State :=
  let s := s.takeFifo ch node msg
  let k := s.nelzCfg
  if !s.nelzOn ch || node == 0 || !k.takes msg payload.length || (msg != 0 && k.excluded (s.chan ch).peers node) then none
  else
    let s := s.modChan ch fun x => { x with peers := x.peers.map fun p => if p.node = node then { p with seenAt := s.clock } else p }
    some (s.mapTake ch node msg payload)

/-- A message without a meaning of its own for the part. -/
def State.nelzPlain (s : State) (ch : Channel) (node : BitVec 6) (msg : Nat) (payload : List Byte) : State :=
  (s.nelzTake ch node msg payload).getD (s.takeFifo ch node msg)

/-- A HELLO is received. -/
def State.helloReceived (s : State) (ch : Channel) (node : BitVec 6) (payload : List Byte) : State :=
  match s.nelzTake ch node 0 payload with
  | none => s.takeFifo ch node 0
  | some t => if node = t.nodeNum then t.clashHello ch else t.peerHello ch node payload

/-! ### Commands (R426 to R430, R436) -/

/-- A command is for this part: DEST is its node number, not 0, and no other node carries the number. -/
def State.addressed (s : State) (ch : Channel) (payload : List Byte) : Bool :=
  rd8 payload 0 == s.nelzCfg.node && s.nelzCfg.node != 0 && !(s.chan ch).clash

/-- STATE_CMD. -/
def State.stateCmd (s : State) (ch : Channel) (node : BitVec 6) (payload : List Byte) (safe : Option SafeCause) : State :=
  match s.nelzTake ch node 8 payload with
  | none => s.takeFifo ch node 8
  | some t => if t.addressed ch payload then t.psmWord { ch := ch, node := node } (payload[1]?) (rdw payload 2) safe else t

/-- Position of a channel in a grant field of PCMD_GRANT. -/
def pcmdPos : Channel → Nat
  | .host => 0
  | .canA => 1
  | .canB => 2

/-- A channel holds a grant that needs a password (R428, R435). -/
def State.pwGrant (s : State) (ch : Channel) : Bool := s.granted ch 6 || Nat.testBit s.nelzCfg.pcmdGrant (4 + pcmdPos ch)

/-- A whole password has arrived. -/
def State.pwWhole (s : State) (ch : Channel) (node : BitVec 6) (len : Nat) (bytes : List Byte) : State :=
  if s.pwGrant ch then s.submit { ch := ch, node := node } len bytes true else s.answerPw { ch := ch, node := node } true 4

/-- Put a part among those that have arrived, once for each number. -/
def putPart (p : PwPart) (l : List PwPart) : List PwPart := (l.filter fun x => x.num != p.num) ++ [p]

/-- One part of a password: with the last one it is submitted. A part of another length begins anew. -/
def State.pwPart (s : State) (ch : Channel) (node : BitVec 6) (b : List Byte) : State :=
  let num := rd8 b 1 / 16
  let len := rd8 b 1 % 16 + 1
  let need := (len + 5) / 6
  let held := (s.chan ch).pwParts
  let cur := match held.find? fun x => x.node == node && x.len == len with
    | some x => x
    | none => { node := node, len := len, at_ := s.clock, parts := [] }
  if need ≤ num then s
  else
    let parts := putPart { num := num, bytes := slice b 2 6 } cur.parts
    let rest := held.filter fun x => x.node != node
    let goOn := held.any fun x => x.node == node && x.len == len
    if parts.length < need then
      let new : PwParts := { cur with parts := parts }
      s.modChan ch fun x => { x with pwParts := if goOn then held.map fun y => if y.node = node then new else y else rest ++ [new] }
    else
      let s := s.modChan ch fun x => { x with pwParts := rest }
      let bytes := (List.range need).flatMap fun i => match parts.find? fun x => x.num == i with
        | some x => x.bytes
        | none => []
      s.pwWhole ch node len bytes

/-- PASSWORD, in either form. -/
def State.passwordMsg (s : State) (ch : Channel) (node : BitVec 6) (payload : List Byte) : State :=
  match s.nelzTake ch node 9 payload with
  | none => s.takeFifo ch node 9
  | some t =>
    if !t.addressed ch payload then t
    else if payload.length = 8 then t.pwPart ch node payload
    else t.pwWhole ch node (rd8 payload 1) (slice payload 2 16)

/-- Parts are missing 100 ms after the first: the oldest collection is dropped. -/
def State.partsTimeout (s : State) (ch : Channel) : State :=
  match (s.chan ch).pwParts with
  | [] => s
  | x :: r => (s.modChan ch fun y => { y with pwParts := r }).answerPw { ch := ch, node := x.node } true 3

/-- The channel holds the PCMD_GRANT bit of a portal command. -/
def State.pcmdGranted (s : State) (ch : Channel) (cmd : Nat) : Bool :=
  match cmd with
  | 1 => Nat.testBit s.nelzCfg.pcmdGrant (pcmdPos ch)
  | 2 => Nat.testBit s.nelzCfg.pcmdGrant (4 + pcmdPos ch)
  | _ => false

/-- PORTAL_CMD: granted, it goes to the kernel; where no kernel runs it is refused. -/
def State.portalCmd (s : State) (ch : Channel) (node : BitVec 6) (payload : List Byte) : State :=
  match s.nelzTake ch node 10 payload with
  | none => s.takeFifo ch node 10
  | some t =>
    let src : CmdSource := { ch := ch, node := node }
    let q : Byte := payload.getD 3 0
    let refuse := fun (why : Nat) => t.answerCmd { src := src, msg := 10, seq := q, reason := why, portal := rd8 payload 1 }
    if !t.addressed ch payload then t
    else if t.psm.state == .safe then refuse 2
    else if !t.pcmdGranted ch (rd8 payload 2) then refuse 6
    else if !t.kernelRuns then refuse 2
    else if h : rd8 payload 1 < 4 then
      t.queuePcmd { src := src, seq := q, portal := ⟨rd8 payload 1, h⟩, cmd := BitVec.ofNat 4 (rd8 payload 2), held := t.pwHeldBy src, msg := true }
    else refuse 2

/-- A RESPONSE (R430). -/
def responseBytes (a : Answer) (dest : Nat) : List Byte :=
  leBytes 1 dest ++ leBytes 1 a.msg ++ [a.seq] ++ leBytes 1 (b2n (a.reason != 0)) ++ leBytes 1 a.reason ++ leBytes 1 a.portal ++ [0, 0]

/-- Send an answer to the node that sent the command. -/
def State.respond (s : State) (a : Answer) : State :=
  let dest := match a.src.ch with
    | .host => s.nelzCfg.hostNode
    | _ => a.src.node.toNat
  s.sendMsg a.src.ch 3 (responseBytes a dest)

/-- Answers and results that are due go out. -/
def State.drainAnswers (s : State) : State :=
  let l := s.nelz.answers
  if l.isEmpty then s else l.foldl State.respond { s with nelz := { s.nelz with answers := [] } }

/-- Results of portal commands become answers. -/
def State.drainResults (s : State) : State :=
  let l := s.seq.results
  if l.isEmpty then s
  else l.foldl (fun s r => s.answerCmd { src := r.cmd.src, msg := 10, seq := r.cmd.seq, reason := r.why, portal := r.cmd.portal.val })
    { s with seq := { s.seq with results := [] } }

/-! ### Status and train lines (R423, R424, R436) -/

/-- A bit for each portal. -/
def portalBits (f : PortalId → Bool) : Nat := bitsOf (allPortals.map f)

/-- DOOR_STATUS as the lead pair last committed its state (R271, R423); byte 6 is ALIVE. -/
def State.statusBytes (s : State) (alive : Byte) : List Byte :=
  if s.psm.state == .safe then [0xFF, 0xFF, 0, 0, 0, 8, alive, 0]
  else
    let v := s.seq.view
    let cls := fun (p : PortalId) => (v.portals.get p).cls
    let c := fun (p : PortalId) => (cls p).code
    let down := portalBits fun p => cls p == Guarded.lockedOut || cls p == Guarded.fault
    leBytes 1 (c 0 + 16 * c 1) ++ leBytes 1 (c 2 + 16 * c 3) ++
      leBytes 1 (portalBits (fun p => (v.portals.get p).soOn) + 16 * portalBits fun p => (v.portals.get p).openPermit) ++
      leBytes 1 (down + 16 * portalBits fun p => cls p == Guarded.limp) ++
      leBytes 1 (bitsOf [v.zs1, v.zs2, v.zsDisc] + 16 * portalBits fun p => cls p == Guarded.isolated) ++
      leBytes 1 s.psm.state.code ++ [alive, 0]

/-- DOOR_STATUS goes out on each CAN channel. -/
def State.sendStatus (s : State) : State :=
  canChans.foldl (fun s ch =>
    let x := s.chan ch
    if !s.nelzOn ch || x.clash || x.v == 0 then s
    else (s.modChan ch fun y => { y with alive := y.alive + 1 }).sendMsg ch 1 (s.statusBytes x.alive)) s

/-- The part's own line bits. -/
def State.lineBytes (s : State) : List Byte :=
  if s.psm.state == .safe then zeros 8 else leBytes 8 (s.fabric.dest.toNat / 2 ^ 0x800 % 2 ^ 64)

/-- LINES goes out on each CAN channel, at least 2 ms after the one before. -/
def State.sendLines (s : State) : State :=
  canChans.foldl (fun s ch =>
    let x := s.chan ch
    let soon := match x.linesAt with
      | some t => decide (s.clock - t < 2000000)
      | none => false
    if !s.nelzOn ch || x.clash || x.v == 0 || soon then s
    else (s.modChan ch fun y => { y with linesAt := some s.clock }).sendMsg ch 2 s.lineBytes) s

/-- Transmit request `m` rises: host send object m of CAN-A, or m − 32 of CAN-B, is requested (R387, R424). -/
def State.hostRequest (s : State) (m : Nat) : State :=
  let c : CanId := if m < 32 then .a else .b
  let n := m % 32
  let o := (s.can c).obj n
  if o.en && o.sends && o.own == 1 && (s.can c).ctl != .off then s.modCan c fun x => x.request n s.clock else s

/-- Transmit requests that rise at a tick. -/
def State.risingRequests (s t : State) : State :=
  let old := s.fabric.dest
  (List.range 64).foldl (fun t m => if wbit t.fabric.dest (0x840 + m) && !wbit old (0x840 + m) then t.hostRequest m else t) t

/-! ### Time synchronisation (R432) -/

/-- The time master of a channel: the lowest node of the part and its peers that shows MODES[2]; none unless V is 3. -/
def State.timeMaster (s : State) (ch : Channel) : Option (BitVec 6) :=
  let x := s.chan ch
  let k := s.nelzCfg
  let own := if k.mode 0 && k.node != 0 then [s.nodeNum] else []
  let all := own ++ ((x.peers.filter fun p => wbit p.modes 2).map fun p => p.node)
  if x.v ≠ 3 then none
  else all.foldl (fun m n => match m with
    | none => some n
    | some a => some (if n < a then n else a)) none

/-- The part is the time master of a channel. -/
def State.isMaster (s : State) (ch : Channel) : Bool :=
  s.nelzOn ch && s.nelzCfg.mode 0 && s.psm.state != .safe && s.timeMaster ch == some s.nodeNum

/-- TIME_STAT.MASTER. -/
def State.masterAny (s : State) : Bool := canChans.any s.isMaster

/-- The pair sequence of a channel. -/
def TimeState.seqOf (t : TimeState) : CanId → Byte
  | .a => t.pairSeq.fst
  | .b => t.pairSeq.snd

/-- The master sends SYNC; its FOLLOW_UP goes out when the SYNC has been sent. -/
def State.sendSync (s : State) (c : CanId) : State :=
  let ch := canChan c
  if !s.isMaster ch || (s.chan ch).followUp.isSome then s
  else
    let q := s.time.seqOf c
    let t := s.sendMsg ch 6 ([1, q] ++ zeros 14)
    (t.modChan ch fun x => { x with followUp := some q }).modTime fun u => { u with pairSeq := u.pairSeq.setCan c (q + 1) }

/-- FOLLOW_UP after its SYNC, with the time of the SYNC's start of frame; none where the SYNC was not sent. -/
def State.followUp (s : State) (ch : Channel) : State :=
  match (s.chan ch).followUp, chanCan ch with
  | some q, some c =>
    let o := (s.can c).obj (s.nelzCfg.slotObj 6)
    if o.txreq || ((s.chan ch).waiting.any fun m => m.slot == 6) then s
    else
      let t := s.modChan ch fun x => { x with followUp := none }
      if wbit o.stat 28 then t.sendMsg ch 6 ([2, q, 0, 0] ++ leBytes 8 o.time.toNat ++ zeros 4) else t
  | _, _ => s

/-- The channel whose master is followed: CAN-A, or CAN-B where CAN-A has none. -/
def State.followed (s : State) : Option CanId :=
  if !s.nelzCfg.mode 1 then none
  else if (s.timeMaster .canA).isSome then some .a
  else if (s.timeMaster .canB).isSome then some .b else none

/-- A pair is complete: its error is formed and removed. -/
def State.syncPair (s : State) (c : CanId) (e : Int) : State :=
  let good := if e.natAbs < 2000 then s.time.goodPairs + 1 else 0
  let s := s.modTime fun t =>
    { t with ofs := clampI (-2147483648) 2147483647 e, goodPairs := good, lastPair := s.clock, synced := t.synced || decide (3 ≤ good) }
  s.applyOffset e (match c with
    | .a => 1
    | .b => 2)

/-- TIME_SYNC, with the part's own stamp of the frame. -/
def State.timeSync (s : State) (c : CanId) (node : BitVec 6) (payload : List Byte) (stamp : Dword) : State :=
  let ch := canChan c
  match s.nelzTake ch node 11 payload with
  | none => s.takeFifo ch node 11
  | some t =>
    if t.followed != some c || t.timeMaster ch != some node || node == t.nodeNum then t
    else
      let q : Byte := payload.getD 1 0
      match rd8 payload 0 with
      | 1 => t.modTime fun u => { u with syncWait := some (c, node, q, stamp) }
      | 2 =>
        (match t.time.syncWait with
          | some (c', n', q', own) =>
            if c' = c ∧ n' = node ∧ q' = q then
              (t.modTime fun u => { u with syncWait := none }).syncPair c ((rd64 payload 4 : Int) - (own.toNat : Int))
            else t
          | none => t)
      | _ => t

/-- No pair has arrived for 1 s. -/
def State.syncLost (s : State) : State := s.modTime fun t => { t with synced := false, goodPairs := 0 }

/-! ### FAULT, summaries, tally records (R431, R433, R434) -/

/-- A FAULT message. -/
def State.sendFault (s : State) (kind portal cause : Nat) : State :=
  s.sendCans 4 (leBytes 1 kind ++ leBytes 1 portal ++ leBytes 1 cause ++ [0] ++ leBytes 4 (s.now / 1000000 % 4294967296))

/-- What R431 reports of a portal after a command. -/
def State.portalNotices (s t : State) (u : State) (p : PortalId) : State :=
  let was := (s.sp p).cls
  let is := (t.sp p).cls
  let u := if is == Guarded.fault && was != Guarded.fault then u.sendFault 1 p.val 0 else u
  let u := if is == Guarded.lockedOut && was != Guarded.lockedOut then u.sendFault 2 p.val (t.link p).seen.lockCause else u
  if (t.link p).fin.fault && !(s.link p).fin.fault then u.sendFault 5 p.val (t.link p).why else u

/-- FAULT messages for what a command has brought; in SAFE the one of its entry. -/
def State.notices (s t : State) : State :=
  if t.psm.state == .safe then
    (if s.psm.state == .safe then t else t.sendFault 3 0xFF (fget t.psm.safe 11 8))
  else
    let u := if t.lock.swapT != s.lock.swapT || fget t.lock.swap 31 16 != fget s.lock.swap 31 16 then t.sendFault 4 0xFF (fget t.lock.swap 31 28) else t
    allPortals.foldl (fun u p => s.portalNotices t u p) u

/-- At entry to SAFE what no longer is sent is aborted (R436). -/
def State.safeAborts (s : State) : State :=
  canChans.foldl (fun s ch =>
    if s.nelzOn ch then (s.abortSlots ch fun i => decide (5 ≤ i)).modChan ch fun x => { x with followUp := none } else s) s

/-- The 8-byte summary of a stitch record. -/
def summaryShort (r : List Byte) : List Byte :=
  let eff := fun (o : Nat) => leBytes 1 (min 255 (divR (max 0 (rds16 r o)) 10).toNat)
  [r.getD 2 0, r.getD 8 0] ++ leBytes 2 (min (rd32 r 24) 65535) ++ eff 40 ++ eff 42 ++ leBytes 1 (rd8 r 3 % 16) ++ [r.getD 52 0]

/-- The 64-byte summary of a stitch record. -/
def summaryLong (r : List Byte) : List Byte :=
  let b := [r.getD 2 0] ++ leBytes 1 (rd8 r 3 % 16) ++ [r.getD 52 0, 0] ++ slice r 8 4 ++ slice r 16 8 ++ slice r 28 10 ++ slice r 40 6 ++
    slice r 46 4 ++ slice r 50 2 ++ slice r 54 2 ++ slice r 4 4 ++ slice r 88 4 ++ slice r 100 4 ++ zeros 8
  b ++ leBytes 4 (crc32c b).toNat

/-- The summary of a door cycle that has ended goes out on each CAN channel in the form of its version. -/
def State.sendSummary (s : State) (r : List Byte) : State :=
  if !s.nelzCfg.mode 2 || s.psm.state == .safe then s
  else canChans.foldl (fun s ch => s.sendMsg ch 5 (if (s.chan ch).v = 1 then summaryShort r else summaryLong r)) s

/-- Summaries that are due go out. -/
def State.drainSummaries (s : State) : State :=
  let l := s.seq.summaries
  if l.isEmpty then s else l.foldl State.sendSummary { s with seq := { s.seq with summaries := [] } }

/-- A signed count record goes out in segments of 60 bytes. -/
def State.sendTally (s : State) (p : PortalId) (q : Word) (r : List Byte) : State :=
  let n := (r.length + 59) / 60
  if !s.nelzCfg.mode 3 || s.psm.state == .safe then s
  else (List.range n).foldl (fun s i => s.sendCans 7 (leBytes 1 p.val ++ leBytes 1 i ++ leBytes 1 n ++ leBytes 1 q.toNat ++ slice r (60 * i) 60)) s

/-! ### The mailbox (R440) and frames of CAN -/

/-- A message by its number. A TIME_SYNC carries its stamp. -/
def State.nelzMessage (s : State) (ch : Channel) (node : BitVec 6) (msg : Nat) (payload : List Byte) : State :=
  match msg with
  | 0 => s.helloReceived ch node payload
  | 8 => s.stateCmd ch node payload none
  | 9 => s.passwordMsg ch node payload
  | 10 => s.portalCmd ch node payload
  | 11 => (match chanCan ch with
      | some c => s.timeSync c node payload s.time.now
      | none => s.nelzPlain ch node msg payload)
  | _ => s.nelzPlain ch node msg payload

/-- NELZ_MBX_TXCTL: the payload written is a message of node HOST_NODE on the host-port channel. -/
def State.mailboxGo (s : State) (w : Word) : State :=
  if !wbit w 31 then s
  else s.nelzMessage .host (BitVec.ofNat 6 s.nelzCfg.hostNode) (fget w 20 16) (slice (wordBytes s.nelz.mbxTx) 0 (fget w 6 0))

/-- The head of the receive queue is removed. -/
def State.mailboxRemove (s : State) : State := { s with nelz := { s.nelz with mbxRx := s.nelz.mbxRx.drop 1 } }

/-- The engine has no use for a frame: no message the part knows (R414, R415). -/
def NelzCfg.unusable (k : NelzCfg) (f : CanFrame) : Bool :=
  let id := f.ident.toNat / 2 ^ 18
  f.ide || f.rtr || id % 64 == 0 || !k.takes (id / 512 * 8 + id / 64 % 8) f.data.length

/-- The newest frame of the engine's FIFO is discarded: its member holds none. -/
def CanState.fifoUndo (c : CanState) (n : Nat) : CanState :=
  match (c.obj n).fifoHeld.getLast? with
  | some i => (c.fifoTaken n i).modObj n fun o => { o with fifoNext := i }
  | none => c

/-- A frame that has just entered the engine's FIFO is discarded where the engine has no use for it. -/
def State.discardFrame (s t : State) (c : CanId) (f : CanFrame) : State :=
  let n := s.nelzCfg.objBase + 8
  let entered := decide (((s.can c).obj n).fill < ((t.can c).obj n).fill) && ((t.can c).obj n).own == 2
  if entered && t.nelzCfg.unusable f then t.modCan c fun x => x.fifoUndo n else t

/-- A frame received on a controller, stamped at the sample point of its start-of-frame bit (R382). -/
def State.canReceive (s : State) (c : CanId) (r : CanRx) : State :=
  let s := s.modCan c fun x => { x with bad := x.bad ++ (r.upset.map Fin.val).filter fun n => !x.bad.contains n }
  let free := s.free
  s.discardFrame (s.modCan c fun x => x.receive r.word (s.time.now - BitVec.ofNat 64 r.sofAgo) free).drawn c r.word

end Sys2Proof.Machine
end

