-- ==== Sys2Proof/Machine/Tally.lean ====
section
/-! DEFINITION. The tally island (R462 to R485): image check and seal, audit trail, curtain frames, windows, tracks and count records. -/

namespace Sys2Proof.Machine

/-- Change the island. -/
def State.modTally (s : State) (f : TallyState → TallyState) : State := { s with tally := f s.tally }

/-! ### Audit trail (R468, R474, R477) -/

/-- Flash address of audit entry `e`. -/
def auditAt (e : Nat) : Nat := 0x880000 + (e - 1) * 128

/-- Bytes of audit entry `e` in flash. -/
def State.auditEntry (s : State) (e : Nat) : List Byte := memRead 0xFF 128 (auditAt e) s.harn.flash

/-- An entry is valid: its number and its CRC. -/
def auditOk (e : Nat) (b : List Byte) : Bool := rd16 b 0 == e && crc32c (b.take 60) == rdw b 60

/-- Entry `e` is valid. -/
def State.auditValid (s : State) (e : Nat) : Bool := auditOk e (s.auditEntry e)

/-- Numbers of the valid entries in flash, lowest first: an entry that is erased throughout is none. -/
def State.auditsHeld (s : State) : List Nat :=
  let l := (s.harn.flash.filter fun c => decide (0x880000 ≤ c.1) && decide (c.1 < 0x900000)).map fun c => (c.1 - 0x880000) / 128 + 1
  (l.foldl (fun l e => if l.head? = some e then l else e :: l) []).reverse.filter s.auditValid

/-- The valid entries that count: those up to the counter. -/
def State.audits (s : State) : List Nat := s.auditsHeld.filter fun e => decide (e ≤ s.tally.used)

/-- 64 bytes of a public key, Qx then Qy, most significant first. -/
def pubBytes (p : BitVec 512) : List Byte := beBytes 64 p.toNat

/-- First 8 bytes of the SHA-256 of a public key; zeros for none. -/
def keyFpr (p : BitVec 512) : List Byte := if p = 0 then zeros 8 else (sha256 (pubBytes p)).take 8

/-- A signature over the SHA-256 of a head of 64 bytes, r and then s; zeros without a key. -/
def signHead (key : Option (BitVec 256)) (nonce : Nat) (b : List Byte) : List Byte :=
  match key with
  | none => zeros 64
  | some d =>
    let x := ecdsaSign d.toNat (beNat (sha256 b)) (1 + nonce % (n256 - 1))
    beBytes 32 x.1 ++ beBytes 32 x.2

/-- DEV_UID as bytes. -/
def State.uidBytes (s : State) : List Byte := leBytes 8 s.fuse.uid.toNat

/-- Device time for an audit entry; 0 while the time island is held in reset. -/
def State.auditTime (s : State) : Nat := if s.psm.porHeld || s.psm.resetLow then 0 else s.now

/-- Write audit entry `e`: KIND 1 sealed, 2 image changed, 3 interrupted; `pub` is the public key in force after the event, `key` signs. -/
def State.audit (s : State) (e kind : Nat) (key : Option (BitVec 256)) (pub : BitVec 512) : State :=
  let t := s.tally
  let prev : Word := if e ≤ 1 then 0 else rdw (s.auditEntry (e - 1)) 60
  let h := leBytes 2 e ++ leBytes 1 kind ++ [0] ++ leBytes 8 s.auditTime ++ leBytes 4 t.imgVer.toNat ++ leBytes 4 t.imgCrc.toNat ++
    wordBytes t.imgName.toList ++ s.uidBytes ++ keyFpr pub ++ leBytes 4 prev.toNat ++ zeros 4
  let h := h ++ leBytes 4 (crc32c h).toNat
  let b := h ++ signHead key s.free h
  { s.drawn with harn := { s.harn with flash := memPut 0xFF s.harn.flash (auditAt e) b } }

/-! ### Seal blocks (R468)

The manual gives their items and not their layout: DESIGN CHOICE (log 257). -/

/-- Flash address of a seal-block copy. -/
def sealAddr (second : Bool) : Nat := if second then 0x878000 else 0x870000

/-- The bytes of a seal-block copy, which end in its CRC-32C. -/
def SealBlock.bytes (b : SealBlock) : List Byte :=
  let h := leBytes 4 b.gen ++ leBytes 2 (b2n b.isSealed) ++ leBytes 2 b.evt ++ leBytes 4 b.imgVer.toNat ++ leBytes 4 b.imgCrc.toNat ++
    slice b.wrapped 0 40 ++ pubBytes b.pub
  h ++ leBytes 4 (crc32c h).toNat

/-- The seal-block copy that bytes spell; none where its CRC-32C is wrong. -/
def readSeal (b : List Byte) : Option SealBlock :=
  if crc32c (b.take 120) = rdw b 120 then
    some { gen := rd32 b 0, isSealed := rd16 b 4 == 1, evt := rd16 b 6, imgVer := rdw b 8, imgCrc := rdw b 12, wrapped := slice b 16 40,
           pub := BitVec.ofNat 512 (beNat (slice b 56 64)) }
  else none

/-- A seal-block copy as it stands in flash. -/
def State.sealAt (s : State) (second : Bool) : Option SealBlock := readSeal (memRead 0xFF 124 (sealAddr second) s.harn.flash)

/-- The valid copy with the higher generation. -/
def State.sealBlock (s : State) : Option SealBlock :=
  match s.sealAt false, s.sealAt true with
  | some a, some b => if a.gen < b.gen then some b else some a
  | some a, none => some a
  | none, x => x

/-- Write a new seal-block copy over the older one. -/
def State.putSeal (s : State) (b : SealBlock) : State :=
  let g := match s.sealBlock with
    | some x => x.gen + 1
    | none => 1
  let at_ := sealAddr (olderIsSecond ((s.sealAt false).map SealBlock.gen) ((s.sealAt true).map SealBlock.gen))
  { s with harn := { s.harn with flash := memPut 0xFF (memErase s.harn.flash at_ 0x8000) at_ ({ b with gen := g } : SealBlock).bytes } }

/-- The private key that a block holds. -/
def TallyState.blockKey (t : TallyState) (b : SealBlock) : Option (BitVec 256) := (aesUnwrap t.kek b.wrapped).map fun l => BitVec.ofNat 256 (beNat l)

/-- The counter is full (R476). -/
def TallyState.exhausted (t : TallyState) : Bool := decide (4096 ≤ t.used)

/-- A seal is in force. -/
def TallyState.inForceWith (t : TallyState) (b : SealBlock) : TallyState :=
  { t with inForce := b.evt, priv := t.blockKey b, pub := b.pub }

/-- No seal is in force. -/
def TallyState.noSeal (t : TallyState) : TallyState := { t with inForce := 0, priv := none, pub := 0 }

/-- Unresolved tracks since POR (TAL_CNT): those of the windows that have closed and of those that have not. -/
def TallyState.unresTotal (t : TallyState) : Nat :=
  let open_ := allPortals.flatMap fun p => (t.windows.get p).toList ++ t.ending.get p
  min (open_.foldl (fun n x => n + x.counts.unres) t.unresolved) 0xFFFF

/-- The island stops for good, until its POR. -/
def TallyState.halt (t : TallyState) : TallyState :=
  { t with mode := .halted, windows := .all none, ending := .all [], closing := .all [], checkDue := false, unresolved := t.unresTotal }

/-! ### Fuses (R467) -/

/-- A logical bit of the island's fuses as it was programmed. -/
def IslandFuses.bit (f : IslandFuses) (i : Nat) : Bool :=
  if i < 256 then f.kek.getLsbD i else if i < 512 then f.keyHash.getLsbD (i - 256) else decide (i < 512 + f.burnt)

/-- What one of its three cells reads: none for a marginal cell. -/
def IslandFuses.cell (f : IslandFuses) (i : Nat) (c : Fin 3) : Option Bool :=
  match f.weak.find? fun x => x.bit == i && x.cell == c with
  | some x => (match x.value with
      | .marginal => none
      | .reads v => some v)
  | none => some (f.bit i)

/-- The bit as voted (R53); none where no two known cells agree. -/
def IslandFuses.voted (f : IslandFuses) (i : Nat) : Option Bool := (voteBit (f.cell i 0) (f.cell i 1) (f.cell i 2)).1

/-- The bits that the vote reads otherwise than programmed, each once. -/
def IslandFuses.flipped (f : IslandFuses) : List Nat :=
  ((f.weak.map IslandCell.bit).eraseDups).filter fun i => decide (i < 4608) && f.voted i == some (!f.bit i)

/-- Some bit has no two known cells that agree. -/
def IslandFuses.fails (f : IslandFuses) : Bool := f.weak.any fun x => decide (x.bit < 4608) && (f.voted x.bit).isNone

/-- The island core reads its fuses. -/
def TallyState.readFuses (t : TallyState) : TallyState :=
  let l := t.fuses.flipped
  let turn := fun (lo : Nat) (v : BitVec 256) => l.foldl (fun (v : BitVec 256) i => if lo ≤ i ∧
      i < lo + 256 then v ^^^ BitVec.ofNat 256 (2 ^ (i - lo)) else v) v
  { t with kek := turn 0 t.fuses.kek, keyHash := turn 256 t.fuses.keyHash, loaded := true,
           used := l.foldl (fun n i => if i < 512 then n else if t.fuses.bit i then n - 1 else n + 1) t.fuses.burnt }

/-- The next bit of the seal event counter is burnt. -/
def TallyState.burn (t : TallyState) : TallyState := { t with used := t.used + 1, fuses := { t.fuses with burnt := t.fuses.burnt + 1 } }

/-! ### POR and image check (R469 to R476) -/

/-- Island POR: its fuses stay, and so does what is on its way to it. -/
def TallyState.por (t : TallyState) : TallyState := { fuses := t.fuses, inbox := t.inbox, marks := t.marks }

/-- The tally image as it stands in flash: the bytes up to LENGTH, or the number of the check that fails. -/
def checkTally (flash : List Host.Cell) (keyHash : BitVec 256) : Nat × List Byte :=
  let h := memRead 0xFF 64 0x800000 flash
  let n := rd32 h 8
  if h.take 4 != [0x54, 0x4C, 0x58, 0x54] then (1, [])
  else if rd8 h 4 ≠ 1 then (2, [])
  else if 458752 < n + 132 then (3, [])
  else
    let b := memRead 0xFF n 0x800000 flash
    let g := memRead 0xFF 132 (0x800000 + n) flash
    let v := fun (o : Nat) => beNat (slice g o 32)
    if crc32c (b.drop 64) != rdw b 32 then (4, [])
    else if !(rd8 g 1 == 1 && ecdsaVerify (v 4) (v 36) (beNat (sha256 b)) (v 68) (v 100)) then (5, [])
    else if sha256 (slice g 4 64) != beBytes 32 keyHash.toNat then (6, [])
    else (0, b)

/-- The image is accepted into the island's SRAM. -/
def TallyState.takeImage (t : TallyState) (b : List Byte) : TallyState :=
  { t with image := b, imgVer := rdw b 12, imgCrc := rdw b 32, imgName := ⟨rdw b 16, rdw b 20, rdw b 24, rdw b 28⟩, why := 0 }

/-- Numbers up to the counter without a valid entry (R474). -/
def State.auditsMissing (s : State) : List Nat := ((List.range s.tally.used).map (· + 1)).filter fun e => !s.auditValid e

/-- Audit entries are missing (R474): each is written as interrupted, signed with the key in force. -/
def State.fillAudit (s : State) : State :=
  let sealed := s.sealBlock.filter SealBlock.isSealed
  let key := sealed.bind s.tally.blockKey
  let pub := match sealed with
    | some x => if s.tally.used ≤ x.evt then x.pub else 0
    | none => 0
  s.auditsMissing.foldl (fun s e => s.audit e 3 key pub) s

/-- An accepted image meets the seal block: COUNTING, a recorded change of image (R475), or UNSEALED. -/
def State.meetSeal (s : State) : State :=
  let t := s.tally
  match s.sealBlock with
  | none => s.modTally fun t => { t.noSeal with mode := .unsealed }
  | some x =>
    if !x.isSealed || decide (x.evt < t.used) then s.modTally fun t => { t.noSeal with mode := .unsealed }
    else if x.imgVer = t.imgVer ∧ x.imgCrc = t.imgCrc then s.modTally fun t => { t.inForceWith x with mode := .counting }
    else if t.exhausted then s.modTally TallyState.halt
    else
      let s := (s.modTally TallyState.burn).audit (t.used + 1) 2 (t.blockKey x) 0
      (s.putSeal { x with isSealed := false, imgVer := t.imgVer, imgCrc := t.imgCrc }).modTally fun t => { t.noSeal with mode := .unsealed }

/-- What the checks at POR lead to: the audit trail is reconciled with the counter (R474), and an accepted image meets the seal block. -/
def State.tallySettle (s : State) : State :=
  let s := s.fillAudit.modTally fun t => { t with checkDue := false }
  if s.tally.mode = .start then s.meetSeal else s

/-- The part is in BOOT: the island writes no flash (R468). -/
def State.inBoot (s : State) : Bool := s.psm.state == .boot

/-- What follows the checks writes flash: an audit entry that is missing, or a change of image (R474, R475). -/
def State.sealWrites (s : State) : Bool :=
  let t := s.tally
  !s.auditsMissing.isEmpty || (t.mode == .start && match s.sealBlock with
    | some x => x.isSealed && decide (t.used ≤ x.evt) && !t.exhausted && !(x.imgVer == t.imgVer && x.imgCrc == t.imgCrc)
    | none => false)

/-- The checks at the island's POR: its fuses, then the image (R467, R470), once the flash mode has settled. What writes flash waits for the end of BOOT. A
flash that cannot be read in any mode shows no image and no audit entry: DESIGN CHOICE, NO_IMAGE with WHY 1 (log 262). -/
def State.tallyChecked (s : State) (r : IslandRead) : State :=
  if s.tally.mode != .start || s.tally.loaded then s
  else
    match s.psm.flashUp with
    | none => s
    | some up =>
      let s := s.modTally fun t => { t with fuses := { t.fuses with weak := r.weak } }
      if r.nonCode then s.modTally fun t => { t.halt with nonCode := true }
      else if s.tally.fuses.fails then s.modTally fun t => { t.halt with fuseFail := true }
      else
        let s := s.modTally TallyState.readFuses
        if !up then s.modTally fun t => { t with mode := .noImage, why := 1 }
        else
          let past := s.auditsHeld.any fun e => decide (s.tally.used < e)
          let s := s.modTally fun t => { t with anomaly := past }
          let s := match checkTally s.harn.flash s.tally.keyHash with
            | (0, b) => s.modTally fun t => t.takeImage b
            | (w, _) => s.modTally fun t => { t with mode := .noImage, why := w }
          if s.inBoot && s.sealWrites then s.modTally fun t => { t with checkDue := true } else s.tallySettle

/-- What the checks lead to, where it waited for the end of BOOT. -/
def State.tallyWaiting (s : State) : State := if s.tally.checkDue && !s.inBoot then s.tallySettle else s

/-- The island runs. -/
def TallyState.runs (t : TallyState) : Bool := t.mode == .counting || t.mode == .unsealed || t.mode == .sealing

/-- IMG_CRC is recomputed over the SRAM copy. -/
def TallyState.selfCheck (t : TallyState) (upset : Bool) : TallyState :=
  if t.runs && (upset || crc32c (t.image.drop 64) != t.imgCrc) then { t.halt with selfCrc := true } else t

/-! ### Sealing (R472, R473) -/

/-- No window is open: none waits for its end mark or for the 1 ms after it. -/
def TallyState.idleWindows (t : TallyState) : Bool := t.windows == .all none && t.ending == .all []

/-- TALLY_SEAL_N has been low for 2 s: sealing starts with the next counter bit, once for this falling edge. -/
def State.tallySeal (s : State) : State :=
  let t := s.tally
  let go := (t.mode == .unsealed || t.mode == .counting) && !s.inBoot && t.idleWindows && !t.exhausted && !t.sealDone
  s.modTally fun t => { (if go then { t.burn with mode := .sealing } else t) with sealSw := true, sealDone := true }

/-- The public key of a private key. -/
def pubOf (d : BitVec 256) : BitVec 512 :=
  match ecMul d.toNat g256 with
  | some (x, y) => BitVec.ofNat 512 (x * 2 ^ 256 + y)
  | none => 0

/-- Sealing ends. The counter bit that does not read back as burnt halts the island: one that the vote reads as unprogrammed is DESIGN CHOICE (log 260). A flash
write that failed leaves no seal: whether it was the seal block or the audit entry after it is open. -/
def State.tallySealed (s : State) (r : SealRun) (drawn : BitVec 256) : State :=
  if s.tally.mode != .sealing then s
  else
    let s := s.modTally fun t => { t with fuses := { t.fuses with weak := r.weak } }
    let t := s.tally
    if r.nonCode then s.modTally fun t => { t.halt with nonCode := true }
    else if t.fuses.voted (511 + t.fuses.burnt) ≠ some true then s.modTally fun t => { t.halt with fuseFail := true }
    else
      let d : BitVec 256 := BitVec.ofNat 256 (1 + drawn.toNat % (n256 - 1))
      let p := pubOf d
      let b : SealBlock := { gen := 0, isSealed := true, evt := t.used, imgVer := t.imgVer, imgCrc := t.imgCrc,
                             wrapped := aesWrap t.kek (beBytes 32 d.toNat), pub := p }
      if r.flashOk then
        let s := (s.putSeal b).audit t.used 1 (some d) p
        s.modTally fun t => { t with mode := .counting, inForce := t.used, priv := some d, pub := p }
      else
        let wrote := s.free % 2 == 1
        let s := if wrote then s.drawn.putSeal b else s.drawn
        s.modTally fun t => { t.noSeal with mode := .unsealed, flashErr := true }

/-! ### Curtain frames (R465, R478 to R480) -/

/-- A frame is discarded and counted. -/
def TallyState.badFrame (t : TallyState) : TallyState := { t with bad := satInc t.bad 0xFFFF }

/-- A port state reads live (CUR_STAT.STATE 3). -/
def portLive (w : Word) : Bool := fget w 31 28 == 3

/-- Both ports of a portal were live at a moment, as far as the island knows their changes: a port that is live since later was not. -/
def TallyState.portsLiveAt (t : TallyState) (p : PortalId) (time : Nat) : Bool :=
  let was := fun (x : PortLive) => if x.live then decide (x.since ≤ time) else decide (time < x.since)
  was (t.ports.get p).fst && was (t.ports.get p).snd

/-- A beam of a plane is interrupted in a frame of port `k`; none where the plane has another port. -/
def TallyState.plane (t : TallyState) (p : PortalId) (k : Fin 2) (inner : Bool) (b : List Byte) : Option Bool :=
  if Config.calPort t.image p.val inner != (k == 1) then none
  else
    let m := (Config.calMask t.image p.val inner).toNat
    let l := if rd8 b 1 = 2 then rd64 b 12 else 0
    some ((rd64 b 4 ||| l) &&& m != 0)

/-- A track after a scan of one port. -/
def trackScan (x : Option Track) (outer inner : Option Bool) : Option Track :=
  match x with
  | none =>
    let o := outer.getD false
    let i := inner.getD false
    if !o && !i then none
    else some { first := if o && i then 2 else if o then 0 else 1, last := 2, together := o && i, outerNow := o, innerNow := i }
  | some k =>
    let o := outer.getD k.outerNow
    let i := inner.getD k.innerNow
    let last := if o || i then k.last
      else if k.outerNow && k.innerNow then 2
      else if k.outerNow then 0 else if k.innerNow then 1 else k.last
    some { k with last := last, together := k.together || (o && i), outerNow := o, innerNow := i }

/-- A track that has ended is judged. -/
def WinCounts.judge (x : WinCounts) (k : Track) : WinCounts :=
  let x := { x with track := none }
  if k.first = k.last ∧ k.first < 2 then x
  else if k.first = 0 ∧ k.last = 1 ∧ k.together then { x with inN := satInc x.inN 0xFFFF }
  else if k.first = 1 ∧ k.last = 0 ∧ k.together then { x with outN := satInc x.outN 0xFFFF }
  else { x with unres := satInc x.unres 0xFFFF }

/-- A window counts an event. -/
def WinCounts.add (x : WinCounts) : WinEvent → WinCounts
  | .frame _ missed outer inner legacy fault =>
    { x with frames := satInc x.frames 0xFFFF, missed := min (x.missed + missed) 0xFFFF, legacy := x.legacy || legacy,
             degraded := x.degraded || decide (0 < missed) || fault, track := trackScan x.track outer inner }
  | .down _ => { x with degraded := true }
  | .clear => match x.track with
    | some k => if k.outerNow || k.innerNow then x else x.judge k
    | none => x

/-- An event lies before a moment; both planes clear for 100 ms lies before every one, since it ends a track whenever the window is still open. -/
def WinEvent.before (e : WinEvent) (time : Nat) : Bool :=
  match e with
  | .frame t .. => decide (t < time)
  | .down t => decide (t < time)
  | .clear => true

/-- A frame lies before a moment at which a window starts: it is none of the window's. -/
def WinEvent.early (e : WinEvent) (time : Nat) : Bool :=
  match e with
  | .frame t .. => decide (t < time)
  | _ => false

/-- A window takes an event. -/
def Window.takes (x : Window) (e : WinEvent) : Bool :=
  !e.early x.start.toNat && match x.end_ with
    | some t => e.before t.toNat
    | none => true

/-- The latest sixteen of some events and those before them: DESIGN CHOICE (log 261). -/
def latest16 (l : List WinEvent) : List WinEvent × List WinEvent := l.splitAt (l.length - 16)

/-- A window meets an event; what an open window has counted can be taken back as far as its latest events. -/
def Window.meet (x : Window) (e : WinEvent) : Window :=
  if !x.takes e then x
  else if x.end_.isSome then { x with counts := x.counts.add e }
  else
    let l := latest16 (x.recent ++ [e])
    { x with counts := x.counts.add e, base := l.1.foldl WinCounts.add x.base, recent := l.2 }

/-- T_END is fixed: what the window has counted of events from then on is taken back. -/
def Window.endAt (x : Window) (t : Dword) : Window :=
  { x with end_ := some t, counts := (x.recent.filter fun e => e.before t.toNat).foldl WinCounts.add x.base, base := {}, recent := [] }

/-- An event of a portal reaches its windows, and is kept for one that a later start mark opens. -/
def TallyState.event (t : TallyState) (p : PortalId) (e : WinEvent) : TallyState :=
  { t with windows := t.windows.set p ((t.windows.get p).map fun x => x.meet e), ending := t.ending.set p ((t.ending.get p).map fun x => x.meet e),
           early := t.early.set p (latest16 (t.early.get p ++ [e])).2 }

/-- A curtain port reports its state (R480). -/
def TallyState.portState (t : TallyState) (p : PortalId) (k : Fin 2) (w : Word) (time : Nat) : TallyState :=
  let old := (t.ports.get p).at2 k
  let t := if old.live = portLive w then t else { t with ports := t.ports.set p ((t.ports.get p).set2 k { live := portLive w, since := time }) }
  if portLive w then t else ({ t with lastSeq := t.lastSeq.set p ((t.lastSeq.get p).set2 k none) }).event p (.down time)

/-- A whole frame with a correct CRC: it belongs to the windows that cover its moment. One whose window has closed is discarded and counted. -/
def TallyState.beamFrame (t : TallyState) (p : PortalId) (k : Fin 2) (time : Nat) (b : List Byte) : TallyState :=
  let sq : Byte := b.getD 2 0
  let missed := match (t.lastSeq.get p).at2 k with
    | some q => (sq - q - 1).toNat
    | none => 0
  let t := { t with lastSeq := t.lastSeq.set p ((t.lastSeq.get p).set2 k (some sq)) }
  if (t.spans.get p).any fun x => decide (x.1 ≤ time) && decide (time < x.2) then t.badFrame
  else
    t.event p (.frame time missed (t.plane p k false b) (t.plane p k true b) (rd8 b 1 == 1)
      (Nat.testBit (if rd8 b 1 = 2 then rd8 b 22 else rd8 b 12) 0))

/-- The parts of a frame are complete. -/
def TallyState.wholeFrame (t : TallyState) (p : PortalId) (k : Fin 2) (time total : Nat) (bytes : List Byte) : TallyState :=
  let n := if total = 1 then 15 else 26
  let b := slice bytes 0 n
  if rd8 b 0 == 0xA5 && rd8 b 1 == total && curtainCrcOk b then t.beamFrame p k time b else t.badFrame

/-- One part of a curtain frame. -/
def TallyState.part (t : TallyState) (p : PortalId) (k : Fin 2) (f : EventFrame) : TallyState :=
  let total := f.parts.toNat / 16
  let this := f.parts.toNat % 16
  let put := fun (t : TallyState) (x : Option PartFrame) => ({ t with parts := t.parts.set p ((t.parts.get p).set2 k x) } : TallyState)
  let bytes := slice (wordBytes f.args) 0 20
  let old := (t.parts.get p).at2 k
  if this = 0 then
    let t := if old.isSome then t.badFrame else t
    if total = 1 then (put t none).wholeFrame p k f.etime.toNat 1 bytes
    else if total = 2 then put t (some { total := 2, held := 1, bytes := bytes })
    else (put t none).badFrame
  else
    match old with
    | some x => if x.held = this ∧ x.total = total then (put t none).wholeFrame p k f.etime.toNat 2 (x.bytes ++ bytes) else (put t none).badFrame
    | none => t.badFrame

/-- Curtain traffic that has reached the island. -/
def TallyState.curtain (t : TallyState) (p : PortalId) (f : EventFrame) : TallyState :=
  let t := { t with inbox := t.inbox.erase (p, f) }
  let k : Fin 2 := if f.port.toNat % 2 = 0 then 0 else 1
  if f.code = 0x11 then t.portState p k (f.args.getD 0 0) f.etime.toNat
  else if f.code = 0x10 then t.part p k f
  else t

/-! ### Windows and tracks (R478, R479) -/

/-- A window opens; events that reached the island before its start mark and belong to it are counted. -/
def TallyState.openWindow (t : TallyState) (m : CycleMark) : TallyState :=
  let c : WinCounts := { degraded := !t.portsLiveAt m.portal m.time.toNat }
  let x : Window := { cycle := m.cycle, start := m.time, end_ := none, seq := 0, counts := c, base := c, recent := [], incomplete := false,
                      hostReset := false, timeStep := false, sealEvt := t.inForce, key := t.priv.getD 0, pub := t.pub }
  let held := (t.early.get m.portal).filter fun e => e != .clear && !e.before m.time.toNat
  { t with windows := t.windows.set m.portal (some (held.foldl Window.meet x)) }

/-- SEQ for a record of a portal. -/
def TallyState.giveSeq (t : TallyState) (p : PortalId) : TallyState × Word :=
  ({ t with nextSeq := t.nextSeq + 1, pseq := t.pseq.set p t.nextSeq }, t.nextSeq)

/-- Both planes of a portal have been clear for 100 ms: a track with both planes clear ends. -/
def TallyState.trackEnd (t : TallyState) (p : PortalId) : TallyState := t.event p .clear

/-- A window closes: a track still running is unresolved, the record waits for its signature, and the span of the window is kept. -/
def TallyState.closeWindow (t : TallyState) (p : PortalId) (x : Window) : TallyState :=
  let n := if x.counts.track.isSome then satInc x.counts.unres 0xFFFF else x.counts.unres
  let y := { x with counts := { x.counts with track := none, unres := n } }
  let e := match x.end_ with
    | some e => e.toNat
    | none => 0
  { t with closing := t.closing.set p (t.closing.get p ++ [y]), unresolved := min (t.unresolved + n) 0xFFFF,
           spans := t.spans.set p (((x.start.toNat, e) :: t.spans.get p).take 16) }

/-- The windows of a portal that an end mark has reached close at once, changed by `f`. -/
def TallyState.cutEnding (t : TallyState) (p : PortalId) (f : Window → Window) : TallyState :=
  (t.ending.get p).foldl (fun t x => t.closeWindow p (f x)) { t with ending := t.ending.set p [] }

/-- The open window of a portal closes at once, without an end mark. -/
def TallyState.cutWindow (t : TallyState) (p : PortalId) (time : Dword) (f : Window → Window) : TallyState :=
  match t.windows.get p with
  | none => t
  | some x =>
    let r := t.giveSeq p
    ({ r.1 with windows := r.1.windows.set p none }).closeWindow p (f { x.endAt time with seq := r.2 })

/-- A start mark: a window that it finds open, the last 1 ms of one included, closes first. -/
def TallyState.startMark (t : TallyState) (m : CycleMark) : TallyState :=
  let inc := fun (x : Window) => ({ x with incomplete := true } : Window)
  if t.mode != .counting then t
  else ((t.cutEnding m.portal inc).cutWindow m.portal m.time inc).openWindow m

/-- An end mark reaches a window: it fixes T_END and SEQ. -/
def TallyState.endWindow (t : TallyState) (m : CycleMark) (x : Window) : TallyState :=
  let r := t.giveSeq m.portal
  let x := { x.endAt m.time with seq := r.2, incomplete := x.incomplete || m.incomplete }
  { r.1 with windows := r.1.windows.set m.portal none, ending := r.1.ending.set m.portal (r.1.ending.get m.portal ++ [x]) }

/-- A cycle mark reaches the island. What an end mark brings for the stitch record of its cycle goes to archive staging: the SEQ, or that there is none
(R482). A mark that crosses as a non-code word halts the island (R18, R472). -/
def State.tallyMark (s : State) (m : CycleMark) : State :=
  let s := s.modTally fun t => { t with marks := t.marks.erase { m with nonCode := false } }
  if m.nonCode then
    let s := s.modTally fun t => { t.halt with nonCode := true }
    if m.isEnd then { s with arch := s.arch.passRef m.portal m.cycle none } else s
  else if !m.isEnd then s.modTally fun t => t.startMark m
  else
    match s.tally.windows.get m.portal with
    | none => { s with arch := s.arch.passRef m.portal m.cycle none }
    | some x => { s with tally := s.tally.endWindow m x, arch := s.arch.passRef m.portal m.cycle (some s.tally.nextSeq) }

/-- 1 ms after the end mark. -/
def TallyState.windowClose (t : TallyState) (p : PortalId) : TallyState :=
  match t.ending.get p with
  | [] => t
  | x :: r => ({ t with ending := t.ending.set p r }).closeWindow p x

/-- A host-die reset or a link fault closes the affected windows (R483): those in their last 1 ms with the moment of closing too. -/
def TallyState.hostClose (t : TallyState) (portals : BitVec 4) (now : Dword) : TallyState :=
  let cut := fun (x : Window) => ({ x with end_ := some now, hostReset := true } : Window)
  allPortals.foldl (fun t p => if wbit portals p.val then (t.cutEnding p cut).cutWindow p now cut else t) t

/-! ### Records (R481, R485) -/

/-- The count record of a window. -/
def State.countRecord (s : State) (p : PortalId) (x : Window) : List Byte :=
  let e : Nat := match x.end_ with
    | some e => e.toNat
    | none => 0
  let c := x.counts
  let h := leBytes 4 x.seq.toNat ++ leBytes 1 p.val ++ leBytes 1 (bitsOf [c.degraded, x.incomplete, c.legacy, x.hostReset, x.timeStep]) ++
    leBytes 2 x.sealEvt ++ leBytes 4 x.cycle.toNat ++ leBytes 4 s.tally.imgCrc.toNat ++ leBytes 8 x.start.toNat ++ leBytes 8 e ++
    leBytes 2 c.inN ++ leBytes 2 c.outN ++ leBytes 2 c.unres ++ leBytes 2 c.frames ++ leBytes 2 c.missed ++ zeros 2 ++ s.uidBytes ++ keyFpr x.pub
  let h := h ++ leBytes 4 (crc32c h).toNat
  h ++ signHead (some x.key) s.free h

/-- A record takes its place in the ring of 16. -/
def putRecord (q : Word) (b : List Byte) (l : List (Word × List Byte)) : List (Word × List Byte) :=
  (q, b) :: l.filter fun r => r.1.toNat % 16 != q.toNat % 16

/-- The oldest closed window of a portal is signed and placed; Nelzil sends it. -/
def State.tallySigned (s : State) (p : PortalId) : State :=
  match s.tally.closing.get p with
  | [] => s
  | x :: r =>
    let b := s.countRecord p x
    let s := s.drawn.modTally fun t => { t with closing := t.closing.set p r, records := putRecord x.seq b t.records }
    s.sendTally p x.seq b

/-- The carousel shows the next valid entry; with the same pace the island samples TALLY_SEAL_N, which no command carries (log 222). -/
def State.carousel (s : State) : State :=
  let l := s.audits
  let n := match l.find? fun e => decide (s.tally.carIdx < e) with
    | some e => e
    | none => l.headD 0
  let low := Config.measured 6 s.clock % 2 == 1
  s.modTally fun t => { t with carIdx := n, sealSw := low, sealDone := t.sealDone && low }

/-! ### The result window (R485) -/

/-- TALLY state codes. -/
def TallyMode.code : TallyMode → Nat
  | .start => 0
  | .counting => 1
  | .unsealed => 2
  | .sealing => 3
  | .noImage => 4
  | .halted => 5

/-- TAL_STAT. -/
def State.tallyStat (s : State) : Word :=
  let t := s.tally
  let w := allPortals.map fun p => (t.windows.get p).isSome || !(t.ending.get p).isEmpty
  fmk 31 28 t.mode.code ||| fmk 27 24 t.why ||| bitIf 23 t.exhausted ||| bitIf 22 t.anomaly ||| bitIf 21 t.sealSw |||
    bitIf 20 t.flashErr ||| bitIf 19 t.nonCode ||| bitIf 18 t.selfCrc ||| bitIf 17 t.fuseFail ||| fmk 15 12 (bitsOf w)

/-- A record of the ring by its place. -/
def TallyState.recordAt (t : TallyState) (i : Nat) : List Byte :=
  match t.records.find? fun r => r.1.toNat % 16 == i with
  | some r => r.2
  | none => []

/-- An audit entry of the ring of 8 by its place: the latest valid one. -/
def State.auditAtSlot (s : State) (i : Nat) : List Byte :=
  let l := s.audits.reverse.take 8
  match l.find? fun e => (e - 1) % 8 == i with
  | some e => s.auditEntry e
  | none => []

/-- A word of the TALLY window; none where nothing is decoded. -/
def State.tallyRead (s : State) (o : Nat) : Option Word :=
  let t := s.tally
  if o % 4 ≠ 0 then none
  else if o = 0 then some s.tallyStat
  else if o = 4 then some t.imgVer
  else if o = 8 then some t.imgCrc
  else if 0x10 ≤ o ∧ o < 0x20 then some (t.imgName.toList.getD ((o - 0x10) / 4) 0)
  else if o = 0x20 then some (fmk 28 16 t.used ||| fmk 12 0 t.inForce)
  else if o = 0x24 then some t.nextSeq
  else if 0x28 ≤ o ∧ o < 0x38 then some (t.pseq.toList.getD ((o - 0x28) / 4) 0)
  else if o = 0x38 then some (fmk 31 16 t.bad ||| fmk 15 0 t.unresTotal)
  else if o = 0x3C then some (fmk 12 0 (if t.loaded then s.auditsHeld.length else 0))
  else if 0x40 ≤ o ∧ o < 0x80 then some (BitVec.ofNat 32 (beNat (slice (pubBytes t.pub) (o - 0x40) 4)))
  else if o = 0xFC then some (fmk 12 0 t.carIdx)
  else if 0x100 ≤ o ∧ o < 0x180 then some (if t.carIdx = 0 then 0 else rdw (s.auditEntry t.carIdx) (o - 0x100))
  else if 0x400 ≤ o ∧ o < 0x800 then some (rdw (s.auditAtSlot ((o - 0x400) / 128)) (o % 128))
  else if 0x800 ≤ o ∧ o < 0x1000 then some (rdw (t.recordAt ((o - 0x800) / 128)) (o % 128))
  else none

end Sys2Proof.Machine
end

