-- ==== Sys2Proof/Machine/HostView.lean ====
section
/-! DEFINITION. What the host port reads of the host die's blocks (R34, R37 and the register tables): each function answers the word at an
offset of its block, or none where nothing is decoded there (R7). -/

namespace Sys2Proof.Machine

/-- A word of a table of 32-bit words that starts at `lo`. -/
def wordIn (l : List Word) (lo o : Nat) : Option Word := if lo ≤ o ∧ (o - lo) % 4 = 0 then l[(o - lo) / 4]? else none

/-- Low and high word of a 64-bit value. -/
def lowWord (d : Dword) : Word := d.setWidth 32

/-- High word. -/
def highWord (d : Dword) : Word := (d >>> (32 : Nat)).setWidth 32

/-! ### DEV, PSM -/

/-- DEV. -/
def State.devRead (s : State) (o : Nat) : Option Word :=
  match o with
  | 0x000 => some 0x984000B1
  | 0x004 => some 0x40421023
  | 0x008 => some (lowWord s.fuse.uid)
  | 0x00C => some (highWord s.fuse.uid)
  | 0x010 => some s.fuse.devFuse
  | 0x014 => some s.fuse.vote
  | _ => none

/-- PSM_STATE. -/
def PsmState.stateWord (x : PsmState) : Word :=
  let arm := match x.arm with
    | some a => fmk 23 20 (psmTarget a.word) ||| fmk 19 18 (chanCode a.src.ch)
    | none => fmk 23 20 15
  fmk 27 24 x.phase ||| arm ||| bitIf 16 (x.state == .selftest && x.pairScope) ||| fmk 3 0 x.state.code

/-- PSM. -/
def State.psmRead (s : State) (o : Nat) : Option Word :=
  let x := s.psm
  match o with
  | 0x000 => some x.stateWord
  | 0x004 => some 0
  | 0x008 => some x.cmdstat
  | 0x00C => some x.boot
  | 0x010 => some x.bootTime
  | 0x014 => some x.safe
  | 0x018 => some x.wake
  | 0x01C => some x.wakeEn
  | 0x020 => some x.proof
  | 0x024 => some x.grant
  | _ => none

/-! ### TIME, IRQ -/

/-- IRQ_PEND (R410): in DORMANT the PSM bit counts as enabled. -/
def State.irqPend (s : State) : Word := s.irqStat &&& (if s.psm.state == .dormant then s.irqEn ||| 1 else s.irqEn)

/-- TIME. -/
def State.timeRead (s : State) (o : Nat) : Option Word :=
  let t := s.time
  match o with
  | 0x000 => some (lowWord t.now)
  | 0x004 => some t.hiLatch
  | 0x008 => some (if fget t.cfg 9 0 = 0 then t.cfg ||| 1000 else t.cfg)
  | 0x00C => some (t.stat s.masterAny)
  | 0x010 => some (wordOf t.ofs)
  | 0x014 => some (lowWord t.cap)
  | 0x018 => some (highWord t.cap)
  | 0x020 => some t.setLo
  | 0x024 => some t.setHi
  | 0x028 => some 0
  | 0x02C => some t.cmdstat
  | _ => none

/-- IRQ. -/
def State.irqRead (s : State) (o : Nat) : Option Word :=
  match o with
  | 0x000 => some s.irqStat
  | 0x004 => some s.irqEn
  | 0x008 => some s.irqPend
  | _ => none

/-! ### HARN -/

/-- HARN_STAT. -/
def State.harnStat (s : State) : Word :=
  let h := s.harn
  match h.image with
  | some g =>
    fmk 31 30 (regionBit g.region + 1) ||| bitIf 29 h.verified ||| bitIf 28 h.recovery ||| fmk 27 24 h.dlPend.toNat |||
      fmk 23 20 (portalBits s.inUse) ||| fmk 15 8 g.major ||| fmk 7 0 g.minor
  | none => bitIf 28 h.recovery ||| fmk 27 24 h.dlPend.toNat

/-- HARN_USE: cells used, and timers that are not held in reset (R91). -/
def State.harnUse (s : State) : Word :=
  let cs := s.hostCells
  let linked := fun (n : Nat) => cs.any fun c => c.used && c.link && c.timer == n
  let ts := (s.hostTimers.zipIdx).countP fun x => x.1.mode != 0 && linked x.2
  fmk 28 16 (cs.countP fun c => c.used) ||| fmk 8 0 ts

/-- The section that HARN_SIDX shows. -/
def HarnState.shown (h : HarnState) : Option Section :=
  match h.image with
  | some g => g.sections[fget h.sidx 3 0]?
  | none => none

/-- A word of the active image's header; 0 without an image. -/
def HarnState.headWord (h : HarnState) (o : Nat) : Word :=
  match h.image with
  | some g => rdw g.header o
  | none => 0

/-- HARN. -/
def State.harnRead (s : State) (o : Nat) : Option Word :=
  let h := s.harn
  let sec := fun (f : Section → Word) => match h.shown with
    | some x => f x
    | none => 0
  match o with
  | 0x000 => some s.harnStat
  | 0x004 => some (h.headWord 16)
  | 0x008 => some (h.headWord 20)
  | 0x00C => some (h.headWord 24)
  | 0x010 => some (h.headWord 28)
  | 0x014 => some s.harnUse
  | 0x018 => some h.fcmp
  | 0x020 => some h.flctl
  | 0x024 => some (h.fladdr &&& 0x003FFF00)
  | 0x028 => some (bitIf 31 h.job.isSome ||| h.flstat)
  | 0x02C => some h.sidx
  | 0x030 => some (sec Section.tag)
  | 0x034 => some (sec fun x => x.version.setWidth 32 <<< (16 : Nat) ||| x.flags.setWidth 32)
  | 0x038 => some (sec fun x => wnat x.payload.length)
  | 0x03C => some (sec Section.crc)
  | _ => wordIn h.buf 0x100 o

/-! ### SEC -/

/-- SEC_PWSTAT of the host port. RECOVERY reads 1 while no image is loaded, once start-up has looked for one: R5 and the register's reset value make
it 0 before (DEDUCED, log 218). -/
def State.pwStat (s : State) : Word :=
  let x := s.sec
  let hold := match x.holdUntil with
    | some t => min ((t - s.clock) / 1000000) 0xFFFF
    | none => 0
  bitIf 31 x.pwJob.isSome ||| bitIf 30 (s.pwHeld .host) ||| bitIf 29 x.failed ||| bitIf 28 (s.harn.image.isNone && s.psm.state != .boot) ||| fmk 23 16 x.failRun ||| fmk 15 0 hold

/-- SEC_PWAGE of the host port. -/
def State.pwAge (s : State) : Word :=
  match s.sec.held.chan .host with
  | some h => wnat (min ((s.clock - h.at_) / 1000000) 0xFFFFFFFF)
  | none => 0xFFFFFFFF

/-- The change-log entry that SEC_LOGIDX shows. -/
def SecState.logData (x : SecState) : List Word :=
  match x.log[fget x.logIdx 9 0]? with
  | some e => (List.range 8).map (wordAt e.bytes)
  | none => List.replicate 8 0

/-- SEC. -/
def State.secRead (s : State) (o : Nat) : Option Word :=
  let x := s.sec
  match o with
  | 0x000 => some 0
  | 0x004 => some 0
  | 0x008 => some 0
  | 0x00C => some 0
  | 0x010 => some 0
  | 0x014 => some s.pwStat
  | 0x018 => some s.pwAge
  | 0x01C => some (bitIf 31 x.drop ||| bitIf 4 s.fuse.compat ||| fmk 3 0 x.sealSw.toNat)
  | 0x020 => some x.keyctl
  | 0x024 => some (bitIf 31 x.keyJob.isSome ||| x.keystat)
  | 0x028 => some x.toolId.x0
  | 0x02C => some (fmk 31 16 x.nextSeq.toNat ||| fmk 10 0 x.unmirrored)
  | 0x030 => some (wnat x.logLost)
  | 0x034 => some x.logIdx
  | _ => if o < 0x80 then wordIn x.keyHash.toList 0x40 o else wordIn x.logData 0x80 o

/-! ### SEQ -/

/-- SEQ_STAT. -/
def SeqState.stat (q : SeqState) : Word :=
  let x := q.view
  fmk 11 8 x.rel.toNat ||| bitIf 7 q.zsDiscEv ||| bitIf 6 x.zsDisc ||| bitIf 5 (x.zs1 && x.zs2) ||| bitIf 4 x.zs2 ||| bitIf 3 x.zs1

/-- SEQ_PSTATE of a portal. -/
def SeqPortal.stateWord (q : SeqPortal) : Word :=
  bitIf 31 q.custValid ||| bitIf 30 q.released ||| bitIf 29 q.openPermit ||| bitIf 28 q.soDemand ||| bitIf 27 q.hfLeaf ||| bitIf 26 q.hfStep |||
    bitIf 25 q.returnReady ||| bitIf 24 q.tmo ||| fmk 21 16 q.cust ||| fmk 15 8 q.pcode.toNat ||| fmk 3 0 q.cls.code

/-- SEQ. -/
def State.seqRead (s : State) (o : Nat) : Option Word :=
  let q := s.seq
  match o with
  | 0x000 => some q.stat
  | 0x004 => some q.cycle
  | 0x008 => some q.load
  | 0x030 => some q.hreq
  | 0x034 => some 0
  | 0x038 => some q.pcmdStat
  | 0x03C => some q.block
  | 0x040 => some q.evt
  | _ =>
    if o < 0x20 then wordIn (q.view.portals.toList.map SeqPortal.stateWord) 0x10 o
    else wordIn (q.view.portals.toList.map fun x => wnat (min ((s.clock - x.enteredAt) / 1000000) 0xFFFFFFFF)) 0x20 o

/-! ### LOCK -/

/-- LOCK_STAT. -/
def State.lockStat (s : State) : Word :=
  let l := s.lock
  let p := l.pairs.fst
  let c := l.pairs.snd
  let dual := (p.state == .lead && s.cleanShadow .cantle) || (c.state == .lead && s.cleanShadow .pommel)
  fmk 31 28 p.state.code ||| fmk 27 24 c.state.code ||| bitIf 23 c.state.leads ||| bitIf 22 dual ||| bitIf 21 l.plan.isSome |||
    bitIf 20 l.actionReq ||| fmk 15 12 (min p.fails 15) ||| fmk 11 8 (min c.fails 15) ||| fmk 2 0 l.xdisRun

/-- LOCK_PLAN. -/
def State.lockPlan (s : State) : Word :=
  match s.lock.plan with
  | some q => bitIf 31 true ||| bitIf 30 (!q.latent) ||| fmk 9 0 ((1000000000 - (s.clock - q.since)) / 1000000)
  | none => 0

/-- LOCK_GRAFT. -/
def State.lockGraft (s : State) : Word :=
  match s.lock.graft with
  | some g => bitIf 31 true ||| fmk 30 28 g.step ||| fmk 19 16 s.lock.graftWhy ||| fmk 15 0 s.graftMs
  | none => fmk 19 16 s.lock.graftWhy ||| fmk 15 0 s.graftMs

/-- LOCK. -/
def State.lockRead (s : State) (o : Nat) : Option Word :=
  let l := s.lock
  match o with
  | 0x000 => some s.lockStat
  | 0x004 => some l.evt
  | 0x008 => some l.swap
  | 0x00C => some (lowWord l.swapT)
  | 0x010 => some (highWord l.swapT)
  | 0x014 => some l.xsig
  | 0x018 => some l.fprint
  | 0x01C => some l.agree
  | 0x020 => some (l.infault.setWidth 32)
  | 0x024 => some ((l.infault >>> (32 : Nat)).setWidth 32)
  | 0x028 => some ((l.infault >>> (64 : Nat)).setWidth 32)
  | 0x02C => some ((l.infault >>> (96 : Nat)).setWidth 32)
  | 0x030 => some l.awl
  | 0x034 => some l.awlLane
  | 0x038 => some l.misx
  | 0x03C => some l.misw
  | 0x040 => some s.lockPlan
  | 0x044 => some 0
  | 0x048 => some s.lockGraft
  | 0x04C => some l.ctlStat
  | _ => none

/-! ### The mirror of a girth link (R37) -/

/-- GL_KEEP. -/
def glKeep (x : PortalNote) (ck : Nat) : Word :=
  fmk 31 16 x.serve ||| fmk 15 0 (match x.keepAt with
    | some t => min ((ck - t) / 1000) 0xFFFF
    | none => 0xFFFF)

/-- GL_STAT to GL_TRAIN of a portal. The lane occupancy of GL_LOAD is a quantity that no command carries. -/
def State.glRead (s : State) (p : PortalId) (o : Nat) : Option Word :=
  let l := s.link p
  let load := fun (i : Nat) => if l.up then Config.measured (8 + 4 * i + p.val) s.clock % 101 else 0
  match o with
  | 0x000 => some l.stat
  | 0x004 => some l.evt
  | 0x008 => some (fmk 31 20 l.linkErr ||| fmk 19 8 l.laneErr ||| fmk 7 0 (min l.seen.early 255))
  | 0x00C => some (fmk 31 16 (sat16 l.seen.timeErr) ||| fmk 15 0 (sat16 l.seen.trim))
  | 0x010 => some (fmk 31 16 l.dly.snd.toNat ||| fmk 15 0 l.dly.fst.toNat)
  | 0x014 => some (fmk 15 8 (load 1) ||| fmk 7 0 (load 0))
  | 0x018 => some (glKeep l.seen s.clock)
  | 0x01C => some (fmk 31 24 l.try1 ||| fmk 23 16 l.try0 ||| fmk 15 0 l.trainUs)
  | _ => none

/-! ### ACQ -/

/-- Registers of a capture group. -/
def Group.read (g : Group) (o : Nat) : Option Word :=
  match o with
  | 0x00 => some g.cfg
  | 0x04 => some g.mem
  | 0x08 => some g.len
  | 0x0C => some g.seg
  | 0x10 => some g.auto
  | 0x14 => some g.stat
  | 0x18 => some g.cnt
  | 0x1C => some g.newest
  | 0x20 => some g.mwin
  | _ =>
    if o < 0x54 then wordIn (g.conds.toList.flatMap fun c => [c.cfg, c.a, c.b]) 0x24 o
    else wordIn g.meas.toList 0x54 o

/-- ACQ_RDSTAT. -/
def AcqState.rdStat (a : AcqState) : Word :=
  match a.selected with
  | some x => bitIf 31 true ||| bitIf 30 a.rdEcc ||| fmk 22 0 x.bytes.length
  | none => bitIf 30 a.rdEcc

/-- ACQ. -/
def AcqState.read (a : AcqState) (o : Nat) : Option Word :=
  if 0x8000 ≤ o then (if o % 4 = 0 then some (a.readWin (o - 0x8000)).1 else none)
  else if h : 0x1000 ≤ o ∧ o < 0x1800 then (a.groups.get ⟨(o - 0x1000) / 0x80, by omega⟩).read (o % 0x80)
  else
    match o with
    | 0x000 => some (a.stat ||| fmk 15 0 (bitsOf (a.groups.toList.map Group.en)))
    | 0x004 => some 0
    | 0x008 => some a.ecc
    | 0x00C => some a.ing
    | 0x010 => some a.rdsel
    | 0x014 => some a.rdpage
    | 0x018 => some a.rdStat
    | _ => none

/-! ### CAN -/

/-- One bit for each of 32 objects. -/
def CanState.objBits (c : CanState) (k : Nat) (f : CanObject → Bool) : Word :=
  wnat (bitsOf ((List.range 32).map fun m => f (c.obj (32 * k + m))))

/-- A block of a controller: registers, object memory, side records. -/
def CanState.read (c : CanState) (o : Nat) : Option Word :=
  if o % 4 ≠ 0 then none
  else if 0x1000 ≤ o ∧ o < 0x3800 then
    let x := c.obj ((o - 0x1000) / 0x50)
    x.words[(o - 0x1000) % 0x50 / 4]?
  else if 0x4000 ≤ o ∧ o < 0x4800 then
    let x := c.obj ((o - 0x4000) / 0x10)
    [lowWord x.time, highWord x.time, x.frameId, 0][o % 0x10 / 4]?
  else if 0x30 ≤ o ∧ o < 0x40 then some (c.objBits ((o - 0x30) / 4) CanObject.txreq)
  else if 0x40 ≤ o ∧ o < 0x50 then some (c.objBits ((o - 0x40) / 4) CanObject.ndat)
  else
    match o with
    | 0x000 => some c.cfg
    | 0x004 => some c.nbt
    | 0x008 => some c.dbt
    | 0x00C => some c.tdc
    | 0x010 => some c.statWord
    | 0x014 => some c.evt
    | 0x018 => some c.cnt
    | 0x01C => some 0
    | 0x020 => some c.cmdstat
    | 0x024 => some c.abort
    | 0x028 => some c.errlog
    | 0x050 => some 0
    | 0x054 => some c.xstat
    | _ => wordIn c.xb 0x80 o

/-! ### ARCH -/

/-- ARCH_STAT. -/
def ArchState.stat (a : ArchState) : Word :=
  let flushing := match a.op with
    | .journal _ => true
    | .stripe _ => true
    | _ => false
  fmk 31 28 a.media ||| bitIf 27 a.foreign ||| bitIf 26 a.wrapped ||| bitIf 25 a.scrubbing ||| bitIf 24 flushing ||| fmk 23 20 a.mode.toNat |||
    fmk 19 16 a.width.toNat ||| fmk 11 0 a.staged

/-- ARCH_DURABLE: records of complete stripes and those that the journal holds. -/
def ArchState.durableCount (a : ArchState) : Nat :=
  a.sb.durable + a.recs.countP fun r => r.durable && decide (a.sb.durable ≤ r.index)

/-- ARCH_SCRUB. -/
def ArchState.scrubWord (a : ArchState) : Word :=
  let n := a.scrubCount a.scrubDone
  fmk 31 16 a.sb.scrubPasses ||| fmk 7 0 (if n.2 = 0 then 0 else (divR (100 * n.1) n.2).toNat)

/-- ARCH. -/
def State.archRead (s : State) (o : Nat) : Option Word :=
  let a := s.arch
  match o with
  | 0x000 => some a.stat
  | 0x004 => some a.evt
  | 0x008 => some a.mediaReg
  | 0x00C => some (wnat a.cap)
  | 0x010 => some (wnat a.next)
  | 0x014 => some (wnat a.durableCount)
  | 0x018 => some a.ecc
  | 0x01C => some (wnat a.lost)
  | 0x020 => some a.scrubWord
  | 0x024 => some (wnat a.sb.traceNext)
  | 0x028 => some (if s.harn.image.isNone then 0 else fmk 31 16 s.policy.recordMib ||| fmk 15 0 s.policy.scrubDays)
  | 0x02C => some 0
  | 0x030 => some a.cmdstat
  | 0x034 => some a.rdidx
  | 0x038 => some a.rdpage
  | 0x03C => some a.rdstat
  | 0x040 => some a.found
  | _ => if 0x800 ≤ o ∧ o < 0x1000 ∧ o % 4 = 0 then some (rdw a.rdwin (o - 0x800)) else none

/-! ### NELZ -/

/-- NELZ_STATA or NELZ_STATB. -/
def State.nelzStat (s : State) (ch : Channel) : Word :=
  let x := s.chan ch
  let k := s.nelzCfg
  let out := x.peers.any fun p => k.excluded x.peers p.node
  let master := match s.timeMaster ch with
    | some n => n.toNat
    | none => 0
  fmk 31 28 x.v ||| bitIf 27 (s.chanFd ch && decide (2 ≤ x.v)) ||| bitIf 26 x.settling ||| bitIf 25 x.clash ||| bitIf 24 out |||
    bitIf 23 (x.peers.any fun p => p.vmax == 1) ||| bitIf 22 x.fdCap ||| fmk 15 8 x.peers.length ||| fmk 5 0 master

/-- The nodes of a channel's peer table, 32 from `lo` on. -/
def State.peerBits (s : State) (ch : Channel) (lo : Nat) : Word :=
  wnat (bitsOf ((List.range 32).map fun n => (s.chan ch).peers.any fun p => p.node.toNat == lo + n))

/-- The peer that NELZ_PEERSEL names. -/
def State.peerShown (s : State) : Option Peer :=
  let ch : Channel := if wbit s.nelz.peerSel 8 then .canB else .canA
  (s.chan ch).peers.find? fun p => p.node.toNat == fget s.nelz.peerSel 5 0

/-- NELZ_HPLAST. -/
def HostPort.last (x : HostPort) : Word :=
  match x.stored with
  | some r => quarters r.status.toNat r.seq.toNat r.failIdx.toNat r.cmd.toNat
  | none => 0

/-- NELZ_MBX_RXSTAT. -/
def NelzState.mbxStat (x : NelzState) : Word :=
  match x.mbxRx with
  | [] => 0
  | m :: r => bitIf 31 true ||| fmk 20 16 m.msg.toNat ||| fmk 14 8 m.data.length ||| fmk 3 0 (r.length + 1)

/-- NELZ. -/
def State.nelzRead (s : State) (o : Nat) : Option Word :=
  let k := s.nelzCfg
  let x := s.nelz
  match o with
  | 0x000 => some (quarters k.vmax k.vmin k.chEn k.modes)
  | 0x004 => some (quarters k.pcmdGrant k.objBase k.hostNode k.node)
  | 0x008 => some (s.nelzStat .canA)
  | 0x00C => some (s.nelzStat .canB)
  | 0x010 => some (s.peerBits .canA 0)
  | 0x014 => some (s.peerBits .canA 32)
  | 0x018 => some (s.peerBits .canB 0)
  | 0x01C => some (s.peerBits .canB 32)
  | 0x020 => some x.peerSel
  | 0x024 => some (match s.peerShown with
      | some p => quarters p.vmax.toNat p.vmin.toNat p.modes.toNat p.product.toNat
      | none => 0)
  | 0x028 => some (match s.peerShown with
      | some p => wnat (min ((s.clock - p.seenAt) / 1000000) 0xFFFF)
      | none => 0xFFFF)
  | 0x02C => some x.evt
  | 0x030 => some (s.rxWord.setWidth 32)
  | 0x034 => some ((s.rxWord >>> (32 : Nat)).setWidth 32)
  | 0x03C => some (halves s.port.crcErr s.port.aborts)
  | 0x040 => some s.port.last
  | 0x140 => some 0
  | 0x1C0 => some x.mbxStat
  | _ =>
    if o < 0x140 then wordIn x.mbxTx 0x100 o
    else wordIn ((List.range 16).map fun n => match x.mbxRx with
      | [] => 0
      | m :: _ => wordAt m.data n) 0x180 o

end Sys2Proof.Machine
end

