-- ==== Sys2Proof/Machine/HostRegs.lean ====
section
/-! DEFINITION. Writes of the host die's registers (R6, R8, R36, R383) and the address map of the host port (R34, R35, R37): where a
register has a command of its own, the write is that command. -/

namespace Sys2Proof.Machine

/-- What a write of a word comes to (STATUS of R403): 0 done or discarded, 1 undecoded (R7), 6 refused. -/
structure HostWrite where
  state : State
  status : Nat
  deriving DecidableEq, Repr

/-- A W1C flag kept as a Boolean at bit `i`. -/
def flagAfter (old : Bool) (v rc : Word) (i : Nat) : Bool := wbit rc i || (old && !wbit v i)

/-- A write that is done. -/
def State.wrote (s : State) : Option HostWrite := some ⟨s, 0⟩

/-- A write that is refused, with what the refusal leaves. -/
def State.declined (s : State) : Option HostWrite := some ⟨s, 6⟩

/-- The host port as a source of state commands and passwords. -/
def hostSource : CmdSource := { ch := .host, node := 0 }

/-! ### PSM, TIME, IRQ -/

/-- PSM. -/
def State.psmWrite (s : State) (o : Nat) (v rc : Word) : Option HostWrite :=
  let x := s.psm
  match o with
  | 0x004 => (s.psmWord hostSource none v none).wrote
  | 0x008 => ({ s with psm := { x with cmdstat := w1c x.cmdstat v rc 0xC0000000 } }).wrote
  | 0x014 => ({ s with psm := { x with safe := w1c x.safe v rc 0x1F } }).wrote
  | 0x018 => ({ s with psm := { x with wake := w1c x.wake v rc 0xF7 } }).wrote
  | 0x01C => ({ s with psm := { x with wakeEn := wrw x.wakeEn v 0xF7 } }).wrote
  | _ => none

/-- TIME_CMD: a wrong key is refused whatever the command; a code other than STEP does nothing. -/
def State.timeCmd (s : State) (v : Word) : State := if keyOf v ≠ 0x71 ∨ fget v 3 0 = 1 then s.timeCmdStep (keyOf v) else s

/-- TIME. -/
def State.timeWrite (s : State) (o : Nat) (v rc : Word) : Option HostWrite :=
  match o with
  | 0x008 => (s.modTime fun t => { t with cfg := wrw t.cfg v 0x800003FF }).wrote
  | 0x020 => (s.modTime fun t => { t with setLo := v }).wrote
  | 0x024 => (s.modTime fun t => { t with setHi := v }).wrote
  | 0x028 => (s.timeCmd v).wrote
  | 0x02C => (s.modTime fun t => { t with cmdstat := w1c t.cmdstat v rc 0xC0000000 }).wrote
  | _ => none

/-- IRQ. -/
def State.irqWrite (s : State) (o : Nat) (v rc : Word) : Option HostWrite :=
  match o with
  | 0x000 => ({ s with irqStat := w1c s.irqStat v rc 0xFFFF }).wrote
  | 0x004 => ({ s with irqEn := wrw s.irqEn v 0xFFFF }).wrote
  | _ => none

/-! ### HARN, SEC -/

/-- The part is in MAINTAIN: RWM fields are writable (R6). -/
def State.inMaintain (s : State) : Bool := s.psm.state == .maintain

/-- RWM fields are writable and MAINTAIN is not recovery MAINTAIN, which admits the flash commands and what they use alone (R102). -/
def State.fullMaintain (s : State) : Bool := s.inMaintain && !s.harn.recovery

/-- HARN_FLCTL: a command of R104 starts, or is refused there; other codes start nothing, and are not written in recovery MAINTAIN (R102). -/
def State.flctlWrite (s : State) (v : Word) : State :=
  let cmd := fget v 31 28
  let t : Region := if wbit v 24 then .b else .a
  if 1 ≤ cmd ∧ cmd ≤ 5 then s.flashStart cmd t
  else if !s.fullMaintain then s
  else { s with harn := { s.harn with flctl := wrw s.harn.flctl v (if cmd = 0 then 0x01000000 else 0xF1000000) } }

/-- HARN. The manual's table makes some bits of HARN_FLADDR reserved, and its R104 refuses an address that is not a multiple of 256 below
0x0040_0000: DESIGN CHOICE, the word is kept as written, so that PROGRAM can see such an address, and the reserved bits read 0 (log 221). -/
def State.harnWrite (s : State) (o : Nat) (v rc : Word) : Option HostWrite :=
  let h := s.harn
  if 0x100 ≤ o ∧ o < 0x200 ∧ o % 4 = 0 then
    if s.inMaintain then ({ s with harn := { h with buf := h.buf.set ((o - 0x100) / 4) v } }).wrote else s.declined
  else
    match o with
    | 0x018 => ({ s with harn := { h with fcmp := w1c h.fcmp v rc 0xC0000000 } }).wrote
    | 0x020 => if s.fullMaintain || (s.inMaintain && decide (1 ≤ fget v 31 28 ∧ fget v 31 28 ≤ 5)) then (s.flctlWrite v).wrote
        else (s.flctlWrite v).declined
    | 0x024 => if s.inMaintain then ({ s with harn := { h with fladdr := v } }).wrote else s.declined
    | 0x028 => ({ s with harn := { h with flstat := w1c h.flstat v rc 0x60000000 } }).wrote
    | 0x02C => ({ s with harn := { h with sidx := wrw h.sidx v 0xF } }).wrote
    | _ => none

/-- SEC_KEYCTL: an operation starts, or is refused; other codes start nothing, and are not written in recovery MAINTAIN (R102). -/
def State.keyctlWrite (s : State) (v : Word) : State :=
  let op := fget v 31 28
  let k : Fin 4 := ⟨fget v 25 24 % 4, Nat.mod_lt _ (by decide)⟩
  if op = 1 then s.keyStart false k
  else if op = 2 then s.keyStart true k
  else if !s.fullMaintain then s
  else { s with sec := { s.sec with keyctl := wrw s.sec.keyctl v (if op = 0 then 0x03000000 else 0xF3000000) } }

/-- SEC. -/
def State.secWrite (s : State) (o : Nat) (v rc : Word) : Option HostWrite :=
  let x := s.sec
  if o < 0x10 ∧ o % 4 = 0 then ({ s with sec := { x with pwd := x.pwd.mapIdx fun i w => if i.val = o / 4 then v else w } }).wrote
  else if 0x40 ≤ o ∧ o < 0x60 ∧ o % 4 = 0 then
    if s.fullMaintain then ({ s with sec := { x with keyHash := x.keyHash.mapIdx fun i w => if i.val = (o - 0x40) / 4 then v else w } }).wrote
    else s.declined
  else
    match o with
    | 0x010 => (s.pwctl v).wrote
    | 0x014 => ({ s with sec := { x with failed := flagAfter x.failed v rc 29 } }).wrote
    | 0x01C => ({ s with sec := { x with drop := flagAfter x.drop v rc 31 } }).wrote
    | 0x020 => if s.fullMaintain then (s.keyctlWrite v).wrote else (s.keyctlWrite v).declined
    | 0x024 => ({ s with sec := { x with keystat := w1c x.keystat v rc 0x60000000 } }).wrote
    | 0x028 => ({ s with sec := { x with toolId := { x.toolId with x0 := v } } }).wrote
    | 0x034 => ({ s with sec := { x with logIdx := wrw x.logIdx v 0x3FF } }).wrote
    | _ => none

/-! ### SEQ, LOCK -/

/-- SEQ_PCMD: a wrong key is refused whatever the command; a code that names no command does nothing. -/
def State.seqPcmdWrite (s : State) (v : Word) : State :=
  let cmd := fget v 3 0
  let p : PortalId := ⟨fget v 9 8 % 4, Nat.mod_lt _ (by decide)⟩
  if keyOf v ≠ 0x5E ∨ cmd = 1 ∨ cmd = 2 then s.seqPcmd (keyOf v) p (BitVec.ofNat 4 cmd) else s

/-- SEQ. -/
def State.seqWrite (s : State) (o : Nat) (v rc : Word) : Option HostWrite :=
  let q := s.seq
  match o with
  | 0x000 => ({ s with seq := { q with zsDiscEv := flagAfter q.zsDiscEv v rc 7 } }).wrote
  | 0x030 => ({ s with seq := { q with hreq := wrw q.hreq v 0xFFFF } }).wrote
  | 0x034 => (s.seqPcmdWrite v).wrote
  | 0x038 => ({ s with seq := { q with pcmdStat := w1c q.pcmdStat v rc 0xC0000000 } }).wrote
  | 0x03C => ({ s with seq := { q with block := w1c q.block v rc 0x80000000 } }).wrote
  | 0x040 => ({ s with seq := { q with evt := w1c q.evt v rc 0xFFFFF000 } }).wrote
  | _ => none

/-- LOCK_CTL: a wrong key is refused whatever the command. -/
def State.lockCtl (s : State) (v : Word) : State :=
  if fget v 3 0 = 2 then s.ctlClearInfault (keyOf v)
  else if keyOf v ≠ 0xA7 ∨ fget v 3 0 = 1 then s.ctlSwap (keyOf v) else s

/-- LOCK. -/
def State.lockWrite (s : State) (o : Nat) (v rc : Word) : Option HostWrite :=
  let l := s.lock
  match o with
  | 0x004 => ({ s with lock := { l with evt := w1c l.evt v rc 0xFFFFC000 } }).wrote
  | 0x044 => (s.lockCtl v).wrote
  | 0x04C => ({ s with lock := { l with ctlStat := w1c l.ctlStat v rc 0xC0000000 } }).wrote
  | _ => none

/-! ### The mirror of a girth link (R37) -/

/-- A write in the mirror: only GL_EVT has flags to clear. -/
def State.glWrite (s : State) (p : PortalId) (o : Nat) (v rc : Word) : Option HostWrite :=
  if o = 0x004 then (s.modLink p fun l => { l with evt := w1c l.evt v rc 0x7F }).wrote else none

/-! ### ACQ -/

/-- A configuration write of group `n` was refused (R248): it sets WR_REF. -/
def acqRefuses (n : Fin 16) (a : AcqState) (f : AcqState → AcqState) : Bool :=
  wbit ((f (a.mod n fun g => { g with flags := putBit g.flags 26 false })).groups.get n).flags 26

/-- A configuration write of a group. -/
def State.acqConfig (s : State) (n : Fin 16) (f : AcqState → AcqState) : Option HostWrite :=
  some ⟨{ s with acq := f s.acq }, if acqRefuses n s.acq f then 6 else 0⟩

/-- A register of a condition: its number is that of the condition times 3, plus 0, 1 or 2 for CFG, A and B. -/
def Group.setCond (g : Group) (k : Nat) (v : Word) : Group :=
  { g with conds := g.conds.mapIdx fun i c =>
      if i.val ≠ k / 3 then c
      else
        match k % 3 with
        | 0 => ({ c with cfg := v &&& 0xFC00FF00 } : GroupCond)
        | 1 => { c with a := v }
        | _ => { c with b := v } }

/-- A register of group `n`. -/
def State.groupWrite (s : State) (n : Fin 16) (o : Nat) (v rc : Word) : Option HostWrite :=
  let field := fun (f : Group → Group) => s.acqConfig n fun a => a.writeField n f
  if 0x24 ≤ o ∧ o < 0x54 ∧ o % 4 = 0 then field fun g => g.setCond ((o - 0x24) / 4) v
  else if 0x54 ≤ o ∧ o < 0x74 ∧ o % 4 = 0 then
    field fun g => { g with meas := g.meas.mapIdx fun i w => if i.val = (o - 0x54) / 4 then v &&& 0xF0FF00FF else w }
  else
    match o with
    | 0x00 => s.acqConfig n fun a => a.writeCfg n v s.groupEnv
    | 0x04 => field fun g => { g with mem := v &&& 0x07FF03FF }
    | 0x08 => field fun g => { g with len := v }
    | 0x0C => field fun g => { g with seg := v &&& 0xFFFF0FFF }
    | 0x10 => field fun g => { g with auto := v &&& 0x03FFFFFF }
    | 0x14 => ({ s with acq := s.acq.mod n fun g => { g with flags := w1c g.flags v rc 0x07000000 } }).wrote
    | 0x20 => field fun g => { g with mwin := v }
    | _ => none

/-- ACQ. -/
def State.acqWrite (s : State) (o : Nat) (v rc : Word) : Option HostWrite :=
  let a := s.acq
  if h : 0x1000 ≤ o ∧ o < 0x1800 then s.groupWrite ⟨(o - 0x1000) / 0x80, by omega⟩ (o % 0x80) v rc
  else
    match o with
    | 0x000 => ({ s with acq := { a with stat := w1c a.stat v rc 0xC00F0000 } }).wrote
    | 0x004 => ({ s with acq := a.force (BitVec.ofNat 16 (fget v 15 0)) s.now }).wrote
    | 0x010 => ({ s with acq := a.select v false }).wrote
    | 0x014 => ({ s with acq := { a with rdpage := wrw a.rdpage v 0x7F } }).wrote
    | 0x018 => ({ s with acq := { a with rdEcc := flagAfter a.rdEcc v rc 30 } }).wrote
    | _ => none

/-! ### CAN -/

/-- CAN_CMD: a wrong key is refused whatever the command. -/
def CanState.command (c : CanState) (v : Word) (ck : Nat) : CanState :=
  match fget v 11 8 with
  | 2 => c.cmdTxreq (keyOf v) (fget v 6 0) ck
  | 3 => c.cmdAbort (keyOf v) (fget v 6 0)
  | n => if n = 1 ∨ keyOf v ≠ 0x6C then c.cmdRecover (keyOf v) else c

/-- CAN_XCMD (R390). -/
def CanState.transfer (c : CanState) (v : Word) (ck : Nat) : CanState :=
  match fget v 23 16 with
  | 1 => c.xRead (fget v 6 0)
  | 2 => c.xWrite (fget v 6 0) (wbit v 8) ck
  | _ => c.xErr 4

/-- A direct write of an object's word: ID, MASK and CFG by the rules of R383; any other word is refused. -/
def CanState.objWrite (c : CanState) (n k : Nat) (v : Word) : CanState := if k < 3 then c.writeCfg n k v else c.flagEvt 23

/-- A direct write of an object's word is refused: it sets OBJ_REF. -/
def CanState.objRefuses (c : CanState) (n k : Nat) (v : Word) : Bool :=
  wbit (({ c with evt := putBit c.evt 23 false } : CanState).objWrite n k v).evt 23

/-- A controller. -/
def State.canWrite (s : State) (i : CanId) (o : Nat) (v rc : Word) : Option HostWrite :=
  let c := s.can i
  let to_ := fun (d : CanState) => (s.modCan i fun _ => d).wrote
  if o % 4 ≠ 0 then none
  else if 0x1000 ≤ o ∧ o < 0x3800 then
    let n := (o - 0x1000) / 0x50
    let k := (o - 0x1000) % 0x50 / 4
    some ⟨s.modCan i fun c => c.objWrite n k v, if c.objRefuses n k v then 6 else 0⟩
  else if 0x80 ≤ o ∧ o < 0xD0 then to_ { c with xb := c.xb.set ((o - 0x80) / 4) v }
  else
    match o with
    | 0x014 => to_ { c with evt := w1c c.evt v rc 0xFFF00000 }
    | 0x01C => to_ (c.command v s.clock)
    | 0x020 => to_ { c with cmdstat := w1c c.cmdstat v rc 0xC0000000 }
    | 0x050 => to_ (c.transfer v s.clock)
    | 0x054 => to_ { c with xstat := w1c c.xstat v rc 0x60000000 }
    | _ => none

/-! ### ARCH, NELZ -/

/-- ARCH_CMD. A code that names no command does nothing; a wrong key is refused whatever the command. -/
def State.archCommand (s : State) (v : Word) : State :=
  let key := keyOf v
  let go := fun (f : ArchState → ArchState) => ({ s with arch := s.arch.cmd key f } : State)
  match fget v 3 0 with
  | 1 => go ArchState.cmdFlush
  | 2 => go ArchState.cmdScrub
  | 3 => go ArchState.cmdReinit
  | 4 => s.cmdFormat key
  | 5 => go ArchState.cmdLoad
  | 6 => go fun a => a.cmdFind (BitVec.ofNat 2 (fget v 5 4))
  | _ => if key ≠ 0x4B then go id else s

/-- ARCH. -/
def State.archWrite (s : State) (o : Nat) (v rc : Word) : Option HostWrite :=
  let a := s.arch
  match o with
  | 0x004 => ({ s with arch := { a with evt := w1c a.evt v rc 0xFF000000 } }).wrote
  | 0x02C => (s.archCommand v).wrote
  | 0x030 => ({ s with arch := { a with cmdstat := w1c a.cmdstat v rc 0x60000000 } }).wrote
  | 0x034 => ({ s with arch := { a with rdidx := v } }).wrote
  | 0x038 => ({ s with arch := { a with rdpage := wrw a.rdpage v 0x8000FFFF } }).wrote
  | _ => none

/-- NELZ. -/
def State.nelzWrite (s : State) (o : Nat) (v rc : Word) : Option HostWrite :=
  let x := s.nelz
  if 0x100 ≤ o ∧ o < 0x140 ∧ o % 4 = 0 then ({ s with nelz := { x with mbxTx := x.mbxTx.set ((o - 0x100) / 4) v } }).wrote
  else
    match o with
    | 0x020 => ({ s with nelz := { x with peerSel := wrw x.peerSel v 0x13F } }).wrote
    | 0x02C => ({ s with nelz := { x with evt := w1c x.evt v rc 0xFFFE0000 } }).wrote
    | 0x140 => (s.mailboxGo v).wrote
    | 0x1C0 => if wbit v 31 && !wbit rc 31 then s.mailboxRemove.wrote else s.wrote
    | _ => none

/-! ### The address map (R34, R35, R37) -/

/-- The portal die that serves an address, with the offset in its block: not the mirror of R37. -/
def portalWord (a : Nat) : Option (PortalId × Nat) :=
  if h : 0x10000 ≤ a ∧ a < 0x20000 then
    let o := (a - 0x10000) % 0x4000
    if 0x2800 ≤ o ∧ o < 0x2840 then none else some (⟨(a - 0x10000) / 0x4000, by omega⟩, o)
  else none

/-- A word that the host die serves; none where nothing decodes it (R7). -/
def State.hostRead (s : State) (a : Nat) : Option Word :=
  if a < 0x1000 then s.devRead a
  else if a < 0x2000 then s.psmRead (a - 0x1000)
  else if a < 0x3000 then s.timeRead (a - 0x2000)
  else if a < 0x4000 then s.irqRead (a - 0x3000)
  else if a < 0x6000 then s.harnRead (a - 0x4000)
  else if a < 0x7000 then s.seqRead (a - 0x6000)
  else if a < 0x10000 then none
  else if h : a < 0x20000 then s.glRead ⟨(a - 0x10000) / 0x4000, by omega⟩ ((a - 0x10000) % 0x4000 - 0x2800)
  else if a < 0x28000 then s.cans.fst.read (a - 0x20000)
  else if a < 0x30000 then s.cans.snd.read (a - 0x28000)
  else if a < 0x40000 then s.acq.read (a - 0x30000)
  else if a < 0x41000 then s.lockRead (a - 0x40000)
  else if 0x50000 ≤ a ∧ a < 0x51000 then s.secRead (a - 0x50000)
  else if 0x60000 ≤ a ∧ a < 0x61000 then s.archRead (a - 0x60000)
  else if 0x70000 ≤ a ∧ a < 0x71000 then s.tallyRead (a - 0x70000)
  else if 0x80000 ≤ a ∧ a < 0x81000 then s.nelzRead (a - 0x80000)
  else none

/-- What a read of a word that the host die serves changes: TIME_LO latches TIME_HI (R411), and an uncorrectable store word that the window
returns is reported (R247), and so is one in an object (R397). -/
def State.readEffect (s : State) (a : Nat) : State :=
  if a = 0x2000 then s.modTime TimeState.latch
  else if 0x20000 ≤ a ∧ a < 0x28000 then { s with cans := { s.cans with fst := s.cans.fst.readEffect (a - 0x20000) } }
  else if 0x28000 ≤ a ∧ a < 0x30000 then { s with cans := { s.cans with snd := s.cans.snd.readEffect (a - 0x28000) } }
  else if 0x38000 ≤ a ∧ a < 0x40000 then { s with acq := s.acq.readWinEffect (a - 0x38000) }
  else s

/-- The writable registers of the host die. -/
def State.hostWriteAt (s : State) (a : Nat) (v rc : Word) : Option HostWrite :=
  if a < 0x1000 then none
  else if a < 0x2000 then s.psmWrite (a - 0x1000) v rc
  else if a < 0x3000 then s.timeWrite (a - 0x2000) v rc
  else if a < 0x4000 then s.irqWrite (a - 0x3000) v rc
  else if a < 0x6000 then s.harnWrite (a - 0x4000) v rc
  else if a < 0x7000 then s.seqWrite (a - 0x6000) v rc
  else if a < 0x10000 then none
  else if h : a < 0x20000 then s.glWrite ⟨(a - 0x10000) / 0x4000, by omega⟩ ((a - 0x10000) % 0x4000 - 0x2800) v rc
  else if a < 0x28000 then s.canWrite .a (a - 0x20000) v rc
  else if a < 0x30000 then s.canWrite .b (a - 0x28000) v rc
  else if a < 0x40000 then s.acqWrite (a - 0x30000) v rc
  else if a < 0x41000 then s.lockWrite (a - 0x40000) v rc
  else if 0x50000 ≤ a ∧ a < 0x51000 then s.secWrite (a - 0x50000) v rc
  else if 0x60000 ≤ a ∧ a < 0x61000 then s.archWrite (a - 0x60000) v rc
  else if 0x70000 ≤ a ∧ a < 0x71000 then s.declined
  else if 0x80000 ≤ a ∧ a < 0x81000 then s.nelzWrite (a - 0x80000) v rc
  else none

/-- A write of a word that the host die serves, `rc` being the flags that the hardware sets in the same cycle (R8): a word that only reads is
left as it is (R6), and one that nothing decodes is discarded (R7). -/
def State.hostWrite (s : State) (a : Nat) (v rc : Word) : HostWrite :=
  match s.hostWriteAt a v rc with
  | some w => w
  | none => ⟨s, if (s.hostRead a).isSome then 0 else 1⟩

/-- The host port is there: neither OFF, nor the host die held in reset (R399, R405). -/
def State.portAlive (s : State) : Bool := s.psm.state != .off && !s.psm.porHeld && !s.psm.resetLow

/-- No block decodes the address (R34): R7 holds for it in every state. -/
def noBlock (a : Nat) : Bool :=
  decide (0x7000 ≤ a ∧ a < 0x10000) || decide (0x41000 ≤ a ∧ a < 0x50000) || decide (0x51000 ≤ a ∧ a < 0x60000) ||
    decide (0x61000 ≤ a ∧ a < 0x70000) || decide (0x71000 ≤ a ∧ a < 0x80000) || decide (0x81000 ≤ a)

/-- The present state serves the block of an address (R38). -/
def State.serves (s : State) (a : Nat) : Bool :=
  match s.psm.state with
  | .off => false
  | .fuseFail => a == 0 || a == 0x10 || a == 0x14 || a == 0x1000 || noBlock a
  | .boot => a < 0x2000 || decide (0x50000 ≤ a ∧ a < 0x51000) || noBlock a
  | _ => true

/-- A write of one word with its status, the host die's words only; the TALLY window refuses in any state (R36). -/
def State.writeWord (s : State) (a : Nat) (v rc : Word) : HostWrite :=
  if 0x70000 ≤ a ∧ a < 0x71000 then ⟨s, 6⟩ else if !s.serves a then ⟨s, 7⟩ else s.hostWrite a v rc

/-- A write of a register (R6, R8), wherever it lies. A portal block's word is written in its portal die unless the link is in link
fault (R20). -/
def State.registerWrite (s : State) (a : Nat) (v rc : Word) : State :=
  if !s.portAlive || a % 4 ≠ 0 then s
  else
    match portalWord a with
    | some (p, o) =>
      if s.serves a && (s.link p).up then s.onPortal p fun P => (P.write s.clock p o v rc).portal else s
    | none => (s.writeWord a v rc).state

end Sys2Proof.Machine
end

