-- ==== Sys2Proof/Machine/HostPort.lean ====
section
/-! DEFINITION. Transactions of the host port (R399 to R407, R20): the checks of a request, the words of a burst one by one with the accesses
that portal dies answer, and the stored response. -/

namespace Sys2Proof.Machine

/-! ### Requests and responses (R400, R401, R403) -/

/-- The bytes of a response (R403). -/
def SpiResponse.bytes (x : SpiResponse) : List Byte :=
  let b := [x.status, x.seq, x.flags, x.failIdx] ++ leBytes 2 (4 * x.data.length) ++ zeros 2 ++ wordBytes x.data
  b ++ leBytes 4 (crc32 b).toNat

/-- FLAGS.IRQ: HIRQ_N is low. -/
def State.irqFlag (s : State) : Byte := if s.irqPend = 0 then 0 else 1

/-- A response without failing words. -/
def State.plainResponse (s : State) (r : SpiRequest) (status : Nat) (data : List Word) : SpiResponse :=
  { status := BitVec.ofNat 8 status, seq := r.seq, flags := s.irqFlag, failIdx := 0, data := data, cmd := r.cmd, reqCrc := r.crc }

/-- Put an answer on HMISO. -/
def State.answerSpi (s : State) (x : SpiResponse) : State := { s with port := { s.port with answer := some x } }

/-- Answer and store the response (R406). -/
def State.respondSpi (s : State) (x : SpiResponse) : State := { s with port := { s.port with answer := some x, stored := some x, pending := none } }

/-! ### The words of a burst (R404) -/

/-- A word of the burst is settled: its code, what a read returns, whether it was undecoded. -/
def SpiPending.settle (x : SpiPending) (status : Nat) (v : Word) (undecoded : Bool) : SpiPending :=
  { x with index := x.index + 1, data := x.data ++ [if status = 0 then v else 0],
           status := if status ≠ 0 ∧ x.failIdx.isNone then BitVec.ofNat 8 status else x.status,
           failIdx := if status ≠ 0 ∧ x.failIdx.isNone then some x.index else x.failIdx,
           undecoded := x.undecoded || undecoded, done := if status = 0 then x.done + 1 else x.done }

/-- Every word is settled: the response. -/
def State.finishSpi (s : State) (x : SpiPending) : State :=
  let flags := s.irqFlag ||| (if x.undecoded then 2 else 0) ||| (if x.failIdx.isSome ∧ 0 < x.done then 4 else 0)
  s.respondSpi { status := x.status, seq := x.req.seq, flags := flags, failIdx := BitVec.ofNat 8 (min 255 (x.failIdx.getD 0)),
                 data := if x.req.cmd = 1 then x.data else [], cmd := x.req.cmd, reqCrc := x.req.crc }

/-- A word that the host die serves. -/
def State.hostWord (s : State) (x : SpiPending) (a : Nat) : State × SpiPending :=
  if x.req.cmd = 2 then
    let w := s.writeWord a (x.req.payload.getD x.index 0) 0
    (w.state, if w.status = 1 then x.settle 0 0 true else x.settle w.status 0 false)
  else if !s.serves a then (s, x.settle 7 0 false)
  else
    match s.hostRead a with
    | some v => (s.readEffect a, x.settle 0 v false)
    | none => (s, x.settle 0 0 true)

/-- Send a portal word to its portal die (R20). -/
def State.askPortal (s : State) (x : SpiPending) (p : PortalId) (o : Nat) : State :=
  let s := { s with port := { s.port with pending := some x } }
  let v := x.req.payload.getD x.index 0
  s.modLink p fun l => l.request [if x.req.cmd = 2 then (.spiWrite, configFrame 2 (wnat o) 0 (leBytes 4 v.toNat)) else (.spiRead, configFrame 1 (wnat o) 0 [])]

/-- Go on with a burst, at most `n` words of it, until a portal die has to answer. -/
def spiRun : Nat → State → SpiPending → State
  | 0, s, x => s.finishSpi x
  | n + 1, s, x =>
    if reqWords x.req ≤ x.index then s.finishSpi x
    else
      let a := reqAddr x.req x.index
      match portalWord a with
      | some (p, o) =>
        if !s.serves a then spiRun n s (x.settle 7 0 false)
        else if !(s.link p).up then spiRun n s (x.settle 5 0 false)
        else s.askPortal x p o
      | none =>
        let r := s.hostWord x a
        spiRun n r.1 r.2

/-- Words left of a burst. -/
def SpiPending.left (x : SpiPending) : Nat := reqWords x.req - x.index

/-- The word that waits is settled, and the burst goes on. -/
def State.settleSpi (s : State) (x : SpiPending) (status : Nat) (v : Word) (undecoded : Bool) : State :=
  let y := x.settle status v undecoded
  spiRun y.left { s with port := { s.port with pending := none } } y

/-- A portal die has answered a word of the burst: UNDECODED is R7, and any other code than OK a refusal. -/
def State.spiAnswered (s : State) (ans : ConfigFrame) : State :=
  match s.port.pending with
  | none => s
  | some x =>
    if ans.status = 0 then s.settleSpi x 0 (if x.req.cmd = 1 then rdw ans.data 0 else 0) false
    else if ans.status = 1 then s.settleSpi x 0 0 true
    else s.settleSpi x 6 0 false

/-- The link of the word that waits is in link fault: it is answered with the link-down status (R20). -/
def State.spiLinkLost (s : State) : State :=
  match s.port.pending with
  | none => s
  | some x =>
    match portalWord (reqAddr x.req x.index) with
    | some (p, _) => if (s.link p).up then s else s.settleSpi x 5 0 false
    | none => s

/-! ### Transactions (R402, R405 to R407) -/

/-- More than 16 words of a burst lie in one portal block. -/
def reqTooLong (r : SpiRequest) : Bool :=
  let l := (List.range (reqWords r)).map fun i => reqAddr r i
  allPortals.any fun p => decide (16 < l.countP fun a => decide (0x10000 + 0x4000 * p.val ≤ a ∧ a < 0x14000 + 0x4000 * p.val))

/-- A request that failed its CRC. -/
def State.spiCrcError (s : State) (r : SpiRequest) : State :=
  (({ s with port := { s.port with crcErr := satInc s.port.crcErr 0xFFFF } }).nelzEvt 19).answerSpi (s.plainResponse r 1 [])

/-- What the checks before any word say: the status with which the whole request is rejected, 0 for none. -/
def reqRejected (r : SpiRequest) : Nat :=
  if r.cmd = 0 ∨ 4 < r.cmd.toNat then 2 else if reqMisaligned r then 3 else if reqTooLong r then 4 else 0

/-- A request whose CRC holds and which arrived with HRDY high: READ and WRITE. -/
def State.spiBurst (s : State) (r : SpiRequest) : State :=
  spiRun (reqWords r) s { req := r, index := 0, data := [], status := 0, failIdx := none, undecoded := false, done := 0 }

/-- The stored response that a WRITE gets again: its SEQ and CRC equal those of the stored request (R406). -/
def State.repeated (s : State) (r : SpiRequest) : Option SpiResponse :=
  if r.cmd = 2 then s.port.stored.filter fun x => x.seq == r.seq && x.reqCrc == r.crc else none

/-- What every request goes through: its CRC, HRDY, a WRITE carried out before, the rejections of the whole; `go` carries it out. A BUSY answer is not
stored. -/
def State.spiTake (s : State) (r : SpiRequest) (go : State → State) : State :=
  if !s.portAlive then s
  else if !requestOk r then s.spiCrcError r
  else if s.port.pending.isSome then s.answerSpi (s.plainResponse r 8 [])
  else
    match s.repeated r with
    | some x => s.answerSpi { x with flags := x.flags ||| 8 }
    | none => if reqRejected r ≠ 0 then s.respondSpi (s.plainResponse r (reqRejected r) []) else go s

/-- READ. -/
def State.spiReadCmd (s : State) (r : SpiRequest) : State := if r.cmd = 1 then s.spiTake r fun s => s.spiBurst r else s

/-- WRITE. -/
def State.spiWriteCmd (s : State) (r : SpiRequest) : State := if r.cmd = 2 then s.spiTake r fun s => s.spiBurst r else s

/-- STATUS, and every code that names no command. -/
def State.spiStatusCmd (s : State) (r : SpiRequest) : State :=
  if r.cmd = 1 ∨ r.cmd = 2 ∨ r.cmd = 4 then s else s.spiTake r fun s => s.respondSpi (s.plainResponse r 0 [s.irqPend])

/-- REPEAT. What it answers before any response has been stored is open: a free status and no data. -/
def State.spiRepeatCmd (s : State) (r : SpiRequest) : State :=
  if r.cmd = 4 then
    s.spiTake r fun s =>
      match s.port.stored with
      | some x => s.answerSpi x
      | none => s.drawn.answerSpi (s.plainResponse r s.free [])
  else s

/-- HCS_N rises before the request CRC is complete: the request is discarded and counted (R407). -/
def State.spiAborted (s : State) : State :=
  if !s.portAlive then s else ({ s with port := { s.port with aborts := satInc s.port.aborts 0xFFFF } }).nelzEvt 18

/-- The answer to a CONFIG request reaches the host side (R308): an access of the host port goes on, any other use has its own rules. -/
def State.configAnswer (s : State) (p : PortalId) (h : FrameHdr) (f : ConfigFrame) : State :=
  let s := s.portalFrame p (.config h f)
  match (s.link p).takeAnswer h f with
  | none => s
  | some (l, u, req) =>
    let s := s.modLink p fun _ => l
    if u == .spiRead || u == .spiWrite then s.spiAnswered f else s.configAnswered p u req f

/-- HRDY: high while the part can take a request (R405). -/
def State.ready (s : State) : Bool := s.portAlive && s.port.pending.isNone

end Sys2Proof.Machine
end

