-- ==== Sys2Proof/Machine/Flags.lean ====
section
/-! DEFINITION. The source bits of IRQ_STAT (R409): which W1C flags of each block rose between two states. -/

namespace Sys2Proof.Machine

/-- Some flag of the mask is 1 now and was 0 before. -/
def rose (a b mask : Word) : Bool := b &&& ~~~a &&& mask != 0

/-- A flag is 1 now and was 0 before. -/
def roseB (a b : Bool) : Bool := b && !a

/-- PSM: any of its W1C flags (R409); a wake event that is enabled late counts too (R63). -/
def psmRose (a b : PsmState) : Bool :=
  rose a.cmdstat b.cmdstat 0xC0000000 || rose a.safe b.safe 0x1F || rose a.wake b.wake 0xF7 || rose (a.wake &&& a.wakeEn) (b.wake &&& b.wakeEn) 0xF7

/-- HARN. -/
def harnRose (a b : HarnState) : Bool := rose a.fcmp b.fcmp 0xC0000000 || rose a.flstat b.flstat 0x60000000

/-- SEQ. -/
def seqRose (a b : SeqState) : Bool :=
  roseB a.zsDiscEv b.zsDiscEv || rose a.pcmdStat b.pcmdStat 0xC0000000 || rose a.block b.block 0x80000000 || rose a.evt b.evt 0xFFFFF000

/-- A portal: a link fault, or a flag of the mirror. The receipt of an EVENT frame sets the bit by itself. -/
def linkRose (a b : HostLink) : Bool := rose a.evt b.evt 0x7F || roseB a.fin.fault b.fin.fault

/-- A CAN controller. -/
def canRose (a b : CanState) : Bool :=
  rose a.evt b.evt 0xFFF00000 || rose a.cmdstat b.cmdstat 0xC0000000 || rose a.xstat b.xstat 0x60000000

/-- ACQ. -/
def acqRose (a b : AcqState) : Bool :=
  rose a.stat b.stat 0xC00F0000 || roseB a.rdEcc b.rdEcc || allGroups.any fun n => rose (a.groups.get n).flags (b.groups.get n).flags 0x07000000

/-- LOCK. -/
def lockRose (a b : LockState) : Bool := rose a.evt b.evt 0xFFFFC000 || rose a.ctlStat b.ctlStat 0xC0000000

/-- SEC. -/
def secRose (a b : SecState) : Bool := roseB a.failed b.failed || roseB a.drop b.drop || rose a.keystat b.keystat 0x60000000

/-- ARCH. -/
def archRose (a b : ArchState) : Bool := rose a.evt b.evt 0xFF000000 || rose a.cmdstat b.cmdstat 0x60000000

/-- NELZ: its events, and NDAT of the mailbox. -/
def nelzRose (a b : NelzState) : Bool := rose a.evt b.evt 0xFFFE0000 || roseB (!a.mbxRx.isEmpty) (!b.mbxRx.isEmpty)

/-- The source bits that rise from `s` to `t`; the tally island has no W1C flag. -/
def irqRises (s t : State) : Word :=
  bitIf 0 (psmRose s.psm t.psm) ||| bitIf 1 (rose s.time.cmdstat t.time.cmdstat 0xC0000000) ||| bitIf 2 (harnRose s.harn t.harn) |||
    bitIf 3 (seqRose s.seq t.seq) ||| bitIf 4 (linkRose s.links.x0 t.links.x0) ||| bitIf 5 (linkRose s.links.x1 t.links.x1) |||
    bitIf 6 (linkRose s.links.x2 t.links.x2) ||| bitIf 7 (linkRose s.links.x3 t.links.x3) ||| bitIf 8 (canRose s.cans.fst t.cans.fst) |||
    bitIf 9 (canRose s.cans.snd t.cans.snd) ||| bitIf 10 (acqRose s.acq t.acq) ||| bitIf 11 (lockRose s.lock t.lock) |||
    bitIf 12 (secRose s.sec t.sec) ||| bitIf 13 (archRose s.arch t.arch) ||| bitIf 15 (nelzRose s.nelz t.nelz)

/-- The interrupts of what has happened since `s`. -/
def State.interrupts (s t : State) : State := { t with irqStat := t.irqStat ||| irqRises s t }

end Sys2Proof.Machine
end

