-- ==== Sys2Proof/Machine/Ops.lean ====
section
/-! DEFINITION. What follows every command on the host die: messages that its effect makes due, an access of the host port that its link has
lost, HRDY, and the interrupts. -/

namespace Sys2Proof.Machine

/-- Entry of a controller to ACTIVE brings a HELLO (R418). -/
def State.activeHello (s t : State) (c : CanId) : State :=
  if (t.can c).ctl == .active && (s.can c).ctl != .active then t.helloSoon (canChan c) else t

/-- Messages that the step from `s` to `t` makes due (R418, R419, R421, R428 to R434, R436), and those that waited for their object. -/
def State.messages (s t : State) : State :=
  let t := if t.harn.image = s.harn.image then t else allChans.foldl (fun t ch => t.resettle ch false) t
  let t := s.activeHello (s.activeHello t .a) .b
  let t := canChans.foldl State.fdFallback t
  let t := s.notices t.drainResults
  let t := if t.psm.state == .safe && s.psm.state != .safe then t.safeAborts else t
  let t := t.drainSummaries.drainAnswers
  canChans.foldl State.pump (canChans.foldl State.followUp t)

/-- Nothing that a message could depend on has changed. -/
def State.sameTraffic (s t : State) : Bool :=
  decide (t.nelz = s.nelz) && decide (t.cans = s.cans) && decide (t.harn.image = s.harn.image) && decide (t.psm = s.psm) &&
    decide (t.seq = s.seq) && decide (t.links = s.links) && decide (t.lock = s.lock)

/-- What a change of the device state brings: what the tally island had left for the end of BOOT, and a step of device time that waited in SERVICE
(R413, R468). -/
def State.stateLeft (s : State) : State := if s.tallyWaiting.inService then s.tallyWaiting else s.tallyWaiting.stepWaiting

/-- The state after a command whose own effect leads from `s` to `t`. -/
def State.commit (s t : State) : State :=
  let u := if t.psm.state = s.psm.state then t else t.stateLeft
  let u := if s.sameTraffic u then u else s.messages u
  let u := if u.links = s.links then u else u.spiLinkLost
  s.interrupts { u with port := { u.port with hrdy := u.ready } }

/-- Something happens on one portal die alone (R409 names no interrupt for it: its EVENT frames bring them). -/
def portalOnly (s : State) (p : PortalId) (f : PortalState → PortalState) : Host.Outcome State Fault Refusal := .next (s.onPortal p f)

/-- Something happens at the host die. -/
def settled (s t : State) : Host.Outcome State Fault Refusal := .next (s.commit t)

end Sys2Proof.Machine
end

