-- ==== Sys2Proof/Machine/Clock.lean ====
section
/-! DEFINITION. What happens at a tick whatever is commanded: one period of the 25 MHz reference, 40 ns. -/

namespace Sys2Proof.Machine

/-- A safety output that was seen stuck counts as stuck for 100 µs. -/
def SoState.fade (x : SoState) (ck : Nat) : SoState := if x.stuck && decide (100000 < ck - x.stuckAt) then { x with stuck := false } else x

/-- Portal time runs on, at the rate that the trim gives it (R15, R312). -/
def PortalState.later (P : PortalState) (ns : Nat) : PortalState := P.modLink fun l =>
  let n := l.timeFrac + ns * (100000000 + l.trim).toNat
  { l with time := l.time + BitVec.ofNat 64 (n / 100000000), timeFrac := n % 100000000 }

/-- A tick on a portal die: retries that were kept back, events that waited for the next 100 µs (R300, R345). -/
def PortalState.clockTick (P : PortalState) (ck : Nat) : PortalState :=
  ((({ P.later 40 with sos := P.sos.map fun x => x.fade ck } : PortalState).resumeRetries ck).flushEvents ck)

/-- The host die's clock: device time, PHASE of start-up, HELLO frames that waited for their 10 ms. -/
def State.hostClock (s : State) : State :=
  if s.psm.porHeld || s.psm.resetLow then s
  else
    let s := s.modTime fun t => t.advance 40
    let s := if s.psm.step == .fuseLoad && s.psm.phase == 0 then { s with psm := { s.psm with phase := 1 } } else s
    allChans.foldl State.helloLate s

/-- One reference period passes. -/
def idle (s : State) : State :=
  let t := { s with clock := s.clock + 40 }
  let t := t.eachPortal fun t p => t.onPortal p fun P => P.clockTick t.clock
  s.commit t.hostClock

end Sys2Proof.Machine
end

