-- ==== Sys2Proof/Machine/PowerCmds.lean ====
section
/-! DEFINITION. The commands of power states, start-up and release (R38 to R73), each over the operations of `Psm`. -/

namespace Sys2Proof.Machine

/-- A source may send state commands: the host port where it serves PSM_CMD, a CAN channel where the message engine runs (R46). -/
def State.maySend (s : State) (src : CmdSource) : Bool :=
  s.portAlive && (if src.ch == .host then s.serves 0x1004 else s.nelzOn src.ch)

/-- A word of a state command arrives from a source. -/
def State.stateWord (s : State) (src : CmdSource) (w : Word) (safe : Option SafeCause) : State :=
  if s.maySend src then s.psmWord src none w safe else s

/-- The execute word of a target with a scope arrives from a source. -/
def State.executeWord (s : State) (src : CmdSource) (tgt scope : Nat) (safe : Option SafeCause) : State :=
  if s.maySend src then s.execCmd src tgt scope safe else s

/-- A host supply fails (R488): a host-die POR. The tally island stands on VDD33 and restarts with it (R468). -/
def State.railLost (s : State) (rail : HostRail) : State :=
  let t := s.supplyLost
  if rail = .vdd33 then { t with tally := t.tally.por } else t

/-- POR_RELEASE (R52; R5, R40, R41, R488). -/
def execPorRelease (s : State) : Host.Outcome State Fault Refusal := settled s (s.porRelease)

/-- RESET_N_ASSERT (R39; R5, R41, R376, R493). -/
def execResetNAssert (s : State) : Host.Outcome State Fault Refusal := settled s (s.resetAssert)

/-- RESET_N_RELEASE (R41). -/
def execResetNRelease (s : State) : Host.Outcome State Fault Refusal := settled s (s.resetRelease)

/-- HOST_SUPPLY_UNDERVOLTAGE (R488; R39, R41, R493). -/
def execHostSupplyUndervoltage (rail : HostRail) (s : State) : Host.Outcome State Fault Refusal := settled s (s.railLost rail)

/-- FUSE_LOAD_COMPLETE (R53; R40, R41, R97). -/
def execFuseLoadComplete (reads : List CellRead) (s : State) : Host.Outcome State Fault Refusal := settled s (s.fuseLoaded reads)

/-- AWL_TEST_COMPLETE (R54; R41, R45, R280, R281, R289 to R291, R445). -/
def execAwlTestComplete (pommel cantle : AwlRun) (xFail : Bool) (s : State) : Host.Outcome State Fault Refusal :=
  settled s (s.awlDone pommel cantle xFail)

/-- FLASH_READY (R55). -/
def execFlashReady (dev : Option FlashDevice) (s : State) : Host.Outcome State Fault Refusal := settled s (s.flashReady dev)

/-- FLASH_DISCOVERY_COMPLETE (R55). -/
def execFlashDiscoveryComplete (s : State) : Host.Outcome State Fault Refusal := settled s (s.flashSettled)

/-- IMAGE_READ_COMPLETE (R57; R41, R45, R74 to R84, R122 to R127, R152 to R155, R180, R183, R190, R233 to R236, R330, R333, R334, R338, R351,
R363, R372, R373, R438, R459, R517). -/
def execImageReadComplete (s : State) : Host.Outcome State Fault Refusal := settled s (s.imageRead)

/-- SIGNATURE_VERIFIED (R84; R57). -/
def execSignatureVerified (s : State) : Host.Outcome State Fault Refusal := settled s (s.signatureDone)

/-- FABRIC_CONFIGURED (R59; R86, R91, R374, R376, R416). -/
def execFabricConfigured (s : State) : Host.Outcome State Fault Refusal := settled s (s.fabricDone)

/-- PORTAL_DOWNLOAD_COMPLETE (R59; R41, R81). -/
def execPortalDownloadComplete (s : State) : Host.Outcome State Fault Refusal := settled s (s.bootDone)

/-- PSM_CMD_ARM (R46; R48, R49, R51, R73). -/
def execPsmCmdArm (src : CmdSource) (w : Word) (s : State) : Host.Outcome State Fault Refusal := settled s (s.stateWord src w none)

/-- PSM_ARM_TIMEOUT (R47; R73). -/
def execPsmArmTimeout (s : State) : Host.Outcome State Fault Refusal := settled s (s.armTimeout)

/-- PSM_CMD_BAD_EXEC (R47; R73). -/
def execPsmCmdBadExec (src : CmdSource) (w : Word) (s : State) : Host.Outcome State Fault Refusal := settled s (s.stateWord src w none)

/-- EXECUTE_SERVICE (R67; R41, R42, R47, R50). -/
def execExecuteService (src : CmdSource) (safe : Option SafeCause) (s : State) : Host.Outcome State Fault Refusal :=
  settled s (s.executeWord src 5 0 safe)

/-- EXECUTE_STANDBY (R44; R41, R42, R47, R237). -/
def execExecuteStandby (src : CmdSource) (safe : Option SafeCause) (s : State) : Host.Outcome State Fault Refusal :=
  settled s (s.executeWord src 4 0 safe)

/-- EXECUTE_DORMANT (R44; R41, R42, R47, R64, R250, R280, R376, R378, R410, R454). -/
def execExecuteDormant (src : CmdSource) (safe : Option SafeCause) (s : State) : Host.Outcome State Fault Refusal :=
  settled s (s.executeWord src 3 0 safe)

/-- EXECUTE_MAINTAIN (R41; R42, R47, R50, R100, R103, R110, R280). -/
def execExecuteMaintain (src : CmdSource) (safe : Option SafeCause) (s : State) : Host.Outcome State Fault Refusal :=
  settled s (s.executeWord src 6 0 safe)

/-- EXECUTE_SELFTEST_DEVICE (R41; R42, R47, R277, R280). -/
def execExecuteSelftestDevice (src : CmdSource) (safe : Option SafeCause) (s : State) : Host.Outcome State Fault Refusal :=
  settled s (s.executeWord src 7 0 safe)

/-- EXECUTE_SELFTEST_PAIR (R292; R41 to R43, R47, R280, R293). -/
def execExecuteSelftestPair (src : CmdSource) (safe : Option SafeCause) (s : State) : Host.Outcome State Fault Refusal :=
  settled s (s.executeWord src 7 1 safe)

/-- EXECUTE_OFF (R44; R41, R42, R47, R250, R280, R376, R454). -/
def execExecuteOff (src : CmdSource) (safe : Option SafeCause) (s : State) : Host.Outcome State Fault Refusal :=
  settled s (s.executeWord src 0 0 safe)

/-- The answer to the command that ends now goes out while the channels still carry it (R426): a CAN controller with an idle bus begins the frame, and goes OFF
at its end (R376). -/
def State.lastWords (s : State) : State :=
  let t := s.leaveAnswer
  if t.nelz.answers.isEmpty then t
  else
    let t := t.drainAnswers
    { t with cans := t.cans.map fun c => c.txStart t.clock t.time.now }

/-- DORMANT_ENTRY_COMPLETE (R44; R376, R426). -/
def execDormantEntryComplete (s : State) : Host.Outcome State Fault Refusal := settled s (s.lastWords.dormantEntered)

/-- OFF_ENTRY_COMPLETE (R44; R376, R426). -/
def execOffEntryComplete (s : State) : Host.Outcome State Fault Refusal := settled s (s.lastWords.offEntered)

/-- DEVICE_SELFTEST_COMPLETE (R41; R45, R280, R281, R289 to R291, R445). -/
def execDeviceSelftestComplete (pommel cantle : AwlRun) (xFail : Bool) (portalFail : Four Bool) (s : State) : Host.Outcome State Fault Refusal :=
  settled s (s.selftestDone pommel cantle xFail portalFail)

/-- DORMANT_RETURN_COMPLETE (R65; R41, R280, R281, R290, R336, R376). -/
def execDormantReturnComplete (pommel cantle : AwlRun) (xFail crcOk : Bool) (s : State) : Host.Outcome State Fault Refusal :=
  settled s (s.dormantReturned pommel cantle xFail crcOk)

/-- REFERENCE_LOST (R492; R41, R45). -/
def execReferenceLost (s : State) : Host.Outcome State Fault Refusal := settled s (s.referenceLost)

/-- WAKE_PIN (R63; R64). -/
def execWakePin (s : State) : Host.Outcome State Fault Refusal := settled s (s.wakeEvent 0)

/-- WAKE_CAN (R63; R64, R378). -/
def execWakeCan (c : CanId) (s : State) : Host.Outcome State Fault Refusal := settled s (s.wakeCan c)

/-- LOWRATE_LOCK_SAMPLE (R327; R63). -/
def execLowrateLockSample (p : PortalId) (raw : BitVec 16) (s : State) : Host.Outcome State Fault Refusal :=
  portalOnly s p fun P => P.lowRateSample s.clock raw

end Sys2Proof.Machine
end

