-- ==== Sys2Proof/Machine/HarnessCmds.lean ====
section
/-! DEFINITION. The commands of passwords, keys, flash, seals, the host fabric and the portal harness (R90 to R110). -/

namespace Sys2Proof.Machine

/-- A register write that the host port makes: it reaches the register where the port is there and serves it (R38, R399). -/
def State.atPort (s : State) (a : Nat) (f : State → State) : State := if s.portAlive && s.serves a then f s else s

/-- The host die is out of reset. -/
def State.whenAlive (s : State) (f : State → State) : State := if s.psm.porHeld || s.psm.resetLow then s else f s

/-- A tick of the host fabric: both pairs' copies evaluate and are compared, a pair whose copies differ is declared failed (R93), and
transmit requests that rise are made (R387). -/
def State.fabricTick (s : State) (upsets : List FabricUpset) : State :=
  let r := s.tickPair upsets .pommel
  let q := r.1.tickPair upsets .cantle
  let t := if r.2 then q.1.fabricFailed .pommel else q.1
  let t := if q.2 then t.fabricFailed .cantle else t
  s.risingRequests t

/-- PASSWORD_SUBMIT (R99; R101, R102). -/
def execPasswordSubmit (w : Word) (s : State) : Host.Outcome State Fault Refusal := settled s (s.atPort 0x50010 fun t => t.pwctl w)

/-- PASSWORD_COMPUTE_COMPLETE (R99; R101, R110, R428, R430). -/
def execPasswordComputeComplete (s : State) : Host.Outcome State Fault Refusal := settled s (s.pwComputed)

/-- PASSWORD_EXPIRE (R100). -/
def execPasswordExpire (ch : Channel) (s : State) : Host.Outcome State Fault Refusal := settled s (s.pwExpire ch)

/-- PASSWORD_HOLDOFF_END (R101). -/
def execPasswordHoldoffEnd (s : State) : Host.Outcome State Fault Refusal := settled s (s.pwHoldoffEnd)

/-- FLASH_COPY (R104; R102, R105, R110). -/
def execFlashCopy (target : Region) (s : State) : Host.Outcome State Fault Refusal := settled s (s.atPort 0x4020 fun t => t.flashStart 1 target)

/-- FLASH_ERASE (R105; R102, R104, R110). -/
def execFlashErase (target : Region) (s : State) : Host.Outcome State Fault Refusal := settled s (s.atPort 0x4020 fun t => t.flashStart 2 target)

/-- FLASH_PROGRAM (R104; R102, R105, R110). -/
def execFlashProgram (target : Region) (s : State) : Host.Outcome State Fault Refusal := settled s (s.atPort 0x4020 fun t => t.flashStart 3 target)

/-- FLASH_VERIFY (R104; R57, R102). -/
def execFlashVerify (target : Region) (s : State) : Host.Outcome State Fault Refusal := settled s (s.atPort 0x4020 fun t => t.flashStart 4 target)

/-- FLASH_ACTIVATE (R106; R57, R86, R91, R102, R104, R105, R107 to R110, R248, R374, R376, R416). -/
def execFlashActivate (target : Region) (s : State) : Host.Outcome State Fault Refusal := settled s (s.atPort 0x4020 fun t => t.flashStart 5 target)

/-- FLASH_COMMAND_COMPLETE (R104; R106). -/
def execFlashCommandComplete (deviceOk : Bool) (s : State) : Host.Outcome State Fault Refusal := settled s (s.flashComplete deviceOk)

/-- KEY_PROGRAM (R98; R102). -/
def execKeyProgram (slot : Fin 4) (s : State) : Host.Outcome State Fault Refusal := settled s (s.atPort 0x50020 fun t => t.keyStart false slot)

/-- KEY_REVOKE (R98; R102). -/
def execKeyRevoke (slot : Fin 4) (s : State) : Host.Outcome State Fault Refusal := settled s (s.atPort 0x50020 fun t => t.keyStart true slot)

/-- KEY_OPERATION_COMPLETE (R98; R97, R110). -/
def execKeyOperationComplete (readBackOk : Bool) (s : State) : Host.Outcome State Fault Refusal := settled s (s.keyComplete readBackOk)

/-- SEAL_SWITCH_CHANGE (R103; R110). -/
def execSealSwitchChange (sw : BitVec 4) (s : State) : Host.Outcome State Fault Refusal := settled s (s.whenAlive fun t => t.sealChange sw)

/-- FABRIC_TICK (R92; R18, R32, R87 to R90, R93, R272, R273, R280, R424). -/
def execFabricTick (upsets : List FabricUpset) (s : State) : Host.Outcome State Fault Refusal := settled s (s.fabricTick upsets)

/-- FABRIC_TIMER_EXPIRE (R90). -/
def execFabricTimerExpire (n : Fin 256) (s : State) : Host.Outcome State Fault Refusal := settled s (s.expireTimer n.val)

/-- PORTAL_HARNESS_TICK (R95; R22, R24, R25, R28, R87, R94, R136, R177, R226, R330, R331, R354). -/
def execPortalHarnessTick (p : PortalId) (upsets : List HarnessUpset) (s : State) : Host.Outcome State Fault Refusal :=
  portalOnly s p fun P => P.harnessTick s.clock upsets

/-- PORTAL_HARNESS_TIMER_EXPIRE (R94; R90). -/
def execPortalHarnessTimerExpire (p : PortalId) (n : Fin 32) (s : State) : Host.Outcome State Fault Refusal :=
  portalOnly s p fun P => P.harnessExpire n.val

end Sys2Proof.Machine
end

