-- ==== Sys2Proof/Machine/SequencerCmds.lean ====
section
/-! DEFINITION. The commands of the door sequencer and of the COMMAND frames and orders it sends (R111 to R143, R304). -/

namespace Sys2Proof.Machine

/-- A kernel cycle (R275, R133), and a step of device time that waited for a quiet point (R413). -/
def State.cycleAndStep (s : State) (k : KernelInputs) : State := (s.kernelCycle k).pendingStep

/-- A frame of the host die arrives at portal die `p`, which does `f`. -/
def delivered (s : State) (p : PortalId) (x : LinkFrame) (f : PortalState → PortalState) : Host.Outcome State Fault Refusal :=
  portalOnly (s.hostFrame p x) p f

/-- KERNEL_CYCLE (R131; R18, R19, R21, R29 to R32, R40, R41, R45, R50, R60, R66, R67, R70, R111 to R116, R118 to R121, R124, R125, R128 to R130,
R132, R133, R135, R137 to R140, R152, R260, R271, R272, R275 to R278, R280, R282 to R284, R287, R292, R293, R317, R325, R387, R413, R415, R426,
R431, R433, R436, R437, R441 to R444, R447, R453, R466, R482). -/
def execKernelCycle (k : KernelInputs) (s : State) : Host.Outcome State Fault Refusal := settled s (s.cycleAndStep k)

/-- STATE_TIMEOUT (R132). -/
def execStateTimeout (p : PortalId) (s : State) : Host.Outcome State Fault Refusal := settled s (s.stateTimeout p)

/-- ZS_DISCREPANCY_TIMER (R116). -/
def execZsDiscrepancyTimer (s : State) : Host.Outcome State Fault Refusal := settled s (s.zsDiscrepancy)

/-- ROLE_DISCREPANCY_TIMER (R113). -/
def execRoleDiscrepancyTimer (p : PortalId) (r : Role) (s : State) : Host.Outcome State Fault Refusal := settled s (s.roleDiscrepancy p r)

/-- ISO_AGREE_TIMER (R138; R139). -/
def execIsoAgreeTimer (p : PortalId) (s : State) : Host.Outcome State Fault Refusal := settled s (s.isoAgree p)

/-- SEQ_PCMD_CLEAR_FAULT (R143; R353). -/
def execSeqPcmdClearFault (key : Byte) (p : PortalId) (s : State) : Host.Outcome State Fault Refusal :=
  settled s (s.atPort 0x6034 fun t => t.seqPcmd key p 1)

/-- SEQ_PCMD_RESET_LOCKOUT (R143). -/
def execSeqPcmdResetLockout (key : Byte) (p : PortalId) (s : State) : Host.Outcome State Fault Refusal :=
  settled s (s.atPort 0x6034 fun t => t.seqPcmd key p 2)

/-- COMMAND_RECEIVED (R304; R23 to R28, R30, R71, R117, R121, R159, R173, R174, R226, R297, R305, R316, R317, R324 to R326, R342, R347, R349,
R354, R357). -/
def execCommandReceived (p : PortalId) (h : FrameHdr) (f : CommandFrame) (stopNow permOffNow : Bool) (s : State) : Host.Outcome State Fault Refusal :=
  delivered s p (.command h f) fun P => P.commandReceived s.clock h f stopNow permOffNow

/-- MOTION_RUN_PROFILE (R158; R148 to R151, R157, R160, R161, R172, R490). -/
def execMotionRunProfile (p : PortalId) (a : AxisId) (s : State) : Host.Outcome State Fault Refusal := portalOnly s p fun P => P.motionRun s.clock a

/-- MOTION_CONTROLLED_STOP (R159; R148). -/
def execMotionControlledStop (p : PortalId) (a : AxisId) (s : State) : Host.Outcome State Fault Refusal :=
  portalOnly s p fun P => P.motionStop s.clock a

/-- MOTION_DISABLE (R150; R148). -/
def execMotionDisable (p : PortalId) (a : AxisId) (s : State) : Host.Outcome State Fault Refusal := portalOnly s p fun P => P.motionDisable s.clock a

/-- ORDER_SHUTDOWN (R328; R321). -/
def execOrderShutdown (p : PortalId) (s : State) : Host.Outcome State Fault Refusal := portalOnly s p fun P => P.orderShutdown s.clock

/-- ORDER_LOW_RATE (R327). -/
def execOrderLowRate (p : PortalId) (s : State) : Host.Outcome State Fault Refusal := portalOnly s p fun P => P.orderLowRate s.clock

/-- ORDER_LOCKOUT_RESET (R230). -/
def execOrderLockoutReset (p : PortalId) (s : State) : Host.Outcome State Fault Refusal := portalOnly s p fun P => P.orderLockoutReset s.clock p

/-- ORDER_CLEAR_FAULT (R129; R170, R181, R353). -/
def execOrderClearFault (p : PortalId) (s : State) : Host.Outcome State Fault Refusal := portalOnly s p fun P => P.orderClearFault s.clock

end Sys2Proof.Machine
end

