-- ==== Sys2Proof/Machine/LinkCmds.lean ====
section
/-! DEFINITION. The commands of the girth links, the keeper, CONFIG frames and limp-home (R297 to R332). -/

namespace Sys2Proof.Machine

/-- A lane has locked in training, at one side. -/
def State.laneLock (s : State) (p : PortalId) (lane : Fin 2) (side : LinkSide) : State :=
  match side with
  | .host => s.laneLockedHost p lane
  | .portal => s.laneLockedPortal p lane

/-- A lane is judged down, at one side. -/
def State.laneLost (s : State) (p : PortalId) (lane : Fin 2) (side : LinkSide) : State :=
  match side with
  | .host => s.laneDownHost p lane
  | .portal => s.onPortal p fun P => P.laneDown s.clock p lane

/-- A frame copy arrives malformed, at one side. -/
def State.frameError (s : State) (p : PortalId) (side : LinkSide) (lane : Fin 2) (twin : Bool) : State :=
  match side with
  | .host => s.linkErrorHost p lane twin
  | .portal => s.linkErrorPortal p lane twin

/-- The service of the keeper is early, late, missing or wrong (R318); in low-rate mode it is suspended. -/
def PortalState.keeperLapse (P : PortalState) (ck : Nat) (p : PortalId) : PortalState :=
  if P.link.keeperArmed && !P.link.lowRate then P.keeperExpired ck p else P

/-- 100 µs after the last STATE frame (R305); none in low-rate mode or while the link is down. -/
def PortalState.periodicState (P : PortalState) (ck : Nat) : PortalState := if P.link.up && !P.link.lowRate then P.sendState ck else P

/-- A HELLO of the host die arrives; the portal die's NONCE is a fresh value that the manual leaves open (R310). -/
def State.helloPortal (s : State) (p : PortalId) (h : FrameHdr) (f : HelloFrame) : State :=
  ((s.hostFrame p (.hello h f)).onPortal p fun P => P.helloReceived s.clock p h f (BitVec.ofNat 32 s.free)).drawn

/-- KEEPER_RECEIVED (R317; R19, R303, R324). -/
def execKeeperReceived (p : PortalId) (h : FrameHdr) (f : KeeperFrame) (s : State) : Host.Outcome State Fault Refusal :=
  delivered s p (.keeper h f) fun P => P.taking h fun P => P.keeperFrame s.clock p f

/-- KEEPER_EXPIRE (R318; R22, R315, R319 to R321, R329, R332). -/
def execKeeperExpire (p : PortalId) (s : State) : Host.Outcome State Fault Refusal := portalOnly s p fun P => P.keeperLapse s.clock p

/-- TIME_FRAME_SEND (R302; R19, R327). -/
def execTimeFrameSend (p : PortalId) (s : State) : Host.Outcome State Fault Refusal := .next (s.sendTime p)

/-- A TIME frame arrives at the portal side; over a lane that retrains it counts for R311. -/
def State.timeArrived (s : State) (p : PortalId) (h : FrameHdr) (stamp : Dword) : State :=
  (s.onPortal p fun P => (P.modLink fun l => { l with fin := l.fin.prove h.lane }).taking h fun P => P.timeFrame h stamp).rejoin p

/-- TIME_FRAME_RECEIVED (R312; R15, R297). -/
def execTimeFrameReceived (p : PortalId) (h : FrameHdr) (stamp : Dword) (s : State) : Host.Outcome State Fault Refusal :=
  .next ((s.hostFrame p (.time h stamp)).timeArrived p h stamp)

/-- TIME_FREE_TIMEOUT (R312). -/
def execTimeFreeTimeout (p : PortalId) (s : State) : Host.Outcome State Fault Refusal := portalOnly s p fun P => P.timeFree

/-- STATE_FRAME_RECEIVED (R305; R37, R297, R300, R316, R409). -/
def execStateFrameReceived (p : PortalId) (h : FrameHdr) (f : StateFrame) (s : State) : Host.Outcome State Fault Refusal :=
  settled s (s.stateFrame p h f)

/-- STATE_FRAME_PERIODIC (R305; R19). -/
def execStateFramePeriodic (p : PortalId) (s : State) : Host.Outcome State Fault Refusal := portalOnly s p fun P => P.periodicState s.clock

/-- EVENT_FRAME_RECEIVED (R306; R19, R230, R297, R300, R316, R409, R430, R442). -/
def execEventFrameReceived (p : PortalId) (h : FrameHdr) (f : EventFrame) (s : State) : Host.Outcome State Fault Refusal :=
  settled s (s.eventFrame p h f)

/-- SAMPLE_FRAME_RECEIVED (R307; R18, R19, R246, R249 to R253, R258, R260). A non-code word on the way into the acquisition store is discarded and
reported by it; the manual names no flag: DEDUCED, its samples are lost as in an overflow, and ING_FAULT tells of it (log 222). -/
def execSampleFrameReceived (p : PortalId) (h : FrameHdr) (f : IngestFrame) (s : State) :
    Host.Outcome State Fault Refusal :=
  settled s (s.sampleFrame p h f.frame f.level (f.overflow || f.nonCode))

/-- LANE_LOCKED (R310; R59). -/
def execLaneLocked (p : PortalId) (lane : Fin 2) (side : LinkSide) (s : State) : Host.Outcome State Fault Refusal :=
  settled s (s.laneLock p lane side)

/-- LANE_TRAIN_RETRY (R310; R59). -/
def execLaneTrainRetry (p : PortalId) (lane : Fin 2) (s : State) : Host.Outcome State Fault Refusal := settled s (s.trainRetry p lane)

/-- HELLO_RECEIVED_PORTAL (R310; R301, R311, R317, R323, R324). -/
def execHelloReceivedPortal (p : PortalId) (h : FrameHdr) (f : HelloFrame) (s : State) : Host.Outcome State Fault Refusal :=
  .next (s.helloPortal p h f)

/-- HELLO_RECEIVED_HOST (R310; R59, R60, R301, R315). -/
def execHelloReceivedHost (p : PortalId) (h : FrameHdr) (f : HelloFrame) (rtt : Two Nat) (s : State) : Host.Outcome State Fault Refusal :=
  settled s ((s.portalFrame p (.hello h f)).helloHost p h f rtt)

/-- LANE_DOWN (R313; R21, R32, R260, R315, R320, R321, R328, R329, R332, R409, R431). -/
def execLaneDown (p : PortalId) (lane : Fin 2) (side : LinkSide) (s : State) : Host.Outcome State Fault Refusal := settled s (s.laneLost p lane side)

/-- LINK_SILENCE_END (R315). -/
def execLinkSilenceEnd (p : PortalId) (s : State) : Host.Outcome State Fault Refusal := settled s (s.silenceEnd p)

/-- LANE_BACKGROUND_RETRAIN (R311). -/
def execLaneBackgroundRetrain (p : PortalId) (s : State) : Host.Outcome State Fault Refusal := settled s (s.backgroundRetrain p)

/-- CONFIG_READ (R308; R19, R20, R324). -/
def execConfigRead (p : PortalId) (h : FrameHdr) (f : ConfigFrame) (s : State) : Host.Outcome State Fault Refusal :=
  delivered s p (.config h f) fun P => P.configRead s.clock p h f

/-- CONFIG_WRITE (R308; R19, R20). -/
def execConfigWrite (p : PortalId) (h : FrameHdr) (f : ConfigFrame) (s : State) : Host.Outcome State Fault Refusal :=
  delivered s p (.config h f) fun P => P.configWrite s.clock p h f

/-- CONFIG_DL_CHUNK (R308). -/
def execConfigDlChunk (p : PortalId) (h : FrameHdr) (f : ConfigFrame) (s : State) : Host.Outcome State Fault Refusal :=
  delivered s p (.config h f) fun P => P.configChunk h f

/-- CONFIG_DL_END (R309; R96, R181, R209, R236, R308, R319, R336, R339, R350, R365). -/
def execConfigDlEnd (p : PortalId) (h : FrameHdr) (f : ConfigFrame) (expiryNow : Bool) (s : State) : Host.Outcome State Fault Refusal :=
  delivered s p (.config h f) fun P => P.configEnd s.clock p h f expiryNow

/-- CONFIG_READBACK_ACK (R324; R60, R308, R319). -/
def execConfigReadbackAck (p : PortalId) (h : FrameHdr) (f : ConfigFrame) (expiryNow : Bool) (s : State) : Host.Outcome State Fault Refusal :=
  delivered s p (.config h f) fun P => P.configReadback s.clock p h f expiryNow

/-- CONFIG_TEST (R289; R308). -/
def execConfigTest (p : PortalId) (h : FrameHdr) (f : ConfigFrame) (detected : Bool) (s : State) : Host.Outcome State Fault Refusal :=
  delivered s p (.config h f) fun P => P.configTest s.clock h f detected

/-- CONFIG_ANSWER_RECEIVED (R20; R60, R308). -/
def execConfigAnswerReceived (p : PortalId) (h : FrameHdr) (f : ConfigFrame) (s : State) : Host.Outcome State Fault Refusal :=
  settled s (s.configAnswer p h f)

/-- HOLD_WINDOW_EXPIRE (R320; R22, R321, R322, R329). -/
def execHoldWindowExpire (p : PortalId) (s : State) : Host.Outcome State Fault Refusal := portalOnly s p fun P => P.holdExpired s.clock p

/-- LOWRATE_LINK_TIMEOUT (R327). -/
def execLowrateLinkTimeout (p : PortalId) (side : LinkSide) (s : State) : Host.Outcome State Fault Refusal := settled s (s.lowRateTimeout p side)

/-- LIMP_N_ASSERT (R329). -/
def execLimpNAssert (p : PortalId) (s : State) : Host.Outcome State Fault Refusal := portalOnly s p fun P => P.limpAssert s.clock

/-- LIMP_N_RELEASE (R332). -/
def execLimpNRelease (p : PortalId) (s : State) : Host.Outcome State Fault Refusal := portalOnly s p fun P => P.limpRelease s.clock p

/-- LINK_ERROR (R314; R297, R300, R315). -/
def execLinkError (p : PortalId) (side : LinkSide) (lane : Fin 2) (twinValid : Bool) (s : State) : Host.Outcome State Fault Refusal :=
  settled s (s.frameError p side lane twinValid)

end Sys2Proof.Machine
end

