-- ==== Sys2Proof/Machine/AxisCmds.lean ====
section
/-! DEFINITION. The commands of the motion axes and their drives (R144 to R178, R490). -/

namespace Sys2Proof.Machine

/-- BOOTSTRAP_PRECHARGE_END (R149). -/
def execBootstrapPrechargeEnd (p : PortalId) (a : AxisId) (s : State) : Host.Outcome State Fault Refusal :=
  portalOnly s p fun P => P.prechargeDone s.clock p a

/-- ALIGN_COMPLETE (R149; R148). -/
def execAlignComplete (p : PortalId) (a : AxisId) (s : State) : Host.Outcome State Fault Refusal := portalOnly s p fun P => P.alignDone s.clock p a

/-- STEP_TIMER_EXPIRE (R162; R147, R161, R163, R164, R225, R237, R322). -/
def execStepTimerExpire (p : PortalId) (a : AxisId) (s : State) : Host.Outcome State Fault Refusal := portalOnly s p fun P => P.stepExpire s.clock p a

/-- PWM_PERIOD (R165; R161, R166 to R169, R171, R175, R216 to R218). -/
def execPwmPeriod (p : PortalId) (a : AxisId) (m : PwmSample) (s : State) : Host.Outcome State Fault Refusal :=
  portalOnly s p fun P => P.pwmPeriod s.clock a m

/-- HOLD_DELAY_EXPIRE (R172; R174). -/
def execHoldDelayExpire (p : PortalId) (a : AxisId) (holdFirmNow : Bool) (s : State) : Host.Outcome State Fault Refusal :=
  portalOnly s p fun P => P.holdDelay s.clock a holdFirmNow

/-- LEG_OVERCURRENT (R170; R148, R171). -/
def execLegOvercurrent (p : PortalId) (a : AxisId) (legs : BitVec 4) (s : State) : Host.Outcome State Fault Refusal :=
  portalOnly s p fun P => P.legOvercurrent s.clock a legs

/-- BOOTSTRAP_UNDERVOLTAGE (R170). -/
def execBootstrapUndervoltage (p : PortalId) (a : AxisId) (leg : Fin 4) (s : State) : Host.Outcome State Fault Refusal :=
  portalOnly s p fun P => P.bootUndervoltage s.clock a leg

/-- VGATE_UNDERVOLTAGE (R170; R490). -/
def execVgateUndervoltage (p : PortalId) (s : State) : Host.Outcome State Fault Refusal := portalOnly s p fun P => P.vgateLow s.clock

/-- VBUS_OVERVOLTAGE (R167; R170). -/
def execVbusOvervoltage (p : PortalId) (s : State) : Host.Outcome State Fault Refusal := portalOnly s p fun P => P.busOver s.clock

/-- AX_MCLR_CLR_DUTY (R166). -/
def execAxMclrClrDuty (p : PortalId) (a : AxisId) (s : State) : Host.Outcome State Fault Refusal := portalOnly s p fun P => P.axMclr a true false

/-- AX_MCLR_CLR_VMIN (R167). -/
def execAxMclrClrVmin (p : PortalId) (a : AxisId) (s : State) : Host.Outcome State Fault Refusal := portalOnly s p fun P => P.axMclr a false true

/-- VGATE_RESTORED (R490). -/
def execVgateRestored (p : PortalId) (s : State) : Host.Outcome State Fault Refusal := portalOnly s p fun P => P.vgateBack

end Sys2Proof.Machine
end

