-- ==== Sys2Proof/Machine/FeedbackCmds.lean ====
section
/-! DEFINITION. The commands of position and speed feedback (R179 to R206). -/

namespace Sys2Proof.Machine

/-- QUAD_EDGE (R185; R186, R188, R195, R197, R198, R200, R202 to R205). -/
def execQuadEdge (p : PortalId) (a : AxisId) (qa qb : Bool) (s : State) : Host.Outcome State Fault Refusal :=
  portalOnly s p fun P => P.quadEdge s.clock a qa qb

/-- INDEX_EVENT (R187; R188, R193, R198). -/
def execIndexEvent (p : PortalId) (a : AxisId) (illegalNow : Bool) (s : State) : Host.Outcome State Fault Refusal :=
  portalOnly s p fun P => P.indexEvent a illegalNow

/-- HALL_CODE_CHANGE (R189; R149, R170, R195, R197, R200, R202, R203). -/
def execHallCodeChange (p : PortalId) (a : AxisId) (code : BitVec 3) (s : State) : Host.Outcome State Fault Refusal :=
  portalOnly s p fun P => P.hallCode s.clock a code

/-- SSI_REQUEST (R190; R191). -/
def execSsiRequest (p : PortalId) (a : AxisId) (datHigh : Bool) (s : State) : Host.Outcome State Fault Refusal :=
  portalOnly s p fun P => P.ssiRequest s.clock a datHigh

/-- SSI_FRAME_COMPLETE (R191; R192, R195, R197, R198, R200, R202, R203). -/
def execSsiFrameComplete (p : PortalId) (a : AxisId) (f : SsiFrame) (s : State) : Host.Outcome State Fault Refusal :=
  portalOnly s p fun P => P.ssiFrame s.clock a f

/-- SINCOS_SAMPLE (R193; R194, R195, R197, R198, R200, R202, R203). -/
def execSincosSample (p : PortalId) (a : AxisId) (sin cos : BitVec 12) (s : State) : Host.Outcome State Fault Refusal :=
  portalOnly s p fun P => P.sincos s.clock a sin cos

/-- OBSERVER_UPDATE (R199; R176, R202, R214, R219, R223 to R225, R241). -/
def execObserverUpdate (p : PortalId) (a : AxisId) (s : State) : Host.Outcome State Fault Refusal :=
  portalOnly s p fun P => P.observerUpdate s.clock p a

/-- STILL_TIMEOUT (R201; R204). -/
def execStillTimeout (p : PortalId) (a : AxisId) (edgeNow : Bool) (s : State) : Host.Outcome State Fault Refusal :=
  portalOnly s p fun P => P.stillTimeout s.clock p a edgeNow

/-- FB_SETPOS_WRITE (R196; R198, R199). -/
def execFbSetposWrite (p : PortalId) (a : AxisId) (v : Word) (s : State) : Host.Outcome State Fault Refusal := portalOnly s p fun P => P.setPos a v

/-- FB_CLR_REARM_IDX (R187). -/
def execFbClrRearmIdx (p : PortalId) (a : AxisId) (s : State) : Host.Outcome State Fault Refusal := portalOnly s p fun P => P.fbClr a true false false

/-- FB_CLR_RMIN (R194). -/
def execFbClrRmin (p : PortalId) (a : AxisId) (s : State) : Host.Outcome State Fault Refusal := portalOnly s p fun P => P.fbClr a false true false

/-- FB_CLR_CNT (R186). -/
def execFbClrCnt (p : PortalId) (a : AxisId) (s : State) : Host.Outcome State Fault Refusal := portalOnly s p fun P => P.fbClr a false false true

/-- FB_CMPCTL_WRITE (R197). -/
def execFbCmpctlWrite (p : PortalId) (a : AxisId) (v : Word) (s : State) : Host.Outcome State Fault Refusal :=
  portalOnly s p fun P => P.cmpCtl s.clock a v

/-- FB_CMPVAL_WRITE (R198). -/
def execFbCmpvalWrite (p : PortalId) (a : AxisId) (v : Word) (s : State) : Host.Outcome State Fault Refusal :=
  portalOnly s p fun P => P.cmpValWrite a v

/-- FEEDBACK_DETECTION_COMPLETE (R181). -/
def execFeedbackDetectionComplete (p : PortalId) (found : Three FbFound) (s : State) : Host.Outcome State Fault Refusal :=
  portalOnly s p fun P => P.detectionDone s.clock found

/-- LINE_INVALID_TIMEOUT (R182). -/
def execLineInvalidTimeout (p : PortalId) (a : AxisId) (line : Fin 4) (s : State) : Host.Outcome State Fault Refusal :=
  portalOnly s p fun P => P.lineInvalid s.clock a line

/-- HALL_INVALID_TIMEOUT (R182). -/
def execHallInvalidTimeout (p : PortalId) (a : AxisId) (s : State) : Host.Outcome State Fault Refusal :=
  portalOnly s p fun P => P.hallInvalid s.clock a

end Sys2Proof.Machine
end

