-- ==== Sys2Proof/Machine/ObstacleCmds.lean ====
section
/-! DEFINITION. The commands of obstacle detection, the safe stop and the lock-out (R207 to R237). -/

namespace Sys2Proof.Machine

/-- MONITOR_TICK (R208; R18, R22, R27, R207, R210 to R212, R215, R221, R222, R226, R227, R237). -/
def execMonitorTick (p : PortalId) (d : MonitorDiff) (s : State) : Host.Outcome State Fault Refusal := portalOnly s p fun P => P.monitorTick s.clock p d

/-- MONITOR_INJECTION_TEST (R209; R210). -/
def execMonitorInjectionTest (p : PortalId) (allReported : Bool) (s : State) : Host.Outcome State Fault Refusal :=
  portalOnly s p fun P => P.injectionTest s.clock allReported

/-- ADC_CROSS_CHECK (R240; R209, R210). -/
def execAdcCrossCheck (p : PortalId) (r : CrossReadings) (s : State) : Host.Outcome State Fault Refusal :=
  portalOnly s p fun P => P.crossCheck s.clock r

/-- TABLE_CRC_CHECK (R209; R210). -/
def execTableCrcCheck (p : PortalId) (upset : Bool) (s : State) : Host.Outcome State Fault Refusal := portalOnly s p fun P => P.tableCrc s.clock upset

/-- MONITOR_SELFTEST_COMPLETE (R209; R210, R229 to R232). -/
def execMonitorSelftestComplete (p : PortalId) (pass : Bool) (s : State) : Host.Outcome State Fault Refusal :=
  portalOnly s p fun P => P.selftestComplete s.clock pass

/-- ANALOG_EDGE_SAMPLE (R213; R214, R215). -/
def execAnalogEdgeSample (p : PortalId) (e : Fin 2) (code : BitVec 14) (s : State) : Host.Outcome State Fault Refusal :=
  portalOnly s p fun P => P.edgeSample s.clock e code

/-- PROGRESS_TIMEOUT (R220; R211). -/
def execProgressTimeout (p : PortalId) (a : AxisId) (s : State) : Host.Outcome State Fault Refusal :=
  portalOnly s p fun P => P.progressTimeout s.clock p a

/-- SAFE_STOP_SETTLE_TIMEOUT (R224). -/
def execSafeStopSettleTimeout (p : PortalId) (a : AxisId) (s : State) : Host.Outcome State Fault Refusal :=
  portalOnly s p fun P => P.settleTimeout s.clock p a

/-- TORQUE_READBACK_TIMEOUT (R224; R210). -/
def execTorqueReadbackTimeout (p : PortalId) (a : AxisId) (s : State) : Host.Outcome State Fault Refusal :=
  portalOnly s p fun P => P.readbackTimeout s.clock a

/-- SAFE_STOP_REST_END (R225; R22, R122, R127, R156, R157, R160, R322). -/
def execSafeStopRestEnd (p : PortalId) (s : State) : Host.Outcome State Fault Refusal := portalOnly s p fun P => P.restEnd s.clock p

/-- LOCKOUT_CLR_LOCAL (R231). -/
def execLockoutClrLocal (p : PortalId) (s : State) : Host.Outcome State Fault Refusal := portalOnly s p fun P => P.localReset p

/-- OB_LEARN_WRITE (R237). -/
def execObLearnWrite (p : PortalId) (w : Word) (s : State) : Host.Outcome State Fault Refusal := portalOnly s p fun P => P.learnWrite w

end Sys2Proof.Machine
end

