-- ==== Sys2Proof/Machine/AcquisitionCmds.lean ====
section
/-! DEFINITION. The commands of the acquisition front-end and store (R238 to R265). -/

namespace Sys2Proof.Machine

/-- Something happens in the acquisition store. -/
def inStore (s : State) (f : AcqState → AcqState) : Host.Outcome State Fault Refusal := settled s { s with acq := f s.acq }

/-- A register write of the ACQ block through the host port. -/
def State.acqAtPort (s : State) (f : AcqState → AcqState) : State := s.atPort 0x30000 fun t => { t with acq := f t.acq }

/-- A measurement ends: a result that the manual leaves open is free (R261, R262). -/
def State.measureDone (s : State) (g : Fin 16) (slot : Nat) : State :=
  { s with acq := s.acq.measured g slot fun i => BitVec.ofNat 32 (Config.free (s.freeCtr + i)), freeCtr := s.freeCtr + 8 }

/-- ADC_FRAME (R238; R239, R244, R307). -/
def execAdcFrame (p : PortalId) (codes : Sixteen AdcCode) (s : State) : Host.Outcome State Fault Refusal := portalOnly s p fun P => P.adcFrame codes

/-- DIGITAL_VECTOR_SAMPLE (R242). -/
def execDigitalVectorSample (p : PortalId) (s : State) : Host.Outcome State Fault Refusal := portalOnly s p fun P => P.digitalSample

/-- DIGITAL_WORD_KEEPALIVE (R242). -/
def execDigitalWordKeepalive (p : PortalId) (s : State) : Host.Outcome State Fault Refusal := portalOnly s p fun P => P.digitalKeepalive

/-- ACQ_GROUP_ENABLE (R248; R244). -/
def execAcqGroupEnable (g : Fin 16) (w : Word) (s : State) : Host.Outcome State Fault Refusal :=
  settled s (s.acqAtPort fun a => a.writeCfg g w s.groupEnv)

/-- ACQ_GROUP_REARM (R250). -/
def execAcqGroupRearm (g : Fin 16) (s : State) : Host.Outcome State Fault Refusal := settled s (s.acqAtPort fun a => a.rearm g)

/-- ACQ_FORCE_WRITE (R256). -/
def execAcqForceWrite (groups : BitVec 16) (s : State) : Host.Outcome State Fault Refusal := settled s (s.acqAtPort fun a => a.force groups s.now)

/-- TRIGGER_ARRIVAL (R254; R249, R252, R255). -/
def execTriggerArrival (g : Fin 16) (t : Trigger) (s : State) : Host.Outcome State Fault Refusal :=
  inStore s fun a => a.arrival g t.cond.val t.stamp.toNat

/-- TRIGGER_COMMIT (R255; R257). -/
def execTriggerCommit (g : Fin 16) (s : State) : Host.Outcome State Fault Refusal := inStore s fun a => a.commit g

/-- AUTO_TRIGGER_EXPIRE (R256). -/
def execAutoTriggerExpire (g : Fin 16) (s : State) : Host.Outcome State Fault Refusal := inStore s fun a => a.autoFire g s.now

/-- DSPAN_EXPIRE (R249; R258). -/
def execDspanExpire (g : Fin 16) (s : State) : Host.Outcome State Fault Refusal := inStore s fun a => a.dspan g

/-- MEASUREMENT_COMPLETE (R262; R250, R261). -/
def execMeasurementComplete (g : Fin 16) (slot : BitVec 12) (s : State) : Host.Outcome State Fault Refusal := settled s (s.measureDone g slot.toNat)

/-- ACQ_RDSEL_WRITE (R265; R250). -/
def execAcqRdselWrite (w : Word) (refillNow : Bool) (s : State) : Host.Outcome State Fault Refusal :=
  settled s (s.acqAtPort fun a => a.select w refillNow)

/-- STORE_SCRUB (R247). -/
def execStoreScrub (single double : List Nat) (s : State) : Host.Outcome State Fault Refusal := inStore s fun a => a.scrub single double

end Sys2Proof.Machine
end

