-- ==== Sys2Proof/Machine/LockCmds.lean ====
section
/-! DEFINITION. The commands of redundant execution (R267 to R293). -/

namespace Sys2Proof.Machine

/-- MISR_WINDOW_END (R269; R18, R29, R31, R32, R41, R43, R45, R270, R273, R274, R280, R284, R293, R431). -/
def execMisrWindowEnd (i : PairId) (w : MisrWindow) (s : State) : Host.Outcome State Fault Refusal := settled s (s.misrWindow i w)

/-- FINGERPRINT_COMPARE (R286; R280). -/
def execFingerprintCompare (d : FpDiff) (s : State) : Host.Outcome State Fault Refusal := settled s (s.fingerprints d)

/-- PLANNED_SWAP_DEADLINE (R287). -/
def execPlannedSwapDeadline (s : State) : Host.Outcome State Fault Refusal := settled s (s.planDeadline)

/-- LOCK_CTL_SWAP (R288; R280). -/
def execLockCtlSwap (key : Byte) (s : State) : Host.Outcome State Fault Refusal := settled s (s.atPort 0x40044 fun t => t.ctlSwap key)

/-- LOCK_CTL_CLEAR_INFAULT (R277). -/
def execLockCtlClearInfault (key : Byte) (s : State) : Host.Outcome State Fault Refusal := settled s (s.atPort 0x40044 fun t => t.ctlClearInfault key)

/-- PAIR_AWL_COMPLETE (R292; R280, R289 to R291, R293, R445). -/
def execPairAwlComplete (r : AwlRun) (xFail : Bool) (s : State) : Host.Outcome State Fault Refusal := settled s (s.pairAwl r xFail)

/-- GRAFT_TIMEOUT (R293; R280). -/
def execGraftTimeout (s : State) : Host.Outcome State Fault Refusal := settled s (s.graftTimeout)

end Sys2Proof.Machine
end

