-- ==== Sys2Proof/Machine/InputCmds.lean ====
section
/-! DEFINITION. The commands of inputs, protected switches, supplies, safety outputs, curtain ports and die temperature (R335 to R369, R490 to R497). -/

namespace Sys2Proof.Machine

/-- The junction of a channel has cooled to 145 °C: a retry that waited for it starts (R343). -/
def PortalState.junctionCool (P : PortalState) (ck : Nat) (n : Fin 8) : PortalState :=
  match (P.switches.get n).retry with
  | some r => if r.due then P.tryRetry ck n false else P.modSw n fun w => { w with retry := some { r with hot := false } }
  | none => P

/-- INPUT_SAMPLE (R336; R18, R68, R69, R118, R136, R212, R339). A sample that crosses as a non-code word is discarded and puts the portal
into FAULT (R18, R32). -/
def execInputSample (p : PortalId) (raw : LandSample) (s : State) : Host.Outcome State Fault Refusal :=
  portalOnly s p fun P => if P.por then P else if raw.nonCode then P.enterFault s.clock 0 else P.inputSample s.clock p raw

/-- OPEN_WIRE_SET (R339; R69). -/
def execOpenWireSet (p : PortalId) (n : Fin 16) (s : State) : Host.Outcome State Fault Refusal := portalOnly s p fun P => P.openWireSet s.clock n

/-- OPEN_WIRE_CLEAR (R339). -/
def execOpenWireClear (p : PortalId) (n : Fin 16) (s : State) : Host.Outcome State Fault Refusal := portalOnly s p fun P => P.openWireClear s.clock n

/-- INPUT_OVERTEMP (R340). -/
def execInputOvertemp (p : PortalId) (n : Fin 16) (s : State) : Host.Outcome State Fault Refusal := portalOnly s p fun P => P.inputHot s.clock n

/-- INPUT_OVERTEMP_END (R340). -/
def execInputOvertempEnd (p : PortalId) (n : Fin 16) (s : State) : Host.Outcome State Fault Refusal := portalOnly s p fun P => P.inputCool s.clock n

/-- INPUT_CURRENT_MEASURE (R341). -/
def execInputCurrentMeasure (p : PortalId) (cur : Sixteen Half) (s : State) : Host.Outcome State Fault Refusal :=
  portalOnly s p fun P => { P with inputs := { P.inputs with current := cur } }

/-- SWITCH_EPISODE_START (R343). -/
def execSwitchEpisodeStart (p : PortalId) (n : Fin 8) (s : State) : Host.Outcome State Fault Refusal := portalOnly s p fun P => P.episodeStart n

/-- SWITCH_EPISODE_SUCCESS (R343). -/
def execSwitchEpisodeSuccess (p : PortalId) (n : Fin 8) (s : State) : Host.Outcome State Fault Refusal :=
  portalOnly s p fun P => P.episodeSuccess s.clock n

/-- SWITCH_TEP_EXPIRE (R343; R22, R344, R347). -/
def execSwitchTepExpire (p : PortalId) (n : Fin 8) (rose : Bool) (s : State) : Host.Outcome State Fault Refusal :=
  portalOnly s p fun P => P.tepExpire s.clock n rose

/-- SWITCH_JUNCTION_OVERTEMP (R343; R344, R346, R347). -/
def execSwitchJunctionOvertemp (p : PortalId) (n : Fin 8) (rose : Bool) (s : State) : Host.Outcome State Fault Refusal :=
  portalOnly s p fun P => P.junctionHot s.clock n rose

/-- SWITCH_JUNCTION_COOLED (R343). -/
def execSwitchJunctionCooled (p : PortalId) (n : Fin 8) (s : State) : Host.Outcome State Fault Refusal :=
  portalOnly s p fun P => P.junctionCool s.clock n

/-- SWITCH_RETRY_DUE (R345; R22, R343, R344, R357). -/
def execSwitchRetryDue (p : PortalId) (n : Fin 8) (hot : Bool) (s : State) : Host.Outcome State Fault Refusal :=
  portalOnly s p fun P => P.tryRetry s.clock n hot

/-- SHORT_RETRY_END (R344; R347). -/
def execShortRetryEnd (p : PortalId) (n : Fin 8) (rose : Bool) (s : State) : Host.Outcome State Fault Refusal :=
  portalOnly s p fun P => P.shortRetryEnd s.clock n rose

/-- SWITCH_OL_OFF_TIMER (R348). -/
def execSwitchOlOffTimer (p : PortalId) (n : Fin 8) (s : State) : Host.Outcome State Fault Refusal := portalOnly s p fun P => P.olOff n

/-- SWITCH_UC_TIMER (R348). -/
def execSwitchUcTimer (p : PortalId) (n : Fin 8) (s : State) : Host.Outcome State Fault Refusal := portalOnly s p fun P => P.undercurrent n

/-- BUDGET_EVALUATE (R349). -/
def execBudgetEvaluate (p : PortalId) (loss : Eight Half) (current : Eight Half) (s : State) : Host.Outcome State Fault Refusal :=
  portalOnly s p fun P => P.budget s.clock loss current

/-- BUDGET_RESTORE (R349; R22). -/
def execBudgetRestore (p : PortalId) (s : State) : Host.Outcome State Fault Refusal := portalOnly s p fun P => P.budgetRestore

/-- SENSOR_SUPPLY_OVERLOAD (R350). -/
def execSensorSupplyOverload (p : PortalId) (k : Fin 4) (s : State) : Host.Outcome State Fault Refusal := portalOnly s p fun P => P.ssOverload k

/-- SENSOR_SUPPLY_RETRY (R350). -/
def execSensorSupplyRetry (p : PortalId) (k : Fin 4) (s : State) : Host.Outcome State Fault Refusal := portalOnly s p fun P => P.ssRetry k

/-- SO_PULSE_START (R352; R26, R354). -/
def execSoPulseStart (p : PortalId) (o : SoId) (s : State) : Host.Outcome State Fault Refusal := portalOnly s p fun P => P.soPulse s.clock o

/-- SO_PULSE_END (R352; R354). -/
def execSoPulseEnd (p : PortalId) (o : SoId) (s : State) : Host.Outcome State Fault Refusal := portalOnly s p fun P => P.soPulseEnd o

/-- SO_PULSE_CHECK_TIMEOUT (R353; R354). -/
def execSoPulseCheckTimeout (p : PortalId) (o : SoId) (c : SoCheck) (offNow : Bool) (s : State) : Host.Outcome State Fault Refusal :=
  portalOnly s p fun P => P.soCheck s.clock o c offNow

/-- SO_STUCK (R353). -/
def execSoStuck (p : PortalId) (o : SoId) (s : State) : Host.Outcome State Fault Refusal := portalOnly s p fun P => P.soStuckHigh s.clock o

/-- SO_OVERCURRENT (R353). -/
def execSoOvercurrent (p : PortalId) (o : SoId) (s : State) : Host.Outcome State Fault Refusal := portalOnly s p fun P => P.soOvercurrent s.clock o

/-- SO_OPEN_LOAD (R353). -/
def execSoOpenLoad (p : PortalId) (o : SoId) (s : State) : Host.Outcome State Fault Refusal := portalOnly s p fun P => P.soOpen s.clock o

/-- VFLD_WARN (R356; R355). -/
def execVfldWarn (p : PortalId) (s : State) : Host.Outcome State Fault Refusal := portalOnly s p fun P => P.fieldEnter s.clock p .warn

/-- VFLD_HOLD (R357; R22, R159, R226, R355). -/
def execVfldHold (p : PortalId) (s : State) : Host.Outcome State Fault Refusal := portalOnly s p fun P => P.fieldEnter s.clock p .hold

/-- VFLD_UV (R358; R25, R355). -/
def execVfldUv (p : PortalId) (s : State) : Host.Outcome State Fault Refusal := portalOnly s p fun P => P.fieldEnter s.clock p .uv

/-- VFLD_STATE_RECOVER (R355; R357, R359). -/
def execVfldStateRecover (p : PortalId) (s : State) : Host.Outcome State Fault Refusal := portalOnly s p fun P => P.fieldRecover s.clock

/-- SWITCH_RESTORE_STEP (R359). -/
def execSwitchRestoreStep (p : PortalId) (s : State) : Host.Outcome State Fault Refusal := portalOnly s p fun P => P.restoreStep

/-- VHOLD_LOW_POR (R491; R360, R488, R493). -/
def execVholdLowPor (p : PortalId) (s : State) : Host.Outcome State Fault Refusal := portalOnly s p fun _ => PortalState.logicPor

/-- PORTAL_LOGIC_POR_RELEASE (R491; R5, R96, R229, R336, R488). -/
def execPortalLogicPorRelease (p : PortalId) (s : State) : Host.Outcome State Fault Refusal := .next (s.setPortal p (s.portals.get p).porRelease)

/-- VSW_LOW_SET (R361). -/
def execVswLowSet (p : PortalId) (s : State) : Host.Outcome State Fault Refusal := portalOnly s p fun P => P.vswSet true

/-- VSW_LOW_CLEAR (R361). -/
def execVswLowClear (p : PortalId) (s : State) : Host.Outcome State Fault Refusal := portalOnly s p fun P => P.vswSet false

/-- CURTAIN_HELLO_RSP (R365; R364). -/
def execCurtainHelloRsp (p : PortalId) (k : Fin 2) (bytes : List Byte) (s : State) : Host.Outcome State Fault Refusal :=
  portalOnly s p fun P => P.curtainHello s.clock k bytes

/-- CURTAIN_HELLO_TIMEOUT (R365). -/
def execCurtainHelloTimeout (p : PortalId) (k : Fin 2) (s : State) : Host.Outcome State Fault Refusal :=
  portalOnly s p fun P => P.curtainTimeout s.clock k

/-- CURTAIN_RENEGOTIATE (R365). -/
def execCurtainRenegotiate (p : PortalId) (k : Fin 2) (s : State) : Host.Outcome State Fault Refusal :=
  portalOnly s p fun P => P.curtainRetry s.clock k

/-- CURTAIN_BEAM_FRAME (R367; R364 to R366, R368, R465). -/
def execCurtainBeamFrame (p : PortalId) (k : Fin 2) (bytes : List Byte) (s : State) : Host.Outcome State Fault Refusal :=
  portalOnly s p fun P => P.curtainBeam s.clock k bytes

/-- CURTAIN_LOST_TIMEOUT (R366; R365, R367). -/
def execCurtainLostTimeout (p : PortalId) (k : Fin 2) (s : State) : Host.Outcome State Fault Refusal :=
  portalOnly s p fun P => P.curtainLost s.clock k

/-- CURTAIN_FRAME_DISCARDED (R366). -/
def execCurtainFrameDiscarded (p : PortalId) (k : Fin 2) (s : State) : Host.Outcome State Fault Refusal :=
  portalOnly s p fun P => P.curtainDiscard s.clock k

/-- DIE_TEMP_MEASURE (R496; R497). -/
def execDieTempMeasure (p : PortalId) (t : BitVec 16) (s : State) : Host.Outcome State Fault Refusal := portalOnly s p fun P => P.dieTemp t

/-- PORTAL_DIE_OVERTEMP (R497). -/
def execPortalDieOvertemp (p : PortalId) (s : State) : Host.Outcome State Fault Refusal := portalOnly s p fun P => P.dieOver s.clock

end Sys2Proof.Machine
end

