-- ==== Sys2Proof/Machine/CanCmds.lean ====
section
/-! DEFINITION. The commands of the CAN controllers (R370 to R397). -/

namespace Sys2Proof.Machine

/-- Something happens on a CAN controller. -/
def onCan (s : State) (c : CanId) (f : CanState → CanState) : Host.Outcome State Fault Refusal := settled s (s.modCan c f)

/-- Base address of a controller's block (R34). -/
def canBase : CanId → Nat
  | .a => 0x20000
  | .b => 0x28000

/-- A register write of a controller through the host port. -/
def State.canAtPort (s : State) (c : CanId) (f : CanState → CanState) : State := s.atPort (canBase c) fun t => t.modCan c f

/-- While ALONE the moment of the one attempt in 100 ms has come (R395). -/
def CanState.probe (c : CanState) (ck : Nat) (now : Dword) : CanState :=
  if c.alone then { ({ c with alone := false } : CanState).txStart ck now with alone := true } else c

/-- CAN_BUS_INTEGRATED (R376; R375, R418). -/
def execCanBusIntegrated (c : CanId) (s : State) : Host.Outcome State Fault Refusal := onCan s c CanState.integrated

/-- CAN_FRAME_RECEIVED (R384; R18, R376, R377, R382, R385, R386, R391, R395, R397, R414). A frame that crosses as a non-code word is discarded
and reported (R18). -/
def execCanFrameReceived (c : CanId) (f : CanRx) (s : State) : Host.Outcome State Fault Refusal :=
  settled s (if f.nonCode then s.modCan c fun x => { x with evt := raise x.evt 20 } else s.canReceive c f)

/-- CAN_RECEIVE_ERROR (R377; R376). -/
def execCanReceiveError (c : CanId) (e : CanError) (s : State) : Host.Outcome State Fault Refusal := onCan s c fun x => x.rxError e

/-- CAN_TX_ATTEMPT_START (R388; R389, R397). -/
def execCanTxAttemptStart (c : CanId) (s : State) : Host.Outcome State Fault Refusal := onCan s c fun x => x.txStart s.clock s.time.now

/-- CAN_TX_ATTEMPT_END (R389; R375 to R377, R382, R391 to R395, R421). -/
def execCanTxAttemptEnd (c : CanId) (e : TxEnd) (s : State) : Host.Outcome State Fault Refusal := onCan s c fun x => x.txEnd e

/-- CAN_ALONE_PROBE (R395). -/
def execCanAloneProbe (c : CanId) (s : State) : Host.Outcome State Fault Refusal := onCan s c fun x => x.probe s.clock s.time.now

/-- CAN_AUTO_RECOVERY_EXPIRE (R376; R379). -/
def execCanAutoRecoveryExpire (c : CanId) (s : State) : Host.Outcome State Fault Refusal := onCan s c CanState.autoRecover

/-- CAN_RECOVERY_COMPLETE (R376; R396). -/
def execCanRecoveryComplete (c : CanId) (s : State) : Host.Outcome State Fault Refusal := onCan s c fun x => x.recovered s.clock

/-- CAN_CMD_RECOVER (R379; R376). -/
def execCanCmdRecover (c : CanId) (key : Byte) (s : State) : Host.Outcome State Fault Refusal := settled s (s.canAtPort c fun x => x.cmdRecover key)

/-- CAN_CMD_TXREQ (R387). -/
def execCanCmdTxreq (c : CanId) (key : Byte) (obj : BitVec 7) (s : State) : Host.Outcome State Fault Refusal :=
  settled s (s.canAtPort c fun x => x.cmdTxreq key obj.toNat s.clock)

/-- CAN_CMD_ABORT (R389). -/
def execCanCmdAbort (c : CanId) (key : Byte) (obj : BitVec 7) (s : State) : Host.Outcome State Fault Refusal :=
  settled s (s.canAtPort c fun x => x.cmdAbort key obj.toNat)

/-- CAN_XCMD_READ (R390; R391, R397). -/
def execCanXcmdRead (c : CanId) (obj : BitVec 7) (s : State) : Host.Outcome State Fault Refusal :=
  settled s (s.canAtPort c fun x => x.xRead obj.toNat)

/-- CAN_XCMD_WRITE (R390; R387, R391). -/
def execCanXcmdWrite (c : CanId) (obj : BitVec 7) (send : Bool) (s : State) : Host.Outcome State Fault Refusal :=
  settled s (s.canAtPort c fun x => x.xWrite obj.toNat send s.clock)

/-- CAN_OBJECT_CONFIG_WRITE (R383; R385). -/
def execCanObjectConfigWrite (c : CanId) (obj : BitVec 7) (word : Fin 3) (v : Word) (s : State) : Host.Outcome State Fault Refusal :=
  settled s (s.canAtPort c fun x => x.writeCfg obj.toNat word.val v)

end Sys2Proof.Machine
end

