-- ==== Sys2Proof/Machine/PortCmds.lean ====
section
/-! DEFINITION. The commands of the host port, the registers and device time (R6 to R8, R399 to R413). -/

namespace Sys2Proof.Machine

/-- SPI_READ (R402; R7, R18, R20, R34, R35, R37, R247, R259, R264, R399 to R401, R403 to R405, R407). -/
def execSpiRead (r : SpiRequest) (s : State) : Host.Outcome State Fault Refusal := settled s (s.spiReadCmd r)

/-- SPI_WRITE (R402; R6, R7, R18, R20, R34 to R36, R399 to R401, R403 to R407, R463). -/
def execSpiWrite (r : SpiRequest) (s : State) : Host.Outcome State Fault Refusal := settled s (s.spiWriteCmd r)

/-- SPI_STATUS (R402; R399 to R401, R403, R405). -/
def execSpiStatus (r : SpiRequest) (s : State) : Host.Outcome State Fault Refusal := settled s (s.spiStatusCmd r)

/-- SPI_REPEAT (R406; R399 to R403, R405). -/
def execSpiRepeat (r : SpiRequest) (s : State) : Host.Outcome State Fault Refusal := settled s (s.spiRepeatCmd r)

/-- SPI_ABORT (R407). -/
def execSpiAbort (s : State) : Host.Outcome State Fault Refusal := settled s (s.spiAborted)

/-- TIME_LO_READ (R411). -/
def execTimeLoRead (s : State) : Host.Outcome State Fault Refusal := settled s (s.atPort 0x2000 fun t => t.modTime TimeState.latch)

/-- TSYNC_EDGE (R412). -/
def execTsyncEdge (s : State) : Host.Outcome State Fault Refusal := settled s (s.whenAlive State.tsyncEdge)

/-- TSYNC_OUTPUT_PULSE (R412). -/
def execTsyncOutputPulse (s : State) : Host.Outcome State Fault Refusal := settled s (s.whenAlive State.tsyncPulse)

/-- TIME_CMD_STEP (R413). -/
def execTimeCmdStep (key : Byte) (s : State) : Host.Outcome State Fault Refusal := settled s (s.atPort 0x2028 fun t => t.timeCmdStep key)

/-- REGISTER_WRITE (R6; R7, R8, R66, R244, R248, R409, R410). -/
def execRegisterWrite (addr : Word) (v : Word) (raced : Word) (s : State) : Host.Outcome State Fault Refusal :=
  settled s (s.registerWrite addr.toNat v raced)

end Sys2Proof.Machine
end

