-- ==== Sys2Proof/Machine/NelzilCmds.lean ====
section
/-! DEFINITION. The commands of the Nelzil message engine (R414 to R440). -/

namespace Sys2Proof.Machine

/-- NELZIL_HELLO_PERIODIC (R418; R415, R417). -/
def execNelzilHelloPeriodic (ch : Channel) (s : State) : Host.Outcome State Fault Refusal := settled s (s.helloPeriodic ch)

/-- NELZIL_HELLO_RECEIVED (R419; R414, R415, R417, R418, R420, R422). -/
def execNelzilHelloReceived (ch : Channel) (node : BitVec 6) (payload : List Byte) (s : State) : Host.Outcome State Fault Refusal :=
  settled s (s.helloReceived ch node payload)

/-- NELZIL_PEER_AGE_OUT (R419; R418). -/
def execNelzilPeerAgeOut (ch : Channel) (node : BitVec 6) (s : State) : Host.Outcome State Fault Refusal := settled s (s.peerLost ch node)

/-- NELZIL_SETTLE_EXPIRE (R420; R418). -/
def execNelzilSettleExpire (ch : Channel) (s : State) : Host.Outcome State Fault Refusal := settled s (s.settleExpire ch)

/-- NELZIL_FD_CAP_EXPIRE (R421). -/
def execNelzilFdCapExpire (ch : Channel) (s : State) : Host.Outcome State Fault Refusal := settled s (s.fdCapExpire ch)

/-- NELZIL_NODE_CLASH_EXPIRE (R422). -/
def execNelzilNodeClashExpire (ch : Channel) (s : State) : Host.Outcome State Fault Refusal := settled s (s.clashExpire ch)

/-- DOOR_STATUS_PERIODIC (R423; R415, R436). -/
def execDoorStatusPeriodic (s : State) : Host.Outcome State Fault Refusal := settled s (s.sendStatus)

/-- LINES_PERIODIC (R424; R415, R436). -/
def execLinesPeriodic (s : State) : Host.Outcome State Fault Refusal := settled s (s.sendLines)

/-- STATE_CMD_RECEIVED (R426; R46, R48, R49, R51, R73, R427, R430, R436). -/
def execStateCmdReceived (ch : Channel) (node : BitVec 6) (payload : List Byte) (safe : Option SafeCause) (s : State) : Host.Outcome State Fault Refusal :=
  settled s (s.stateCmd ch node payload safe)

/-- PASSWORD_MSG_RECEIVED (R428). -/
def execPasswordMsgReceived (ch : Channel) (node : BitVec 6) (payload : List Byte) (s : State) : Host.Outcome State Fault Refusal :=
  settled s (s.passwordMsg ch node payload)

/-- PASSWORD_PARTS_TIMEOUT (R428). -/
def execPasswordPartsTimeout (ch : Channel) (s : State) : Host.Outcome State Fault Refusal := settled s (s.partsTimeout ch)

/-- PORTAL_CMD_RECEIVED (R429; R430, R436). -/
def execPortalCmdReceived (ch : Channel) (node : BitVec 6) (payload : List Byte) (s : State) : Host.Outcome State Fault Refusal :=
  settled s (s.portalCmd ch node payload)

/-- TIME_SYNC_RECEIVED (R432; R413). -/
def execTimeSyncReceived (c : CanId) (node : BitVec 6) (payload : List Byte) (stamp : Dword) (s : State) : Host.Outcome State Fault Refusal :=
  settled s (s.timeSync c node payload stamp)

/-- TIME_SYNC_MASTER_SEND (R432). -/
def execTimeSyncMasterSend (c : CanId) (s : State) : Host.Outcome State Fault Refusal := settled s (s.sendSync c)

/-- TIME_SYNC_LOST (R432). -/
def execTimeSyncLost (s : State) : Host.Outcome State Fault Refusal := settled s (s.syncLost)

/-- RECEIVE_FLAG_STALE (R439; R424). -/
def execReceiveFlagStale (f : Fin 64) (ch : Channel) (s : State) : Host.Outcome State Fault Refusal := settled s (s.flagStale f ch)

/-- MAILBOX_TX_GO (R440). -/
def execMailboxTxGo (w : Word) (s : State) : Host.Outcome State Fault Refusal := settled s (s.atPort 0x80140 fun t => t.mailboxGo w)

/-- MAILBOX_RX_REMOVE (R440). -/
def execMailboxRxRemove (s : State) : Host.Outcome State Fault Refusal := settled s (s.atPort 0x801C0 State.mailboxRemove)

/-- NELZIL_MAPPED_MESSAGE_RECEIVED (R439; R414, R424). -/
def execNelzilMappedMessageReceived (ch : Channel) (node : BitVec 6) (msg : BitVec 5) (payload : List Byte) (s : State) : Host.Outcome State Fault Refusal :=
  settled s (s.nelzPlain ch node msg.toNat payload)

end Sys2Proof.Machine
end

