-- ==== Sys2Proof/Machine/ArchiveCmds.lean ====
section
/-! DEFINITION. The commands of the archive (R441 to R460). -/

namespace Sys2Proof.Machine

/-- Initialisation starts once BOOT has ended (R450): not again while the medium is known or being probed. -/
def State.archiveStart (s : State) : State :=
  let up := match s.psm.state with
    | .boot | .fuseFail | .off => false
    | _ => true
  if up && !s.psm.porHeld && !s.psm.resetLow && s.arch.media == 0 && s.arch.op == .idle then { s with arch := s.arch.startInit } else s

/-- A command of the ARCH block through the host port. -/
def State.archAtPort (s : State) (key : Byte) (f : ArchState → ArchState) : State :=
  s.atPort 0x6002C fun t => { t with arch := t.arch.cmd key f }

/-- ARCHIVE_INIT_START (R450; R446, R448, R451, R453, R460). -/
def execArchiveInitStart (s : State) : Host.Outcome State Fault Refusal := settled s (s.archiveStart)

/-- EMMC_CMD1_TIMEOUT (R450). -/
def execEmmcCmd1Timeout (s : State) : Host.Outcome State Fault Refusal := settled s (s.emmcAbsent)

/-- EMMC_COMMAND_COMPLETE (R453; R18, R109, R447, R448, R450, R452). An answer that crosses as a non-code word is discarded and
reported; the operation stays under way (R18). -/
def execEmmcCommandComplete (info : Crossed EmmcInfo) (s : State) : Host.Outcome State Fault Refusal :=
  settled s (if info.nonCode then { s with arch := { s.arch with evt := raise s.arch.evt 24 } } else s.emmcDone info.word)

/-- EMMC_COMMAND_FAIL (R451). -/
def execEmmcCommandFail (s : State) : Host.Outcome State Fault Refusal := settled s (s.emmcFail)

/-- JOURNAL_FLUSH_DUE (R453). -/
def execJournalFlushDue (log : Bool) (s : State) : Host.Outcome State Fault Refusal := settled s (s.journalDue log)

/-- SCRUB_READ (R457; R456, R458). -/
def execScrubRead (erased : List Nat) (s : State) : Host.Outcome State Fault Refusal := settled s (s.scrubRead erased)

/-- TRACE_SEGMENT_COPY (R455; R250, R259). -/
def execTraceSegmentCopy (g : Fin 16) (slot : BitVec 12) (s : State) : Host.Outcome State Fault Refusal := settled s (s.traceCopy g slot.toNat)

/-- ARCH_CMD_FLUSH (R454). -/
def execArchCmdFlush (key : Byte) (s : State) : Host.Outcome State Fault Refusal := settled s (s.archAtPort key ArchState.cmdFlush)

/-- ARCH_CMD_SCRUB_NOW (R457). -/
def execArchCmdScrubNow (key : Byte) (s : State) : Host.Outcome State Fault Refusal := settled s (s.archAtPort key ArchState.cmdScrub)

/-- ARCH_CMD_REINIT (R451; R450). -/
def execArchCmdReinit (key : Byte) (s : State) : Host.Outcome State Fault Refusal := settled s (s.archAtPort key ArchState.cmdReinit)

/-- ARCH_CMD_FORMAT (R460; R446). -/
def execArchCmdFormat (key : Byte) (s : State) : Host.Outcome State Fault Refusal := settled s (s.atPort 0x6002C fun t => t.cmdFormat key)

/-- ARCH_CMD_LOAD (R461; R456, R458). -/
def execArchCmdLoad (key : Byte) (s : State) : Host.Outcome State Fault Refusal := settled s (s.archAtPort key ArchState.cmdLoad)

/-- ARCH_CMD_FIND (R461). -/
def execArchCmdFind (key : Byte) (tsel : BitVec 2) (s : State) : Host.Outcome State Fault Refusal :=
  settled s (s.archAtPort key fun a => a.cmdFind tsel)

end Sys2Proof.Machine
end

