-- ==== Sys2Proof/Machine/TallyCmds.lean ====
section
/-! DEFINITION. The commands of the tally island (R462 to R485). -/

namespace Sys2Proof.Machine

/-- Something happens in the tally island alone. -/
def inIsland (s : State) (f : TallyState → TallyState) : Host.Outcome State Fault Refusal := settled s (s.modTally f)

/-- TALLY_POR (R462; R467, R472). -/
def execTallyPor (s : State) : Host.Outcome State Fault Refusal := inIsland s TallyState.por

/-- TALLY_IMAGE_CHECKED (R472; R18, R467 to R470, R474 to R476). -/
def execTallyImageChecked (r : IslandRead) (s : State) : Host.Outcome State Fault Refusal := settled s (s.tallyChecked r)

/-- TALLY_SELF_CRC (R470; R472). -/
def execTallySelfCrc (upset : Bool) (s : State) : Host.Outcome State Fault Refusal := inIsland s fun t => t.selfCheck upset

/-- TALLY_SEAL_SWITCH (R472; R473, R476). -/
def execTallySealSwitch (s : State) : Host.Outcome State Fault Refusal := settled s (s.tallySeal)

/-- TALLY_SEALING_COMPLETE (R473; R18, R467, R468, R472). -/
def execTallySealingComplete (r : SealRun) (drawn : BitVec 256) (s : State) : Host.Outcome State Fault Refusal := settled s (s.tallySealed r drawn)

/-- TALLY_CURTAIN_EVENT (R465; R18, R463, R478 to R480). A non-code word at this crossing is discarded and halts the
island (R18, R472). -/
def execTallyCurtainEvent (p : PortalId) (f : Crossed EventFrame) (s : State) : Host.Outcome State Fault Refusal :=
  inIsland s fun t =>
    if f.nonCode then { t.halt with nonCode := true, inbox := t.inbox.erase (p, f.word) } else t.curtain p f.word

/-- TALLY_CYCLE_MARK (R478; R463, R466, R473, R482). -/
def execTallyCycleMark (m : CycleMark) (s : State) : Host.Outcome State Fault Refusal := settled s (s.tallyMark m)

/-- TALLY_WINDOW_CLOSE (R478; R479, R480). -/
def execTallyWindowClose (p : PortalId) (s : State) : Host.Outcome State Fault Refusal := inIsland s fun t => t.windowClose p

/-- TALLY_TRACK_END (R479). -/
def execTallyTrackEnd (p : PortalId) (s : State) : Host.Outcome State Fault Refusal := inIsland s fun t => t.trackEnd p

/-- TALLY_RECORD_SIGNED (R481; R434, R485). -/
def execTallyRecordSigned (p : PortalId) (s : State) : Host.Outcome State Fault Refusal := settled s (s.tallySigned p)

/-- TALLY_HOST_RESET_CLOSE (R483). -/
def execTallyHostResetClose (portals : BitVec 4) (s : State) : Host.Outcome State Fault Refusal := inIsland s fun t => t.hostClose portals s.time.now

/-- TALLY_CAROUSEL_ADVANCE (R485). -/
def execTallyCarouselAdvance (s : State) : Host.Outcome State Fault Refusal := settled s (s.carousel)

end Sys2Proof.Machine
end

