-- ==== Sys2Proof/Machine/Dispatch.lean ====
section
/-! DEFINITION. One arm per command: each gives the command its meaning by one direct call. -/

namespace Sys2Proof.Machine

open Host

def exec (i : Instr) (s : State) : Host.Outcome State Fault Refusal :=
  match i with
  | .hostSupplyUndervoltage rail => Sys2Proof.Machine.execHostSupplyUndervoltage rail s
  | .fuseLoadComplete reads => Sys2Proof.Machine.execFuseLoadComplete reads s
  | .awlTestComplete pommel cantle xFail => Sys2Proof.Machine.execAwlTestComplete pommel cantle xFail s
  | .flashReady dev => Sys2Proof.Machine.execFlashReady dev s
  | .psmCmdArm src w => Sys2Proof.Machine.execPsmCmdArm src w s
  | .psmCmdBadExec src w => Sys2Proof.Machine.execPsmCmdBadExec src w s
  | .executeService src safe => Sys2Proof.Machine.execExecuteService src safe s
  | .executeStandby src safe => Sys2Proof.Machine.execExecuteStandby src safe s
  | .executeDormant src safe => Sys2Proof.Machine.execExecuteDormant src safe s
  | .executeMaintain src safe => Sys2Proof.Machine.execExecuteMaintain src safe s
  | .executeSelftestDevice src safe => Sys2Proof.Machine.execExecuteSelftestDevice src safe s
  | .executeSelftestPair src safe => Sys2Proof.Machine.execExecuteSelftestPair src safe s
  | .executeOff src safe => Sys2Proof.Machine.execExecuteOff src safe s
  | .deviceSelftestComplete pommel cantle xFail portalFail => Sys2Proof.Machine.execDeviceSelftestComplete pommel cantle xFail portalFail s
  | .dormantReturnComplete pommel cantle xFail crcOk => Sys2Proof.Machine.execDormantReturnComplete pommel cantle xFail crcOk s
  | .wakeCan c => Sys2Proof.Machine.execWakeCan c s
  | .lowrateLockSample p raw => Sys2Proof.Machine.execLowrateLockSample p raw s
  | .passwordSubmit w => Sys2Proof.Machine.execPasswordSubmit w s
  | .passwordExpire ch => Sys2Proof.Machine.execPasswordExpire ch s
  | .flashCopy target => Sys2Proof.Machine.execFlashCopy target s
  | .flashErase target => Sys2Proof.Machine.execFlashErase target s
  | .flashProgram target => Sys2Proof.Machine.execFlashProgram target s
  | .flashVerify target => Sys2Proof.Machine.execFlashVerify target s
  | .flashActivate target => Sys2Proof.Machine.execFlashActivate target s
  | .flashCommandComplete deviceOk => Sys2Proof.Machine.execFlashCommandComplete deviceOk s
  | .keyProgram slot => Sys2Proof.Machine.execKeyProgram slot s
  | .keyRevoke slot => Sys2Proof.Machine.execKeyRevoke slot s
  | .keyOperationComplete readBackOk => Sys2Proof.Machine.execKeyOperationComplete readBackOk s
  | .sealSwitchChange sw => Sys2Proof.Machine.execSealSwitchChange sw s
  | .fabricTick upsets => Sys2Proof.Machine.execFabricTick upsets s
  | .fabricTimerExpire n => Sys2Proof.Machine.execFabricTimerExpire n s
  | .portalHarnessTick p upsets => Sys2Proof.Machine.execPortalHarnessTick p upsets s
  | .portalHarnessTimerExpire p n => Sys2Proof.Machine.execPortalHarnessTimerExpire p n s
  | .kernelCycle k => Sys2Proof.Machine.execKernelCycle k s
  | .stateTimeout p => Sys2Proof.Machine.execStateTimeout p s
  | .roleDiscrepancyTimer p r => Sys2Proof.Machine.execRoleDiscrepancyTimer p r s
  | .isoAgreeTimer p => Sys2Proof.Machine.execIsoAgreeTimer p s
  | .seqPcmdClearFault key p => Sys2Proof.Machine.execSeqPcmdClearFault key p s
  | .seqPcmdResetLockout key p => Sys2Proof.Machine.execSeqPcmdResetLockout key p s
  | .commandReceived p h f stopNow permOffNow => Sys2Proof.Machine.execCommandReceived p h f stopNow permOffNow s
  | .motionRunProfile p a => Sys2Proof.Machine.execMotionRunProfile p a s
  | .motionControlledStop p a => Sys2Proof.Machine.execMotionControlledStop p a s
  | .motionDisable p a => Sys2Proof.Machine.execMotionDisable p a s
  | .orderShutdown p => Sys2Proof.Machine.execOrderShutdown p s
  | .orderLowRate p => Sys2Proof.Machine.execOrderLowRate p s
  | .orderLockoutReset p => Sys2Proof.Machine.execOrderLockoutReset p s
  | .orderClearFault p => Sys2Proof.Machine.execOrderClearFault p s
  | .keeperReceived p h f => Sys2Proof.Machine.execKeeperReceived p h f s
  | .keeperExpire p => Sys2Proof.Machine.execKeeperExpire p s
  | .timeFrameSend p => Sys2Proof.Machine.execTimeFrameSend p s
  | .timeFrameReceived p h stamp => Sys2Proof.Machine.execTimeFrameReceived p h stamp s
  | .timeFreeTimeout p => Sys2Proof.Machine.execTimeFreeTimeout p s
  | .stateFrameReceived p h f => Sys2Proof.Machine.execStateFrameReceived p h f s
  | .stateFramePeriodic p => Sys2Proof.Machine.execStateFramePeriodic p s
  | .eventFrameReceived p h f => Sys2Proof.Machine.execEventFrameReceived p h f s
  | .sampleFrameReceived p h f => Sys2Proof.Machine.execSampleFrameReceived p h f s
  | .laneLocked p lane side => Sys2Proof.Machine.execLaneLocked p lane side s
  | .laneTrainRetry p lane => Sys2Proof.Machine.execLaneTrainRetry p lane s
  | .helloReceivedPortal p h f => Sys2Proof.Machine.execHelloReceivedPortal p h f s
  | .helloReceivedHost p h f rtt => Sys2Proof.Machine.execHelloReceivedHost p h f rtt s
  | .laneDown p lane side => Sys2Proof.Machine.execLaneDown p lane side s
  | .linkSilenceEnd p => Sys2Proof.Machine.execLinkSilenceEnd p s
  | .laneBackgroundRetrain p => Sys2Proof.Machine.execLaneBackgroundRetrain p s
  | .configRead p h f => Sys2Proof.Machine.execConfigRead p h f s
  | .configWrite p h f => Sys2Proof.Machine.execConfigWrite p h f s
  | .configDlChunk p h f => Sys2Proof.Machine.execConfigDlChunk p h f s
  | .configDlEnd p h f expiryNow => Sys2Proof.Machine.execConfigDlEnd p h f expiryNow s
  | .configReadbackAck p h f expiryNow => Sys2Proof.Machine.execConfigReadbackAck p h f expiryNow s
  | .configTest p h f detected => Sys2Proof.Machine.execConfigTest p h f detected s
  | .configAnswerReceived p h f => Sys2Proof.Machine.execConfigAnswerReceived p h f s
  | .holdWindowExpire p => Sys2Proof.Machine.execHoldWindowExpire p s
  | .lowrateLinkTimeout p side => Sys2Proof.Machine.execLowrateLinkTimeout p side s
  | .limpNAssert p => Sys2Proof.Machine.execLimpNAssert p s
  | .limpNRelease p => Sys2Proof.Machine.execLimpNRelease p s
  | .bootstrapPrechargeEnd p a => Sys2Proof.Machine.execBootstrapPrechargeEnd p a s
  | .alignComplete p a => Sys2Proof.Machine.execAlignComplete p a s
  | .stepTimerExpire p a => Sys2Proof.Machine.execStepTimerExpire p a s
  | .pwmPeriod p a m => Sys2Proof.Machine.execPwmPeriod p a m s
  | .holdDelayExpire p a holdFirmNow => Sys2Proof.Machine.execHoldDelayExpire p a holdFirmNow s
  | .legOvercurrent p a legs => Sys2Proof.Machine.execLegOvercurrent p a legs s
  | .bootstrapUndervoltage p a leg => Sys2Proof.Machine.execBootstrapUndervoltage p a leg s
  | .vgateUndervoltage p => Sys2Proof.Machine.execVgateUndervoltage p s
  | .vbusOvervoltage p => Sys2Proof.Machine.execVbusOvervoltage p s
  | .axMclrClrDuty p a => Sys2Proof.Machine.execAxMclrClrDuty p a s
  | .axMclrClrVmin p a => Sys2Proof.Machine.execAxMclrClrVmin p a s
  | .quadEdge p a qa qb => Sys2Proof.Machine.execQuadEdge p a qa qb s
  | .indexEvent p a illegalNow => Sys2Proof.Machine.execIndexEvent p a illegalNow s
  | .hallCodeChange p a code => Sys2Proof.Machine.execHallCodeChange p a code s
  | .ssiRequest p a datHigh => Sys2Proof.Machine.execSsiRequest p a datHigh s
  | .ssiFrameComplete p a f => Sys2Proof.Machine.execSsiFrameComplete p a f s
  | .sincosSample p a sin cos => Sys2Proof.Machine.execSincosSample p a sin cos s
  | .observerUpdate p a => Sys2Proof.Machine.execObserverUpdate p a s
  | .stillTimeout p a edgeNow => Sys2Proof.Machine.execStillTimeout p a edgeNow s
  | .fbSetposWrite p a v => Sys2Proof.Machine.execFbSetposWrite p a v s
  | .fbClrRearmIdx p a => Sys2Proof.Machine.execFbClrRearmIdx p a s
  | .fbClrRmin p a => Sys2Proof.Machine.execFbClrRmin p a s
  | .fbClrCnt p a => Sys2Proof.Machine.execFbClrCnt p a s
  | .fbCmpctlWrite p a v => Sys2Proof.Machine.execFbCmpctlWrite p a v s
  | .fbCmpvalWrite p a v => Sys2Proof.Machine.execFbCmpvalWrite p a v s
  | .feedbackDetectionComplete p found => Sys2Proof.Machine.execFeedbackDetectionComplete p found s
  | .lineInvalidTimeout p a line => Sys2Proof.Machine.execLineInvalidTimeout p a line s
  | .hallInvalidTimeout p a => Sys2Proof.Machine.execHallInvalidTimeout p a s
  | .monitorTick p d => Sys2Proof.Machine.execMonitorTick p d s
  | .monitorInjectionTest p allReported => Sys2Proof.Machine.execMonitorInjectionTest p allReported s
  | .adcCrossCheck p r => Sys2Proof.Machine.execAdcCrossCheck p r s
  | .tableCrcCheck p upset => Sys2Proof.Machine.execTableCrcCheck p upset s
  | .monitorSelftestComplete p pass => Sys2Proof.Machine.execMonitorSelftestComplete p pass s
  | .analogEdgeSample p e code => Sys2Proof.Machine.execAnalogEdgeSample p e code s
  | .progressTimeout p a => Sys2Proof.Machine.execProgressTimeout p a s
  | .safeStopSettleTimeout p a => Sys2Proof.Machine.execSafeStopSettleTimeout p a s
  | .torqueReadbackTimeout p a => Sys2Proof.Machine.execTorqueReadbackTimeout p a s
  | .safeStopRestEnd p => Sys2Proof.Machine.execSafeStopRestEnd p s
  | .lockoutClrLocal p => Sys2Proof.Machine.execLockoutClrLocal p s
  | .obLearnWrite p w => Sys2Proof.Machine.execObLearnWrite p w s
  | .adcFrame p codes => Sys2Proof.Machine.execAdcFrame p codes s
  | .digitalVectorSample p => Sys2Proof.Machine.execDigitalVectorSample p s
  | .digitalWordKeepalive p => Sys2Proof.Machine.execDigitalWordKeepalive p s
  | .acqGroupEnable g w => Sys2Proof.Machine.execAcqGroupEnable g w s
  | .acqGroupRearm g => Sys2Proof.Machine.execAcqGroupRearm g s
  | .acqForceWrite groups => Sys2Proof.Machine.execAcqForceWrite groups s
  | .triggerArrival g t => Sys2Proof.Machine.execTriggerArrival g t s
  | .triggerCommit g => Sys2Proof.Machine.execTriggerCommit g s
  | .autoTriggerExpire g => Sys2Proof.Machine.execAutoTriggerExpire g s
  | .dspanExpire g => Sys2Proof.Machine.execDspanExpire g s
  | .measurementComplete g slot => Sys2Proof.Machine.execMeasurementComplete g slot s
  | .acqRdselWrite w refillNow => Sys2Proof.Machine.execAcqRdselWrite w refillNow s
  | .storeScrub single double => Sys2Proof.Machine.execStoreScrub single double s
  | .misrWindowEnd pr w => Sys2Proof.Machine.execMisrWindowEnd pr w s
  | .fingerprintCompare d => Sys2Proof.Machine.execFingerprintCompare d s
  | .lockCtlSwap key => Sys2Proof.Machine.execLockCtlSwap key s
  | .lockCtlClearInfault key => Sys2Proof.Machine.execLockCtlClearInfault key s
  | .pairAwlComplete r xFail => Sys2Proof.Machine.execPairAwlComplete r xFail s
  | .inputSample p raw => Sys2Proof.Machine.execInputSample p raw s
  | .openWireSet p n => Sys2Proof.Machine.execOpenWireSet p n s
  | .openWireClear p n => Sys2Proof.Machine.execOpenWireClear p n s
  | .inputOvertemp p n => Sys2Proof.Machine.execInputOvertemp p n s
  | .inputCurrentMeasure p cur => Sys2Proof.Machine.execInputCurrentMeasure p cur s
  | .switchEpisodeStart p n => Sys2Proof.Machine.execSwitchEpisodeStart p n s
  | .switchEpisodeSuccess p n => Sys2Proof.Machine.execSwitchEpisodeSuccess p n s
  | .switchTepExpire p n rose => Sys2Proof.Machine.execSwitchTepExpire p n rose s
  | .switchJunctionOvertemp p n rose => Sys2Proof.Machine.execSwitchJunctionOvertemp p n rose s
  | .switchRetryDue p n hot => Sys2Proof.Machine.execSwitchRetryDue p n hot s
  | .shortRetryEnd p n rose => Sys2Proof.Machine.execShortRetryEnd p n rose s
  | .switchOlOffTimer p n => Sys2Proof.Machine.execSwitchOlOffTimer p n s
  | .switchUcTimer p n => Sys2Proof.Machine.execSwitchUcTimer p n s
  | .budgetEvaluate p loss current => Sys2Proof.Machine.execBudgetEvaluate p loss current s
  | .budgetRestore p => Sys2Proof.Machine.execBudgetRestore p s
  | .sensorSupplyOverload p k => Sys2Proof.Machine.execSensorSupplyOverload p k s
  | .sensorSupplyRetry p k => Sys2Proof.Machine.execSensorSupplyRetry p k s
  | .soPulseStart p o => Sys2Proof.Machine.execSoPulseStart p o s
  | .soPulseEnd p o => Sys2Proof.Machine.execSoPulseEnd p o s
  | .soPulseCheckTimeout p o c offNow => Sys2Proof.Machine.execSoPulseCheckTimeout p o c offNow s
  | .soStuck p o => Sys2Proof.Machine.execSoStuck p o s
  | .soOvercurrent p o => Sys2Proof.Machine.execSoOvercurrent p o s
  | .soOpenLoad p o => Sys2Proof.Machine.execSoOpenLoad p o s
  | .vfldWarn p => Sys2Proof.Machine.execVfldWarn p s
  | .vfldHold p => Sys2Proof.Machine.execVfldHold p s
  | .vfldUv p => Sys2Proof.Machine.execVfldUv p s
  | .vfldStateRecover p => Sys2Proof.Machine.execVfldStateRecover p s
  | .switchRestoreStep p => Sys2Proof.Machine.execSwitchRestoreStep p s
  | .vholdLowPor p => Sys2Proof.Machine.execVholdLowPor p s
  | .portalLogicPorRelease p => Sys2Proof.Machine.execPortalLogicPorRelease p s
  | .vswLowSet p => Sys2Proof.Machine.execVswLowSet p s
  | .vswLowClear p => Sys2Proof.Machine.execVswLowClear p s
  | .curtainHelloRsp p k bytes => Sys2Proof.Machine.execCurtainHelloRsp p k bytes s
  | .curtainHelloTimeout p k => Sys2Proof.Machine.execCurtainHelloTimeout p k s
  | .curtainRenegotiate p k => Sys2Proof.Machine.execCurtainRenegotiate p k s
  | .curtainBeamFrame p k bytes => Sys2Proof.Machine.execCurtainBeamFrame p k bytes s
  | .curtainLostTimeout p k => Sys2Proof.Machine.execCurtainLostTimeout p k s
  | .canBusIntegrated c => Sys2Proof.Machine.execCanBusIntegrated c s
  | .canFrameReceived c f => Sys2Proof.Machine.execCanFrameReceived c f s
  | .canTxAttemptStart c => Sys2Proof.Machine.execCanTxAttemptStart c s
  | .canTxAttemptEnd c e => Sys2Proof.Machine.execCanTxAttemptEnd c e s
  | .canAloneProbe c => Sys2Proof.Machine.execCanAloneProbe c s
  | .canAutoRecoveryExpire c => Sys2Proof.Machine.execCanAutoRecoveryExpire c s
  | .canRecoveryComplete c => Sys2Proof.Machine.execCanRecoveryComplete c s
  | .canCmdRecover c key => Sys2Proof.Machine.execCanCmdRecover c key s
  | .canCmdTxreq c key obj => Sys2Proof.Machine.execCanCmdTxreq c key obj s
  | .canCmdAbort c key obj => Sys2Proof.Machine.execCanCmdAbort c key obj s
  | .canXcmdRead c obj => Sys2Proof.Machine.execCanXcmdRead c obj s
  | .canXcmdWrite c obj send => Sys2Proof.Machine.execCanXcmdWrite c obj send s
  | .canObjectConfigWrite c obj word v => Sys2Proof.Machine.execCanObjectConfigWrite c obj word v s
  | .spiRead r => Sys2Proof.Machine.execSpiRead r s
  | .spiWrite r => Sys2Proof.Machine.execSpiWrite r s
  | .spiStatus r => Sys2Proof.Machine.execSpiStatus r s
  | .spiRepeat r => Sys2Proof.Machine.execSpiRepeat r s
  | .timeCmdStep key => Sys2Proof.Machine.execTimeCmdStep key s
  | .nelzilHelloPeriodic ch => Sys2Proof.Machine.execNelzilHelloPeriodic ch s
  | .nelzilHelloReceived ch node payload => Sys2Proof.Machine.execNelzilHelloReceived ch node payload s
  | .nelzilPeerAgeOut ch node => Sys2Proof.Machine.execNelzilPeerAgeOut ch node s
  | .nelzilSettleExpire ch => Sys2Proof.Machine.execNelzilSettleExpire ch s
  | .nelzilFdCapExpire ch => Sys2Proof.Machine.execNelzilFdCapExpire ch s
  | .nelzilNodeClashExpire ch => Sys2Proof.Machine.execNelzilNodeClashExpire ch s
  | .stateCmdReceived ch node payload safe => Sys2Proof.Machine.execStateCmdReceived ch node payload safe s
  | .passwordMsgReceived ch node payload => Sys2Proof.Machine.execPasswordMsgReceived ch node payload s
  | .passwordPartsTimeout ch => Sys2Proof.Machine.execPasswordPartsTimeout ch s
  | .portalCmdReceived ch node payload => Sys2Proof.Machine.execPortalCmdReceived ch node payload s
  | .timeSyncReceived c node payload stamp => Sys2Proof.Machine.execTimeSyncReceived c node payload stamp s
  | .timeSyncMasterSend c => Sys2Proof.Machine.execTimeSyncMasterSend c s
  | .receiveFlagStale f ch => Sys2Proof.Machine.execReceiveFlagStale f ch s
  | .mailboxTxGo w => Sys2Proof.Machine.execMailboxTxGo w s
  | .emmcCommandComplete info => Sys2Proof.Machine.execEmmcCommandComplete info s
  | .journalFlushDue log => Sys2Proof.Machine.execJournalFlushDue log s
  | .scrubRead erased => Sys2Proof.Machine.execScrubRead erased s
  | .traceSegmentCopy g slot => Sys2Proof.Machine.execTraceSegmentCopy g slot s
  | .archCmdFlush key => Sys2Proof.Machine.execArchCmdFlush key s
  | .archCmdScrubNow key => Sys2Proof.Machine.execArchCmdScrubNow key s
  | .archCmdReinit key => Sys2Proof.Machine.execArchCmdReinit key s
  | .archCmdFormat key => Sys2Proof.Machine.execArchCmdFormat key s
  | .archCmdLoad key => Sys2Proof.Machine.execArchCmdLoad key s
  | .archCmdFind key tsel => Sys2Proof.Machine.execArchCmdFind key tsel s
  | .tallyImageChecked r => Sys2Proof.Machine.execTallyImageChecked r s
  | .tallySelfCrc upset => Sys2Proof.Machine.execTallySelfCrc upset s
  | .tallySealingComplete r drawn => Sys2Proof.Machine.execTallySealingComplete r drawn s
  | .tallyCurtainEvent p f => Sys2Proof.Machine.execTallyCurtainEvent p f s
  | .tallyCycleMark m => Sys2Proof.Machine.execTallyCycleMark m s
  | .tallyWindowClose p => Sys2Proof.Machine.execTallyWindowClose p s
  | .tallyTrackEnd p => Sys2Proof.Machine.execTallyTrackEnd p s
  | .tallyRecordSigned p => Sys2Proof.Machine.execTallyRecordSigned p s
  | .tallyHostResetClose portals => Sys2Proof.Machine.execTallyHostResetClose portals s
  | .dieTempMeasure p t => Sys2Proof.Machine.execDieTempMeasure p t s
  | .portalDieOvertemp p => Sys2Proof.Machine.execPortalDieOvertemp p s
  | .registerWrite addr v raced => Sys2Proof.Machine.execRegisterWrite addr v raced s
  | .canReceiveError c e => Sys2Proof.Machine.execCanReceiveError c e s
  | .linkError p side lane twinValid => Sys2Proof.Machine.execLinkError p side lane twinValid s
  | .inputOvertempEnd p n => Sys2Proof.Machine.execInputOvertempEnd p n s
  | .switchJunctionCooled p n => Sys2Proof.Machine.execSwitchJunctionCooled p n s
  | .vgateRestored p => Sys2Proof.Machine.execVgateRestored p s
  | .curtainFrameDiscarded p k => Sys2Proof.Machine.execCurtainFrameDiscarded p k s
  | .nelzilMappedMessageReceived ch node msg payload => Sys2Proof.Machine.execNelzilMappedMessageReceived ch node msg payload s
  | .porRelease => Sys2Proof.Machine.execPorRelease s
  | .resetNAssert => Sys2Proof.Machine.execResetNAssert s
  | .resetNRelease => Sys2Proof.Machine.execResetNRelease s
  | .flashDiscoveryComplete => Sys2Proof.Machine.execFlashDiscoveryComplete s
  | .imageReadComplete => Sys2Proof.Machine.execImageReadComplete s
  | .signatureVerified => Sys2Proof.Machine.execSignatureVerified s
  | .fabricConfigured => Sys2Proof.Machine.execFabricConfigured s
  | .portalDownloadComplete => Sys2Proof.Machine.execPortalDownloadComplete s
  | .psmArmTimeout => Sys2Proof.Machine.execPsmArmTimeout s
  | .dormantEntryComplete => Sys2Proof.Machine.execDormantEntryComplete s
  | .offEntryComplete => Sys2Proof.Machine.execOffEntryComplete s
  | .referenceLost => Sys2Proof.Machine.execReferenceLost s
  | .wakePin => Sys2Proof.Machine.execWakePin s
  | .passwordComputeComplete => Sys2Proof.Machine.execPasswordComputeComplete s
  | .passwordHoldoffEnd => Sys2Proof.Machine.execPasswordHoldoffEnd s
  | .zsDiscrepancyTimer => Sys2Proof.Machine.execZsDiscrepancyTimer s
  | .plannedSwapDeadline => Sys2Proof.Machine.execPlannedSwapDeadline s
  | .graftTimeout => Sys2Proof.Machine.execGraftTimeout s
  | .spiAbort => Sys2Proof.Machine.execSpiAbort s
  | .timeLoRead => Sys2Proof.Machine.execTimeLoRead s
  | .tsyncEdge => Sys2Proof.Machine.execTsyncEdge s
  | .tsyncOutputPulse => Sys2Proof.Machine.execTsyncOutputPulse s
  | .doorStatusPeriodic => Sys2Proof.Machine.execDoorStatusPeriodic s
  | .linesPeriodic => Sys2Proof.Machine.execLinesPeriodic s
  | .timeSyncLost => Sys2Proof.Machine.execTimeSyncLost s
  | .mailboxRxRemove => Sys2Proof.Machine.execMailboxRxRemove s
  | .archiveInitStart => Sys2Proof.Machine.execArchiveInitStart s
  | .emmcCmd1Timeout => Sys2Proof.Machine.execEmmcCmd1Timeout s
  | .emmcCommandFail => Sys2Proof.Machine.execEmmcCommandFail s
  | .tallyPor => Sys2Proof.Machine.execTallyPor s
  | .tallySealSwitch => Sys2Proof.Machine.execTallySealSwitch s
  | .tallyCarouselAdvance => Sys2Proof.Machine.execTallyCarouselAdvance s

end Sys2Proof.Machine
end

