-- ==== Sys2Proof/Machine/Pins.lean ====
section
/-! DEFINITION. The output lands as functions of the state (R25, R40, R210, R342, R350, R352, R371, R375, R378, R405, R410, R412, R493). -/

namespace Sys2Proof.Machine

/-- POR or RESET_N holds the host die. -/
def State.inReset (s : State) : Bool := s.psm.porHeld || s.psm.resetLow

/-- FAULT_N: low from POR until fuse load completes, and in FUSE_FAIL and SAFE (R40, R493). -/
def State.faultN (s : State) : Bool :=
  !s.inReset &&
    (match s.psm.state with
      | .fuseFail | .safe => false
      | .boot => s.psm.step != .por && s.psm.step != .fuseLoad
      | _ => true)

/-- HIRQ_N with its pull-up (R410, R493). -/
def State.hirqN (s : State) : Bool := s.inReset || s.irqPend == 0

/-- CANx_STB (R378); standby while the host die is held (R493). -/
def State.canStb (s : State) (c : CanId) : Bool := s.inReset || (s.can c).standby

/-- CANx_TXD for a bit of the controller's own stream, which is high where recessive: recessive in every state and mode that does not drive it, and while
the host die is held (R371, R375, R493). -/
def State.canTxd (s : State) (c : CanId) (bit : Bool) : Bool := bit || s.inReset || !(s.can c).drives

/-- A frame received without error is acknowledged: the ACK bit is driven dominant, not in bus monitoring mode (R375). -/
def State.canAcks (s : State) (c : CanId) : Bool := !s.canTxd c false

/-- P<p>_FLT_N: low while a lock-out is latched, in FAULT, and in logic POR (R210, R493). -/
def PortalState.fltN (P : PortalState) : Bool := !P.por && P.ob.lockCause == 0 && P.cls != .fault

/-- OUT0 to OUT7 (R342, R493). -/
def PortalState.outOn (P : PortalState) (n : Fin 8) : Bool := !P.por && (P.switches.get n).on

/-- SOA and SOB, off for the length of a pulse (R25, R352, R493). -/
def PortalState.soOn (P : PortalState) (o : SoId) : Bool := !P.por && (P.sos.so o).on && !(P.sos.so o).pulse

/-- SS0 to SS3 (R350, R493). -/
def PortalState.ssOut (P : PortalState) (k : Fin 4) : Bool := !P.por && P.supply.ssOn.getLsbD k.val && !P.supply.ssOvl.getLsbD k.val

/-! ### Lands while a die is held (R493) -/

/-- What stands on a land: driven to a level, high impedance, pulled up by 50 kΩ inside the part, pulled down passively, off, or receiving with its driver
off. -/
inductive Land where
  | driven (high : Bool)
  | floating
  | pulledUp
  | pulledDown
  | off
  | receiving
  deriving DecidableEq, Repr

/-- The output lands of the host die, as R493 groups them. -/
inductive HostLand where
  | faultN
  | hirqN
  | hrdy
  | hmiso
  | canTxd
  | canStb
  | xspiCsN
  | emmcRstN
  | other
  deriving DecidableEq, Repr

/-- The output lands of a portal die, as R493 groups them. -/
inductive PortalLand where
  | gate
  | output
  | safetyOutput
  | sensorSupply
  | ssiClk
  | fltN
  | curtain
  deriving DecidableEq, Repr

/-- A host land while POR or RESET_N holds the host die; none while the die runs. -/
def State.heldLand (s : State) (l : HostLand) : Option Land :=
  if !s.inReset then none
  else some (match l with
    | .faultN | .hrdy => .driven false
    | .hirqN | .hmiso | .other => .floating
    | .canTxd | .canStb | .xspiCsN | .emmcRstN => .pulledUp)

/-- A portal land in logic POR; none while the die runs. -/
def PortalState.heldLand (P : PortalState) (l : PortalLand) : Option Land :=
  if !P.por then none
  else some (match l with
    | .gate => .pulledDown
    | .output | .safetyOutput | .sensorSupply => .off
    | .ssiClk => .floating
    | .fltN => .driven false
    | .curtain => .receiving)

end Sys2Proof.Machine
end

