-- ==== Sys2Proof/WellFormed.lean ====
section
/-! DEFINITION. Which operands a command can carry: the sizes and reserved fields that the manual gives the frames, records and requests
that reach the block. `exec` answers for every command, well formed or not; what is refused here is no physical input. -/

namespace Sys2Proof

/-- A fuse cell of an existing logical bit of its record: data bits and the 32 bits of the check word (R53, R97). -/
def CellRead.wf (r : CellRead) : Bool := decide (r.bit < Machine.recSize r.rcd + 32)

/-- A delay-register bit fits LOCK_AWLLANE (R289). -/
def AwlRun.wf (r : AwlRun) : Bool :=
  match r.delayBit with
  | some b => decide (b < 4294967296)
  | none => true

/-- Discovery works in 1S-1S-1S at 25 MHz (R55): the device answers there, and its declared clock fits its field. -/
def FlashDevice.wf (d : FlashDevice) : Bool := decide (d.maxMhz < 256) && (!d.sfdpOk || d.modes.getLsbD 0)

/-- A source on the host port has no node. -/
def CmdSource.wf (x : CmdSource) : Bool := x.ch != .host || x.node == 0

/-- An EVENT frame carries five argument words (R306); AXIS is 0 to 3, and the byte of the curtain port has only bit 0 (R465). -/
def EventFrame.wf (f : EventFrame) : Bool := decide (f.args.length ≤ 5) && decide (f.axis.toNat ≤ 3) && decide (f.port.toNat ≤ 1)

/-- A CONFIG frame carries at most 256 bytes of DATA (R308). -/
def ConfigFrame.wf (f : ConfigFrame) : Bool := decide (f.data.length ≤ 256)

/-- A SAMPLE frame: CONTENT has three bits, and says what the frame carries (R307). -/
def SampleFrame.wf (f : SampleFrame) : Bool :=
  decide (f.content.toNat < 8) && decide (f.analog.length ≤ 16) && decide (f.derived.length ≤ 3) && decide (f.digital.length ≤ 2) &&
    (f.content.getLsbD 0 || f.analog.isEmpty) && (f.content.getLsbD 1 || f.derived.isEmpty) && (f.content.getLsbD 2 || f.digital.isEmpty)

/-- A CAN frame: a standard identifier stands in [28:18]; CAN FD has no remote frames; the payload has the length that DLC gives (R380, R381). -/
def CanFrame.wf (f : CanFrame) : Bool :=
  (f.ide || f.ident &&& 0x3FFFF == 0) && (!f.fdf || !f.rtr) && (f.fdf || (!f.brs && !f.esi)) &&
    f.data.length == (if f.rtr then 0 else Machine.dlcLen f.fdf f.dlc.toNat)

/-- A host-port request: LENGTH bytes of payload with WRITE, none with any other command (R400). -/
def SpiRequest.wf (r : SpiRequest) : Bool := if r.cmd = 2 then 4 * r.payload.length == r.length.toNat else r.payload.isEmpty

/-- A Nelzil payload is that of one CAN FD frame at most (R414). -/
def payloadWf (l : List Byte) : Bool := decide (l.length ≤ 64)

/-- A frame of a curtain is at most 26 bytes long (R364). -/
def curtainWf (l : List Byte) : Bool := decide (l.length ≤ 26)

/-- Words of the capture store: multiples of 4 below 4 MiB (R246, R247). -/
def storeWf (l : List Nat) : Bool := l.all fun a => decide (a % 4 = 0) && decide (a < 4194304)

/-- Blocks of a stripe: 0 to 17 (R456). -/
def stripeWf (l : List Nat) : Bool := l.all fun k => decide (k < 18)

/-- A command's operands are ones that can occur. -/
def Instr.wf : Instr → Bool
  | .fuseLoadComplete reads => reads.all CellRead.wf
  | .awlTestComplete p c _ => p.wf && c.wf
  | .flashReady (some d) => d.wf
  | .psmCmdArm src _ => src.wf
  | .psmCmdBadExec src _ => src.wf
  | .executeService src _ => src.wf
  | .executeStandby src _ => src.wf
  | .executeDormant src _ => src.wf
  | .executeMaintain src _ => src.wf
  | .executeSelftestDevice src _ => src.wf
  | .executeSelftestPair src _ => src.wf
  | .executeOff src _ => src.wf
  | .deviceSelftestComplete p c _ _ => p.wf && c.wf
  | .dormantReturnComplete p c _ _ => p.wf && c.wf
  | .pairAwlComplete r _ => r.wf
  | .eventFrameReceived _ _ f => f.wf
  | .sampleFrameReceived _ _ f => f.frame.wf
  | .configRead _ _ f => f.wf
  | .configWrite _ _ f => f.wf
  | .configDlChunk _ _ f => f.wf
  | .configDlEnd _ _ f _ => f.wf
  | .configReadbackAck _ _ f _ => f.wf
  | .configTest _ _ f _ => f.wf
  | .configAnswerReceived _ _ f => f.wf
  | .curtainHelloRsp _ _ l => curtainWf l
  | .curtainBeamFrame _ _ l => curtainWf l
  | .canFrameReceived _ f => f.word.wf
  | .spiRead r => r.wf
  | .spiWrite r => r.wf
  | .spiStatus r => r.wf
  | .spiRepeat r => r.wf
  | .nelzilHelloReceived _ _ l => payloadWf l
  | .stateCmdReceived _ _ l _ => payloadWf l
  | .passwordMsgReceived _ _ l => payloadWf l
  | .portalCmdReceived _ _ l => payloadWf l
  | .timeSyncReceived _ _ l _ => payloadWf l
  | .nelzilMappedMessageReceived _ _ _ l => payloadWf l
  | .storeScrub a b => storeWf a && storeWf b
  | .scrubRead e => stripeWf e
  | .tallyCurtainEvent _ f => f.word.wf
  | _ => true

end Sys2Proof
end

