-- ==== Sys2Proof/Safety.lean ====
section
/-! DEFINITION. The terms in which claims are stated: a command that runs, what a command may touch, and the conditions that every step keeps. -/

namespace Sys2Proof.Machine

/-- Command `c` answers a next state, and `Q` holds of it. -/
def Runs (c : Instr) (s : State) (Q : State → Prop) : Prop := ∃ t, exec c s = .next t ∧ Q t

/-- A portal die on which nothing is outstanding that would follow any command on it: its logic is not held in POR; it is in FAULT already or has no trip
latched (R170); no outcome of a link loss waits for a stop (R322); and no local lock-out reset counts its 2 s (R231). -/
def PortalState.calm (P : PortalState) : Prop :=
  P.por = false ∧ (P.cls = .fault ∨ ∀ a, (P.axes.get a).trip = false) ∧ P.link.outcomeWaits = false ∧ P.ob.lclrCount = false

/-- What `P` was to report for GL_EVT is what `X` was, or has gone with a STATE frame (R305). -/
def GlEvtSent (X P : PortalState) : Prop := P.link.glEvt = X.link.glEvt ∨ P.link.glEvt = 0

/-- `P` is the portal die `X` but for the frames that it has put on its link. -/
def UpToFrames (X P : PortalState) : Prop :=
  P = { X with link := { X.link with glEvt := P.link.glEvt, fin := { X.link.fin with outbox := P.link.fin.outbox, txSeq := P.link.fin.txSeq } } } ∧
    GlEvtSent X P

/-- `P` is the portal die `X` but for its end of the link: the frames it has put there, and the SEQs it has accepted. -/
def UpToLinkEnd (X P : PortalState) : Prop := P = { X with link := { X.link with glEvt := P.link.glEvt, fin := P.link.fin } } ∧ GlEvtSent X P

/-- `P` is the portal die `X` but for the frames that it has put on its link and the EVENT frames that wait for it (R300). -/
def UpToEvents (X P : PortalState) : Prop :=
  P = { X with link := { X.link with fin := { X.link.fin with outbox := P.link.fin.outbox, txSeq := P.link.fin.txSeq }, glEvt := P.link.glEvt,
                                     evtTimes := P.link.evtTimes, evtQueue := P.link.evtQueue } } ∧
    GlEvtSent X P

/-- The change log of `Y` is that of `X` with one more entry in front, of these contents (R109, R110). -/
def Logged (X : SecState) (tag new : Word) (result source : Nat) (Y : SecState) : Prop :=
  ∃ e : LogEntry, Y.log = (e :: X.log).take 1024 ∧ e.tag = tag ∧ e.oldCrc = 0 ∧ e.newCrc = new ∧ e.seq = X.nextSeq ∧
    e.result = BitVec.ofNat 8 result ∧ e.source = BitVec.ofNat 8 source

/-- Nothing but switch channel `n` differs, and the retries that wait on other channels. -/
def OnlySwitch (n : Fin 8) (P Q : PortalState) : Prop :=
  UpToFrames { P with switches := Q.switches } Q ∧ ∀ k, k ≠ n → Q.switches.get k = { (P.switches.get k) with retry := (Q.switches.get k).retry }

/-- HRDY is high exactly where the part can take a request (R405). -/
def State.PortReady (s : State) : Prop := s.port.hrdy = s.ready

/-- Nothing but portal die `p` differs. -/
def OnlyPortal (p : PortalId) (s t : State) : Prop := t = { s with portals := t.portals } ∧ ∀ q, q ≠ p → t.portals.get q = s.portals.get q

/-- Command `c` answers a next state in which nothing but portal die `p` differs, and `Q` holds of that die. -/
def RunsPortal (p : PortalId) (c : Instr) (s : State) (Q : PortalState → Prop) : Prop :=
  ∃ t, exec c s = .next t ∧ OnlyPortal p s t ∧ Q (t.portals.get p)

/-- Nothing but portal die `p` and the frames on their way to it differs. -/
def OnlyPortalAndFrames (p : PortalId) (s t : State) : Prop :=
  t = { s with portals := t.portals, links := t.links } ∧ (∀ q, q ≠ p → t.portals.get q = s.portals.get q ∧ t.links.get q = s.links.get q) ∧
    t.links.get p = { s.links.get p with fin := { (s.links.get p).fin with outbox := (t.links.get p).fin.outbox } }

/-- Some lane of link `p` is under background retraining at one of its sides (R311). -/
def State.retraining (s : State) (p : PortalId) : Prop := ((s.links.get p).fin.retrain ||| (s.portals.get p).link.fin.retrain) ≠ 0

/-- Nothing but portal die `p` and its link differs, the host side of which has at most taken lanes into the link again (R311). -/
def OnlyPortalAndLanes (p : PortalId) (s t : State) : Prop :=
  t = { s with portals := t.portals, links := t.links } ∧ (∀ q, q ≠ p → t.portals.get q = s.portals.get q ∧ t.links.get q = s.links.get q) ∧
    ∃ m, t.links.get p = { s.links.get p with
      evt := raise (s.links.get p).evt 4, fin := { (s.links.get p).fin.rejoin m with outbox := (t.links.get p).fin.outbox } }

/-- Command `c` answers a next state in which nothing but portal die `p` and the frames on their way to it differs, and `Q` holds of that die. -/
def RunsFrame (p : PortalId) (c : Instr) (s : State) (Q : PortalState → Prop) : Prop :=
  ∃ t, exec c s = .next t ∧ OnlyPortalAndFrames p s t ∧ Q (t.portals.get p)

/-- Nothing but the acquisition store, its interrupt, HRDY and the count of free values differs. -/
def OnlyAcq (s t : State) : Prop :=
  t = { s with acq := t.acq, irqStat := t.irqStat, port := { s.port with hrdy := t.port.hrdy }, freeCtr := t.freeCtr }

/-- Nothing but the archive, its interrupt and HRDY differs. -/
def OnlyArch (s t : State) : Prop := t = { s with arch := t.arch, irqStat := t.irqStat, port := { s.port with hrdy := t.port.hrdy } }

/-- Nothing but the tally island and HRDY differs: the island raises no interrupt (R409). -/
def OnlyTally (s t : State) : Prop := t = { s with tally := t.tally, port := { s.port with hrdy := t.port.hrdy } }

/-- Nothing but device time, its interrupt, HRDY and the count of free values differs. -/
def OnlyTime (s t : State) : Prop :=
  t = { s with time := t.time, irqStat := t.irqStat, port := { s.port with hrdy := t.port.hrdy }, freeCtr := t.freeCtr }

/-- A controller is `c` but for what the message engine may do to it at the same moment: objects, the abort report, flags of CAN_EVT that rise, and
the count of broken FD frames. -/
def CanIs (c d : CanState) : Prop :=
  d = { c with objects := d.objects, abort := d.abort, evt := d.evt, fdRun := d.fdRun } ∧ ∀ i, wbit c.evt i = true → wbit d.evt i = true

/-- Nothing but the controllers, the message engine with the kernel's answers and summaries that it takes up, interrupts, HRDY and the count of
free values differs. -/
def OnlyCan (s t : State) : Prop :=
  t = { s with cans := t.cans, nelz := t.nelz, seq := { s.seq with results := t.seq.results, summaries := t.seq.summaries },
               irqStat := t.irqStat, port := { s.port with hrdy := t.port.hrdy }, freeCtr := t.freeCtr }

/-- No access of the host port waits, and no CAN controller stands before the fall-back of R421. -/
def State.engineCalm (s : State) : Prop := s.port.pending = none ∧ ∀ c, (s.can c).fdRun < 2

/-- The message engine has nothing to send and nothing to give up, and no access of the host port waits. -/
def State.engineIdle (s : State) : Prop :=
  s.port.pending = none ∧ (∀ ch, (s.chan ch).waiting = [] ∧ (s.chan ch).followUp = none) ∧ s.nelz.answers = [] ∧ s.seq.results = [] ∧
    s.seq.summaries = [] ∧ ∀ c, (s.can c).fdRun < 2 ∧ ∀ i, i < 8 → s.unfit (canChan c) c i = false

/-- The message engine takes message `msg` from `node` on channel `ch` (R415, R420, R422). -/
def State.hears (s : State) (ch : Channel) (node : BitVec 6) (msg : Nat) (payload : List Byte) : Prop :=
  s.nelzOn ch = true ∧ node ≠ 0 ∧ s.nelzCfg.takes msg payload.length = true ∧ (msg = 0 ∨ s.nelzCfg.excluded (s.chan ch).peers node = false)

/-- The curtain frame that part `f` of an EVENT completes on its port, whose earlier parts are `held`: how many parts it came in, and its bytes (R465). -/
def frameOf (held : Option PartFrame) (f : EventFrame) : Option (Nat × List Byte) :=
  let b := slice (wordBytes f.args) 0 20
  match held with
  | none => if f.parts = 0x10 then some (1, slice b 0 15) else none
  | some x => if f.parts = 0x21 ∧ x.total = 2 ∧ x.held = 1 then some (2, slice (x.bytes ++ b) 0 26) else none

/-- No flag of IRQ_STAT falls. -/
def IrqKept (s t : State) : Prop := ∀ i, wbit s.irqStat i = true → wbit t.irqStat i = true

/-- The two memories of the device are in canonical form: the configuration flash and the eMMC medium. -/
def State.MemoriesWf (s : State) : Prop := cellsWf 0xFF s.harn.flash = true ∧ cellsWf 0 s.arch.medium = true

/-- An access of the host port waits for no portal die. -/
abbrev State.portFree (s : State) : Prop := s.port.pending = none

/-- An arm word of a target with a scope is pending for source `src`, at most 10 ms old: the execute word that may follow it comes from a source that
may send, with no transition and no access of the host port under way (R46 to R48). -/
def State.armedFor (s : State) (src : CmdSource) (tgt scope : Nat) : Prop :=
  s.maySend src = true ∧ s.portFree ∧ s.psm.busy = none ∧
    ∃ a : Arm, s.psm.arm = some a ∧ a.word = armWordOf tgt scope ∧ sameSource src a.src = true ∧ s.clock - a.at_ ≤ 10000000

end Sys2Proof.Machine

namespace Sys2Proof

/-- The portal die on which a command happens, for the commands that happen on one portal die and carry no frame. -/
def Instr.portalDie : Instr → Option PortalId
  | .lowrateLockSample p _ => some p
  | .portalHarnessTick p _ => some p
  | .portalHarnessTimerExpire p _ => some p
  | .motionRunProfile p _ => some p
  | .motionControlledStop p _ => some p
  | .motionDisable p _ => some p
  | .orderShutdown p => some p
  | .orderLowRate p => some p
  | .orderLockoutReset p => some p
  | .orderClearFault p => some p
  | .keeperExpire p => some p
  | .timeFreeTimeout p => some p
  | .stateFramePeriodic p => some p
  | .holdWindowExpire p => some p
  | .limpNAssert p => some p
  | .limpNRelease p => some p
  | .bootstrapPrechargeEnd p _ => some p
  | .alignComplete p _ => some p
  | .stepTimerExpire p _ => some p
  | .pwmPeriod p _ _ => some p
  | .holdDelayExpire p _ _ => some p
  | .legOvercurrent p _ _ => some p
  | .bootstrapUndervoltage p _ _ => some p
  | .vgateUndervoltage p => some p
  | .vbusOvervoltage p => some p
  | .axMclrClrDuty p _ => some p
  | .axMclrClrVmin p _ => some p
  | .quadEdge p _ _ _ => some p
  | .indexEvent p _ _ => some p
  | .hallCodeChange p _ _ => some p
  | .ssiRequest p _ _ => some p
  | .ssiFrameComplete p _ _ => some p
  | .sincosSample p _ _ _ => some p
  | .observerUpdate p _ => some p
  | .stillTimeout p _ _ => some p
  | .fbSetposWrite p _ _ => some p
  | .fbClrRearmIdx p _ => some p
  | .fbClrRmin p _ => some p
  | .fbClrCnt p _ => some p
  | .fbCmpctlWrite p _ _ => some p
  | .fbCmpvalWrite p _ _ => some p
  | .feedbackDetectionComplete p _ => some p
  | .lineInvalidTimeout p _ _ => some p
  | .hallInvalidTimeout p _ => some p
  | .monitorTick p _ => some p
  | .monitorInjectionTest p _ => some p
  | .adcCrossCheck p _ => some p
  | .tableCrcCheck p _ => some p
  | .monitorSelftestComplete p _ => some p
  | .analogEdgeSample p _ _ => some p
  | .progressTimeout p _ => some p
  | .safeStopSettleTimeout p _ => some p
  | .torqueReadbackTimeout p _ => some p
  | .safeStopRestEnd p => some p
  | .lockoutClrLocal p => some p
  | .obLearnWrite p _ => some p
  | .adcFrame p _ => some p
  | .digitalVectorSample p => some p
  | .digitalWordKeepalive p => some p
  | .inputSample p _ => some p
  | .openWireSet p _ => some p
  | .openWireClear p _ => some p
  | .inputOvertemp p _ => some p
  | .inputCurrentMeasure p _ => some p
  | .switchEpisodeStart p _ => some p
  | .switchEpisodeSuccess p _ => some p
  | .switchTepExpire p _ _ => some p
  | .switchJunctionOvertemp p _ _ => some p
  | .switchRetryDue p _ _ => some p
  | .shortRetryEnd p _ _ => some p
  | .switchOlOffTimer p _ => some p
  | .switchUcTimer p _ => some p
  | .budgetEvaluate p _ _ => some p
  | .budgetRestore p => some p
  | .sensorSupplyOverload p _ => some p
  | .sensorSupplyRetry p _ => some p
  | .soPulseStart p _ => some p
  | .soPulseEnd p _ => some p
  | .soPulseCheckTimeout p _ _ _ => some p
  | .soStuck p _ => some p
  | .soOvercurrent p _ => some p
  | .soOpenLoad p _ => some p
  | .vfldWarn p => some p
  | .vfldHold p => some p
  | .vfldUv p => some p
  | .vfldStateRecover p => some p
  | .switchRestoreStep p => some p
  | .vholdLowPor p => some p
  | .vswLowSet p => some p
  | .vswLowClear p => some p
  | .curtainHelloRsp p _ _ => some p
  | .curtainHelloTimeout p _ => some p
  | .curtainRenegotiate p _ => some p
  | .curtainBeamFrame p _ _ => some p
  | .curtainLostTimeout p _ => some p
  | .dieTempMeasure p _ => some p
  | .portalDieOvertemp p => some p
  | .inputOvertempEnd p _ => some p
  | .switchJunctionCooled p _ => some p
  | .vgateRestored p => some p
  | .curtainFrameDiscarded p _ => some p
  | _ => none

/-- The portal die that a command delivers a frame to. -/
def Instr.deliveredTo : Instr → Option PortalId
  | .commandReceived p _ _ _ _ => some p
  | .keeperReceived p _ _ => some p
  | .timeFrameReceived p _ _ => some p
  | .configRead p _ _ => some p
  | .configWrite p _ _ => some p
  | .configDlChunk p _ _ => some p
  | .configDlEnd p _ _ _ => some p
  | .configReadbackAck p _ _ _ => some p
  | .configTest p _ _ _ => some p
  | _ => none

/-- The controller on which a command of the CAN family acts. -/
def Instr.onController : Instr → Option CanId
  | .canBusIntegrated c => some c
  | .canFrameReceived c _ => some c
  | .canTxAttemptStart c => some c
  | .canTxAttemptEnd c _ => some c
  | .canAloneProbe c => some c
  | .canAutoRecoveryExpire c => some c
  | .canRecoveryComplete c => some c
  | .canCmdRecover c _ => some c
  | .canCmdTxreq c _ _ => some c
  | .canCmdAbort c _ _ => some c
  | .canXcmdRead c _ => some c
  | .canXcmdWrite c _ _ => some c
  | .canObjectConfigWrite c _ _ _ => some c
  | .canReceiveError c _ => some c
  | _ => none

end Sys2Proof
end

