-- ==== Sys2Proof/Certificates/Slice0/Obligations.lean ====
section
/-! DEFINITION. The statements for the provers. -/

open Sys2Proof Sys2Proof.Machine

/-- One step takes the command that has waited longest: it is `exec` of that command on the state with the queue's rest (the block's rule, in place of
a fetch). -/
def Obligations.StepTakesFrontCommand : Prop :=
  ∀ (s : State) (c : Instr) (rest : List Instr), s.pending = c :: rest → step s = exec c { s with pending := rest }

/-- With no command waiting one 25 MHz reference period passes (the model's choice, log entry 1): 40 ns on the model's clock, on device time where no
slew is under way, and on the time of every portal die whose logic runs, there at the rate that the trim gives (R312): with a trim of 0 it is 40 ns. -/
def Obligations.EmptyQueueIsOnePeriod : Prop :=
  ∀ s : State, s.pending = [] → s.portFree →
    ∃ t, step s = .next t ∧ t.pending = [] ∧ t.clock = s.clock + 40 ∧
      (s.inReset = false → s.time.slewLeft = 0 → s.time.slewRate = 0 → s.time.slewFrac = 0 → t.time.now = s.time.now + 40) ∧
      (s.inReset = true → t.time = s.time) ∧
      ∀ p, (s.portals.get p).por = false →
        let l := (s.portals.get p).link
        let n := l.timeFrac + 40 * (100000000 + l.trim).toNat
        (t.portals.get p).link.time = l.time + BitVec.ofNat 64 (n / 100000000) ∧ (t.portals.get p).link.timeFrac = n % 100000000 ∧
          (l.trim = 0 → l.timeFrac < 100000000 → (t.portals.get p).link.time = l.time + 40)

/-- No command stops the machine: each of them answers a next state on every state. -/
def Obligations.EveryCommandAnswersNext : Prop := ∀ (c : Instr) (s : State), ∃ t, exec c s = .next t

/-- Values that the spec gives at reset, as the registers show them: IRQ_EN, TIME_CFG, PSM_WAKE_EN, PSM_GRANT, CMDSTAT words, OB_LEARN,
the drive states, FAULT_N and HRDY (R40, R405, R493). -/
def Obligations.ResetValues : Prop :=
  State.reset.pending = [] ∧ State.reset.irqRead 4 = some 1 ∧ State.reset.irqRead 0 = some 0 ∧ State.reset.timeRead 8 = some 0x3E8 ∧
    State.reset.psmRead 0x1C = some 0xF7 ∧ State.reset.psmRead 0x24 = some 0xC1 ∧ State.reset.psmRead 8 = some 0 ∧
    State.reset.psm.state = .boot ∧ State.reset.faultN = false ∧ State.reset.hirqN = true ∧ State.reset.port.hrdy = false ∧
    (∀ c, (State.reset.can c).ctl = .off ∧ (State.reset.can c).tec = 0) ∧
    ∀ p a, ((State.reset.portals.get p).axes.get a).drive = .torqueOff ∧ (State.reset.portals.get p).link.failsafe = true ∧
      (State.reset.portals.get p).ob.learn = 0x00080000

/-- HRDY is high exactly while the part can take a request (R405): every step keeps it so, from every state in which it holds. -/
def Obligations.EveryStepKeepsHrdy : Prop := ∀ s t : State, s.PortReady → step s = .next t → t.PortReady

/-- HRDY is as R405 says at reset. -/
def Obligations.HrdyAtReset : Prop := State.reset.PortReady

/-- A command of one portal die changes that die and nothing else: a portal die has no path to another or to the host die but its link (R33). While
its logic is held in POR it changes nothing at all. -/
def Obligations.PortalCommandsStayOnTheirDie : Prop :=
  ∀ (c : Instr) (p : PortalId) (s t : State), c.portalDie = some p → exec c s = .next t →
    OnlyPortal p s t ∧ ((s.portals.get p).por = true → t = s)

/-- A frame that reaches a portal die changes that die and the frames on their way to it; a TIME frame on a link with a lane under background retraining
may take that lane into the link again at both sides (R311). -/
def Obligations.DeliveredFramesStayOnTheirLink : Prop :=
  ∀ (c : Instr) (p : PortalId) (s t : State), c.deliveredTo = some p → exec c s = .next t →
    OnlyPortalAndFrames p s t ∨ (s.retraining p ∧ (∃ h d, c = .timeFrameReceived p h d) ∧ OnlyPortalAndLanes p s t)

/-- R52, R39, R41, R488: the host die held in POR starts with fuse load when POR is released, after RESET_N with PSM_BOOT.RST_PIN set; RESET_N low
and a host supply below its threshold bring it back to reset and leave every portal die and the eMMC medium as they are. -/
def Obligations.ResetAndReleaseOfHostDie : Prop :=
  (∀ s : State, s.psm.porHeld = true → s.psm.resetLow = false → s.portFree →
      Runs .porRelease s fun t => t.psm = { s.psm with porHeld := false, resetLow := false, step := .fuseLoad, boot := 0, bootFrom := s.clock }) ∧
  (∀ s : State, s.psm.porHeld = false → s.psm.resetLow = true → s.portFree →
      Runs .resetNRelease s fun t =>
        t.psm = { s.psm with porHeld := false, resetLow := false, step := .fuseLoad, boot := 0x80000000, bootFrom := s.clock }) ∧
  (∀ s : State, Runs .resetNAssert s fun t =>
      t.psm = { ({} : PsmState) with porHeld := s.psm.porHeld, resetLow := true } ∧ t.portals = s.portals ∧ t.harn = { flash := s.harn.flash } ∧
        t.arch.medium = s.arch.medium ∧ t.time = {} ∧ t.irqEn = 1 ∧ t.pending = s.pending) ∧
  (∀ (s : State) (r : HostRail), Runs (.hostSupplyUndervoltage r) s fun t =>
      t.psm = { ({} : PsmState) with resetLow := s.psm.resetLow } ∧ t.portals = s.portals ∧ t.harn = { flash := s.harn.flash } ∧
        t.arch.medium = s.arch.medium ∧ t.time = {} ∧ t.irqEn = 1 ∧ t.pending = s.pending)

/-- R53 to R55: fuse load, the awl test, the flash wait and discovery follow each other. A load that fails ends in FUSE_FAIL. Where Pommel passes the
awl it leads, where only Cantle does Cantle leads, and where neither does the part enters SAFE with NO_PAIR; a flash that answers in no mode brings
SAFE with NO_IMAGE. -/
def Obligations.StartUpToFlashDiscovery : Prop :=
  (∀ (s : State) (r : List CellRead), s.booting .fuseLoad = true → s.portFree → (s.fuse.load r).2 = true →
      Runs (.fuseLoadComplete r) s fun t => t.fuse = (s.fuse.load r).1 ∧ t.psm = { s.psm with step := .awl, phase := 2 } ∧
        ∀ i, (s.pair i).state ≠ .retired → (t.pair i).state = .test) ∧
  (∀ (s : State) (r : List CellRead), s.booting .fuseLoad = true → s.portFree → (s.fuse.load r).2 = false →
      Runs (.fuseLoadComplete r) s fun t => t.psm = { s.psm with state := .fuseFail } ∧ t.faultN = false) ∧
  (∀ (s : State) (p c : AwlRun) (x : Bool), s.booting .awl = true → s.portFree → (∀ i, (s.pair i).failedSince = false) →
      (s.pair .pommel).state ≠ .retired → awlPass p = true →
      Runs (.awlTestComplete p c x) s fun t =>
        t.psm.step = .flashWait ∧ t.psm.phase = 3 ∧ t.psm.state = .boot ∧ (t.pair .pommel).state = .lead ∧ (t.pair .pommel).admitted = true) ∧
  (∀ (s : State) (p c : AwlRun) (x : Bool), s.booting .awl = true → s.portFree → (∀ i, (s.pair i).failedSince = false) →
      (∀ i, (s.pair i).state ≠ .retired) → awlPass p = false →
      (awlPass c = true → Runs (.awlTestComplete p c x) s fun t => t.psm.step = .flashWait ∧ t.psm.phase = 3 ∧ t.psm.state = .boot ∧
        (t.pair .cantle).state = .lead ∧ (t.pair .cantle).admitted = true ∧ (t.pair .pommel).state = .failed ∧ (t.pair .pommel).admitted = false ∧
        wbit t.psm.boot 2 = true ∧ wbit t.psm.boot 3 = false) ∧
      (awlPass c = false → Runs (.awlTestComplete p c x) s fun t => t.psm.state = .safe ∧ wbit t.psm.safe (safeBit .noPair) = true ∧ t.faultN = false ∧
        ∀ i, (t.pair i).state = .stopped ∧ (t.pair i).admitted = false)) ∧
  (∀ (s : State) (d : Option FlashDevice), s.booting .flashWait = true → s.portFree →
      Runs (.flashReady d) s fun t => t.psm = { s.psm with flashDev := d, step := .discovery }) ∧
  (∀ (s : State) (d : FlashDevice) (x : Nat × Nat), s.booting .discovery = true → s.portFree → s.psm.flashDev = some d →
      settle s.harn.flash d = some x → d.readable.getLsbD x.1 = true →
      Runs .flashDiscoveryComplete s fun t => t.psm.step = .imageRead ∧ t.psm.phase = 4 ∧ t.psm.state = .boot ∧ t.psm.flashUp = some true ∧
        t.lock = s.lock ∧ t.portals = s.portals) ∧
  (∀ (s : State) (d : FlashDevice), s.booting .discovery = true → s.portFree → s.psm.flashDev = some d → settle s.harn.flash d = none →
      Runs .flashDiscoveryComplete s fun t => t.psm.state = .safe ∧ wbit t.psm.safe (safeBit .noImage) = true ∧ t.psm.flashUp = some false ∧ t.faultN = false)

/-- R57, R59, R84: the image that passes every check and whose signature holds is loaded and brought to the portals; one that fails, in its content or
its signature, makes way for B, and without either the part enters SAFE with NO_IMAGE. -/
def Obligations.ImageSelectionAndLoad : Prop :=
  (∀ (s : State) (g : Image), s.booting .imageRead = true → s.portFree → (checkContent s.harn.flash s.bootRegion).image = some g →
      Runs .imageReadComplete s fun t =>
        t.psm = { s.psm with step := .signature } ∧ t.harn = { s.harn with candidate := some g } ∧ t.portals = s.portals) ∧
  (∀ s : State, s.booting .imageRead = true → s.portFree → s.psm.phase = 4 → (checkContent s.harn.flash .a).image = none →
      Runs .imageReadComplete s fun t => t.psm.step = .imageRead ∧ t.psm.phase = 5 ∧ t.psm.state = .boot) ∧
  (∀ s : State, s.booting .imageRead = true → s.portFree → s.psm.phase = 5 → (checkContent s.harn.flash .b).image = none →
      Runs .imageReadComplete s fun t => t.psm.state = .safe ∧ wbit t.psm.safe (safeBit .noImage) = true ∧ t.faultN = false) ∧
  (∀ (s : State) (g : Image), s.booting .signature = true → s.portFree → s.harn.candidate = some g → g.signWhy s.harn.flash s.fuse = 0 →
      Runs .signatureVerified s fun t =>
        t.psm.step = .fabric ∧ t.psm.state = .boot ∧ t.harn.image = some g ∧ t.harn.verified = true ∧ t.harn.flash = s.harn.flash) ∧
  (∀ (s : State) (g : Image), s.booting .signature = true → s.portFree → s.harn.candidate = some g → g.signWhy s.harn.flash s.fuse ≠ 0 →
      (s.psm.phase = 4 → Runs .signatureVerified s fun t => t.psm.state = .boot ∧ t.psm.step = .imageRead ∧ t.psm.phase = 5 ∧ t.harn.image = s.harn.image ∧
        fget t.psm.boot 27 25 = g.signWhy s.harn.flash s.fuse % 8) ∧
      (s.psm.phase = 5 → Runs .signatureVerified s fun t => t.psm.state = .safe ∧ wbit t.psm.safe (safeBit .noImage) = true ∧ t.faultN = false ∧
        t.harn.image = s.harn.image ∧ fget t.psm.boot 24 22 = g.signWhy s.harn.flash s.fuse % 8)) ∧
  (∀ (s : State) (g : Image), s.booting .fabric = true → s.portFree → s.harn.image = some g →
      Runs .fabricConfigured s fun t => t.psm.step = .training ∧ t.psm.phase = 6 ∧ t.psm.state = .boot ∧ t.harn.image = some g) ∧
  (∀ s : State, s.booting .training = true → s.portFree → 0 < s.admittedPairs → s.harn.image.isSome = true →
      Runs .portalDownloadComplete s fun t => t.psm.state = .standby ∧ t.psm.step = .done ∧ t.psm.phase = 7 ∧
        t.psm.bootTime = BitVec.ofNat 32 ((s.clock - s.psm.bootFrom) / 1000) ∧ t.portals = s.portals)

/-- R46, R47, R73: an arm word that is well formed, granted and not in the way of another is held for the source that sent it; a word that is not the
complement of the arm, and 10 ms without one, cancel it with their reasons. -/
def Obligations.ArmingOfStateCommands : Prop :=
  (∀ (s : State) (src : CmdSource) (w : Word), s.maySend src = true → s.portFree → s.psm.arm = none → s.psm.busy = none → s.armWord w = true →
      s.granted src.ch (psmTarget w) = true →
      Runs (.psmCmdArm src w) s fun t => t.psm.arm = some { word := w, src := src, at_ := s.clock, seq := none } ∧ t.psm.state = s.psm.state ∧
        fget t.psm.cmdstat 27 24 = psmTarget w ∧ t.lock = s.lock ∧ t.portals = s.portals) ∧
  (∀ (s : State) (src : CmdSource) (w : Word), s.maySend src = true → s.portFree → s.psm.arm = none → s.psm.busy = none → s.armWord w = true →
      s.granted src.ch (psmTarget w) = false →
      Runs (.psmCmdArm src w) s fun t => t.psm.arm = none ∧ t.psm.state = s.psm.state ∧ wbit t.psm.cmdstat 30 = true ∧ fget t.psm.cmdstat 19 16 = 3) ∧
  (∀ (s : State) (a : Arm), s.psm.arm = some a → s.portFree →
      Runs .psmArmTimeout s fun t =>
        t.psm.arm = none ∧ t.psm.state = s.psm.state ∧ wbit t.psm.cmdstat 30 = true ∧ fget t.psm.cmdstat 19 16 = 1 ∧ t.portals = s.portals) ∧
  (∀ s : State, s.psm.arm = none → s.portFree → Runs .psmArmTimeout s fun t => t.psm = s.psm) ∧
  (∀ (s : State) (a : Arm) (w : Word), s.psm.arm = some a → s.clock - a.at_ ≤ 10000000 → s.maySend a.src = true → s.portFree → w ≠ ~~~a.word →
      Runs (.psmCmdBadExec a.src w) s fun t => t.psm.arm = none ∧ t.psm.state = s.psm.state ∧ wbit t.psm.cmdstat 30 = true ∧
        fget t.psm.cmdstat 19 16 = 2 ∧ t.portals = s.portals)

/-- R41, R44, R67: an execute word that follows its own arm within 10 ms carries out the transition whose guard holds, from every state that has the
transition. The transitions that need no time are complete with it; those to DORMANT and OFF, and the return from DORMANT, begin. -/
def Obligations.ExecuteWordsCarryOutTransitions : Prop :=
  let complete := fun (t : State) => t.psm.arm = none ∧ t.psm.busy = none ∧ wbit t.psm.cmdstat 31 = true
  (∀ (s : State) (src : CmdSource), s.armedFor src 5 0 → s.psm.state = .standby →
      s.admittedPairs = 2 ∨ (s.admittedPairs = 1 ∧ wbit s.psm.grant 24 = true) →
      Runs (.executeService src none) s fun t => t.psm.state = .service ∧ complete t ∧ t.portals = s.portals) ∧
  (∀ (s : State) (src : CmdSource), s.armedFor src 4 0 →
      (s.psm.state = .service ∧ s.anyMoving = false) ∨ (s.psm.state = .maintain ∧ s.harn.image.isSome = true ∧ s.harn.verified = true) →
      Runs (.executeStandby src none) s fun t => t.psm.state = .standby ∧ complete t ∧ t.portals = s.portals) ∧
  (∀ (s : State) (src : CmdSource), s.armedFor src 4 0 → s.psm.state = .dormant →
      Runs (.executeStandby src none) s fun t => t.psm.state = .dormant ∧ t.psm.arm = none ∧ t.psm.busy = some (.fromDormant src) ∧
        ∀ i, (s.pair i).state ≠ .retired → (t.pair i).state = .test) ∧
  (∀ (s : State) (src : CmdSource), s.armedFor src 3 0 → s.psm.state = .standby →
      Runs (.executeDormant src none) s fun t =>
        t.psm.state = .standby ∧ t.psm.arm = none ∧ t.psm.busy = some (.toDormant src s.clock) ∧ t.portals = s.portals) ∧
  (∀ (s : State) (src : CmdSource), s.armedFor src 6 0 → s.psm.state = .standby ∨ s.psm.state = .safe → 0 < s.admittedPairs →
      s.pwHeldBy src = true → s.sealLow = false →
      Runs (.executeMaintain src none) s fun t =>
        t.psm.state = .maintain ∧ complete t ∧ t.sec.held.chan src.ch = none ∧
          (s.psm.state = .safe → ∀ i, (s.pair i).state ≠ .retired → (t.pair i).state = .test)) ∧
  (∀ (s : State) (src : CmdSource), s.armedFor src 7 0 → s.psm.state = .standby ∨ s.psm.state = .safe →
      Runs (.executeSelftestDevice src none) s fun t => t.psm.state = .selftest ∧ t.psm.pairScope = false ∧ complete t ∧
        ∀ i, (s.pair i).state ≠ .retired → (t.pair i).state = .test) ∧
  (∀ (s : State) (src : CmdSource) (i : PairId), s.armedFor src 7 1 → s.psm.state = .service → s.lock.lead = some i →
      (s.pair i.other).admitted = false → (s.pair i.other).state ≠ .retired → (s.pair i.other).fails < 4 → (s.pair i).admitted = true →
      Runs (.executeSelftestPair src none) s fun t => t.psm.state = .selftest ∧ t.psm.pairScope = true ∧ complete t ∧
        (t.pair i.other).state = .test ∧ t.pair i = s.pair i ∧ ∃ g, t.lock.graft = some g ∧ g.pair = i.other ∧ g.step = 1 ∧ g.awlAt = s.clock) ∧
  (∀ (s : State) (src : CmdSource), s.armedFor src 0 0 →
      s.psm.state = .standby ∨ s.psm.state = .dormant ∨ s.psm.state = .maintain ∨ s.psm.state = .safe →
      Runs (.executeOff src none) s fun t => t.psm.state = s.psm.state ∧ t.psm.arm = none ∧ t.psm.busy = some (.toOff src s.clock) ∧ t.portals = s.portals)

/-- R42: an execute word that is accepted and whose guard is false changes no state; the refusal stands in PSM_CMDSTAT with the reason of the guard
that fails: portals in motion, no admitted pair, no password, a seal switch low, no verified image, no pair to test. R50: a fault that forces SAFE
in the same cycle comes first, and the command is discarded with PREEMPTED. -/
def Obligations.FalseGuardAndForcedSafeRefuseExecuteWord : Prop :=
  ∀ (s : State) (src : CmdSource) (at_ tgt scope : Nat), s.maySend src = true → s.portFree →
    s.psm.arm = some { word := armWordOf tgt scope, src := src, at_ := at_, seq := none } → s.clock - at_ ≤ 10000000 →
    ∀ e ∈ [(5, 0, Instr.executeService src), (4, 0, .executeStandby src), (3, 0, .executeDormant src), (6, 0, .executeMaintain src),
        (7, 0, .executeSelftestDevice src), (7, 1, .executeSelftestPair src), (0, 0, .executeOff src)], tgt = e.1 → scope = e.2.1 →
      let refused := fun (st : Psm) (why : Nat) (t : State) => t.psm.state = st ∧ t.psm.arm = none ∧ wbit t.psm.cmdstat 30 = true ∧
        fget t.psm.cmdstat 19 16 = why ∧ fget t.psm.cmdstat 27 24 = tgt ∧ fget t.psm.cmdstat 29 28 = chanCode src.ch
      (∀ why, hasTransition s.psm.state tgt scope = true →
        ((tgt = 5 ∧ s.admittedPairs = 0 ∧ why = 7) ∨ (tgt = 5 ∧ s.admittedPairs = 1 ∧ wbit s.psm.grant 24 = false ∧ why = 7) ∨
          (tgt = 4 ∧ s.psm.state = .service ∧ s.anyMoving = true ∧ why = 6) ∨
          (tgt = 4 ∧ s.psm.state = .maintain ∧ (s.harn.image = none ∨ s.harn.verified = false) ∧ why = 10) ∨
          (tgt = 6 ∧ s.admittedPairs = 0 ∧ why = 7) ∨
          (tgt = 6 ∧ 0 < s.admittedPairs ∧ s.pwHeldBy src = false ∧ why = 8) ∨
          (tgt = 6 ∧ 0 < s.admittedPairs ∧ s.pwHeldBy src = true ∧ s.sealLow = true ∧ why = 9) ∨
          (scope = 1 ∧ s.lock.lead = none ∧ why = 7) ∨
          (∃ i, scope = 1 ∧ s.lock.lead = some i ∧ (s.pair i).admitted = true ∧ (s.pair i.other).admitted = true ∧ why = 12)) →
        Runs (e.2.2 none) s fun t => refused s.psm.state why t ∧ t.psm.busy = s.psm.busy ∧ t.portals = s.portals ∧ t.lock = s.lock) ∧
      (∀ c, s.psm.state = .standby ∨ s.psm.state = .service ∨ s.psm.state = .maintain ∨ s.psm.state = .dormant →
        Runs (e.2.2 (some c)) s fun t => refused .safe 11 t ∧ wbit t.psm.safe (safeBit c) = true)

/-- R48, R51, R427: a word from a source other than the arming one, another channel or on CAN another node, is refused with BUSY whatever it holds, and the
pending arm stays with its time; so is an arm word while a transition is carried out. An arm word for a target without a transition from the
present state is refused with NO_TRANSITION and leaves no arm. -/
def Obligations.OtherSourceBusyAndUnknownTargetRefused : Prop :=
  ∀ (s : State) (src : CmdSource) (w : Word), s.maySend src = true → s.portFree →
    let refused := fun (why : Nat) (t : State) => t.psm.state = s.psm.state ∧ t.psm.busy = s.psm.busy ∧ wbit t.psm.cmdstat 30 = true ∧
      fget t.psm.cmdstat 19 16 = why ∧ fget t.psm.cmdstat 29 28 = chanCode src.ch ∧
      fget t.psm.cmdstat 15 0 = min 0xFFFF (fget s.psm.cmdstat 15 0 + 1) ∧ t.portals = s.portals ∧ t.lock = s.lock
    (∀ a : Arm, s.psm.arm = some a → s.clock - a.at_ ≤ 10000000 → src.ch ≠ a.src.ch ∨ (src.ch ≠ .host ∧ src.node ≠ a.src.node) →
      (∀ c ∈ [Instr.psmCmdArm src w, .psmCmdBadExec src w, .executeService src none, .executeStandby src none, .executeDormant src none,
          .executeMaintain src none, .executeSelftestDevice src none, .executeSelftestPair src none, .executeOff src none],
        Runs c s fun t => refused 5 t ∧ t.psm.arm = some a)) ∧
    (s.psm.arm = none → s.psm.busy.isSome = true → Runs (.psmCmdArm src w) s fun t => refused 5 t ∧ t.psm.arm = none) ∧
    (s.psm.arm = none → s.psm.busy = none → hasTransition s.psm.state (fget w 7 4) (fget w 3 3) = false →
      Runs (.psmCmdArm src w) s fun t => refused 4 t ∧ t.psm.arm = none)

/-- R44, R65, R63, R64, R66, R492: the transitions that take time complete, the device self-test ends in STANDBY, a lost reference forces SAFE, and wake
events are recorded in DORMANT and from the moment its entry begins. -/
def Obligations.TransitionsThatTakeTimeAndWake : Prop :=
  (∀ (s : State) (src : CmdSource) (at_ : Nat), s.psm.busy = some (.toDormant src at_) → s.flushOver at_ = true → s.portFree →
      Runs .dormantEntryComplete s fun t => t.psm.state = .dormant ∧ t.psm.busy = none ∧ wbit t.psm.cmdstat 31 = true ∧ t.acq = s.acq.shut ∧
        t.portals = s.portals) ∧
  (∀ (s : State) (src : CmdSource) (at_ : Nat), s.psm.busy = some (.toOff src at_) → s.flushOver at_ = true → s.portFree →
      Runs .offEntryComplete s fun t => t.psm.state = .off ∧ t.psm.busy = none ∧ t.portAlive = false ∧ t.port.hrdy = false ∧ t.portals = s.portals) ∧
  (∀ (s : State) (src : CmdSource) (p c : AwlRun) (x : Bool), s.psm.state = .dormant → s.psm.busy = some (.fromDormant src) → s.portFree →
      (∀ i, (s.pair i).failedSince = false) → (s.pair .pommel).state ≠ .retired → awlPass p = true →
      Runs (.dormantReturnComplete p c x true) s fun t => t.psm.state = .dormant ∧ t.psm.busy = some (.linksBack src) ∧
        t.lock.lead.isSome = true ∧ t.portals = s.portals ∧ ∀ q, (t.link q).phase = .training) ∧
  (∀ (s : State) (src : CmdSource), s.psm.busy = some (.linksBack src) → s.psm.state = .dormant →
      (∀ p, (s.link p).phase = .running ∨ (s.link p).phase = .down ∨ 10000000 ≤ s.clock - (s.link p).trainFrom) →
      s.backFromDormant.psm.state = .standby ∧ s.backFromDormant.psm.busy = none ∧ wbit s.backFromDormant.psm.cmdstat 31 = true) ∧
  (∀ (s : State) (p c : AwlRun) (x : Bool), s.psm.state = .selftest → s.psm.pairScope = false → s.portFree → (∀ i, (s.pair i).failedSince = false) →
      (s.pair .pommel).state ≠ .retired → awlPass p = true → s.harn.image.isSome = true →
      Runs (.deviceSelftestComplete p c x (.all false)) s fun t => t.psm.state = .standby ∧ (t.pair .pommel).state = .lead ∧ t.lock.actionReq = false) ∧
  (∀ s : State, s.inReset = false → s.psm.state = .standby ∨ s.psm.state = .service ∨ s.psm.state = .maintain → s.portFree →
      Runs .referenceLost s fun t => t.psm.state = .safe ∧ wbit t.psm.safe 4 = true ∧ t.faultN = false) ∧
  (∀ s : State, s.asleep = true → s.portFree → Runs .wakePin s fun t => t.psm = { s.psm with wake := raise s.psm.wake 0 } ∧ t.portals = s.portals) ∧
  (∀ s : State, s.asleep = false → s.portFree → Runs .wakePin s fun t => t.psm = s.psm) ∧
  (∀ (s : State) (c : CanId), s.asleep = true → (s.can c).standby = true → s.portFree →
      Runs (.wakeCan c) s fun t => wbit t.psm.wake (match c with
        | .a => 1
        | .b => 2) = true ∧ t.psm.state = s.psm.state ∧ t.portals = s.portals) ∧
  (∀ (s : State) (c : CanId), (s.can c).standby = false → s.portFree → Runs (.wakeCan c) s fun t => t.psm = s.psm)

/-- R402, R406, R407: STATUS answers with IRQ_PEND whatever ADDR holds, REPEAT with the stored response unchanged, and a transaction broken off counts
as an abort and keeps the stored response. Nothing else changes but the host port (and HP_ABORT with its interrupt). R402, R403, R404: a READ whose
words the host die serves, none of them a word whose read changes anything, answers with the words in ascending address order, status OK, and changes
nothing but the host port. -/
def Obligations.HostPortReadStatusRepeatAbort : Prop :=
  (∀ (s : State) (r : SpiRequest), s.portAlive = true → s.portFree → requestOk r = true → r.cmd = 3 → r.length = 0 →
      ∃ x : SpiResponse, x.status = 0 ∧ x.seq = r.seq ∧ x.data = [s.irqPend] ∧ x.failIdx = 0 ∧
        exec (.spiStatus r) s = .next { s with port := { s.port with answer := some x, stored := some x, hrdy := true } }) ∧
  (∀ (s : State) (r : SpiRequest) (x : SpiResponse), s.portAlive = true → s.portFree → requestOk r = true → r.cmd = 4 → r.length = 0 →
      s.port.stored = some x → exec (.spiRepeat r) s = .next { s with port := { s.port with answer := some x, hrdy := true } }) ∧
  (∀ s : State, s.portAlive = true → s.portFree →
      Runs .spiAbort s fun t => t.port.aborts = satInc s.port.aborts 0xFFFF ∧ t.port.stored = s.port.stored ∧
        wbit t.nelz.evt 18 = true ∧ t.portals = s.portals ∧ t.psm = s.psm) ∧
  (∀ (s : State) (r : SpiRequest) (v : Nat → Word), s.portAlive = true → s.portFree → requestOk r = true → r.cmd = 1 → reqMisaligned r = false →
    (∀ i, i < reqWords r → portalWord (reqAddr r i) = none ∧ s.serves (reqAddr r i) = true ∧ s.hostRead (reqAddr r i) = some (v i) ∧
      s.readEffect (reqAddr r i) = s) →
    ∃ x : SpiResponse, x.status = 0 ∧ x.seq = r.seq ∧ x.failIdx = 0 ∧ x.data = (List.range (reqWords r)).map v ∧
      exec (.spiRead r) s = .next { s with port := { s.port with answer := some x, stored := some x, hrdy := true } })

/-- R401, R402, R403, R407: a request whose CRC fails is answered with CRC and counted; an unknown command with BAD_CMD; a misaligned or over-long one
with ALIGN; one that begins while an access is outstanding with BUSY. None of them has any other effect than the answer. -/
def Obligations.HostPortRejections : Prop :=
  (∀ (s : State) (r : SpiRequest), s.portAlive = true → s.portFree → requestOk r = false → r.cmd = 2 →
      Runs (.spiWrite r) s fun t => (∃ x, t.port.answer = some x ∧ x.status = 1 ∧ x.data = []) ∧ t.port.stored = s.port.stored ∧
        t.port.crcErr = satInc s.port.crcErr 0xFFFF ∧ t.psm = s.psm ∧ t.portals = s.portals ∧ t.irqEn = s.irqEn) ∧
  (∀ (s : State) (r : SpiRequest), s.portAlive = true → s.portFree → requestOk r = true → r.cmd = 0 ∨ 4 < r.cmd.toNat →
      ∃ x : SpiResponse, x.status = 2 ∧ x.seq = r.seq ∧ x.data = [] ∧
        exec (.spiStatus r) s = .next { s with port := { s.port with answer := some x, stored := some x, hrdy := true } }) ∧
  (∀ (s : State) (r : SpiRequest), s.portAlive = true → s.portFree → requestOk r = true → r.cmd = 1 → reqMisaligned r = true →
      ∃ x : SpiResponse, x.status = 3 ∧ x.seq = r.seq ∧ x.data = [] ∧
        exec (.spiRead r) s = .next { s with port := { s.port with answer := some x, stored := some x, hrdy := true } }) ∧
  (∀ (s : State) (r : SpiRequest), s.portAlive = true → s.port.pending.isSome = true → requestOk r = true → r.cmd = 2 →
      ∃ x : SpiResponse, x.status = 8 ∧ x.seq = r.seq ∧ x.data = [] ∧
        exec (.spiWrite r) s = .next { s with port := { s.port with answer := some x, hrdy := false } }) ∧
  (∀ (s : State) (r : SpiRequest), s.portAlive = false → Runs (.spiWrite r) s fun t => t = { s with port := { s.port with hrdy := false } })

/-- R406: a WRITE whose SEQ and CRC equal those of the stored request is not carried out again: the stored response is the answer, marked REPEATED. -/
def Obligations.RepeatedWriteNotDoneTwice : Prop :=
  ∀ (s : State) (r : SpiRequest) (x : SpiResponse), s.portAlive = true → s.portFree → requestOk r = true → r.cmd = 2 →
    s.port.stored = some x → x.seq = r.seq → x.reqCrc = r.crc →
    exec (.spiWrite r) s = .next { s with port := { s.port with answer := some { x with flags := x.flags ||| 8 }, hrdy := true } }

/-- R402, R403, R404, R6: a WRITE of words that the host die serves does, word by word in ascending address order, what a write of each register does,
and answers with the status of the first word that failed and its place; nothing decodes an address outside every block of the map of R34, and what is
written there is discarded. R20: where the first word lies in a portal block, a link in link fault gives its status LINK_DOWN, and otherwise the word is
sent to the portal die, whose answer the transaction waits for with HRDY low. -/
def Obligations.WriteOfWords : Prop :=
  (∀ (s : State) (r : SpiRequest), s.portAlive = true → s.portFree → requestOk r = true → r.cmd = 2 → reqRejected r = 0 → s.repeated r = none →
      ((∀ i, i < reqWords r → portalWord (reqAddr r i) = none) →
        let run := (List.range (reqWords r)).foldl (fun (x : State × List Nat) i =>
          let w := x.1.writeWord (reqAddr r i) (r.payload.getD i 0) 0
          (w.state, x.2 ++ [w.status])) (s, [])
        run.1.portFree → Runs (.spiWrite r) s fun t =>
          (∃ x, t.port.answer = some x ∧ t.port.stored = some x ∧ x.seq = r.seq ∧ x.data = [] ∧
            x.status = BitVec.ofNat 8 ((run.2.find? fun k => decide (1 < k)).getD 0) ∧
            x.failIdx = BitVec.ofNat 8 (min 255 ((run.2.findIdx? fun k => decide (1 < k)).getD 0)) ∧ x.flags.getLsbD 1 = run.2.contains 1) ∧
          (s.sameTraffic run.1 = true → t = { run.1 with irqStat := t.irqStat, port := t.port }) ∧
          (run.1.psm.state = s.psm.state → OnlyCan run.1 { t with port := { run.1.port with hrdy := t.port.hrdy } }) ∧
          t.psm = run.1.psm ∧ t.acq = run.1.acq ∧ t.arch = run.1.arch ∧ t.irqEn = run.1.irqEn ∧ t.portals = run.1.portals ∧ t.sec = run.1.sec ∧
          t.lock = run.1.lock ∧ t.fuse = run.1.fuse ∧ t.links = run.1.links ∧ t.port.hrdy = t.ready) ∧
      (∀ p o, reqWords r = 1 → portalWord (reqAddr r 0) = some (p, o) →
        (s.serves (reqAddr r 0) = false → Runs (.spiWrite r) s fun t => t.portals = s.portals ∧ t.links = s.links ∧
          ∃ x, t.port.answer = some x ∧ x.status = 7) ∧
        (s.serves (reqAddr r 0) = true → (s.link p).up = false → Runs (.spiWrite r) s fun t => t.portals = s.portals ∧ t.links = s.links ∧
          ∃ x, t.port.answer = some x ∧ x.status = 5) ∧
        (s.serves (reqAddr r 0) = true → (s.link p).up = true → Runs (.spiWrite r) s fun t => t.portals = s.portals ∧ t.port.hrdy = false ∧
          (t.link p) = (s.link p).request [(.spiWrite, configFrame 2 (wnat o) 0 (leBytes 4 (r.payload.getD 0 0).toNat))] ∧
          ∃ x, t.port.pending = some x ∧ x.req = r ∧ x.index = 0))) ∧
  (∀ (s : State) (a : Nat) (v rc : Word), noBlock a = true → a % 4 = 0 → s.psm.state ≠ .off → s.writeWord a v rc = ⟨s, 1⟩ ∧ s.hostRead a = none)

/-- R6, R8: what a register write does to the flags of IRQ_STAT and to IRQ_EN, bit by bit: writing 1 clears a flag, writing 0 leaves it, and a flag that
the hardware sets in the same cycle reads 1 afterwards. -/
def Obligations.RegisterWriteFlags : Prop :=
  (∀ (s : State) (v raced : Word), s.portAlive = true → s.serves 0x3000 = true →
      exec (.registerWrite 0x3000 v raced) s =
        .next { s with irqStat := w1c s.irqStat v raced 0xFFFF, port := { s.port with hrdy := s.ready } } ∧
      ∀ i, wbit (w1c s.irqStat v raced 0xFFFF) i =
        if i < 16 then (wbit s.irqStat i && !wbit v i) || wbit raced i else wbit s.irqStat i) ∧
  (∀ (s : State) (v raced : Word), s.portAlive = true → s.serves 0x3004 = true →
      Runs (.registerWrite 0x3004 v raced) s fun t => t = { s with irqEn := t.irqEn, port := { s.port with hrdy := s.ready } } ∧
        ∀ i, wbit t.irqEn i = if i < 16 then wbit v i else wbit s.irqEn i) ∧
  (∀ (s : State) (v raced : Word), s.portAlive = true → s.serves 0x3008 = true →
      exec (.registerWrite 0x3008 v raced) s = .next { s with port := { s.port with hrdy := s.ready } })

/-- R20: a register write that lies in a portal block is made in the portal die whose link is up, and is discarded where the link is in fault. -/
def Obligations.RegisterWriteInPortalBlock : Prop :=
  ∀ (s : State) (addr v raced : Word) (p : PortalId) (o : Nat), s.portAlive = true → addr.toNat % 4 = 0 → portalWord addr.toNat = some (p, o) →
    s.serves addr.toNat = true →
    ((s.link p).up = false → exec (.registerWrite addr v raced) s = .next { s with port := { s.port with hrdy := s.ready } }) ∧
    ((s.link p).up = true → ((s.portals.get p).write s.clock p o v raced).portal.calm →
      Runs (.registerWrite addr v raced) s fun t =>
        UpToFrames ((s.portals.get p).write s.clock p o v raced).portal (t.portals.get p) ∧
          t = { s with portals := t.portals, port := { s.port with hrdy := s.ready } } ∧ ∀ q, q ≠ p → t.portals.get q = s.portals.get q)

/-- R412: a TSYNC edge captures device time to within 40 ns while TSYNC is an input; while it is an output, a pulse holds it high for
1 µs. R413, R6: TIME_CMD STEP sets device time to the target written and counts an EPOCH; it is refused while SYNCED (reason 2), and a wrong key is refused
first (reason 1). A refusal changes nothing of device time. R411: a read of TIME_LO latches the high word of the same instant, which TIME_HI then shows. -/
def Obligations.TsyncTimeLoReadAndTimeCmdStep : Prop :=
  (∀ s : State, s.portAlive = true → s.serves 0x2000 = true →
      Runs .timeLoRead s fun t =>
        t = { s with time := { s.time with hiLatch := BitVec.ofNat 32 (s.time.now.toNat / 4294967296) }, port := { s.port with hrdy := s.ready } } ∧
          t.timeRead 4 = some (BitVec.ofNat 32 (s.time.now.toNat / 4294967296)) ∧ t.timeRead 0 = s.timeRead 0) ∧
  (∀ s : State, s.inReset = false → s.time.tsyncOut = false →
      Runs .tsyncEdge s fun t => OnlyTime s t ∧ t.time = { s.time with cap := t.time.cap } ∧
        ∃ k, k ≤ 80 ∧ t.time.cap = s.time.now + BitVec.ofNat 64 k - 40) ∧
  (∀ s : State, s.inReset = false → s.time.tsyncOut = true →
      exec .tsyncEdge s = .next { s with port := { s.port with hrdy := s.ready } } ∧
      exec .tsyncOutputPulse s =
        .next { s with time := { s.time with tsyncUntil := s.clock + 1000 }, port := { s.port with hrdy := s.ready } }) ∧
  (∀ s : State, s.inReset = false → s.time.tsyncOut = false → Runs .tsyncOutputPulse s fun t => t.time = s.time) ∧
  (∀ s : State, s.portAlive = true → s.serves 0x2028 = true → s.portFree → s.time.synced = false →
      Runs (.timeCmdStep 0x71) s fun t => t.time.now = s.time.setHi ++ s.time.setLo ∧ t.time.epoch = s.time.epoch + 1 ∧ t.time.src = 3 ∧
        t.time.slewLeft = 0 ∧ t.time.stepPend = none ∧ wbit t.time.cmdstat 31 = true ∧ wbit t.nelz.evt 20 = true ∧ t.portals = s.portals) ∧
  (∀ (s : State) (key : Byte), s.portAlive = true → s.serves 0x2028 = true → key ≠ 0x71 ∨ s.time.synced = true →
      Runs (.timeCmdStep key) s fun t => OnlyTime s t ∧ t.time = { s.time with cmdstat := t.time.cmdstat } ∧ wbit t.time.cmdstat 30 = true ∧
        fget t.time.cmdstat 3 0 = if key ≠ 0x71 then 1 else 2)

/-- R419, R420, R422: a HELLO of an unknown node adds it to the table and dates the change, one with the part's own number brings NODE_CLASH, and a peer
silent for 3 s leaves the table. -/
def Obligations.NelzilPeerTable : Prop :=
  (∀ (s : State) (ch : Channel) (node : BitVec 6) (b : List Byte), s.engineCalm → s.hears ch node 0 b → node ≠ s.nodeNum →
      (s.chan ch).peers.any (fun q => q.node == node) = false →
      Runs (.nelzilHelloReceived ch node b) s fun t =>
        peerOf node b s.clock ∈ (t.chan ch).peers ∧ (∀ q ∈ (s.chan ch).peers, q ∈ (t.chan ch).peers) ∧
          (t.chan ch).peers.length = (s.chan ch).peers.length + 1 ∧ (t.chan ch).changedAt = s.clock ∧
          (ch = .canA → wbit t.nelz.evt 31 = true) ∧ (ch = .canB → wbit t.nelz.evt 30 = true)) ∧
  (∀ (s : State) (ch : Channel) (b : List Byte), s.engineCalm → s.hears ch s.nodeNum 0 b →
      Runs (.nelzilHelloReceived ch s.nodeNum b) s fun t =>
        (t.chan ch).clash = true ∧ ((s.chan ch).clash = false → wbit t.nelz.evt 25 = true) ∧ (t.chan ch).v = (s.chan ch).v) ∧
  (∀ (s : State) (ch : Channel) (node : BitVec 6), s.engineCalm → (s.chan ch).peers.any (fun q => q.node == node) = true →
      Runs (.nelzilPeerAgeOut ch node) s fun t =>
        (t.chan ch).peers = (s.chan ch).peers.filter (fun q => q.node != node) ∧ (t.chan ch).changedAt = s.clock ∧
          (ch = .canA → wbit t.nelz.evt 29 = true) ∧ (ch = .canB → wbit t.nelz.evt 28 = true)) ∧
  (∀ (s : State) (ch : Channel) (node : BitVec 6), s.engineCalm → (s.chan ch).peers.any (fun q => q.node == node) = false →
      Runs (.nelzilPeerAgeOut ch node) s fun t => t.nelz = s.nelz)

/-- R418, R420, R421, R422: HELLO goes out once a second on a CAN channel that the engine serves; a rise of V waits for 1 s without a change of the table;
the cap of R421 and a node clash end with their time. -/
def Obligations.NelzilVersionsAndHello : Prop :=
  (∀ (s : State) (ch : Channel), s.engineCalm → (s.chan ch).settling = true →
      Runs (.nelzilSettleExpire ch) s fun t => (t.chan ch).v = s.wantV ch ∧ (t.chan ch).settling = false ∧ (t.chan ch).peers = (s.chan ch).peers) ∧
  (∀ (s : State) (ch : Channel), (s.chan ch).settling = false → Runs (.nelzilSettleExpire ch) s fun t => t.nelz = s.nelz) ∧
  (∀ (s : State) (ch : Channel), s.engineCalm → (s.chan ch).fdCap = true →
      Runs (.nelzilFdCapExpire ch) s fun t =>
        (t.chan ch).fdCap = false ∧ (t.chan ch).v = s.nelzCfg.version (s.chan ch).peers (s.chanFd ch) false) ∧
  (∀ (s : State) (ch : Channel), s.engineCalm →
      Runs (.nelzilNodeClashExpire ch) s fun t => (t.chan ch).clash = false ∧ (t.chan ch).peers = (s.chan ch).peers ∧ (t.chan ch).v = (s.chan ch).v) ∧
  (∀ (s : State) (c : CanId), s.engineCalm → s.nelzOn (canChan c) = true → (s.chan (canChan c)).tooSoon s.clock = false → (s.can c).ctl ≠ .off →
      Runs (.nelzilHelloPeriodic (canChan c)) s fun t =>
        (t.chan (canChan c)).lastHello = some s.clock ∧ (t.chan (canChan c)).hseq = (s.chan (canChan c)).hseq + 1 ∧
          (t.chan (canChan c)).helloDue = false) ∧
  (∀ s : State, Runs (.nelzilHelloPeriodic .host) s fun t => t.nelz = s.nelz)

/-- R423, R424: on every CAN channel that the engine serves, with a settled version and no clash, DOOR_STATUS counts ALIVE up by one and LINES dates
itself, at least 2 ms after the one before. On any other channel nothing is counted. -/
def Obligations.NelzilStatusAndLines : Prop :=
  ∀ s : State, s.engineCalm →
    Runs .doorStatusPeriodic s (fun t => ∀ c, (t.chan (canChan c)).alive =
      if s.nelzOn (canChan c) = true ∧ (s.chan (canChan c)).clash = false ∧ (s.chan (canChan c)).v ≠ 0 then (s.chan (canChan c)).alive + 1
      else (s.chan (canChan c)).alive) ∧
    Runs .linesPeriodic s (fun t => ∀ c, (t.chan (canChan c)).linesAt =
      if s.nelzOn (canChan c) = true ∧ (s.chan (canChan c)).clash = false ∧ (s.chan (canChan c)).v ≠ 0 ∧
          (∀ x, (s.chan (canChan c)).linesAt = some x → 2000000 ≤ s.clock - x) then some s.clock
      else (s.chan (canChan c)).linesAt)

/-- R426, R428, R429, R430, R436: commands that come as messages. A STATE_CMD with a granted arm word arms its source; the first part of a password is held
until the others come, and dropped and answered when they do not; a granted PORTAL_CMD goes to the kernel; SAFE refuses it with CMD_REF. -/
def Obligations.NelzilCommands : Prop :=
  (∀ (s : State) (ch : Channel) (node : BitVec 6) (b : List Byte) (q : Byte), s.engineCalm → s.hears ch node 8 b → s.addressed ch b = true →
      b[1]? = some q → s.psm.arm = none → s.psm.busy = none → s.armWord (rdw b 2) = true → s.granted ch (psmTarget (rdw b 2)) = true →
      Runs (.stateCmdReceived ch node b none) s fun t =>
        t.psm.arm = some { word := rdw b 2, src := { ch := ch, node := node }, at_ := s.clock, seq := some q } ∧ t.psm.state = s.psm.state ∧
          t.portals = s.portals ∧ t.lock = s.lock) ∧
  (∀ (s : State) (ch : Channel) (node : BitVec 6) (b : List Byte), s.engineCalm → s.hears ch node 9 b → s.addressed ch b = true → b.length = 8 →
      rd8 b 1 / 16 < (rd8 b 1 % 16 + 1 + 5) / 6 → 1 < (rd8 b 1 % 16 + 1 + 5) / 6 → (s.chan ch).pwParts.all (fun x => x.node != node) = true →
      Runs (.passwordMsgReceived ch node b) s fun t =>
        (t.chan ch).pwParts = (s.chan ch).pwParts ++
          [{ node := node, len := rd8 b 1 % 16 + 1, at_ := s.clock, parts := [{ num := rd8 b 1 / 16, bytes := slice b 2 6 }] }] ∧ t.sec = s.sec) ∧
  (∀ (s : State) (ch : Channel) (x : PwParts) (r : List PwParts), s.engineCalm → (s.chan ch).pwParts = x :: r →
      Runs (.passwordPartsTimeout ch) s fun t => (t.chan ch).pwParts = r ∧ wbit t.nelz.evt 22 = true ∧ t.sec = s.sec) ∧
  (∀ (s : State) (ch : Channel), (s.chan ch).pwParts = [] → Runs (.passwordPartsTimeout ch) s fun t => t.nelz = s.nelz) ∧
  (∀ (s : State) (ch : Channel) (node : BitVec 6) (b : List Byte) (p : PortalId), s.engineCalm → s.hears ch node 10 b → s.addressed ch b = true →
      s.psm.state ≠ .safe → s.pcmdGranted ch (rd8 b 2) = true → s.kernelRuns = true → rd8 b 1 = p.val → s.seq.pcmd = none →
      Runs (.portalCmdReceived ch node b) s fun t => ∃ c, c.portal = p ∧ c.cmd = BitVec.ofNat 4 (rd8 b 2) ∧ c.msg = true ∧
        c.src = { ch := ch, node := node } ∧ (t.seq.pcmd = some c ∨ ∃ d l, s.seq.pcmdQueue = d :: l ∧ t.seq.pcmd = some d ∧ c ∈ t.seq.pcmdQueue)) ∧
  (∀ (s : State) (ch : Channel) (node : BitVec 6) (b : List Byte), s.engineCalm → s.hears ch node 10 b → s.addressed ch b = true → s.psm.state = .safe →
      Runs (.portalCmdReceived ch node b) s fun t => t.seq.pcmd = s.seq.pcmd ∧ t.seq.pcmdQueue = s.seq.pcmdQueue ∧ wbit t.nelz.evt 22 = true)

/-- R432: of the followed master the part keeps SYNC with its own stamp, and forms the offset at the FOLLOW_UP of the same pair; a master numbers its
pairs; 1 s without a pair loses synchronisation. -/
def Obligations.NelzilTimeSync : Prop :=
  (∀ (s : State) (c : CanId) (node : BitVec 6) (b : List Byte) (stamp : Dword), s.engineCalm → s.hears (canChan c) node 11 b →
      s.followed = some c → s.timeMaster (canChan c) = some node → node ≠ s.nodeNum → rd8 b 0 = 1 →
      Runs (.timeSyncReceived c node b stamp) s fun t =>
        t.time = { s.time with syncWait := some (c, node, b.getD 1 0, stamp) } ∧ t.portals = s.portals) ∧
  (∀ (s : State) (c : CanId) (node : BitVec 6) (b : List Byte) (own stamp : Dword), s.engineCalm → s.hears (canChan c) node 11 b →
      s.followed = some c → s.timeMaster (canChan c) = some node → node ≠ s.nodeNum → rd8 b 0 = 2 →
      s.time.syncWait = some (c, node, b.getD 1 0, own) →
      ((rd64 b 4 : Int) - (own.toNat : Int)).natAbs ≤ 1000000 →
      Runs (.timeSyncReceived c node b stamp) s fun t =>
        t.time.ofs = (rd64 b 4 : Int) - (own.toNat : Int) ∧ t.time.slewLeft = (rd64 b 4 : Int) - (own.toNat : Int) ∧ t.time.syncWait = none ∧
          t.time.lastPair = s.clock ∧ t.time.now = s.time.now ∧ t.time.epoch = s.time.epoch) ∧
  (∀ (s : State) (c : CanId), s.engineCalm → s.isMaster (canChan c) = true → (s.chan (canChan c)).followUp = none →
      Runs (.timeSyncMasterSend c) s fun t => t.time.seqOf c = s.time.seqOf c + 1 ∧ t.time.now = s.time.now ∧ t.portals = s.portals) ∧
  (∀ (s : State) (c : CanId), s.isMaster (canChan c) = false →
      exec (.timeSyncMasterSend c) s = .next { s with port := { s.port with hrdy := s.ready } }) ∧
  (∀ s : State, exec .timeSyncLost s =
      .next { s with time := { s.time with synced := false, goodPairs := 0 }, port := { s.port with hrdy := s.ready } })

/-- R439, R440: a message of the receive map sets its flags, a flag without its message for FRESH_MS is stale, and the mailbox takes what software
writes as a message of node HOST_NODE and gives up its oldest message when software removes it. -/
def Obligations.NelzilReceiveMapAndMailbox : Prop :=
  (∀ (s : State) (ch : Channel) (node : BitVec 6) (msg : BitVec 5) (b : List Byte), s.engineCalm → s.hears ch node msg.toNat b →
      Runs (.nelzilMappedMessageReceived ch node msg b) s fun t =>
        t.nelz.flags = s.nelz.flags.mapIdx (fun i x => match s.rxEntry i with
          | some e => if mapMatches e ch node msg.toNat b then x.take e ch b s.clock else x
          | none => x) ∧ t.psm = s.psm ∧ t.portals = s.portals) ∧
  (∀ (s : State) (f : Fin 64) (ch : Channel) (e : List Byte) (x : RxFlag), s.engineCalm → s.rxEntry f.val = some e → s.nelz.flags[f.val]? = some x →
      rd16 e 4 ≠ 0 → x.fresh.get (mapSlot e ch) = true →
      Runs (.receiveFlagStale f ch) s fun t => (∃ y, t.nelz.flags[f.val]? = some y ∧ y.fresh.get (mapSlot e ch) = false ∧ y.value = x.value) ∧
        wbit t.nelz.evt 21 = true) ∧
  (∀ (s : State) (f : Fin 64) (ch : Channel), s.rxEntry f.val = none → Runs (.receiveFlagStale f ch) s fun t => t.nelz = s.nelz) ∧
  (∀ (s : State) (w : Word), s.portAlive = true → s.serves 0x80140 = true → s.engineCalm → wbit w 31 = true → fget w 20 16 = 16 →
      s.hears .host (BitVec.ofNat 6 s.nelzCfg.hostNode) 16 (slice (wordBytes s.nelz.mbxTx) 0 (fget w 6 0)) →
      Runs (.mailboxTxGo w) s fun t =>
        t.nelz.flags = (s.mapTake .host (BitVec.ofNat 6 s.nelzCfg.hostNode) 16 (slice (wordBytes s.nelz.mbxTx) 0 (fget w 6 0))).nelz.flags ∧
          t.nelz.mbxTx = s.nelz.mbxTx) ∧
  (∀ (s : State) (w : Word), wbit w 31 = false → Runs (.mailboxTxGo w) s fun t => t.nelz = s.nelz) ∧
  (∀ s : State, s.portAlive = true → s.serves 0x801C0 = true → s.engineCalm →
      Runs .mailboxRxRemove s fun t => ∃ l, t.nelz.mbxRx = s.nelz.mbxRx.drop 1 ++ l)

/-- The frame of the commands of the CAN family (R370 to R397): beside the controllers they change at most the message engine that sends on them, with
the kernel's answers and summaries that it takes up, interrupts, HRDY and the count of free values; no flag of IRQ_STAT falls; the other
controller keeps its state, its counters and its registers. -/
def Obligations.CanCommandsFrame : Prop :=
  ∀ (i : Instr) (c : CanId) (s t : State), i.onController = some c → s.portFree → exec i s = .next t →
    OnlyCan s t ∧ IrqKept s t ∧ ∀ d, d ≠ c → CanIs (s.can d) (t.can d)

/-- R375, R376, R379: 11 recessive bits bring an integrating controller to ACTIVE; AR_MS or RECOVER start recovery from bus-off once, and its completion
brings ACTIVE with both error counters 0. A wrong key and a controller that is not bus-off refuse RECOVER. -/
def Obligations.CanStatesAndRecovery : Prop :=
  ∀ (s : State) (c : CanId), s.portFree →
    ((s.can c).ctl = .integrating → Runs (.canBusIntegrated c) s fun t => CanIs { s.can c with ctl := .active } (t.can c)) ∧
    ((s.can c).ctl ≠ .integrating → Runs (.canBusIntegrated c) s fun t => CanIs (s.can c) (t.can c)) ∧
    ((s.can c).ctl = .busOff → (s.can c).flag 3 = true → Runs (.canAutoRecoveryExpire c) s fun t =>
        CanIs { s.can c with ctl := .recovering, arPend := false, cnt := fInc (s.can c).cnt 23 16 } (t.can c)) ∧
    ((s.can c).ctl ≠ .busOff ∨ (s.can c).flag 3 = false → Runs (.canAutoRecoveryExpire c) s fun t => CanIs (s.can c) (t.can c)) ∧
    ((s.can c).ctl = .recovering → Runs (.canRecoveryComplete c) s fun t =>
        CanIs { s.can c with ctl := .active, tec := 0, rec_ := 0 } (t.can c) ∧ wbit (t.can c).evt 28 = true) ∧
    ((s.can c).ctl ≠ .recovering → Runs (.canRecoveryComplete c) s fun t => CanIs (s.can c) (t.can c)) ∧
    (s.portAlive = true → s.serves (canBase c) = true →
      ((s.can c).ctl = .busOff → Runs (.canCmdRecover c 0x6C) s fun t =>
        (t.can c).ctl = .recovering ∧ (t.can c).arPend = false ∧ wbit (t.can c).cmdstat 31 = true) ∧
      (∀ key, key ≠ 0x6C → Runs (.canCmdRecover c key) s fun t =>
        (t.can c).ctl = (s.can c).ctl ∧ wbit (t.can c).cmdstat 30 = true ∧ fget (t.can c).cmdstat 3 0 = 1) ∧
      ((s.can c).ctl ≠ .busOff → Runs (.canCmdRecover c 0x6C) s fun t =>
        (t.can c).ctl = (s.can c).ctl ∧ wbit (t.can c).cmdstat 30 = true ∧ fget (t.can c).cmdstat 3 0 = 2))

/-- R376, R377 (ISO 11898-1 for the steps of the counters): what errors and frames do to the error counters, and the states that follow. A receiver's error
adds 1 to REC (none for a bit error in an overload flag), 8 where a dominant bit follows its error flag, and 8 for each of what ISO 11898-1 counts besides; a
frame received without error takes 1 from a REC of at most 127. The steps of the counters are the model's choice, log entry 141 (PRESUMED), and so is
that a classical controller keeps out of a CAN FD frame, log entry 254 (PRESUMED). -/
def Obligations.CanReceiveCounters : Prop :=
  ∀ (s : State) (c : CanId), s.portFree → (s.can c).onLine = true →
    (∀ e : CanError, Runs (.canReceiveError c e) s fun t =>
      let r := (s.can c).rec_ + (if e.inOverload then 0 else 1) + (if e.dominantInFlag then 8 else 0) +
        8 * ((if (s.can c).ctl = .active then e.flagErrors else 0) + e.dominantRuns)
      (t.can c).rec_ = min r 255 ∧ (t.can c).tec = (s.can c).tec ∧ wbit (t.can c).evt 21 = true ∧
        (t.can c).ctl = (if 255 < (s.can c).tec then CanCtl.busOff else if 127 < (s.can c).tec ∨ 127 < r then .passive else .active)) ∧
    (∀ f : CanRx, f.nonCode = false → f.word.fdf = false ∨ (s.can c).fdEn = true → (s.can c).rec_ ≤ 127 → Runs (.canFrameReceived c f) s fun t =>
      (t.can c).rec_ = (s.can c).rec_ - 1 ∧ (t.can c).tec = (s.can c).tec ∧ (t.can c).alone = false ∧ (t.can c).ackRun = 0) ∧
    (∀ f : CanRx, f.nonCode = false → f.word.fdf = true → (s.can c).fdEn = false → Runs (.canFrameReceived c f) s fun t =>
      (t.can c).rec_ = (s.can c).rec_ ∧ (t.can c).tec = (s.can c).tec ∧ (t.can c).alone = (s.can c).alone ∧ (t.can c).cnt = (s.can c).cnt)

/-- R382, R384 to R386, R391, R395, R397: a frame is stored in the first object that accepts it, with NDAT and the time of its start of frame; a FIFO
head passes it to the member in turn, and one of which every member holds an untaken frame discards it; a frame that no object accepts is counted; an
object that reads with an uncorrectable error is put out of use; off the bus nothing is received. R18: a frame that crosses as a non-code word is
discarded and sets NONCODE. -/
def Obligations.CanFrameIntoObject : Prop :=
  ∀ (s : State) (c : CanId) (f : CanRx), s.engineIdle →
    (f.nonCode = false → f.upset = [] → f.word.fdf = false ∨ (s.can c).fdEn = true → (s.can c).ctl = .active → (s.can c).tec ≤ 127 → (s.can c).rec_ ≤ 127 →
      (∀ n o, ((s.can c).objects.find? fun x => (s.can c).accepts x.1 x.2 f.word) = some (n, o) → n < 128 → (s.can c).obj n = o →
        ((s.can c).bad.contains n = false → o.head = false →
          Runs (.canFrameReceived c f) s fun t =>
            ((t.can c).obj n).ndat = true ∧ ((t.can c).obj n).data = slice (if f.word.rtr then [] else f.word.data) 0 64 ∧
              ((t.can c).obj n).time = s.time.now - BitVec.ofNat 64 f.sofAgo ∧
              ((t.can c).obj n).cfg = o.cfg ∧ ((t.can c).obj n).id = o.id ∧ (o.ndat = true → wbit (t.can c).evt 24 = true)) ∧
        (∀ i, (s.can c).bad.contains n = false → o.head = true → o.own < 2 → o.fifoTurn = some i → n + i < 128 → (s.can c).bad.contains (n + i) = false →
          Runs (.canFrameReceived c f) s fun t =>
            ((t.can c).obj (n + i)).ndat = true ∧ ((t.can c).obj (n + i)).data = slice (if f.word.rtr then [] else f.word.data) 0 64 ∧
              ((t.can c).obj n).fifoHeld = o.fifoHeld ++ [i] ∧ ((t.can c).obj n).cfg = o.cfg ∧ (t.can c).cnt = (s.can c).cnt) ∧
        ((s.can c).bad.contains n = false → o.head = true → o.own < 2 → o.fifoTurn = none →
          Runs (.canFrameReceived c f) s fun t =>
            wbit ((t.can c).obj n).stat 30 = true ∧ wbit (t.can c).evt 24 = true ∧ (t.can c).cnt = fInc (s.can c).cnt 7 0 ∧
              ((t.can c).obj n).fifoHeld = o.fifoHeld ∧ ∀ k, k ≠ n → (t.can c).obj k = (s.can c).obj k) ∧
        ((s.can c).bad.contains n = true → ({ o with cfg := putBit o.cfg 31 false } : CanObject) ≠ {} →
          Runs (.canFrameReceived c f) s fun t =>
            ((t.can c).obj n).en = false ∧ wbit (t.can c).evt 22 = true ∧ fget (t.can c).abort 10 8 = 7 ∧ fget (t.can c).abort 6 0 = n)) ∧
      (((s.can c).objects.find? fun x => (s.can c).accepts x.1 x.2 f.word) = none →
        Runs (.canFrameReceived c f) s fun t => (t.can c).cnt = fInc (s.can c).cnt 15 8 ∧ (t.can c).objects = (s.can c).objects)) ∧
    (f.nonCode = false → f.upset = [] → (s.can c).onLine = false → (s.can c).ctl ≠ .integrating →
      Runs (.canFrameReceived c f) s fun t => t.can c = s.can c) ∧
    (f.nonCode = true → Runs (.canFrameReceived c f) s fun t => t.can c = { s.can c with evt := raise (s.can c).evt 20 })

/-- R388, R389, R395: an attempt starts with the object that wins, once its lifetime has not expired; it ends with the frame off the bus: TEC falls by 1
after a success, rises by 8 after an error of an active transmitter and by 8 for each of what ISO 11898-1 counts besides, stays after lost arbitration. While
ALONE the one attempt is the probe, and a frame that was acknowledged ends ALONE, also where an error follows. The steps of TEC are the model's choice, log
entry 141 (PRESUMED). -/
def Obligations.CanTransmitAttempts : Prop :=
  ∀ (s : State) (c : CanId), s.portFree → (s.can c).onLine = true → (s.can c).offDue = false →
    (∀ n, (s.can c).flag 2 = false → (s.can c).onBus = none → (s.can c).alone = false → (s.can c).nextTx = some n →
      (s.can c).bad.contains n = false → ((s.can c).obj n).expired s.clock = false →
      Runs (.canTxAttemptStart c) s fun t =>
        CanIs { s.can c with onBus := some (n, (s.can c).frameOf ((s.can c).obj n)), probeAt := s.clock, sof := s.time.now } (t.can c)) ∧
    ((s.can c).nextTx = none → Runs (.canTxAttemptStart c) s fun t => CanIs (s.can c) (t.can c)) ∧
    (∀ n, (s.can c).flag 2 = false → (s.can c).onBus = none → (s.can c).alone = true → (s.can c).nextTx = some n →
      (s.can c).bad.contains n = false → ((s.can c).obj n).expired s.clock = false →
      Runs (.canAloneProbe c) s fun t =>
        CanIs { s.can c with onBus := some (n, (s.can c).frameOf ((s.can c).obj n)), probeAt := s.clock, sof := s.time.now } (t.can c)) ∧
    ((s.can c).alone = false → Runs (.canAloneProbe c) s fun t => CanIs (s.can c) (t.can c)) ∧
    (∀ n f v, (s.can c).onBus = some (n, f) → Runs (.canTxAttemptEnd c (.success v)) s fun t =>
      (t.can c).onBus = none ∧ (t.can c).tec = (s.can c).tec - 1 ∧ (t.can c).alone = false ∧ (t.can c).ackRun = 0) ∧
    (∀ n f, (s.can c).onBus = some (n, f) → Runs (.canTxAttemptEnd c .lostArbitration) s fun t =>
      (t.can c).onBus = none ∧ (t.can c).tec = (s.can c).tec ∧ (t.can c).ctl = (s.can c).ctl) ∧
    (∀ n f e, (s.can c).onBus = some (n, f) → (s.can c).ctl = .active → ¬(e.kind = .stuff ∧ e.field = .arbitration) →
      Runs (.canTxAttemptEnd c (.error e)) s fun t =>
        (t.can c).onBus = none ∧ (t.can c).tec = (s.can c).tec + (if e.inOverload then 0 else 8) + 8 * (e.flagErrors + e.dominantRuns) ∧
          wbit (t.can c).evt 21 = true ∧ (CanError.acked e = true → e.kind ≠ .ack → (t.can c).alone = false)) ∧
    (∀ e, (s.can c).onBus = none → Runs (.canTxAttemptEnd c e) s fun t => CanIs (s.can c) (t.can c))

/-- R383, R385, R387, R389 to R391: the commands on message objects, with what they do to the object, and the refusals with their reasons. A READ clears
NDAT and MLST of the object read; of a FIFO head it delivers the oldest frame held, whose member it frees. -/
def Obligations.CanObjectCommands : Prop :=
  ∀ (s : State) (c : CanId) (n : BitVec 7), s.engineIdle → s.portAlive = true → s.serves (canBase c) = true →
    (∀ key, (s.can c).sendWhy key n.toNat = 0 → Runs (.canCmdTxreq c key n) s fun t =>
      ((t.can c).obj n.toNat).txreq = true ∧ ((t.can c).obj n.toNat).reqAt = s.clock ∧ wbit (t.can c).cmdstat 31 = true) ∧
    (∀ key, (s.can c).sendWhy key n.toNat ≠ 0 → Runs (.canCmdTxreq c key n) s fun t =>
      (t.can c).objects = (s.can c).objects ∧ wbit (t.can c).cmdstat 30 = true ∧ fget (t.can c).cmdstat 3 0 = (s.can c).sendWhy key n.toNat) ∧
    (∀ key, (s.can c).sendWhy key n.toNat = 0 → ((s.can c).obj n.toNat).txreq = true → (s.can c).sending n.toNat = false →
      Runs (.canCmdAbort c key n) s fun t =>
        ((t.can c).obj n.toNat).txreq = false ∧ wbit (t.can c).evt 25 = true ∧ wbit (t.can c).cmdstat 31 = true) ∧
    (∀ key, (s.can c).sendWhy key n.toNat = 0 → ((s.can c).obj n.toNat).txreq = true → (s.can c).sending n.toNat = true →
      Runs (.canCmdAbort c key n) s fun t =>
        ((t.can c).obj n.toNat).txreq = true ∧ ((t.can c).obj n.toNat).abortAfter = true ∧ wbit (t.can c).cmdstat 31 = true) ∧
    (∀ o, (s.can c).obj n.toNat = o → (s.can c).bad.contains n.toNat = false →
      (o.head = false ∨ o.fifoHeld = [] → (s.can c).headOf n.toNat = none → Runs (.canXcmdRead c n) s fun t =>
        (t.can c).xb = o.words ∧ wbit (t.can c).xstat 30 = true ∧
          (o.cfg ≠ 0 → (t.can c).obj n.toNat = { o with stat := putBit (putBit o.stat 31 false) 30 false })) ∧
      (∀ h, o.head = false → (s.can c).headOf n.toNat = some h → h < n.toNat → ((s.can c).obj h).cfg ≠ 0 → o.cfg ≠ 0 → Runs (.canXcmdRead c n) s fun t =>
        (t.can c).xb = o.words ∧ wbit (t.can c).xstat 30 = true ∧ ((t.can c).obj n.toNat).ndat = false ∧
          ((t.can c).obj h).fifoHeld = ((s.can c).obj h).fifoHeld.erase (n.toNat - h)) ∧
      (∀ i r, o.head = true → o.fifoHeld = i :: r → n.toNat + i < 128 → (s.can c).bad.contains (n.toNat + i) = false →
        ((s.can c).obj (n.toNat + i)).cfg ≠ 0 → Runs (.canXcmdRead c n) s fun t =>
        (t.can c).xb = ((s.can c).obj (n.toNat + i)).words ∧ wbit (t.can c).xstat 30 = true ∧ ((t.can c).obj (n.toNat + i)).ndat = false ∧
          ((t.can c).obj n.toNat).fifoHeld = r ∧ ((t.can c).obj n.toNat).fill = r.length % 128 ∧ wbit ((t.can c).obj n.toNat).stat 30 = false ∧
          (0 < i → ((t.can c).obj n.toNat).ndat = o.ndat))) ∧
    (∀ send, ((s.can c).obj n.toNat).sends = true → ((s.can c).obj n.toNat).own = 1 →
      (send = true → ((s.can c).obj n.toNat).en = true ∧ (s.can c).ctl ≠ .off) → Runs (.canXcmdWrite c n send) s fun t =>
        ((t.can c).obj n.toNat).data = wordBytes (((s.can c).xb.drop 4).take 16) ∧ wbit (t.can c).xstat 30 = true ∧
          (send = true → ((t.can c).obj n.toNat).txreq = true)) ∧
    (((s.can c).obj n.toNat).sends = true → ((s.can c).obj n.toNat).own = 1 → ((s.can c).obj n.toNat).en = false ∨ (s.can c).ctl = .off →
      Runs (.canXcmdWrite c n true) s fun t => (t.can c).objects = (s.can c).objects ∧ wbit (t.can c).xstat 29 = true ∧ fget (t.can c).xstat 3 0 = 3) ∧
    (∀ v, ((s.can c).obj n.toNat).en = false → ((s.can c).obj n.toNat).own ≤ 1 → objMask 0 v ≠ 0 →
      Runs (.canObjectConfigWrite c n 0 v) s fun t =>
        ((t.can c).obj n.toNat).id = objMask 0 v ∧ ((t.can c).obj n.toNat).mask = ((s.can c).obj n.toNat).mask ∧
          ((t.can c).obj n.toNat).cfg = ((s.can c).obj n.toNat).cfg) ∧
    (∀ w v, ((s.can c).obj n.toNat).en = true ∨ 1 < ((s.can c).obj n.toNat).own → Runs (.canObjectConfigWrite c n w v) s fun t =>
      (t.can c).objects = (s.can c).objects ∧ wbit (t.can c).evt 23 = true)

/-- R450, R451, R453: what the interface of the eMMC does beside its commands. Nothing but the archive, its interrupt and HRDY changes. Of HS200, HS SDR and the
backward-compatible mode the first that is supported, tuned where it needs tuning, and passes the bus test at some width is used, at the widest width that
passes. -/
def Obligations.ArchiveInterface : Prop :=
  (∀ i : EmmcInfo,
    let ok := fun (m : EmmcMode) (tuning : Bool) => m.supported = true ∧ (tuning = true → m.tuned = true) ∧ (m.bus8 = true ∨ m.bus4 = true ∨ m.bus1 = true)
    let widest := fun (m : EmmcMode) => if m.bus8 = true then 8 else if m.bus4 = true then 4 else 1
    (ok i.hs200 true → modeOf i = (3, widest i.hs200)) ∧
    (¬ok i.hs200 true → ok i.hs false → modeOf i = (2, widest i.hs)) ∧
    (¬ok i.hs200 true → ¬ok i.hs false → ok i.legacy false → modeOf i = (1, widest i.legacy)) ∧
    (¬ok i.hs200 true → ¬ok i.hs false → ¬ok i.legacy false → modeOf i = (0, 0))) ∧
  (∀ s : State, s.inReset = false → s.psm.state ≠ .boot → s.psm.state ≠ .fuseFail → s.psm.state ≠ .off → s.arch.media = 0 → s.arch.op = .idle →
      Runs .archiveInitStart s fun t => OnlyArch s t ∧ t.arch = s.arch.startInit ∧ t.arch.op = .init) ∧
  (∀ s : State, s.psm.state = .boot → Runs .archiveInitStart s fun t => OnlyArch s t ∧ t.arch = s.arch) ∧
  (∀ s : State, s.arch.op = .init → Runs .emmcCmd1Timeout s fun t => OnlyArch s t ∧ t.arch.media = (if s.arch.retried then 4 else 2) ∧
      (s.arch.retried = true → wbit t.arch.evt 31 = true) ∧ t.arch.retried = false ∧ t.arch.op = .idle ∧ t.arch.medium = s.arch.medium ∧
          t.arch.recs = s.arch.recs) ∧
  (∀ s : State, s.arch.op ≠ .init → Runs .emmcCmd1Timeout s fun t => OnlyArch s t ∧ t.arch = s.arch) ∧
  (∀ s : State, s.arch.op ≠ .idle → s.arch.fails < 2 →
      Runs .emmcCommandFail s fun t => OnlyArch s t ∧ t.arch = { s.arch with fails := s.arch.fails + 1 }) ∧
  (∀ s : State, s.arch.op ≠ .idle → 2 ≤ s.arch.fails → s.arch.retried = false →
      Runs .emmcCommandFail s fun t => OnlyArch s t ∧ t.arch = { s.arch.startInit with retried := true } ∧ t.arch.op = .init ∧
        (s.arch.op ≠ .init → t.arch.opQueue = s.arch.op :: s.arch.opQueue)) ∧
  (∀ s : State, s.arch.op ≠ .idle → 2 ≤ s.arch.fails → s.arch.retried = true →
      Runs .emmcCommandFail s fun t => OnlyArch s t ∧ t.arch.media = 4 ∧ t.arch.op = .idle ∧ wbit t.arch.evt 31 = true ∧
        t.arch.medium = s.arch.medium ∧ t.arch.recs = s.arch.recs) ∧
  (∀ (s : State) (log : Bool), s.arch.media = 1 → s.arch.op = .idle → s.arch.ringDue log = true →
      Runs (.journalFlushDue log) s fun t => OnlyArch s t ∧ t.arch = { s.arch with op := .journal log }) ∧
  (∀ (s : State) (log : Bool), s.arch.ringDue log = false →
      Runs (.journalFlushDue log) s fun t => OnlyArch s t ∧ t.arch = s.arch)

/-- R447, R450, R452, R453: the end of a journal write puts the open stripe into the older slot and makes what is staged for it durable; the end of a
stripe write leaves the encoded stripe in its place, which the superblock after it counts, whereupon its records are durable; the end of a superblock
write leaves the copy of the next generation in its sector. The end of an initialisation shows the mode and width that passed, and the medium in use
where a superblock copy is valid. No other byte of the medium changes. The layouts of the journal slots and of the superblock are the model's choice,
log entry 258, and so is what follows where no mode passes, log entry 259. R18: an answer that crosses as a non-code word sets NONCODE and nothing else.
-/
def Obligations.ArchiveWritesComplete : Prop :=
  let kept := fun (s t : State) (at_ n : Nat) => ∀ k, k < at_ ∨ at_ + n ≤ k → memRead 0 1 k t.arch.medium = memRead 0 1 k s.arch.medium
  (∀ (s : State) (info : EmmcInfo) (log : Bool), s.portFree → cellsWf 0 s.arch.medium = true → s.arch.op = .journal log →
      Runs (.emmcCommandComplete ⟨info, false⟩) s fun t =>
        (∀ r ∈ t.arch.ring log, s.arch.ringNext log / (ringShape log).1 * (ringShape log).1 ≤ r.index → r.index < s.arch.ringNext log →
          r.durable = true) ∧
        (t.arch.ring log).length = (s.arch.ring log).length ∧
        (let at_ := slotAddr log (olderIsSecond ((s.arch.journalAt log false).map Journal.gen) ((s.arch.journalAt log true).map Journal.gen))
         kept s t at_ 8704 ∧ memRead 0 8704 at_ t.arch.medium = Journal.bytes
            { stripe := s.arch.ringNext log / (ringShape log).1, count := s.arch.ringNext log % (ringShape log).1,
              gen := match s.arch.journal log with
                | some x => x.gen + 1
                | none => 1,
              data := s.arch.stripeBytes log (s.arch.ringNext log / (ringShape log).1) (s.arch.ringNext log % (ringShape log).1) }) ∧
        t.portals = s.portals ∧ t.psm = s.psm) ∧
  (∀ (s : State) (info : EmmcInfo) (log : Bool), s.portFree → cellsWf 0 s.arch.medium = true → s.arch.op = .stripe log → s.arch.stripeDue log = true →
      let n := (if log then s.arch.sb.logDurable else s.arch.sb.durable) / (ringShape log).1
      let r : StripeRegion := if log then .logs else .records
      Runs (.emmcCommandComplete ⟨info, false⟩) s fun t => t.arch.sb = s.arch.sb ∧ t.arch.op = .superblock ∧
        t.arch.readStripe r n = encodeStripe (dataBlocks (s.arch.stripeBytes log n (ringShape log).1)) ∧ kept s t (s.arch.stripeAt r n) 9216 ∧
        (if log then t.arch.ahead.snd else t.arch.ahead.fst) = true ∧ (t.arch.ring log).map Staged.durable = (s.arch.ring log).map Staged.durable ∧
        t.portals = s.portals) ∧
  (∀ (s : State) (info : EmmcInfo), s.portFree → cellsWf 0 s.arch.medium = true → s.arch.op = .superblock →
      Runs (.emmcCommandComplete ⟨info, false⟩) s fun t => t.arch.sb = s.newSuperblock ∧ t.arch.sb.gen = s.arch.sb.gen + 1 ∧
        t.arch.sb.nextIndex = s.arch.next ∧ t.arch.sb.durable = s.arch.sb.durable + (if s.arch.ahead.fst then 64 else 0) ∧ t.arch.ahead = .all false ∧
        (let at_ := 512 * b2n (olderIsSecond ((s.arch.superAt 0).map Superblock.gen) ((s.arch.superAt 1).map Superblock.gen))
         memRead 0 512 at_ t.arch.medium = t.arch.sb.bytes ∧ kept s t at_ 512) ∧
        ∀ r ∈ t.arch.recs, s.arch.sb.durable ≤ r.index → r.index < t.arch.sb.durable → r.durable = true) ∧
  (∀ (s : State) (info : EmmcInfo), s.portFree → s.arch.op = .init → modeOf info = (0, 0) →
      Runs (.emmcCommandComplete ⟨info, false⟩) s fun t => t.arch.media = 4 ∧ wbit t.arch.evt 31 = true ∧ t.arch.op = .idle ∧
        t.arch.medium = s.arch.medium) ∧
  (∀ (s : State) (info : EmmcInfo) (b : Superblock), s.portFree → s.arch.op = .init → (modeOf info).1 ≠ 0 →
      ({ s.arch with unread := info.unread } : ArchState).superblock = some b →
      Runs (.emmcCommandComplete ⟨info, false⟩) s fun t => t.arch.media = 1 ∧ t.arch.mode = BitVec.ofNat 4 (modeOf info).1 ∧
        t.arch.width = BitVec.ofNat 4 (modeOf info).2 ∧ t.arch.cap = min info.sectors 125000000 ∧ t.arch.foreign = (b.uid != s.fuse.uid) ∧
        t.arch.sb.gen = b.gen ∧ (s.arch.numbered = true → t.arch.medium = s.arch.medium) ∧ t.portals = s.portals) ∧
  (∀ (s : State) (info : EmmcInfo), s.arch.op = .idle → Runs (.emmcCommandComplete ⟨info, false⟩) s fun t => OnlyArch s t ∧ t.arch = s.arch) ∧
  (∀ (s : State) (info : EmmcInfo), Runs (.emmcCommandComplete ⟨info, true⟩) s fun t =>
      OnlyArch s t ∧ t.arch = { s.arch with evt := raise s.arch.evt 24 })

/-- R454, R451, R457, R460, R461: the ARCH commands with the key, each with its effect; a wrong key or a command in progress refuses all of them first
(reasons 1 and 5). -/
def Obligations.ArchiveCommands : Prop :=
  ∀ s : State, s.portAlive = true → s.serves 0x6002C = true → s.portFree →
    (∀ key, key ≠ 0x4B → ∀ i ∈ [Instr.archCmdFlush key, .archCmdScrubNow key, .archCmdReinit key, .archCmdFormat key, .archCmdLoad key,
        .archCmdFind key 0], Runs i s fun t => OnlyArch s t ∧ t.arch = { s.arch with cmdstat := t.arch.cmdstat } ∧
          wbit t.arch.cmdstat 29 = true ∧ fget t.arch.cmdstat 3 0 = 1) ∧
    (wbit s.arch.cmdstat 31 = true → ∀ i ∈ [Instr.archCmdFlush 0x4B, .archCmdScrubNow 0x4B, .archCmdReinit 0x4B, .archCmdFormat 0x4B,
        .archCmdLoad 0x4B, .archCmdFind 0x4B 0], Runs i s fun t => OnlyArch s t ∧ t.arch = { s.arch with cmdstat := t.arch.cmdstat } ∧
          wbit t.arch.cmdstat 29 = true ∧ fget t.arch.cmdstat 3 0 = 5) ∧
    (wbit s.arch.cmdstat 31 = false →
      (s.arch.media = 1 → s.arch.op = .idle → s.arch.opQueue = [] → Runs (.archCmdFlush 0x4B) s fun t =>
        OnlyArch s t ∧ wbit t.arch.cmdstat 31 = true ∧ t.arch.op = .journal false ∧
          t.arch.opQueue = [.journal true, .superblock, .flushed] ∧ t.arch.recs = s.arch.recs) ∧
      (s.arch.media = 1 → Runs (.archCmdScrubNow 0x4B) s fun t =>
        OnlyArch s t ∧ t.arch.scrubDone = 0 ∧ t.arch.scrubbing = true ∧ wbit t.arch.cmdstat 30 = true ∧ t.arch.medium = s.arch.medium) ∧
      (s.arch.op ≠ .init → Runs (.archCmdReinit 0x4B) s fun t =>
        OnlyArch s t ∧ t.arch.op = .init ∧ t.arch.media = 0 ∧ wbit t.arch.cmdstat 31 = true ∧ t.arch.medium = s.arch.medium) ∧
      (s.psm.state = .maintain → s.harn.recovery = false → s.arch.media = 1 ∨ s.arch.media = 3 → Runs (.archCmdFormat 0x4B) s fun t =>
        t.arch.medium = memPut 0 [] 0 s.freshSuperblock.bytes ∧ t.arch.media = 1 ∧ t.arch.sb = s.freshSuperblock ∧ wbit t.arch.evt 27 = true ∧
          wbit t.arch.cmdstat 30 = true ∧
          t.portals = s.portals ∧ t.psm = s.psm) ∧
      (s.psm.state ≠ .maintain → Runs (.archCmdFormat 0x4B) s fun t =>
        OnlyArch s t ∧ t.arch = { s.arch with cmdstat := t.arch.cmdstat } ∧ wbit t.arch.cmdstat 29 = true ∧ fget t.arch.cmdstat 3 0 = 2) ∧
      (∀ b c u st, wbit s.arch.rdpage 31 = false → s.arch.recordOf s.arch.rdidx.toNat = some (b, c, u, st) →
        Runs (.archCmdLoad 0x4B) s fun t => OnlyArch s t ∧ t.arch.rdwin = b ∧ wbit t.arch.rdstat 31 = ownCrcOk b ∧
          wbit t.arch.rdstat 29 = u ∧ wbit t.arch.rdstat 28 = st ∧ wbit t.arch.cmdstat 30 = true ∧
          (c ≠ 0 → wbit t.arch.rdstat 30 = true ∧ wbit t.arch.evt 30 = true) ∧
          (u = true → wbit t.arch.evt 29 = true ∧ t.arch.ecc = fInc s.arch.ecc 15 0)) ∧
      (∀ e, wbit s.arch.rdpage 31 = true → s.arch.media = 1 → (s.arch.traces.find? fun t => t.index == s.arch.rdidx.toNat) = some e →
        fget s.arch.rdpage 15 0 < 4 * e.stripes →
        Runs (.archCmdLoad 0x4B) s fun t => OnlyArch s t ∧ t.arch.rdwin = slice (s.arch.loadStripe .traces (e.stripe + fget s.arch.rdpage 15 0 / 4)).1
            (2048 * (fget s.arch.rdpage 15 0 % 4)) 2048 ∧ fget t.arch.rdstat 27 0 = e.bytes % 268435456 ∧ wbit t.arch.cmdstat 30 = true) ∧
      (∀ tsel : BitVec 2, s.arch.media = 1 → tsel ≠ 3 → s.arch.recordOf s.arch.rdidx.toNat = none →
        Runs (.archCmdFind 0x4B tsel) s fun t => OnlyArch s t ∧ t.arch.found = s.arch.found ∧ fget t.arch.cmdstat 3 0 = 6) ∧
      (∀ (tsel : BitVec 2) b x, s.arch.media = 1 → tsel ≠ 3 → s.arch.recordOf s.arch.rdidx.toNat = some (b, x) →
        let wanted := fun e : TraceEntry => rdw b (88 + 4 * tsel.toNat) ≠ 0 ∧ e.ident = rdw b (88 + 4 * tsel.toNat) ∧ rd64 b 16 ≤ e.ttrig
        ((∀ e ∈ s.arch.traces, ¬wanted e) →
          Runs (.archCmdFind 0x4B tsel) s fun t => OnlyArch s t ∧ t.arch.found = 0xFFFFFFFF ∧ wbit t.arch.cmdstat 30 = true) ∧
        (∀ e l r, s.arch.traces = l ++ e :: r → wanted e → (∀ i ∈ r, ¬wanted i) →
          Runs (.archCmdFind 0x4B tsel) s fun t => OnlyArch s t ∧ t.arch.found = BitVec.ofNat 32 e.index ∧ wbit t.arch.cmdstat 30 = true)))

/-- R457, R456, R455: a scrub read gives way to a write, and a pass that has reached the stripe being written skips it; a good stripe is left alone;
what the code repairs is rewritten, so that the medium then holds the stripe as decoded, and reported, CORR_BLOCKS counting its blocks; a stripe that it
cannot repair is reported and left as it is. A closed segment that the archive wants is handed to the copy slot. -/
def Obligations.ArchiveScrubAndTraces : Prop :=
  (∀ (s : State) (er : List Nat), s.arch.media ≠ 1 ∨ (s.arch.op ≠ .idle ∧ s.arch.writingAt ≠ some s.arch.scrubDone) →
      Runs (.scrubRead er) s fun t => OnlyArch s t ∧ t.arch = s.arch) ∧
  (∀ (s : State) (er : List Nat), s.arch.media = 1 → s.arch.op ≠ .idle → s.arch.writingAt = some s.arch.scrubDone →
      Runs (.scrubRead er) s fun t => OnlyArch s t ∧ t.arch = { s.arch with scrubDone := s.arch.scrubDone + 1 }) ∧
  (∀ (s : State) (er : List Nat), s.arch.media = 1 → s.arch.op = .idle → s.arch.scrubNext s.arch.scrubDone = none →
      Runs (.scrubRead er) s fun t => OnlyArch s t ∧ t.arch = { s.arch with
        scrubDone := 0, scrubbing := false, op := .superblock,
        sb := { s.arch.sb with scrubPos := 0, scrubPasses := s.arch.sb.scrubPasses + 1 } }) ∧
  (∀ (s : State) (er : List Nat) (r : StripeRegion) (n next : Nat), s.arch.media = 1 → s.arch.op = .idle →
      s.arch.scrubNext s.arch.scrubDone = some (r, n, next) →
      let l := s.arch.readStripe r n
      let res := decodeStripe l (erasuresOf r l er)
      (res.2 = .good → Runs (.scrubRead er) s fun t => OnlyArch s t ∧ t.arch = { s.arch with
          scrubDone := next, scrubbing := true, sb := { s.arch.sb with scrubPos := next }, unread := t.arch.unread }) ∧
      (∀ ks, res.2 = .corrected ks → cellsWf 0 s.arch.medium = true → Runs (.scrubRead er) s fun t => OnlyArch s t ∧ t.arch = { s.arch with
            scrubDone := next, scrubbing := true, sb := { s.arch.sb with scrubPos := next }, unread := t.arch.unread, medium := t.arch.medium,
            evt := raise s.arch.evt 30, ecc := t.arch.ecc } ∧
          t.arch.readStripe r n = res.1 ∧ fget t.arch.ecc 31 16 = min 0xFFFF (fget s.arch.ecc 31 16 + ks.length) ∧
          ∀ k, k < s.arch.stripeAt r n ∨ s.arch.stripeAt r n + 9216 ≤ k → memRead 0 1 k t.arch.medium = memRead 0 1 k s.arch.medium) ∧
      (res.2 = .uncorrectable → Runs (.scrubRead er) s fun t => OnlyArch s t ∧ t.arch = { s.arch with
          scrubDone := next, scrubbing := true, sb := { s.arch.sb with scrubPos := next }, unread := t.arch.unread,
          evt := raise s.arch.evt 29, ecc := fInc s.arch.ecc 15 0 })) ∧
  (∀ (s : State) (g : Fin 16) (slot : BitVec 12) (x : Segment), (s.acq.groups.get g).segAt slot.toNat = some x → s.arch.media = 1 →
      (s.acq.groups.get g).arch = true → x.archDue = true → s.arch.traceJob = none → 0 < s.arch.traceStripes →
      Runs (.traceSegmentCopy g slot) s fun t => OnlyArch s t ∧
        t.arch = { s.arch with
          traceJob := some (g, slot.toNat), op := if s.arch.op = .idle then .trace else s.arch.op,
          opQueue := if s.arch.op = .idle ∨ s.arch.opQueue.contains .trace = true then s.arch.opQueue else s.arch.opQueue ++ [.trace] }) ∧
  (∀ (s : State) (g : Fin 16) (slot : BitVec 12), (s.acq.groups.get g).segAt slot.toNat = none →
      Runs (.traceSegmentCopy g slot) s fun t => OnlyArch s t ∧ t.arch = s.arch)

/-- R456: a stripe as it is written decodes as good; with any one or two of its blocks erased, whatever stands in them, decoding gives the stripe
back. -/
def Obligations.OuterCodeRepairsTwoErasures : Prop :=
  ∀ d : List (List Byte), d.length = 16 → (∀ b ∈ d, b.length = 512) →
    (encodeStripe d).length = 18 ∧ decodeStripe (encodeStripe d) [] = (encodeStripe d, .good) ∧
    (∀ e g, e < 18 → g.length = 512 → decodeStripe ((encodeStripe d).set e g) [e] = (encodeStripe d, .corrected [e])) ∧
    ∀ e f g h, e < 18 → f < 18 → e ≠ f → g.length = 512 → h.length = 512 →
      decodeStripe (((encodeStripe d).set e g).set f h) [e, f] = (encodeStripe d, .corrected [e, f])

/-- The two memories of the device keep their canonical form, addresses strictly rising and no byte listed that an unlisted address reads as, through
every step: the configuration flash and the eMMC medium. The form and the byte that an unlisted address reads as are the model's choices, log entries 7
and 165. -/
def Obligations.EveryStepKeepsMemoriesCanonical : Prop := ∀ s t : State, s.MemoriesWf → step s = .next t → t.MemoriesWf

/-- R462, R467, R469, R470, R472, R474, R475: the states of the island up to COUNTING and UNSEALED. Its POR keeps its fuses and what stands in flash.
Once the flash mode has settled, a fuse failure, a non-code word or later a failing self-check halts it; an image that fails a check leaves NO_IMAGE
with the number of the check; an accepted image meets the seal block, where no flash write is due in BOOT: it counts under the seal that was made with
it, is UNSEALED without one, and a change of image uses up a seal event. That a flash which can be read in no mode is NO_IMAGE is the model's choice,
log entry 262, and that only what writes flash waits for BOOT that of log entry 180. -/
def Obligations.TallyIslandChecks : Prop :=
  (∀ s : State, Runs .tallyPor s fun t => OnlyTally s t ∧
      t.tally = { fuses := s.tally.fuses, inbox := s.tally.inbox, marks := s.tally.marks } ∧ t.tally.mode = .start) ∧
  (∀ (s : State) (r : IslandRead), s.tally.mode ≠ .start ∨ s.tally.loaded = true ∨ s.psm.flashUp = none →
      Runs (.tallyImageChecked r) s fun t => OnlyTally s t ∧ t.tally = s.tally) ∧
  (∀ (s : State) (r : IslandRead) (up : Bool), s.portFree → s.tally.mode = .start → s.tally.loaded = false → s.psm.flashUp = some up →
      let x : TallyState := { s.tally with fuses := { s.tally.fuses with weak := r.weak } }
      (r.nonCode = true → Runs (.tallyImageChecked r) s fun t => OnlyTally s t ∧ t.tally.mode = .halted ∧ t.tally.nonCode = true) ∧
      (r.nonCode = false → x.fuses.fails = true →
        Runs (.tallyImageChecked r) s fun t => OnlyTally s t ∧ t.tally.mode = .halted ∧ t.tally.fuseFail = true) ∧
      (r.nonCode = false → x.fuses.fails = false → up = false → Runs (.tallyImageChecked r) s fun t =>
        OnlyTally s t ∧ t.tally = { x.readFuses with mode := .noImage, why := 1 }) ∧
      (∀ (w : Nat) (b : List Byte), r.nonCode = false → x.fuses.fails = false → up = true → checkTally s.harn.flash x.readFuses.keyHash = (w, b) →
        (w ≠ 0 → Runs (.tallyImageChecked r) s fun t => t.tally.mode = .noImage ∧ t.tally.why = w ∧ t.tally.used = x.readFuses.used ∧
          t.portals = s.portals ∧ t.psm = s.psm) ∧
        (w = 0 → ({ s with tally := x.readFuses.takeImage b } : State).sealWrites = true → s.psm.state = .boot →
          Runs (.tallyImageChecked r) s fun t => OnlyTally s t ∧ t.tally.image = b ∧ t.tally.checkDue = true ∧ t.tally.mode = .start) ∧
        (w = 0 → ({ s with tally := x.readFuses.takeImage b } : State).sealWrites = false ∨ s.psm.state ≠ .boot → cellsWf 0xFF s.harn.flash = true →
          (s.sealBlock.filter SealBlock.isSealed = none → Runs (.tallyImageChecked r) s fun t => t.tally.image = b ∧ t.tally.mode = .unsealed ∧
            t.tally.inForce = 0 ∧ t.tally.priv = none ∧ t.portals = s.portals ∧ t.psm = s.psm) ∧
          (∀ y, s.sealBlock = some y → y.isSealed = true → y.evt < x.readFuses.used → Runs (.tallyImageChecked r) s fun t =>
            t.tally.image = b ∧ t.tally.mode = .unsealed ∧ t.tally.inForce = 0 ∧ t.tally.priv = none ∧ t.portals = s.portals ∧ t.psm = s.psm) ∧
          (∀ y, s.sealBlock = some y → y.isSealed = true → x.readFuses.used ≤ y.evt →
            (y.imgVer = rdw b 12 → y.imgCrc = rdw b 32 → Runs (.tallyImageChecked r) s fun t => t.tally.image = b ∧ t.tally.mode = .counting ∧
              t.tally.inForce = y.evt ∧ t.tally.pub = y.pub ∧ t.tally.used = x.readFuses.used ∧ t.portals = s.portals ∧ t.psm = s.psm) ∧
            (y.imgVer ≠ rdw b 12 ∨ y.imgCrc ≠ rdw b 32 → x.readFuses.used < 4096 → Runs (.tallyImageChecked r) s fun t => t.tally.image = b ∧
              t.tally.mode = .unsealed ∧ t.tally.inForce = 0 ∧ t.tally.used = x.readFuses.used + 1 ∧
              t.tally.fuses.burnt = s.tally.fuses.burnt + 1 ∧ t.portals = s.portals ∧ t.psm = s.psm) ∧
            (y.imgVer ≠ rdw b 12 ∨ y.imgCrc ≠ rdw b 32 → 4096 ≤ x.readFuses.used → Runs (.tallyImageChecked r) s fun t =>
              t.tally.mode = .halted ∧ t.tally.fuses.burnt = s.tally.fuses.burnt ∧ t.portals = s.portals ∧ t.psm = s.psm))))) ∧
  (∀ s : State, s.tally.runs = true → Runs (.tallySelfCrc true) s fun t =>
      OnlyTally s t ∧ t.tally.mode = .halted ∧ t.tally.selfCrc = true ∧ t.tally.windows = .all none) ∧
  (∀ s : State, crc32c (s.tally.image.drop 64) = s.tally.imgCrc → Runs (.tallySelfCrc false) s fun t => OnlyTally s t ∧ t.tally = s.tally)

/-- R472, R473, R476: with no window under way and a free bit of the counter, TALLY_SEAL_N low for 2 s starts sealing and burns the next bit, once for
each falling edge; its end puts the seal in force, or after a failed flash write leaves none; a bit that does not read back as burnt halts the island
(one that the vote reads as unprogrammed is the model's choice, log entry 260). -/
def Obligations.TallySealing : Prop :=
  (∀ s : State, s.tally.mode = .unsealed ∨ s.tally.mode = .counting → s.psm.state ≠ .boot → s.tally.idleWindows = true → s.tally.used < 4096 →
      s.tally.sealDone = false →
      Runs .tallySealSwitch s fun t => OnlyTally s t ∧ t.tally = { s.tally with
        mode := .sealing, used := s.tally.used + 1, fuses := { s.tally.fuses with burnt := s.tally.fuses.burnt + 1 }, sealSw := true, sealDone := true }) ∧
  (∀ s : State, s.tally.idleWindows = false ∨ 4096 ≤ s.tally.used ∨ s.psm.state = .boot ∨ s.tally.sealDone = true ∨
        (s.tally.mode ≠ .unsealed ∧ s.tally.mode ≠ .counting) →
      Runs .tallySealSwitch s fun t => OnlyTally s t ∧ t.tally = { s.tally with sealSw := true, sealDone := true }) ∧
  (∀ (s : State) (r : SealRun) (d : BitVec 256), s.portFree → s.tally.mode = .sealing →
      (r.nonCode = true → Runs (.tallySealingComplete r d) s fun t => OnlyTally s t ∧ t.tally.mode = .halted ∧ t.tally.nonCode = true) ∧
      (r.nonCode = false → ({ s.tally.fuses with weak := r.weak } : IslandFuses).voted (511 + s.tally.fuses.burnt) ≠ some true →
        Runs (.tallySealingComplete r d) s fun t => OnlyTally s t ∧ t.tally.mode = .halted ∧ t.tally.fuseFail = true) ∧
      (r.nonCode = false → ({ s.tally.fuses with weak := r.weak } : IslandFuses).voted (511 + s.tally.fuses.burnt) = some true →
        (r.flashOk = true → Runs (.tallySealingComplete r d) s fun t => t.tally.mode = .counting ∧ t.tally.inForce = s.tally.used ∧
          t.tally.priv.isSome = true ∧ t.tally.used = s.tally.used ∧ t.portals = s.portals ∧ t.psm = s.psm) ∧
        (r.flashOk = false → Runs (.tallySealingComplete r d) s fun t => t.tally.mode = .unsealed ∧ t.tally.inForce = 0 ∧ t.tally.priv = none ∧
          t.tally.flashErr = true ∧ t.tally.used = s.tally.used ∧ t.portals = s.portals ∧ t.psm = s.psm))) ∧
  (∀ (s : State) (r : SealRun) (d : BitVec 256), s.tally.mode ≠ .sealing →
      Runs (.tallySealingComplete r d) s fun t => OnlyTally s t ∧ t.tally = s.tally)

/-- R465, R478, R480: in every state of the island a port state that the portal reports is taken; a frame that is whole counts in the open window that
its moment belongs to, one that belongs to a window that has closed and one that is not whole are discarded and counted. R18, R472: a non-code word at
the crossing is discarded and halts the island. -/
def Obligations.TallyCurtainTraffic : Prop :=
  (∀ (s : State) (p : PortalId) (f : EventFrame), f.code = 0x11 →
      Runs (.tallyCurtainEvent p ⟨f, false⟩) s fun t => OnlyTally s t ∧
        ((t.tally.ports.get p).at2 (if f.port.toNat % 2 = 0 then 0 else 1)).live = portLive (f.args.getD 0 0) ∧
        (((s.tally.ports.get p).at2 (if f.port.toNat % 2 = 0 then 0 else 1)).live ≠ portLive (f.args.getD 0 0) →
          ((t.tally.ports.get p).at2 (if f.port.toNat % 2 = 0 then 0 else 1)).since = f.etime.toNat) ∧
        (∀ x, s.tally.windows.get p = some x → x.end_ = none → x.start.toNat ≤ f.etime.toNat → portLive (f.args.getD 0 0) = false →
          ∃ y, t.tally.windows.get p = some y ∧ y.counts = { x.counts with degraded := true }) ∧
        t.tally.mode = s.tally.mode ∧ t.tally.nextSeq = s.tally.nextSeq) ∧
  (∀ (s : State) (p : PortalId) (f : EventFrame) (n : Nat) (b : List Byte), f.code = 0x10 →
      frameOf ((s.tally.parts.get p).at2 (if f.port.toNat % 2 = 0 then 0 else 1)) f = some (n, b) →
      (rd8 b 0 = 0xA5 → rd8 b 1 = n → curtainCrcOk b = true → ((s.tally.spans.get p).any fun x =>
          decide (x.1 ≤ f.etime.toNat) && decide (f.etime.toNat < x.2)) = false →
        ∀ x, s.tally.windows.get p = some x → x.end_ = none → x.start.toNat ≤ f.etime.toNat →
        Runs (.tallyCurtainEvent p ⟨f, false⟩) s fun t => OnlyTally s t ∧ ∃ y, t.tally.windows.get p = some y ∧
          y.counts.frames = satInc x.counts.frames 0xFFFF ∧ y.counts.legacy = (x.counts.legacy || n == 1) ∧ y.cycle = x.cycle ∧
          y.counts.inN = x.counts.inN ∧ y.counts.outN = x.counts.outN ∧ t.tally.bad = s.tally.bad) ∧
      (rd8 b 0 = 0xA5 → rd8 b 1 = n → curtainCrcOk b = true → ((s.tally.spans.get p).any fun x =>
          decide (x.1 ≤ f.etime.toNat) && decide (f.etime.toNat < x.2)) = true →
        Runs (.tallyCurtainEvent p ⟨f, false⟩) s fun t => OnlyTally s t ∧ t.tally.bad = satInc s.tally.bad 0xFFFF ∧ t.tally.windows = s.tally.windows) ∧
      (rd8 b 0 ≠ 0xA5 ∨ rd8 b 1 ≠ n ∨ curtainCrcOk b = false →
        Runs (.tallyCurtainEvent p ⟨f, false⟩) s fun t => OnlyTally s t ∧ t.tally.bad = satInc s.tally.bad 0xFFFF ∧ t.tally.windows = s.tally.windows)) ∧
  (∀ (s : State) (p : PortalId) (f : EventFrame), f.code = 0x10 → f.parts = 0x20 → ((s.tally.parts.get p).at2 (if f.port.toNat % 2 = 0 then 0 else 1)) = none →
      Runs (.tallyCurtainEvent p ⟨f, false⟩) s fun t => OnlyTally s t ∧ t.tally.windows = s.tally.windows ∧ t.tally.bad = s.tally.bad ∧
        ((t.tally.parts.get p).at2 (if f.port.toNat % 2 = 0 then 0 else 1)) = some { total := 2, held := 1, bytes := slice (wordBytes f.args) 0 20 }) ∧
  (∀ (s : State) (p : PortalId) (f : EventFrame), Runs (.tallyCurtainEvent p ⟨f, true⟩) s fun t => OnlyTally s t ∧
      t.tally = { s.tally.halt with nonCode := true, inbox := s.tally.inbox.erase (p, f) } ∧ t.tally.mode = .halted)

/-- R478, R479, R482, R483: a start mark opens a window of its cycle while the island counts and closes one that it finds open as INCOMPLETE; an end
mark fixes T_END and gives SEQ to the record of its cycle, 1 ms later the window closes and waits for its signature; a track that has left both planes
is judged; a host reset closes the windows named at its moment. R18, R472: a mark that crosses as a non-code word halts the island. -/
def Obligations.TallyWindows : Prop :=
  (∀ (s : State) (m : CycleMark), m.nonCode = false → s.tally.mode = .counting → m.isEnd = false →
      Runs (.tallyCycleMark m) s fun t => OnlyTally s t ∧ t.tally.ending.get m.portal = [] ∧
        (∃ x, t.tally.windows.get m.portal = some x ∧ x.cycle = m.cycle ∧ x.start = m.time ∧ x.end_ = none ∧ x.sealEvt = s.tally.inForce ∧
          ((∀ e ∈ s.tally.early.get m.portal, e = .clear ∨ e.before m.time.toNat = true) →
            x.counts = { degraded := !s.tally.portsLiveAt m.portal m.time.toNat })) ∧
        (∃ l, t.tally.closing.get m.portal = s.tally.closing.get m.portal ++ l ∧ (∀ x ∈ l, x.incomplete = true) ∧
          l.length = (s.tally.ending.get m.portal).length + (if (s.tally.windows.get m.portal).isSome then 1 else 0))) ∧
  (∀ (s : State) (m : CycleMark), m.nonCode = false → s.tally.mode ≠ .counting → m.isEnd = false →
      Runs (.tallyCycleMark m) s fun t => OnlyTally s t ∧ t.tally = { s.tally with marks := s.tally.marks.erase m }) ∧
  (∀ (s : State) (m : CycleMark) (x : Window), s.portFree → m.nonCode = false → m.isEnd = true → s.tally.windows.get m.portal = some x →
      Runs (.tallyCycleMark m) s fun t => t.tally.windows.get m.portal = none ∧ t.tally.nextSeq = s.tally.nextSeq + 1 ∧
        t.tally.ending.get m.portal = s.tally.ending.get m.portal ++
          [{ x.endAt m.time with seq := s.tally.nextSeq, incomplete := x.incomplete || m.incomplete }] ∧
        t.arch = s.arch.passRef m.portal m.cycle (some s.tally.nextSeq) ∧ t.portals = s.portals) ∧
  (∀ (s : State) (m : CycleMark), s.portFree → m.nonCode = false → m.isEnd = true → s.tally.windows.get m.portal = none →
      Runs (.tallyCycleMark m) s fun t => t.tally = { s.tally with marks := s.tally.marks.erase m } ∧
        t.arch = s.arch.passRef m.portal m.cycle none ∧ t.portals = s.portals) ∧
  (∀ (s : State) (m : CycleMark), s.portFree → m.nonCode = true →
      Runs (.tallyCycleMark m) s fun t => t.tally.mode = .halted ∧ t.tally.nonCode = true ∧ t.tally.windows = .all none ∧
        t.arch = (if m.isEnd then s.arch.passRef m.portal m.cycle none else s.arch) ∧ t.portals = s.portals) ∧
  (∀ (s : State) (p : PortalId) (x : Window) (r : List Window), s.tally.ending.get p = x :: r → x.counts.track = none →
      Runs (.tallyWindowClose p) s fun t => OnlyTally s t ∧ t.tally.ending.get p = r ∧ t.tally.closing.get p = s.tally.closing.get p ++ [x] ∧
        t.tally.unresolved = min (s.tally.unresolved + x.counts.unres) 0xFFFF) ∧
  (∀ (s : State) (p : PortalId), s.tally.ending.get p = [] → Runs (.tallyWindowClose p) s fun t => OnlyTally s t ∧ t.tally = s.tally) ∧
  (∀ (s : State) (p : PortalId) (x : Window) (k : Track), s.tally.windows.get p = some x → x.counts.track = some k → k.outerNow = false → k.innerNow = false →
      Runs (.tallyTrackEnd p) s fun t => OnlyTally s t ∧ ∃ y, t.tally.windows.get p = some y ∧ y.counts.track = none ∧
        y.counts.inN = (if k.first = 0 ∧ k.last = 1 ∧ k.together then satInc x.counts.inN 0xFFFF else x.counts.inN) ∧
        y.counts.outN = (if k.first = 1 ∧ k.last = 0 ∧ k.together then satInc x.counts.outN 0xFFFF else x.counts.outN)) ∧
  (∀ (s : State) (ports : BitVec 4) (p : PortalId), wbit ports p.val = true →
      Runs (.tallyHostResetClose ports) s fun t => OnlyTally s t ∧ t.tally.windows.get p = none ∧ t.tally.ending.get p = [] ∧
        ∃ l, t.tally.closing.get p = s.tally.closing.get p ++ l ∧ (∀ x ∈ l, x.hostReset = true ∧ x.end_ = some s.time.now) ∧
          l.length = (s.tally.ending.get p).length + (if (s.tally.windows.get p).isSome then 1 else 0))

/-- R481, R485: the oldest closed window of a portal is signed and stands in the ring under its SEQ; the carousel moves to the next valid audit entry in
every state of the island, and after the last to the first. That the island samples TALLY_SEAL_N with the carousel is the model's choice, log entry 222.
-/
def Obligations.TallyRecordsAndCarousel : Prop :=
  (∀ (s : State) (p : PortalId) (x : Window) (r : List Window), s.portFree → s.tally.closing.get p = x :: r →
      Runs (.tallyRecordSigned p) s fun t => t.tally.closing.get p = r ∧ t.tally.records.head? = some (x.seq, s.countRecord p x) ∧
        t.portals = s.portals ∧ t.psm = s.psm) ∧
  (∀ (s : State) (p : PortalId), s.tally.closing.get p = [] → Runs (.tallyRecordSigned p) s fun t => t.tally = s.tally) ∧
  (∀ (s : State) (e : Nat), s.audits.find? (fun n => decide (s.tally.carIdx < n)) = some e →
      Runs .tallyCarouselAdvance s fun t => OnlyTally s t ∧ t.tally = { s.tally with
        carIdx := e, sealSw := t.tally.sealSw, sealDone := s.tally.sealDone && t.tally.sealSw }) ∧
  (∀ s : State, s.audits.find? (fun n => decide (s.tally.carIdx < n)) = none →
      Runs .tallyCarouselAdvance s fun t => OnlyTally s t ∧ t.tally = { s.tally with
        carIdx := s.audits.headD 0, sealSw := t.tally.sealSw, sealDone := s.tally.sealDone && t.tally.sealSw })

/-- R238 to R240, R242, R244, R248, R250, R265: a frame of the front-end keeps the sixteen words of its channels, the digital vector gives a word where it
changed or an event is shown, and a word with no change keeps it alive; a group is enabled at slot 0 with no condition armed if its check finds nothing and
stays disabled with the first failure otherwise, a group of the RECD section refuses the host, and the read selection and the scrub act as told. -/
def Obligations.AcquisitionFrontEndAndGroups : Prop :=
  (∀ (s : State) (p : PortalId) (codes : Sixteen AdcCode), (s.portals.get p).calm →
      RunsPortal p (.adcFrame p codes) s fun P =>
        UpToFrames { (s.portals.get p) with
          afe := P.afe, supply := { (s.portals.get p).supply with
            vfld := P.supply.vfld, vfldMin := min (s.portals.get p).supply.vfldMin P.supply.vfld, railsSeen := true } } P ∧
        P.supply.vfld = (divR ((codes.get 13).code.toNat * 2441) 10000).toNat ∧
        (∀ c : Fin 16, P.afe.raw.get c = if (s.portals.get p).afe.crossDue = true ∧ (c = 6 ∨ c = 7) then heldWord ((s.portals.get p).afe.raw.get c)
          else sampleWord (codes.get c)) ∧
        P.afe.crossDue = false ∧ P.afe.stream = (s.portals.get p).afe.stream ∧ P.afe.words = []) ∧
  (∀ (s : State) (p : PortalId), (s.portals.get p).calm →
      RunsPortal p (.digitalVectorSample p) s fun P =>
        UpToFrames { (s.portals.get p) with afe := { (s.portals.get p).afe with dvec := P.afe.dvec, devents := 0, words := P.afe.words } } P ∧
        P.afe.dvec = (BitVec.ofNat 64 (s.portals.get p).digitalLevels ||| ((s.portals.get p).afe.devents &&& eventBits)) ∧
        (wbit (s.portals.get p).afe.stream 19 = true → (s.portals.get p).afe.halted = false → P.afe.dvec &&& eventBits ≠ 0 →
          P.afe.words = (s.portals.get p).afe.words ++ [(BitVec.ofNat 1 ((s.portals.get p).link.time.toNat / 1000), P.afe.dvec)]) ∧
        (P.afe.dvec &&& eventBits = 0 → P.afe.dvec &&& ~~~eventBits = (s.portals.get p).afe.dvec &&& ~~~eventBits →
          P.afe.words = (s.portals.get p).afe.words)) ∧
  (∀ (s : State) (p : PortalId), (s.portals.get p).calm → wbit (s.portals.get p).afe.stream 19 = true → (s.portals.get p).afe.halted = false →
      RunsPortal p (.digitalWordKeepalive p) s fun P =>
        UpToFrames { (s.portals.get p) with afe := { (s.portals.get p).afe with words := (s.portals.get p).afe.words ++
          [(BitVec.ofNat 1 ((s.portals.get p).link.time.toNat / 1000), (s.portals.get p).afe.dvec &&& ~~~eventBits)] } } P) ∧
  (∀ (s : State) (n : Fin 16) (g : Group) (w : Word), s.portAlive = true → s.serves 0x30000 = true → s.acq.groups.get n = g →
    (g.recd = true → Runs (.acqGroupEnable n w) s fun t =>
        OnlyAcq s t ∧ t.acq = { s.acq with groups := s.acq.groups.set n { g with flags := raise g.flags 26 } }) ∧
    (g.recd = false → g.en = true → wbit w 31 = false → (g.cfg ^^^ w) &&& 0x0FF0FFFF = 0 → Runs (.acqGroupEnable n w) s fun t =>
        OnlyAcq s t ∧ (∀ m, m ≠ n → t.acq.groups.get m = s.acq.groups.get m) ∧ (t.acq.groups.get n).en = false ∧
          (t.acq.groups.get n).armed = false ∧ (t.acq.groups.get n).closed = g.closed) ∧
    (g.recd = false → g.en = false → wbit w 31 = true →
        ({ g with cfg := wrw g.cfg w 0x0FF0FFFF } : Group).check n.val (s.acq.othersOf n) s.groupEnv = 0 → Runs (.acqGroupEnable n w) s fun t =>
        OnlyAcq s t ∧ (∀ m, m ≠ n → t.acq.groups.get m = (s.acq.groups.get m).overwritten m (g.slotAt 0) g.segSize) ∧
          (t.acq.groups.get n).en = true ∧ (t.acq.groups.get n).armed = true ∧ (t.acq.groups.get n).slot = 0 ∧ (t.acq.groups.get n).kept = [] ∧
              (t.acq.groups.get n).why = 0 ∧
          (t.acq.groups.get n).closed = [] ∧ ∀ c, ((t.acq.groups.get n).conds.get c).armed = false) ∧
    (g.recd = false → g.en = false → wbit w 31 = true →
        ({ g with cfg := wrw g.cfg w 0x0FF0FFFF } : Group).check n.val (s.acq.othersOf n) s.groupEnv ≠ 0 → Runs (.acqGroupEnable n w) s fun t =>
        OnlyAcq s t ∧ (∀ m, m ≠ n → t.acq.groups.get m = s.acq.groups.get m) ∧ (t.acq.groups.get n).en = false ∧
          (t.acq.groups.get n).armed = g.armed ∧
          (t.acq.groups.get n).why = ({ g with cfg := wrw g.cfg w 0x0FF0FFFF } : Group).check n.val (s.acq.othersOf n) s.groupEnv) ∧
    (g.recd = false → g.en = true → g.full = true → Runs (.acqGroupRearm n) s fun t =>
        OnlyAcq s t ∧ (∀ m, m ≠ n → t.acq.groups.get m = (s.acq.groups.get m).overwritten m (g.slotAt 0) g.segSize) ∧
          (t.acq.groups.get n).armed = true ∧ (t.acq.groups.get n).full = false ∧ (t.acq.groups.get n).slot = 0 ∧ (t.acq.groups.get n).segs = g.segs) ∧
    (g.recd = false → g.full = false → Runs (.acqGroupRearm n) s fun t => OnlyAcq s t ∧ t.acq = s.acq)) ∧
  (∀ (s : State) (w : Word) (refill : Bool), s.portAlive = true → s.serves 0x30000 = true → (∀ n, (s.acq.groups.get n).paused = false) →
      Runs (.acqRdselWrite w refill) s fun t =>
        OnlyAcq s t ∧ t.acq = { s.acq with rdsel := w &&& 0x8F000FFF, holdApplies := !refill, groups := t.acq.groups } ∧
          (∀ n : Fin 16, refill = false ∨ n.val ≠ fget w 27 24 → t.acq.groups.get n = s.acq.groups.get n) ∧
          (∀ n : Fin 16, refill = true → n.val = fget w 27 24 → (t.acq.groups.get n).segAt (fget w 11 0) = none)) ∧
  (∀ (s : State) (single double : List Nat), (∀ a ∈ double, s.acq.bad.contains a = false) → fget s.acq.ecc 31 16 + single.length ≤ 0xFFFF →
      fget s.acq.ecc 15 0 + double.length ≤ 0xFFFF →
      Runs (.storeScrub single double) s fun t => OnlyAcq s t ∧ t.acq = { s.acq with ecc := t.acq.ecc, bad := s.acq.bad ++ double } ∧
        fget t.acq.ecc 31 16 = fget s.acq.ecc 31 16 + single.length ∧ fget t.acq.ecc 15 0 = fget s.acq.ecc 15 0 + double.length)

/-- R249, R250, R254 to R256, R262: a trigger is placed by its stamp in an armed segment, counts as OVERLAP after the commit and as MISSED while the group is
paused, and is nothing to a group that is not enabled; host force reaches the armed groups named, auto the group whose timer runs; the commit fixes TTRIG and
MASK; a digital segment closes at the end of DSPAN; and the end of its measurements sets MEAS_DONE and releases the slot. -/
def Obligations.AcquisitionTriggersAndSegments : Prop :=
  (∀ (s : State) (n : Fin 16) (x : Trigger) (g : Group), s.acq.groups.get n = g →
    (g.en = false → Runs (.triggerArrival n x) s fun t => OnlyAcq s t ∧ t.acq = s.acq) ∧
    (g.en = true → g.paused = true → Runs (.triggerArrival n x) s fun t =>
        OnlyAcq s t ∧ t.acq = { s.acq with groups := s.acq.groups.set n { g with missed := satInc g.missed 0xFF } }) ∧
    (g.en = true → g.paused = false → g.armed = true → g.commit.isSome = true → Runs (.triggerArrival n x) s fun t =>
        OnlyAcq s t ∧ t.acq = { s.acq with groups := s.acq.groups.set n { g with overlap := satInc g.overlap 0xFF } }) ∧
    (g.en = true → g.paused = false → g.armed = true → g.commit = none → g.trig = none → 0 < g.upTo x.stamp.toNat →
        g.pre ≤ g.indexOf x.stamp.toNat → Runs (.triggerArrival n x) s fun t =>
        OnlyAcq s t ∧ t.acq = { s.acq with groups := s.acq.groups.set n { g with trig := some (PendingTrig.mk (g.startOf x.stamp.toNat)
          [(x.cond.val, x.stamp.toNat)] false false) } }) ∧
    (g.en = true → g.paused = false → g.armed = true → g.commit = none → g.trig = none → g.indexOf x.stamp.toNat < g.pre → g.early = false →
        Runs (.triggerArrival n x) s fun t =>
        OnlyAcq s t ∧ t.acq = { s.acq with groups := s.acq.groups.set n { g with overlap := satInc g.overlap 0xFF } })) ∧
  (∀ (s : State) (groups : BitVec 16), s.portAlive = true → s.serves 0x30000 = true → Runs (.acqForceWrite groups) s fun t =>
      OnlyAcq s t ∧ t.acq = { s.acq with groups := t.acq.groups } ∧ ∀ h : Fin 16, t.acq.groups.get h =
        if wbit groups h.val = true ∧ (s.acq.groups.get h).armed = true then (s.acq.groups.get h).arrival 4 s.now else s.acq.groups.get h) ∧
  (∀ (s : State) (n : Fin 16), (s.acq.groups.get n).armed = true → (s.acq.groups.get n).autoUs ≠ 0 → (s.acq.groups.get n).commit = none →
      Runs (.autoTriggerExpire n) s fun t =>
        OnlyAcq s t ∧ t.acq = { s.acq with groups := s.acq.groups.set n ((s.acq.groups.get n).arrival 5 s.now) }) ∧
  (∀ (s : State) (n : Fin 16), (s.acq.groups.get n).autoUs = 0 → Runs (.autoTriggerExpire n) s fun t => OnlyAcq s t ∧ t.acq = s.acq) ∧
  (∀ (s : State) (n : Fin 16) (g : Group) (x : PendingTrig), s.acq.groups.get n = g → g.trig = some x → g.src ≠ 2 → g.kept.length < g.lenN - g.pre →
      (∀ h c, ¬(((s.acq.groups.get h).conds.get c).kind = 9 ∧ ((s.acq.groups.get h).conds.get c).src = n.val)) →
      0 < g.upTo (x.key + g.ts - 1) → (∃ y ∈ g.kept, x.key ≤ y.time) →
      Runs (.triggerCommit n) s fun t => OnlyAcq s t ∧ (∀ m, m ≠ n → t.acq.groups.get m = s.acq.groups.get m) ∧
        (t.acq.groups.get n).trig = none ∧ (t.acq.groups.get n).closed = g.closed ∧ ∃ c, (t.acq.groups.get n).commit = some c ∧
          c.ttrig = trigStamp x.stamps ∧ c.mask = trigMask x.stamps ∧ c.late = x.late ∧
          c.short = decide (g.dropped + (g.upTo (x.key + g.ts - 1) - 1) < g.pre) ∧ c.index = min g.pre (g.upTo (x.key + g.ts - 1) - 1)) ∧
  (∀ (s : State) (n : Fin 16), (s.acq.groups.get n).trig = none → Runs (.triggerCommit n) s fun t => OnlyAcq s t ∧ t.acq = s.acq) ∧
  (∀ (s : State) (n : Fin 16) (g : Group), s.acq.groups.get n = g → g.src = 2 → g.dspan ≠ 0 → g.armed = true → g.commit.isSome = true →
      fget g.cfg 23 22 = 0 → Runs (.dspanExpire n) s fun t =>
        OnlyAcq s t ∧ (∀ m, m ≠ n → t.acq.groups.get m = s.acq.groups.get m) ∧ (t.acq.groups.get n).full = true ∧
          (t.acq.groups.get n).armed = false ∧ (t.acq.groups.get n).commit = none ∧ (t.acq.groups.get n).segs = satInc g.segs 0xFFFF ∧
          (t.acq.groups.get n).seq = g.seq + 1 ∧ ∃ y, (t.acq.groups.get n).segAt g.slot = some y ∧ y.samples = g.kept ∧ y.seq = g.seq) ∧
  (∀ (s : State) (n : Fin 16), (s.acq.groups.get n).dspan = 0 → Runs (.dspanExpire n) s fun t => OnlyAcq s t ∧ t.acq = s.acq) ∧
  (∀ (s : State) (n : Fin 16) (slot : BitVec 12), (s.acq.groups.get n).measuring.contains slot.toNat = true → (s.acq.groups.get n).paused = false →
      Runs (.measurementComplete n slot) s fun t => OnlyAcq s t ∧ (∀ m, m ≠ n → t.acq.groups.get m = s.acq.groups.get m) ∧
        (t.acq.groups.get n).measuring.contains slot.toNat = false ∧
        ∀ y ∈ (t.acq.groups.get n).closed, y.slot = slot.toNat → Nat.testBit y.flags.toNat 5 = true) ∧
  (∀ (s : State) (n : Fin 16) (slot : BitVec 12), (s.acq.groups.get n).measuring.contains slot.toNat = false →
      Runs (.measurementComplete n slot) s fun t => OnlyAcq s t ∧ t.acq = s.acq)

/-- R269, R270, R273, R277, R280, R284, R286 to R288, R292, R293: equal windows pass; a mismatch of a running pair is its failure, after which a clean
shadow awaits promotion at the next boundary and, with none, the part is in SAFE; a latent difference makes a pair suspect; the LOCK_CTL commands with
their key; the deadline of a planned swap; and the ends of the test and of the graft of a pair-scope SELFTEST. -/
def Obligations.PairFailureSwapAndGraft : Prop :=
  (∀ (s : State) (i : PairId) (w : MisrWindow), s.portFree → (s.pair i).state.runs = true → (s.lock.cores.pair i).rails w = 1 →
      (∀ x ∈ w.writes, x.1 = x.2) → w.crossingNonCode = false →
      Runs (.misrWindowEnd i w) s fun t =>
        let c := s.lock.cores.pair i
        t.lock = { s.lock with cores := s.lock.cores.setPair i { c with outDelay := (delayed c.outDelay w.lead).2 } } ∧
          t.psm = s.psm ∧ t.portals = s.portals ∧ t.links = s.links) ∧
  (∀ (s : State) (i : PairId) (w : MisrWindow), (s.pair i).state.runs = false →
      Runs (.misrWindowEnd i w) s fun t => t = { s with port := { s.port with hrdy := s.ready } }) ∧
  (∀ (s : State) (i : PairId) (w : MisrWindow), s.portFree → (s.lock.cores.pair i).rails w = 2 → (s.pair i).state = .lead →
      (s.pair i.other).state = .shadow → s.lock.xdisRun = 0 → s.lock.graft = none → (s.pair i).fails < 3 →
      Runs (.misrWindowEnd i w) s fun t => (t.pair i).state = .failed ∧ (t.pair i).fails = (s.pair i).fails + 1 ∧ (t.pair i).admitted = false ∧
        t.pair i.other = s.pair i.other ∧ t.lock.promoteWhy = 1 ∧
        t.lock.misx = ((s.lock.cores.pair i).signs w).1 ^^^ ((s.lock.cores.pair i).signs w).2 ∧ wbit t.lock.evt (pairBit 31 i) = true ∧
        t.psm = s.psm ∧ t.portals = s.portals ∧ t.links = s.links) ∧
  (∀ (s : State) (i : PairId) (w : MisrWindow), s.portFree → (s.lock.cores.pair i).rails w = 2 → (s.pair i).state = .lead →
      (s.pair i.other).state = .shadow → s.lock.xdisRun ≠ 0 → s.lock.graft = none → s.psm.state = .service →
      Runs (.misrWindowEnd i w) s fun t => t.psm.state = .safe ∧ wbit t.psm.safe 1 = true ∧ ∀ j, (t.pair j).admitted = false) ∧
  (∀ (s : State) (i : PairId) (w : MisrWindow), s.portFree → (s.lock.cores.pair i).rails w = 2 → (s.pair i).state = .lead →
      (s.pair i.other).state = .failed → s.lock.graft = none → s.psm.state = .service →
      Runs (.misrWindowEnd i w) s fun t => t.psm.state = .safe ∧ wbit t.psm.safe 0 = true) ∧
  (∀ (s : State) (i : PairId) (w : MisrWindow), s.portFree → (s.lock.cores.pair i).rails w ≠ 1 → (s.lock.cores.pair i).rails w ≠ 2 →
      (s.pair i).state = .shadow → s.lock.promoteWhy = 0 → (s.pair i).fails < 3 →
      Runs (.misrWindowEnd i w) s fun t => (t.pair i).state = .failed ∧ (t.pair i).fails = (s.pair i).fails + 1 ∧ t.pair i.other = s.pair i.other ∧
        wbit t.lock.evt (pairBit 29 i) = true ∧ wbit t.lock.evt 14 = true ∧ t.psm = s.psm ∧ t.portals = s.portals) ∧
  (∀ (s : State) (i : PairId) (d : FpDiff), s.portFree → s.lock.lead = some i → (s.pair i).state = .lead → (s.pair i.other).state = .shadow →
      s.kernelPrint d = 0 →
      (s.fpWhere d i ≠ 0 → s.fpWhere d i.other = 0 → Runs (.fingerprintCompare d) s fun t => (t.pair i).state = .leadSuspect ∧
        t.pair i.other = s.pair i.other ∧ t.lock.plan = some { latent := true, since := s.clock, due := false } ∧ t.psm = s.psm ∧
        t.portals = s.portals) ∧
      (s.fpWhere d i = 0 → s.fpWhere d i.other ≠ 0 → Runs (.fingerprintCompare d) s fun t => (t.pair i.other).state = .suspect ∧
        t.pair i = s.pair i ∧ t.lock.plan = s.lock.plan ∧ t.psm = s.psm ∧ t.portals = s.portals) ∧
      (s.fpWhere d i = 0 → s.fpWhere d i.other = 0 → Runs (.fingerprintCompare d) s fun t =>
        t.lock = { s.lock with fprint := t.lock.fprint } ∧ fget t.lock.fprint 15 0 = fget s.lock.fprint 15 0 ∧ t.psm = s.psm)) ∧
  (∀ (s : State) (q : PlannedSwap), s.portFree → s.lock.plan = some q → Runs .plannedSwapDeadline s fun t =>
      t.lock = { s.lock with plan := some { q with due := true } } ∧ t.psm = s.psm ∧ t.portals = s.portals) ∧
  (∀ s : State, s.portFree → s.portAlive = true → s.serves 0x40044 = true →
      (∀ key, key ≠ 0xA7 → ∀ c ∈ [Instr.lockCtlSwap key, .lockCtlClearInfault key], Runs c s fun t =>
        t.lock = { s.lock with ctlStat := t.lock.ctlStat } ∧ wbit t.lock.ctlStat 30 = true ∧ fget t.lock.ctlStat 3 0 = 1 ∧ t.psm = s.psm) ∧
      (∀ i, s.psm.state = .standby ∨ s.psm.state = .service → s.lock.plan = none → s.lock.lead = some i → (s.pair i).state = .lead →
          s.cleanShadow i.other = true → Runs (.lockCtlSwap 0xA7) s fun t =>
        t.lock = { s.lock with plan := some { latent := false, since := s.clock, due := false }, ctlStat := t.lock.ctlStat } ∧
          wbit t.lock.ctlStat 31 = true ∧ t.psm = s.psm ∧ t.portals = s.portals) ∧
      (s.psm.state = .maintain → Runs (.lockCtlSwap 0xA7) s fun t =>
        t.lock = { s.lock with ctlStat := t.lock.ctlStat } ∧ wbit t.lock.ctlStat 30 = true ∧ fget t.lock.ctlStat 3 0 = 2) ∧
      (s.psm.state = .maintain → Runs (.lockCtlClearInfault 0xA7) s fun t =>
        t.lock = { s.lock with infault := 0, runs := List.replicate 128 0, ctlStat := t.lock.ctlStat } ∧ wbit t.lock.ctlStat 31 = true ∧
          t.psm = s.psm) ∧
      (s.psm.state = .service → Runs (.lockCtlClearInfault 0xA7) s fun t =>
        t.lock = { s.lock with ctlStat := t.lock.ctlStat } ∧ wbit t.lock.ctlStat 30 = true ∧ fget t.lock.ctlStat 3 0 = 2)) ∧
  (∀ (s : State) (g : Graft) (r : AwlRun), s.portFree → s.lock.graft = some g → g.step = 1 →
      (awlPass r = true → Runs (.pairAwlComplete r false) s fun t =>
        t.lock.graft = some { g with step := 2, awlAt := s.clock } ∧ (t.pair g.pair).state = (s.pair g.pair).state ∧ t.psm.state = s.psm.state ∧
          t.portals = s.portals) ∧
      (∀ x, awlPass r = false ∨ x = true → (s.pair g.pair).fails < 3 → (s.pair g.pair).failedSince = false → s.psm.state = .selftest →
          s.psm.pairScope = true → Runs (.pairAwlComplete r x) s fun t =>
        t.lock.graft = none ∧ t.lock.graftWhy = 1 ∧ (t.pair g.pair).state = .failed ∧ (t.pair g.pair).fails = (s.pair g.pair).fails + 1 ∧
          t.psm.state = .service ∧ t.psm.pairScope = false ∧ t.portals = s.portals)) ∧
  (∀ (s : State) (g : Graft), s.portFree → s.lock.graft = some g → g.step = 2 → s.psm.state = .selftest → s.psm.pairScope = true →
      Runs .graftTimeout s fun t => t.lock.graft = none ∧ t.lock.graftWhy = 2 ∧ (t.pair g.pair).state = (s.pair g.pair).before ∧
        (t.pair g.pair).fails = (s.pair g.pair).fails ∧ t.psm.state = .service ∧ t.portals = s.portals) ∧
  (∀ s : State, s.lock.graft = none → Runs .graftTimeout s fun t => t = { s with port := { s.port with hrdy := s.ready } })

/-- R97 to R103: a password is computed from the bytes written, or refused at once; the end of the computation binds it to its channel or counts a
rejection with its hold-off; a held password lapses and a hold-off ends; the seal switches are read, and one that drops in MAINTAIN is recorded; a key operation
burns its record, or is refused with its reason, and its check word comes last. -/
def Obligations.PasswordsSealsAndKeys : Prop :=
  (∀ (s : State) (w : Word), s.portFree → s.portAlive = true → s.serves 0x50010 = true →
      (wbit w 31 = false → Runs (.passwordSubmit w) s fun t => t.sec = s.sec ∧ t.psm = s.psm) ∧
      (s.sec.holdUntil.isSome = true → Runs (.passwordSubmit w) s fun t => t.sec = s.sec ∧ t.psm = s.psm) ∧
      (∀ g, wbit w 31 = true → s.sec.holdUntil = none → s.sec.pwJob = none → s.harn.image = some g → 0 < fget w 4 0 → fget w 4 0 ≤ 16 →
        Runs (.passwordSubmit w) s fun t => t.sec = { s.sec with
          pwd := .all 0, pwJob := some (PwJob.mk ⟨.host,
              0⟩ (slice (wordBytes s.sec.pwd.toList) 0 (fget w 4 0)) g.salt g.pwHash) } ∧ t.psm = s.psm ∧ t.portals = s.portals) ∧
      (∀ g, wbit w 31 = true → s.sec.holdUntil = none → s.sec.pwJob = none → s.harn.image = some g → fget w 4 0 = 0 ∨ 16 < fget w 4 0 →
          s.sec.failRun < 7 → Runs (.passwordSubmit w) s fun t => t.sec = { s.sec with
          failed := true, failRun := s.sec.failRun + 1, holdUntil := some (s.clock + 1000000000),
          log := t.sec.log, nextSeq := s.sec.nextSeq + 1, unmirrored := t.sec.unmirrored,
              logLost := t.sec.logLost } ∧ Logged s.sec tagPASS (BitVec.ofNat 32 (s.sec.failRun + 1)) 1 1 t.sec ∧ t.psm = s.psm) ∧
      (wbit w 31 = true → s.sec.holdUntil = none → s.sec.pwJob = none → s.harn.image = none → fget w 4 0 = 0 →
        Runs (.passwordSubmit w) s fun t => t.sec = { s.sec with
          held := s.sec.held.setChan .host (some (HeldPassword.mk ⟨.host, 0⟩ s.clock)), failRun := 0 }) ∧
      (wbit w 31 = true → s.sec.holdUntil = none → s.sec.pwJob = none → s.harn.image = none → 0 < fget w 4 0 → fget w 4 0 ≤ 16 →
        Runs (.passwordSubmit w) s fun t => t.sec = { s.sec with failed := true })) ∧
  (∀ (s : State) (j : PwJob), s.portFree → s.sec.pwJob = some j →
      ((pbkdf2 j.bytes j.salt == j.hash && j.hash != zeros 32) = true → Runs .passwordComputeComplete s fun t => t.sec = { s.sec with
          pwJob := none, held := s.sec.held.setChan j.src.ch (some ⟨j.src, s.clock⟩), failRun := 0 } ∧ t.psm = s.psm ∧ t.portals = s.portals) ∧
      ((pbkdf2 j.bytes j.salt == j.hash && j.hash != zeros 32) = false → Runs .passwordComputeComplete s fun t => t.sec = { s.sec with
          pwJob := none, failed := true, failRun := satInc s.sec.failRun 255,
          holdUntil := some (s.clock + if 7 ≤ s.sec.failRun then 60000000000 else 1000000000),
          log := t.sec.log, nextSeq := s.sec.nextSeq + 1, unmirrored := t.sec.unmirrored, logLost := t.sec.logLost } ∧
            Logged s.sec tagPASS (BitVec.ofNat 32 (satInc s.sec.failRun 255)) 1 (chanCode j.src.ch) t.sec ∧ t.psm = s.psm ∧ t.portals = s.portals)) ∧
  (∀ (s : State) (ch : Channel), s.portFree → Runs (.passwordExpire ch) s fun t =>
      t.sec = { s.sec with held := s.sec.held.setChan ch none } ∧ t.psm = s.psm ∧ t.portals = s.portals) ∧
  (∀ s : State, s.portFree → Runs .passwordHoldoffEnd s fun t => t.sec = { s.sec with holdUntil := none } ∧ t.psm = s.psm ∧ t.portals = s.portals) ∧
  (∀ (s : State) (sw : BitVec 4), s.portFree → s.psm.porHeld = false → s.psm.resetLow = false →
      s.fuse.compat = false ∨ s.psm.state ≠ .maintain ∨ s.sec.sealSw ≠ 15 ∨ sw = 15 → Runs (.sealSwitchChange sw) s fun t =>
        t.sec = { s.sec with sealSw := sw } ∧ t.psm = s.psm ∧ t.portals = s.portals) ∧
  (∀ (s : State) (sw : BitVec 4), s.portFree → s.psm.porHeld = false → s.psm.resetLow = false → s.fuse.compat = true → s.psm.state = .maintain →
      s.sec.sealSw = 15 → sw ≠ 15 → Runs (.sealSwitchChange sw) s fun t =>
        t.sec = { s.sec with sealSw := sw, drop := true, log := t.sec.log, nextSeq := s.sec.nextSeq + 1, unmirrored := t.sec.unmirrored,
                             logLost := t.sec.logLost } ∧
          Logged s.sec tagSEAL (BitVec.ofNat 32 sw.toNat) 0 4 t.sec ∧ t.psm = s.psm ∧ t.portals = s.portals) ∧
  (∀ (s : State) (k : Fin 4), s.portFree → s.portAlive = true → s.serves 0x50020 = true → s.sec.keyJob = none →
      (s.psm.state = .maintain → s.harn.recovery = false → s.sealLow = false → s.fuse.valid k = false → s.fuse.void.getLsbD k.val = false →
          (s.fuse.keys.get k).cells = [] →
        Runs (.keyProgram k) s fun t => t.sec.keyJob = some (KeyJob.mk false k s.sec.keyValue) ∧
          t.fuse = s.fuse.burnData (.key k) s.sec.keyValue.toNat ∧ t.psm = s.psm ∧ t.harn = s.harn) ∧
      (s.psm.state = .maintain → s.harn.recovery = false → s.sealLow = false → s.fuse.valid k = true →
        Runs (.keyProgram k) s fun t => t.sec.keyJob = none ∧ t.fuse = s.fuse ∧ wbit t.sec.keystat 29 = true ∧ fget t.sec.keystat 3 0 = 2) ∧
      (∀ g, s.psm.state = .maintain → s.harn.recovery = false → s.sealLow = false → s.harn.image = some g → g.slot ≠ k.val →
          s.fuse.goodSlots ≠ [k] → Runs (.keyRevoke k) s fun t => t.sec.keyJob = some (KeyJob.mk true k s.sec.keyValue) ∧
          t.fuse = s.fuse.burnData (.revoke k) 1 ∧ t.psm = s.psm ∧ t.harn = s.harn) ∧
      (∀ g, s.psm.state = .maintain → s.harn.recovery = false → s.sealLow = false → s.harn.image = some g → g.slot ≠ k.val →
          s.fuse.goodSlots = [k] → Runs (.keyRevoke k) s fun t =>
          t.sec.keyJob = none ∧ t.fuse = s.fuse ∧ wbit t.sec.keystat 29 = true ∧ fget t.sec.keystat 3 0 = 4) ∧
      (s.psm.state ≠ .maintain → ∀ c ∈ [Instr.keyProgram k, .keyRevoke k], Runs c s fun t =>
          t.sec.keyJob = none ∧ t.fuse = s.fuse ∧ wbit t.sec.keystat 29 = true ∧ fget t.sec.keystat 3 0 = 1)) ∧
  (∀ (s : State) (j : KeyJob), s.portFree → s.sec.keyJob = some j →
      (Runs (.keyOperationComplete true) s fun t => t.fuse = (s.fuse.burnCheck j.rcd.1 j.rcd.2).reread ∧
          t.sec = { s.sec with
            keyJob := none, keystat := t.sec.keystat, log := t.sec.log, nextSeq := s.sec.nextSeq + 1, unmirrored := t.sec.unmirrored,
                logLost := t.sec.logLost } ∧
          Logged s.sec (if j.revoke then tagKREV else tagKEYP) (BitVec.ofNat 32 j.slot.val) 0 1 t.sec ∧
          wbit t.sec.keystat 30 = true ∧ fget t.sec.keystat 3 0 = 0 ∧
          t.psm = s.psm ∧ t.harn = s.harn) ∧
      (Runs (.keyOperationComplete false) s fun t => t.fuse = s.fuse.burnCheck j.rcd.1 j.rcd.2 ∧
          t.sec = { s.sec with
            keyJob := none, keystat := t.sec.keystat, log := t.sec.log, nextSeq := s.sec.nextSeq + 1, unmirrored := t.sec.unmirrored,
                logLost := t.sec.logLost } ∧
          Logged s.sec (if j.revoke then tagKREV else tagKEYP) (BitVec.ofNat 32 j.slot.val) 2 1 t.sec ∧
          wbit t.sec.keystat 29 = true ∧ fget t.sec.keystat 3 0 = 7 ∧
          t.psm = s.psm ∧ t.harn = s.harn))

/-- R92, R93, R95, R104 to R106: a flash command starts in MAINTAIN where nothing forbids it and is refused with its reason otherwise; its end writes the
flash, judges the region or takes its image; a tick of the fabric drives the lead's exports, and copies that differ leave the destinations and fail their pair;
the harness of a portal die ticks alike, and copies that differ put that portal alone into FAULT. -/
def Obligations.FlashCommandsAndFabricTicks : Prop :=
  (∀ (s : State) (r : Region), s.portFree → s.portAlive = true → s.serves 0x4020 = true →
      (s.psm.state ≠ .maintain → ∀ c ∈ [Instr.flashCopy r, .flashErase r, .flashProgram r, .flashVerify r, .flashActivate r], Runs c s fun t =>
        t.harn = { s.harn with flstat := t.harn.flstat } ∧ wbit t.harn.flstat 29 = true ∧ fget t.harn.flstat 27 24 = 1) ∧
      (s.psm.state = .maintain → s.harn.job.isSome = true →
        ∀ c ∈ [Instr.flashCopy r, .flashErase r, .flashProgram r, .flashVerify r, .flashActivate r], Runs c s fun t =>
        t.harn.job = s.harn.job ∧ t.harn.flash = s.harn.flash ∧ wbit t.harn.flstat 29 = true ∧ fget t.harn.flstat 27 24 = 7) ∧
      (s.psm.state = .maintain → s.harn.job = none → s.sealLow = false →
        (s.harn.recovery = false → s.harn.isActive r = false → Runs (.flashCopy r) s fun t =>
          t.harn.job = some (.copy r) ∧ t.harn.regOk r = false ∧ t.harn.flash = s.harn.flash ∧ t.psm = s.psm) ∧
        (s.harn.recovery = false → s.harn.isActive r = true → Runs (.flashCopy r) s fun t =>
          t.harn.job = none ∧ t.harn.flash = s.harn.flash ∧ wbit t.harn.flstat 29 = true ∧ fget t.harn.flstat 27 24 = 2) ∧
        (s.harn.isActive r = false → Runs (.flashErase r) s fun t =>
          t.harn.job = some (.erase r) ∧ t.harn.regOk r = false ∧ t.harn.flash = s.harn.flash ∧ t.psm = s.psm) ∧
        (s.harn.isActive r = false → s.harn.fladdr &&& 0xFFC000FF = 0 → Runs (.flashProgram r) s fun t =>
          t.harn.job = some (.program r (fget s.harn.fladdr 21 8) (wordBytes s.harn.buf)) ∧ t.harn.regOk r = false ∧
            t.harn.flash = s.harn.flash ∧ t.psm = s.psm) ∧
        (s.harn.isActive r = false → s.harn.fladdr &&& 0xFFC000FF ≠ 0 → Runs (.flashProgram r) s fun t =>
          t.harn.job = none ∧ t.harn.flash = s.harn.flash ∧ wbit t.harn.flstat 29 = true ∧ fget t.harn.flstat 27 24 = 3) ∧
        (Runs (.flashVerify r) s fun t => t.harn.job = some (.verify r) ∧ t.harn.flash = s.harn.flash ∧ t.psm = s.psm) ∧
        (s.harn.regOk r = true → Runs (.flashActivate r) s fun t =>
          t.harn.job = some (.activate r) ∧ t.harn.image = s.harn.image ∧ t.harn.flash = s.harn.flash ∧ t.psm = s.psm) ∧
        (s.harn.regOk r = false → Runs (.flashActivate r) s fun t =>
          t.harn.job = none ∧ t.harn.image = s.harn.image ∧ wbit t.harn.flstat 29 = true ∧ fget t.harn.flstat 27 24 = 6))) ∧
  (∀ (s : State) (r : Region), s.portFree →
      (s.harn.job = some (.erase r) → Runs (.flashCommandComplete true) s fun t =>
        t.harn.flash = memErase s.harn.flash (regionBase r) regionSize ∧ t.harn.job = none ∧ wbit t.harn.flstat 30 = true ∧
          t.harn.image = s.harn.image ∧ t.psm = s.psm ∧ t.portals = s.portals) ∧
      (∀ b d, s.harn.job = some (.program r b d) → Runs (.flashCommandComplete true) s fun t =>
        t.harn.flash = memPut 0xFF s.harn.flash (regionBase r + 256 * b) d ∧ t.harn.job = none ∧ wbit t.harn.flstat 30 = true ∧
          t.harn.image = s.harn.image ∧ t.psm = s.psm ∧ t.portals = s.portals) ∧
      (s.harn.job = some (.verify r) → Runs (.flashCommandComplete true) s fun t =>
        t.harn.regOk r = decide ((checkImage s.harn.flash s.fuse r).why = 0) ∧
          fget t.harn.flstat 18 16 = (checkImage s.harn.flash s.fuse r).why % 8 ∧ t.harn.flash = s.harn.flash ∧ t.harn.job = none ∧
          t.harn.image = s.harn.image ∧ t.psm = s.psm ∧ t.portals = s.portals) ∧
      (∀ g, s.harn.job = some (.activate r) → (checkImage s.harn.flash s.fuse r).image = some g → Runs (.flashCommandComplete true) s fun t =>
        t.harn.image = some g ∧ t.harn.job = none ∧ wbit t.harn.flstat 30 = true ∧ t.psm.grant = g.grant) ∧
      (s.harn.job = some (.activate r) → (checkImage s.harn.flash s.fuse r).image = none → Runs (.flashCommandComplete true) s fun t =>
        t.harn.image = s.harn.image ∧ t.harn.job = none ∧ t.harn.regOk r = false ∧ wbit t.harn.flstat 29 = true ∧ fget t.harn.flstat 27 24 = 6) ∧
      (s.harn.job = some (.verify r) → Runs (.flashCommandComplete false) s fun t =>
        t.harn.job = none ∧ t.harn.flash = s.harn.flash ∧ wbit t.harn.flstat 29 = true ∧ fget t.harn.flstat 27 24 = 5)) ∧
  (∀ s : State, s.harn.job = none → s.portFree → ∀ ok, Runs (.flashCommandComplete ok) s fun t => t.harn = s.harn) ∧
  (∀ (s : State) (i : PairId) (u : List FabricUpset), s.portFree → s.lock.lead = some i → (s.pair i.other).state = .shadow → s.lock.graft = none →
      s.lock.promoteWhy = 0 →
      let r := fun (j : PairId) => (s.fabric.pairs.pair j).tick s.hostCells s.hostTimers s.fabricSrc (upsetCells u j false) (upsetCells u j true)
      ((r i).2 = none → (r i.other).2 = none → Runs (.fabricTick u) s fun t =>
        (∀ j, t.fabric.pairs.pair j = (r j).1) ∧ t.fabric.dest = (r i).1.copyA.destWord s.hostCells 2176 ∧ t.lock = s.lock ∧ t.psm = s.psm ∧
          t.portals = s.portals) ∧
      (∀ d, (r i).2 = some d → (r i.other).2 = none → s.lock.xdisRun = 0 → (s.pair i).fails < 3 → Runs (.fabricTick u) s fun t =>
        t.fabric.dest = s.fabric.dest ∧ (t.pair i).state = .failed ∧ t.lock.promoteWhy = 3 ∧ wbit t.lock.evt (pairBit 27 i) = true ∧
          t.psm = s.psm ∧ t.portals = s.portals) ∧
      (∀ d, (r i).2 = none → (r i.other).2 = some d → (s.pair i.other).fails < 3 → Runs (.fabricTick u) s fun t =>
        t.fabric.dest = (r i).1.copyA.destWord s.hostCells 2176 ∧ (t.pair i.other).state = .failed ∧ t.pair i = s.pair i ∧ t.psm = s.psm ∧
          t.portals = s.portals)) ∧
  (∀ (s : State) (n : Fin 256), Runs (.fabricTimerExpire n) s fun t =>
      t = { s with fabric := t.fabric, port := { s.port with hrdy := t.port.hrdy } } ∧ t.fabric.dest = s.fabric.dest ∧
        ∀ i, t.fabric.pairs.pair i = { (s.fabric.pairs.pair i) with
          copyA := (s.fabric.pairs.pair i).copyA.expire s.hostCells s.hostTimers (s.fabric.pairs.pair i).src.read n.val,
          copyB := (s.fabric.pairs.pair i).copyB.expire s.hostCells s.hostTimers (s.fabric.pairs.pair i).src.read n.val }) ∧
  (∀ (s : State) (p : PortalId) (n : Fin 32), (s.portals.get p).calm →
      RunsPortal p (.portalHarnessTimerExpire p n) s fun P => UpToFrames ((s.portals.get p).harnessExpire n.val) P ∧
        P.harness.dest = (s.portals.get p).harness.dest) ∧
  (∀ (s : State) (p : PortalId) (u : List HarnessUpset) (P : PortalState), s.portals.get p = P → P.calm →
      let k := fun (two : Bool) => ((if two then P.harness.chan2 else P.harness.chan1).tick P.harnessCells P.harnessTimers P.harnessSrc.read).upset
        P.harnessCells ((u.filter fun x => x.chan2 == two).map fun x => x.cell.toNat)
      (holds P.units tagHARN 1 = false → RunsPortal p (.portalHarnessTick p u) s fun Q => UpToFrames P Q) ∧
      (∀ d, holds P.units tagHARN 1 = true → copyMismatch P.harnessCells (k false) (k true) = some d →
        RunsPortal p (.portalHarnessTick p u) s fun Q => Q.cls = .fault ∧ Q.units = P.units ∧
          ∀ o, (Q.sos.so o).perm = false ∧ (Q.sos.so o).on = false) ∧
      (holds P.units tagHARN 1 = true → P.link.limp = false → copyMismatch P.harnessCells (k false) (k true) = none →
        RunsPortal p (.portalHarnessTick p u) s fun Q =>
          UpToFrames { P with harness := { chan1 := k false, chan2 := k true, src := P.harnessSrc, dest := (k false).destWord P.harnessCells 64 },
                              sos := Q.sos, link := Q.link } Q ∧
          (Q.sos.so .a).perm = wbit ((k false).destWord P.harnessCells 64) 0 ∧ (Q.sos.so .b).perm = wbit ((k false).destWord P.harnessCells 64) 1))

/-- R115, R135, R138: whatever a kernel cycle does, a portal has its opening permission only while both zero-speed lines and its release line are agreed
as 1, the part is under SERVICE rules, and the portal is released and held in none of ISOLATED, LIMP, LOCKED_OUT and FAULT; and its safety outputs are
demanded only in CLOSED_LOCKED, or in ISOLATED with RETURN_READY. -/
def Obligations.KernelOutputsObeyTheirGuards : Prop :=
  ∀ (s : State) (k : KernelInputs), s.portFree → s.kernelRuns = true → (s.boundary k).lock.lead.isSome = true →
    Runs (.kernelCycle k) s fun t => ∀ p,
      ((t.sp p).openPermit = true → t.seq.inBit 0 = true ∧ t.seq.inBit 1 = true ∧ t.seq.inBit (4 + p.val) = true ∧ t.inService = true ∧
        (t.sp p).released = true ∧ (t.sp p).cls.held = false) ∧
      ((t.sp p).soDemand = true → t.inService = true ∧ (t.sp p).released = true ∧
        ((t.sp p).cls = .closedLocked ∨ ((t.sp p).cls = .isolated ∧ (t.sp p).returnReady = true)))

/-- R113, R116, R132, R138, R143, R275 to R277: a kernel cycle counts itself and takes the vector that its captures agree on, a faulty word at its fail-safe
value, and with no pair in the lead nothing happens; the timers of the kernel set their marks where they run; and a portal command waits for the next cycle. -/
def Obligations.KernelCycleTimersAndPortalCommands : Prop :=
  (∀ (s : State) (k : KernelInputs), s.kernelRuns = false → s.time.stepPend = none →
      Runs (.kernelCycle k) s fun t => t = { s with port := { s.port with hrdy := s.ready } }) ∧
  (∀ (s : State) (k : KernelInputs) (i : PairId), s.portFree → s.psm.state = .service → s.lock.lead = some i → s.lock.promoteWhy = 0 →
      s.psm.busy = none → s.lock.plan = none → s.lock.graft = none → s.lock.xdisRun = 0 → s.time.stepPend = none →
      crossResult k.xsig s.lock.sig = .equal →
      Runs (.kernelCycle k) s fun t => t.seq.cycle = s.seq.cycle + 1 ∧ t.psm = { s.psm with accepted := none } ∧ t.lock.pairs = s.lock.pairs ∧
          t.clock = s.clock ∧
        t.time = s.time ∧ t.fabric = s.fabric ∧
        (∀ n, n < 128 → t.seq.agreed.getD n 0 = agreedWord s.lock.infault n (s.capture n)) ∧ t.portals = s.portals ∧
        ∀ p, (s.link p).up = false → (s.link p).phase ≠ .running → t.links.get p = s.links.get p) ∧
  (∀ (bad : BitVec 128) (n : Nat) (w : Word), 32 ≤ n → n < 96 → n % 16 = 0 → (∃ i, i < 16 ∧ wbit bad (n + i) = true) → wbit (agreedWord bad n w) 16 = false) ∧
  (∀ (s : State) (p : PortalId), s.portFree →
      ((s.sp p).custValid = true → (seqRec (s.seqTable p) (s.sp p).cust).timeout ≠ 0 → Runs (.stateTimeout p) s fun t =>
        t.sp p = { (s.sp p) with tmo := true } ∧ (∀ q, q ≠ p → t.sp q = s.sp q) ∧ t.psm = s.psm ∧ t.portals = s.portals ∧ t.links = s.links) ∧
      ((s.sp p).custValid = false → Runs (.stateTimeout p) s fun t => ∀ q, t.sp q = s.sp q) ∧
      (∀ x, (s.sp p).agreeAt = some x → Runs (.isoAgreeTimer p) s fun t =>
        t.sp p = { (s.sp p) with agreed500 := true } ∧ (∀ q, q ≠ p → t.sp q = s.sp q) ∧ t.psm = s.psm ∧ t.portals = s.portals ∧ t.links = s.links) ∧
      ((s.sp p).agreeAt = none → Runs (.isoAgreeTimer p) s fun t => ∀ q, t.sp q = s.sp q) ∧
      (∀ x, s.seq.zsDiffAt = some x → s.seq.zsDisc = false → Runs .zsDiscrepancyTimer s fun t =>
        t.seq.zsDisc = true ∧ t.seq.zsDiscEv = true ∧ (∀ q, t.sp q = s.sp q) ∧ t.psm = s.psm ∧ t.portals = s.portals) ∧
      (s.seq.zsDiffAt = none → Runs .zsDiscrepancyTimer s fun t => t.seq.zsDisc = s.seq.zsDisc ∧ t.seq.zsDiscEv = s.seq.zsDiscEv ∧
        ∀ q, t.sp q = s.sp q) ∧
      (∀ r x, (s.sp p).splitAt.get (roleIdx r) = some x → Runs (.roleDiscrepancyTimer p r) s fun t =>
        t.sp p = { (s.sp p) with disc := putBit (s.sp p).disc (roleIdx r).val true } ∧ (∀ q, q ≠ p → t.sp q = s.sp q) ∧ t.psm = s.psm ∧
          t.portals = s.portals ∧ t.links = s.links) ∧
      (∀ r, (s.sp p).splitAt.get (roleIdx r) = none → Runs (.roleDiscrepancyTimer p r) s fun t => ∀ q, t.sp q = s.sp q)) ∧
  (∀ (s : State) (p : PortalId) (key : Byte), s.portFree → s.portAlive = true → s.serves 0x6034 = true →
      (key ≠ 0x5E → ∀ c ∈ [Instr.seqPcmdClearFault key p, .seqPcmdResetLockout key p], Runs c s fun t =>
        wbit t.seq.pcmdStat 30 = true ∧ fget t.seq.pcmdStat 3 0 = 1 ∧ t.seq.pcmd = s.seq.pcmd ∧ t.seq.pcmdQueue = s.seq.pcmdQueue ∧
          (∀ q, t.sp q = s.sp q) ∧ t.sec = s.sec) ∧
      (key = 0x5E → s.seq.pcmd = none → s.seq.pcmdQueue = [] → Runs (.seqPcmdClearFault key p) s fun t =>
        t.seq.pcmd = some (PortalCmd.mk ⟨.host, 0⟩ 0 p 1 (s.pwHeld .host) false) ∧ wbit t.seq.word98 31 = true ∧ t.seq.pcmdQueue = [] ∧
          (∀ q, t.sp q = s.sp q) ∧ t.sec = s.sec) ∧
      (key = 0x5E → s.seq.pcmd = none → s.seq.pcmdQueue = [] → Runs (.seqPcmdResetLockout key p) s fun t =>
        t.seq.pcmd = some (PortalCmd.mk ⟨.host, 0⟩ 0 p 2 (s.pwHeld .host) false) ∧ wbit t.seq.word98 31 = true ∧ t.seq.pcmdQueue = [] ∧
          (∀ q, t.sp q = s.sp q) ∧ t.sec = s.sec) ∧
      (∀ c, key = 0x5E → s.seq.pcmd = some c → Runs (.seqPcmdClearFault key p) s fun t =>
        t.seq.pcmd = some c ∧ t.seq.pcmdQueue = s.seq.pcmdQueue ++ [PortalCmd.mk ⟨.host, 0⟩ 0 p 1 (s.pwHeld .host) false] ∧
          t.seq.word98 = s.seq.word98))

/-- R23, R27, R150, R159, R230, R304, R324, R327, R328, R129: what a portal die does with a COMMAND frame, in the order of R23 where it refuses the motion, and
what each motion and each order of it does once. -/
def Obligations.CommandFramesMotionsAndOrders : Prop :=
  (∀ (s : State) (p : PortalId) (h : FrameHdr) (f : CommandFrame) (x y : Bool) (P : PortalState), s.portals.get p = P → P.calm → P.cls ≠ .fault →
      (P.link.up = false → RunsFrame p (.commandReceived p h f x y) s fun Q => UpToFrames P Q) ∧
      (P.link.up = true → P.link.fin.accept h = none → RunsFrame p (.commandReceived p h f x y) s fun Q => UpToFrames P Q) ∧
      (∀ e, P.link.up = true → P.link.fin.accept h = some e → P.link.takeover ≠ .ready →
        RunsFrame p (.commandReceived p h f x y) s fun Q => UpToLinkEnd { P with link := { P.link with early := satInc P.link.early 255 } } Q) ∧
      (∀ e, P.link.up = true → P.link.fin.accept h = some e → P.link.takeover = .ready → P.link.limp = false → P.jogging = false →
        (∀ g, P.link.last = some g → g.mseq ≠ f.mseq) →
        (P.acting = false → P.ob.lockCause = 0 → x = false → guardedOf f.cls.toNat ≠ .fault → f.dstate = 5 → wbit f.flags 0 = true → wbit f.flags 1 = true →
            (∀ a, P.motionAllowed (guardedOf f.cls.toNat) (f.motion.get a) = true) →
          RunsFrame p (.commandReceived p h f x y) s fun Q => Q.link.last = some f ∧ Q.link.orderDue = f.order ∧
            (∀ a, Q.link.motionDue.get a = if motionOp (f.motion.get a) = 0 then none else some (f.motion.get a)) ∧
            Q.cls = guardedOf f.cls.toNat ∧ Q.cust = (f.cust &&& 0x3F).toNat ∧ (Q.sos.so .a).dem = wbit f.flags 2 ∧
            (Q.sos.so .b).dem = wbit f.flags 3 ∧ Q.refuseCnt = P.refuseCnt ∧ Q.link.failsafe = false ∧ Q.link.keeperArmed = false) ∧
        (∀ a, motionOp (f.motion.get a) ≠ 0 → f.dstate ≠ 5 ∨ wbit f.flags 0 = false →
          RunsFrame p (.commandReceived p h f x y) s fun Q => Q.link.last = some f ∧
            Q.link.motionDue = (if wbit f.flags 0 = true ∨ P.link.failsafe = true then P.link.motionDue else .all none) ∧
            Q.refuseWhy = (if f.dstate ≠ 5 then 1 else 2) ∧ Q.refuseCnt = satInc P.refuseCnt 0xFFFF ∧ (Q.sos.so .a).dem = wbit f.flags 2) ∧
        (∀ a, motionOp (f.motion.get a) ≠ 0 → f.dstate = 5 → wbit f.flags 0 = true → P.ownMotion = true ∨ x = true →
          RunsFrame p (.commandReceived p h f x y) s fun Q => Q.link.last = some f ∧ Q.link.motionDue = P.link.motionDue ∧ Q.refuseWhy = 4 ∧
            Q.refuseCnt = satInc P.refuseCnt 0xFFFF))) ∧
  (∀ (s : State) (p : PortalId) (a : AxisId) (P : PortalState), s.portals.get p = P → P.calm → P.cls ≠ .fault →
      (P.link.motionDue.get a = none → ∀ c ∈ [Instr.motionRunProfile p a, .motionControlledStop p a, .motionDisable p a],
        RunsPortal p c s fun Q => UpToFrames P Q) ∧
      (∀ b c, P.link.motionDue.get a = some b → motionOp b = 1 → P.holding = false → P.prof (motionProf b) = some c → P.profReady c = true →
          P.supply.gateUv = false → (∀ d ∈ P.sameRun a b, (P.axes.get d).drive = .torqueOff ∧ P.canEnable d = true) →
          RunsPortal p (.motionRunProfile p a) s fun Q => Q.cls = P.cls ∧
        (∀ d ∈ P.sameRun a b, (Q.axes.get d).precharge = true ∧ (Q.axes.get d).queued = some (runByte (motionProf b)) ∧ (Q.axes.get d).enabled = true ∧
          (Q.axes.get d).atEnd = false ∧ Q.link.motionDue.get d = none) ∧
        ∀ d, (P.sameRun a b).contains d = false → Q.axes.get d = P.axes.get d ∧ Q.link.motionDue.get d = P.link.motionDue.get d) ∧
      (∀ b, P.link.motionDue.get a = some b → motionOp b = 1 → P.holding = true → RunsPortal p (.motionRunProfile p a) s fun Q =>
        (∀ d ∈ P.sameRun a b, Q.link.motionDue.get d = none ∧ ∃ q, Q.link.kept.get d = some (b, q)) ∧
          ∀ d, Q.axes.get d = if (P.sameRun a b).contains d then { (P.axes.get d) with atEnd := false, holdRed := false } else P.axes.get d) ∧
      (∀ b c, P.link.motionDue.get a = some b → motionOp b = 1 → P.holding = false → P.prof (motionProf b) = some c → P.profReady c = false →
          RunsPortal p (.motionRunProfile p a) s fun Q =>
        (∀ d, Q.axes.get d = if (P.sameRun a b).contains d then (P.axes.get d).flag 6 else P.axes.get d) ∧
          ∀ d ∈ P.sameRun a b, Q.link.motionDue.get d = none) ∧
      (∀ b m, P.link.motionDue.get a = some b → motionOp b = 2 → (P.axes.get a).motion = some m → m.why = .profile → (P.axes.get a).drive = .run →
          (P.axes.get a).precharge = false → RunsPortal p (.motionControlledStop p a) s fun Q =>
        ((Q.axes.get a).motion = none ∨ ∃ n, (Q.axes.get a).motion = some n ∧ n.why = .controlledStop) ∧
          (∀ d, d ≠ a → Q.axes.get d = P.axes.get d) ∧ Q.link.motionDue.get a = none) ∧
      (∀ b, P.link.motionDue.get a = some b → motionOp b = 3 → (P.axes.get a).moving = false → RunsPortal p (.motionDisable p a) s fun Q =>
        UpToFrames { P with axes := P.axes.set a { (P.axes.get a).off with atEnd := false }, link := { P.link with motionDue := P.link.motionDue.set a none } } Q)) ∧
  (∀ (s : State) (p : PortalId) (P : PortalState), s.portals.get p = P → P.calm →
      (P.link.orderDue = 0 → ∀ c ∈ [Instr.orderShutdown p, .orderLowRate p, .orderLockoutReset p, .orderClearFault p],
        RunsPortal p c s fun Q => UpToFrames P Q) ∧
      (P.link.orderDue = 1 → RunsPortal p (.orderShutdown p) s fun Q => Q.link.failsafe = true ∧ Q.link.ordered = true ∧ Q.link.orderDue = 0 ∧
        Q.link.limp = false ∧ (∀ o, (Q.sos.so o).on = false) ∧ Q.cls = P.cls) ∧
      (P.link.orderDue = 2 → RunsPortal p (.orderLowRate p) s fun Q => Q.link.failsafe = true ∧ Q.link.lowRate = true ∧ Q.link.orderDue = 0 ∧
        Q.link.fin.lanes = P.link.fin.lanes &&& 1 ∧ (∀ o, (Q.sos.so o).on = false) ∧ Q.cls = P.cls) ∧
      (P.link.orderDue = 3 → P.cls ≠ .lockedOut → RunsPortal p (.orderLockoutReset p) s fun Q =>
        Q.ob.rstWhy = 1 ∧ Q.ob.selftest = P.ob.selftest ∧ Q.link.orderDue = 0 ∧ Q.axes = P.axes ∧ Q.cls = P.cls) ∧
      (P.link.orderDue = 3 → P.resetWhy p = 0 → P.ob.selftest = none → RunsPortal p (.orderLockoutReset p) s fun Q =>
        UpToFrames { P with ob := { P.ob with selftest := some .remoteReset }, link := { P.link with orderDue := 0 } } Q) ∧
      (P.link.orderDue = 4 → P.cls = .fault → P.faultPresent = false → P.ob.lockCause = 0 → P.link.limpN = false → P.link.limp = false →
        RunsPortal p (.orderClearFault p) s fun Q => Q.cls = guardedOf P.lastCls ∧ (∀ a, (Q.axes.get a).trip = false) ∧
          (∀ o, (Q.sos.so o).fault = false) ∧ Q.link.orderDue = 0 ∧ (P.released = true → Q.link.failsafe = false)) ∧
      (P.link.orderDue = 4 → P.cls = .fault → P.faultPresent = true → RunsPortal p (.orderClearFault p) s fun Q =>
        UpToFrames { P with link := { P.link with orderDue := 0 } } Q))

/-- R302, R305, R308 to R310, R312, R316 to R321, R324, R327, R329, R332: the portal side of a girth link. A frame that is not accepted changes nothing; a
keeper service that fits advances the key, and a wrong or missing one while the keeper is armed ends in link fault; TIME frames trim or step the portal's time;
CONFIG requests read, write, download and acknowledge; a confirming HELLO completes the link; the hold window, LIMP_N and low-rate mode. -/
def Obligations.PortalSideOfTheLink : Prop :=
  (∀ (s : State) (p : PortalId) (h : FrameHdr) (P : PortalState), s.portals.get p = P → P.calm → P.link.up = false ∨ P.link.fin.accept h = none →
      (∀ f, RunsFrame p (.keeperReceived p h f) s fun Q => UpToFrames P Q) ∧
      (∀ d, ¬s.retraining p → RunsFrame p (.timeFrameReceived p h d) s fun Q => UpToFrames P Q) ∧
      (∀ f, ∀ c ∈ [Instr.configRead p h f, .configWrite p h f, .configDlChunk p h f, .configDlEnd p h f false, .configReadbackAck p h f false,
        .configTest p h f true], RunsFrame p c s fun Q => UpToFrames P Q)) ∧
  (∀ (s : State) (p : PortalId) (h : FrameHdr) (e : LinkEnd) (P : PortalState), s.portals.get p = P → P.calm → P.cls ≠ .fault → P.link.up = true →
      P.link.fin.accept h = some e →
      (∀ f : KeeperFrame, P.link.lowRate = false → f.key = P.link.keeperKey → f.serve = BitVec.ofNat 16 P.link.keeperServe →
          s.clock - P.link.keeperAt ≤ 2000000 → P.link.keeperServe = 1 ∨ 500000 ≤ s.clock - P.link.keeperAt →
        RunsFrame p (.keeperReceived p h f) s fun Q => UpToLinkEnd { P with link := { P.link with
          keeperKey := keeperNext P.link.keeperKey, keeperServe := P.link.keeperServe + 1, keeperAt := s.clock,
          takeover := if P.link.takeover = .helloDone then .keeperDone else P.link.takeover } } Q) ∧
      (∀ f : KeeperFrame, P.link.lowRate = false → P.link.keeperArmed = true → P.link.ordered = false →
          f.key ≠ P.link.keeperKey ∨ f.serve ≠ BitVec.ofNat 16 P.link.keeperServe ∨ 2000000 < s.clock - P.link.keeperAt →
        RunsFrame p (.keeperReceived p h f) s fun Q => Q.link.up = false ∧ Q.link.fin.fault = true ∧ Q.link.fin.outbox = [] ∧ Q.link.why = 4 ∧
          Q.link.keeperArmed = false ∧ wbit Q.link.lhEvt 1 = true) ∧
      (∀ d : Dword, ¬s.retraining p → 1000 < |((d + BitVec.ofInt 64 (divR (P.link.dly.at2 h.lane).toNat 10)) - P.link.time).toInt| →
        RunsFrame p (.timeFrameReceived p h d) s fun Q => Q.link.time = d + BitVec.ofInt 64 (divR (P.link.dly.at2 h.lane).toNat 10) ∧
          Q.link.timeFree = false ∧ Q.link.timeStep = true ∧ Q.afe.halted = true ∧ Q.axes = P.axes ∧ Q.cls = P.cls) ∧
      (∀ d : Dword, ¬s.retraining p → |((d + BitVec.ofInt 64 (divR (P.link.dly.at2 h.lane).toNat 10)) - P.link.time).toInt| ≤ 1000 →
        RunsFrame p (.timeFrameReceived p h d) s fun Q => UpToLinkEnd { P with link := { P.link with
          timeErr := Q.link.timeErr, timeFree := false, trim := Q.link.trim } } Q ∧ -20000 ≤ Q.link.trim ∧ Q.link.trim ≤ 20000) ∧
      (∀ f : ConfigFrame, f.op = 1 → ∀ v, (P.modLink fun l => { l with fin := e }).read s.clock p f.addr.toNat = some v →
        RunsFrame p (.configRead p h f) s fun Q => UpToLinkEnd P Q ∧ ∃ x, Q.link.fin.outbox = e.outbox ++
          [.config x { f with op := f.op ||| 0x80, status := 0, data := leBytes 4 v.toNat }]) ∧
      (∀ f : ConfigFrame, f.op = 2 → f.addr = 0x3000 → f.arg = 1 → RunsFrame p (.configWrite p h f) s fun Q =>
          UpToLinkEnd { P with afe := { P.afe with stream := rdw f.data 0 } } Q) ∧
      (∀ f : ConfigFrame, f.op = 2 → f.addr ≠ 0x3000 ∨ f.arg ≠ 1 → ((P.modLink fun l =>
          { l with fin := e }).write s.clock p f.addr.toNat (rdw f.data 0) 0).portal.calm →
        RunsFrame p (.configWrite p h f) s fun Q =>
          UpToLinkEnd ((P.modLink fun l => { l with fin := e }).write s.clock p f.addr.toNat (rdw f.data 0) 0).portal Q) ∧
      (∀ (f : ConfigFrame) (b : List Byte), f.op = 3 → P.chunk = some (f.addr, BitVec.ofNat 8 (fget f.arg 31 24), b) →
        RunsFrame p (.configDlChunk p h f) s fun Q =>
          UpToLinkEnd { P with chunk := some (f.addr, BitVec.ofNat 8 (fget f.arg 31 24), putBytes b (fget f.arg 23 0) f.data) } Q) ∧
      (∀ (f : ConfigFrame) (b : List Byte), f.op = 4 → P.chunk = some (f.addr, BitVec.ofNat 8 (fget f.arg 31 24), b) →
          crc32c (slice b 0 (fget f.arg 23 0)) ≠ rdw f.data 0 → RunsFrame p (.configDlEnd p h f false) s fun Q => Q.units = P.units ∧
          Q.chunk = none ∧ Q.axes = P.axes ∧ ∃ x, Q.link.fin.outbox = e.outbox ++ [.config x { f with op := f.op ||| 0x80, status := 3, data := [] }]) ∧
      (∀ (f : ConfigFrame) (b : List Byte), f.op = 4 → P.chunk = some (f.addr, BitVec.ofNat 8 (fget f.arg 31 24), b) →
          crc32c (slice b 0 (fget f.arg 23 0)) = rdw f.data 0 → f.image.kinds = [fget f.arg 31 24] → P.incoming = [] →
        RunsFrame p (.configDlEnd p h f false) s fun Q => Q.chunk = none ∧ Q.strc = f.image.strc ∧
          Q.units = replaceSection P.units f.addr [UnitData.mk f.addr (BitVec.ofNat 8 (fget f.arg 31 24)) (slice b 0 (fget f.arg 23 0))
            (crc32c (slice b 0 (fget f.arg 23 0))) f.image.version]) ∧
      (∀ f : ConfigFrame, f.op = 5 → P.link.takeover = .keeperDone → f.addr.setWidth 8 = P.link.readbackSeq →
        RunsFrame p (.configReadbackAck p h f false) s fun Q => UpToLinkEnd { P with
          strc := f.image.strc, afe := { P.afe with halted := false }, link := { P.link with takeover := .ready } } Q) ∧
      (∀ f : ConfigFrame, f.op = 5 → P.link.takeover = .helloDone → RunsFrame p (.configReadbackAck p h f false) s fun Q => UpToLinkEnd P Q) ∧
      (∀ f : ConfigFrame, f.op = 6 → RunsFrame p (.configTest p h f true) s fun Q => UpToLinkEnd P Q) ∧
      (∀ f : ConfigFrame, f.op = 6 → P.ob.lockCause = 0 → RunsFrame p (.configTest p h f false) s fun Q => Q.ob.lockCause = 5 ∧
        Q.cls = .lockedOut ∧ ∀ a, (Q.axes.get a).drive = .torqueOff)) ∧
  (∀ (s : State) (p : PortalId) (h : FrameHdr) (d : Dword) (P : PortalState), s.portals.get p = P → P.calm → P.link.up = true → (s.link p).up = true →
      wbit (P.link.fin.retrain &&& P.link.fin.locked) h.lane.val = true → wbit (s.link p).fin.ready h.lane.val = true →
      Runs (.timeFrameReceived p h d) s fun t => wbit (t.portals.get p).link.fin.lanes h.lane.val = true ∧
        wbit (t.link p).fin.lanes h.lane.val = true ∧ wbit (t.portals.get p).link.fin.retrain h.lane.val = false) ∧
  (∀ (s : State) (p : PortalId) (h : FrameHdr) (f : HelloFrame) (P : PortalState), s.portals.get p = P → P.calm → P.link.fin.silent = false →
      (P.link.fin.accept h).isSome = true → P.link.up = false ∨ h.seq ≠ P.link.helloSeq → f.role = 1 →
      (f.vsel = 0 → Runs (.helloReceivedPortal p h f) s fun t => t = { s with portals := t.portals, links := t.links, freeCtr := s.freeCtr + 1 } ∧
        (∀ q, q ≠ p → t.portals.get q = s.portals.get q) ∧
        ∃ n, UpToLinkEnd { P with link := { P.link with nonce := n } } (t.portals.get p) ∧
          ∃ x, .hello x (P.hello p 0 n 0 0) ∈ (t.portals.get p).link.fin.outbox) ∧
      (f.vsel = 3 → P.cls ≠ .fault → P.link.holdUntil = none → Runs (.helloReceivedPortal p h f) s fun t =>
        t = { s with portals := t.portals, links := t.links, freeCtr := s.freeCtr + 1 } ∧ (∀ q, q ≠ p → t.portals.get q = s.portals.get q) ∧
        (t.portals.get p).link.up = true ∧ (t.portals.get p).link.fin.fault = false ∧ (t.portals.get p).link.keeperArmed = true ∧
        (t.portals.get p).link.keeperServe = 1 ∧ (t.portals.get p).link.keeperKey = keeperNext P.link.nonce ∧
        (t.portals.get p).link.takeover = (if P.units = [] then .ready else .helloDone) ∧ (t.portals.get p).axes = P.axes) ∧
      (f.vsel ≠ 0 → f.vsel ≠ 3 → P.cls ≠ .fault → P.link.ordered = false → Runs (.helloReceivedPortal p h f) s fun t =>
        (t.portals.get p).link.up = false ∧ (t.portals.get p).link.fin.fault = true ∧ (t.portals.get p).link.why = 3)) ∧
  (∀ (s : State) (p : PortalId) (P : PortalState), s.portals.get p = P → P.calm → P.cls ≠ .fault →
      (P.link.keeperArmed = true → P.link.lowRate = false → P.link.ordered = false → P.link.limp = false → P.limpEn p = false → P.ownMotion = false →
        RunsPortal p (.keeperExpire p) s fun Q => Q.link.up = false ∧ Q.link.fin.fault = true ∧ Q.link.why = 4 ∧ Q.link.failsafe = true ∧
          Q.chunk = none ∧ Q.incoming = [] ∧ ∀ o, (Q.sos.so o).on = false) ∧
      (P.link.keeperArmed = false → RunsPortal p (.keeperExpire p) s fun Q => UpToFrames P Q) ∧
      (RunsPortal p (.timeFreeTimeout p) s fun Q => UpToFrames { P with link := { P.link with timeFree := true, trim := 0 } } Q) ∧
      (P.link.up = true → P.link.lowRate = false → RunsPortal p (.stateFramePeriodic p) s fun Q => UpToFrames P Q ∧
        ∃ x, Q.link.fin.outbox = P.link.fin.outbox ++ [.state x (P.stateFrame s.clock)]) ∧
      (P.link.up = false → RunsPortal p (.stateFramePeriodic p) s fun Q => Q = P) ∧
      (P.link.holdUntil = none → RunsPortal p (.holdWindowExpire p) s fun Q => UpToFrames P Q) ∧
      (∀ x, P.link.holdUntil = some x → P.ownMotion = true → RunsPortal p (.holdWindowExpire p) s fun Q =>
        UpToFrames { P with link := { P.link with outcomeWaits := true, holdUntil := none } } Q) ∧
      (∀ x, P.link.holdUntil = some x → P.ownMotion = false → P.link.limp = false → P.limpEn p = false →
        RunsPortal p (.holdWindowExpire p) s fun Q => Q.link.holdUntil = none ∧ Q.link.failsafe = true ∧ Q.link.limp = false ∧
          ∀ o, (Q.sos.so o).on = false) ∧
      (∀ x, P.link.holdUntil = some x → P.ownMotion = false → P.link.limp = false → P.limpEn p = true → P.cls ≠ .lockedOut →
        RunsPortal p (.holdWindowExpire p) s fun Q => Q.link.holdUntil = none ∧ Q.link.limp = true ∧ Q.cls = .limp ∧ ∀ o, (Q.sos.so o).on = false) ∧
      (RunsPortal p (.limpNAssert p) s fun Q => Q.link.limpN = true ∧ Q.link.limp = true ∧ Q.link.causePin = true ∧
        Q.cls = .limp ∧ ∀ o, (Q.sos.so o).on = false) ∧
      (P.link.up = true → RunsPortal p (.limpNRelease p) s fun Q =>
        UpToFrames { P with link := { P.link with limpN := false, causePin := P.link.causePin && P.link.limp } } Q) ∧
      (P.link.up = false → P.link.limp = true → P.limpEn p = false ∨ P.link.lostByOrder = true → RunsPortal p (.limpNRelease p) s fun Q =>
        Q.link.limpN = false ∧ Q.link.limp = false ∧ Q.link.failsafe = true) ∧
      (∀ raw, P.link.lowRate = false → RunsPortal p (.lowrateLockSample p raw) s fun Q => UpToFrames P Q) ∧
      (∀ raw, P.link.lowRate = true → RunsPortal p (.lowrateLockSample p raw) s fun Q => ∀ n : Fin 16,
        (Q.inputs.filters.get n).out = if wbit P.proofRoles n.val = true then wbit raw n.val else (P.inputs.filters.get n).out)) ∧
  (∀ (s : State) (p : PortalId), (s.portals.get p).calm → (s.portals.get p).cls = .fault →
      RunsPortal p (.limpNAssert p) s fun Q => UpToFrames { (s.portals.get p) with link := { (s.portals.get p).link with limpN := true } } Q)

/-- R246, R299 to R302, R305 to R307, R310, R311, R313 to R316, R324, R327: the host side of a girth link. A STATE, EVENT or SAMPLE frame that is
accepted is held, taken by its code, or ingested (one that overflows the ingest buffer closes the open segments), and one that is not changes nothing of
it; a lane locks, is tried again and is lost; a HELLO selects the version and completes the link; both lanes lost, or the time-out of low-rate mode, are
link fault; and an acknowledged read-back sets the link running. -/
def Obligations.HostSideOfTheLink : Prop :=
  (∀ (s : State) (p : PortalId) (h : FrameHdr), s.portFree → (s.link p).up = false ∨ (s.link p).fin.accept h = none →
      (∀ f, ¬s.retraining p → Runs (.stateFrameReceived p h f) s fun t => t.links = s.links ∧ t.psm = s.psm ∧ t.acq = s.acq) ∧
      (∀ f, Runs (.eventFrameReceived p h f) s fun t => t.links = s.links ∧ t.psm = s.psm ∧ t.acq = s.acq ∧ t.tally = s.tally) ∧
      (∀ f, Runs (.sampleFrameReceived p h f) s fun t => t.links = s.links ∧ t.psm = s.psm ∧ t.acq = s.acq)) ∧
  (∀ (s : State) (p : PortalId) (h : FrameHdr) (e : LinkEnd), s.portFree → (s.link p).up = true → (s.link p).fin.accept h = some e →
      (∀ f : StateFrame, Runs (.stateFrameReceived p h f) s fun t => (t.link p).state = some (h.seq, f) ∧ (t.link p).stateAt = s.clock ∧
        wbit t.psm.proof p.val = wbit f.words.lo.hi.x3 8 ∧ wbit t.psm.proof (8 + p.val) = wbit f.words.lo.hi.x3 9 ∧ t.psm.state = s.psm.state ∧
        (∀ q, q ≠ p → t.links.get q = s.links.get q ∧ t.portals.get q = s.portals.get q) ∧ t.acq = s.acq) ∧
      (∀ f : EventFrame, f.code = 0x10 ∨ f.code = 0x11 → Runs (.eventFrameReceived p h f) s fun t => wbit t.irqStat (4 + p.val) = true ∧
        t.tally = { s.tally with inbox := s.tally.inbox ++ [(p, f)] } ∧ t.psm = s.psm ∧ t.acq = s.acq) ∧
      (∀ f : EventFrame, f.code = 0x06 → Runs (.eventFrameReceived p h f) s fun t => wbit t.irqStat (4 + p.val) = true ∧
        wbit t.seq.evt (16 + p.val) = true ∧ t.tally = s.tally ∧ t.psm = s.psm ∧ t.acq = s.acq) ∧
      (∀ (f : SampleFrame) (level : Byte), Runs (.sampleFrameReceived p h ⟨f, level, false, false⟩) s fun t =>
        t.acq = (s.acq.noteLevel p.val level).ingest p.val (s.link p).stream f s.now ∧ t.psm = s.psm ∧ t.tally = s.tally) ∧
      (∀ (f : SampleFrame) (level : Byte) (full bad : Bool), full = true ∨ bad = true → Runs (.sampleFrameReceived p h ⟨f, level, full, bad⟩) s fun t =>
        t.acq = (s.acq.noteLevel p.val level).overflowed p.val ∧ wbit t.acq.stat 30 = true ∧ t.psm = s.psm ∧ t.tally = s.tally)) ∧
  (∀ (s : State) (p : PortalId), ((s.link p).up = true → Runs (.timeFrameSend p) s fun t => t = { s with links := t.links } ∧
        (∀ q, q ≠ p → t.links.get q = s.links.get q) ∧ t.links.get p = { (s.links.get p) with fin := { (s.link p).fin with
          txSeq := (s.link p).fin.txSeq + 1, outbox := (s.link p).fin.outbox ++ [.time ⟨(s.link p).fin.txSeq, 0⟩ s.time.now] } }) ∧
      ((s.link p).up = false → exec (.timeFrameSend p) s = .next s)) ∧
  (∀ (s : State) (p : PortalId) (lane : Fin 2), s.portFree →
      ((s.link p).phase = .training → (s.link p).up = false → (s.link p).fin.silent = false → (s.link p).attempts.at2 lane ≤ 3 →
          wbit (s.link p).fin.lanes lane.val = false →
        Runs (.laneLocked p lane .host) s fun t => wbit (t.link p).fin.lanes lane.val = true ∧ (t.link p).phase = .hello ∧
          (∃ x f, (t.link p).fin.outbox = (s.link p).fin.outbox ++ [.hello x f] ∧ f.vsel = 0 ∧ f.role = 1) ∧
          (∀ q, q ≠ p → t.links.get q = s.links.get q) ∧ t.portals = s.portals ∧ t.psm = s.psm) ∧
      ((s.portals.get p).calm → (s.portals.get p).link.up = false → (s.portals.get p).link.fin.silent = false →
        Runs (.laneLocked p lane .portal) s fun t => wbit (t.portals.get p).link.fin.lanes lane.val = true ∧
          UpToLinkEnd (s.portals.get p) (t.portals.get p) ∧ t.links = s.links ∧ t.psm = s.psm) ∧
      ((s.link p).phase = .training → (s.link p).up = false → wbit (s.link p).fin.lanes lane.val = false → (s.link p).attempts.at2 lane < 3 →
        Runs (.laneTrainRetry p lane) s fun t => (t.link p).attempts.at2 lane = (s.link p).attempts.at2 lane + 1 ∧ (t.link p).phase = .training ∧
          t.portals = s.portals ∧ t.psm = s.psm) ∧
      ((s.link p).phase = .training → (s.link p).up = false → wbit (s.link p).fin.lanes lane.val = false →
          (s.link p).attempts.set2 lane 4 = .all 4 → (s.link p).attempts.at2 lane = 3 →
        Runs (.laneTrainRetry p lane) s fun t => (t.link p).phase = .down ∧ (t.link p).why = 6 ∧ t.portals = s.portals ∧ t.psm = s.psm) ∧
      (wbit (s.link p).fin.lanes lane.val = true → (s.link p).up = true → putBit (s.link p).fin.lanes lane.val false ≠ 0 →
        Runs (.laneDown p lane .host) s fun t => wbit (t.link p).fin.lanes lane.val = false ∧ (t.link p).up = true ∧
          wbit (t.link p).evt (6 - lane.val) = true ∧ t.portals = s.portals ∧ t.psm = s.psm) ∧
      (wbit (s.link p).fin.lanes lane.val = true → (s.link p).up = true → (s.link p).lowRate = false →
          putBit (s.link p).fin.lanes lane.val false = 0 → Runs (.laneDown p lane .host) s fun t => (t.link p).up = false ∧ (t.link p).phase = .down ∧
              (t.link p).why = 1 ∧
          (t.link p).fin.fault = true ∧ (t.sp p).released = false ∧ (t.sp p).readBack = false ∧ t.portals = s.portals ∧ t.psm = s.psm) ∧
      ((s.portals.get p).calm → (s.portals.get p).cls ≠ .fault → wbit (s.portals.get p).link.fin.lanes lane.val = true →
          (s.portals.get p).link.up = true → (s.portals.get p).link.ordered = false → (s.portals.get p).link.lowRate = false →
          putBit (s.portals.get p).link.fin.lanes lane.val false = 0 →
        Runs (.laneDown p lane .portal) s fun t => (t.portals.get p).link.up = false ∧ (t.portals.get p).link.why = 1 ∧
          (t.portals.get p).link.fin.fault = true ∧ t.links = s.links ∧ t.psm = s.psm) ∧
      (wbit (s.link p).fin.lanes lane.val = true → ((s.link p).fin.linkErrs.filter fun t => s.clock - t < 1000000) = [] →
        Runs (.linkError p .host lane false) s fun t => (t.link p).linkErr = satInc (s.link p).linkErr 0xFFF ∧ wbit (t.link p).evt 1 = true ∧
          (t.link p).up = (s.link p).up ∧ (t.link p).laneErr = (s.link p).laneErr ∧ t.portals = s.portals ∧ t.psm = s.psm) ∧
      (∀ a b, wbit (s.link p).fin.lanes lane.val = true → (s.link p).up = true → (s.link p).lowRate = false →
          ((s.link p).fin.linkErrs.filter fun t => s.clock - t < 1000000) = [a, b] →
        Runs (.linkError p .host lane false) s fun t => (t.link p).up = false ∧ (t.link p).phase = .down ∧ (t.link p).why = 2 ∧
          t.portals = s.portals ∧ t.psm = s.psm) ∧
      (wbit (s.link p).fin.lanes lane.val = true → (((s.link p).fin.laneErrs.at2 lane).filter fun t => s.clock - t < 1000000) = [] →
        Runs (.linkError p .host lane true) s fun t => (t.link p).laneErr = satInc (s.link p).laneErr 0xFFF ∧ (t.link p).up = (s.link p).up ∧
          (t.link p).linkErr = (s.link p).linkErr ∧ t.portals = s.portals ∧ t.psm = s.psm)) ∧
  (∀ (s : State) (p : PortalId) (h : FrameHdr) (f : HelloFrame) (r : Two Nat), s.portFree → (s.link p).phase = .hello → (s.link p).up = false →
      (s.link p).fin.silent = false → ((s.link p).fin.accept h).isSome = true → f.role = 2 →
      (f.vsel = 0 → f.vmax = 3 → f.vmin = 3 → Runs (.helloReceivedHost p h f r) s fun t => (t.link p).vsel = 3 ∧ (t.link p).nonce = f.nonce ∧
        (t.link p).up = false ∧ (t.link p).dly = r.map oneWay ∧
        ∃ x g, (t.link p).fin.outbox = (s.link p).fin.outbox ++ [.hello x g] ∧ g.vsel = 3 ∧ g.nonce = f.nonce) ∧
      (f.vsel = 0 → f.vmin = 4 → Runs (.helloReceivedHost p h f r) s fun t => (t.link p).up = false ∧ (t.link p).phase = .down ∧
        (t.link p).why = 3 ∧ wbit (t.link p).evt 2 = true) ∧
      (f.vsel = 3 → (s.link p).vsel = 3 → wbit f.flags 0 = true → Runs (.helloReceivedHost p h f r) s fun t => (t.link p).up = true ∧
        (t.link p).fin.fault = false ∧ (t.link p).phase = .readBack ∧ (t.sp p).keeperRun = true ∧ (t.sp p).keeperServe = 1 ∧
        (t.sp p).keeperKey = keeperNext (s.link p).nonce ∧ (t.sp p).readBack = false)) ∧
  (∀ (s : State) (p : PortalId), s.portFree →
      (s.mayTrain = true → (s.link p).up = false → (s.link p).phase = .down → Runs (.linkSilenceEnd p) s fun t =>
        (t.link p).phase = .training ∧ (t.link p).fin.silent = false ∧ (t.link p).fin.lanes = 0 ∧
          ((s.portals.get p).calm → (t.portals.get p).link.fin.silent = false) ∧ t.psm = s.psm) ∧
      (s.mayTrain = false → (s.portals.get p).calm → Runs (.linkSilenceEnd p) s fun t =>
        t.links = s.links ∧ (t.portals.get p).link.fin.silent = false ∧ t.psm = s.psm) ∧
      ((s.link p).up = true → (s.portals.get p).calm → (s.portals.get p).link.up = true → (s.link p).lowRate = false →
        Runs (.laneBackgroundRetrain p) s fun t => (t.link p).fin.lanes = (s.link p).fin.lanes ∧
          (t.link p).fin.retrain = (s.link p).fin.retrain ||| ~~~(s.link p).fin.lanes ∧
          (t.portals.get p).link.fin.lanes = (s.portals.get p).link.fin.lanes ∧
          (t.portals.get p).link.fin.retrain = (s.portals.get p).link.fin.retrain ||| ~~~(s.portals.get p).link.fin.lanes ∧
          (t.link p).up = true ∧ t.psm = s.psm) ∧
      ((s.link p).up = false → s.mayTrain = true → (s.link p).fin.silent = false → (s.link p).phase = .down →
        Runs (.laneBackgroundRetrain p) s fun t => (t.link p).phase = .training ∧ t.portals = s.portals ∧ t.psm = s.psm) ∧
      ((s.link p).lowRate = true → (s.link p).up = true → Runs (.lowrateLinkTimeout p .host) s fun t =>
        (t.link p).up = false ∧ (t.link p).phase = .down ∧ (t.link p).lowRate = false ∧ t.portals = s.portals ∧ t.psm = s.psm) ∧
      ((s.link p).lowRate = false → Runs (.lowrateLinkTimeout p .host) s fun t => t = { s with port := { s.port with hrdy := s.ready } }) ∧
      ((s.portals.get p).calm → (s.portals.get p).cls ≠ .fault → (s.portals.get p).link.lowRate = true → (s.portals.get p).link.up = true →
        Runs (.lowrateLinkTimeout p .portal) s fun t => (t.portals.get p).link.up = false ∧ (t.portals.get p).link.lowRate = false ∧
          t.links = s.links ∧ t.psm = s.psm)) ∧
  (∀ (s : State) (p : PortalId) (h : FrameHdr) (e : LinkEnd) (f req : ConfigFrame), s.portFree → (s.link p).up = true →
      (s.link p).fin.accept h = some e → (s.link p).queue = [] → f.tag = req.tag → f.op = req.op ||| 0x80 →
      ((s.link p).pending = some (.readbackAck, req) → f.status = 0 → (s.sp p).readBack = false →
        Runs (.configAnswerReceived p h f) s fun t => (t.link p).phase = .running ∧ (t.link p).pending = none ∧ (t.sp p).readBack = true ∧
          (t.sp p).takeover = true ∧ wbit t.psm.boot (4 + p.val) = true ∧ t.psm.state = s.psm.state) ∧
      ((s.link p).pending = some (.download, req) → f.status = 0 → (s.link p).phase = .download → wbit (s.link p).helloFlags 0 = false →
        Runs (.configAnswerReceived p h f) s fun t => (t.link p).phase = .running ∧ (t.link p).pending = none ∧ (t.sp p).readBack = true ∧
          wbit t.psm.boot (4 + p.val) = true ∧ t.psm.state = s.psm.state) ∧
      ((s.link p).pending = none → Runs (.configAnswerReceived p h f) s fun t => t.links = s.links ∧ t.psm = s.psm))

/-- R336, R339 to R341, R68, R69: the inputs of a portal die. Every channel filters its raw state as its record names, a proof counts closings of
channels seen open, and the safety outputs are on exactly where R24 to R26 want them; a sample that crosses as a non-code word is discarded and puts the
portal into FAULT (R18, log entry 9). R343 to R349: current-limit episodes, retries, diagnoses and the conduction budget of the protected switches. -/
def Obligations.PortalInputsAndSwitches : Prop :=
  (∀ (s : State) (p : PortalId) (P : PortalState), s.portals.get p = P → P.calm →
      (∀ raw low, RunsPortal p (.inputSample p ⟨raw, low, true⟩) s fun Q => Q.cls = .fault ∧ Q.units = P.units ∧ Q.inputs = P.inputs) ∧
      (∀ raw low, RunsPortal p (.inputSample p ⟨raw, low, false⟩) s fun Q =>
        (low = false → Q.ob = { P.ob with lclrAt := none }) ∧
        (low = true → Q.ob = { P.ob with lclrAt := some (P.ob.lclrAt.getD s.clock), lclrCount := Q.ob.lclrCount } ∧
          (P.ob.lclrAt ≠ none ∨ P.cls ≠ .lockedOut → Q.ob.lclrCount = false))) ∧
      (∀ raw low, P.link.lowRate = true → RunsPortal p (.inputSample p ⟨raw, low, false⟩) s fun Q => UpToFrames { P with ob := Q.ob } Q) ∧
      (∀ raw low, P.link.lowRate = false → RunsPortal p (.inputSample p ⟨raw, low, false⟩) s fun Q =>
        UpToEvents { P with inputs := Q.inputs, proven := Q.proven, openHalf := Q.openHalf, isoSplitAt := Q.isoSplitAt, agreeAt := Q.agreeAt,
                            sos := Q.sos, ob := Q.ob } Q ∧
        (∀ n, Q.inputs.filters.get n =
          if P.inputs.restart = true then InputFilter.restart (P.inputCfg n.val) (wbit raw n.val)
          else (P.inputs.filters.get n).sample (P.inputCfg n.val) (wbit raw n.val)) ∧
        Q.inputs = { P.inputs with filters := Q.inputs.filters, restart := false, raw := raw, ow := P.inputs.ow &&& ~~~Q.filtered } ∧
        (P.proofPaused = true → Q.proven = P.proven ∧ Q.openHalf = P.openHalf) ∧
        (P.proofPaused = false → Q.openHalf = P.openHalf ||| (~~~Q.filtered &&& ~~~P.openWire) ∧
          Q.proven = P.proven ||| (if P.inputs.restart = true then 0 else Q.filtered &&& ~~~P.filtered &&& ~~~P.openWire &&& P.openHalf)) ∧
        ∀ o, (Q.sos.so o).on = Q.soWanted o ∧ (Q.sos.so o).perm = (P.sos.so o).perm ∧ (Q.sos.so o).dem = (P.sos.so o).dem ∧
          (Q.sos.so o).fault = (P.sos.so o).fault) ∧
      (∀ n, P.hasInputs = true → (P.inputCfg n.val).owEn = true → wbit P.filtered n.val = false → wbit P.inputs.ow n.val = false →
        RunsPortal p (.openWireSet p n) s fun Q => UpToFrames { P with
          inputs := { P.inputs with ow := putBit P.inputs.ow n.val true, evt := raise P.inputs.evt n.val }, proven := putBit P.proven n.val false,
          openHalf := putBit P.openHalf n.val false, isoSplitAt := Q.isoSplitAt, agreeAt := Q.agreeAt, sos := Q.sos } Q ∧
          ∀ o, (Q.sos.so o).on = Q.soWanted o) ∧
      (∀ n, P.hasInputs = false ∨ (P.inputCfg n.val).owEn = false ∨ wbit P.filtered n.val = true ∨ wbit P.inputs.ow n.val = true →
        RunsPortal p (.openWireSet p n) s fun Q => UpToFrames P Q) ∧
      (∀ n, RunsPortal p (.openWireClear p n) s fun Q => UpToFrames { P with
          inputs := { P.inputs with ow := putBit P.inputs.ow n.val false }, isoSplitAt := Q.isoSplitAt, agreeAt := Q.agreeAt, sos := Q.sos } Q) ∧
      (∀ n, RunsPortal p (.inputOvertemp p n) s fun Q => UpToEvents { P with
          inputs := { P.inputs with ot := putBit P.inputs.ot n.val true, evt := raise P.inputs.evt (16 + n.val) },
          proven := putBit P.proven n.val false, openHalf := putBit P.openHalf n.val false, isoSplitAt := Q.isoSplitAt, agreeAt := Q.agreeAt,
          sos := Q.sos } Q ∧ Q.closed n.val = false) ∧
      (∀ n, RunsPortal p (.inputOvertempEnd p n) s fun Q => UpToEvents { P with
          inputs := { P.inputs with ot := putBit P.inputs.ot n.val false }, isoSplitAt := Q.isoSplitAt, agreeAt := Q.agreeAt, sos := Q.sos } Q) ∧
      (∀ i, RunsPortal p (.inputCurrentMeasure p i) s fun Q => UpToFrames { P with inputs := { P.inputs with current := i } } Q)) ∧
  (∀ (s : State) (p : PortalId) (P : PortalState) (n : Fin 8) (w : SwitchState), s.portals.get p = P → P.calm → P.switches.get n = w →
      let off : SwitchState := { w with on := false, episode := none, retried := none, rose := false }
      let retried := fun r : RetryWait => ({ w with
        retry := none, on := true, rose := false, retried := some (if r.short then .shortRetry else .inrushRetry),
        retryLeft := if r.short then w.retryLeft else w.retryLeft - 1 } : SwitchState)
      (w.on = true → w.episode = none → RunsPortal p (.switchEpisodeStart p n) s fun Q => OnlySwitch n P Q ∧
        Q.switches.get n = { w with episode := some (w.retried.getD .switchOn), retried := none, rose := false }) ∧
      (w.on = false ∨ w.episode ≠ none → RunsPortal p (.switchEpisodeStart p n) s fun Q => UpToFrames P Q) ∧
      (w.episode = none → w.retried = none → RunsPortal p (.switchEpisodeSuccess p n) s fun Q => UpToFrames P Q) ∧
      (w.episode ≠ none ∨ w.retried ≠ none → RunsPortal p (.switchEpisodeSuccess p n) s fun Q => OnlySwitch n P Q ∧
        Q.switches.get n = { w with episode := none, retried := none, rose := false, shortCl := w.shortCl && !w.inShortRetry } ∧
        (w.inRetry = true → ∀ k ∈ neighbours n, ∀ r, (P.switches.get k).retry = some r → r.due = true →
          (Q.switches.get k).retry = some { r with at_ := s.clock + 20000 })) ∧
      (∀ rose, w.episode = none ∨ w.episode = some .shortRetry → RunsPortal p (.switchTepExpire p n rose) s fun Q => UpToFrames P Q) ∧
      (∀ rose, w.episode = some .switchOn ∨ w.episode = some .inrushRetry → RunsPortal p (.switchTepExpire p n rose) s fun Q =>
        OnlySwitch n P Q ∧ Q.switches.get n =
          (if (w.rose || rose || P.supply.vswLow) = false then
            { off with shortCl := true, shortTries := 0, retry := some { short := true } }
          else if w.retryLeft = 0 then { off with retry := none, cls := .overload }
          else { off with retry := some { short := false } })) ∧
      (∀ rose, (P.switchCfg n.val).used = false → RunsPortal p (.switchJunctionOvertemp p n rose) s fun Q => UpToFrames P Q) ∧
      (∀ rose, (P.switchCfg n.val).used = true → w.on = true → w.episode = none →
        RunsPortal p (.switchJunctionOvertemp p n rose) s fun Q => OnlySwitch n P Q ∧
          Q.switches.get n = { off with retry := none, cls := .ot, flags := raise w.flags 17 }) ∧
      (∀ rose, (P.switchCfg n.val).used = true → w.on = false → w.episode = none →
        RunsPortal p (.switchJunctionOvertemp p n rose) s fun Q => OnlySwitch n P Q ∧ Q.switches.get n = { w with flags := raise w.flags 17 }) ∧
      (∀ rose, (P.switchCfg n.val).used = true → w.episode ≠ none →
        RunsPortal p (.switchJunctionOvertemp p n rose) s fun Q => OnlySwitch n P Q ∧ ∃ z, Q.switches.get n = z ∧ z.on = false ∧ z.episode = none ∧
          wbit z.flags 17 = true ∧
          ((w.rose || rose) = false → P.supply.vswLow = false → w.episode ≠ some .shortRetry → z.shortCl = true ∧ z.retry = some { short := true }) ∧
          ((w.rose || rose) = false → P.supply.vswLow = false → w.episode = some .shortRetry →
            z.cls = if 1 ≤ w.shortTries then .short else w.cls) ∧
          (P.supply.vswLow = true → z.cls = if w.retryLeft = 0 then .overload else w.cls) ∧
          ((w.rose || rose) = true → P.supply.vswLow = false →
            (P.dieAbove150 = true ∨ (∀ k ∈ neighbours n, (P.switches.get k).shortCl = false) → z.cls = .ot ∧ z.retry = none) ∧
            (P.dieAbove150 = false → (∃ k ∈ neighbours n, (P.switches.get k).shortCl = true) → wbit z.flags 16 = true ∧
              (0 < w.retryLeft → z.cls = w.cls ∧ z.retry = some { short := false }) ∧ (w.retryLeft = 0 → z.cls = .overload)))) ∧
      (w.retry = none → RunsPortal p (.switchJunctionCooled p n) s fun Q => UpToFrames P Q) ∧
      (∀ r, w.retry = some r → r.due = false → RunsPortal p (.switchJunctionCooled p n) s fun Q => OnlySwitch n P Q ∧
        Q.switches.get n = { w with retry := some { r with hot := false } }) ∧
      (w.retry = none → ∀ hot, RunsPortal p (.switchRetryDue p n hot) s fun Q => UpToFrames P Q) ∧
      (∀ r hot, w.retry = some r →
          hot = true ∨ P.holding = true ∨ (∃ k ∈ neighbours n, (P.switches.get k).inRetry = true) ∨ s.clock < r.at_ →
        RunsPortal p (.switchRetryDue p n hot) s fun Q => OnlySwitch n P Q ∧
          Q.switches.get n = { w with retry := some { r with due := true, hot := hot } }) ∧
      (∀ r, w.retry = some r → r.due = true →
          P.holding = true ∨ (∃ k ∈ neighbours n, (P.switches.get k).inRetry = true) ∨ s.clock < r.at_ →
        RunsPortal p (.switchJunctionCooled p n) s fun Q => OnlySwitch n P Q ∧ Q.switches.get n = { w with retry := some { r with hot := false } }) ∧
      (∀ r, w.retry = some r → P.holding = false → (∀ k ∈ neighbours n, (P.switches.get k).inRetry = false) → r.at_ ≤ s.clock →
        RunsPortal p (.switchRetryDue p n false) s fun Q => OnlySwitch n P Q ∧ Q.switches.get n = retried r) ∧
      (∀ r, w.retry = some r → r.due = true → P.holding = false → (∀ k ∈ neighbours n, (P.switches.get k).inRetry = false) → r.at_ ≤ s.clock →
        RunsPortal p (.switchJunctionCooled p n) s fun Q => OnlySwitch n P Q ∧ Q.switches.get n = retried r) ∧
      (∀ rose, w.inShortRetry = false → RunsPortal p (.shortRetryEnd p n rose) s fun Q => UpToFrames P Q) ∧
      (∀ rose, w.inShortRetry = true → RunsPortal p (.shortRetryEnd p n rose) s fun Q => OnlySwitch n P Q ∧ Q.switches.get n =
        (if (w.rose || rose) = true ∨ (P.supply.vswLow = true ∧ w.episode = none) then
          { w with shortCl := false, retried := none, rose := true, episode := w.episode.map fun _ => .inrushRetry }
        else if P.supply.vswLow = true then
          (if w.retryLeft = 0 then { off with shortCl := false, retry := none, cls := .overload }
          else { off with shortCl := false, retry := some { short := false } })
        else if 1 ≤ w.shortTries then { off with retry := none, shortTries := 2, cls := .short }
        else { off with shortTries := w.shortTries + 1, retry := some { short := true } })) ∧
      (RunsPortal p (.switchOlOffTimer p n) s fun Q => OnlySwitch n P Q ∧ Q.switches.get n =
        if ((P.switchCfg n.val).used && (P.switchCfg n.val).olOff && !w.on && !P.supply.vswLow) = true then
          { w with flags := raise w.flags 19 } else w) ∧
      (RunsPortal p (.switchUcTimer p n) s fun Q => OnlySwitch n P Q ∧ Q.switches.get n =
        if ((P.switchCfg n.val).used && (P.switchCfg n.val).uc != 0 && w.on && w.episode.isNone && !P.supply.vswLow) = true then
          { w with flags := raise w.flags 18 } else w)) ∧
  (∀ (s : State) (p : PortalId) (P : PortalState) (loss current : Eight Half), s.portals.get p = P → P.calm →
      let est := (chans8.map fun n => if (P.switches.get n).on && (P.switches.get n).episode.isNone then (loss.get n).toNat else 0).sum
      let prio := fun n : Fin 8 => (P.switchCfg n.val).prio
      (est ≤ P.pio.budget → RunsPortal p (.budgetEvaluate p loss current) s fun Q =>
        UpToFrames { P with switches := Q.switches, supply := { P.supply with est := est, overBudget := false } } Q ∧
        ∀ k, Q.switches.get k = { (P.switches.get k) with current := current.get k }) ∧
      (P.pio.budget < est → (∀ k, (P.switches.get k).on = true → prio k = 0) → RunsPortal p (.budgetEvaluate p loss current) s fun Q =>
        UpToFrames { P with switches := Q.switches, supply := { P.supply with est := est, overBudget := true } } Q ∧
        ∀ k, Q.switches.get k = { (P.switches.get k) with current := current.get k }) ∧
      (∀ n, P.pio.budget < est → (P.switches.get n).on = true → prio n ≠ 0 →
          (∀ k, (P.switches.get k).on = true → prio k < prio n ∨ (prio k = prio n ∧ k ≤ n)) →
        RunsPortal p (.budgetEvaluate p loss current) s fun Q =>
          UpToFrames { P with
            switches := Q.switches
            supply := { P.supply with est := est, overBudget := false, shedOrder := n :: P.supply.shedOrder } } Q ∧
          Q.switches.get n = { (P.switches.get n) with
            current := current.get n, on := false, episode := none, retried := none, rose := false, retry := none, shed := true,
            lastLoss := (loss.get n).toNat } ∧
          ∀ k, k ≠ n → Q.switches.get k = { (P.switches.get k) with current := current.get k, retry := (Q.switches.get k).retry } ∧
            ((P.switches.get n).inRetry = false ∨ k ∉ neighbours n → (Q.switches.get k).retry = (P.switches.get k).retry))) ∧
  (∀ (s : State) (p : PortalId) (P : PortalState), s.portals.get p = P → P.calm →
      (P.supply.shedOrder = [] → RunsPortal p (.budgetRestore p) s fun Q => UpToFrames P Q) ∧
      (∀ n l w, P.supply.shedOrder = n :: l → P.switches.get n = w →
        let tooMuch := 80 * P.pio.budget < 100 * (P.supply.est + w.lastLoss)
        let wanted := w.demand = true ∧ w.shed = true ∧ w.cls = .none ∧ (P.switchCfg n.val).used = true
        (¬wanted → RunsPortal p (.budgetRestore p) s fun Q => UpToFrames { P with supply := { P.supply with shedOrder := l } } Q) ∧
        (wanted → P.holding = true ∨ tooMuch → RunsPortal p (.budgetRestore p) s fun Q => UpToFrames P Q) ∧
        (wanted → P.holding = false → ¬tooMuch → RunsPortal p (.budgetRestore p) s fun Q => UpToFrames { P with
          switches := P.switches.set n { w with on := true, shed := false }, supply := { P.supply with shedOrder := l } } Q)))

/-- R24 to R26, R350, R352 to R354: sensor supplies and the tests of the safety outputs. A fault of R353 turns both outputs off and puts the portal into
FAULT; a test that falls due on an output that is off makes no pulse. R355 to R361, R491, R496, R497: the field supply deepens into warning, hold and
UV and recovers step by step; VSW, logic POR and die temperature. R365 to R368: the curtain ports. -/
def Obligations.SafetyOutputsSuppliesAndCurtains : Prop :=
  (∀ (s : State) (p : PortalId) (P : PortalState) (k : Fin 4), s.portals.get p = P → P.calm →
      (wbit P.supply.ssOn k.val = false → RunsPortal p (.sensorSupplyOverload p k) s fun Q => UpToFrames P Q) ∧
      (wbit P.supply.ssOn k.val = true → P.supply.field ≠ .uv → RunsPortal p (.sensorSupplyOverload p k) s fun Q => UpToFrames { P with
        supply := { P.supply with
          ssOvl := putBit P.supply.ssOvl k.val true, ssEvt := putBit P.supply.ssEvt k.val true, ssCnt := satInc P.supply.ssCnt 0xFFFF,
          ssOn := P.pio.ssEn &&& ~~~putBit P.supply.ssOvl k.val true } } Q) ∧
      (RunsPortal p (.sensorSupplyRetry p k) s fun Q => UpToFrames { P with
        supply := { P.supply with
          ssOvl := putBit P.supply.ssOvl k.val false,
          ssOn := if P.supply.field = .uv then 0 else P.pio.ssEn &&& ~~~putBit P.supply.ssOvl k.val false } } Q)) ∧
  (∀ (s : State) (p : PortalId) (P : PortalState) (o : SoId) (x y : SoState), s.portals.get p = P → P.calm → P.sos.so o = x → P.sos.so (SoId.other o) = y →
      (RunsPortal p (.soPulseStart p o) s fun Q =>
        UpToFrames { P with sos := P.sos.setSo o { x with pulse := x.on, nextAt := s.clock + P.pio.soPer * 1000000 } } Q) ∧
      (x.pulse = true → RunsPortal p (.soPulseEnd p o) s fun Q =>
        UpToFrames { P with sos := P.sos.setSo o { x with pulse := false }, soPulses := P.soPulses + 1 } Q) ∧
      (x.pulse = false → RunsPortal p (.soPulseEnd p o) s fun Q => UpToFrames P Q) ∧
      (P.soUsed o = false → (∀ c, RunsPortal p (.soPulseCheckTimeout p o c false) s fun Q => UpToFrames P Q) ∧
        ∀ c ∈ [Instr.soStuck p o, .soOvercurrent p o, .soOpenLoad p o], RunsPortal p c s fun Q => UpToFrames P Q) ∧
      (x.on = true → RunsPortal p (.soStuck p o) s fun Q => UpToFrames P Q) ∧
      (x.on = false → ∀ c ∈ [Instr.soOvercurrent p o, .soOpenLoad p o], RunsPortal p c s fun Q => UpToFrames P Q) ∧
      (x.pulse = true → RunsPortal p (.soOpenLoad p o) s fun Q => UpToFrames P Q) ∧
      (x.pulse = false → ∀ c ∈ [SoCheck.notFallen, .otherFell], RunsPortal p (.soPulseCheckTimeout p o c false) s fun Q => UpToFrames P Q) ∧
      (y.on = false → RunsPortal p (.soPulseCheckTimeout p o .otherFell false) s fun Q => UpToFrames P Q) ∧
      (x.on = false ∨ x.pulse = true → RunsPortal p (.soPulseCheckTimeout p o .notReturned false) s fun Q => UpToFrames P Q) ∧
      (∀ off c, P.soUsed o = true → x.pulse = true → y.on = true → c ≠ .notReturned →
        RunsPortal p (.soPulseCheckTimeout p o c off) s fun Q => Q.cls = .fault ∧ wbit Q.soEvt 1 = true ∧ Q.units = P.units ∧ Q.proven = P.proven ∧
          ∀ i, (Q.sos.so i).fault = true ∧ (Q.sos.so i).on = false) ∧
      (∀ off, P.soUsed o = true → x.pulse = true → y.on = false →
        RunsPortal p (.soPulseCheckTimeout p o .notFallen off) s fun Q => Q.cls = .fault ∧ wbit Q.soEvt (soBit o 6) = true ∧ Q.units = P.units ∧
          (Q.sos.so o).fault = true ∧ ∀ i, (Q.sos.so i).on = false) ∧
      (P.soUsed o = true → x.on = true → x.pulse = false →
        RunsPortal p (.soPulseCheckTimeout p o .notReturned false) s fun Q => Q.cls = .fault ∧ wbit Q.soEvt (soBit o 6) = true ∧
          Q.soPulses = P.soPulses - 1 ∧ Q.units = P.units ∧ (Q.sos.so o).fault = true ∧ ∀ i, (Q.sos.so i).on = false) ∧
      (∀ c, RunsPortal p (.soPulseCheckTimeout p o c true) s fun Q => Q.units = P.units ∧ ∀ i, (Q.sos.so i).on = false ∧ (Q.sos.so i).pulse = false) ∧
      (P.soUsed o = true → x.on = false → RunsPortal p (.soStuck p o) s fun Q => Q.cls = .fault ∧ wbit Q.soEvt (soBit o 4) = true ∧
        Q.units = P.units ∧ (Q.sos.so o).stuck = true ∧ (Q.sos.so o).fault = true ∧ ∀ i, (Q.sos.so i).on = false) ∧
      (P.soUsed o = true → x.on = true → RunsPortal p (.soOvercurrent p o) s fun Q => Q.cls = .fault ∧ wbit Q.soEvt (soBit o 2) = true ∧
        Q.units = P.units ∧ (Q.sos.so o).fault = true ∧ ∀ i, (Q.sos.so i).on = false) ∧
      (P.soUsed o = true → x.on = true → x.pulse = false → RunsPortal p (.soOpenLoad p o) s fun Q => Q.cls = .fault ∧
        wbit Q.soEvt (soBit o 8) = true ∧ Q.units = P.units ∧ (Q.sos.so o).fault = true ∧ ∀ i, (Q.sos.so i).on = false)) ∧
  (∀ (s : State) (p : PortalId) (P : PortalState), s.portals.get p = P → P.calm →
      (P.supply.field = .normal → RunsPortal p (.vfldWarn p) s fun Q =>
        UpToFrames { P with supply := { P.supply with psEvt := raise P.supply.psEvt 23, field := .warn } } Q) ∧
      (P.supply.field ≠ .normal → RunsPortal p (.vfldWarn p) s fun Q => UpToFrames P Q) ∧
      (P.supply.field = .hold ∨ P.supply.field = .uv → RunsPortal p (.vfldHold p) s fun Q => UpToFrames P Q) ∧
      (P.supply.field = .normal ∨ P.supply.field = .warn → RunsPortal p (.vfldHold p) s fun Q =>
        UpToFrames { P with
          supply := { P.supply with field := .hold, psEvt := Q.supply.psEvt }, axes := Q.axes, ob := { P.ob with progArmed := Q.ob.progArmed } } Q ∧
        wbit Q.supply.psEvt 22 = true ∧ (P.supply.field = .normal → wbit Q.supply.psEvt 23 = true) ∧
        (∀ a, (P.axes.get a).motion = none → Q.axes.get a = P.axes.get a) ∧
        (∀ a m, (P.axes.get a).motion = some m → m.why = .reversal ∨ m.why = .safeStop → Q.axes.get a = P.axes.get a) ∧
        ∀ a m, (P.axes.get a).motion = some m → m.why = .profile → (Q.axes.get a).motion = none ∨
          ∃ x, (Q.axes.get a).motion = some x ∧ x.why = .controlledStop ∧ x.after = .restReduced) ∧
      (P.supply.field = .uv → RunsPortal p (.vfldUv p) s fun Q => UpToFrames P Q) ∧
      (P.supply.field ≠ .uv → RunsPortal p (.vfldUv p) s fun Q => Q.supply.field = .uv ∧ wbit Q.supply.psEvt 21 = true ∧ Q.supply.ssOn = 0 ∧
        (P.supply.field = .normal → wbit Q.supply.psEvt 22 = true ∧ wbit Q.supply.psEvt 23 = true) ∧
        (∀ k, (Q.switches.get k).on = false) ∧ (∀ o, (Q.sos.so o).on = false) ∧ (∀ a, (Q.axes.get a).drive = .torqueOff) ∧
        Q.ob.lockCause = P.ob.lockCause ∧ Q.proven = P.proven ∧ Q.units = P.units) ∧
      (P.supply.field = .normal → RunsPortal p (.vfldStateRecover p) s fun Q => UpToFrames P Q) ∧
      (P.supply.field = .warn → RunsPortal p (.vfldStateRecover p) s fun Q => UpToFrames { P with supply := { P.supply with field := .normal } } Q) ∧
      (P.supply.field = .uv → RunsPortal p (.vfldStateRecover p) s fun Q =>
        UpToFrames { P with supply := { P.supply with field := .hold, ssOn := P.pio.ssEn &&& ~~~P.supply.ssOvl } } Q) ∧
      (P.supply.field = .hold → RunsPortal p (.vfldStateRecover p) s fun Q => Q.supply.field = .warn ∧ Q.units = P.units ∧
        (P.link.kept = .all none → (∀ k, (P.switches.get k).retry = none) →
          UpToFrames { P with supply := { P.supply with field := .warn }, switches := Q.switches } Q ∧
          (P.supply.restoring = true → Q.switches = P.switches) ∧
          (P.supply.restoring = false → ∀ k, (P.switches.get k).deferred = false → Q.switches.get k = P.switches.get k) ∧
          (P.supply.restoring = false → ∀ k, (P.switches.get k).deferred = true → Q.switches.get k = { (P.switches.get k) with
            on := (P.switches.get k).demand, deferred := false, retryLeft := (P.switchCfg k.val).retries, shortTries := 0, shortCl := false }))) ∧
      (P.holding = true ∨ P.supply.restoring = false → RunsPortal p (.switchRestoreStep p) s fun Q => UpToFrames P Q) ∧
      (P.holding = false → P.supply.restoring = true → (∀ k, (P.switches.get k).deferred = false) →
        RunsPortal p (.switchRestoreStep p) s fun Q => UpToFrames { P with supply := { P.supply with restoring := false } } Q) ∧
      (∀ n, P.holding = false → P.supply.restoring = true → (P.switches.get n).deferred = true → (∀ k, k < n → (P.switches.get k).deferred = false) →
        RunsPortal p (.switchRestoreStep p) s fun Q => UpToFrames { P with
          switches := P.switches.set n { (P.switches.get n) with
            on := (P.switches.get n).demand, deferred := false, retryLeft := (P.switchCfg n.val).retries, shortTries := 0, shortCl := false } } Q) ∧
      (RunsPortal p (.vswLowClear p) s fun Q => UpToFrames { P with supply := { P.supply with vswLow := false } } Q) ∧
      (RunsPortal p (.vswLowSet p) s fun Q => UpToFrames { P with
        supply := { P.supply with vswLow := true, psEvt := if P.supply.vswLow = true then P.supply.psEvt else raise P.supply.psEvt 20 } } Q) ∧
      (∀ t : BitVec 16, RunsPortal p (.dieTempMeasure p t) s fun Q => UpToFrames { P with
        supply := { P.supply with
          die := t, dieMeasured := true, dieHot := P.supply.dieHot && decide (140 ≤ t.toInt),
          dieMax := if P.supply.dieMeasured = false ∨ P.supply.dieMax.toInt < t.toInt then t else P.supply.dieMax } } Q) ∧
      (RunsPortal p (.portalDieOvertemp p) s fun Q => Q.supply.dieHot = true ∧ Q.cls = .fault ∧ Q.units = P.units ∧ Q.proven = P.proven ∧
        (P.cls ≠ .fault → Q.link.failsafe = true ∧ ∀ o, (Q.sos.so o).on = false)) ∧
      (RunsPortal p (.vholdLowPor p) s fun Q => Q = { por := true, supply := { porVhold := true } }) ∧
      (RunsPortal p (.portalLogicPorRelease p) s fun Q => Q = P)) ∧
  (∀ (s : State) (p : PortalId), (s.portals.get p).por = true →
      RunsPortal p (.portalLogicPorRelease p) s fun Q =>
        Q = { (s.portals.get p) with por := false, ob := { (s.portals.get p).ob with selftest := some .download } }) ∧
  (∀ (s : State) (p : PortalId) (k : Fin 2) (P : PortalState) (c : CurtainState) (r : CurtainCfg), s.portals.get p = P → P.calm →
      P.curtains.at2 k = c → P.curtainCfg k.val = r →
      let now := fun d : CurtainState => { P with curtains := P.curtains.set2 k d }
      (∀ l, c.phase = .off → RunsPortal p (.curtainHelloRsp p k l) s fun Q => UpToFrames P Q) ∧
      (∀ l : List Byte, c.phase = .hello → l.length = 12 → rd8 l 0 = 0xA5 → rd8 l 1 = 0x11 → curtainCrcOk l = true →
        RunsPortal p (.curtainHelloRsp p k l) s fun Q => UpToEvents { P with curtains := Q.curtains } Q ∧
          Q.curtains.at2 (1 - k) = P.curtains.at2 (1 - k) ∧ (Q.curtains.at2 k).ident = rdw l 6 ∧
          (rd8 l 5 ≠ 5 ∨ (r.nbeams ≠ 0 ∧ r.nbeams ≠ rd8 l 4) ∨ (r.identReq ≠ 0 ∧ r.identReq ≠ rdw l 6) →
            (Q.curtains.at2 k).phase = .failed ∧ wbit (Q.curtains.at2 k).evt 3 = true) ∧
          (rd8 l 5 = 5 → (r.nbeams = 0 ∨ r.nbeams = rd8 l 4) → (r.identReq = 0 ∨ r.identReq = rdw l 6) →
            (min (min 2 r.vmax) (rd8 l 2) < rd8 l 3 ∨ min (min 2 r.vmax) (rd8 l 2) = 0 → (Q.curtains.at2 k).phase = .failed ∧
                wbit (Q.curtains.at2 k).evt 0 = true) ∧
            (0 < min (min 2 r.vmax) (rd8 l 2) → rd8 l 3 ≤ min (min 2 r.vmax) (rd8 l 2) → (Q.curtains.at2 k).phase = .select ∧
              (Q.curtains.at2 k).vsel = min (min 2 r.vmax) (rd8 l 2) ∧
              (Q.curtains.at2 k).sent = curtainOut [0x5A, 0x12, BitVec.ofNat 8 (min (min 2 r.vmax) (rd8 l 2)), 0]))) ∧
      (∀ l : List Byte, c.phase ≠ .off → c.phase ≠ .hello ∨ l.length ≠ 12 ∨ rd8 l 0 ≠ 0xA5 ∨ rd8 l 1 ≠ 0x11 ∨ curtainCrcOk l = false →
        RunsPortal p (.curtainHelloRsp p k l) s fun Q => UpToFrames (now { c with crcErr := satInc c.crcErr 0xFFFF }) Q) ∧
      (c.phase ≠ .hello → c.phase ≠ .select → RunsPortal p (.curtainHelloTimeout p k) s fun Q => UpToFrames P Q) ∧
      (c.phase = .hello → c.tries < 2 → RunsPortal p (.curtainHelloTimeout p k) s fun Q => UpToFrames (now { c with
        tries := c.tries + 1, sent := curtainOut [0x5A, 0x10, BitVec.ofNat 8 (min 2 r.vmax), 1] }) Q) ∧
      (c.phase = .hello → 2 ≤ c.tries → r.legacyOk = true → c.v1Seen = true → RunsPortal p (.curtainHelloTimeout p k) s fun Q =>
        UpToEvents (now { c with tries := c.tries + 1, phase := .live, vsel := 1, legacy := true, evt := raise c.evt 4 }) Q) ∧
      (c.phase = .select ∨ (c.phase = .hello ∧ 2 ≤ c.tries ∧ (r.legacyOk = false ∨ c.v1Seen = false)) →
        RunsPortal p (.curtainHelloTimeout p k) s fun Q => UpToEvents (now { c with
          tries := (Q.curtains.at2 k).tries, phase := .lost, legacy := false, summary := true, evt := raise c.evt 5 }) Q) ∧
      (r.used = false ∨ (c.phase ≠ .lost ∧ c.phase ≠ .failed) → RunsPortal p (.curtainRenegotiate p k) s fun Q => UpToFrames P Q) ∧
      (r.used = true → c.phase = .lost ∨ c.phase = .failed → RunsPortal p (.curtainRenegotiate p k) s fun Q => UpToEvents (now { c with
        phase := .hello, tries := 0, v1Seen := false, legacy := false, vsel := 0, seq := none, summary := true,
        sent := curtainOut [0x5A, 0x10, BitVec.ofNat 8 (min 2 r.vmax), 1] }) Q) ∧
      (∀ l v, beamVersion l = some v → v = c.vsel → c.phase = .live ∨ c.phase = .select →
        RunsPortal p (.curtainBeamFrame p k l) s fun Q => UpToEvents (now (Q.curtains.at2 k)) Q ∧
          ∃ d, Q.curtains.at2 k = d ∧ d.phase = .live ∧ d.seq = some (l.getD 2 0) ∧ d.beams = BitVec.ofNat 64 (rd64 l 4) ∧
            d.status = l.getD (if v = 2 then 22 else 12) 0 ∧ d.crcErr = c.crcErr ∧
            d.summary = (((d.beams ||| d.latch) &&& r.mask) != 0 || wbit d.status 0) ∧
            d.latch = (if v = 2 then BitVec.ofNat 64 (rd64 l 12) else 0) ∧
            (∀ q, c.seq = some q → l.getD 2 0 = q + 1 → d.missed = min 0xFFFF c.missed)) ∧
      (∀ l v, beamVersion l = some v → v ≠ c.vsel → c.phase = .live ∨ c.phase = .select →
        RunsPortal p (.curtainBeamFrame p k l) s fun Q => UpToFrames (now { c with crcErr := satInc c.crcErr 0xFFFF }) Q) ∧
      (∀ l v, beamVersion l = some v → c.wants = v → c.phase = .hello → RunsPortal p (.curtainBeamFrame p k l) s fun Q =>
        UpToEvents (now { c with v1Seen := true }) Q) ∧
      (∀ l v, beamVersion l = some v → c.wants = v → c.phase = .lost ∨ c.phase = .failed → RunsPortal p (.curtainBeamFrame p k l) s fun Q => UpToEvents P Q) ∧
      (∀ l v, beamVersion l = some v → c.wants ≠ v → c.phase ≠ .off → c.unselected = true → RunsPortal p (.curtainBeamFrame p k l) s fun Q => UpToFrames P Q) ∧
      (∀ l, beamVersion l = none → c.phase ≠ .off → RunsPortal p (.curtainBeamFrame p k l) s fun Q =>
        UpToFrames (now { c with crcErr := satInc c.crcErr 0xFFFF }) Q) ∧
      (∀ l, c.phase = .off → RunsPortal p (.curtainBeamFrame p k l) s fun Q => UpToFrames P Q) ∧
      (c.phase = .live → RunsPortal p (.curtainLostTimeout p k) s fun Q =>
        UpToEvents (now { c with phase := .lost, legacy := false, summary := true, evt := raise c.evt 5 }) Q) ∧
      (c.phase ≠ .live → RunsPortal p (.curtainLostTimeout p k) s fun Q => UpToFrames P Q) ∧
      (c.phase ≠ .off → RunsPortal p (.curtainFrameDiscarded p k) s fun Q => UpToFrames (now { c with crcErr := satInc c.crcErr 0xFFFF }) Q) ∧
      (c.phase = .off → RunsPortal p (.curtainFrameDiscarded p k) s fun Q => UpToFrames P Q))

/-- R147, R149, R161 to R176, R490: the axes of a portal die. Precharge and alignment end in standstill with an electrical reference, every expiry of the step
timer moves the demanded position by one, the duties computed in a PWM period come into effect in the next, and every trip of R170 removes torque and puts the
portal into FAULT. R181 to R205: the feedback ports count, re-reference, compare and report their faults. -/
def Obligations.AxesAndFeedback : Prop :=
  (∀ (s : State) (p : PortalId) (a : AxisId) (P : PortalState) (x : AxisState), s.portals.get p = P → P.calm → P.axes.get a = x →
      let now := fun y : AxisState => { P with axes := P.axes.set a y }
      let learnt := fun o : ObState => { P.ob with
        evt := o.evt, progArmed := o.progArmed, learn := o.learn, learnRun := o.learnRun, runsOk := o.runsOk, runsDisc := o.runsDisc,
        learnAxes := o.learnAxes }
      (x.precharge = false → RunsPortal p (.bootstrapPrechargeEnd p a) s fun Q => UpToFrames P Q) ∧
      (x.precharge = true → P.ob.reversal = none → x.drive ≠ .standstill → RunsPortal p (.bootstrapPrechargeEnd p a) s fun Q =>
        UpToFrames (now { x with precharge := false }) Q) ∧
      (x.precharge = true → P.ob.reversal = none → P.link.limp = false → x.drive = .standstill → x.queued = none →
        RunsPortal p (.bootstrapPrechargeEnd p a) s fun Q => UpToFrames (now { x with precharge := false }) Q) ∧
      (∀ b, x.precharge = true → P.ob.reversal = none → P.link.limp = false → x.drive = .standstill → x.queued = some b →
        (P.holding = true → RunsPortal p (.bootstrapPrechargeEnd p a) s fun Q => UpToFrames (now { x with precharge := false }) Q) ∧
        (P.holding = false → (∀ i, i ≠ a → (P.axes.get i).queued ≠ some b) → RunsPortal p (.bootstrapPrechargeEnd p a) s fun Q =>
          UpToFrames { now (Q.axes.get a) with ob := learnt Q.ob, mon2 := { P.mon2 with progArmed := Q.mon2.progArmed } } Q ∧
            (Q.axes.get a).precharge = false ∧ (Q.axes.get a).queued = none) ∧
        ((∃ i, i ≠ a ∧ (P.axes.get i).queued = some b ∧ (P.axes.get i).enabled = true ∧ (P.axes.get i).canStep = false) →
          RunsPortal p (.bootstrapPrechargeEnd p a) s fun Q => UpToFrames (now { x with precharge := false }) Q)) ∧
      (x.drive ≠ .align ∨ x.precharge = true → RunsPortal p (.alignComplete p a) s fun Q => UpToFrames P Q) ∧
      (x.drive = .align → x.precharge = false → P.ob.reversal = none → P.link.limp = false → x.queued = none →
        RunsPortal p (.alignComplete p a) s fun Q => UpToFrames (now { x with
          drive := .standstill, aligned := true, refTheta := x.theta, refCounter := (P.fbs.get a).pos, holdFrom := s.clock }) Q) ∧
      (x.motion = none ∨ x.moving = false ∨ x.timer = 0 ∨ (∃ m, x.motion = some m ∧ x.demand = m.target) →
        RunsPortal p (.stepTimerExpire p a) s fun Q => UpToFrames P Q) ∧
      (∀ m, x.motion = some m → x.moving = true → x.timer ≠ 0 → x.demand ≠ m.target →
        let d : Int := if x.demand < m.target then 1 else -1
        (P.ob.stop = none → RunsPortal p (.stepTimerExpire p a) s fun Q => Q.ob.stop = none) ∧
        (∀ st, P.ob.stop = some st → wbit st.axes a.val = true → st.started.get a = none → m.why = .safeStop →
          RunsPortal p (.stepTimerExpire p a) s fun Q => Q.ob.stop = some { st with started := st.started.set a (some s.clock) }) ∧
        (x.demand + d ≠ m.target → RunsPortal p (.stepTimerExpire p a) s fun Q =>
          UpToFrames { now (Q.axes.get a) with ob := { P.ob with stop := Q.ob.stop } } Q ∧
          (Q.axes.get a).demand = x.demand + d ∧ (Q.axes.get a).drive = x.drive ∧ 50 ≤ (Q.axes.get a).timer ∧
          (Q.axes.get a).theta = if (P.axisCfg a).kind = 3 then x.theta
            else (x.theta + if (P.axisCfg a).dirInv then -d else d) % ((P.axisCfg a).period : Int)) ∧
        (x.demand + d = m.target → m.why = .profile → m.after = .rest → P.ob.reversal = none → P.ob.learnRun = none → P.det.progTmo = 0 →
          RunsPortal p (.stepTimerExpire p a) s fun Q =>
            UpToFrames { now (Q.axes.get a) with ob := { P.ob with stop := Q.ob.stop } } Q ∧ (Q.axes.get a).demand = m.target ∧
            (Q.axes.get a).drive = .standstill ∧ (Q.axes.get a).motion = none ∧ (Q.axes.get a).atEnd = (x.atEnd || m.endsAtTarget) ∧
            (Q.axes.get a).holdRed = false ∧ (Q.axes.get a).holdFrom = s.clock)) ∧
      (∀ m : PwmSample, P.ob.lockCause = 0 → wbit P.ob.gateCheck a.val = true → m.gatesLow = false → RunsPortal p (.pwmPeriod p a m) s fun Q =>
        Q.ob.lockCause = 4 ∧ Q.units = P.units ∧ ∀ b, (Q.axes.get b).drive = .torqueOff) ∧
      (∀ m : PwmSample, wbit P.ob.gateCheck a.val = false ∨ m.gatesLow = true → RunsPortal p (.pwmPeriod p a m) s fun Q =>
        UpToFrames { now (Q.axes.get a) with
          supply := { P.supply with vbus := Q.supply.vbus, vmotLow := Q.supply.vmotLow }, ob := Q.ob, mon2 := Q.mon2 } Q ∧
        (∀ i : AxisId, wbit Q.ob.gateCheck i.val = (wbit P.ob.gateCheck i.val && i != a)) ∧
        (Q.axes.get a).duty = x.dutyNext ∧ (Q.axes.get a).drive = x.drive ∧ (Q.axes.get a).demand = x.demand ∧
        (Q.axes.get a).motion = x.motion ∧ Q.ob.stop = P.ob.stop ∧ Q.ob.lockCause = P.ob.lockCause ∧
        (x.drive = .torqueOff ∨ x.precharge = true → (Q.axes.get a).iDemand = 0 ∧ (Q.axes.get a).dutyNext = .all 0 ∧ (Q.axes.get a).dnow = 0) ∧
        (holds P.units tagPROF 1 = false → Q.supply = P.supply ∧ (Q.axes.get a).vmin = x.vmin) ∧
        (holds P.units tagPROF 1 = true → Q.supply.vbus = min (ratR (P.busOf m.vmot / 10000)).toNat 0xFFFF ∧
          (Q.axes.get a).vmin = min x.vmin Q.supply.vbus)) ∧
      (∀ h, RunsPortal p (.holdDelayExpire p a h) s fun Q => UpToFrames (now (if x.drive = .standstill ∧ x.precharge = false ∧ x.holdRed = false ∧
        x.holdFirm = false ∧ h = false then { x with holdRed := true, redAt := s.clock } else x)) Q) ∧
      (RunsPortal p (.axMclrClrDuty p a) s fun Q => UpToFrames (now { x with dmax := x.dnow, satCnt := 0 }) Q) ∧
      (RunsPortal p (.axMclrClrVmin p a) s fun Q => UpToFrames (now { x with vmin := P.supply.vbus }) Q) ∧
      (RunsPortal p (.vgateRestored p) s fun Q => UpToFrames { P with supply := { P.supply with gateUv := false } } Q) ∧
      (∀ legs : BitVec 4, legs.toNat % 2 ^ legsUsed (P.axisCfg a).kind = 0 → RunsPortal p (.legOvercurrent p a legs) s fun Q => UpToFrames P Q) ∧
      (∀ leg : Fin 4, x.enabled = false ∨ x.precharge = true ∨ legsUsed (P.axisCfg a).kind ≤ leg.val →
        RunsPortal p (.bootstrapUndervoltage p a leg) s fun Q => UpToFrames P Q) ∧
      (P.vov = 0 → RunsPortal p (.vbusOvervoltage p) s fun Q => UpToFrames P Q) ∧
      ((∀ b, (P.axes.get b).enabled = false) → RunsPortal p (.vgateUndervoltage p) s fun Q =>
        UpToFrames { P with supply := { P.supply with gateUv := true } } Q) ∧
      let tripped := fun (i : Nat) (b : AxisId) (Q : PortalState) => Q.cls = .fault ∧ Q.units = P.units ∧ Q.ob.lockCause = P.ob.lockCause ∧
        (Q.axes.get b).drive = .torqueOff ∧ (Q.axes.get b).trip = true ∧ wbit (Q.axes.get b).evt i = true ∧
        (Q.axes.get b).tripCnt = satInc (P.axes.get b).tripCnt 0xFFFF
      (∀ legs : BitVec 4, legs.toNat % 2 ^ legsUsed (P.axisCfg a).kind ≠ 0 → RunsPortal p (.legOvercurrent p a legs) s fun Q =>
        tripped 15 a Q ∧ fget (Q.axes.get a).evt 3 0 = legs.toNat % 2 ^ legsUsed (P.axisCfg a).kind) ∧
      (∀ leg : Fin 4, x.enabled = true → x.precharge = false → leg.val < legsUsed (P.axisCfg a).kind →
        RunsPortal p (.bootstrapUndervoltage p a leg) s fun Q => tripped 14 a Q) ∧
      (P.vov ≠ 0 → RunsPortal p (.vbusOvervoltage p) s fun Q => ∀ b, tripped 12 b Q) ∧
      (x.enabled = true → RunsPortal p (.vgateUndervoltage p) s fun Q => Q.supply.gateUv = true ∧ ∀ b, tripped 13 b Q)) ∧
  (∀ (s : State) (p : PortalId) (a : AxisId) (P : PortalState) (f : FbState) (c : FbCfg), s.portals.get p = P → P.calm → P.fbs.get a = f →
      P.fbCfg a = c →
      let now := fun (Q : PortalState) (g : FbState) =>
        { P with fbs := P.fbs.set a g, mon2 := { P.mon2 with fbs := P.mon2.fbs.set a (Q.mon2.fbs.get a) } }
      let gateShut := c.kind = 1 ∧ c.idxGate = true ∧ (f.qa && f.qb) = false
      (∀ (qa qb e : Bool) (code : BitVec 3) (w : SsiFrame) (sn cs : BitVec 12) (v : Word), P.mon2.fbs.get a = f →
        ∀ i ∈ ([.quadEdge p a qa qb, .indexEvent p a e, .hallCodeChange p a code, .ssiRequest p a e, .ssiFrameComplete p a w,
            .sincosSample p a sn cs, .observerUpdate p a, .stillTimeout p a e, .fbSetposWrite p a v, .fbClrRearmIdx p a, .fbClrRmin p a,
            .fbClrCnt p a, .fbCmpctlWrite p a v, .fbCmpvalWrite p a v] : List Instr),
          RunsPortal p i s fun Q => Q.mon2.fbs.get a = Q.fbs.get a) ∧
      (∀ qa qb, c.kind ≠ 1 → RunsPortal p (.quadEdge p a qa qb) s fun Q => UpToFrames P Q) ∧
      (∀ qa qb, c.kind = 1 → (quadPhase qa qb + 4 - quadPhase f.qa f.qb) % 4 = 0 → RunsPortal p (.quadEdge p a qa qb) s fun Q =>
        UpToFrames (now Q { f with qa := qa, qb := qb }) Q) ∧
      (∀ qa qb, c.kind = 1 → (quadPhase qa qb + 4 - quadPhase f.qa f.qb) % 4 = 2 → RunsPortal p (.quadEdge p a qa qb) s fun Q =>
        UpToFrames (now Q { f with
          qa := qa, qb := qb, illCnt := satInc f.illCnt 0xFFFF, uncertain := true, idxArmed := f.idxArmed || c.idxMode == 2,
          evt := raise f.evt 14 }) Q) ∧
      (∀ (qa qb : Bool) (up : Bool), c.kind = 1 → (quadPhase qa qb + 4 - quadPhase f.qa f.qb) % 4 = (if up then 1 else 3) →
        RunsPortal p (.quadEdge p a qa qb) s fun Q =>
          UpToEvents { now Q (Q.fbs.get a) with afe := { P.afe with devents := Q.afe.devents } } Q ∧ (Q.fbs.get a).qa = qa ∧ (Q.fbs.get a).qb = qb ∧
          (Q.fbs.get a).still = false ∧ (Q.fbs.get a).pos = clampI c.lo c.hi (f.pos + c.turn (if up then 1 else -1))) ∧
      (∀ i, c.indexed = false → RunsPortal p (.indexEvent p a i) s fun Q => UpToFrames P Q) ∧
      (∀ i, gateShut → RunsPortal p (.indexEvent p a i) s fun Q => UpToFrames (now Q f) Q) ∧
      (∀ i, ¬gateShut → c.indexed = true → i = true ∨ c.idxMode < 2 ∨ (c.idxMode = 2 ∧ f.idxArmed = false) → RunsPortal p (.indexEvent p a i) s fun Q =>
        UpToFrames (now Q { f with idxPos := f.pos, evt := raise f.evt 13 }) Q) ∧
      (¬gateShut → c.indexed = true → 2 < c.idxMode ∨ (c.idxMode = 2 ∧ f.idxArmed = true) → RunsPortal p (.indexEvent p a false) s fun Q =>
        UpToFrames (now Q (Q.fbs.get a)) Q ∧ (Q.fbs.get a).idxPos = f.pos ∧ wbit (Q.fbs.get a).evt 13 = true ∧
        (c.idxTol = 0 ∨ |c.idxVal - f.pos| ≤ (c.idxTol : Int) → (Q.fbs.get a).pos = c.idxVal ∧ (Q.fbs.get a).uncertain = false ∧
          (Q.fbs.get a).idxArmed = false ∧ (Q.fbs.get a).pHat = f.pHat + (c.idxVal - f.pos : Int) ∧ (Q.fbs.get a).limHi = false ∧
          (Q.fbs.get a).limLo = false) ∧
        (c.idxTol ≠ 0 → (c.idxTol : Int) < |c.idxVal - f.pos| → (Q.fbs.get a).pos = f.pos ∧ (Q.fbs.get a).uncertain = true ∧
          wbit (Q.fbs.get a).evt 12 = true)) ∧
      (∀ code, RunsPortal p (.hallCodeChange p a code) s fun Q => (Q.fbs.get a).hallCode = code ∧ Q.units = P.units ∧
        (c.usesHall = false → UpToFrames (now Q { f with hallCode := code }) Q) ∧
        (c.usesHall = true → code = 0 ∨ code = 7 →
          UpToFrames (now Q { f with hallCode := code, frameCnt := satInc f.frameCnt 0xFFFF, evt := raise f.evt 6 }) Q) ∧
        (∀ i, c.usesHall = true → sectorOf c code.toNat = some i → (Q.fbs.get a).hallSector = BitVec.ofNat 3 i ∧
          (c.kind ≠ 4 → (Q.fbs.get a).pos = f.pos) ∧
          (c.kind = 4 → f.hallSector ≠ 7 → (i + 6 - f.hallSector.toNat) % 6 = 1 → (Q.fbs.get a).pos = clampI c.lo c.hi (f.pos + c.turn 1)))) ∧
      (∀ d, c.kind ≠ 2 ∨ f.ssiBusy = true → RunsPortal p (.ssiRequest p a d) s fun Q => UpToFrames P Q) ∧
      (c.kind = 2 → f.ssiBusy = false → RunsPortal p (.ssiRequest p a true) s fun Q =>
        UpToFrames (now Q { f with ssiBusy := true, ssiLatch := P.link.time }) Q) ∧
      (c.kind = 2 → f.ssiBusy = false → f.ssiBad < 2 → RunsPortal p (.ssiRequest p a false) s fun Q =>
        UpToFrames (now Q { f with ssiBad := f.ssiBad + 1, evt := raise f.evt 10 }) Q) ∧
      (c.kind = 2 → f.ssiBusy = false → 2 ≤ f.ssiBad → RunsPortal p (.ssiRequest p a false) s fun Q => Q.cls = .fault ∧ Q.units = P.units ∧
        wbit (Q.fbs.get a).evt 0 = true ∧ wbit (Q.fbs.get a).evt 10 = true) ∧
      (∀ w, f.ssiBusy = false → RunsPortal p (.ssiFrameComplete p a w) s fun Q => UpToFrames P Q) ∧
      (∀ w : SsiFrame, f.ssiBusy = true → w.trail = true → RunsPortal p (.ssiFrameComplete p a w) s fun Q => (Q.fbs.get a).ssiBusy = false ∧
        (Q.fbs.get a).pos = f.pos ∧ wbit (Q.fbs.get a).evt 11 = true ∧ (Q.fbs.get a).frameCnt = satInc f.frameCnt 0xFFFF ∧ Q.units = P.units ∧
        (f.ssiBad < 2 → UpToFrames (now Q (Q.fbs.get a)) Q) ∧ (2 ≤ f.ssiBad → Q.cls = .fault)) ∧
      (∀ w : SsiFrame, f.ssiBusy = true → w.trail = false → c.dbl = false → (w.status.toNat &&& c.errMask) = 0 → c.jump = 0 → c.wrap = false →
          c.gray = false → c.cntInv = false → RunsPortal p (.ssiFrameComplete p a w) s fun Q =>
        UpToEvents { now Q (Q.fbs.get a) with afe := { P.afe with devents := Q.afe.devents } } Q ∧ (Q.fbs.get a).ssiBusy = false ∧
        (Q.fbs.get a).ssiBad = 0 ∧ (Q.fbs.get a).uncertain = false ∧
        (Q.fbs.get a).pos = clampI c.lo c.hi ((w.data.toNat % 2 ^ c.dbits : Nat) : Int)) ∧
      (∀ sn cs, c.kind ≠ 3 → RunsPortal p (.sincosSample p a sn cs) s fun Q => UpToFrames P Q) ∧
      (∀ sn cs : BitVec 12, c.kind = 3 →
        let sq := ((sn.toInt - c.sinOfs) * (sn.toInt - c.sinOfs) + (cs.toInt - c.cosOfs) * (cs.toInt - c.cosOfs)).toNat
        (100 * sq < c.wlo * (c.nom * c.nom) → RunsPortal p (.sincosSample p a sn cs) s fun Q => wbit (Q.fbs.get a).evt 8 = true ∧
          (Q.fbs.get a).pos = f.pos ∧ Q.units = P.units ∧ (f.scBad < 7 → UpToFrames (now Q (Q.fbs.get a)) Q) ∧ (7 ≤ f.scBad → Q.cls = .fault)) ∧
        (c.wlo * (c.nom * c.nom) ≤ 100 * sq → 100 * sq ≤ c.whi * (c.nom * c.nom) → RunsPortal p (.sincosSample p a sn cs) s fun Q =>
          UpToEvents { now Q (Q.fbs.get a) with afe := { P.afe with devents := Q.afe.devents } } Q ∧ (Q.fbs.get a).scBad = 0 ∧
          (Q.fbs.get a).scAngle = some (scAngleOf (sn.toInt - c.sinOfs) (cs.toInt - c.cosOfs)))) ∧
      (P.ob.stop = none → RunsPortal p (.observerUpdate p a) s fun Q =>
        UpToFrames { P with
          fbs := P.fbs.set a (if c.kind = 0 then f else f.observe c s.clock), axes := P.axes.set a (Q.axes.get a),
          ob := { P.ob with lagRun := Q.ob.lagRun, progArmed := Q.ob.progArmed }, mon2 := Q.mon2,
          afe := { P.afe with derived := Q.afe.derived } } Q ∧
        ((P.axes.get a).drive = .torqueOff → (Q.axes.get a).lag = 0 ∧ (c.kind ≠ 0 → (Q.axes.get a).demand = P.fbUnits a)) ∧
        ((P.axes.get a).drive ≠ .torqueOff → c.kind ≠ 0 → (Q.axes.get a).lag = (P.axes.get a).demand - P.fbUnits a)) ∧
      (∀ st, c.kind ≠ 0 → P.ob.stop = some st → wbit st.axes a.val = true →
          (let fast := fun (x : FbState) (n : Nat) => 1 ≤ n ∧
            P.vEnv s.clock a st < |(x.observe c s.clock).vHat| * mkRat (P.axisCfg a).fbRatio 65536
           fast f (P.ob.envRun.get a) ∨ fast (P.mon2.fbs.get a) (P.mon2.envRun.get a)) →
        RunsPortal p (.observerUpdate p a) s fun Q => Q.ob.spdTrips = satInc P.ob.spdTrips 255 ∧ wbit Q.ob.evt 14 = true ∧ Q.ob.stop = none ∧
          Q.units = P.units ∧ ∀ b, (Q.axes.get b).drive = .torqueOff) ∧
      (∀ e, e = true ∨ (f.still = true ∧ (P.mon2.fbs.get a).still = true) → RunsPortal p (.stillTimeout p a e) s fun Q => UpToFrames P Q) ∧
      (f.still = false → P.ob.stop = none → RunsPortal p (.stillTimeout p a false) s fun Q => UpToFrames (now Q { f with
        still := true, spdQual := false, firstEdge := false, intervals := [], seededAt := none, vHat := 0, aHat := 0, pHat := f.pos }) Q) ∧
      (∀ v : Word, (P.axes.get a).drive = .torqueOff → RunsPortal p (.fbSetposWrite p a v) s fun Q => UpToFrames (now Q (Q.fbs.get a)) Q ∧
        (Q.fbs.get a).pos = v.toInt ∧ (Q.fbs.get a).pHat = v.toInt ∧ (Q.fbs.get a).vHat = 0 ∧ (Q.fbs.get a).still = true ∧
        (Q.fbs.get a).uncertain = false ∧ (Q.fbs.get a).cmpHits = f.cmpHits) ∧
      (∀ v : Word, (P.axes.get a).drive ≠ .torqueOff → RunsPortal p (.fbSetposWrite p a v) s fun Q =>
        UpToFrames (now Q { f with evt := raise f.evt 16 }) Q) ∧
      (RunsPortal p (.fbClrRearmIdx p a) s fun Q => UpToFrames (now Q { f with idxArmed := f.idxArmed || c.armsIndex }) Q) ∧
      (RunsPortal p (.fbClrRmin p a) s fun Q => UpToFrames (now Q { f with rmin := f.rnow }) Q) ∧
      (RunsPortal p (.fbClrCnt p a) s fun Q => UpToFrames (now Q { f with illCnt := 0, frameCnt := 0 }) Q) ∧
      (∀ v : Word, wbit v 31 = false → RunsPortal p (.fbCmpctlWrite p a v) s fun Q => UpToFrames (now Q { f with cmpCtl := v &&& 0x8000FFFF }) Q) ∧
      (∀ v : Word, wbit v 31 = true → f.pos ≠ f.cmpVal.toInt → RunsPortal p (.fbCmpctlWrite p a v) s fun Q =>
        UpToFrames (now Q { f with cmpCtl := v &&& 0x8000FFFF, cmpHits := 0 }) Q) ∧
      (∀ v : Word, wbit v 31 = true → f.pos = f.cmpVal.toInt → RunsPortal p (.fbCmpctlWrite p a v) s fun Q =>
        UpToEvents { now Q (Q.fbs.get a) with afe := { P.afe with devents := putBit P.afe.devents (32 + a.val) true } } Q ∧
        (Q.fbs.get a).cmpHits = 1 ∧ (Q.fbs.get a).cmpT = P.link.time ∧ wbit (Q.fbs.get a).evt 5 = true ∧ (Q.fbs.get a).pos = f.pos) ∧
      (∀ v : Word, RunsPortal p (.fbCmpvalWrite p a v) s fun Q => UpToFrames (now Q { f with cmpVal := v }) Q) ∧
      (∀ l : Fin 4, f.passed = false ∨ wbit c.usedLines l.val = false →
        RunsPortal p (.lineInvalidTimeout p a l) s fun Q => UpToFrames P Q) ∧
      (∀ l : Fin 4, f.passed = true → wbit c.usedLines l.val = true → RunsPortal p (.lineInvalidTimeout p a l) s fun Q =>
        Q.cls = .fault ∧ Q.units = P.units ∧ wbit (Q.fbs.get a).evt 0 = true ∧ wbit (Q.fbs.get a).evt 2 = true ∧
          (Q.fbs.get a).lineOk = putBit f.lineOk l.val false) ∧
      (f.passed = false ∨ c.usesHall = false ∨ (f.hallCode ≠ 0 ∧ f.hallCode ≠ 7) →
        RunsPortal p (.hallInvalidTimeout p a) s fun Q => UpToFrames P Q) ∧
      (f.passed = true → c.usesHall = true → f.hallCode = 0 ∨ f.hallCode = 7 → RunsPortal p (.hallInvalidTimeout p a) s fun Q =>
        Q.cls = .fault ∧ Q.units = P.units ∧ wbit (Q.fbs.get a).evt 0 = true ∧ wbit (Q.fbs.get a).evt 2 = true)) ∧
  (∀ (s : State) (p : PortalId) (x : Three FbFound) (P : PortalState), s.portals.get p = P → P.calm →
      (holds P.units tagIOMP 8 = false → RunsPortal p (.feedbackDetectionComplete p x) s fun Q => UpToFrames P Q) ∧
      (holds P.units tagIOMP 8 = true →
          (∀ a, (P.axisCfg a).kind ≠ 0 → (P.fbs.get a).detected = false → (P.fbCfg a).kindByte = 1 ∧ (x.get a).quad = true) →
        RunsPortal p (.feedbackDetectionComplete p x) s fun Q => UpToFrames { P with fbs := Q.fbs, mon2 := { P.mon2 with fbs := Q.mon2.fbs } } Q ∧
          ∀ a, Q.fbs.get a = if (P.axisCfg a).kind ≠ 0 ∧ (P.fbs.get a).detected = false then { (P.fbs.get a) with
            detect := BitVec.ofNat 32 (256 + bitsOf [(x.get a).quad, (x.get a).ssi, (x.get a).sincos, (x.get a).hall]), lineOk := (x.get a).lineOk,
                passed := true }
            else P.fbs.get a) ∧
      (∀ a, holds P.units tagIOMP 8 = true → (P.axisCfg a).kind ≠ 0 → (P.fbs.get a).detected = false → (P.fbCfg a).kind = 1 → (x.get a).quad = false →
        RunsPortal p (.feedbackDetectionComplete p x) s fun Q => Q.cls = .fault ∧ Q.units = P.units ∧ wbit (Q.fbs.get a).evt 1 = true))

/-- R208 to R232, R237, R240: the safety monitor, the detectors, the ends of a safe stop and the lock-out of a portal die. A disagreement that persists,
a failed test or a torque that does not fall latches the lock-out with its cause and removes torque; a detection starts one safe stop of the moving
axes; only a reset whose self-test passes clears the lock-out. -/
def Obligations.SafetyMonitorStopsAndLockout : Prop :=
  (∀ (s : State) (p : PortalId) (P : PortalState), s.portals.get p = P → P.por = false → (∀ a, (P.axes.get a).trip = false) →
      P.link.outcomeWaits = false → P.ob.lclrCount = true →
    (P.resetWhy p ≠ 0 → P.ob.selftest = none → RunsPortal p (.lockoutClrLocal p) s fun Q => UpToFrames { P with ob := { P.ob with lclrCount := false } } Q) ∧
    (P.resetWhy p = 0 → RunsPortal p (.lockoutClrLocal p) s fun Q => UpToFrames { P with
        ob := { P.ob with lclrCount := false, selftest := Q.ob.selftest } } Q ∧
      (P.ob.selftest = none → Q.ob.selftest = some .localReset) ∧ (P.ob.selftest = some .remoteReset → Q.ob.selftest = some .bothResets))) ∧
  ∀ (s : State) (p : PortalId) (P : PortalState), s.portals.get p = P → P.calm →
    let locked := fun (k : Nat) (Q : PortalState) => Q.ob.lockCause = k ∧ (∀ a, (Q.axes.get a).drive = .torqueOff) ∧ Q.ob.stop = none ∧
      Q.ob.rest = none ∧ Q.ob.reversal = none ∧ wbit Q.ob.evt 11 = true ∧ Q.ob.lockouts = satInc P.ob.lockouts 255 ∧ Q.units = P.units ∧
      (P.cls ≠ .fault → Q.cls = .lockedOut)
    let same : MonitorDiff := { stuck := .all 0, mute := .all false, torque := .all false, effort := .all 0, counter := .all 0, nonCode := false }
    let obIs := fun o : ObState => { P with ob := o }
    let steady := P.ob.runStop < 2 ∧ ∀ a, P.ob.runEff.get a < 2 ∧ P.ob.runCnt.get a < 2
    let progress := fun a : AxisId => wbit P.ob.progArmed a.val || wbit P.mon2.progArmed a.val
    let alike := (P.ob.stop = none ∨ P.ob.decided.fst = P.ob.decided.snd) ∧ P.ob.removed.fst = P.ob.removed.snd ∧
      ∀ a, |P.ob.eff.get a - P.mon2.eff.get a| ≤ 20 ∧ (P.fbs.get a).pos = (P.mon2.fbs.get a).pos
    let stops := fun (R : PortalState) (stuck : BitVec 8) (mute was : Bool) =>
      !mute && ((P.ob.stop.isSome && was) || !(R.channelCauses P.edgesArmed stuck mute).isEmpty)
    (P.movingAxes = [] → alike → RunsPortal p (.monitorTick p same) s fun Q => UpToFrames (obIs { P.ob with
      runStop := 0, runEff := .all 0, runCnt := .all 0, armed := false, decided := if P.ob.stop = none then .all false else P.ob.decided }) Q) ∧
    (∀ d : MonitorDiff, P.ob.lockCause = 0 → d.nonCode = false → 2 ≤ P.ob.runStop →
      (P.ob.removed.fst || d.torque.fst) ≠ (P.ob.removed.snd || d.torque.snd) ∨
        stops P d.stuck.fst d.mute.fst P.ob.decided.fst ≠ stops (P.upset d).asChan2 d.stuck.snd d.mute.snd P.ob.decided.snd →
      RunsPortal p (.monitorTick p d) s (locked 1)) ∧
    (∀ (d : MonitorDiff) (a : AxisId), P.ob.lockCause = 0 → d.nonCode = false → 20 < |P.ob.eff.get a - (P.mon2.eff.get a + d.effort.get a)| →
      2 ≤ P.ob.runEff.get a → RunsPortal p (.monitorTick p d) s (locked 1)) ∧
    (∀ (d : MonitorDiff) (a : AxisId), P.ob.lockCause = 0 → d.nonCode = false → P.ob.runStop < 2 → (∀ b, P.ob.runEff.get b < 2) →
      (P.fbs.get a).pos ≠ (P.mon2.fbs.get a).pos + d.counter.get a → 2 ≤ P.ob.runCnt.get a → RunsPortal p (.monitorTick p d) s (locked 2)) ∧
    (∀ d : MonitorDiff, d.nonCode = true → RunsPortal p (.monitorTick p d) s fun Q => Q.cls = .fault ∧ Q.units = P.units) ∧
    (∀ d : MonitorDiff, d.nonCode = false → steady → P.ob.stop = none → P.ob.reversal = none → d.torque.fst = true ∨ d.torque.snd = true →
      RunsPortal p (.monitorTick p d) s fun Q => (∀ a, (Q.axes.get a).drive = .torqueOff) ∧ Q.ob.lockCause = P.ob.lockCause ∧ Q.units = P.units ∧
        Q.ob.removed = ⟨P.ob.removed.fst || d.torque.fst, P.ob.removed.snd || d.torque.snd⟩) ∧
    (P.ob.lockCause = 0 → steady → P.ob.stop = none → P.edgesArmed = true → P.swEdgePressed = true → RunsPortal p (.monitorTick p same) s fun Q =>
      Q.ob.stop ≠ none ∧ wbit Q.ob.evt 15 = true ∧ Q.ob.detCnt = satInc P.ob.detCnt 0xFFFF ∧ fget Q.ob.cause 31 28 = 1 ∧
      Q.ob.dett = P.link.time ∧ (P.cls.inCycle = true → Q.cls = .obstructed) ∧ Q.units = P.units ∧
      ∀ a, ((P.axes.get a).moving = true → (P.axes.get a).motion ≠ none → ∃ m, (Q.axes.get a).motion = some m ∧ m.why = .safeStop) ∧
        ((P.axes.get a).moving = false → Q.axes.get a = { (P.axes.get a) with queued := none }) ∧ Q.link.motionDue.get a = none ∧
        (P.link.motionDue.get a ≠ none → P.link.last ≠ none → Q.refuseWhy = 4 ∧ Q.refuseCnt = satInc P.refuseCnt 0xFFFF)) ∧
    (RunsPortal p (.monitorInjectionTest p true) s fun Q => UpToFrames P Q) ∧
    (P.ob.lockCause = 0 → RunsPortal p (.monitorInjectionTest p false) s (locked 5)) ∧
    (∀ r : CrossReadings, (crossDiffers r.adc0.fst r.adc1.fst = false ∨ P.ob.runAdc.fst < 2) →
      (crossDiffers r.adc0.snd r.adc1.snd = false ∨ P.ob.runAdc.snd < 2) → RunsPortal p (.adcCrossCheck p r) s fun Q =>
        UpToFrames { obIs { P.ob with runAdc := Q.ob.runAdc } with afe := { P.afe with crossDue := true } } Q ∧
        Q.ob.runAdc.fst = (if crossDiffers r.adc0.fst r.adc1.fst = true then P.ob.runAdc.fst + 1 else 0) ∧
        Q.ob.runAdc.snd = (if crossDiffers r.adc0.snd r.adc1.snd = true then P.ob.runAdc.snd + 1 else 0)) ∧
    (∀ r : CrossReadings, P.ob.lockCause = 0 → (crossDiffers r.adc0.fst r.adc1.fst = true ∧ 2 ≤ P.ob.runAdc.fst) ∨
      (crossDiffers r.adc0.snd r.adc1.snd = true ∧ 2 ≤ P.ob.runAdc.snd) → RunsPortal p (.adcCrossCheck p r) s (locked 3)) ∧
    ((∀ u ∈ P.units, u.tag = tagENVL → crc32c u.bytes = u.crc) → RunsPortal p (.tableCrcCheck p false) s fun Q => UpToFrames P Q) ∧
    ((∀ u ∈ P.units, u.tag ≠ tagENVL) → RunsPortal p (.tableCrcCheck p true) s fun Q => UpToFrames P Q) ∧
    (∀ b, P.ob.lockCause = 0 → (∃ u ∈ P.units, u.tag = tagENVL ∧ (b = true ∨ crc32c u.bytes ≠ u.crc)) →
      RunsPortal p (.tableCrcCheck p b) s (locked 6)) ∧
    (∀ b, P.ob.selftest = none → RunsPortal p (.monitorSelftestComplete p b) s fun Q => UpToFrames P Q) ∧
    (P.ob.selftest = some .download → RunsPortal p (.monitorSelftestComplete p true) s fun Q =>
      UpToFrames (obIs { P.ob with selftest := none, selftestOk := true }) Q) ∧
    (P.ob.lockCause = 0 → P.ob.selftest = some .download → RunsPortal p (.monitorSelftestComplete p false) s (locked 5)) ∧
    (P.ob.selftest ≠ none → P.ob.selftest ≠ some .download →
      (RunsPortal p (.monitorSelftestComplete p true) s fun Q => Q.ob.lockCause = 0 ∧ Q.ob.selftest = none ∧ Q.ob.selftestOk = true ∧
        wbit Q.ob.evt 10 = true ∧ Q.axes = P.axes ∧ Q.units = P.units ∧ (P.cls ≠ .lockedOut → Q.cls = P.cls)) ∧
      (RunsPortal p (.monitorSelftestComplete p false) s fun Q => Q.ob.lockCause = P.ob.lockCause ∧ Q.ob.selftest = none ∧
        Q.ob.selftestOk = false ∧ Q.ob.rstWhy = 4 ∧ wbit Q.ob.evt 9 = true ∧ Q.cls = P.cls ∧ Q.axes = P.axes)) ∧
    (RunsPortal p (.lockoutClrLocal p) s fun Q => UpToFrames P Q) ∧
    (∀ (e : Fin 2) (code : BitVec 14), P.det.edgeUsed e = false → RunsPortal p (.analogEdgeSample p e code) s fun Q => UpToFrames P Q) ∧
    (∀ (e : Fin 2) (code : BitVec 14), P.det.edgeUsed e = true →
      let sampled := fun y : EdgeState => y.sample P.det (P.det.thr e) (mkRat (code.toNat * 30518) 100000) P.edgesArmed P.link.time
      let x := sampled (P.ob.edges.at2 e)
      let bad := x.badRun = P.det.edgConf ∨ (sampled (P.mon2.edges.at2 e)).badRun = P.det.edgConf
      (¬bad ∨ P.det.edgConf = 0 → RunsPortal p (.analogEdgeSample p e code) s fun Q =>
        UpToFrames { obIs { P.ob with edges := P.ob.edges.set2 e x } with
          mon2 := { P.mon2 with edges := P.mon2.edges.set2 e (sampled (P.mon2.edges.at2 e)) } } Q) ∧
      (bad → P.det.edgConf ≠ 0 → P.edgesArmed = false → RunsPortal p (.analogEdgeSample p e code) s fun Q =>
        Q.cls = .fault ∧ wbit Q.ob.evt 12 = true ∧ Q.units = P.units) ∧
      (bad → P.det.edgConf ≠ 0 → P.edgesArmed = true → P.ob.lockCause = 0 →
        RunsPortal p (.analogEdgeSample p e code) s fun Q => wbit Q.ob.evt 12 = true ∧
          ∃ st, Q.ob.stop = some st ∧ st.noReversal = true ∧ st.faultAfter = true)) ∧
    (∀ a : AxisId, progress a = false → RunsPortal p (.progressTimeout p a) s fun Q => UpToFrames P Q) ∧
    (∀ a : AxisId, progress a = true → P.ob.lockCause ≠ 0 → RunsPortal p (.progressTimeout p a) s fun Q =>
      UpToFrames { obIs { P.ob with progArmed := putBit P.ob.progArmed a.val false } with
        mon2 := { P.mon2 with progArmed := putBit P.mon2.progArmed a.val false } } Q) ∧
    (∀ a : AxisId, progress a = true → P.ob.lockCause = 0 → P.ob.stop = none → P.movingAxes = [] →
      RunsPortal p (.progressTimeout p a) s fun Q => (Q.axes.get a).drive = .torqueOff ∧ wbit Q.ob.evt 15 = true ∧ fget Q.ob.cause 31 28 = 7 ∧
        Q.ob.detCnt = satInc P.ob.detCnt 0xFFFF ∧ wbit Q.ob.readback a.val = true ∧ wbit Q.ob.gateCheck a.val = true ∧ (P.cls.inCycle = true →
            Q.cls = .obstructed) ∧
        ((P.revOrder P.cust).kind = 0 → Q.ob.rest = none) ∧
        ((P.revOrder P.cust).kind ≠ 0 → P.cls ≠ .fault → Q.ob.rest = some P.cust)) ∧
    (∀ a : AxisId, progress a = true → P.ob.lockCause = 0 → P.movingAxes ≠ [] → RunsPortal p (.progressTimeout p a) s fun Q =>
      Q.ob.stop ≠ none ∧ wbit Q.ob.cause 23 = true ∧ wbit Q.ob.progArmed a.val = false ∧ wbit Q.mon2.progArmed a.val = false ∧ Q.units = P.units) ∧
    (∀ a : AxisId, P.ob.stop = none → RunsPortal p (.safeStopSettleTimeout p a) s fun Q => UpToFrames P Q) ∧
    (∀ (a : AxisId) (st : SafeStop), P.ob.stop = some st → wbit st.axes a.val = false ∨ P.planDone s.clock a = false →
      RunsPortal p (.safeStopSettleTimeout p a) s fun Q => UpToFrames P Q) ∧
    (∀ (a : AxisId) (st : SafeStop), P.ob.stop = some st → wbit st.axes a.val = true → P.planDone s.clock a = true →
      RunsPortal p (.safeStopSettleTimeout p a) s fun Q => wbit Q.ob.evt 13 = true ∧ (Q.axes.get a).drive = .torqueOff ∧
        wbit Q.ob.readback a.val = true ∧ wbit Q.ob.gateCheck a.val = true ∧ Q.units = P.units ∧ (putBit st.axes a.val false = 0 → Q.ob.stop = none) ∧
        (putBit st.axes a.val false ≠ 0 → Q.ob.stop = some { st with axes := putBit st.axes a.val false })) ∧
    (∀ a : AxisId, wbit P.ob.readback a.val = false → wbit P.ob.gateCheck a.val = false → RunsPortal p (.torqueReadbackTimeout p a) s fun Q => UpToFrames P Q) ∧
    (∀ a : AxisId, P.ob.lockCause = 0 → wbit P.ob.readback a.val = true ∨ wbit P.ob.gateCheck a.val = true →
        RunsPortal p (.torqueReadbackTimeout p a) s (locked 4)) ∧
    (P.ob.rest = none → RunsPortal p (.safeStopRestEnd p) s fun Q => UpToFrames P Q) ∧
    (∀ n, P.ob.rest = some n → (∀ c, P.prof (P.revOrder n).profile = some c → P.profReady c = false) →
      RunsPortal p (.safeStopRestEnd p) s fun Q => Q.ob.rest = none ∧ Q.ob.reversal = none ∧ Q.ob.revPend = false ∧ Q.units = P.units ∧ Q.cls = P.cls ∧
        (P.prof (P.revOrder n).profile = none → Q.axes = P.axes) ∧
        ∀ c, P.prof (P.revOrder n).profile = some c → ∀ a, Q.axes.get a = if c.axisList.contains a then (P.axes.get a).flag 6 else P.axes.get a) ∧
    (∀ n c, P.ob.rest = some n → P.prof (P.revOrder n).profile = some c → P.profReady c = true → P.supply.gateUv = false →
      RunsPortal p (.safeStopRestEnd p) s fun Q => Q.ob.rest = none ∧ Q.ob.revCust = n ∧ Q.units = P.units ∧
        Q.cls = if P.cls.inCycle = true then .reopening else P.cls) ∧
    (∀ w : Word, wbit w 31 = true → P.dstate = 5 → P.released = true → P.learnable (fget w 29 24) = true → RunsPortal p (.obLearnWrite p w) s fun Q =>
      UpToFrames (obIs { P.ob with learn := w &&& 0xBF0F0000, learnRun := none, runsOk := 0, runsDisc := 0, learnAxes := .all {} }) Q) ∧
    (∀ w : Word, wbit w 31 = true → P.dstate ≠ 5 ∨ P.released = false ∨ P.learnable (fget w 29 24) = false →
      RunsPortal p (.obLearnWrite p w) s fun Q => UpToFrames (obIs { P.ob with evt := raise P.ob.evt 6 }) Q) ∧
    (∀ w : Word, wbit w 31 = false → RunsPortal p (.obLearnWrite p w) s fun Q =>
      UpToFrames (obIs { P.ob with learn := w &&& 0xBF0F0000, learnRun := none, learnAxes := P.ob.learnAxes.map LearnAxis.clearRun }) Q)
end

