-- ==== Sys2Proof/Laws/Bits.lean ====
section
/-! SUPPORT. Bits and fields of words: reading a bit or a field after one has been written. -/

namespace Sys2Proof.Machine

/-- The word with one bit set. -/
theorem wbit_twoPow (n i j : Nat) : wbit (BitVec.ofNat n (2 ^ i)) j = decide (j < n ∧ j = i) := by
  simp only [wbit, BitVec.getLsbD_ofNat, Nat.testBit_two_pow]
  by_cases h : i = j <;> by_cases g : j < n <;> simp [h, g, eq_comm]

/-- A bit after one bit has been written. -/
theorem wbit_putBit {n : Nat} (w : BitVec n) (i j : Nat) (b : Bool) : wbit (putBit w i b) j = if j = i ∧ j < n then b else wbit w j := by
  have h := wbit_twoPow n i j
  simp only [wbit] at h ⊢
  unfold putBit
  cases b
  · simp only [Bool.false_eq_true, if_false, BitVec.getLsbD_and, BitVec.getLsbD_not, h]
    by_cases g : j = i <;> by_cases k : j < n <;> simp_all
  · simp only [if_true, BitVec.getLsbD_or, h]
    by_cases g : j = i <;> by_cases k : j < n <;> simp_all

/-- A flag that is raised is set. -/
@[simp] theorem wbit_raise_self (w : Word) (i : Nat) (h : i < 32) : wbit (raise w i) i = true := by simp [raise, wbit_putBit, h]

/-- Raising a flag leaves the others. -/
theorem wbit_raise_ne (w : Word) {i j : Nat} (h : j ≠ i) : wbit (raise w i) j = wbit w j := by simp [raise, wbit_putBit, h]

/-- The mask of a field. -/
theorem wbit_fmask (hi lo j : Nat) (h : lo ≤ hi) : wbit (fmask hi lo) j = decide (j < 32 ∧ lo ≤ j ∧ j ≤ hi) := by
  simp only [wbit, fmask, BitVec.getLsbD_ofNat]
  rw [Nat.testBit_mul_two_pow]
  by_cases g : lo ≤ j
  · have e : (2 ^ (hi - lo + 1) - 1).testBit (j - lo) = decide (j - lo < hi - lo + 1) := Nat.testBit_two_pow_sub_one _ _
    rw [e]
    by_cases k : j < 32 <;> by_cases m : j ≤ hi <;> simp [g, k, m] <;> omega
  · simp [g]

/-- A bit after a field has been written. -/
theorem wbit_fput (w : Word) (hi lo v j : Nat) (h : lo ≤ hi) :
    wbit (fput w hi lo v) j = if j < 32 ∧ lo ≤ j ∧ j ≤ hi then v.testBit (j - lo) else wbit w j := by
  have e := wbit_fmask hi lo j h
  simp only [wbit] at e ⊢
  simp only [fput, BitVec.getLsbD_or, BitVec.getLsbD_and, BitVec.getLsbD_not, e, BitVec.getLsbD_ofNat, Nat.testBit_mul_two_pow]
  by_cases k : j < 32
  · by_cases a : lo ≤ j <;> by_cases b : j ≤ hi <;> simp [k, a, b]
  · simp [k, BitVec.getLsbD_of_ge w j (Nat.le_of_not_lt k)]

/-- A bit of a field. -/
theorem testBit_fget (w : Word) (hi lo i : Nat) : (fget w hi lo).testBit i = (decide (i < hi - lo + 1) && wbit w (i + lo)) := by
  simp only [fget, Nat.testBit_mod_two_pow, Nat.testBit_div_two_pow, wbit, BitVec.getLsbD]

/-- A field after it has been written. -/
theorem fget_fput_self (w : Word) (hi lo v : Nat) (h : lo ≤ hi) (g : hi < 32) : fget (fput w hi lo v) hi lo = v % 2 ^ (hi - lo + 1) := by
  apply Nat.eq_of_testBit_eq
  intro i
  rw [testBit_fget, wbit_fput _ _ _ _ _ h, Nat.testBit_mod_two_pow]
  by_cases k : i < hi - lo + 1
  · rw [if_pos ⟨by omega, by omega, by omega⟩]; simp
  · simp [k]

/-- A field is left alone where another one that does not meet it has been written. -/
theorem fget_fput_ne (w : Word) {hi lo hj lj : Nat} (v : Nat) (h : lo ≤ hi) (g : lj ≤ hj) (d : hj < lo ∨ hi < lj) :
    fget (fput w hi lo v) hj lj = fget w hj lj := by
  apply Nat.eq_of_testBit_eq
  intro i
  rw [testBit_fget, testBit_fget, wbit_fput _ _ _ _ _ h]
  by_cases k : i < hj - lj + 1
  · rw [if_neg (by omega)]
  · simp [k]

/-- A field is left alone where a bit outside it has been written. -/
theorem fget_putBit_ne (w : Word) {hi lo : Nat} (i : Nat) (b : Bool) (h : lo ≤ hi) (d : i < lo ∨ hi < i) : fget (putBit w i b) hi lo = fget w hi lo := by
  apply Nat.eq_of_testBit_eq
  intro j
  rw [testBit_fget, testBit_fget, wbit_putBit]
  by_cases k : j < hi - lo + 1
  · rw [if_neg (by omega)]
  · simp [k]

/-- A bit outside a field that has been written. -/
theorem wbit_fput_ne (w : Word) {hi lo : Nat} (v j : Nat) (h : lo ≤ hi) (d : j < lo ∨ hi < j) : wbit (fput w hi lo v) j = wbit w j := by
  rw [wbit_fput _ _ _ _ _ h, if_neg (by omega)]

/-- A write with W1C flags: a one clears its flag unless the hardware sets it in the same cycle (R6, R8). -/
theorem wbit_w1c (w v rc m : Word) (i : Nat) : wbit (w1c w v rc m) i = ((wbit w i && !(wbit v i && wbit m i)) || (wbit rc i && wbit m i)) := by
  simp only [wbit, w1c, BitVec.getLsbD_or, BitVec.getLsbD_and, BitVec.getLsbD_not]
  by_cases k : i < 32
  · simp [k]
  · simp [k, BitVec.getLsbD_of_ge w i (Nat.le_of_not_lt k)]

/-- A write of the writable bits of a word. -/
theorem wbit_wrw (w v m : Word) (i : Nat) : wbit (wrw w v m) i = ((wbit m i && wbit v i) || (!wbit m i && wbit w i)) := by
  simp only [wbit, wrw, BitVec.getLsbD_or, BitVec.getLsbD_and, BitVec.getLsbD_not]
  by_cases k : i < 32
  · cases BitVec.getLsbD m i <;> simp [k]
  · simp [k, BitVec.getLsbD_of_ge w i (Nat.le_of_not_lt k), BitVec.getLsbD_of_ge v i (Nat.le_of_not_lt k)]

end Sys2Proof.Machine
end

