-- ==== Sys2Proof/Laws/Get.lean ====
section
/-! SUPPORT. Reading a member of a small family after replacing one: the member replaced, and every other. -/

namespace Sys2Proof

/-! ### Two -/

@[simp] theorem Two.pair_setPair {α : Type} (t : Two α) (i : PairId) (v : α) : (t.setPair i v).pair i = v := by cases i <;> rfl

theorem Two.pair_setPair_ne {α : Type} (t : Two α) {i j : PairId} (h : j ≠ i) (v : α) : (t.setPair i v).pair j = t.pair j := by
  cases i <;> cases j <;> first | rfl | exact absurd rfl h

@[simp] theorem Two.can_setCan {α : Type} (t : Two α) (i : CanId) (v : α) : (t.setCan i v).can i = v := by cases i <;> rfl

theorem Two.can_setCan_ne {α : Type} (t : Two α) {i j : CanId} (h : j ≠ i) (v : α) : (t.setCan i v).can j = t.can j := by
  cases i <;> cases j <;> first | rfl | exact absurd rfl h

@[simp] theorem Two.so_setSo {α : Type} (t : Two α) (i : SoId) (v : α) : (t.setSo i v).so i = v := by cases i <;> rfl

theorem Two.so_setSo_ne {α : Type} (t : Two α) {i j : SoId} (h : j ≠ i) (v : α) : (t.setSo i v).so j = t.so j := by
  cases i <;> cases j <;> first | rfl | exact absurd rfl h

@[simp] theorem Two.at2_set2 {α : Type} (t : Two α) (i : Fin 2) (v : α) : (t.set2 i v).at2 i = v := by revert i; intro i; fin_cases i <;> rfl

theorem Two.at2_set2_ne {α : Type} (t : Two α) {i j : Fin 2} (h : j ≠ i) (v : α) : (t.set2 i v).at2 j = t.at2 j := by
  revert h; fin_cases i <;> fin_cases j <;> intro h <;> first | rfl | exact absurd rfl h

@[simp] theorem Two.setPair_self {α : Type} (t : Two α) (i : PairId) : t.setPair i (t.pair i) = t := by cases i <;> rfl

@[simp] theorem Two.setCan_self {α : Type} (t : Two α) (i : CanId) : t.setCan i (t.can i) = t := by cases i <;> rfl

/-! ### Three -/

@[simp] theorem Three.get_set {α : Type} (t : Three α) (i : Fin 3) (v : α) : (t.set i v).get i = v := by fin_cases i <;> rfl

theorem Three.get_set_ne {α : Type} (t : Three α) {i j : Fin 3} (h : j ≠ i) (v : α) : (t.set i v).get j = t.get j := by
  revert h; fin_cases i <;> fin_cases j <;> intro h <;> first | rfl | exact absurd rfl h

@[simp] theorem Three.set_self {α : Type} (t : Three α) (i : Fin 3) : t.set i (t.get i) = t := by fin_cases i <;> rfl

@[simp] theorem Three.chan_setChan {α : Type} (t : Three α) (i : Channel) (v : α) : (t.setChan i v).chan i = v := by cases i <;> rfl

theorem Three.chan_setChan_ne {α : Type} (t : Three α) {i j : Channel} (h : j ≠ i) (v : α) : (t.setChan i v).chan j = t.chan j := by
  cases i <;> cases j <;> first | rfl | exact absurd rfl h

@[simp] theorem Three.get_all {α : Type} (v : α) (i : Fin 3) : (Three.all v).get i = v := by fin_cases i <;> rfl

@[simp] theorem Three.get_map {α β : Type} (f : α → β) (t : Three α) (i : Fin 3) : (t.map f).get i = f (t.get i) := by fin_cases i <;> rfl

/-! ### Four -/

@[simp] theorem Four.get_set {α : Type} (t : Four α) (i : Fin 4) (v : α) : (t.set i v).get i = v := by fin_cases i <;> rfl

theorem Four.get_set_ne {α : Type} (t : Four α) {i j : Fin 4} (h : j ≠ i) (v : α) : (t.set i v).get j = t.get j := by
  revert h; fin_cases i <;> fin_cases j <;> intro h <;> first | rfl | exact absurd rfl h

@[simp] theorem Four.set_self {α : Type} (t : Four α) (i : Fin 4) : t.set i (t.get i) = t := by fin_cases i <;> rfl

@[simp] theorem Four.set_set {α : Type} (t : Four α) (i : Fin 4) (v w : α) : (t.set i v).set i w = t.set i w := by fin_cases i <;> rfl

@[simp] theorem Four.get_all {α : Type} (v : α) (i : Fin 4) : (Four.all v).get i = v := by fin_cases i <;> rfl

@[simp] theorem Four.get_map {α β : Type} (f : α → β) (t : Four α) (i : Fin 4) : (t.map f).get i = f (t.get i) := by fin_cases i <;> rfl

/-! ### Eight and Sixteen -/

@[simp] theorem Eight.get_set {α : Type} (t : Eight α) (i : Fin 8) (v : α) : (t.set i v).get i = v := by fin_cases i <;> rfl

theorem Eight.get_set_ne {α : Type} (t : Eight α) {i j : Fin 8} (h : j ≠ i) (v : α) : (t.set i v).get j = t.get j := by
  revert h; fin_cases i <;> fin_cases j <;> intro h <;> first | rfl | exact absurd rfl h

@[simp] theorem Eight.get_map {α β : Type} (f : α → β) (t : Eight α) (i : Fin 8) : (t.map f).get i = f (t.get i) := by fin_cases i <;> rfl

@[simp] theorem Sixteen.get_set {α : Type} (t : Sixteen α) (i : Fin 16) (v : α) : (t.set i v).get i = v := by fin_cases i <;> rfl

theorem Sixteen.get_set_ne {α : Type} (t : Sixteen α) {i j : Fin 16} (h : j ≠ i) (v : α) : (t.set i v).get j = t.get j := by
  by_cases hi : i.val < 8 <;> by_cases hj : j.val < 8 <;> simp only [Sixteen.set, Sixteen.get, hi, hj, dite_true, dite_false]
  · exact Eight.get_set_ne _ (fun e => h (Fin.ext (by simpa using e))) v
  · exact Eight.get_set_ne _ (fun e => h (Fin.ext (by have := congrArg Fin.val e; simp at this; omega))) v

end Sys2Proof
end

