-- ==== Sys2Proof/Laws/State.lean ====
section
/-! SUPPORT. What each update of the device's state and of a portal die's state leaves in every field: one lemma for each field and each
update, so that no proof unfolds a record update. -/

namespace Sys2Proof.Machine

variable {s t : State} {P : PortalState}

/-! ### State.setPortal -/

@[simp] theorem State.setPortal_clock (p : PortalId) (Q : PortalState) : (s.setPortal p Q).clock = s.clock := rfl

@[simp] theorem State.setPortal_psm (p : PortalId) (Q : PortalState) : (s.setPortal p Q).psm = s.psm := rfl

@[simp] theorem State.setPortal_fuse (p : PortalId) (Q : PortalState) : (s.setPortal p Q).fuse = s.fuse := rfl

@[simp] theorem State.setPortal_harn (p : PortalId) (Q : PortalState) : (s.setPortal p Q).harn = s.harn := rfl

@[simp] theorem State.setPortal_sec (p : PortalId) (Q : PortalState) : (s.setPortal p Q).sec = s.sec := rfl

@[simp] theorem State.setPortal_fabric (p : PortalId) (Q : PortalState) : (s.setPortal p Q).fabric = s.fabric := rfl

@[simp] theorem State.setPortal_seq (p : PortalId) (Q : PortalState) : (s.setPortal p Q).seq = s.seq := rfl

@[simp] theorem State.setPortal_lock (p : PortalId) (Q : PortalState) : (s.setPortal p Q).lock = s.lock := rfl

@[simp] theorem State.setPortal_links (p : PortalId) (Q : PortalState) : (s.setPortal p Q).links = s.links := rfl

@[simp] theorem State.setPortal_acq (p : PortalId) (Q : PortalState) : (s.setPortal p Q).acq = s.acq := rfl

@[simp] theorem State.setPortal_cans (p : PortalId) (Q : PortalState) : (s.setPortal p Q).cans = s.cans := rfl

@[simp] theorem State.setPortal_port (p : PortalId) (Q : PortalState) : (s.setPortal p Q).port = s.port := rfl

@[simp] theorem State.setPortal_irqStat (p : PortalId) (Q : PortalState) : (s.setPortal p Q).irqStat = s.irqStat := rfl

@[simp] theorem State.setPortal_irqEn (p : PortalId) (Q : PortalState) : (s.setPortal p Q).irqEn = s.irqEn := rfl

@[simp] theorem State.setPortal_time (p : PortalId) (Q : PortalState) : (s.setPortal p Q).time = s.time := rfl

@[simp] theorem State.setPortal_nelz (p : PortalId) (Q : PortalState) : (s.setPortal p Q).nelz = s.nelz := rfl

@[simp] theorem State.setPortal_arch (p : PortalId) (Q : PortalState) : (s.setPortal p Q).arch = s.arch := rfl

@[simp] theorem State.setPortal_tally (p : PortalId) (Q : PortalState) : (s.setPortal p Q).tally = s.tally := rfl

@[simp] theorem State.setPortal_portals (p : PortalId) (Q : PortalState) : (s.setPortal p Q).portals = s.portals.set p Q := rfl

@[simp] theorem State.setPortal_freeCtr (p : PortalId) (Q : PortalState) : (s.setPortal p Q).freeCtr = s.freeCtr := rfl

@[simp] theorem State.setPortal_pending (p : PortalId) (Q : PortalState) : (s.setPortal p Q).pending = s.pending := rfl

/-! ### State.modLink -/

@[simp] theorem State.modLink_clock (p : PortalId) (f : HostLink → HostLink) : (s.modLink p f).clock = s.clock := rfl

@[simp] theorem State.modLink_psm (p : PortalId) (f : HostLink → HostLink) : (s.modLink p f).psm = s.psm := rfl

@[simp] theorem State.modLink_fuse (p : PortalId) (f : HostLink → HostLink) : (s.modLink p f).fuse = s.fuse := rfl

@[simp] theorem State.modLink_harn (p : PortalId) (f : HostLink → HostLink) : (s.modLink p f).harn = s.harn := rfl

@[simp] theorem State.modLink_sec (p : PortalId) (f : HostLink → HostLink) : (s.modLink p f).sec = s.sec := rfl

@[simp] theorem State.modLink_fabric (p : PortalId) (f : HostLink → HostLink) : (s.modLink p f).fabric = s.fabric := rfl

@[simp] theorem State.modLink_seq (p : PortalId) (f : HostLink → HostLink) : (s.modLink p f).seq = s.seq := rfl

@[simp] theorem State.modLink_lock (p : PortalId) (f : HostLink → HostLink) : (s.modLink p f).lock = s.lock := rfl

@[simp] theorem State.modLink_links (p : PortalId) (f : HostLink → HostLink) : (s.modLink p f).links = s.links.set p (f (s.links.get p)) := rfl

@[simp] theorem State.modLink_acq (p : PortalId) (f : HostLink → HostLink) : (s.modLink p f).acq = s.acq := rfl

@[simp] theorem State.modLink_cans (p : PortalId) (f : HostLink → HostLink) : (s.modLink p f).cans = s.cans := rfl

@[simp] theorem State.modLink_port (p : PortalId) (f : HostLink → HostLink) : (s.modLink p f).port = s.port := rfl

@[simp] theorem State.modLink_irqStat (p : PortalId) (f : HostLink → HostLink) : (s.modLink p f).irqStat = s.irqStat := rfl

@[simp] theorem State.modLink_irqEn (p : PortalId) (f : HostLink → HostLink) : (s.modLink p f).irqEn = s.irqEn := rfl

@[simp] theorem State.modLink_time (p : PortalId) (f : HostLink → HostLink) : (s.modLink p f).time = s.time := rfl

@[simp] theorem State.modLink_nelz (p : PortalId) (f : HostLink → HostLink) : (s.modLink p f).nelz = s.nelz := rfl

@[simp] theorem State.modLink_arch (p : PortalId) (f : HostLink → HostLink) : (s.modLink p f).arch = s.arch := rfl

@[simp] theorem State.modLink_tally (p : PortalId) (f : HostLink → HostLink) : (s.modLink p f).tally = s.tally := rfl

@[simp] theorem State.modLink_portals (p : PortalId) (f : HostLink → HostLink) : (s.modLink p f).portals = s.portals := rfl

@[simp] theorem State.modLink_freeCtr (p : PortalId) (f : HostLink → HostLink) : (s.modLink p f).freeCtr = s.freeCtr := rfl

@[simp] theorem State.modLink_pending (p : PortalId) (f : HostLink → HostLink) : (s.modLink p f).pending = s.pending := rfl

/-! ### State.modSeq -/

@[simp] theorem State.modSeq_clock (p : PortalId) (f : SeqPortal → SeqPortal) : (s.modSeq p f).clock = s.clock := rfl

@[simp] theorem State.modSeq_psm (p : PortalId) (f : SeqPortal → SeqPortal) : (s.modSeq p f).psm = s.psm := rfl

@[simp] theorem State.modSeq_fuse (p : PortalId) (f : SeqPortal → SeqPortal) : (s.modSeq p f).fuse = s.fuse := rfl

@[simp] theorem State.modSeq_harn (p : PortalId) (f : SeqPortal → SeqPortal) : (s.modSeq p f).harn = s.harn := rfl

@[simp] theorem State.modSeq_sec (p : PortalId) (f : SeqPortal → SeqPortal) : (s.modSeq p f).sec = s.sec := rfl

@[simp] theorem State.modSeq_fabric (p : PortalId) (f : SeqPortal → SeqPortal) : (s.modSeq p f).fabric = s.fabric := rfl

@[simp] theorem State.modSeq_seq (p : PortalId) (f : SeqPortal →
    SeqPortal) : (s.modSeq p f).seq = { s.seq with portals := s.seq.portals.set p (f (s.seq.portals.get p)) } := rfl

@[simp] theorem State.modSeq_lock (p : PortalId) (f : SeqPortal → SeqPortal) : (s.modSeq p f).lock = s.lock := rfl

@[simp] theorem State.modSeq_links (p : PortalId) (f : SeqPortal → SeqPortal) : (s.modSeq p f).links = s.links := rfl

@[simp] theorem State.modSeq_acq (p : PortalId) (f : SeqPortal → SeqPortal) : (s.modSeq p f).acq = s.acq := rfl

@[simp] theorem State.modSeq_cans (p : PortalId) (f : SeqPortal → SeqPortal) : (s.modSeq p f).cans = s.cans := rfl

@[simp] theorem State.modSeq_port (p : PortalId) (f : SeqPortal → SeqPortal) : (s.modSeq p f).port = s.port := rfl

@[simp] theorem State.modSeq_irqStat (p : PortalId) (f : SeqPortal → SeqPortal) : (s.modSeq p f).irqStat = s.irqStat := rfl

@[simp] theorem State.modSeq_irqEn (p : PortalId) (f : SeqPortal → SeqPortal) : (s.modSeq p f).irqEn = s.irqEn := rfl

@[simp] theorem State.modSeq_time (p : PortalId) (f : SeqPortal → SeqPortal) : (s.modSeq p f).time = s.time := rfl

@[simp] theorem State.modSeq_nelz (p : PortalId) (f : SeqPortal → SeqPortal) : (s.modSeq p f).nelz = s.nelz := rfl

@[simp] theorem State.modSeq_arch (p : PortalId) (f : SeqPortal → SeqPortal) : (s.modSeq p f).arch = s.arch := rfl

@[simp] theorem State.modSeq_tally (p : PortalId) (f : SeqPortal → SeqPortal) : (s.modSeq p f).tally = s.tally := rfl

@[simp] theorem State.modSeq_portals (p : PortalId) (f : SeqPortal → SeqPortal) : (s.modSeq p f).portals = s.portals := rfl

@[simp] theorem State.modSeq_freeCtr (p : PortalId) (f : SeqPortal → SeqPortal) : (s.modSeq p f).freeCtr = s.freeCtr := rfl

@[simp] theorem State.modSeq_pending (p : PortalId) (f : SeqPortal → SeqPortal) : (s.modSeq p f).pending = s.pending := rfl

/-! ### State.modCan -/

@[simp] theorem State.modCan_clock (c : CanId) (f : CanState → CanState) : (s.modCan c f).clock = s.clock := rfl

@[simp] theorem State.modCan_psm (c : CanId) (f : CanState → CanState) : (s.modCan c f).psm = s.psm := rfl

@[simp] theorem State.modCan_fuse (c : CanId) (f : CanState → CanState) : (s.modCan c f).fuse = s.fuse := rfl

@[simp] theorem State.modCan_harn (c : CanId) (f : CanState → CanState) : (s.modCan c f).harn = s.harn := rfl

@[simp] theorem State.modCan_sec (c : CanId) (f : CanState → CanState) : (s.modCan c f).sec = s.sec := rfl

@[simp] theorem State.modCan_fabric (c : CanId) (f : CanState → CanState) : (s.modCan c f).fabric = s.fabric := rfl

@[simp] theorem State.modCan_seq (c : CanId) (f : CanState → CanState) : (s.modCan c f).seq = s.seq := rfl

@[simp] theorem State.modCan_lock (c : CanId) (f : CanState → CanState) : (s.modCan c f).lock = s.lock := rfl

@[simp] theorem State.modCan_links (c : CanId) (f : CanState → CanState) : (s.modCan c f).links = s.links := rfl

@[simp] theorem State.modCan_acq (c : CanId) (f : CanState → CanState) : (s.modCan c f).acq = s.acq := rfl

@[simp] theorem State.modCan_cans (c : CanId) (f : CanState → CanState) : (s.modCan c f).cans = s.cans.setCan c (f (s.cans.can c)) := rfl

@[simp] theorem State.modCan_port (c : CanId) (f : CanState → CanState) : (s.modCan c f).port = s.port := rfl

@[simp] theorem State.modCan_irqStat (c : CanId) (f : CanState → CanState) : (s.modCan c f).irqStat = s.irqStat := rfl

@[simp] theorem State.modCan_irqEn (c : CanId) (f : CanState → CanState) : (s.modCan c f).irqEn = s.irqEn := rfl

@[simp] theorem State.modCan_time (c : CanId) (f : CanState → CanState) : (s.modCan c f).time = s.time := rfl

@[simp] theorem State.modCan_nelz (c : CanId) (f : CanState → CanState) : (s.modCan c f).nelz = s.nelz := rfl

@[simp] theorem State.modCan_arch (c : CanId) (f : CanState → CanState) : (s.modCan c f).arch = s.arch := rfl

@[simp] theorem State.modCan_tally (c : CanId) (f : CanState → CanState) : (s.modCan c f).tally = s.tally := rfl

@[simp] theorem State.modCan_portals (c : CanId) (f : CanState → CanState) : (s.modCan c f).portals = s.portals := rfl

@[simp] theorem State.modCan_freeCtr (c : CanId) (f : CanState → CanState) : (s.modCan c f).freeCtr = s.freeCtr := rfl

@[simp] theorem State.modCan_pending (c : CanId) (f : CanState → CanState) : (s.modCan c f).pending = s.pending := rfl

/-! ### State.modTime -/

@[simp] theorem State.modTime_clock (f : TimeState → TimeState) : (s.modTime f).clock = s.clock := rfl

@[simp] theorem State.modTime_psm (f : TimeState → TimeState) : (s.modTime f).psm = s.psm := rfl

@[simp] theorem State.modTime_fuse (f : TimeState → TimeState) : (s.modTime f).fuse = s.fuse := rfl

@[simp] theorem State.modTime_harn (f : TimeState → TimeState) : (s.modTime f).harn = s.harn := rfl

@[simp] theorem State.modTime_sec (f : TimeState → TimeState) : (s.modTime f).sec = s.sec := rfl

@[simp] theorem State.modTime_fabric (f : TimeState → TimeState) : (s.modTime f).fabric = s.fabric := rfl

@[simp] theorem State.modTime_seq (f : TimeState → TimeState) : (s.modTime f).seq = s.seq := rfl

@[simp] theorem State.modTime_lock (f : TimeState → TimeState) : (s.modTime f).lock = s.lock := rfl

@[simp] theorem State.modTime_links (f : TimeState → TimeState) : (s.modTime f).links = s.links := rfl

@[simp] theorem State.modTime_acq (f : TimeState → TimeState) : (s.modTime f).acq = s.acq := rfl

@[simp] theorem State.modTime_cans (f : TimeState → TimeState) : (s.modTime f).cans = s.cans := rfl

@[simp] theorem State.modTime_port (f : TimeState → TimeState) : (s.modTime f).port = s.port := rfl

@[simp] theorem State.modTime_irqStat (f : TimeState → TimeState) : (s.modTime f).irqStat = s.irqStat := rfl

@[simp] theorem State.modTime_irqEn (f : TimeState → TimeState) : (s.modTime f).irqEn = s.irqEn := rfl

@[simp] theorem State.modTime_time (f : TimeState → TimeState) : (s.modTime f).time = f s.time := rfl

@[simp] theorem State.modTime_nelz (f : TimeState → TimeState) : (s.modTime f).nelz = s.nelz := rfl

@[simp] theorem State.modTime_arch (f : TimeState → TimeState) : (s.modTime f).arch = s.arch := rfl

@[simp] theorem State.modTime_tally (f : TimeState → TimeState) : (s.modTime f).tally = s.tally := rfl

@[simp] theorem State.modTime_portals (f : TimeState → TimeState) : (s.modTime f).portals = s.portals := rfl

@[simp] theorem State.modTime_freeCtr (f : TimeState → TimeState) : (s.modTime f).freeCtr = s.freeCtr := rfl

@[simp] theorem State.modTime_pending (f : TimeState → TimeState) : (s.modTime f).pending = s.pending := rfl

/-! ### State.modTally -/

@[simp] theorem State.modTally_clock (f : TallyState → TallyState) : (s.modTally f).clock = s.clock := rfl

@[simp] theorem State.modTally_psm (f : TallyState → TallyState) : (s.modTally f).psm = s.psm := rfl

@[simp] theorem State.modTally_fuse (f : TallyState → TallyState) : (s.modTally f).fuse = s.fuse := rfl

@[simp] theorem State.modTally_harn (f : TallyState → TallyState) : (s.modTally f).harn = s.harn := rfl

@[simp] theorem State.modTally_sec (f : TallyState → TallyState) : (s.modTally f).sec = s.sec := rfl

@[simp] theorem State.modTally_fabric (f : TallyState → TallyState) : (s.modTally f).fabric = s.fabric := rfl

@[simp] theorem State.modTally_seq (f : TallyState → TallyState) : (s.modTally f).seq = s.seq := rfl

@[simp] theorem State.modTally_lock (f : TallyState → TallyState) : (s.modTally f).lock = s.lock := rfl

@[simp] theorem State.modTally_links (f : TallyState → TallyState) : (s.modTally f).links = s.links := rfl

@[simp] theorem State.modTally_acq (f : TallyState → TallyState) : (s.modTally f).acq = s.acq := rfl

@[simp] theorem State.modTally_cans (f : TallyState → TallyState) : (s.modTally f).cans = s.cans := rfl

@[simp] theorem State.modTally_port (f : TallyState → TallyState) : (s.modTally f).port = s.port := rfl

@[simp] theorem State.modTally_irqStat (f : TallyState → TallyState) : (s.modTally f).irqStat = s.irqStat := rfl

@[simp] theorem State.modTally_irqEn (f : TallyState → TallyState) : (s.modTally f).irqEn = s.irqEn := rfl

@[simp] theorem State.modTally_time (f : TallyState → TallyState) : (s.modTally f).time = s.time := rfl

@[simp] theorem State.modTally_nelz (f : TallyState → TallyState) : (s.modTally f).nelz = s.nelz := rfl

@[simp] theorem State.modTally_arch (f : TallyState → TallyState) : (s.modTally f).arch = s.arch := rfl

@[simp] theorem State.modTally_tally (f : TallyState → TallyState) : (s.modTally f).tally = f s.tally := rfl

@[simp] theorem State.modTally_portals (f : TallyState → TallyState) : (s.modTally f).portals = s.portals := rfl

@[simp] theorem State.modTally_freeCtr (f : TallyState → TallyState) : (s.modTally f).freeCtr = s.freeCtr := rfl

@[simp] theorem State.modTally_pending (f : TallyState → TallyState) : (s.modTally f).pending = s.pending := rfl

/-! ### State.modChan -/

@[simp] theorem State.modChan_clock (c : Channel) (f : NelzChannel → NelzChannel) : (s.modChan c f).clock = s.clock := rfl

@[simp] theorem State.modChan_psm (c : Channel) (f : NelzChannel → NelzChannel) : (s.modChan c f).psm = s.psm := rfl

@[simp] theorem State.modChan_fuse (c : Channel) (f : NelzChannel → NelzChannel) : (s.modChan c f).fuse = s.fuse := rfl

@[simp] theorem State.modChan_harn (c : Channel) (f : NelzChannel → NelzChannel) : (s.modChan c f).harn = s.harn := rfl

@[simp] theorem State.modChan_sec (c : Channel) (f : NelzChannel → NelzChannel) : (s.modChan c f).sec = s.sec := rfl

@[simp] theorem State.modChan_fabric (c : Channel) (f : NelzChannel → NelzChannel) : (s.modChan c f).fabric = s.fabric := rfl

@[simp] theorem State.modChan_seq (c : Channel) (f : NelzChannel → NelzChannel) : (s.modChan c f).seq = s.seq := rfl

@[simp] theorem State.modChan_lock (c : Channel) (f : NelzChannel → NelzChannel) : (s.modChan c f).lock = s.lock := rfl

@[simp] theorem State.modChan_links (c : Channel) (f : NelzChannel → NelzChannel) : (s.modChan c f).links = s.links := rfl

@[simp] theorem State.modChan_acq (c : Channel) (f : NelzChannel → NelzChannel) : (s.modChan c f).acq = s.acq := rfl

@[simp] theorem State.modChan_cans (c : Channel) (f : NelzChannel → NelzChannel) : (s.modChan c f).cans = s.cans := rfl

@[simp] theorem State.modChan_port (c : Channel) (f : NelzChannel → NelzChannel) : (s.modChan c f).port = s.port := rfl

@[simp] theorem State.modChan_irqStat (c : Channel) (f : NelzChannel → NelzChannel) : (s.modChan c f).irqStat = s.irqStat := rfl

@[simp] theorem State.modChan_irqEn (c : Channel) (f : NelzChannel → NelzChannel) : (s.modChan c f).irqEn = s.irqEn := rfl

@[simp] theorem State.modChan_time (c : Channel) (f : NelzChannel → NelzChannel) : (s.modChan c f).time = s.time := rfl

@[simp] theorem State.modChan_nelz (c : Channel) (f : NelzChannel →
    NelzChannel) : (s.modChan c f).nelz = { s.nelz with chans := s.nelz.chans.setChan c (f (s.nelz.chans.chan c)) } := rfl

@[simp] theorem State.modChan_arch (c : Channel) (f : NelzChannel → NelzChannel) : (s.modChan c f).arch = s.arch := rfl

@[simp] theorem State.modChan_tally (c : Channel) (f : NelzChannel → NelzChannel) : (s.modChan c f).tally = s.tally := rfl

@[simp] theorem State.modChan_portals (c : Channel) (f : NelzChannel → NelzChannel) : (s.modChan c f).portals = s.portals := rfl

@[simp] theorem State.modChan_freeCtr (c : Channel) (f : NelzChannel → NelzChannel) : (s.modChan c f).freeCtr = s.freeCtr := rfl

@[simp] theorem State.modChan_pending (c : Channel) (f : NelzChannel → NelzChannel) : (s.modChan c f).pending = s.pending := rfl

/-! ### State.nelzEvt -/

@[simp] theorem State.nelzEvt_clock (n : Nat) : (s.nelzEvt n).clock = s.clock := rfl

@[simp] theorem State.nelzEvt_psm (n : Nat) : (s.nelzEvt n).psm = s.psm := rfl

@[simp] theorem State.nelzEvt_fuse (n : Nat) : (s.nelzEvt n).fuse = s.fuse := rfl

@[simp] theorem State.nelzEvt_harn (n : Nat) : (s.nelzEvt n).harn = s.harn := rfl

@[simp] theorem State.nelzEvt_sec (n : Nat) : (s.nelzEvt n).sec = s.sec := rfl

@[simp] theorem State.nelzEvt_fabric (n : Nat) : (s.nelzEvt n).fabric = s.fabric := rfl

@[simp] theorem State.nelzEvt_seq (n : Nat) : (s.nelzEvt n).seq = s.seq := rfl

@[simp] theorem State.nelzEvt_lock (n : Nat) : (s.nelzEvt n).lock = s.lock := rfl

@[simp] theorem State.nelzEvt_links (n : Nat) : (s.nelzEvt n).links = s.links := rfl

@[simp] theorem State.nelzEvt_acq (n : Nat) : (s.nelzEvt n).acq = s.acq := rfl

@[simp] theorem State.nelzEvt_cans (n : Nat) : (s.nelzEvt n).cans = s.cans := rfl

@[simp] theorem State.nelzEvt_port (n : Nat) : (s.nelzEvt n).port = s.port := rfl

@[simp] theorem State.nelzEvt_irqStat (n : Nat) : (s.nelzEvt n).irqStat = s.irqStat := rfl

@[simp] theorem State.nelzEvt_irqEn (n : Nat) : (s.nelzEvt n).irqEn = s.irqEn := rfl

@[simp] theorem State.nelzEvt_time (n : Nat) : (s.nelzEvt n).time = s.time := rfl

@[simp] theorem State.nelzEvt_nelz (n : Nat) : (s.nelzEvt n).nelz = { s.nelz with evt := raise s.nelz.evt n } := rfl

@[simp] theorem State.nelzEvt_arch (n : Nat) : (s.nelzEvt n).arch = s.arch := rfl

@[simp] theorem State.nelzEvt_tally (n : Nat) : (s.nelzEvt n).tally = s.tally := rfl

@[simp] theorem State.nelzEvt_portals (n : Nat) : (s.nelzEvt n).portals = s.portals := rfl

@[simp] theorem State.nelzEvt_freeCtr (n : Nat) : (s.nelzEvt n).freeCtr = s.freeCtr := rfl

@[simp] theorem State.nelzEvt_pending (n : Nat) : (s.nelzEvt n).pending = s.pending := rfl

/-! ### State.lockEvt -/

@[simp] theorem State.lockEvt_clock (n : Nat) : (s.lockEvt n).clock = s.clock := rfl

@[simp] theorem State.lockEvt_psm (n : Nat) : (s.lockEvt n).psm = s.psm := rfl

@[simp] theorem State.lockEvt_fuse (n : Nat) : (s.lockEvt n).fuse = s.fuse := rfl

@[simp] theorem State.lockEvt_harn (n : Nat) : (s.lockEvt n).harn = s.harn := rfl

@[simp] theorem State.lockEvt_sec (n : Nat) : (s.lockEvt n).sec = s.sec := rfl

@[simp] theorem State.lockEvt_fabric (n : Nat) : (s.lockEvt n).fabric = s.fabric := rfl

@[simp] theorem State.lockEvt_seq (n : Nat) : (s.lockEvt n).seq = s.seq := rfl

@[simp] theorem State.lockEvt_lock (n : Nat) : (s.lockEvt n).lock = { s.lock with evt := raise s.lock.evt n } := rfl

@[simp] theorem State.lockEvt_links (n : Nat) : (s.lockEvt n).links = s.links := rfl

@[simp] theorem State.lockEvt_acq (n : Nat) : (s.lockEvt n).acq = s.acq := rfl

@[simp] theorem State.lockEvt_cans (n : Nat) : (s.lockEvt n).cans = s.cans := rfl

@[simp] theorem State.lockEvt_port (n : Nat) : (s.lockEvt n).port = s.port := rfl

@[simp] theorem State.lockEvt_irqStat (n : Nat) : (s.lockEvt n).irqStat = s.irqStat := rfl

@[simp] theorem State.lockEvt_irqEn (n : Nat) : (s.lockEvt n).irqEn = s.irqEn := rfl

@[simp] theorem State.lockEvt_time (n : Nat) : (s.lockEvt n).time = s.time := rfl

@[simp] theorem State.lockEvt_nelz (n : Nat) : (s.lockEvt n).nelz = s.nelz := rfl

@[simp] theorem State.lockEvt_arch (n : Nat) : (s.lockEvt n).arch = s.arch := rfl

@[simp] theorem State.lockEvt_tally (n : Nat) : (s.lockEvt n).tally = s.tally := rfl

@[simp] theorem State.lockEvt_portals (n : Nat) : (s.lockEvt n).portals = s.portals := rfl

@[simp] theorem State.lockEvt_freeCtr (n : Nat) : (s.lockEvt n).freeCtr = s.freeCtr := rfl

@[simp] theorem State.lockEvt_pending (n : Nat) : (s.lockEvt n).pending = s.pending := rfl

/-! ### State.modPair -/

@[simp] theorem State.modPair_clock (i : PairId) (f : PairInfo → PairInfo) : (s.modPair i f).clock = s.clock := rfl

@[simp] theorem State.modPair_psm (i : PairId) (f : PairInfo → PairInfo) : (s.modPair i f).psm = s.psm := rfl

@[simp] theorem State.modPair_fuse (i : PairId) (f : PairInfo → PairInfo) : (s.modPair i f).fuse = s.fuse := rfl

@[simp] theorem State.modPair_harn (i : PairId) (f : PairInfo → PairInfo) : (s.modPair i f).harn = s.harn := rfl

@[simp] theorem State.modPair_sec (i : PairId) (f : PairInfo → PairInfo) : (s.modPair i f).sec = s.sec := rfl

@[simp] theorem State.modPair_fabric (i : PairId) (f : PairInfo → PairInfo) : (s.modPair i f).fabric = s.fabric := rfl

@[simp] theorem State.modPair_seq (i : PairId) (f : PairInfo → PairInfo) : (s.modPair i f).seq = s.seq := rfl

@[simp] theorem State.modPair_lock (i : PairId) (f : PairInfo →
    PairInfo) : (s.modPair i f).lock = { s.lock with pairs := s.lock.pairs.setPair i (f (s.lock.pairs.pair i)) } := rfl

@[simp] theorem State.modPair_links (i : PairId) (f : PairInfo → PairInfo) : (s.modPair i f).links = s.links := rfl

@[simp] theorem State.modPair_acq (i : PairId) (f : PairInfo → PairInfo) : (s.modPair i f).acq = s.acq := rfl

@[simp] theorem State.modPair_cans (i : PairId) (f : PairInfo → PairInfo) : (s.modPair i f).cans = s.cans := rfl

@[simp] theorem State.modPair_port (i : PairId) (f : PairInfo → PairInfo) : (s.modPair i f).port = s.port := rfl

@[simp] theorem State.modPair_irqStat (i : PairId) (f : PairInfo → PairInfo) : (s.modPair i f).irqStat = s.irqStat := rfl

@[simp] theorem State.modPair_irqEn (i : PairId) (f : PairInfo → PairInfo) : (s.modPair i f).irqEn = s.irqEn := rfl

@[simp] theorem State.modPair_time (i : PairId) (f : PairInfo → PairInfo) : (s.modPair i f).time = s.time := rfl

@[simp] theorem State.modPair_nelz (i : PairId) (f : PairInfo → PairInfo) : (s.modPair i f).nelz = s.nelz := rfl

@[simp] theorem State.modPair_arch (i : PairId) (f : PairInfo → PairInfo) : (s.modPair i f).arch = s.arch := rfl

@[simp] theorem State.modPair_tally (i : PairId) (f : PairInfo → PairInfo) : (s.modPair i f).tally = s.tally := rfl

@[simp] theorem State.modPair_portals (i : PairId) (f : PairInfo → PairInfo) : (s.modPair i f).portals = s.portals := rfl

@[simp] theorem State.modPair_freeCtr (i : PairId) (f : PairInfo → PairInfo) : (s.modPair i f).freeCtr = s.freeCtr := rfl

@[simp] theorem State.modPair_pending (i : PairId) (f : PairInfo → PairInfo) : (s.modPair i f).pending = s.pending := rfl

/-! ### State.drawn -/

@[simp] theorem State.drawn_clock : (s.drawn).clock = s.clock := rfl

@[simp] theorem State.drawn_psm : (s.drawn).psm = s.psm := rfl

@[simp] theorem State.drawn_fuse : (s.drawn).fuse = s.fuse := rfl

@[simp] theorem State.drawn_harn : (s.drawn).harn = s.harn := rfl

@[simp] theorem State.drawn_sec : (s.drawn).sec = s.sec := rfl

@[simp] theorem State.drawn_fabric : (s.drawn).fabric = s.fabric := rfl

@[simp] theorem State.drawn_seq : (s.drawn).seq = s.seq := rfl

@[simp] theorem State.drawn_lock : (s.drawn).lock = s.lock := rfl

@[simp] theorem State.drawn_links : (s.drawn).links = s.links := rfl

@[simp] theorem State.drawn_acq : (s.drawn).acq = s.acq := rfl

@[simp] theorem State.drawn_cans : (s.drawn).cans = s.cans := rfl

@[simp] theorem State.drawn_port : (s.drawn).port = s.port := rfl

@[simp] theorem State.drawn_irqStat : (s.drawn).irqStat = s.irqStat := rfl

@[simp] theorem State.drawn_irqEn : (s.drawn).irqEn = s.irqEn := rfl

@[simp] theorem State.drawn_time : (s.drawn).time = s.time := rfl

@[simp] theorem State.drawn_nelz : (s.drawn).nelz = s.nelz := rfl

@[simp] theorem State.drawn_arch : (s.drawn).arch = s.arch := rfl

@[simp] theorem State.drawn_tally : (s.drawn).tally = s.tally := rfl

@[simp] theorem State.drawn_portals : (s.drawn).portals = s.portals := rfl

@[simp] theorem State.drawn_freeCtr : (s.drawn).freeCtr = s.freeCtr + 1 := rfl

@[simp] theorem State.drawn_pending : (s.drawn).pending = s.pending := rfl

/-! ### State.answerCmd -/

@[simp] theorem State.answerCmd_clock (a : Answer) : (s.answerCmd a).clock = s.clock := rfl

@[simp] theorem State.answerCmd_psm (a : Answer) : (s.answerCmd a).psm = s.psm := rfl

@[simp] theorem State.answerCmd_fuse (a : Answer) : (s.answerCmd a).fuse = s.fuse := rfl

@[simp] theorem State.answerCmd_harn (a : Answer) : (s.answerCmd a).harn = s.harn := rfl

@[simp] theorem State.answerCmd_sec (a : Answer) : (s.answerCmd a).sec = s.sec := rfl

@[simp] theorem State.answerCmd_fabric (a : Answer) : (s.answerCmd a).fabric = s.fabric := rfl

@[simp] theorem State.answerCmd_seq (a : Answer) : (s.answerCmd a).seq = s.seq := rfl

@[simp] theorem State.answerCmd_lock (a : Answer) : (s.answerCmd a).lock = s.lock := rfl

@[simp] theorem State.answerCmd_links (a : Answer) : (s.answerCmd a).links = s.links := rfl

@[simp] theorem State.answerCmd_acq (a : Answer) : (s.answerCmd a).acq = s.acq := rfl

@[simp] theorem State.answerCmd_cans (a : Answer) : (s.answerCmd a).cans = s.cans := rfl

@[simp] theorem State.answerCmd_port (a : Answer) : (s.answerCmd a).port = s.port := rfl

@[simp] theorem State.answerCmd_irqStat (a : Answer) : (s.answerCmd a).irqStat = s.irqStat := rfl

@[simp] theorem State.answerCmd_irqEn (a : Answer) : (s.answerCmd a).irqEn = s.irqEn := rfl

@[simp] theorem State.answerCmd_time (a : Answer) : (s.answerCmd a).time = s.time := rfl

@[simp] theorem State.answerCmd_arch (a : Answer) : (s.answerCmd a).arch = s.arch := rfl

@[simp] theorem State.answerCmd_tally (a : Answer) : (s.answerCmd a).tally = s.tally := rfl

@[simp] theorem State.answerCmd_portals (a : Answer) : (s.answerCmd a).portals = s.portals := rfl

@[simp] theorem State.answerCmd_freeCtr (a : Answer) : (s.answerCmd a).freeCtr = s.freeCtr := rfl

@[simp] theorem State.answerCmd_pending (a : Answer) : (s.answerCmd a).pending = s.pending := rfl

/-! ### State.answerSpi -/

@[simp] theorem State.answerSpi_clock (x : SpiResponse) : (s.answerSpi x).clock = s.clock := rfl

@[simp] theorem State.answerSpi_psm (x : SpiResponse) : (s.answerSpi x).psm = s.psm := rfl

@[simp] theorem State.answerSpi_fuse (x : SpiResponse) : (s.answerSpi x).fuse = s.fuse := rfl

@[simp] theorem State.answerSpi_harn (x : SpiResponse) : (s.answerSpi x).harn = s.harn := rfl

@[simp] theorem State.answerSpi_sec (x : SpiResponse) : (s.answerSpi x).sec = s.sec := rfl

@[simp] theorem State.answerSpi_fabric (x : SpiResponse) : (s.answerSpi x).fabric = s.fabric := rfl

@[simp] theorem State.answerSpi_seq (x : SpiResponse) : (s.answerSpi x).seq = s.seq := rfl

@[simp] theorem State.answerSpi_lock (x : SpiResponse) : (s.answerSpi x).lock = s.lock := rfl

@[simp] theorem State.answerSpi_links (x : SpiResponse) : (s.answerSpi x).links = s.links := rfl

@[simp] theorem State.answerSpi_acq (x : SpiResponse) : (s.answerSpi x).acq = s.acq := rfl

@[simp] theorem State.answerSpi_cans (x : SpiResponse) : (s.answerSpi x).cans = s.cans := rfl

@[simp] theorem State.answerSpi_port (x : SpiResponse) : (s.answerSpi x).port = { s.port with answer := some x } := rfl

@[simp] theorem State.answerSpi_irqStat (x : SpiResponse) : (s.answerSpi x).irqStat = s.irqStat := rfl

@[simp] theorem State.answerSpi_irqEn (x : SpiResponse) : (s.answerSpi x).irqEn = s.irqEn := rfl

@[simp] theorem State.answerSpi_time (x : SpiResponse) : (s.answerSpi x).time = s.time := rfl

@[simp] theorem State.answerSpi_nelz (x : SpiResponse) : (s.answerSpi x).nelz = s.nelz := rfl

@[simp] theorem State.answerSpi_arch (x : SpiResponse) : (s.answerSpi x).arch = s.arch := rfl

@[simp] theorem State.answerSpi_tally (x : SpiResponse) : (s.answerSpi x).tally = s.tally := rfl

@[simp] theorem State.answerSpi_portals (x : SpiResponse) : (s.answerSpi x).portals = s.portals := rfl

@[simp] theorem State.answerSpi_freeCtr (x : SpiResponse) : (s.answerSpi x).freeCtr = s.freeCtr := rfl

@[simp] theorem State.answerSpi_pending (x : SpiResponse) : (s.answerSpi x).pending = s.pending := rfl

/-! ### State.respondSpi -/

@[simp] theorem State.respondSpi_clock (x : SpiResponse) : (s.respondSpi x).clock = s.clock := rfl

@[simp] theorem State.respondSpi_psm (x : SpiResponse) : (s.respondSpi x).psm = s.psm := rfl

@[simp] theorem State.respondSpi_fuse (x : SpiResponse) : (s.respondSpi x).fuse = s.fuse := rfl

@[simp] theorem State.respondSpi_harn (x : SpiResponse) : (s.respondSpi x).harn = s.harn := rfl

@[simp] theorem State.respondSpi_sec (x : SpiResponse) : (s.respondSpi x).sec = s.sec := rfl

@[simp] theorem State.respondSpi_fabric (x : SpiResponse) : (s.respondSpi x).fabric = s.fabric := rfl

@[simp] theorem State.respondSpi_seq (x : SpiResponse) : (s.respondSpi x).seq = s.seq := rfl

@[simp] theorem State.respondSpi_lock (x : SpiResponse) : (s.respondSpi x).lock = s.lock := rfl

@[simp] theorem State.respondSpi_links (x : SpiResponse) : (s.respondSpi x).links = s.links := rfl

@[simp] theorem State.respondSpi_acq (x : SpiResponse) : (s.respondSpi x).acq = s.acq := rfl

@[simp] theorem State.respondSpi_cans (x : SpiResponse) : (s.respondSpi x).cans = s.cans := rfl

@[simp] theorem State.respondSpi_port (x : SpiResponse) : (s.respondSpi x).port = { s.port with answer := some x, stored := some x, pending := none } := rfl

@[simp] theorem State.respondSpi_irqStat (x : SpiResponse) : (s.respondSpi x).irqStat = s.irqStat := rfl

@[simp] theorem State.respondSpi_irqEn (x : SpiResponse) : (s.respondSpi x).irqEn = s.irqEn := rfl

@[simp] theorem State.respondSpi_time (x : SpiResponse) : (s.respondSpi x).time = s.time := rfl

@[simp] theorem State.respondSpi_nelz (x : SpiResponse) : (s.respondSpi x).nelz = s.nelz := rfl

@[simp] theorem State.respondSpi_arch (x : SpiResponse) : (s.respondSpi x).arch = s.arch := rfl

@[simp] theorem State.respondSpi_tally (x : SpiResponse) : (s.respondSpi x).tally = s.tally := rfl

@[simp] theorem State.respondSpi_portals (x : SpiResponse) : (s.respondSpi x).portals = s.portals := rfl

@[simp] theorem State.respondSpi_freeCtr (x : SpiResponse) : (s.respondSpi x).freeCtr = s.freeCtr := rfl

@[simp] theorem State.respondSpi_pending (x : SpiResponse) : (s.respondSpi x).pending = s.pending := rfl

/-! ### State.bootStep -/

@[simp] theorem State.bootStep_clock (x : BootStep) (n : Nat) : (s.bootStep x n).clock = s.clock := rfl

@[simp] theorem State.bootStep_psm (x : BootStep) (n : Nat) : (s.bootStep x n).psm = { s.psm with step := x, phase := n } := rfl

@[simp] theorem State.bootStep_fuse (x : BootStep) (n : Nat) : (s.bootStep x n).fuse = s.fuse := rfl

@[simp] theorem State.bootStep_harn (x : BootStep) (n : Nat) : (s.bootStep x n).harn = s.harn := rfl

@[simp] theorem State.bootStep_sec (x : BootStep) (n : Nat) : (s.bootStep x n).sec = s.sec := rfl

@[simp] theorem State.bootStep_fabric (x : BootStep) (n : Nat) : (s.bootStep x n).fabric = s.fabric := rfl

@[simp] theorem State.bootStep_seq (x : BootStep) (n : Nat) : (s.bootStep x n).seq = s.seq := rfl

@[simp] theorem State.bootStep_lock (x : BootStep) (n : Nat) : (s.bootStep x n).lock = s.lock := rfl

@[simp] theorem State.bootStep_links (x : BootStep) (n : Nat) : (s.bootStep x n).links = s.links := rfl

@[simp] theorem State.bootStep_acq (x : BootStep) (n : Nat) : (s.bootStep x n).acq = s.acq := rfl

@[simp] theorem State.bootStep_cans (x : BootStep) (n : Nat) : (s.bootStep x n).cans = s.cans := rfl

@[simp] theorem State.bootStep_port (x : BootStep) (n : Nat) : (s.bootStep x n).port = s.port := rfl

@[simp] theorem State.bootStep_irqStat (x : BootStep) (n : Nat) : (s.bootStep x n).irqStat = s.irqStat := rfl

@[simp] theorem State.bootStep_irqEn (x : BootStep) (n : Nat) : (s.bootStep x n).irqEn = s.irqEn := rfl

@[simp] theorem State.bootStep_time (x : BootStep) (n : Nat) : (s.bootStep x n).time = s.time := rfl

@[simp] theorem State.bootStep_nelz (x : BootStep) (n : Nat) : (s.bootStep x n).nelz = s.nelz := rfl

@[simp] theorem State.bootStep_arch (x : BootStep) (n : Nat) : (s.bootStep x n).arch = s.arch := rfl

@[simp] theorem State.bootStep_tally (x : BootStep) (n : Nat) : (s.bootStep x n).tally = s.tally := rfl

@[simp] theorem State.bootStep_portals (x : BootStep) (n : Nat) : (s.bootStep x n).portals = s.portals := rfl

@[simp] theorem State.bootStep_freeCtr (x : BootStep) (n : Nat) : (s.bootStep x n).freeCtr = s.freeCtr := rfl

@[simp] theorem State.bootStep_pending (x : BootStep) (n : Nat) : (s.bootStep x n).pending = s.pending := rfl

/-! ### State.noteCmd -/

@[simp] theorem State.noteCmd_clock (src : CmdSource) (n : Nat) : (s.noteCmd src n).clock = s.clock := rfl

@[simp] theorem State.noteCmd_fuse (src : CmdSource) (n : Nat) : (s.noteCmd src n).fuse = s.fuse := rfl

@[simp] theorem State.noteCmd_harn (src : CmdSource) (n : Nat) : (s.noteCmd src n).harn = s.harn := rfl

@[simp] theorem State.noteCmd_sec (src : CmdSource) (n : Nat) : (s.noteCmd src n).sec = s.sec := rfl

@[simp] theorem State.noteCmd_fabric (src : CmdSource) (n : Nat) : (s.noteCmd src n).fabric = s.fabric := rfl

@[simp] theorem State.noteCmd_seq (src : CmdSource) (n : Nat) : (s.noteCmd src n).seq = s.seq := rfl

@[simp] theorem State.noteCmd_lock (src : CmdSource) (n : Nat) : (s.noteCmd src n).lock = s.lock := rfl

@[simp] theorem State.noteCmd_links (src : CmdSource) (n : Nat) : (s.noteCmd src n).links = s.links := rfl

@[simp] theorem State.noteCmd_acq (src : CmdSource) (n : Nat) : (s.noteCmd src n).acq = s.acq := rfl

@[simp] theorem State.noteCmd_cans (src : CmdSource) (n : Nat) : (s.noteCmd src n).cans = s.cans := rfl

@[simp] theorem State.noteCmd_port (src : CmdSource) (n : Nat) : (s.noteCmd src n).port = s.port := rfl

@[simp] theorem State.noteCmd_irqStat (src : CmdSource) (n : Nat) : (s.noteCmd src n).irqStat = s.irqStat := rfl

@[simp] theorem State.noteCmd_irqEn (src : CmdSource) (n : Nat) : (s.noteCmd src n).irqEn = s.irqEn := rfl

@[simp] theorem State.noteCmd_time (src : CmdSource) (n : Nat) : (s.noteCmd src n).time = s.time := rfl

@[simp] theorem State.noteCmd_nelz (src : CmdSource) (n : Nat) : (s.noteCmd src n).nelz = s.nelz := rfl

@[simp] theorem State.noteCmd_arch (src : CmdSource) (n : Nat) : (s.noteCmd src n).arch = s.arch := rfl

@[simp] theorem State.noteCmd_tally (src : CmdSource) (n : Nat) : (s.noteCmd src n).tally = s.tally := rfl

@[simp] theorem State.noteCmd_portals (src : CmdSource) (n : Nat) : (s.noteCmd src n).portals = s.portals := rfl

@[simp] theorem State.noteCmd_freeCtr (src : CmdSource) (n : Nat) : (s.noteCmd src n).freeCtr = s.freeCtr := rfl

@[simp] theorem State.noteCmd_pending (src : CmdSource) (n : Nat) : (s.noteCmd src n).pending = s.pending := rfl

/-! ### State.interrupts -/

@[simp] theorem State.interrupts_clock (u : State) : (s.interrupts u).clock = u.clock := rfl

@[simp] theorem State.interrupts_psm (u : State) : (s.interrupts u).psm = u.psm := rfl

@[simp] theorem State.interrupts_fuse (u : State) : (s.interrupts u).fuse = u.fuse := rfl

@[simp] theorem State.interrupts_harn (u : State) : (s.interrupts u).harn = u.harn := rfl

@[simp] theorem State.interrupts_sec (u : State) : (s.interrupts u).sec = u.sec := rfl

@[simp] theorem State.interrupts_fabric (u : State) : (s.interrupts u).fabric = u.fabric := rfl

@[simp] theorem State.interrupts_seq (u : State) : (s.interrupts u).seq = u.seq := rfl

@[simp] theorem State.interrupts_lock (u : State) : (s.interrupts u).lock = u.lock := rfl

@[simp] theorem State.interrupts_links (u : State) : (s.interrupts u).links = u.links := rfl

@[simp] theorem State.interrupts_acq (u : State) : (s.interrupts u).acq = u.acq := rfl

@[simp] theorem State.interrupts_cans (u : State) : (s.interrupts u).cans = u.cans := rfl

@[simp] theorem State.interrupts_port (u : State) : (s.interrupts u).port = u.port := rfl

@[simp] theorem State.interrupts_irqStat (u : State) : (s.interrupts u).irqStat = u.irqStat ||| irqRises s u := rfl

@[simp] theorem State.interrupts_irqEn (u : State) : (s.interrupts u).irqEn = u.irqEn := rfl

@[simp] theorem State.interrupts_time (u : State) : (s.interrupts u).time = u.time := rfl

@[simp] theorem State.interrupts_nelz (u : State) : (s.interrupts u).nelz = u.nelz := rfl

@[simp] theorem State.interrupts_arch (u : State) : (s.interrupts u).arch = u.arch := rfl

@[simp] theorem State.interrupts_tally (u : State) : (s.interrupts u).tally = u.tally := rfl

@[simp] theorem State.interrupts_portals (u : State) : (s.interrupts u).portals = u.portals := rfl

@[simp] theorem State.interrupts_freeCtr (u : State) : (s.interrupts u).freeCtr = u.freeCtr := rfl

@[simp] theorem State.interrupts_pending (u : State) : (s.interrupts u).pending = u.pending := rfl

/-! ### PortalState.modAxis -/

@[simp] theorem PortalState.modAxis_por (a : AxisId) (f : AxisState → AxisState) : (P.modAxis a f).por = P.por := rfl

@[simp] theorem PortalState.modAxis_cls (a : AxisId) (f : AxisState → AxisState) : (P.modAxis a f).cls = P.cls := rfl

@[simp] theorem PortalState.modAxis_cust (a : AxisId) (f : AxisState → AxisState) : (P.modAxis a f).cust = P.cust := rfl

@[simp] theorem PortalState.modAxis_strc (a : AxisId) (f : AxisState → AxisState) : (P.modAxis a f).strc = P.strc := rfl

@[simp] theorem PortalState.modAxis_proven (a : AxisId) (f : AxisState → AxisState) : (P.modAxis a f).proven = P.proven := rfl

@[simp] theorem PortalState.modAxis_openHalf (a : AxisId) (f : AxisState → AxisState) : (P.modAxis a f).openHalf = P.openHalf := rfl

@[simp] theorem PortalState.modAxis_isoDisc (a : AxisId) (f : AxisState → AxisState) : (P.modAxis a f).isoDisc = P.isoDisc := rfl

@[simp] theorem PortalState.modAxis_isoSplitAt (a : AxisId) (f : AxisState → AxisState) : (P.modAxis a f).isoSplitAt = P.isoSplitAt := rfl

@[simp] theorem PortalState.modAxis_agreeAt (a : AxisId) (f : AxisState → AxisState) : (P.modAxis a f).agreeAt = P.agreeAt := rfl

@[simp] theorem PortalState.modAxis_refuseWhy (a : AxisId) (f : AxisState → AxisState) : (P.modAxis a f).refuseWhy = P.refuseWhy := rfl

@[simp] theorem PortalState.modAxis_refuseCnt (a : AxisId) (f : AxisState → AxisState) : (P.modAxis a f).refuseCnt = P.refuseCnt := rfl

@[simp] theorem PortalState.modAxis_axes (a : AxisId) (f : AxisState → AxisState) : (P.modAxis a f).axes = P.axes.set a (f (P.axes.get a)) := rfl

@[simp] theorem PortalState.modAxis_fbs (a : AxisId) (f : AxisState → AxisState) : (P.modAxis a f).fbs = P.fbs := rfl

@[simp] theorem PortalState.modAxis_ob (a : AxisId) (f : AxisState → AxisState) : (P.modAxis a f).ob = P.ob := rfl

@[simp] theorem PortalState.modAxis_afe (a : AxisId) (f : AxisState → AxisState) : (P.modAxis a f).afe = P.afe := rfl

@[simp] theorem PortalState.modAxis_harness (a : AxisId) (f : AxisState → AxisState) : (P.modAxis a f).harness = P.harness := rfl

@[simp] theorem PortalState.modAxis_units (a : AxisId) (f : AxisState → AxisState) : (P.modAxis a f).units = P.units := rfl

@[simp] theorem PortalState.modAxis_incoming (a : AxisId) (f : AxisState → AxisState) : (P.modAxis a f).incoming = P.incoming := rfl

@[simp] theorem PortalState.modAxis_chunk (a : AxisId) (f : AxisState → AxisState) : (P.modAxis a f).chunk = P.chunk := rfl

@[simp] theorem PortalState.modAxis_inputs (a : AxisId) (f : AxisState → AxisState) : (P.modAxis a f).inputs = P.inputs := rfl

@[simp] theorem PortalState.modAxis_switches (a : AxisId) (f : AxisState → AxisState) : (P.modAxis a f).switches = P.switches := rfl

@[simp] theorem PortalState.modAxis_supply (a : AxisId) (f : AxisState → AxisState) : (P.modAxis a f).supply = P.supply := rfl

@[simp] theorem PortalState.modAxis_sos (a : AxisId) (f : AxisState → AxisState) : (P.modAxis a f).sos = P.sos := rfl

@[simp] theorem PortalState.modAxis_soEvt (a : AxisId) (f : AxisState → AxisState) : (P.modAxis a f).soEvt = P.soEvt := rfl

@[simp] theorem PortalState.modAxis_soPulses (a : AxisId) (f : AxisState → AxisState) : (P.modAxis a f).soPulses = P.soPulses := rfl

@[simp] theorem PortalState.modAxis_curtains (a : AxisId) (f : AxisState → AxisState) : (P.modAxis a f).curtains = P.curtains := rfl

@[simp] theorem PortalState.modAxis_mon2 (a : AxisId) (f : AxisState → AxisState) : (P.modAxis a f).mon2 = P.mon2 := rfl

@[simp] theorem PortalState.modAxis_link (a : AxisId) (f : AxisState → AxisState) : (P.modAxis a f).link = P.link := rfl

/-! ### PortalState.modFb -/

@[simp] theorem PortalState.modFb_por (a : AxisId) (f : FbState → FbState) : (P.modFb a f).por = P.por := rfl

@[simp] theorem PortalState.modFb_cls (a : AxisId) (f : FbState → FbState) : (P.modFb a f).cls = P.cls := rfl

@[simp] theorem PortalState.modFb_cust (a : AxisId) (f : FbState → FbState) : (P.modFb a f).cust = P.cust := rfl

@[simp] theorem PortalState.modFb_strc (a : AxisId) (f : FbState → FbState) : (P.modFb a f).strc = P.strc := rfl

@[simp] theorem PortalState.modFb_proven (a : AxisId) (f : FbState → FbState) : (P.modFb a f).proven = P.proven := rfl

@[simp] theorem PortalState.modFb_openHalf (a : AxisId) (f : FbState → FbState) : (P.modFb a f).openHalf = P.openHalf := rfl

@[simp] theorem PortalState.modFb_isoDisc (a : AxisId) (f : FbState → FbState) : (P.modFb a f).isoDisc = P.isoDisc := rfl

@[simp] theorem PortalState.modFb_isoSplitAt (a : AxisId) (f : FbState → FbState) : (P.modFb a f).isoSplitAt = P.isoSplitAt := rfl

@[simp] theorem PortalState.modFb_agreeAt (a : AxisId) (f : FbState → FbState) : (P.modFb a f).agreeAt = P.agreeAt := rfl

@[simp] theorem PortalState.modFb_refuseWhy (a : AxisId) (f : FbState → FbState) : (P.modFb a f).refuseWhy = P.refuseWhy := rfl

@[simp] theorem PortalState.modFb_refuseCnt (a : AxisId) (f : FbState → FbState) : (P.modFb a f).refuseCnt = P.refuseCnt := rfl

@[simp] theorem PortalState.modFb_axes (a : AxisId) (f : FbState → FbState) : (P.modFb a f).axes = P.axes := rfl

@[simp] theorem PortalState.modFb_fbs (a : AxisId) (f : FbState → FbState) : (P.modFb a f).fbs = P.fbs.set a (f (P.fbs.get a)) := rfl

@[simp] theorem PortalState.modFb_ob (a : AxisId) (f : FbState → FbState) : (P.modFb a f).ob = P.ob := rfl

@[simp] theorem PortalState.modFb_afe (a : AxisId) (f : FbState → FbState) : (P.modFb a f).afe = P.afe := rfl

@[simp] theorem PortalState.modFb_harness (a : AxisId) (f : FbState → FbState) : (P.modFb a f).harness = P.harness := rfl

@[simp] theorem PortalState.modFb_units (a : AxisId) (f : FbState → FbState) : (P.modFb a f).units = P.units := rfl

@[simp] theorem PortalState.modFb_incoming (a : AxisId) (f : FbState → FbState) : (P.modFb a f).incoming = P.incoming := rfl

@[simp] theorem PortalState.modFb_chunk (a : AxisId) (f : FbState → FbState) : (P.modFb a f).chunk = P.chunk := rfl

@[simp] theorem PortalState.modFb_inputs (a : AxisId) (f : FbState → FbState) : (P.modFb a f).inputs = P.inputs := rfl

@[simp] theorem PortalState.modFb_switches (a : AxisId) (f : FbState → FbState) : (P.modFb a f).switches = P.switches := rfl

@[simp] theorem PortalState.modFb_supply (a : AxisId) (f : FbState → FbState) : (P.modFb a f).supply = P.supply := rfl

@[simp] theorem PortalState.modFb_sos (a : AxisId) (f : FbState → FbState) : (P.modFb a f).sos = P.sos := rfl

@[simp] theorem PortalState.modFb_soEvt (a : AxisId) (f : FbState → FbState) : (P.modFb a f).soEvt = P.soEvt := rfl

@[simp] theorem PortalState.modFb_soPulses (a : AxisId) (f : FbState → FbState) : (P.modFb a f).soPulses = P.soPulses := rfl

@[simp] theorem PortalState.modFb_curtains (a : AxisId) (f : FbState → FbState) : (P.modFb a f).curtains = P.curtains := rfl

@[simp] theorem PortalState.modFb_mon2 (a : AxisId) (f : FbState →
    FbState) : (P.modFb a f).mon2 = { P.mon2 with fbs := P.mon2.fbs.set a (f (P.mon2.fbs.get a)) } := rfl

@[simp] theorem PortalState.modFb_link (a : AxisId) (f : FbState → FbState) : (P.modFb a f).link = P.link := rfl

/-! ### PortalState.modOb -/

@[simp] theorem PortalState.modOb_por (f : ObState → ObState) : (P.modOb f).por = P.por := rfl

@[simp] theorem PortalState.modOb_cls (f : ObState → ObState) : (P.modOb f).cls = P.cls := rfl

@[simp] theorem PortalState.modOb_cust (f : ObState → ObState) : (P.modOb f).cust = P.cust := rfl

@[simp] theorem PortalState.modOb_strc (f : ObState → ObState) : (P.modOb f).strc = P.strc := rfl

@[simp] theorem PortalState.modOb_proven (f : ObState → ObState) : (P.modOb f).proven = P.proven := rfl

@[simp] theorem PortalState.modOb_openHalf (f : ObState → ObState) : (P.modOb f).openHalf = P.openHalf := rfl

@[simp] theorem PortalState.modOb_isoDisc (f : ObState → ObState) : (P.modOb f).isoDisc = P.isoDisc := rfl

@[simp] theorem PortalState.modOb_isoSplitAt (f : ObState → ObState) : (P.modOb f).isoSplitAt = P.isoSplitAt := rfl

@[simp] theorem PortalState.modOb_agreeAt (f : ObState → ObState) : (P.modOb f).agreeAt = P.agreeAt := rfl

@[simp] theorem PortalState.modOb_refuseWhy (f : ObState → ObState) : (P.modOb f).refuseWhy = P.refuseWhy := rfl

@[simp] theorem PortalState.modOb_refuseCnt (f : ObState → ObState) : (P.modOb f).refuseCnt = P.refuseCnt := rfl

@[simp] theorem PortalState.modOb_axes (f : ObState → ObState) : (P.modOb f).axes = P.axes := rfl

@[simp] theorem PortalState.modOb_fbs (f : ObState → ObState) : (P.modOb f).fbs = P.fbs := rfl

@[simp] theorem PortalState.modOb_ob (f : ObState → ObState) : (P.modOb f).ob = f P.ob := rfl

@[simp] theorem PortalState.modOb_afe (f : ObState → ObState) : (P.modOb f).afe = P.afe := rfl

@[simp] theorem PortalState.modOb_harness (f : ObState → ObState) : (P.modOb f).harness = P.harness := rfl

@[simp] theorem PortalState.modOb_units (f : ObState → ObState) : (P.modOb f).units = P.units := rfl

@[simp] theorem PortalState.modOb_incoming (f : ObState → ObState) : (P.modOb f).incoming = P.incoming := rfl

@[simp] theorem PortalState.modOb_chunk (f : ObState → ObState) : (P.modOb f).chunk = P.chunk := rfl

@[simp] theorem PortalState.modOb_inputs (f : ObState → ObState) : (P.modOb f).inputs = P.inputs := rfl

@[simp] theorem PortalState.modOb_switches (f : ObState → ObState) : (P.modOb f).switches = P.switches := rfl

@[simp] theorem PortalState.modOb_supply (f : ObState → ObState) : (P.modOb f).supply = P.supply := rfl

@[simp] theorem PortalState.modOb_sos (f : ObState → ObState) : (P.modOb f).sos = P.sos := rfl

@[simp] theorem PortalState.modOb_soEvt (f : ObState → ObState) : (P.modOb f).soEvt = P.soEvt := rfl

@[simp] theorem PortalState.modOb_soPulses (f : ObState → ObState) : (P.modOb f).soPulses = P.soPulses := rfl

@[simp] theorem PortalState.modOb_curtains (f : ObState → ObState) : (P.modOb f).curtains = P.curtains := rfl

@[simp] theorem PortalState.modOb_mon2 (f : ObState → ObState) : (P.modOb f).mon2 = P.mon2 := rfl

@[simp] theorem PortalState.modOb_link (f : ObState → ObState) : (P.modOb f).link = P.link := rfl

/-! ### PortalState.modSw -/

@[simp] theorem PortalState.modSw_por (n : Fin 8) (f : SwitchState → SwitchState) : (P.modSw n f).por = P.por := rfl

@[simp] theorem PortalState.modSw_cls (n : Fin 8) (f : SwitchState → SwitchState) : (P.modSw n f).cls = P.cls := rfl

@[simp] theorem PortalState.modSw_cust (n : Fin 8) (f : SwitchState → SwitchState) : (P.modSw n f).cust = P.cust := rfl

@[simp] theorem PortalState.modSw_strc (n : Fin 8) (f : SwitchState → SwitchState) : (P.modSw n f).strc = P.strc := rfl

@[simp] theorem PortalState.modSw_proven (n : Fin 8) (f : SwitchState → SwitchState) : (P.modSw n f).proven = P.proven := rfl

@[simp] theorem PortalState.modSw_openHalf (n : Fin 8) (f : SwitchState → SwitchState) : (P.modSw n f).openHalf = P.openHalf := rfl

@[simp] theorem PortalState.modSw_isoDisc (n : Fin 8) (f : SwitchState → SwitchState) : (P.modSw n f).isoDisc = P.isoDisc := rfl

@[simp] theorem PortalState.modSw_isoSplitAt (n : Fin 8) (f : SwitchState → SwitchState) : (P.modSw n f).isoSplitAt = P.isoSplitAt := rfl

@[simp] theorem PortalState.modSw_agreeAt (n : Fin 8) (f : SwitchState → SwitchState) : (P.modSw n f).agreeAt = P.agreeAt := rfl

@[simp] theorem PortalState.modSw_refuseWhy (n : Fin 8) (f : SwitchState → SwitchState) : (P.modSw n f).refuseWhy = P.refuseWhy := rfl

@[simp] theorem PortalState.modSw_refuseCnt (n : Fin 8) (f : SwitchState → SwitchState) : (P.modSw n f).refuseCnt = P.refuseCnt := rfl

@[simp] theorem PortalState.modSw_axes (n : Fin 8) (f : SwitchState → SwitchState) : (P.modSw n f).axes = P.axes := rfl

@[simp] theorem PortalState.modSw_fbs (n : Fin 8) (f : SwitchState → SwitchState) : (P.modSw n f).fbs = P.fbs := rfl

@[simp] theorem PortalState.modSw_ob (n : Fin 8) (f : SwitchState → SwitchState) : (P.modSw n f).ob = P.ob := rfl

@[simp] theorem PortalState.modSw_afe (n : Fin 8) (f : SwitchState → SwitchState) : (P.modSw n f).afe = P.afe := rfl

@[simp] theorem PortalState.modSw_harness (n : Fin 8) (f : SwitchState → SwitchState) : (P.modSw n f).harness = P.harness := rfl

@[simp] theorem PortalState.modSw_units (n : Fin 8) (f : SwitchState → SwitchState) : (P.modSw n f).units = P.units := rfl

@[simp] theorem PortalState.modSw_incoming (n : Fin 8) (f : SwitchState → SwitchState) : (P.modSw n f).incoming = P.incoming := rfl

@[simp] theorem PortalState.modSw_chunk (n : Fin 8) (f : SwitchState → SwitchState) : (P.modSw n f).chunk = P.chunk := rfl

@[simp] theorem PortalState.modSw_inputs (n : Fin 8) (f : SwitchState → SwitchState) : (P.modSw n f).inputs = P.inputs := rfl

@[simp] theorem PortalState.modSw_switches (n : Fin 8) (f : SwitchState → SwitchState) : (P.modSw n f).switches = P.switches.set n (f (P.switches.get n)) := rfl

@[simp] theorem PortalState.modSw_supply (n : Fin 8) (f : SwitchState → SwitchState) : (P.modSw n f).supply = P.supply := rfl

@[simp] theorem PortalState.modSw_sos (n : Fin 8) (f : SwitchState → SwitchState) : (P.modSw n f).sos = P.sos := rfl

@[simp] theorem PortalState.modSw_soEvt (n : Fin 8) (f : SwitchState → SwitchState) : (P.modSw n f).soEvt = P.soEvt := rfl

@[simp] theorem PortalState.modSw_soPulses (n : Fin 8) (f : SwitchState → SwitchState) : (P.modSw n f).soPulses = P.soPulses := rfl

@[simp] theorem PortalState.modSw_curtains (n : Fin 8) (f : SwitchState → SwitchState) : (P.modSw n f).curtains = P.curtains := rfl

@[simp] theorem PortalState.modSw_mon2 (n : Fin 8) (f : SwitchState → SwitchState) : (P.modSw n f).mon2 = P.mon2 := rfl

@[simp] theorem PortalState.modSw_link (n : Fin 8) (f : SwitchState → SwitchState) : (P.modSw n f).link = P.link := rfl

/-! ### PortalState.modSo -/

@[simp] theorem PortalState.modSo_por (o : SoId) (f : SoState → SoState) : (P.modSo o f).por = P.por := rfl

@[simp] theorem PortalState.modSo_cls (o : SoId) (f : SoState → SoState) : (P.modSo o f).cls = P.cls := rfl

@[simp] theorem PortalState.modSo_cust (o : SoId) (f : SoState → SoState) : (P.modSo o f).cust = P.cust := rfl

@[simp] theorem PortalState.modSo_strc (o : SoId) (f : SoState → SoState) : (P.modSo o f).strc = P.strc := rfl

@[simp] theorem PortalState.modSo_proven (o : SoId) (f : SoState → SoState) : (P.modSo o f).proven = P.proven := rfl

@[simp] theorem PortalState.modSo_openHalf (o : SoId) (f : SoState → SoState) : (P.modSo o f).openHalf = P.openHalf := rfl

@[simp] theorem PortalState.modSo_isoDisc (o : SoId) (f : SoState → SoState) : (P.modSo o f).isoDisc = P.isoDisc := rfl

@[simp] theorem PortalState.modSo_isoSplitAt (o : SoId) (f : SoState → SoState) : (P.modSo o f).isoSplitAt = P.isoSplitAt := rfl

@[simp] theorem PortalState.modSo_agreeAt (o : SoId) (f : SoState → SoState) : (P.modSo o f).agreeAt = P.agreeAt := rfl

@[simp] theorem PortalState.modSo_refuseWhy (o : SoId) (f : SoState → SoState) : (P.modSo o f).refuseWhy = P.refuseWhy := rfl

@[simp] theorem PortalState.modSo_refuseCnt (o : SoId) (f : SoState → SoState) : (P.modSo o f).refuseCnt = P.refuseCnt := rfl

@[simp] theorem PortalState.modSo_axes (o : SoId) (f : SoState → SoState) : (P.modSo o f).axes = P.axes := rfl

@[simp] theorem PortalState.modSo_fbs (o : SoId) (f : SoState → SoState) : (P.modSo o f).fbs = P.fbs := rfl

@[simp] theorem PortalState.modSo_ob (o : SoId) (f : SoState → SoState) : (P.modSo o f).ob = P.ob := rfl

@[simp] theorem PortalState.modSo_afe (o : SoId) (f : SoState → SoState) : (P.modSo o f).afe = P.afe := rfl

@[simp] theorem PortalState.modSo_harness (o : SoId) (f : SoState → SoState) : (P.modSo o f).harness = P.harness := rfl

@[simp] theorem PortalState.modSo_units (o : SoId) (f : SoState → SoState) : (P.modSo o f).units = P.units := rfl

@[simp] theorem PortalState.modSo_incoming (o : SoId) (f : SoState → SoState) : (P.modSo o f).incoming = P.incoming := rfl

@[simp] theorem PortalState.modSo_chunk (o : SoId) (f : SoState → SoState) : (P.modSo o f).chunk = P.chunk := rfl

@[simp] theorem PortalState.modSo_inputs (o : SoId) (f : SoState → SoState) : (P.modSo o f).inputs = P.inputs := rfl

@[simp] theorem PortalState.modSo_switches (o : SoId) (f : SoState → SoState) : (P.modSo o f).switches = P.switches := rfl

@[simp] theorem PortalState.modSo_supply (o : SoId) (f : SoState → SoState) : (P.modSo o f).supply = P.supply := rfl

@[simp] theorem PortalState.modSo_sos (o : SoId) (f : SoState → SoState) : (P.modSo o f).sos = P.sos.setSo o (f (P.sos.so o)) := rfl

@[simp] theorem PortalState.modSo_soEvt (o : SoId) (f : SoState → SoState) : (P.modSo o f).soEvt = P.soEvt := rfl

@[simp] theorem PortalState.modSo_soPulses (o : SoId) (f : SoState → SoState) : (P.modSo o f).soPulses = P.soPulses := rfl

@[simp] theorem PortalState.modSo_curtains (o : SoId) (f : SoState → SoState) : (P.modSo o f).curtains = P.curtains := rfl

@[simp] theorem PortalState.modSo_mon2 (o : SoId) (f : SoState → SoState) : (P.modSo o f).mon2 = P.mon2 := rfl

@[simp] theorem PortalState.modSo_link (o : SoId) (f : SoState → SoState) : (P.modSo o f).link = P.link := rfl

/-! ### PortalState.modLink -/

@[simp] theorem PortalState.modLink_por (f : PortalLink → PortalLink) : (P.modLink f).por = P.por := rfl

@[simp] theorem PortalState.modLink_cls (f : PortalLink → PortalLink) : (P.modLink f).cls = P.cls := rfl

@[simp] theorem PortalState.modLink_cust (f : PortalLink → PortalLink) : (P.modLink f).cust = P.cust := rfl

@[simp] theorem PortalState.modLink_strc (f : PortalLink → PortalLink) : (P.modLink f).strc = P.strc := rfl

@[simp] theorem PortalState.modLink_proven (f : PortalLink → PortalLink) : (P.modLink f).proven = P.proven := rfl

@[simp] theorem PortalState.modLink_openHalf (f : PortalLink → PortalLink) : (P.modLink f).openHalf = P.openHalf := rfl

@[simp] theorem PortalState.modLink_isoDisc (f : PortalLink → PortalLink) : (P.modLink f).isoDisc = P.isoDisc := rfl

@[simp] theorem PortalState.modLink_isoSplitAt (f : PortalLink → PortalLink) : (P.modLink f).isoSplitAt = P.isoSplitAt := rfl

@[simp] theorem PortalState.modLink_agreeAt (f : PortalLink → PortalLink) : (P.modLink f).agreeAt = P.agreeAt := rfl

@[simp] theorem PortalState.modLink_refuseWhy (f : PortalLink → PortalLink) : (P.modLink f).refuseWhy = P.refuseWhy := rfl

@[simp] theorem PortalState.modLink_refuseCnt (f : PortalLink → PortalLink) : (P.modLink f).refuseCnt = P.refuseCnt := rfl

@[simp] theorem PortalState.modLink_axes (f : PortalLink → PortalLink) : (P.modLink f).axes = P.axes := rfl

@[simp] theorem PortalState.modLink_fbs (f : PortalLink → PortalLink) : (P.modLink f).fbs = P.fbs := rfl

@[simp] theorem PortalState.modLink_ob (f : PortalLink → PortalLink) : (P.modLink f).ob = P.ob := rfl

@[simp] theorem PortalState.modLink_afe (f : PortalLink → PortalLink) : (P.modLink f).afe = P.afe := rfl

@[simp] theorem PortalState.modLink_harness (f : PortalLink → PortalLink) : (P.modLink f).harness = P.harness := rfl

@[simp] theorem PortalState.modLink_units (f : PortalLink → PortalLink) : (P.modLink f).units = P.units := rfl

@[simp] theorem PortalState.modLink_incoming (f : PortalLink → PortalLink) : (P.modLink f).incoming = P.incoming := rfl

@[simp] theorem PortalState.modLink_chunk (f : PortalLink → PortalLink) : (P.modLink f).chunk = P.chunk := rfl

@[simp] theorem PortalState.modLink_inputs (f : PortalLink → PortalLink) : (P.modLink f).inputs = P.inputs := rfl

@[simp] theorem PortalState.modLink_switches (f : PortalLink → PortalLink) : (P.modLink f).switches = P.switches := rfl

@[simp] theorem PortalState.modLink_supply (f : PortalLink → PortalLink) : (P.modLink f).supply = P.supply := rfl

@[simp] theorem PortalState.modLink_sos (f : PortalLink → PortalLink) : (P.modLink f).sos = P.sos := rfl

@[simp] theorem PortalState.modLink_soEvt (f : PortalLink → PortalLink) : (P.modLink f).soEvt = P.soEvt := rfl

@[simp] theorem PortalState.modLink_soPulses (f : PortalLink → PortalLink) : (P.modLink f).soPulses = P.soPulses := rfl

@[simp] theorem PortalState.modLink_curtains (f : PortalLink → PortalLink) : (P.modLink f).curtains = P.curtains := rfl

@[simp] theorem PortalState.modLink_mon2 (f : PortalLink → PortalLink) : (P.modLink f).mon2 = P.mon2 := rfl

@[simp] theorem PortalState.modLink_link (f : PortalLink → PortalLink) : (P.modLink f).link = f P.link := rfl

/-! ### PortalState.sendState -/

@[simp] theorem PortalState.sendState_por (ck : Nat) : (P.sendState ck).por = P.por := rfl

@[simp] theorem PortalState.sendState_cls (ck : Nat) : (P.sendState ck).cls = P.cls := rfl

@[simp] theorem PortalState.sendState_cust (ck : Nat) : (P.sendState ck).cust = P.cust := rfl

@[simp] theorem PortalState.sendState_strc (ck : Nat) : (P.sendState ck).strc = P.strc := rfl

@[simp] theorem PortalState.sendState_proven (ck : Nat) : (P.sendState ck).proven = P.proven := rfl

@[simp] theorem PortalState.sendState_openHalf (ck : Nat) : (P.sendState ck).openHalf = P.openHalf := rfl

@[simp] theorem PortalState.sendState_isoDisc (ck : Nat) : (P.sendState ck).isoDisc = P.isoDisc := rfl

@[simp] theorem PortalState.sendState_isoSplitAt (ck : Nat) : (P.sendState ck).isoSplitAt = P.isoSplitAt := rfl

@[simp] theorem PortalState.sendState_agreeAt (ck : Nat) : (P.sendState ck).agreeAt = P.agreeAt := rfl

@[simp] theorem PortalState.sendState_refuseWhy (ck : Nat) : (P.sendState ck).refuseWhy = P.refuseWhy := rfl

@[simp] theorem PortalState.sendState_refuseCnt (ck : Nat) : (P.sendState ck).refuseCnt = P.refuseCnt := rfl

@[simp] theorem PortalState.sendState_axes (ck : Nat) : (P.sendState ck).axes = P.axes := rfl

@[simp] theorem PortalState.sendState_fbs (ck : Nat) : (P.sendState ck).fbs = P.fbs := rfl

@[simp] theorem PortalState.sendState_ob (ck : Nat) : (P.sendState ck).ob = P.ob := rfl

@[simp] theorem PortalState.sendState_afe (ck : Nat) : (P.sendState ck).afe = P.afe := rfl

@[simp] theorem PortalState.sendState_harness (ck : Nat) : (P.sendState ck).harness = P.harness := rfl

@[simp] theorem PortalState.sendState_units (ck : Nat) : (P.sendState ck).units = P.units := rfl

@[simp] theorem PortalState.sendState_incoming (ck : Nat) : (P.sendState ck).incoming = P.incoming := rfl

@[simp] theorem PortalState.sendState_chunk (ck : Nat) : (P.sendState ck).chunk = P.chunk := rfl

@[simp] theorem PortalState.sendState_inputs (ck : Nat) : (P.sendState ck).inputs = P.inputs := rfl

@[simp] theorem PortalState.sendState_switches (ck : Nat) : (P.sendState ck).switches = P.switches := rfl

@[simp] theorem PortalState.sendState_supply (ck : Nat) : (P.sendState ck).supply = P.supply := rfl

@[simp] theorem PortalState.sendState_sos (ck : Nat) : (P.sendState ck).sos = P.sos := rfl

@[simp] theorem PortalState.sendState_soEvt (ck : Nat) : (P.sendState ck).soEvt = P.soEvt := rfl

@[simp] theorem PortalState.sendState_soPulses (ck : Nat) : (P.sendState ck).soPulses = P.soPulses := rfl

@[simp] theorem PortalState.sendState_curtains (ck : Nat) : (P.sendState ck).curtains = P.curtains := rfl

@[simp] theorem PortalState.sendState_mon2 (ck : Nat) : (P.sendState ck).mon2 = P.mon2 := rfl

@[simp] theorem PortalState.sendState_link (ck : Nat) : (P.sendState ck).link = { P.link with fin := P.link.fin.send fun h => .state h (P.stateFrame ck), glEvt := 0 } := rfl

end Sys2Proof.Machine
end

