-- ==== Sys2Proof/Laws/Traffic.lean ====
section
/-! SUPPORT. What the messages of the Nelzil engine can change: the engine itself, the CAN controllers, and the kernel's lists of results and
summaries that they take up. Said once as `Traffic`, with one lemma for each function of the engine that runs after a command. -/

namespace Sys2Proof.Machine

/-- `t` differs from `s` at most in the message engine, the CAN controllers, and the kernel's results and summaries. -/
def Traffic (s t : State) : Prop :=
  t = { s with nelz := t.nelz, cans := t.cans, seq := { s.seq with results := t.seq.results, summaries := t.seq.summaries } }

theorem Traffic.refl (s : State) : Traffic s s := rfl

theorem Traffic.trans {s t u : State} (h : Traffic s t) (g : Traffic t u) : Traffic s u := by
  unfold Traffic at *
  rw [g, h]

/-- A fold of steps each of which is traffic. -/
theorem Traffic.foldl {α : Type} {f : State → α → State} (h : ∀ s a, Traffic s (f s a)) (l : List α) (s : State) : Traffic s (l.foldl f s) := by
  induction l generalizing s with
  | nil => exact .refl s
  | cons a r ih => exact (h s a).trans (ih _)

/-- What traffic leaves alone. -/
theorem Traffic.fields {s t : State} (h : Traffic s t) :
    t.clock = s.clock ∧ t.psm = s.psm ∧ t.fuse = s.fuse ∧ t.harn = s.harn ∧ t.sec = s.sec ∧ t.fabric = s.fabric ∧ t.lock = s.lock ∧
      t.links = s.links ∧ t.acq = s.acq ∧ t.port = s.port ∧ t.irqStat = s.irqStat ∧ t.irqEn = s.irqEn ∧ t.time = s.time ∧ t.arch = s.arch ∧
      t.tally = s.tally ∧ t.portals = s.portals ∧ t.freeCtr = s.freeCtr ∧ t.pending = s.pending := by
  unfold Traffic at h
  rw [h]
  simp only [and_self]

/-- Of the kernel's state traffic leaves all but the two lists. -/
theorem Traffic.seq {s t : State} (h : Traffic s t) :
    t.seq = { s.seq with results := t.seq.results, summaries := t.seq.summaries } := congrArg State.seq h

theorem Traffic.modChan (s : State) (c : Channel) (f : NelzChannel → NelzChannel) : Traffic s (s.modChan c f) := rfl

theorem Traffic.modCan (s : State) (c : CanId) (f : CanState → CanState) : Traffic s (s.modCan c f) := rfl

theorem Traffic.nelzEvt (s : State) (n : Nat) : Traffic s (s.nelzEvt n) := rfl

theorem Traffic.answerCmd (s : State) (a : Answer) : Traffic s (s.answerCmd a) := rfl

theorem Traffic.enqueue (s : State) (ch : Channel) (c : CanId) (i : Fin 8) (d : List Byte) : Traffic s (s.enqueue ch c i d) := by
  unfold State.enqueue
  extract_lets
  split
  · exact .refl s
  · split <;> rfl

theorem Traffic.toMailbox (s : State) (m : Nat) (d : List Byte) : Traffic s (s.toMailbox m d) := by
  unfold State.toMailbox
  split <;> rfl

theorem Traffic.sendMsg (s : State) (ch : Channel) (i : Fin 8) (d : List Byte) : Traffic s (s.sendMsg ch i d) := by
  unfold State.sendMsg
  extract_lets
  split
  · exact .refl s
  · split
    · exact .enqueue ..
    · split
      · exact .toMailbox ..
      · exact .refl s

theorem Traffic.sendCans (s : State) (i : Fin 8) (d : List Byte) : Traffic s (s.sendCans i d) := .foldl (fun s ch => .sendMsg s ch i d) _ s

theorem Traffic.putHello (s : State) (ch : Channel) : Traffic s (s.putHello ch) := by
  unfold State.putHello
  extract_lets
  split
  · split
    · rfl
    · exact (Traffic.modChan ..).trans (.enqueue ..)
  · exact (Traffic.modChan ..).trans (.toMailbox ..)

theorem Traffic.helloNow (s : State) (ch : Channel) : Traffic s (s.helloNow ch) := by
  unfold State.helloNow
  extract_lets
  split
  · exact .refl s
  · split
    · rfl
    · exact .putHello ..

theorem Traffic.helloSoon (s : State) (ch : Channel) : Traffic s (s.helloSoon ch) := by
  unfold State.helloSoon
  split
  · exact .refl s
  · exact .helloNow ..

theorem Traffic.helloLate (s : State) (ch : Channel) : Traffic s (s.helloLate ch) := by
  unfold State.helloLate
  split
  · exact .helloNow ..
  · exact .refl s

theorem Traffic.setV (s : State) (ch : Channel) (v : Nat) : Traffic s (s.setV ch v) := by
  unfold State.setV
  extract_lets
  split
  · rfl
  · refine Traffic.trans ?_ (.helloSoon ..)
    cases ch <;> rfl

theorem Traffic.resettle (s : State) (ch : Channel) (first : Bool) : Traffic s (s.resettle ch first) := by
  unfold State.resettle
  extract_lets
  split
  · exact .setV ..
  · rfl

theorem Traffic.abortSlots (s : State) (ch : Channel) (w : Nat → Bool) : Traffic s (s.abortSlots ch w) := by
  unfold State.abortSlots
  split
  · exact .refl s
  · extract_lets
    exact (Traffic.modChan ..).trans (.modCan ..)

theorem Traffic.fdFallback (s : State) (ch : Channel) : Traffic s (s.fdFallback ch) := by
  unfold State.fdFallback
  split
  · exact .refl s
  · split
    · exact .refl s
    · extract_lets _ _ s1 s2 s3 _ s4
      have h : Traffic s s4 := ((show Traffic s s2 from rfl).trans (.abortSlots ..)).trans (.resettle ..)
      split
      · exact h.trans (.helloSoon ..)
      · exact h

theorem Traffic.sendFault (s : State) (a b c : Nat) : Traffic s (s.sendFault a b c) := .sendCans ..

theorem Traffic.portalNotices (s t u : State) (p : PortalId) : Traffic u (s.portalNotices t u p) := by
  unfold State.portalNotices
  extract_lets _ _ u1 u2
  have h1 : Traffic u u1 := by dsimp only [u1]; split <;> first | exact .sendFault .. | exact .refl _
  have h2 : Traffic u1 u2 := by dsimp only [u2]; split <;> first | exact .sendFault .. | exact .refl _
  split
  · exact (h1.trans h2).trans (.sendFault ..)
  · exact h1.trans h2

theorem Traffic.notices (s t : State) : Traffic t (s.notices t) := by
  unfold State.notices
  split
  · split
    · exact .refl t
    · exact .sendFault ..
  · extract_lets u
    refine Traffic.trans (t := u) ?_ (.foldl (fun u p => .portalNotices s t u p) _ u)
    dsimp only [u]; split <;> first | exact .sendFault .. | exact .refl _

theorem Traffic.respond (s : State) (a : Answer) : Traffic s (s.respond a) := by
  unfold State.respond
  exact .sendMsg ..

theorem Traffic.drainAnswers (s : State) : Traffic s s.drainAnswers := by
  unfold State.drainAnswers
  extract_lets
  split
  · exact .refl s
  · refine Traffic.trans ?_ (.foldl (fun s a => .respond s a) _ _)
    rfl

theorem Traffic.drainResults (s : State) : Traffic s s.drainResults := by
  unfold State.drainResults
  extract_lets
  split
  · exact .refl s
  · refine Traffic.trans ?_ (.foldl (fun s a => .answerCmd s _) _ _)
    rfl

theorem Traffic.sendSummary (s : State) (r : List Byte) : Traffic s (s.sendSummary r) := by
  unfold State.sendSummary
  split
  · exact .refl s
  · exact .foldl (fun s ch => .sendMsg ..) _ s

theorem Traffic.drainSummaries (s : State) : Traffic s s.drainSummaries := by
  unfold State.drainSummaries
  extract_lets
  split
  · exact .refl s
  · refine Traffic.trans ?_ (.foldl (fun s a => .sendSummary s a) _ _)
    rfl

theorem Traffic.safeAborts (s : State) : Traffic s s.safeAborts :=
  .foldl (fun s ch => by
    split
    · exact (Traffic.abortSlots ..).trans (.modChan ..)
    · exact .refl s) _ s

theorem Traffic.followUp (s : State) (ch : Channel) : Traffic s (s.followUp ch) := by
  unfold State.followUp
  split
  · extract_lets
    split
    · exact .refl s
    · split
      · exact (Traffic.modChan ..).trans (.sendMsg ..)
      · rfl
  · exact .refl s

theorem Traffic.pumpOne (s : State) (ch : Channel) (c : CanId) (m : OutMsg) : Traffic s (s.pumpOne ch c m) := by
  unfold State.pumpOne
  extract_lets
  split
  · exact .refl s
  · split <;> rfl

theorem Traffic.dropUnfit (s : State) (ch : Channel) (c : CanId) : Traffic s (s.dropUnfit ch c) := by
  unfold State.dropUnfit
  extract_lets
  split
  · rfl
  · exact (Traffic.modChan ..).trans (.modCan ..)

theorem Traffic.pump (s : State) (ch : Channel) : Traffic s (s.pump ch) := by
  unfold State.pump
  split
  · exact .refl s
  · extract_lets s1 w
    have h : Traffic s s1 := .dropUnfit ..
    split
    · exact h
    · exact (h.trans (.modChan ..)).trans (.foldl (fun s m => .pumpOne ..) _ _)

theorem Traffic.activeHello (s t : State) (c : CanId) : Traffic t (s.activeHello t c) := by
  unfold State.activeHello
  split
  · exact .helloSoon ..
  · exact .refl t

/-- The messages that a step makes due. -/
theorem Traffic.messages (s t : State) : Traffic t (s.messages t) := by
  unfold State.messages
  extract_lets t0 t1 t2 t3 t4 t5
  have h0 : Traffic t t0 := by
    dsimp only [t0]; split <;> first | exact .refl _ | exact .foldl (fun s ch => .resettle s ch false) _ _
  have h1 : Traffic t0 t1 := (Traffic.activeHello ..).trans (.activeHello ..)
  have h2 : Traffic t1 t2 := .foldl (fun s ch => .fdFallback s ch) _ _
  have h3 : Traffic t2 t3 := (Traffic.drainResults _).trans (.notices ..)
  have h4 : Traffic t3 t4 := by dsimp only [t4]; split <;> first | exact .safeAborts _ | exact .refl _
  have h5 : Traffic t4 t5 := (Traffic.drainSummaries _).trans (.drainAnswers _)
  have h6 : Traffic t5 (canChans.foldl State.followUp t5) := .foldl (fun s ch => .followUp s ch) _ _
  exact ((((((h0.trans h1).trans h2).trans h3).trans h4).trans h5).trans h6).trans (.foldl (fun s ch => .pump s ch) _ _)

end Sys2Proof.Machine
end

