-- ==== Sys2Proof/Laws/Bus.lean ====
section
/-! SUPPORT. What the messages of the Nelzil engine can change of the CAN controllers: message objects, the abort report, flags of CAN_EVT that
rise, and the count of FD frames broken in their control field. A controller's state, counters and every other register stay. -/

namespace Sys2Proof.Machine

/-- `b` differs from `a` at most in what the message engine changes of a controller. -/
def Bus (a b : CanState) : Prop :=
  b = { a with objects := b.objects, abort := b.abort, evt := b.evt, fdRun := b.fdRun } ∧ ∀ i, wbit a.evt i = true → wbit b.evt i = true

theorem Bus.refl (a : CanState) : Bus a a := ⟨rfl, fun _ h => h⟩

theorem Bus.trans {a b c : CanState} (h : Bus a b) (g : Bus b c) : Bus a c := by
  refine ⟨?_, fun i k => g.2 i (h.2 i k)⟩
  have h1 := h.1
  rw [g.1, h1]

theorem Bus.ofEq {a b : CanState} (h : a = b) : Bus a b := h ▸ Bus.refl a

theorem Bus.foldl {α : Type} {f : CanState → α → CanState} (h : ∀ s a, Bus s (f s a)) (l : List α) (s : CanState) : Bus s (l.foldl f s) := by
  induction l generalizing s with
  | nil => exact .refl s
  | cons a r ih => exact (h s a).trans (ih _)

theorem Bus.flagEvt (c : CanState) (n : Nat) : Bus c (c.flagEvt n) := by
  refine ⟨rfl, fun i h => ?_⟩
  show wbit (raise c.evt n) i = true
  by_cases e : i = n
  · by_cases l : n < 32
    · rw [e]; exact wbit_raise_self _ _ l
    · simpa [raise, wbit_putBit, e, l] using h
  · rw [wbit_raise_ne _ e]; exact h

theorem Bus.modObj (c : CanState) (n : Nat) (f : CanObject → CanObject) : Bus c (c.modObj n f) := by
  unfold CanState.modObj CanState.setObj
  split <;> exact ⟨rfl, fun _ h => h⟩

theorem Bus.request (c : CanState) (n ck : Nat) : Bus c (c.request n ck) := .modObj ..

theorem Bus.loadMsg (c : CanState) (n : Nat) (d : List Byte) (ck : Nat) : Bus c (c.loadMsg n d ck) := by
  unfold CanState.loadMsg
  exact (Bus.modObj ..).trans (.request ..)

theorem Bus.abortReq (c : CanState) (n w : Nat) : Bus c (c.abortReq n w) := by
  unfold CanState.abortReq
  extract_lets c1 c2
  have h : Bus c c2 := (Bus.modObj ..).trans ⟨rfl, fun _ h => h⟩
  split
  · exact (h.trans (.flagEvt ..)).trans (.flagEvt ..)
  · exact h.trans (.flagEvt ..)

/-- Both controllers keep all that the message engine does not change. -/
structure BusKept (s t : State) : Prop where
  can : ∀ c, Bus (s.can c) (t.can c)

theorem BusKept.refl (s : State) : BusKept s s := ⟨fun _ => .refl _⟩

theorem BusKept.trans {s t u : State} (h : BusKept s t) (g : BusKept t u) : BusKept s u := ⟨fun c => (h.can c).trans (g.can c)⟩

theorem BusKept.same {s t : State} (h : t.cans = s.cans) : BusKept s t := ⟨fun c => .ofEq (by unfold State.can; rw [h])⟩

theorem BusKept.foldl {α : Type} {f : State → α → State} (h : ∀ s a, BusKept s (f s a)) (l : List α) (s : State) : BusKept s (l.foldl f s) := by
  induction l generalizing s with
  | nil => exact .refl s
  | cons a r ih => exact (h s a).trans (ih _)

theorem BusKept.modCan (s : State) (c : CanId) (f : CanState → CanState) (h : Bus (s.can c) (f (s.can c))) : BusKept s (s.modCan c f) := by
  refine ⟨fun d => ?_⟩
  by_cases e : d = c
  · subst e
    simpa [State.can, State.modCan] using h
  · simpa [State.can, State.modCan, Two.can_setCan_ne _ e] using Bus.refl (s.can d)

theorem BusKept.modChan (s : State) (c : Channel) (f : NelzChannel → NelzChannel) : BusKept s (s.modChan c f) := .same rfl

theorem BusKept.nelzEvt (s : State) (n : Nat) : BusKept s (s.nelzEvt n) := .same rfl

theorem BusKept.answerCmd (s : State) (a : Answer) : BusKept s (s.answerCmd a) := .same rfl

theorem BusKept.enqueue (s : State) (ch : Channel) (c : CanId) (i : Fin 8) (d : List Byte) : BusKept s (s.enqueue ch c i d) := by
  unfold State.enqueue
  extract_lets
  split
  · exact .refl s
  · split
    · exact (BusKept.modChan s ch _).trans (.modCan _ c _ (.loadMsg ..))
    · exact .same rfl

theorem BusKept.toMailbox (s : State) (m : Nat) (d : List Byte) : BusKept s (s.toMailbox m d) := by
  unfold State.toMailbox
  split <;> exact .same rfl

theorem BusKept.sendMsg (s : State) (ch : Channel) (i : Fin 8) (d : List Byte) : BusKept s (s.sendMsg ch i d) := by
  unfold State.sendMsg
  extract_lets
  split
  · exact .refl s
  · split
    · exact .enqueue ..
    · split
      · exact .toMailbox ..
      · exact .refl s

theorem BusKept.sendCans (s : State) (i : Fin 8) (d : List Byte) : BusKept s (s.sendCans i d) := .foldl (fun s ch => .sendMsg s ch i d) _ s

theorem BusKept.putHello (s : State) (ch : Channel) : BusKept s (s.putHello ch) := by
  unfold State.putHello
  extract_lets
  split
  · split
    · exact .same rfl
    · exact (BusKept.modChan ..).trans (.enqueue ..)
  · exact (BusKept.modChan ..).trans (.toMailbox ..)

theorem BusKept.helloNow (s : State) (ch : Channel) : BusKept s (s.helloNow ch) := by
  unfold State.helloNow
  extract_lets
  split
  · exact .refl s
  · split
    · exact .same rfl
    · exact .putHello ..

theorem BusKept.helloSoon (s : State) (ch : Channel) : BusKept s (s.helloSoon ch) := by
  unfold State.helloSoon
  split
  · exact .refl s
  · exact .helloNow ..

theorem BusKept.helloLate (s : State) (ch : Channel) : BusKept s (s.helloLate ch) := by
  unfold State.helloLate
  split
  · exact .helloNow ..
  · exact .refl s

theorem BusKept.setV (s : State) (ch : Channel) (v : Nat) : BusKept s (s.setV ch v) := by
  unfold State.setV
  extract_lets
  split
  · exact .same rfl
  · refine BusKept.trans ?_ (.helloSoon ..)
    cases ch <;> exact .same rfl

theorem BusKept.resettle (s : State) (ch : Channel) (first : Bool) : BusKept s (s.resettle ch first) := by
  unfold State.resettle
  extract_lets
  split
  · exact .setV ..
  · exact .same rfl

theorem BusKept.abortSlots (s : State) (ch : Channel) (w : Nat → Bool) : BusKept s (s.abortSlots ch w) := by
  unfold State.abortSlots
  split
  · exact .refl s
  · extract_lets
    exact (BusKept.modChan ..).trans (.modCan _ _ _ (.foldl (fun x i => by
      split
      · exact .abortReq ..
      · exact .refl x) _ _))

theorem BusKept.fdFallback (s : State) (ch : Channel) : BusKept s (s.fdFallback ch) := by
  unfold State.fdFallback
  split
  · exact .refl s
  · split
    · exact .refl s
    · extract_lets _ _ s1 s2 s3 _ s4
      have h1 : BusKept s s1 := .modCan s _ _ ⟨rfl, fun _ h => h⟩
      have h2 : BusKept s1 s2 := .same rfl
      have h : BusKept s s4 := ((h1.trans h2).trans (.abortSlots ..)).trans (.resettle ..)
      split
      · exact h.trans (.helloSoon ..)
      · exact h

theorem BusKept.sendFault (s : State) (a b c : Nat) : BusKept s (s.sendFault a b c) := .sendCans ..

theorem BusKept.portalNotices (s t u : State) (p : PortalId) : BusKept u (s.portalNotices t u p) := by
  unfold State.portalNotices
  extract_lets _ _ u1 u2
  have h1 : BusKept u u1 := by dsimp only [u1]; split <;> first | exact .sendFault .. | exact .refl _
  have h2 : BusKept u1 u2 := by dsimp only [u2]; split <;> first | exact .sendFault .. | exact .refl _
  split
  · exact (h1.trans h2).trans (.sendFault ..)
  · exact h1.trans h2

theorem BusKept.notices (s t : State) : BusKept t (s.notices t) := by
  unfold State.notices
  split
  · split
    · exact .refl t
    · exact .sendFault ..
  · extract_lets u
    refine BusKept.trans (t := u) ?_ (.foldl (fun u p => .portalNotices s t u p) _ u)
    dsimp only [u]; split <;> first | exact .sendFault .. | exact .refl _

theorem BusKept.respond (s : State) (a : Answer) : BusKept s (s.respond a) := by
  unfold State.respond
  exact .sendMsg ..

theorem BusKept.drainAnswers (s : State) : BusKept s s.drainAnswers := by
  unfold State.drainAnswers
  extract_lets
  split
  · exact .refl s
  · refine BusKept.trans ?_ (.foldl (fun s a => .respond s a) _ _)
    exact .same rfl

theorem BusKept.drainResults (s : State) : BusKept s s.drainResults := by
  unfold State.drainResults
  extract_lets
  split
  · exact .refl s
  · refine BusKept.trans ?_ (.foldl (fun s a => .answerCmd s _) _ _)
    exact .same rfl

theorem BusKept.sendSummary (s : State) (r : List Byte) : BusKept s (s.sendSummary r) := by
  unfold State.sendSummary
  split
  · exact .refl s
  · exact .foldl (fun s ch => .sendMsg ..) _ s

theorem BusKept.drainSummaries (s : State) : BusKept s s.drainSummaries := by
  unfold State.drainSummaries
  extract_lets
  split
  · exact .refl s
  · refine BusKept.trans ?_ (.foldl (fun s a => .sendSummary s a) _ _)
    exact .same rfl

theorem BusKept.safeAborts (s : State) : BusKept s s.safeAborts :=
  .foldl (fun s ch => by
    split
    · exact (BusKept.abortSlots ..).trans (.modChan ..)
    · exact .refl s) _ s

theorem BusKept.followUp (s : State) (ch : Channel) : BusKept s (s.followUp ch) := by
  unfold State.followUp
  split
  · extract_lets
    split
    · exact .refl s
    · split
      · exact (BusKept.modChan ..).trans (.sendMsg ..)
      · exact .same rfl
  · exact .refl s

theorem BusKept.pumpOne (s : State) (ch : Channel) (c : CanId) (m : OutMsg) : BusKept s (s.pumpOne ch c m) := by
  unfold State.pumpOne
  extract_lets
  split
  · exact .refl s
  · split
    · exact .modCan _ _ _ (.loadMsg ..)
    · exact .same rfl

theorem BusKept.dropUnfit (s : State) (ch : Channel) (c : CanId) : BusKept s (s.dropUnfit ch c) := by
  unfold State.dropUnfit
  extract_lets stop s1
  have h : BusKept s s1 := .modChan ..
  split
  · exact h
  · exact h.trans (.modCan _ _ _ (Bus.foldl (fun x i => .abortReq ..) _ _))

theorem BusKept.pump (s : State) (ch : Channel) : BusKept s (s.pump ch) := by
  unfold State.pump
  split
  · exact .refl s
  · extract_lets s1 w
    have h : BusKept s s1 := .dropUnfit ..
    split
    · exact h
    · exact (h.trans (.modChan ..)).trans (.foldl (fun s m => .pumpOne ..) _ _)

theorem BusKept.activeHello (s t : State) (c : CanId) : BusKept t (s.activeHello t c) := by
  unfold State.activeHello
  split
  · exact .helloSoon ..
  · exact .refl t

/-- The messages that a step makes due. -/
theorem BusKept.messages (s t : State) : BusKept t (s.messages t) := by
  unfold State.messages
  extract_lets t0 t1 t2 t3 t4 t5
  have h0 : BusKept t t0 := by
    dsimp only [t0]; split <;> first | exact .refl _ | exact .foldl (fun s ch => .resettle s ch false) _ _
  have h1 : BusKept t0 t1 := (BusKept.activeHello ..).trans (.activeHello ..)
  have h2 : BusKept t1 t2 := .foldl (fun s ch => .fdFallback s ch) _ _
  have h3 : BusKept t2 t3 := (BusKept.drainResults _).trans (.notices ..)
  have h4 : BusKept t3 t4 := by dsimp only [t4]; split <;> first | exact .safeAborts _ | exact .refl _
  have h5 : BusKept t4 t5 := (BusKept.drainSummaries _).trans (.drainAnswers _)
  have h6 : BusKept t5 (canChans.foldl State.followUp t5) := .foldl (fun s ch => .followUp s ch) _ _
  exact ((((((h0.trans h1).trans h2).trans h3).trans h4).trans h5).trans h6).trans (.foldl (fun s ch => .pump s ch) _ _)

end Sys2Proof.Machine
end

