-- ==== Sys2Proof/Laws/Commit.lean ====
section
/-! SUPPORT. What follows a command at the host die (`State.commit`): messages, the state of HRDY and the interrupts. Stated for a command that
leaves no access of the host port waiting for a portal die, first where the device state stays as it is, then where it changes, when the tally
island may settle an image check that waited for the end of BOOT (R468) and a step of device time may be made (R413). -/

namespace Sys2Proof.Machine

/-- HRDY after every command is what R405 says. -/
theorem commit_hrdy (s t : State) : (s.commit t).port.hrdy = (s.commit t).ready := by
  unfold State.commit
  extract_lets _ _ u
  clear_value u
  rfl

/-- The host port's other fields, and what HRDY looks at, do not depend on HRDY. -/
theorem ready_hrdy (s : State) (b : Bool) : ({ s with port := { s.port with hrdy := b } } : State).ready = s.ready := rfl

/-! ### What a change of the device state brings -/

/-- `t` differs from `s` at most in the tally island, the flash, the count of free values, and what a step of device time changes. -/
def Leaving (s t : State) : Prop :=
  t = { s with tally := t.tally, freeCtr := t.freeCtr, harn := { s.harn with flash := t.harn.flash }, time := t.time,
               nelz := { s.nelz with evt := t.nelz.evt } }

theorem Leaving.refl (s : State) : Leaving s s := rfl

theorem Leaving.trans {s t u : State} (h : Leaving s t) (g : Leaving t u) : Leaving s u := by
  unfold Leaving at *
  rw [g, h]

theorem Leaving.foldl {α : Type} {f : State → α → State} (h : ∀ s a, Leaving s (f s a)) (l : List α) (s : State) :
    Leaving s (l.foldl f s) := by
  induction l generalizing s with
  | nil => rfl
  | cons a r ih => exact (h s a).trans (ih _)

theorem Leaving.audit (s : State) (e k : Nat) (key : Option (BitVec 256)) (pub : BitVec 512) : Leaving s (s.audit e k key pub) := by
  unfold Leaving State.audit
  extract_lets _ _ h1 h2 b
  clear_value b
  rfl

theorem Leaving.modTally (s : State) (f : TallyState → TallyState) : Leaving s (s.modTally f) := rfl

theorem Leaving.flash (s : State) (m : List Host.Cell) : Leaving s { s with harn := { s.harn with flash := m } } := rfl

theorem Leaving.putSeal (s : State) (b : SealBlock) : Leaving s (s.putSeal b) := .flash ..

theorem Leaving.fillAudit (s : State) : Leaving s s.fillAudit := by
  unfold State.fillAudit
  exact .foldl (fun s e => .audit ..) _ s

theorem Leaving.meetSeal (s : State) : Leaving s s.meetSeal := by
  unfold State.meetSeal
  dsimp only
  split
  · exact .modTally ..
  · split
    · exact .modTally ..
    · split
      · exact .modTally ..
      · split
        · exact .modTally ..
        · exact (((Leaving.modTally ..).trans (.audit ..)).trans (.putSeal ..)).trans (.modTally ..)

theorem Leaving.tallySettle (s : State) : Leaving s s.tallySettle := by
  unfold State.tallySettle
  dsimp only
  split
  · exact ((Leaving.fillAudit ..).trans (.modTally ..)).trans (.meetSeal ..)
  · exact (Leaving.fillAudit ..).trans (.modTally ..)

theorem Leaving.tallyWaiting (s : State) : Leaving s s.tallyWaiting := by
  unfold State.tallyWaiting
  split
  · exact .tallySettle s
  · rfl

theorem Leaving.stepWaiting (s : State) : Leaving s s.stepWaiting := by
  unfold State.stepWaiting
  split <;> rfl

theorem Leaving.stateLeft (s : State) : Leaving s s.stateLeft := by
  unfold State.stateLeft
  split
  · exact .tallyWaiting s
  · exact (Leaving.tallyWaiting s).trans (.stepWaiting _)

/-- What a change of the device state leaves alone. -/
theorem stateLeft_eq (s : State) :
    s.stateLeft =
      { s with tally := s.stateLeft.tally, freeCtr := s.stateLeft.freeCtr, harn := { s.harn with flash := s.stateLeft.harn.flash },
               time := s.stateLeft.time, nelz := { s.nelz with evt := s.stateLeft.nelz.evt } } := Leaving.stateLeft s

theorem stateLeft_harn (s : State) : s.stateLeft.harn = { s.harn with flash := s.stateLeft.harn.flash } := (congrArg State.harn (stateLeft_eq s) :)

theorem stateLeft_nelz (s : State) : s.stateLeft.nelz = { s.nelz with evt := s.stateLeft.nelz.evt } := (congrArg State.nelz (stateLeft_eq s) :)

theorem putSeal_time (s : State) (b : SealBlock) : (s.putSeal b).time = s.time := by
  unfold State.putSeal
  extract_lets g at_
  generalize memPut _ _ _ _ = m
  rfl

theorem audit_time (s : State) (e k : Nat) (key : Option (BitVec 256)) (pub : BitVec 512) : (s.audit e k key pub).time = s.time := by
  unfold State.audit
  extract_lets _ _ h1 h2 b
  generalize memPut _ _ _ _ = m
  rfl

theorem modTally_time (s : State) (f : TallyState → TallyState) : (s.modTally f).time = s.time := rfl

/-- The tally island has no hand in device time. -/
theorem tallyWaiting_time (s : State) : s.tallyWaiting.time = s.time := by
  have audits : ∀ (l : List Nat) (s : State) key pub, (l.foldl (fun s e => s.audit e 3 key pub) s).time = s.time := by
    intro l
    induction l with
    | nil => intros; rfl
    | cons e r ih => intro s key pub; exact (ih _ key pub).trans (audit_time ..)
  have fill : ∀ s : State, s.fillAudit.time = s.time := fun s => audits ..
  have meet : ∀ s : State, s.meetSeal.time = s.time := by
    intro s
    unfold State.meetSeal
    dsimp only
    repeat' split
    all_goals first | rw [modTally_time, putSeal_time, audit_time, modTally_time] | exact modTally_time ..
  unfold State.tallyWaiting
  split
  · unfold State.tallySettle
    dsimp only
    split
    · exact (meet _).trans (fill s)
    · exact fill s
  · rfl

/-- Without a step that waits, device time goes on as it was. -/
theorem stateLeft_time (s : State) (h : s.time.stepPend = none) : s.stateLeft.time = s.time := by
  unfold State.stateLeft
  split
  · exact tallyWaiting_time s
  · unfold State.stepWaiting
    rw [tallyWaiting_time, h]
    exact tallyWaiting_time s

theorem stateLeft_clock (s : State) : s.stateLeft.clock = s.clock := (congrArg State.clock (stateLeft_eq s) :)

theorem stateLeft_psm (s : State) : s.stateLeft.psm = s.psm := (congrArg State.psm (stateLeft_eq s) :)

theorem stateLeft_fuse (s : State) : s.stateLeft.fuse = s.fuse := (congrArg State.fuse (stateLeft_eq s) :)

theorem stateLeft_sec (s : State) : s.stateLeft.sec = s.sec := (congrArg State.sec (stateLeft_eq s) :)

theorem stateLeft_fabric (s : State) : s.stateLeft.fabric = s.fabric := (congrArg State.fabric (stateLeft_eq s) :)

theorem stateLeft_seq (s : State) : s.stateLeft.seq = s.seq := (congrArg State.seq (stateLeft_eq s) :)

theorem stateLeft_lock (s : State) : s.stateLeft.lock = s.lock := (congrArg State.lock (stateLeft_eq s) :)

theorem stateLeft_links (s : State) : s.stateLeft.links = s.links := (congrArg State.links (stateLeft_eq s) :)

theorem stateLeft_acq (s : State) : s.stateLeft.acq = s.acq := (congrArg State.acq (stateLeft_eq s) :)

theorem stateLeft_cans (s : State) : s.stateLeft.cans = s.cans := (congrArg State.cans (stateLeft_eq s) :)

theorem stateLeft_port (s : State) : s.stateLeft.port = s.port := (congrArg State.port (stateLeft_eq s) :)

theorem stateLeft_irqStat (s : State) : s.stateLeft.irqStat = s.irqStat := (congrArg State.irqStat (stateLeft_eq s) :)

theorem stateLeft_irqEn (s : State) : s.stateLeft.irqEn = s.irqEn := (congrArg State.irqEn (stateLeft_eq s) :)

theorem stateLeft_arch (s : State) : s.stateLeft.arch = s.arch := (congrArg State.arch (stateLeft_eq s) :)

theorem stateLeft_portals (s : State) : s.stateLeft.portals = s.portals := (congrArg State.portals (stateLeft_eq s) :)

theorem stateLeft_pending (s : State) : s.stateLeft.pending = s.pending := (congrArg State.pending (stateLeft_eq s) :)

/-! ### The state after a command -/

/-- With no access of the host port waiting, what follows a command is traffic, after what a change of the device state brings. -/
theorem commit_eq (s t : State) (hp : t.port.pending = none) :
    ∃ u, Traffic (if t.psm.state = s.psm.state then t else t.stateLeft) u ∧
      s.commit t = s.interrupts { u with port := { u.port with hrdy := u.ready } } := by
  unfold State.commit
  extract_lets u1 u2 u3
  have h2 : Traffic u1 u2 := by
    dsimp only [u2]; split
    · exact .refl _
    · exact .messages ..
  have hq : u1.port = t.port := by
    dsimp only [u1]; split
    · rfl
    · exact stateLeft_port t
  have hpu : u2.port.pending = none := by rw [h2.fields.2.2.2.2.2.2.2.2.2.1, hq, hp]
  have h3 : u3 = u2 := by
    dsimp only [u3]; split
    · rfl
    · simp [State.spiLinkLost, hpu]
  refine ⟨u2, h2, ?_⟩
  rw [show s.interrupts { u3 with port := { u3.port with hrdy := u3.ready } } = s.interrupts { u2 with port := { u2.port with hrdy := u2.ready } } from
    congrArg (fun x : State => s.interrupts { x with port := { x.port with hrdy := x.ready } }) h3]

/-- Where the device state stays as it is, what follows a command is traffic alone. -/
theorem commit_calm (s t : State) (hs : t.psm.state = s.psm.state) (hp : t.port.pending = none) :
    ∃ u, Traffic t u ∧ s.commit t = s.interrupts { u with port := { u.port with hrdy := u.ready } } := by
  obtain ⟨u, h, e⟩ := commit_eq s t hp
  rw [if_pos hs] at h
  exact ⟨u, h, e⟩

theorem commit_clock (s t : State) (hs : t.psm.state = s.psm.state) (hp : t.port.pending = none) : (s.commit t).clock = t.clock := by
  obtain ⟨u, h, e⟩ := commit_calm s t hs hp
  rw [e]
  exact h.fields.1

theorem commit_psm (s t : State) (hs : t.psm.state = s.psm.state) (hp : t.port.pending = none) : (s.commit t).psm = t.psm := by
  obtain ⟨u, h, e⟩ := commit_calm s t hs hp
  rw [e]
  exact h.fields.2.1

theorem commit_fuse (s t : State) (hs : t.psm.state = s.psm.state) (hp : t.port.pending = none) : (s.commit t).fuse = t.fuse := by
  obtain ⟨u, h, e⟩ := commit_calm s t hs hp
  rw [e]
  exact h.fields.2.2.1

theorem commit_harn (s t : State) (hs : t.psm.state = s.psm.state) (hp : t.port.pending = none) : (s.commit t).harn = t.harn := by
  obtain ⟨u, h, e⟩ := commit_calm s t hs hp
  rw [e]
  exact h.fields.2.2.2.1

theorem commit_sec (s t : State) (hs : t.psm.state = s.psm.state) (hp : t.port.pending = none) : (s.commit t).sec = t.sec := by
  obtain ⟨u, h, e⟩ := commit_calm s t hs hp
  rw [e]
  exact h.fields.2.2.2.2.1

theorem commit_fabric (s t : State) (hs : t.psm.state = s.psm.state) (hp : t.port.pending = none) : (s.commit t).fabric = t.fabric := by
  obtain ⟨u, h, e⟩ := commit_calm s t hs hp
  rw [e]
  exact h.fields.2.2.2.2.2.1

theorem commit_lock (s t : State) (hs : t.psm.state = s.psm.state) (hp : t.port.pending = none) : (s.commit t).lock = t.lock := by
  obtain ⟨u, h, e⟩ := commit_calm s t hs hp
  rw [e]
  exact h.fields.2.2.2.2.2.2.1

theorem commit_links (s t : State) (hs : t.psm.state = s.psm.state) (hp : t.port.pending = none) : (s.commit t).links = t.links := by
  obtain ⟨u, h, e⟩ := commit_calm s t hs hp
  rw [e]
  exact h.fields.2.2.2.2.2.2.2.1

theorem commit_acq (s t : State) (hs : t.psm.state = s.psm.state) (hp : t.port.pending = none) : (s.commit t).acq = t.acq := by
  obtain ⟨u, h, e⟩ := commit_calm s t hs hp
  rw [e]
  exact h.fields.2.2.2.2.2.2.2.2.1

theorem commit_irqEn (s t : State) (hs : t.psm.state = s.psm.state) (hp : t.port.pending = none) : (s.commit t).irqEn = t.irqEn := by
  obtain ⟨u, h, e⟩ := commit_calm s t hs hp
  rw [e]
  exact h.fields.2.2.2.2.2.2.2.2.2.2.2.1

theorem commit_time (s t : State) (hs : t.psm.state = s.psm.state) (hp : t.port.pending = none) : (s.commit t).time = t.time := by
  obtain ⟨u, h, e⟩ := commit_calm s t hs hp
  rw [e]
  exact h.fields.2.2.2.2.2.2.2.2.2.2.2.2.1

theorem commit_arch (s t : State) (hs : t.psm.state = s.psm.state) (hp : t.port.pending = none) : (s.commit t).arch = t.arch := by
  obtain ⟨u, h, e⟩ := commit_calm s t hs hp
  rw [e]
  exact h.fields.2.2.2.2.2.2.2.2.2.2.2.2.2.1

theorem commit_tally (s t : State) (hs : t.psm.state = s.psm.state) (hp : t.port.pending = none) : (s.commit t).tally = t.tally := by
  obtain ⟨u, h, e⟩ := commit_calm s t hs hp
  rw [e]
  exact h.fields.2.2.2.2.2.2.2.2.2.2.2.2.2.2.1

theorem commit_portals (s t : State) (hs : t.psm.state = s.psm.state) (hp : t.port.pending = none) : (s.commit t).portals = t.portals := by
  obtain ⟨u, h, e⟩ := commit_calm s t hs hp
  rw [e]
  exact h.fields.2.2.2.2.2.2.2.2.2.2.2.2.2.2.2.1

theorem commit_freeCtr (s t : State) (hs : t.psm.state = s.psm.state) (hp : t.port.pending = none) : (s.commit t).freeCtr = t.freeCtr := by
  obtain ⟨u, h, e⟩ := commit_calm s t hs hp
  rw [e]
  exact h.fields.2.2.2.2.2.2.2.2.2.2.2.2.2.2.2.2.1

theorem commit_pending (s t : State) (hs : t.psm.state = s.psm.state) (hp : t.port.pending = none) : (s.commit t).pending = t.pending := by
  obtain ⟨u, h, e⟩ := commit_calm s t hs hp
  rw [e]
  exact h.fields.2.2.2.2.2.2.2.2.2.2.2.2.2.2.2.2.2

/-- The kernel's record of a portal. -/
theorem commit_sp (s t : State) (hs : t.psm.state = s.psm.state) (hp : t.port.pending = none) (p : PortalId) : (s.commit t).sp p = t.sp p := by
  obtain ⟨u, h, e⟩ := commit_calm s t hs hp
  rw [e]
  have := congrArg (fun q : SeqState => q.portals.get p) h.seq
  exact this

/-- The kernel's state but for its lists of results and summaries. -/
theorem commit_seq (s t : State) (hs : t.psm.state = s.psm.state) (hp : t.port.pending = none) :
    (s.commit t).seq = { t.seq with results := (s.commit t).seq.results, summaries := (s.commit t).seq.summaries } := by
  obtain ⟨u, h, e⟩ := commit_calm s t hs hp
  rw [e]
  exact h.seq

/-- The host port but for HRDY. -/
theorem commit_port (s t : State) (hp : t.port.pending = none) : (s.commit t).port = { t.port with hrdy := (s.commit t).port.hrdy } := by
  obtain ⟨u, h, e⟩ := commit_eq s t hp
  rw [e]
  have h1 : u.port = t.port := by
    rw [h.fields.2.2.2.2.2.2.2.2.2.1]
    split
    · rfl
    · exact stateLeft_port t
  show { u.port with hrdy := u.ready } = { t.port with hrdy := u.ready }
  rw [h1]

/-- No flag of IRQ_STAT falls by what follows a command. -/
theorem commit_irq (s t : State) (hp : t.port.pending = none) : ∃ w, (s.commit t).irqStat = t.irqStat ||| w := by
  obtain ⟨u, h, e⟩ := commit_eq s t hp
  refine ⟨irqRises s { u with port := { u.port with hrdy := u.ready } }, ?_⟩
  rw [e]
  show u.irqStat ||| _ = _
  rw [h.fields.2.2.2.2.2.2.2.2.2.2.1]
  split
  · rfl
  · rw [show t.stateLeft.irqStat = t.irqStat from stateLeft_irqStat t]

/-! ### Where the device state changes -/

theorem commit_clock' (s t : State) (hp : t.port.pending = none) : (s.commit t).clock = t.clock := by
  obtain ⟨u, h, e⟩ := commit_eq s t hp
  rw [e]
  refine h.fields.1.trans ?_
  split
  · rfl
  · exact stateLeft_clock t

theorem commit_psm' (s t : State) (hp : t.port.pending = none) : (s.commit t).psm = t.psm := by
  obtain ⟨u, h, e⟩ := commit_eq s t hp
  rw [e]
  refine h.fields.2.1.trans ?_
  split
  · rfl
  · exact stateLeft_psm t

theorem commit_fuse' (s t : State) (hp : t.port.pending = none) : (s.commit t).fuse = t.fuse := by
  obtain ⟨u, h, e⟩ := commit_eq s t hp
  rw [e]
  refine h.fields.2.2.1.trans ?_
  split
  · rfl
  · exact stateLeft_fuse t

theorem commit_sec' (s t : State) (hp : t.port.pending = none) : (s.commit t).sec = t.sec := by
  obtain ⟨u, h, e⟩ := commit_eq s t hp
  rw [e]
  refine h.fields.2.2.2.2.1.trans ?_
  split
  · rfl
  · exact stateLeft_sec t

theorem commit_fabric' (s t : State) (hp : t.port.pending = none) : (s.commit t).fabric = t.fabric := by
  obtain ⟨u, h, e⟩ := commit_eq s t hp
  rw [e]
  refine h.fields.2.2.2.2.2.1.trans ?_
  split
  · rfl
  · exact stateLeft_fabric t

theorem commit_lock' (s t : State) (hp : t.port.pending = none) : (s.commit t).lock = t.lock := by
  obtain ⟨u, h, e⟩ := commit_eq s t hp
  rw [e]
  refine h.fields.2.2.2.2.2.2.1.trans ?_
  split
  · rfl
  · exact stateLeft_lock t

theorem commit_links' (s t : State) (hp : t.port.pending = none) : (s.commit t).links = t.links := by
  obtain ⟨u, h, e⟩ := commit_eq s t hp
  rw [e]
  refine h.fields.2.2.2.2.2.2.2.1.trans ?_
  split
  · rfl
  · exact stateLeft_links t

theorem commit_acq' (s t : State) (hp : t.port.pending = none) : (s.commit t).acq = t.acq := by
  obtain ⟨u, h, e⟩ := commit_eq s t hp
  rw [e]
  refine h.fields.2.2.2.2.2.2.2.2.1.trans ?_
  split
  · rfl
  · exact stateLeft_acq t

theorem commit_irqEn' (s t : State) (hp : t.port.pending = none) : (s.commit t).irqEn = t.irqEn := by
  obtain ⟨u, h, e⟩ := commit_eq s t hp
  rw [e]
  refine h.fields.2.2.2.2.2.2.2.2.2.2.2.1.trans ?_
  split
  · rfl
  · exact stateLeft_irqEn t

theorem commit_time' (s t : State) (hp : t.port.pending = none) (hw : t.time.stepPend = none) : (s.commit t).time = t.time := by
  obtain ⟨u, h, e⟩ := commit_eq s t hp
  rw [e]
  refine h.fields.2.2.2.2.2.2.2.2.2.2.2.2.1.trans ?_
  split
  · rfl
  · exact stateLeft_time t hw

theorem commit_arch' (s t : State) (hp : t.port.pending = none) : (s.commit t).arch = t.arch := by
  obtain ⟨u, h, e⟩ := commit_eq s t hp
  rw [e]
  refine h.fields.2.2.2.2.2.2.2.2.2.2.2.2.2.1.trans ?_
  split
  · rfl
  · exact stateLeft_arch t

theorem commit_portals' (s t : State) (hp : t.port.pending = none) : (s.commit t).portals = t.portals := by
  obtain ⟨u, h, e⟩ := commit_eq s t hp
  rw [e]
  refine h.fields.2.2.2.2.2.2.2.2.2.2.2.2.2.2.2.1.trans ?_
  split
  · rfl
  · exact stateLeft_portals t

theorem commit_pending' (s t : State) (hp : t.port.pending = none) : (s.commit t).pending = t.pending := by
  obtain ⟨u, h, e⟩ := commit_eq s t hp
  rw [e]
  refine h.fields.2.2.2.2.2.2.2.2.2.2.2.2.2.2.2.2.2.trans ?_
  split
  · rfl
  · exact stateLeft_pending t

/-- The HARN block but for the flash. -/
theorem commit_harn' (s t : State) (hp : t.port.pending = none) : (s.commit t).harn = { t.harn with flash := (s.commit t).harn.flash } := by
  obtain ⟨u, h, e⟩ := commit_eq s t hp
  rw [e]
  show u.harn = { t.harn with flash := u.harn.flash }
  rw [h.fields.2.2.2.1]
  split
  · rfl
  · exact stateLeft_harn t

/-! ### Commands of one portal die -/

/-- A command of one portal die, whose logic is not held in POR. -/
theorem onPortal_run {s : State} {p : PortalId} (h : (s.portals.get p).por = false) (f : PortalState → PortalState) :
    s.onPortal p f = s.setPortal p (PortalState.reported (s.portals.get p) ((f (s.portals.get p)).followUp s.clock p) s.clock) := by
  unfold State.onPortal
  simp [h]

/-- Nothing happens on a portal die whose logic is held in POR. -/
theorem onPortal_por {s : State} {p : PortalId} (h : (s.portals.get p).por = true) (f : PortalState → PortalState) : s.onPortal p f = s := by
  unfold State.onPortal
  simp [h]

/-- A command of one portal die changes that die alone. -/
theorem onPortal_frame (s : State) (p : PortalId) (f : PortalState → PortalState) :
    s.onPortal p f = { s with portals := (s.onPortal p f).portals } ∧ ∀ q, q ≠ p → (s.onPortal p f).portals.get q = s.portals.get q := by
  unfold State.onPortal
  extract_lets Q
  split
  · exact ⟨rfl, fun q _ => rfl⟩
  · exact ⟨rfl, fun q hq => Four.get_set_ne _ hq _⟩

/-- The report of a STATE frame changes nothing but the portal's side of the link. -/
theorem reported_eq (Q P : PortalState) (ck : Nat) : PortalState.reported Q P ck = { P with link := (PortalState.reported Q P ck).link } := by
  unfold PortalState.reported
  split <;> rfl

/-- Of the link the report changes only what is sent, and the flags that go with it. -/
theorem reported_link (Q P : PortalState) (ck : Nat) :
    (PortalState.reported Q P ck).link =
      { P.link with fin := (PortalState.reported Q P ck).link.fin, glEvt := (PortalState.reported Q P ck).link.glEvt } := by
  unfold PortalState.reported
  split <;> rfl

/-- Nothing follows a command on a portal die without a latched trip, an outcome that waits, or a local reset that counts. -/
theorem followUp_calm (P : PortalState) (ck : Nat) (p : PortalId) (h : ∀ a, (P.axes.get a).trip = false) (hw : P.link.outcomeWaits = false)
    (hl : P.ob.lclrCount = false) : P.followUp ck p = P := by
  have e : P.tripFault ck = P := by unfold PortalState.tripFault; simp [h]
  unfold PortalState.followUp PortalState.afterOwnMotion PortalState.lclrWatch
  simp [e, hw, hl]

/-- Without a latched trip or safety-output fault there is no FAULT to enter (R170). -/
theorem tripFault_calm (P : PortalState) (ck : Nat) (h : ∀ a, (P.axes.get a).trip = false) : P.tripFault ck = P := by
  unfold PortalState.tripFault
  simp [h]

end Sys2Proof.Machine
end

