-- ==== Sys2Proof/Laws/Quiet.lean ====
section
/-! SUPPORT. What follows a command on whose change no message can depend: HRDY and the interrupts alone; and what the CAN controllers keep of a
command's own effect. -/

namespace Sys2Proof.Machine

/-! ### No flag rises where nothing changes -/

@[simp] theorem rose_self (a m : Word) : rose a a m = false := by simp [rose]

@[simp] theorem roseB_self (a : Bool) : roseB a a = false := by simp [roseB]

@[simp] theorem psmRose_self (a : PsmState) : psmRose a a = false := by simp [psmRose]

@[simp] theorem harnRose_self (a : HarnState) : harnRose a a = false := by simp [harnRose]

@[simp] theorem seqRose_self (a : SeqState) : seqRose a a = false := by simp [seqRose]

@[simp] theorem linkRose_self (a : HostLink) : linkRose a a = false := by simp [linkRose]

@[simp] theorem canRose_self (a : CanState) : canRose a a = false := by simp [canRose]

@[simp] theorem acqRose_self (a : AcqState) : acqRose a a = false := by simp [acqRose]

@[simp] theorem lockRose_self (a : LockState) : lockRose a a = false := by simp [lockRose]

@[simp] theorem secRose_self (a : SecState) : secRose a a = false := by simp [secRose]

@[simp] theorem archRose_self (a : ArchState) : archRose a a = false := by simp [archRose]

@[simp] theorem nelzRose_self (a : NelzState) : nelzRose a a = false := by simp [nelzRose]

@[simp] theorem bitIf_false (i : Nat) : bitIf i false = 0 := rfl

/-! ### Commands on which no message can depend -/

/-- Where a command changes nothing that a message could depend on, HRDY and the interrupts alone follow it. -/
theorem commit_still (s t : State) (h : s.sameTraffic t = true) :
    s.commit t = s.interrupts { t with port := { t.port with hrdy := t.ready } } := by
  simp only [State.sameTraffic, Bool.and_eq_true, decide_eq_true_eq] at h
  obtain ⟨⟨⟨⟨⟨⟨h1, h2⟩, h3⟩, h4⟩, h5⟩, h6⟩, h7⟩ := h
  unfold State.commit
  extract_lets u1 u2 u3
  have e1 : u1 = t := if_pos (by rw [h4])
  have e2 : u2 = t := by
    dsimp only [u2]
    rw [e1]
    exact if_pos (by simp [State.sameTraffic, *])
  have e3 : u3 = t := by
    dsimp only [u3]
    rw [e2]
    exact if_pos h6
  exact congrArg (fun x : State => s.interrupts { x with port := { x.port with hrdy := x.ready } }) e3

/-- A command that changes the acquisition store alone. -/
theorem commit_acqOnly (s : State) (a : AcqState) :
    s.commit { s with acq := a } =
      { s with acq := a, irqStat := s.irqStat ||| bitIf 10 (acqRose s.acq a), port := { s.port with hrdy := s.ready } } := by
  rw [commit_still _ _ (by simp [State.sameTraffic])]
  simp [State.interrupts, irqRises, State.ready, State.portAlive]

/-- A command that changes the archive alone. -/
theorem commit_archOnly (s : State) (a : ArchState) :
    s.commit { s with arch := a } =
      { s with arch := a, irqStat := s.irqStat ||| bitIf 13 (archRose s.arch a), port := { s.port with hrdy := s.ready } } := by
  rw [commit_still _ _ (by simp [State.sameTraffic])]
  simp [State.interrupts, irqRises, State.ready, State.portAlive]

/-- A command that changes the tally island alone: no interrupt. -/
theorem commit_tallyOnly (s : State) (a : TallyState) :
    s.commit { s with tally := a } = { s with tally := a, port := { s.port with hrdy := s.ready } } := by
  rw [commit_still _ _ (by simp [State.sameTraffic])]
  simp [State.interrupts, irqRises, State.ready, State.portAlive]

/-- A command that changes device time and the count of free values alone. -/
theorem commit_timeOnly (s : State) (a : TimeState) (n : Nat) :
    s.commit { s with time := a, freeCtr := n } =
      { s with time := a, freeCtr := n, irqStat := s.irqStat ||| bitIf 1 (rose s.time.cmdstat a.cmdstat 0xC0000000),
               port := { s.port with hrdy := s.ready } } := by
  rw [commit_still _ _ (by simp [State.sameTraffic])]
  simp [State.interrupts, irqRises, State.ready, State.portAlive]

/-- A command that changes the host port alone. -/
theorem commit_portOnly (s : State) (a : HostPort) :
    s.commit { s with port := a } = { s with port := { a with hrdy := s.portAlive && a.pending.isNone } } := by
  rw [commit_still _ _ (by simp [State.sameTraffic])]
  simp [State.interrupts, irqRises, State.ready, State.portAlive]

/-- A command that changes nothing. -/
theorem commit_self (s : State) : s.commit s = { s with port := { s.port with hrdy := s.ready } } := by
  rw [commit_still _ _ (by simp [State.sameTraffic])]
  simp [State.interrupts, irqRises, State.ready, State.portAlive]

/-! ### The controllers after a command -/

/-- What follows a command keeps a controller's state, its counters and every register but those of its objects, and no flag of CAN_EVT falls. -/
theorem commit_can (s t : State) (hp : t.port.pending = none) (c : CanId) : Bus (t.can c) ((s.commit t).can c) := by
  unfold State.commit
  extract_lets u1 u2 u3
  have h1 : u1.cans = t.cans := by
    dsimp only [u1]; split
    · rfl
    · exact (congrArg State.cans (stateLeft_eq t) :)
  have hq : u1.port = t.port := by
    dsimp only [u1]; split
    · rfl
    · exact stateLeft_port t
  have h2 : BusKept u1 u2 := by
    dsimp only [u2]; split
    · exact .refl _
    · exact .messages ..
  have h2' : Traffic u1 u2 := by
    dsimp only [u2]; split
    · exact .refl _
    · exact .messages ..
  have hpu : u2.port.pending = none := by rw [h2'.fields.2.2.2.2.2.2.2.2.2.1, hq, hp]
  have h3 : u3 = u2 := by
    dsimp only [u3]; split
    · rfl
    · simp [State.spiLinkLost, hpu]
  show Bus (t.can c) (u3.can c)
  rw [h3]
  exact (Bus.ofEq (by unfold State.can; rw [h1])).trans (h2.can c)

end Sys2Proof.Machine
end

