-- ==== Sys2Proof/Laws/Engine.lean ====
section
/-! SUPPORT. What the messages that follow a command keep of the Nelzil engine: peers, version, clash and password parts of every channel, receive
flags, the mailbox but for what is put behind it, and no flag of NELZ_EVT falls. The fall-back of R421 and the HELLO
of a controller new on its bus are the exceptions. -/

namespace Sys2Proof.Machine

/-- `b` differs from `a` at most in what waits to be sent and in a FOLLOW_UP that is due. -/
def Chan (a b : NelzChannel) : Prop := b = { a with waiting := b.waiting, followUp := b.followUp }

theorem Chan.refl (a : NelzChannel) : Chan a a := rfl

theorem Chan.trans {a b c : NelzChannel} (h : Chan a b) (g : Chan b c) : Chan a c := by
  unfold Chan at *
  rw [g, h]

theorem Chan.ofEq {a b : NelzChannel} (h : a = b) : Chan a b := h ▸ Chan.refl a

/-- The engine keeps all but what sending changes. -/
structure NelzKept (s t : State) : Prop where
  chan : ∀ ch, Chan (s.chan ch) (t.chan ch)
  rest : t.nelz.peerSel = s.nelz.peerSel ∧ t.nelz.flags = s.nelz.flags ∧ t.nelz.mbxTx = s.nelz.mbxTx ∧
    t.nelz.stateAnswer = s.nelz.stateAnswer ∧ t.nelz.pwAnswer = s.nelz.pwAnswer
  mbx : ∃ l, t.nelz.mbxRx = s.nelz.mbxRx ++ l
  evt : ∀ i, wbit s.nelz.evt i = true → wbit t.nelz.evt i = true
  run : ∀ c, (t.can c).fdRun = (s.can c).fdRun

theorem NelzKept.refl (s : State) : NelzKept s s :=
  ⟨fun _ => .refl _, ⟨rfl, rfl, rfl, rfl, rfl⟩, ⟨[], (List.append_nil _).symm⟩, fun _ h => h, fun _ => rfl⟩

theorem NelzKept.trans {s t u : State} (h : NelzKept s t) (g : NelzKept t u) : NelzKept s u := by
  obtain ⟨k, hk⟩ := h.mbx
  obtain ⟨l, hl⟩ := g.mbx
  obtain ⟨a, b, c, d, e⟩ := h.rest
  obtain ⟨a', b', c', d', e'⟩ := g.rest
  exact ⟨fun ch => (h.chan ch).trans (g.chan ch), ⟨a'.trans a, b'.trans b, c'.trans c, d'.trans d, e'.trans e⟩,
    ⟨k ++ l, by rw [hl, hk, List.append_assoc]⟩, fun i x => g.evt i (h.evt i x), fun c => (g.run c).trans (h.run c)⟩

theorem NelzKept.same {s t : State} (h : t.nelz = s.nelz) (g : t.cans = s.cans) : NelzKept s t :=
  ⟨fun ch => .ofEq (by unfold State.chan; rw [h]), by rw [h]; exact ⟨rfl, rfl, rfl, rfl, rfl⟩, ⟨[], by rw [h, List.append_nil]⟩,
    fun i x => by rw [h]; exact x, fun c => by unfold State.can; rw [g]⟩

theorem NelzKept.foldl {α : Type} {f : State → α → State} (h : ∀ s a, NelzKept s (f s a)) (l : List α) (s : State) : NelzKept s (l.foldl f s) := by
  induction l generalizing s with
  | nil => exact .refl s
  | cons a r ih => exact (h s a).trans (ih _)

theorem NelzKept.modChan (s : State) (ch : Channel) (f : NelzChannel → NelzChannel) (h : ∀ x, Chan x (f x)) : NelzKept s (s.modChan ch f) := by
  refine ⟨fun d => ?_, ⟨rfl, rfl, rfl, rfl, rfl⟩, ⟨[], (List.append_nil _).symm⟩, fun _ h => h, fun _ => rfl⟩
  cases ch <;> cases d <;> first | exact h _ | exact .refl _

theorem NelzKept.modCan (s : State) (c : CanId) (f : CanState → CanState) (h : ∀ x, (f x).fdRun = x.fdRun) : NelzKept s (s.modCan c f) := by
  refine ⟨fun _ => .refl _, ⟨rfl, rfl, rfl, rfl, rfl⟩, ⟨[], (List.append_nil _).symm⟩, fun _ h => h, fun d => ?_⟩
  cases c <;> cases d <;> first | exact h _ | rfl

theorem NelzKept.nelzEvt (s : State) (n : Nat) : NelzKept s (s.nelzEvt n) := by
  refine ⟨fun _ => .refl _, ⟨rfl, rfl, rfl, rfl, rfl⟩, ⟨[], (List.append_nil _).symm⟩, fun i h => ?_, fun _ => rfl⟩
  exact (Bus.flagEvt { evt := s.nelz.evt } n).2 i h

/-- What the drains and the answers change stands outside what is kept. -/
theorem NelzKept.answers (s : State) (l : List Answer) : NelzKept s { s with nelz := { s.nelz with answers := l } } :=
  ⟨fun _ => .refl _, ⟨rfl, rfl, rfl, rfl, rfl⟩, ⟨[], (List.append_nil _).symm⟩, fun _ h => h, fun _ => rfl⟩

theorem NelzKept.answerCmd (s : State) (a : Answer) : NelzKept s (s.answerCmd a) := by
  unfold State.answerCmd
  split
  · exact .answers ..
  · exact ⟨fun _ => .refl _, ⟨rfl, rfl, rfl, rfl, rfl⟩, ⟨[], (List.append_nil _).symm⟩,
      fun i h => (Bus.flagEvt { evt := s.nelz.evt } 22).2 i h, fun _ => rfl⟩

/-- What an object's change leaves of the FD errors in a row. -/
theorem modObj_fdRun (c : CanState) (n : Nat) (f : CanObject → CanObject) : (c.modObj n f).fdRun = c.fdRun := by
  unfold CanState.modObj CanState.setObj
  split <;> rfl

theorem loadMsg_fdRun (c : CanState) (n : Nat) (d : List Byte) (ck : Nat) : (c.loadMsg n d ck).fdRun = c.fdRun := by
  unfold CanState.loadMsg CanState.request
  rw [modObj_fdRun, modObj_fdRun]

theorem abortReq_fdRun (c : CanState) (n w : Nat) : (c.abortReq n w).fdRun = c.fdRun := by
  unfold CanState.abortReq
  extract_lets c1 c2
  have h : c2.fdRun = c.fdRun := modObj_fdRun ..
  split <;> exact h

theorem NelzKept.enqueue (s : State) (ch : Channel) (c : CanId) (i : Fin 8) (d : List Byte) : NelzKept s (s.enqueue ch c i d) := by
  unfold State.enqueue
  extract_lets
  split
  · exact .refl s
  · split
    · exact (NelzKept.modChan s ch _ (by intro; rfl)).trans (.modCan _ c _ fun _ => loadMsg_fdRun ..)
    · exact .modChan _ _ _ fun _ => rfl

theorem NelzKept.toMailbox (s : State) (m : Nat) (d : List Byte) : NelzKept s (s.toMailbox m d) := by
  unfold State.toMailbox
  split
  · exact .nelzEvt ..
  · exact ⟨fun _ => .refl _, ⟨rfl, rfl, rfl, rfl, rfl⟩, ⟨_, rfl⟩, fun _ h => h, fun _ => rfl⟩

theorem NelzKept.sendMsg (s : State) (ch : Channel) (i : Fin 8) (d : List Byte) : NelzKept s (s.sendMsg ch i d) := by
  unfold State.sendMsg
  extract_lets
  split
  · exact .refl s
  · split
    · exact .enqueue ..
    · split
      · exact .toMailbox ..
      · exact .refl s

theorem NelzKept.sendCans (s : State) (i : Fin 8) (d : List Byte) : NelzKept s (s.sendCans i d) := .foldl (fun s ch => .sendMsg s ch i d) _ s

theorem NelzKept.sendFault (s : State) (a b c : Nat) : NelzKept s (s.sendFault a b c) := .sendCans ..

theorem NelzKept.portalNotices (s t u : State) (p : PortalId) : NelzKept u (s.portalNotices t u p) := by
  unfold State.portalNotices
  extract_lets _ _ u1 u2
  have h1 : NelzKept u u1 := by dsimp only [u1]; split <;> first | exact .sendFault .. | exact .refl _
  have h2 : NelzKept u1 u2 := by dsimp only [u2]; split <;> first | exact .sendFault .. | exact .refl _
  split
  · exact (h1.trans h2).trans (.sendFault ..)
  · exact h1.trans h2

theorem NelzKept.notices (s t : State) : NelzKept t (s.notices t) := by
  unfold State.notices
  split
  · split
    · exact .refl t
    · exact .sendFault ..
  · extract_lets u
    refine NelzKept.trans (t := u) ?_ (.foldl (fun u p => .portalNotices s t u p) _ u)
    dsimp only [u]; split <;> first | exact .sendFault .. | exact .refl _

theorem NelzKept.respond (s : State) (a : Answer) : NelzKept s (s.respond a) := by
  unfold State.respond
  exact .sendMsg ..

theorem NelzKept.drainAnswers (s : State) : NelzKept s s.drainAnswers := by
  unfold State.drainAnswers
  extract_lets
  split
  · exact .refl s
  · refine NelzKept.trans ?_ (.foldl (fun s a => .respond s a) _ _)
    exact .answers ..

theorem NelzKept.drainResults (s : State) : NelzKept s s.drainResults := by
  unfold State.drainResults
  extract_lets
  split
  · exact .refl s
  · refine NelzKept.trans ?_ (.foldl (fun s a => .answerCmd s _) _ _)
    exact .same rfl rfl

theorem NelzKept.sendSummary (s : State) (r : List Byte) : NelzKept s (s.sendSummary r) := by
  unfold State.sendSummary
  split
  · exact .refl s
  · exact .foldl (fun s ch => .sendMsg ..) _ s

theorem NelzKept.drainSummaries (s : State) : NelzKept s s.drainSummaries := by
  unfold State.drainSummaries
  extract_lets
  split
  · exact .refl s
  · refine NelzKept.trans ?_ (.foldl (fun s a => .sendSummary s a) _ _)
    exact .same rfl rfl

theorem NelzKept.abortSlots (s : State) (ch : Channel) (w : Nat → Bool) : NelzKept s (s.abortSlots ch w) := by
  unfold State.abortSlots
  split
  · exact .refl s
  · extract_lets k slots s1
    refine (NelzKept.modChan s ch _ (by intro; rfl)).trans (.modCan _ _ _ fun x => ?_)
    clear_value slots
    induction slots generalizing x with
    | nil => rfl
    | cons a r ih =>
      rw [List.foldl_cons, ih]
      split
      · exact abortReq_fdRun ..
      · rfl

theorem NelzKept.safeAborts (s : State) : NelzKept s s.safeAborts :=
  .foldl (fun s ch => by
    split
    · exact (NelzKept.abortSlots ..).trans (.modChan _ _ _ fun _ => rfl)
    · exact .refl s) _ s

theorem NelzKept.followUp (s : State) (ch : Channel) : NelzKept s (s.followUp ch) := by
  unfold State.followUp
  split
  · extract_lets
    split
    · exact .refl s
    · split
      · exact (NelzKept.modChan _ _ _ (by intro; rfl)).trans (.sendMsg ..)
      · exact .modChan _ _ _ fun _ => rfl
  · exact .refl s

theorem NelzKept.pumpOne (s : State) (ch : Channel) (c : CanId) (m : OutMsg) : NelzKept s (s.pumpOne ch c m) := by
  unfold State.pumpOne
  extract_lets
  split
  · exact .refl s
  · split
    · exact .modCan _ _ _ fun _ => loadMsg_fdRun ..
    · exact .modChan _ _ _ fun _ => rfl

theorem NelzKept.dropUnfit (s : State) (ch : Channel) (c : CanId) : NelzKept s (s.dropUnfit ch c) := by
  unfold State.dropUnfit
  extract_lets stop s1
  have h : NelzKept s s1 := .modChan _ _ _ fun _ => rfl
  split
  · exact h
  · refine h.trans (.modCan _ _ _ fun x => ?_)
    generalize stop = l
    induction l generalizing x with
    | nil => rfl
    | cons i r ih => exact (ih (x.abortReq _ 6)).trans (abortReq_fdRun ..)

theorem NelzKept.pump (s : State) (ch : Channel) : NelzKept s (s.pump ch) := by
  unfold State.pump
  split
  · exact .refl s
  · extract_lets s1 w
    have h : NelzKept s s1 := .dropUnfit ..
    split
    · exact h
    · exact (h.trans (.modChan _ _ _ (by intro; rfl))).trans (.foldl (fun s m => .pumpOne ..) _ _)

/-- With no fall-back of R421 due, no controller new on its bus and the image as it was, the messages that a step makes due keep the engine's own state. -/
theorem NelzKept.messages (s t : State) (h : ∀ c, (t.can c).fdRun < 2) (hc : ∀ c, (t.can c).ctl = (s.can c).ctl)
    (hi : t.harn.image = s.harn.image) : NelzKept t (s.messages t) := by
  unfold State.messages
  extract_lets t0 t1 t2 t3 t4 t5
  have h0 : t0 = t := if_pos hi
  have ha : ∀ c, s.activeHello t c = t := fun c => by
    unfold State.activeHello
    rw [hc c]
    simp
  have h1 : t1 = t := by
    dsimp only [t1]
    rw [h0, ha .a, ha .b]
  have hf : ∀ u : State, (∀ c, (u.can c).fdRun < 2) → ∀ ch, u.fdFallback ch = u := fun u hu ch => by
    unfold State.fdFallback
    split
    · rfl
    · rename_i c _
      simp [hu c]
  have h2 : t2 = t1 := by
    have hr : ∀ c, (t1.can c).fdRun < 2 := fun c => by rw [h1]; exact h c
    show [Channel.canA, .canB].foldl State.fdFallback t1 = t1
    simp only [List.foldl_cons, List.foldl_nil, hf t1 hr]
  have h3 : NelzKept t t3 := (h2.trans h1) ▸ (NelzKept.drainResults _).trans (.notices ..)
  have h4 : NelzKept t3 t4 := by dsimp only [t4]; split <;> first | exact .safeAborts _ | exact .refl _
  have h5 : NelzKept t4 t5 := (NelzKept.drainSummaries _).trans (.drainAnswers _)
  have h6 : NelzKept t5 (canChans.foldl State.followUp t5) := .foldl (fun s ch => .followUp s ch) _ _
  exact (((h3.trans h4).trans h5).trans h6).trans (.foldl (fun s ch => .pump s ch) _ _)

/-- With no access of the host port waiting, no fall-back of R421 due and no controller new on its bus, the device state and the image as they were,
what follows a command keeps the engine's own state. -/
theorem commit_nelz (s t : State) (hs : t.psm.state = s.psm.state) (hi : t.harn.image = s.harn.image) (hp : t.port.pending = none) (h : ∀ c,
    (t.can c).fdRun < 2)
    (hc : ∀ c, (t.can c).ctl = (s.can c).ctl) : NelzKept t (s.commit t) := by
  unfold State.commit
  extract_lets u1 u2 u3
  have hu : u1 = t := if_pos hs
  have h1 : u1.nelz = t.nelz ∧ u1.cans = t.cans ∧ u1.port = t.port := by rw [hu]; exact ⟨rfl, rfl, rfl⟩
  have h2 : NelzKept u1 u2 := by
    dsimp only [u2]; split
    · exact .refl _
    · rw [hu]; exact .messages _ _ h hc hi
  have h2' : Traffic u1 u2 := by
    dsimp only [u2]; split
    · exact .refl _
    · exact .messages ..
  have hpu : u2.port.pending = none := by rw [h2'.fields.2.2.2.2.2.2.2.2.2.1, h1.2.2, hp]
  have h3 : u3 = u2 := by
    dsimp only [u3]; split
    · rfl
    · simp [State.spiLinkLost, hpu]
  refine ((NelzKept.same h1.1 h1.2.1).trans h2).trans (.same ?_ ?_)
  · show u3.nelz = u2.nelz
    rw [h3]
  · show u3.cans = u2.cans
    rw [h3]

end Sys2Proof.Machine
end

