-- ==== Sys2Proof/Laws/Kernel.lean ====
section
/-! SUPPORT. What the evaluation of a kernel cycle can change (R131, R133): the kernel's own state but for the cycle number and the agreed inputs,
the archive's staging, the capture groups, the marks to the tally island, and the password that a lock-out reset consumes. -/

namespace Sys2Proof.Machine

/-- `t` differs from `s` at most in what an evaluation of the kernel changes. -/
def Eval (s t : State) : Prop :=
  t = { s with seq := { t.seq with cycle := s.seq.cycle, agreed := s.seq.agreed, keeperIn := s.seq.keeperIn, hreq := s.seq.hreq },
               arch := t.arch, acq := t.acq, tally := t.tally, sec := t.sec }

theorem Eval.refl (s : State) : Eval s s := rfl

theorem Eval.trans {s t u : State} (h : Eval s t) (g : Eval t u) : Eval s u := by
  unfold Eval at *
  rw [g, h]

theorem Eval.foldl {α : Type} {f : State → α → State} (h : ∀ s a, Eval s (f s a)) (l : List α) (s : State) : Eval s (l.foldl f s) := by
  induction l generalizing s with
  | nil => exact .refl s
  | cons a r ih => exact (h s a).trans (ih _)

/-- What an evaluation leaves alone. -/
theorem Eval.fields {s t : State} (h : Eval s t) :
    t.clock = s.clock ∧ t.psm = s.psm ∧ t.fuse = s.fuse ∧ t.harn = s.harn ∧ t.fabric = s.fabric ∧ t.lock = s.lock ∧ t.links = s.links ∧
      t.cans = s.cans ∧ t.port = s.port ∧ t.irqStat = s.irqStat ∧ t.irqEn = s.irqEn ∧ t.time = s.time ∧ t.nelz = s.nelz ∧
      t.portals = s.portals ∧ t.freeCtr = s.freeCtr ∧ t.pending = s.pending ∧ t.seq.cycle = s.seq.cycle ∧ t.seq.agreed = s.seq.agreed ∧
      t.seq.keeperIn = s.seq.keeperIn ∧ t.seq.hreq = s.seq.hreq := by
  unfold Eval at h
  rw [h]
  simp only [and_self]

theorem Eval.modSeq (s : State) (p : PortalId) (f : SeqPortal → SeqPortal) : Eval s (s.modSeq p f) := rfl

theorem Eval.modCycle (s : State) (p : PortalId) (f : DoorCycle → DoorCycle) : Eval s (s.modCycle p f) := rfl

theorem Eval.seqEvt (s : State) (p : PortalId) (n : Nat) : Eval s (s.seqEvt p n) := rfl

/-- A change of the kernel's state that keeps the cycle number, the agreed inputs, the KEEPER count and HREQ. -/
theorem Eval.ofSeq (s : State) (q : SeqState) (h1 : q.cycle = s.seq.cycle) (h2 : q.agreed = s.seq.agreed) (h3 : q.keeperIn = s.seq.keeperIn)
    (h4 : q.hreq = s.seq.hreq) : Eval s { s with seq := q } := by
  unfold Eval
  rw [← h1, ← h2, ← h3, ← h4]

/-- A blocked transition writes SEQ_BLOCK and the portal's mark. -/
theorem block_eq (s : State) (p : PortalId) (a b c : Nat) :
    ∃ w, s.block p a b c = ({ s with seq := { s.seq with block := w } }).modSeq p fun q => { q with blocked := true } := ⟨_, rfl⟩

theorem Eval.block (s : State) (p : PortalId) (a b c : Nat) : Eval s (s.block p a b c) := by
  obtain ⟨w, h⟩ := block_eq s p a b c
  rw [h]
  exact (Eval.ofSeq s _ rfl rfl rfl rfl).trans (.modSeq ..)

theorem Eval.foldCycle (s : State) (p : PortalId) : Eval s (s.foldCycle p) := rfl

theorem Eval.mark (s : State) (m : CycleMark) : Eval s (s.mark m) := rfl

theorem Eval.seqTrigger (s : State) (p : PortalId) (c : Option Nat) (g : Guarded) : Eval s (s.seqTrigger p c g) := by
  unfold State.seqTrigger
  extract_lets hit
  clear_value hit
  rfl

theorem Eval.forgetTraces (s : State) (p : PortalId) : Eval s (s.forgetTraces p) := rfl

theorem Eval.openCycle (s : State) (p : PortalId) : Eval s (s.openCycle p) := by
  unfold State.openCycle
  extract_lets q c t
  exact (((Eval.modSeq s p _).trans (.forgetTraces ..)).trans (.foldCycle ..)).trans (.mark ..)

theorem Eval.closeCycle (s : State) (p : PortalId) (a : Nat) (b : Half) (c : Nat) (g : Guarded) : Eval s (s.closeCycle p a b c g) := by
  unfold State.closeCycle
  split
  · exact .refl s
  · extract_lets s1 body s2 s3 sum
    clear_value body sum
    exact (Eval.foldCycle s p).trans (Eval.trans (t := s2) rfl (Eval.trans (t := s3) rfl rfl))

theorem Eval.putClass (s : State) (p : PortalId) (g : Guarded) (c : Option Nat) : Eval s (s.putClass p g c) := by
  unfold State.putClass
  exact (Eval.modSeq ..).trans (.seqTrigger ..)

theorem Eval.cycleAtEntry (s : State) (p : PortalId) (i : Nat) (r : SeqRec) : Eval s (s.cycleAtEntry p i r) := by
  unfold State.cycleAtEntry
  extract_lets start stop note s1 s2
  have hn : ∀ u, Eval u (note u) := fun u => by dsimp only [note]; split <;> first | exact .modCycle .. | exact .refl _
  have h1 : Eval s s1 := by dsimp only [s1]; split <;> first | exact .refl _ | exact hn _
  have h2 : Eval s1 s2 := by dsimp only [s2]; split <;> first | exact .closeCycle .. | (split <;> first | exact .closeCycle .. | exact .refl _)
  split
  · exact ((h1.trans h2).trans (.openCycle ..)).trans (hn _)
  · exact h1.trans h2

theorem Eval.enterCust (s : State) (p : PortalId) (i : Nat) (a : Bool) : Eval s (s.enterCust p i a) := by
  unfold State.enterCust
  extract_lets r frm fs s1 s2 fit m bad s3 s4
  have h2 : Eval s s2 := (Eval.putClass s p _ _).trans (.modSeq ..)
  have h3 : Eval s2 s3 := by dsimp only [s3]; split <;> first | exact .block .. | exact .refl _
  have h4 : Eval s2 s4 := by dsimp only [s4]; split <;> first | exact .modSeq .. | exact h3.trans (.modSeq ..)
  exact (h2.trans h4).trans (.cycleAtEntry ..)

theorem Eval.enterIsolated (s : State) (p : PortalId) : Eval s (s.enterIsolated p) := by
  unfold State.enterIsolated
  exact ((Eval.closeCycle ..).trans (.putClass ..)).trans (.modSeq ..)

theorem Eval.enterHeld (s : State) (p : PortalId) (g : Guarded) : Eval s (s.enterHeld p g) := by
  unfold State.enterHeld
  exact ((Eval.closeCycle ..).trans (.putClass ..)).trans (.modSeq ..)

theorem Eval.discFault (s : State) (p : PortalId) : Eval s (s.discFault p) := by
  unfold State.discFault
  exact (Eval.enterHeld ..).trans (.seqEvt ..)

theorem Eval.adopt (s : State) (p : PortalId) : Eval s (s.adopt p) := by
  unfold State.adopt
  extract_lets q t s1
  have h1 : Eval s s1 := by dsimp only [s1]; split <;> first | exact .seqEvt .. | exact .refl _
  split
  · split
    · exact h1
    · exact h1.trans (.enterIsolated ..)
  · split
    · exact h1
    · exact h1.trans (.enterCust ..)

theorem Eval.adoptReported (s : State) (p : PortalId) (g : Guarded) : Eval s (s.adoptReported p g) := by
  unfold State.adoptReported
  split
  · exact .enterHeld ..
  · exact .enterCust ..

theorem Eval.kernelRule {s t : State} {p : PortalId} {a b c : Bool} (h : s.kernelRule p a b c = some t) : Eval s t := by
  unfold State.kernelRule at h
  extract_lets q u forced at h
  have hf : ∀ i, forced i = some t → Eval s t := fun i e => by
    have := Option.some.inj e
    exact this ▸ (Eval.enterCust ..).trans (.seqEvt ..)
  split_ifs at h
  · exact Option.some.inj h ▸ .discFault ..
  · exact Option.some.inj h ▸ .enterIsolated ..
  · exact hf _ h
  · exact hf _ h
  · exact hf _ h
  · exact Option.some.inj h ▸ (Eval.enterCust ..).trans (.seqEvt ..)
  · exact Option.some.inj h ▸ .enterCust ..
  · exact Option.some.inj h ▸ .adopt ..

theorem Eval.customerGo (p : PortalId) (u : List Byte × Nat) (g : Bool) (l : List TransRec) (s : State) : Eval s (customerGo p u g l s) := by
  induction l generalizing s with
  | nil => exact .refl s
  | cons x r ih =>
    unfold Machine.customerGo
    split
    · exact ih s
    · extract_lets q why
      split
      · exact .enterCust ..
      · exact (Eval.block ..).trans (ih _)

theorem Eval.customer (s : State) (p : PortalId) (g : Bool) : Eval s (s.customer p g) := by
  unfold State.customer
  exact .customerGo ..

theorem Eval.outside (s : State) (p : PortalId) (c : Bool) : Eval s (s.outside p c) := by
  unfold State.outside
  extract_lets q
  split
  · exact .discFault ..
  · split
    · split
      · exact .adopt ..
      · exact .refl s
    · exact .adopt ..

theorem Eval.outputs (s : State) (p : PortalId) (r : Bool) : Eval s (s.outputs p r) := by
  unfold State.outputs
  exact .modSeq ..

theorem Eval.evalPortal (s : State) (c : Option PortalId) (p : PortalId) : Eval s (s.evalPortal c p) := by
  unfold State.evalPortal
  extract_lets s0 up lv s1 s2 q rel guard fell s3 s4 own c1 s5
  have h0 : Eval s s0 := .modSeq ..
  split
  · exact h0.trans (.modSeq ..)
  · have h1 : Eval s0 s1 := by dsimp only [s1]; split <;> exact .modSeq ..
    have h2 : Eval s1 s2 := .foldCycle ..
    have h3 : Eval s2 s3 := by dsimp only [s3]; split <;> first | exact .modSeq .. | exact .refl _
    have h4 : Eval s3 s4 := by dsimp only [s4]; split <;> first | exact .closeCycle .. | exact .refl _
    have h5 : Eval s4 s5 := by
      dsimp only [s5]
      clear_value own s4
      cases own with
      | some g =>
        dsimp only
        split
        · exact (Eval.adoptReported ..).trans (.modSeq ..)
        · exact .adoptReported ..
      | none =>
        dsimp only
        split
        · exact .outside ..
        · split
          · exact .kernelRule ‹_›
          · split
            · exact .customer ..
            · exact .refl _
    exact ((((h0.trans h1).trans h2).trans h3).trans (h4.trans h5)).trans (.outputs ..)

/-- The next portal command changes word 98 and the queue. -/
theorem nextPcmd_eq (s : State) : ∃ c w l, s.nextPcmd = { s with seq := { s.seq with pcmd := c, word98 := w, pcmdQueue := l } } := by
  unfold State.nextPcmd
  split
  · exact ⟨none, 0, s.seq.pcmdQueue, rfl⟩
  · exact ⟨_, _, _, rfl⟩

theorem Eval.nextPcmd (s : State) : Eval s s.nextPcmd := by
  obtain ⟨c, w, l, h⟩ := nextPcmd_eq s
  rw [h]
  exact .ofSeq s _ rfl rfl rfl rfl

/-- The answer of a portal command writes SEQ_PCMD_STAT or the answers that wait. -/
theorem pcmdResult_eq (s : State) (c : PortalCmd) (w : Nat) :
    ∃ v l, s.pcmdResult c w = { s with seq := { s.seq with pcmdStat := v, results := l } } := by
  unfold State.pcmdResult
  split
  · exact ⟨s.seq.pcmdStat, _, rfl⟩
  · exact ⟨_, s.seq.results, rfl⟩

theorem Eval.pcmdResult (s : State) (c : PortalCmd) (w : Nat) : Eval s (s.pcmdResult c w) := by
  obtain ⟨v, l, h⟩ := pcmdResult_eq s c w
  rw [h]
  exact .ofSeq s _ rfl rfl rfl rfl

theorem Eval.takePcmd (s : State) : Eval s s.takePcmd.1 := by
  unfold State.takePcmd
  split
  · rfl
  · extract_lets valid s1 why s2 s3 s4
    have h1 : Eval s s1 := .nextPcmd s
    split
    · exact h1
    · split
      · exact h1.trans (.pcmdResult ..)
      · split
        · exact (h1.trans (.modSeq ..)).trans (.pcmdResult ..)
        · exact h1.trans (Eval.trans (t := s2) (.modSeq ..) rfl)

theorem Eval.trainLines (s : State) : Eval s s.trainLines := by
  unfold State.trainLines
  extract_lets q a b q1
  split <;> rfl

/-- The evaluation of a cycle. -/
theorem Eval.evaluate (s : State) (us : Byte) : Eval s (s.evaluate us) := by
  unfold State.evaluate
  extract_lets s1 r s2 top
  have h1 : Eval s s1 := .trainLines s
  have h2 : Eval s1 s2 := (Eval.takePcmd s1).trans (.foldl (fun s p => .evalPortal s _ p) _ _)
  exact (h1.trans h2).trans (.ofSeq s2 _ rfl rfl rfl rfl)

end Sys2Proof.Machine
end

