-- ==== Sys2Proof/Laws/Mem.lean ====
section
/-! SUPPORT. The laws of a sparse memory: every operation keeps the canonical form, a read after a write of the same address gives the
byte written, and a write leaves every other address alone. -/

namespace Sys2Proof.Machine

/-- The canonical form: no entry holds the default, and addresses rise. -/
theorem cellsWf_iff (d : Byte) (m : List Host.Cell) :
    cellsWf d m = true ↔ (∀ c ∈ m, c.2 ≠ d) ∧ m.Pairwise (fun a b => a.1 < b.1) := by
  induction m with
  | nil => simp [cellsWf]
  | cons c r ih =>
    cases r with
    | nil => simp [cellsWf]
    | cons e r =>
      simp only [cellsWf, Bool.and_eq_true, bne_iff_ne, decide_eq_true_eq, ih, List.mem_cons, List.pairwise_cons, forall_eq_or_imp]
      constructor
      · rintro ⟨⟨h1, h2⟩, ⟨h3, h4⟩, h5, h6⟩
        exact ⟨⟨h1, h3, h4⟩, ⟨h2, fun x hx => lt_trans h2 (h5 x hx)⟩, h5, h6⟩
      · rintro ⟨⟨h1, h3, h4⟩, ⟨h2, _⟩, h5, h6⟩
        exact ⟨⟨h1, h2⟩, ⟨h3, h4⟩, h5, h6⟩

/-- Entries of a memory after a write are the written byte or were there before. -/
theorem mem_memSet {d : Byte} {m : List Host.Cell} {a : Nat} {v : Byte} {c : Host.Cell} (h : c ∈ memSet d m a v) :
    (c = (a, v) ∧ v ≠ d) ∨ c ∈ m := by
  induction m with
  | nil =>
    simp only [memSet] at h
    split at h <;> simp_all
  | cons e r ih =>
    simp only [memSet] at h
    split_ifs at h with h1 h2 h3 h4
    · exact .inr h
    · rcases List.mem_cons.1 h with rfl | h
      · exact .inl ⟨rfl, h2⟩
      · exact .inr h
    · exact .inr (List.mem_cons_of_mem _ h)
    · rcases List.mem_cons.1 h with rfl | h
      · exact .inl ⟨rfl, h4⟩
      · exact .inr (List.mem_cons_of_mem _ h)
    · rcases List.mem_cons.1 h with rfl | h
      · exact .inr (List.mem_cons_self ..)
      · exact (ih h).imp_right (List.mem_cons_of_mem _)

/-- A write keeps the canonical form. -/
theorem memSet_wf {d : Byte} {m : List Host.Cell} (a : Nat) (v : Byte) (h : cellsWf d m = true) : cellsWf d (memSet d m a v) = true := by
  rw [cellsWf_iff] at h ⊢
  refine ⟨fun c hc => ?_, ?_⟩
  · rcases mem_memSet hc with ⟨rfl, hv⟩ | hc
    · exact hv
    · exact h.1 c hc
  · obtain ⟨-, hp⟩ := h
    induction m with
    | nil => simp only [memSet]; split_ifs <;> simp
    | cons e r ih =>
      obtain ⟨h1, h2⟩ := List.pairwise_cons.1 hp
      simp only [memSet]
      split_ifs with g1 g2 g3 g4
      · exact hp
      · refine List.pairwise_cons.2 ⟨fun c hc => ?_, hp⟩
        rcases List.mem_cons.1 hc with rfl | hc
        · exact g1
        · exact lt_trans g1 (h1 c hc)
      · exact h2
      · exact List.pairwise_cons.2 ⟨fun c hc => g3 ▸ h1 c hc, h2⟩
      · refine List.pairwise_cons.2 ⟨fun c hc => ?_, ih h2⟩
        rcases mem_memSet hc with ⟨rfl, _⟩ | hc
        · show e.1 < a; omega
        · exact h1 c hc

/-- Writing bytes keeps the canonical form. -/
theorem memPut_wf {d : Byte} (l : List Byte) {m : List Host.Cell} (a : Nat) (h : cellsWf d m = true) : cellsWf d (memPut d m a l) = true := by
  induction l generalizing m a with
  | nil => exact h
  | cons v r ih => exact ih (a + 1) (memSet_wf a v h)

/-- Erasing keeps the canonical form. -/
theorem memErase_wf {d : Byte} {m : List Host.Cell} (a n : Nat) (h : cellsWf d m = true) : cellsWf d (memErase m a n) = true := by
  rw [cellsWf_iff] at h ⊢
  exact ⟨fun c hc => h.1 c (List.mem_filter.1 hc).1, h.2.sublist List.filter_sublist⟩

/-- Below the first entry a memory reads as its default. -/
theorem memGet_lt {d : Byte} {m : List Host.Cell} {a : Nat} (h : ∀ c ∈ m, a < c.1) : memGet d m a = d := by
  cases m with
  | nil => rfl
  | cons e r =>
    have := h e (List.mem_cons_self ..)
    simp [memGet, this, Nat.ne_of_gt this]

/-- What a memory in canonical form reads after a write. -/
theorem memGet_memSet {d : Byte} {m : List Host.Cell} (a : Nat) (v : Byte) (b : Nat) (h : cellsWf d m = true) :
    memGet d (memSet d m a v) b = if b = a then v else memGet d m b := by
  rw [cellsWf_iff] at h
  obtain ⟨-, hp⟩ := h
  induction m with
  | nil =>
    simp only [memSet]
    split_ifs with h1 h2 h3
    · exact h1.symm
    · rfl
    · simp [memGet, h3]
    · by_cases hb : a = b
      · exact absurd hb.symm h3
      · simp [memGet, hb]
  | cons e r ih =>
    obtain ⟨h1, h2⟩ := List.pairwise_cons.1 hp
    simp only [memSet]
    split_ifs with g1 g2 g3 g4 g5 g6 g7 g8 g9
    · subst g2; subst g3
      exact memGet_lt fun c hc => by
        rcases List.mem_cons.1 hc with rfl | hc
        · exact g1
        · exact lt_trans g1 (h1 c hc)
    · rfl
    · simp [memGet, g4]
    · have : ¬ a = b := fun q => g4 q.symm
      by_cases hb : b < a
      · have hb' : b < e.1 := lt_trans hb g1
        simp [memGet, this, hb, hb', Nat.ne_of_gt hb']
      · simp [memGet, this, hb]
    · subst g5; subst g6; subst g7
      exact memGet_lt fun c hc => h1 c hc
    · subst g5; subst g6
      by_cases hb : b < e.1
      · rw [memGet_lt (fun c hc => lt_trans hb (h1 c hc))]
        simp [memGet, Nat.ne_of_gt hb, hb]
      · have : ¬ e.1 = b := fun q => g7 q.symm
        simp [memGet, this, hb]
    · subst g5; simp [memGet, g8]
    · subst g5
      have : ¬ e.1 = b := fun q => g8 q.symm
      simp [memGet, this]
    · subst g9
      have hne : ¬ e.1 = b := fun q => g5 q.symm
      simp only [memGet, if_neg hne, if_neg g1]
      rw [ih h2, if_pos rfl]
    · by_cases hb : e.1 = b
      · simp [memGet, hb]
      · by_cases hl : b < e.1
        · simp [memGet, hb, hl]
        · simp only [memGet, if_neg hb, if_neg hl]
          rw [ih h2, if_neg g9]

/-- A read of the address just written. -/
theorem memGet_memSet_self {d : Byte} {m : List Host.Cell} (a : Nat) (v : Byte) (h : cellsWf d m = true) : memGet d (memSet d m a v) a = v := by
  rw [memGet_memSet a v a h, if_pos rfl]

/-- A write of bytes leaves every address outside them alone. -/
theorem memGet_memPut_ne {d : Byte} (l : List Byte) {m : List Host.Cell} (a b : Nat) (h : cellsWf d m = true) (hb : b < a ∨ a + l.length ≤ b) :
    memGet d (memPut d m a l) b = memGet d m b := by
  induction l generalizing m a with
  | nil => rfl
  | cons v r ih =>
    rw [List.length_cons] at hb
    simp only [memPut]
    rw [ih (a + 1) (memSet_wf a v h) (by omega), memGet_memSet a v b h, if_neg (by omega)]

end Sys2Proof.Machine
end

