-- ==== Sys2Proof/Tests/Slice0.lean ====
section
/-! SUPPORT. The model's own tests: for each statement with hypotheses a witness that they can be met together, clause by clause; a command
that WellFormed refuses for each of its checks; and values that the manual itself gives. The definitions before the witnesses build small
states by hand: units of an image, portal dies, and states of the host die. -/

namespace Sys2Proof.Tests

open Sys2Proof.Machine

set_option Elab.async false
set_option maxRecDepth 100000


def hd (n : Nat) (l : Fin 2 := 0) : FrameHdr := ⟨BitVec.ofNat 8 n, l⟩

def cmd0 : CommandFrame := { cseq := 0, cycle := 0, cls := 0, cust := 0, dstate := 5, order := 0, flags := 3, sw := 0, mseq := 1, motion := .all 0, cbits := 0 }

def cf0 : ConfigFrame := { op := 1, status := 0, tag := 0, addr := 0, arg := 0, data := [] }

def crc8Fix (b : List Byte) : List Byte := curtainOut b

def beam2 : List Byte := crc8Fix ([0xA5, 2, 8, 64] ++ [1, 0, 0, 0, 0, 0, 0, 0] ++ zeros 8 ++ zeros 4)

def crcOf (cmd : Byte) (addr : Word) (len : Half) (seq : Byte) (pl : List Word) : SpiRequest :=
  let r : SpiRequest := { cmd := cmd, addr := addr, length := len, seq := seq, payload := pl, crc := 0 }
  { r with crc := crc32 (requestBytes r) }

def le4 (n : Nat) := leBytes 4 n

def u (tag : Word) (kind : Nat) (ver : Nat) (b : List Byte) : UnitData := ⟨tag, BitVec.ofNat 8 kind, b, crc32c b, BitVec.ofNat 16 ver⟩

def le2 (n : Nat) := leBytes 2 n

def axRec (kind : Nat) (flags : Nat := 0) (lagw : Nat := 100) : List Byte :=
  [BitVec.ofNat 8 kind, 50, 16, BitVec.ofNat 8 flags, 20, 20] ++ le2 500 ++ le2 1000 ++ le2 2000 ++ le4 10 ++ le2 2000 ++ [50, 0] ++ le2 100 ++ le2 10 ++ le2 5000 ++ zeros 2 ++
    le4 65536 ++ le4 65536 ++ le4 2000 ++ le4 lagw ++ le4 10 ++ le4 10 ++ le2 80 ++ le2 200 ++ le2 1800 ++ zeros 6

def profRec (axes : Nat) (fl : Nat) (target : Nat) : List Byte :=
  [BitVec.ofNat 8 axes, BitVec.ofNat 8 fl, 0, 0] ++ le4 target ++ le4 1000 ++ le4 5000 ++ le4 5000 ++ le4 100000 ++ le4 8000 ++ le2 1000 ++ le2 1500

def fbRec (kindByte flags : Nat) (jump : Nat := 0) (dbits : Nat := 12) (tol : Nat := 5) : List Byte :=
  [BitVec.ofNat 8 kindByte, BitVec.ofNat 8 flags, 1, 1] ++ le2 50 ++ [10, 10] ++ le4 4096 ++ le4 100 ++ le4 tol ++ le4 0 ++ le4 0 ++ le2 500 ++ [BitVec.ofNat 8 dbits, 0] ++ le2 100 ++ [20, 0] ++
    le4 jump ++ [50, 150] ++ le2 1000 ++ le2 0 ++ le2 0 ++ [0] ++ zeros 15

def inRec (role fl1 filt : Nat) : List Byte := [BitVec.ofNat 8 role, BitVec.ofNat 8 fl1] ++ le2 filt

def swRec (fl prio uc retries : Nat) : List Byte := le2 1000 ++ le2 uc ++ [10, BitVec.ofNat 8 retries, 5, BitVec.ofNat 8 fl,
    BitVec.ofNat 8 prio] ++ zeros 7

def curRec (fl vmax nb : Nat) (mask : List Byte := List.replicate 8 0xFF) : List Byte := [BitVec.ofNat 8 fl, BitVec.ofNat 8 vmax,
    BitVec.ofNat 8 nb, 0] ++ mask ++ le4 0

def detRec (prog : Nat) (edgConf : Nat) : List Byte :=
  [3, 0, BitVec.ofNat 8 edgConf, 7] ++ le2 100 ++ le2 100 ++ le2 20 ++ le2 0 ++ le2 2000 ++ le2 0 ++ le2 20 ++ le2 100 ++ le2 prog ++ zeros 10 ++
    ((List.range 3).flatMap fun _ => le4 100 ++ le4 100 ++ le4 400 ++ le4 5000 ++ le4 0 ++ le4 100 ++ le2 5000 ++ le2 1000 ++ [3, 10, 0x0F, 0])

def prof1 (k : Nat) : UnitData := u tagPROF 1 2 ((List.range 3).flatMap fun _ => axRec k)

def prof2 : UnitData := u tagPROF 2 2 (profRec 7 0 2000 ++ profRec 7 1 0 ++ profRec 1 3 100)

def fbU (k fl : Nat) (jump : Nat := 0) (dbits : Nat := 12) (tol : Nat := 5) : UnitData := u tagIOMP 8 3 ((List.range 3).flatMap
    fun _ => fbRec k fl jump dbits tol)

def inU (v : Nat) : UnitData := u tagIOMP 1 v ((List.range 16).flatMap fun n => inRec (if n < 4 then n + 1 +
    (if n % 2 = 1 then 16 else 0) else 0) (if n % 2 = 0 then 4 else 1) (10 + n))

def swU : UnitData := u tagIOMP 2 3 ((List.range 8).flatMap fun n => swRec (if n % 3 = 0 then 7 else 4 + n % 2 * 2) (n % 4) (n * 10) 2)

def pioU (so : Nat) : UnitData := u tagIOMP 3 3 ([0xF, BitVec.ofNat 8 so] ++ le2 200 ++ le2 250 ++ le2 1200)

def curU (v fl vm nb : Nat) : UnitData := u tagIOMP 4 v (curRec fl vm nb ++ curRec fl vm nb)

def detU (prog ec : Nat) : UnitData := u tagENVL 1 2 (detRec prog ec)

def seqtU (k : Nat) : UnitData := u tagSEQT 1 3 ((List.range 6).flatMap fun i => [BitVec.ofNat 8 (if i = 0 then k else i % 3), 0] ++ le2 50)

def harn1 : UnitData := u tagHARN 1 2 ((List.range 3).flatMap fun _ => zeros 16)

def harn2 : UnitData := u tagHARN 2 2 (zeros 8)

def units0 (ak fk ffl : Nat) (prog : Nat := 500) (ec : Nat := 3) (so : Nat := 3) : List UnitData :=
  [harn1, harn2, prof1 ak, prof2, fbU fk ffl, inU 3, swU, pioU so, curU 3 3 2 64, detU prog ec, seqtU 1]

def strc0 : List Byte := [0x0F, 1, 0x0F, 16] ++ List.replicate 12 1 ++ List.replicate 12 1 ++ [0xFF, 0xFF, 0xFF, 0] ++
    (List.range 4).flatMap (fun _ => le2 500) ++ zeros 24

def strcNoLimp : List Byte := [0x0F, 1, 0, 16] ++ List.replicate 12 1 ++ List.replicate 12 1 ++ [0xFF, 0xFF, 0xFF, 0] ++
    (List.range 4).flatMap (fun _ => le2 500) ++ zeros 24

def ax (d : Drive) (f : AxisState → AxisState := id) : AxisState := f { drive := d, aligned := d != .torqueOff, demand := 100 }

def mot (w : MotionWhy) (tgt : Int) (af : MotionAfter := .rest) (e : Bool := true) : Motion :=
  { why := w, profile := 0, target := tgt, path := [⟨4, 1000000000, 500, 0, 0⟩, ⟨5, 100000000, 500, -5000, 0⟩], tau := 0, after := af, endsAtTarget := e, iRun := 1000, iAcc := 1500, goal := tgt, frac := 0 }

def moving (w : MotionWhy) (tgt : Int) (af : MotionAfter := .rest) (e : Bool := true) (d : Drive := .run) : AxisState :=
  { ax d with motion := some (mot w tgt af e), timer := 100, rate := 500 }

def linkUp0 : PortalLink := { up := true, fin := { lanes := 3, fault := false, rxSeqs := [0xFF] }, takeover := .ready, failsafe := false, keeperArmed := true, keeperServe := 1, keeperAt := 4999500000, time := 5000000 }

def fb0 : FbState := { detect := 0x101, lineOk := 15, passed := true }

def P0 (ak fk ffl : Nat) (prog : Nat := 500) (ec : Nat := 3) (so : Nat := 3) : PortalState :=
  { cls := .closedLocked, strc := strc0, units := units0 ak fk ffl prog ec so, link := linkUp0, afe := { halted := false },
    ob := { selftestOk := true }, fbs := .all fb0, mon2 := { fbs := .all fb0 }, inputs := { restart := false } }

def lastCmd (c : BitVec 4) (fl : Half := 3)
    (ds : Byte := 5) : Option CommandFrame := some { cmd0 with cls := c, flags := fl, dstate := ds, mseq := 9 }

def lk (P : PortalState) (f : PortalLink → PortalLink) : PortalState := { P with link := f P.link }

def obm (P : PortalState) (f : ObState → ObState) : PortalState := { P with ob := f P.ob }

def rich : PortalState := lk (P0 1 1 0) fun l => { l with last := lastCmd 2 }

def sstop (axes : BitVec 3)
    (st : Nat := 0) : SafeStop := { axes := axes, cust := 0, noReversal := false, faultAfter := false, v0 := .all 500, started := .all (some st), plan := .all [⟨9, 1000000, 500, -5000, 0⟩] }

def fbm (P : PortalState) (f : FbState → FbState) : PortalState := { P with fbs := P.fbs.map f }

def sup (P : PortalState) (f : SupplyState → SupplyState) : PortalState := { P with supply := f P.supply }

def swm (P : PortalState) (f : SwitchState → SwitchState) : PortalState := { P with switches := P.switches.map f }

def sw0 (P : PortalState) (f : SwitchState → SwitchState) : PortalState := { P with switches := P.switches.set 0 (f (P.switches.get 0)) }

def som (P : PortalState) (f : SoState → SoState) : PortalState := { P with sos := P.sos.map f }

def curm (P : PortalState) (f : CurtainState → CurtainState) : PortalState := { P with curtains := P.curtains.map f }

def axm (P : PortalState) (x : AxisState) : PortalState := { P with axes := .all x }

def ax0 (P : PortalState) (x : AxisState) : PortalState := { P with axes := P.axes.set 0 x }

def dirEntry (unit kind off len : Nat) : List Byte := [BitVec.ofNat 8 unit, BitVec.ofNat 8 kind, 0, 0] ++ le4 off ++ le4 len

def payloadOf (us : List (Nat × Nat × List Byte)) : List Byte :=
  let n := us.length
  let base := 4 + 12 * n
  let r := us.foldl (fun (acc : List Byte × List Byte × Nat) x => (acc.1 ++ dirEntry x.1 x.2.1 acc.2.2 x.2.2.length, acc.2.1 ++ x.2.2, acc.2.2 + x.2.2.length)) ([], [], base)
  le2 n ++ le2 0 ++ r.1 ++ r.2.1

def sec (t : Word) (v : Nat) (b : List Byte) : Section := ⟨t, BitVec.ofNat 16 v, 0, b, crc32c b⟩

def nelzRec : List Byte := [3, 1, 7, 0xF, 17, 100, 0x77, 0] ++ le2 50 ++ le2 20 ++ zeros 20

def rxMap : List Byte := [1, 0, 0, 0x60] ++ le2 1000 ++ le2 0 ++ [16, 0, 0, 0x80] ++ le2 500 ++ le2 0 ++ [2, 5, 1, 0x33] ++ le2 100 ++ le2 0

def seqTab : List Byte := [8, 0, 0, 0, 0, 1, 2, 3, 4, 5, 6, 7] ++ zeros 4 ++ (List.range 8).flatMap (fun i => [BitVec.ofNat 8 i,
    4] ++ zeros 6 ++ le2 50 ++ zeros 6)

def roleTab : List Byte := [1, 17, 2, 18, 3, 19] ++ zeros 10

def cellRec (fl o : Nat) : List Byte := zeros 11 ++ [BitVec.ofNat 8 fl] ++ zeros 2 ++ le2 o

def img : Image := { region := .a, header := zeros 4 ++ [3, 2] ++ zeros 58, sections := [sec tagSTRC 3 strc0, sec tagNELZ 3 (payloadOf [(0, 1, nelzRec), (0, 2, rxMap)]),
   sec tagHARN 2 (payloadOf [(0, 1, cellRec 0x80 0x8000 ++ cellRec 0x80 0)]), sec tagPROF 2 (payloadOf ((List.range 4).map fun p => (16 + p, 1, zeros 192))),
   sec tagIDNT 2 (zeros 64 ++ zeros 16 ++ zeros 32 ++ zeros 48), sec tagSIGN 1 ([1] ++ zeros 131),
   sec tagSEQT 3 (payloadOf ((List.range 4).map fun p => (0, 16 + p, seqTab))),
   sec tagIOMP 3 (payloadOf ((List.range 4).flatMap fun p => [(0, 16 + p, roleTab), (16 + p, 2, swU.bytes)])) ] }

def pairs0 : Two PairInfo := ⟨{ state := .lead, admitted := true }, { state := .shadow, admitted := true }⟩

def lock0 : LockState := { pairs := pairs0 }

def hlink0 : HostLink := { up := true, phase := .running, vsel := 3, fin := { lanes := 3, fault := false, rxSeqs := [0xFF] }, unitsOk := true }

def psm0 (st : Psm) : PsmState := { state := st, porHeld := false, step := .done, phase := 7, grant := 0x00FFFFFF, flashUp := some true }

def base : State := { clock := 5000000000, psm := psm0 .standby, lock := lock0, links := .all hlink0, port := { hrdy := true }, portals := .all rich, harn := { image := some img, verified := true }, time := { now := 5000000 }, cans := .all { ctl := .active, cfg := 0x80000000 }, arch := { media := 1 } }

def st (p : Psm) : State := { base with psm := psm0 p }

def boot (b : BootStep)
    (ph : Nat) : State := { base with psm := { psm0 .boot with step := b, phase := ph }, harn := {}, lock := { pairs := .all { state := .test } } }

def psmM (s : State) (f : PsmState → PsmState) : State := { s with psm := f s.psm }

def armS (s : State) (tgt sc : Nat) (src : CmdSource := ⟨.host, 0⟩) : State := psmM s
    fun p => { p with arm := some { word := armWordOf tgt sc, src := src, at_ := 4995000000, seq := none } }

def lockM (s : State) (f : LockState → LockState) : State := { s with lock := f s.lock }

def secM (s : State) (f : SecState → SecState) : State := { s with sec := f s.sec }

def harnM (s : State) (f : HarnState → HarnState) : State := { s with harn := f s.harn }

def seqM (s : State) (f : SeqState → SeqState) : State := { s with seq := f s.seq }

def spM (s : State) (f : SeqPortal → SeqPortal) : State := seqM s fun q => { q with portals := q.portals.map f }

def linkM (s : State) (f : HostLink → HostLink) : State := { s with links := s.links.map f }

def canM (s : State) (f : CanState → CanState) : State := { s with cans := s.cans.map f }

def nelzM (s : State) (f : NelzState → NelzState) : State := { s with nelz := f s.nelz }

def chM (s : State) (f : NelzChannel → NelzChannel) : State := nelzM s fun n => { n with chans := n.chans.map f }

def archM (s : State) (f : ArchState → ArchState) : State := { s with arch := f s.arch }

def talM (s : State) (f : TallyState → TallyState) : State := { s with tally := f s.tally }

def acqM (s : State) (f : AcqState → AcqState) : State := { s with acq := f s.acq }

def grpM (s : State) (f : Group → Group) : State := acqM s fun a => { a with groups := a.groups.map f }

def timeM (s : State) (f : TimeState → TimeState) : State := { s with time := f s.time }

def portM (s : State) (f : HostPort → HostPort) : State := { s with port := f s.port }

def peer (n : BitVec 6) (v : Byte := 3)
    (m : Byte := 0xF) : Peer := { node := n, vmax := v, vmin := 1, modes := m, product := 1, seenAt := 4999000000 }

def grp (src : Nat) : Group := { cfg := 0x80200000 ||| BitVec.ofNat 32 (src * 2^24) ||| 1, armed := true, len := 0x00030001, seg := 4 }

def rec1 (n : Nat) (d : Bool := false) : Staged := { index := n, bytes := zeros 128, durable := d }

def win0 (c : Word := 7) : Window := { cycle := c, start := 0, end_ := none, seq := 0, counts := { inN := 3, outN := 0xFFFF, frames := 5 }, base := {}, recent := [], incomplete := false, hostReset := false, timeStep := false, sealEvt := 0, key := 5, pub := 0 }

def cfgReq (op : Nat) : ConfigFrame := { cf0 with op := BitVec.ofNat 8 op }

def pend0 (u : ConfigUse) (op : Nat) (s : State) : State := linkM s fun l => { l with pending := some (u, cfgReq op) }

def obj (n : Nat) (cfg id : Word) (f : CanObject → CanObject := fun o => o) : Nat × CanObject := (n, f { cfg := cfg, id := id })

def objects0 : List (Nat × CanObject) := [(0, { cfg := 0x80000000 }), (1, { cfg := 0x80000000, stat := 0x80000000 }), (2,
    { cfg := 0xC0000000 }), (3, { cfg := 0xA0000000 })]

def spi (r : SpiRequest)
    (st : Byte := 0) : SpiResponse := { status := st, seq := r.seq, flags := 0, failIdx := 0, data := [5], cmd := r.cmd, reqCrc := r.crc }

def tr (a b : Nat) (t : Bool) : Track := { first := a, last := b, together := t, outerNow := false, innerNow := false }

def seg0 (sl : Nat) : Segment := { slot := sl, at_ := sl * 4096, size := 4096, ttrig := 1000, tpos := 1, index := 1, mask := 1, seq := 0, flags := 0, gsrc := 0, chmask := 3, meas := .all 0, samples := [⟨0, [1,2]⟩], archDue := true }

def ks (xs : List (String × State)) : List (String × State) := xs

def baseS : State := st .service

def imgBytes : List Byte := [84, 76, 88, 72, 1, 0, 16, 0, 64, 2, 0, 0, 7, 0, 0, 0, 0, 0, 0, 0, 0, 0, 0, 0, 0, 0, 0, 0, 0, 0, 0, 0, 0, 0, 0,
    0, 0, 0, 0, 0, 0, 0, 0, 0, 0, 0, 0, 0, 0, 0, 0, 0, 0, 0, 0, 0, 0, 0, 0, 0, 0, 0, 0, 0, 73, 68, 78, 84, 1, 0, 0, 0, 128, 0, 0, 0, 219,
    100, 39, 8, 0, 0, 0, 0, 0, 0, 0, 0, 0, 0, 0, 0, 0, 0, 0, 0, 0, 0, 0, 0, 0, 0, 0, 0, 0, 0, 0, 0, 0, 0, 0, 0, 0, 0, 0, 0, 0, 0, 0, 0, 0,
    0, 0, 0, 0, 0, 0, 0, 0, 0, 0, 0, 0, 0, 0, 0, 0, 0, 0, 0, 0, 0, 0, 0, 0, 0, 0, 0, 0, 0, 0, 0, 0, 0, 0, 0, 0, 0, 0, 0, 0, 0, 0, 0, 0, 0,
    0, 0, 0, 0, 0, 0, 0, 0, 0, 0, 0, 0, 0, 0, 0, 0, 0, 0, 0, 0, 0, 0, 0, 0, 0, 0, 0, 0, 0, 0, 0, 0, 0, 0, 0, 0, 0, 0, 0, 0, 0, 0, 83, 84,
    82, 67, 1, 0, 0, 0, 64, 0, 0, 0, 235, 35, 134, 182, 0, 0, 0, 16, 0, 0, 0, 0, 0, 0, 0, 0, 0, 0, 0, 0, 0, 0, 0, 0, 0, 0, 0, 0, 0, 0, 0, 0,
    0, 0, 0, 0, 0, 0, 0, 0, 0, 0, 0, 0, 0, 0, 0, 0, 0, 0, 0, 0, 0, 0, 0, 0, 0, 0, 0, 0, 0, 0, 0, 0, 0, 0, 0, 0, 72, 65, 82, 78, 1, 0, 0, 0,
    4, 0, 0, 0, 199, 75, 103, 72, 0, 0, 0, 0, 0, 0, 0, 0, 0, 0, 0, 0, 0, 0, 0, 0, 83, 69, 81, 84, 1, 0, 0, 0, 4, 0, 0, 0, 199, 75, 103, 72,
    0, 0, 0, 0, 0, 0, 0, 0, 0, 0, 0, 0, 0, 0, 0, 0, 80, 82, 79, 70, 1, 0, 0, 0, 4, 0, 0, 0, 199, 75, 103, 72, 0, 0, 0, 0, 0, 0, 0, 0, 0, 0,
    0, 0, 0, 0, 0, 0, 73, 79, 77, 80, 1, 0, 0, 0, 4, 0, 0, 0, 199, 75, 103, 72, 0, 0, 0, 0, 0, 0, 0, 0, 0, 0, 0, 0, 0, 0, 0, 0, 83, 73, 71,
    78, 1, 0, 0, 0, 132, 0, 0, 0, 44, 179, 139, 170, 0, 1, 0, 0, 8, 139, 185, 255, 34, 171, 41, 26, 116, 200, 111, 198, 119, 186, 137, 123,
    170, 222, 227, 112, 204, 97, 41, 184, 45, 23, 11, 163, 252, 38, 65, 92, 68, 45, 169, 167, 22, 6, 121, 86, 217, 30, 170, 2, 185, 58, 212,
    9, 73, 14, 135, 205, 94, 117, 142, 166, 163, 49, 161, 222, 183, 91, 168, 70, 94, 203, 228, 209, 166, 51, 10, 68, 200, 247, 239, 149, 29,
    75, 241, 101, 230, 198, 183, 33, 239, 173, 169, 133, 251, 65, 102, 27, 198, 231, 253, 108, 83, 19, 109, 178, 224, 184, 21, 134, 146, 84,
    188, 114, 116, 222, 59, 199, 66, 83, 66, 202, 89, 67, 107, 207, 119, 240, 116, 219, 233, 135, 164, 88, 0, 0, 0, 0, 0, 0, 0, 0, 0, 0, 0,
    0]

def tallyBytes : List Byte := [84, 76, 88, 84, 1, 0, 0, 0, 80, 0, 0, 0, 0, 0, 0, 0, 0, 0, 0, 0, 0, 0, 0, 0, 0, 0, 0, 0, 0, 0, 0, 0, 234,
    154, 112, 66, 0, 0, 0, 0, 0, 0, 0, 0, 0, 0, 0, 0, 0, 0, 0, 0, 0, 0, 0, 0, 0, 0, 0, 0, 0, 0, 0, 0, 0, 0, 0, 0, 0, 0, 0, 0, 0, 0, 0, 0, 0,
    0, 0, 0, 0, 1, 0, 0, 8, 139, 185, 255, 34, 171, 41, 26, 116, 200, 111, 198, 119, 186, 137, 123, 170, 222, 227, 112, 204, 97, 41, 184,
    45, 23, 11, 163, 252, 38, 65, 92, 68, 45, 169, 167, 22, 6, 121, 86, 217, 30, 170, 2, 185, 58, 212, 9, 73, 14, 135, 205, 94, 117, 142,
    166, 163, 49, 161, 222, 183, 91, 168, 70, 94, 203, 228, 209, 166, 51, 10, 68, 200, 247, 239, 149, 29, 75, 241, 101, 230, 198, 183, 33,
    239, 173, 169, 133, 251, 65, 102, 27, 198, 231, 253, 108, 97, 28, 47, 11, 140, 28, 6, 205, 16, 158, 217, 184, 147, 138, 231, 229, 241,
    4, 102, 54, 69, 172, 110, 30, 79, 10, 11, 99, 241, 2, 116, 162]

def keyH : BitVec 256 := 30930452196445502153376322915843532529369662579047724632804411207604313885199

def tKeyH : BitVec 256 := 7028746602838548431638546311580689905625252224857137045904936916603885544004

def cellsAt (a : Nat) (b : List Byte) : List Host.Cell := ((List.range b.length).zip b).filterMap fun x => if x.2 = 0xFF then none else some
    (a + x.1, x.2)

def flashAB : List Host.Cell := cellsAt 0 imgBytes ++ cellsAt 0x400000 imgBytes ++ cellsAt 0x800000 tallyBytes

def fuseK : FuseState := { devFuse := 0x80000100, hashes := ⟨keyH, 0, 0, 0⟩ }

def realImg : Option Image := (checkContent flashAB .a).image

def auditB (e : Nat) : List Byte := let b := le2 e ++ zeros 58; b ++ leBytes 4 (crc32c b).toNat ++ zeros 64

def sealB (sealed : Bool) (evt : Nat)
    (v c : Word) : SealBlock := { gen := 1, isSealed := sealed, evt := evt, imgVer := v, imgCrc := c, wrapped := beBytes 40 0x6792615838c6a712afc0e5d60bd02282b762878b706801f28e4f2141292a8b72b2fc2e540113aee9, pub := 77 }

def tIn (b : Option SealBlock) (burnt : Nat) (p : Psm := .standby) : State :=
  talM (harnM (st p) fun h => { h with flash := cellsAt 0x800000 tallyBytes ++ (match b with | some x => cellsAt 0x870000 x.bytes | none => []) }) fun t => { t with fuses := { keyHash := tKeyH, burnt := burnt } }

def sbB (g : Nat) : Superblock := { gen := g, recordMib := 100, durable := 128, nextIndex := 128 }

def fifoObjs (held : List Nat) : List (Nat × CanObject) := [(3, { cfg := 0x80000300, fifoHeld := held, stat := 0xC0000000 }), (4,
    { cfg := 0x80000000, stat := 0x80000000 }), (5, { cfg := 0x80000000 }), (9, { cfg := 0x40000000, id := 0x40000000 }), (11,
    { cfg := 0xD0000000, id := 0xC0000000 }), (12, { cfg := 0x50000000 })]

def objMany : List (Nat × CanObject) := ((List.range 16).zip [0, 2, 3, 4, 5, 6, 7, 8, 9, 10, 11, 12, 13, 1, 32, 127]).map fun
    (x : Nat × Nat) => (x.2, { cfg := BitVec.ofNat 32 (x.1 * 0x10000000), id := 0x123 * 0x40000, mask := 0x1FFFFFFF })

/-- The state of `base` with every portal die as given. -/
def onDies (P : PortalState) : State := { base with portals := .all P }

def pAlign : PortalState := axm rich { ax .align with aligned := false }

def pChunk : PortalState := { rich with chunk := some (tagPROF, 1, zeros 4) }

def pCurHello : PortalState := curm rich fun c => { c with phase := .hello }

def pCurHello2 : PortalState := curm rich fun c => { c with phase := .hello, tries := 2 }

def pCurHello2v1 : PortalState := curm rich fun c => { c with phase := .hello, tries := 2, v1Seen := true }

def pCurLive1 : PortalState := curm rich fun c => { c with phase := .live, vsel := 1, seq := some 6, summary := false }

def pCurLost : PortalState := curm rich fun c => { c with phase := .lost }

def pCurSelect1 : PortalState := curm rich fun c => { c with phase := .select, vsel := 1 }

def pDefault : PortalState := {}

def pEdgBadM : PortalState := axm { rich with units := [detU 500 3 |> fun x => { x with bytes := ((x.bytes.set 0 5).set 2 1).set 1 3 }, prof1 1, prof2, fbU 1 0, seqtU 1] } { moving .profile 2000 with openDir := false }

def pEdgBadR : PortalState := obm { rich with units := [detU 500 3 |> fun x => { x with bytes := (x.bytes.set 0 5).set 2 1 }, prof1 1, prof2, fbU 1 0] } id

def pEdgOk : PortalState := obm { rich with units := [detU 500 3 |> fun x => { x with bytes := x.bytes.set 0 5 }, prof1 1, prof2, fbU 1 0] } id

def pFault : PortalState := { rich with cls := .fault }

def pGateDue : PortalState := obm rich fun o => { o with gateCheck := 7 }

def pHall7 : PortalState := fbm { rich with units := units0 2 4 0 } fun f => { f with hallSector := 7, hallCode := 7 }

def pHarn : PortalState := { rich with units := [u tagHARN 1 2 (cellRec 0x80 0x8000 ++ cellRec 0x80 0), harn2], harness := { chan1 := FabricCopy.load (cellsOf (cellRec 0x80 0x8000 ++ cellRec 0x80 0)) [], chan2 := FabricCopy.load (cellsOf (cellRec 0x80 0x8000 ++ cellRec 0x80 0)) [] } }

def pHelloDone : PortalState := lk rich fun l => { l with takeover := .helloDone }

def pHold : PortalState := lk rich fun l => { l with up := false, holdUntil := some 5000000000 }

def pHoldNoLimp : PortalState := { lk rich fun l => { l with up := false, holdUntil := some 5000000000 } with strc := strcNoLimp }

def pHoldOwn : PortalState := lk (obm (axm rich (moving .safeStop 110)) fun o => { o with stop := some (sstop 7), stopAxes := 7 })
    fun l => { l with up := false, holdUntil := some 5000000000 }

def pKeeperDone : PortalState := lk rich fun l => { l with takeover := .keeperDone, readbackSeq := 0 }

def pLclrCnt0 : PortalState := obm rich fun o => { o with lclrCount := true, lclrAt := some 2999000000 }

def pLclrCntLock : PortalState := obm { rich with cls := .lockedOut, inputs := { restart := false, filters := .all { out := true } } }
    fun o => { o with lockCause := 3, lclrCount := true, lclrAt := some 2999000000 }

def pLimpDown : PortalState := { lk rich fun l => { l with limp := true, failsafe := true, up := false, limpN := true } with cls := .limp, strc := strcNoLimp }

def pLinkDown : PortalState := lk rich
    fun l => { l with up := false, fin := { l.fin with fault := true, silent := false, lanes := 0 }, keeperArmed := false, takeover := .none }

def pLockedRemote : PortalState := obm { rich with cls := .lockedOut, inputs := { restart := false, filters := .all { out := true } } }
    fun o => { o with lockCause := 3, selftest := some .remoteReset }

def pLowRate : PortalState := lk rich fun l => { l with lowRate := true }

def pMon2 : PortalState := obm (axm rich (moving .profile 2000))
    fun o => { o with runStop := 2, runEff := .all 2, runCnt := .all 2, runAdc := .all 2 }

def pMon2cnt : PortalState := obm rich fun o => { o with runCnt := .all 2 }

def pMotDue1 : PortalState := lk rich fun l => { l with motionDue := .all (some 0x40) }

def pMotDue2 : PortalState := lk (axm rich (moving .profile 2000)) fun l => { l with motionDue := .all (some 0x80) }

def pMotDue3 : PortalState := lk rich fun l => { l with motionDue := .all (some 0xC0) }

def pMotDueHallUnready : PortalState := lk ({ rich with units := units0 0 1 0 }) fun l => { l with motionDue := .all (some 0x40) }

def pMotHold : PortalState := sup (lk rich fun l => { l with motionDue := .all (some 0x40) }) fun s => { s with field := .hold }

def pNoLimpEn : PortalState := { rich with strc := strcNoLimp }

def pOrder1 : PortalState := lk rich fun l => { l with orderDue := 1 }

def pOrder2 : PortalState := lk rich fun l => { l with orderDue := 2 }

def pOrder3 : PortalState := lk rich fun l => { l with orderDue := 3 }

def pOrder3lock : PortalState := lk (obm { rich with cls := .lockedOut, inputs := { restart := false, filters := .all { out := true } }}
    fun o => { o with lockCause := 4 }) fun l => { l with orderDue := 3 }

def pOrder4 : PortalState := lk { rich with cls := .fault } fun l => { l with orderDue := 4, last := lastCmd 2 }

def pOrder4b : PortalState := lk { sup rich (fun s => { s with dieHot := true }) with cls := .fault } fun l => { l with orderDue := 4 }

def pPor : PortalState := { rich with por := true }

def pPrecharge : PortalState := axm rich { ax .standstill with precharge := true, queued := none }

def pPrecharge1 : PortalState := ax0 rich { ax .standstill with precharge := true, queued := some 0x40 }

def pPrechargeAlign : PortalState := axm rich { ax .align with precharge := true, queued := some 0x40 }

def pPrechargeHold : PortalState := sup (ax0 rich { ax .standstill with precharge := true, queued := some 0x40 })
    fun s => { s with field := .hold }

def pPrechargeQ : PortalState := axm rich { ax .standstill with precharge := true, queued := some 0x40 }

def pProgArmed : PortalState := obm rich fun o => { o with progArmed := 7 }

def pProgArmedLock : PortalState := obm rich fun o => { o with progArmed := 7, lockCause := 2 }

def pProgArmedRun : PortalState := obm (axm rich (moving .profile 2000)) fun o => { o with progArmed := 7 }

def pQuadGate : PortalState := fbm { rich with units := units0 1 1 14 } fun f => { f with pos := 90 }

def pQuadIdx : PortalState := fbm { rich with units := units0 1 1 6 } fun f => { f with pos := 90 }

def pQuadUp : PortalState := fbm rich fun f => { f with qa := false, qb := false, pos := 99, still := false }

def pRest : PortalState := obm rich fun o => { o with rest := some 0 }

def pRestUndet : PortalState := obm (fbm rich fun f => { f with detect := 0, passed := false }) fun o => { o with rest := some 0 }

def pRestoring : PortalState := sup (swm rich fun w => { w with demand := true, deferred := true }) fun s => { s with restoring := true }

def pRestoringDone : PortalState := sup rich fun s => { s with restoring := true }

def pRich : PortalState := rich

def pRunLast0 : PortalState := axm (P0 1 1 0 0) (moving .profile 101)

def pSafeStop : PortalState := obm (axm rich (moving .safeStop 110)) fun o => { o with stop := some (sstop 7), stopAxes := 7 }

def pSafeStopFast : PortalState := fbm (obm (axm { rich with units := units0 3 2 0 } (moving .safeStop 100))
    fun o => { o with stop := some (sstop 7), stopAxes := 7, envRun := .all 1 })
    fun f => { f with vHat := 900000, still := false, edgeAt := 4999990000, intervals := [100,100] }

def pSafeStopStep : PortalState := obm (axm rich (moving .safeStop 2000))
    fun o => { o with stop := some { sstop 7 with started := .all none }, stopAxes := 7 }

def pShedStale : PortalState := sup (sw0 rich fun w => { w with demand := false, shed := false })
    fun s => { s with shedOrder := [0, 3], est := 10 }

def pSincos : PortalState := { rich with units := units0 3 3 0 }

def pSoOn : PortalState := som rich fun x => { x with on := true, perm := true, dem := true, stand := true }

def pSoPulse : PortalState := som rich fun x => { x with on := true, perm := true, dem := true, stand := true, pulse := true }

def pSoPulseA : PortalState := { rich with sos := ⟨{ on := true, perm := true, dem := true, pulse := true }, {}⟩ }

def pSsOn : PortalState := sup rich fun s => { s with ssOn := 15 }

def pSsOnUv : PortalState := sup rich fun s => { s with ssOn := 15, field := .uv }

def pSsiBad : PortalState := fbm { rich with units := units0 2 2 0 } fun f => { f with ssiBad := 2 }

def pSsiBusy : PortalState := fbm { rich with units := units0 2 2 0 } fun f => { f with ssiBusy := true, ssiLatch := 77 }

def pStDownload : PortalState := obm rich fun o => { o with selftest := some .download, selftestOk := false }

def pStream : PortalState := { rich with afe := { rich.afe with stream := 0x000FFFFF, halted := false } }

def pSwEdgeC : PortalState := { axm { rich with units := [inU 3 |> fun x => { x with bytes := (List.range 16).flatMap fun n => inRec 5 0 (10+n) }, prof1 1, prof2, detU 500 3 |> (fun (x : UnitData) => { x with bytes := x.bytes.set 1 3 }), fbU 1 0, seqtU 1], inputs := { restart := false, filters := .all { out := true } } } { moving .profile 2000 with openDir := false } with cls := .closing }

def pSwEp : PortalState := swm rich fun w => { w with demand := true, on := true, episode := some .switchOn, retryLeft := 2 }

def pSwOn : PortalState := swm rich fun w => { w with demand := true, on := true, retryLeft := 2 }

def pSwPrio0 : PortalState := { rich with switches := (Eight.all {}).set 0 { demand := true, on := true } |>.set 4 { demand := true, on := true } }

def pSwShed : PortalState := sup (sw0 rich fun w => { w with demand := true, shed := true, lastLoss := 10 })
    fun s => { s with shedOrder := [0], est := 10 }

def pSwShedBig : PortalState := sup (sw0 rich fun w => { w with demand := true, shed := true, lastLoss := 5000 })
    fun s => { s with shedOrder := [0], est := 10 }

def pSwShort : PortalState := swm rich
    fun w => { w with demand := true, on := true, episode := some .shortRetry, retryLeft := 1, shortCl := true, shortTries := 0 }

def pSwWait : PortalState := swm rich fun w => { w with demand := true, retry := some { short := true }, retryLeft := 2 }

def pSwWaitDue : PortalState := swm rich fun w => { w with demand := true, retry := some { short := false, due := true }, retryLeft := 2 }

def pSwWaitHold : PortalState := sup (swm rich
    fun w => { w with demand := true, retry := some { short := true, due := true }, retryLeft := 2 }) fun s => { s with field := .hold }

def pUndetected : PortalState := fbm rich fun f => { f with detect := 0, passed := false }

def pWarn : PortalState := sup rich fun s => { s with field := .warn }

def sArm0s0standby : State := armS (st .standby) 0 0

def sArm3s0standby : State := armS (st .standby) 3 0

def sArm4s0dormant : State := armS (st .dormant) 4 0

def sArm4s0service : State := armS (st .service) 4 0

def sArm5s0standby : State := armS (st .standby) 5 0

def sArm7s0standby : State := armS (st .standby) 7 0

def sArmNoPair5s0standby : State := lockM (armS (st .standby) 5 0) fun l => { l with pairs := .all { state := .failed } }

def sArmOnePair7s1service : State := lockM (armS (st .service) 7 1)
    fun l => { l with pairs := ⟨{ state := .lead, admitted := true }, { state := .failed }⟩ }

def sArmOther : State := psmM base
    fun p => { p with arm := some { word := armWordOf 5 0, src := ⟨.canA, 5⟩, at_ := 4995000000, seq := some 3 } }

def sArmPw6s0standby : State := secM (armS (st .standby) 6 0) fun x => { x with held := .all (some ⟨⟨.host, 0⟩, 4999999999⟩), sealSw := 15 }

def sBAwl : State := boot .awl 2

def sBDisc : State := psmM (boot .discovery 3) fun p => { p with flashDev := some ⟨true, 0x1F, 200, 0x1F⟩ }

def sBDisc1 : State := psmM (boot .discovery 3) fun p => { p with flashDev := some ⟨false, 1, 50, 1⟩ }

def sBFab : State := harnM (boot .fabric 4) fun h => { h with image := some img, verified := true }

def sBFlash : State := boot .flashWait 3

def sBFuse : State := boot .fuseLoad 1

def sBImg4 : State := boot .imageRead 4

def sBImg5 : State := boot .imageRead 5

def sBSig : State := harnM (boot .signature 4) fun h => { h with candidate := some img }

def sBSig5 : State := harnM (boot .signature 5) fun h => { h with candidate := some { img with region := .b } }

def sBase : State := base

def sCFifo0 : State := canM base fun c => { c with objects := fifoObjs [] }

def sCFifo1 : State := canM base fun c => { c with objects := fifoObjs [1], cfg := 0x82000000 }

def sCFifoBad : State := canM base fun c => { c with objects := fifoObjs [1, 0], bad := [3, 4] }

def sCFifoFull : State := canM base fun c => { c with objects := fifoObjs [2, 0, 1], bad := [9] }

def sCanBusOff : State := canM base fun c => { c with ctl := .busOff, tec := 256, cfg := 0xFFFFFFFF }

def sCanInt : State := canM base fun c => { c with ctl := .integrating }

def sCanObjs : State := canM base fun c => { c with objects := objects0 }

def sCanObjsMore : State := canM base fun c => { c with objects := objMany }

def sCanOnBus : State := canM base
    fun c => { c with onBus := some (1, ⟨false, false, false, false, false, 5, 8, zeros 8⟩), objects := objMany.map fun x => (x.1, { x.2 with stat := 0xFFFFFFFF }) }

def sCanRecov : State := canM base fun c => { c with ctl := .recovering }

def sCanTx : State := canM base fun c => { c with objects := objMany.map fun x => (x.1, { x.2 with stat := x.2.stat ||| 0x20000000 }) }

def sCanTxAlone : State := canM base
    fun c => { c with alone := true, objects := objMany.map fun x => (x.1, { x.2 with stat := x.2.stat ||| 0x20000000 }) }

def sDormantCanStb : State := canM (st .dormant) fun c => { c with ctl := .off, cfg := 0xFFFFFFFF }

def sFdCap : State := chM base fun c => { c with fdCap := true, peers := [peer 5], v := 2 }

def sFlAddr : State := harnM (st .maintain) fun h => { h with fladdr := 0x12345678 }

def sFromDormant : State := psmM (st .dormant) fun p => { p with busy := some (.fromDormant ⟨.host, 0⟩) }

def sFuseFail : State := st .fuseFail

def sGAuto : State := grpM base fun _ => { grp 0 with auto := 0xFFFF }

def sGCommit : State := grpM base fun _ => { grp 0 with commit := some ⟨5, 1, false, false, 0⟩, kept := [⟨0, [1]⟩] }

def sGDig : State := grpM base
    fun _ => { cfg := 0x80200000 ||| 0x00000000 ||| 0x00080000, armed := true, len := 0x00FF0001, seg := 0xFF, commit := some ⟨5, 1, false, false, 0⟩, kept := [⟨0, [1,2]⟩] }

def sGDig2 : State := grpM base
    fun _ => { cfg := 0x82000000, armed := true, len := 0x00FF0001, seg := 0x000A0004, commit := some ⟨5, 1, false, false, 0⟩, kept := [⟨0, [1,2]⟩] }

def sGDis1 : State := grpM base fun _ => { cfg := 0x00200001, mem := 0x00010000, len := 0x003F0001, seg := 4 }

def sGEn1 : State := grpM base fun _ => { grp 0 with cfg := 0x80000001 }

def sGFull : State := grpM base fun _ => { grp 0 with full := true, armed := false, closed := [seg0 0] }

def sGKept : State := grpM base fun _ => { grp 0 with kept := (List.range 20).map fun i => ⟨i * 250, [1,2]⟩, dropped := 3 }

def sGMeas : State := grpM base fun _ => { grp 0 with measuring := [0, 1, 5], closed := [seg0 0, seg0 1, seg0 5] }

def sGPaused : State := grpM base fun _ => { grp 0 with paused := true }

def sGTrig : State := grpM base fun _ => { grp 0 with trig := some ⟨0, [(0, 1000)], false, false⟩, kept := [⟨0, [1,2]⟩, ⟨250, [1,2]⟩] }

def sJobAct : State := harnM (st .maintain) fun h => { h with job := some (.activate .b) }

def sJobErase : State := harnM (st .maintain) fun h => { h with job := some (.erase .b), flash := [(0x100, 3), (0x800000, 5)] }

def sJobProg8 : State := harnM (st .maintain) fun h => { h with job := some (.program .b 3 (zeros 8)) }

def sJobVerify : State := harnM (st .maintain) fun h => { h with job := some (.verify .b) }

def sKeyJobP : State := secM (st .maintain) fun x => { x with keyJob := some ⟨false, 1, 5⟩ }

def sLinkDown : State := linkM base fun l => { l with up := false, phase := .down, fin := { l.fin with lanes := 0, fault := true } }

def sLinkErr2 : State := linkM base
    fun l => { l with fin := { l.fin with linkErrs := [4999999000, 4999999500], laneErrs := .all [4999999000] } }

def sLinkHello : State := linkM base fun l => { l with up := false, phase := .hello }

def sLinkLow : State := linkM base fun l => { l with lowRate := true }

def sLinkOneLane : State := linkM base fun l => { l with fin := { l.fin with lanes := 1 } }

def sLinkTrain : State := linkM base fun l => { l with up := false, phase := .training, fin := { l.fin with lanes := 0 } }

def sLinkTrain4 : State := linkM base
    fun l => { l with up := false, phase := .training, attempts := ⟨4, 3⟩, fin := { l.fin with lanes := 0 } }

def sLinksBack : State := psmM (st .dormant) fun p => { p with busy := some (.linksBack ⟨.host, 0⟩) }

def sMActiveA : State := harnM (st .maintain) fun h => { h with image := some img, flstat := 0xFFFFFFFF &&& 0x00FFFFFF }

def sMBusy : State := archM base fun a => { a with cmdstat := 0x80000000 }

def sMFails0 : State := archM base fun a => { a with op := .journal false }

def sMFails2 : State := archM base fun a => { a with op := .superblock, fails := 2 }

def sMFails2r : State := archM base fun a => { a with op := .superblock, fails := 2, retried := true }

def sMInit : State := archM base fun a => { a with media := 0, op := .init }

def sMInitSb : State := archM base
    fun a => { a with media := 0, op := .init, medium := memPut 0 (memPut 0 [] 0 (sbB 3).bytes) 512 (sbB 4).bytes, opQueue := [.journal false] }

def sMNotReady : State := archM base fun a => { a with media := 0 }

def sMRecs : State := archM base
    fun a => { a with recs := (List.range 5).map fun i => rec1 i, next := 5, formed := 5, logs := [rec1 0], logNext := 1, rdidx := 2 }

def sMStripe : State := archM base
    fun a => { a with op := .stripe false, recs := (List.range 70).map fun i => rec1 i, next := 70, formed := 70, sb := { recordMib := 100 } }

def sMStripeM : State := archM base
    fun a => { a with sb := { recordMib := 100, durable := 128, nextIndex := 128 }, next := 128, medium := [(0x200000, 5)], mediaReg := 0xFFFFFFFF, cap := 64 }

def sMTrace2 : State := archM (grpM base fun g => { g with cfg := 0x80100001, closed := [seg0 0, seg0 1, seg0 5] })
    fun a => { a with media := 1, cap := 0x4000000, sb := { recordMib := 1024 } }

def sMTracePg : State := archM base
    fun a => { a with sb := { recordMib := 100 }, cap := 0x4000000, traces := [⟨3, 0, 1, 5, 5, 5⟩], rdpage := 0x80000002, rdidx := 3 }

def sMaintSeal : State := { secM (st .maintain) (fun x => { x with sealSw := 15 }) with fuse := { devFuse := 0xFFFFFFFF } }

def sMaintain : State := st .maintain

def sNoGrant : State := psmM base fun p => { p with grant := 0 }

def sPcmd : State := seqM baseS fun q => { q with pcmd := some ⟨⟨.canA, 5⟩, 1, 0, 1, false, true⟩, word98 := 0x80000000 }

def sPeers : State := chM base fun c => { c with peers := [peer 1, peer 5, peer 63], v := 3 }

def sPeers63 : State := chM base fun c => { c with peers := [peer 63], v := 3 }

def sPendDl : State := pend0 .download 4 (linkM base fun l => { l with phase := .download })

def sPendRb : State := spM (pend0 .readbackAck 5 (linkM base fun l => { l with phase := .readBack })) fun q => { q with readBack := false }

def sPendingCmd : State := { base with pending := [.wakePin, .referenceLost] }

def sPortPend : State := portM base fun p => { p with hrdy := false, pending := some ⟨crcOf 1 0x800 4 1 [], 0, [], 0, none, false, 0⟩ }

def sPortStored : State := portM base fun p => { p with stored := some (spi (crcOf 2 0x3000 4 1 [1])) }

def sPrlLane : State := { base with portals := .all (lk rich fun l => { l with fin := { l.fin with lanes := 1 } }) }

def sPwHoldoff : State := secM base fun x => { x with holdUntil := some 6000000000, failRun := 6 }

def sPwJob : State := secM base fun x => { x with pwJob := some ⟨⟨.host, 0⟩, [1,2], zeros 16, zeros 32⟩ }

def sPwParts : State := chM base
    fun c => { c with v := 3, peers := [peer 5], pwParts := [⟨5, 10, 4999000000, [⟨0, zeros 6⟩]⟩, ⟨1, 10, 4999000000, []⟩] }

def sRAct : State := { harnM (st .maintain) (fun h => { h with flash := flashAB, job := some (.activate .b) }) with fuse := fuseK }

def sRImg4 : State := harnM (boot .imageRead 4) fun h => { h with flash := flashAB }

def sRSig : State := { harnM (boot .signature 4) (fun h => { h with flash := flashAB, candidate := realImg }) with fuse := fuseK }

def sReset : State := {}

def sRetr31 : State := { base with links := .all { hlink0 with fin := { hlink0.fin with lanes := 2, retrain := 1, locked := 3, proved := 1 } }, portals := .all (lk rich fun l => { l with fin := { l.fin with lanes := 2, retrain := 1, locked := 3, proved := 1 } }) }

def sRstLow : State := { base with psm := { porHeld := false, resetLow := true } }

def sRxFresh : State := nelzM base
    fun n => { n with flags := List.replicate 64 { value := .all true, fresh := .all true, at_ := .all 4999000000 } }

def sSafe : State := st .safe

def sSelftest : State := st .selftest

def sSeqTmo : State := spM baseS
    fun q => { q with cls := .closing, cust := 1, custValid := true, released := true, readBack := true, splitAt := .all (some 4000000000), agreeAt := some 4000000000 }

def sService : State := st .service

def sSettling : State := chM base fun c => { c with settling := true, peers := [peer 1 4, peer 5], v := 1, changedAt := 4000000000 }

def sSyncWait : State := chM (timeM base fun t => { t with syncWait := some (.a, 5, 8, 5000) })
    fun c => { c with v := 3, peers := [peer 5] }

def sTAudit : State := talM (harnM base fun h => { h with flash := cellsAt (auditAt 1) (auditB 1) ++ cellsAt (auditAt 2) (auditB 2) })
    fun t => { t with mode := .counting, used := 2 }

def sTCount : State := talM base fun t => { t with mode := .counting }

def sTCountEnd : State := talM base
    fun t => { t with mode := .counting, ending := .all [{ win0 with end_ := some 5000 }, win0 8], closing := .all [win0 3], parts := .all (.all (some { total := 2, held := 1, bytes := beam2.take 20 })), spans := .all [(500, 2000)], early := .all [.clear, .down 5000, .frame 100 0 none none true false] }

def sTCountWin : State := talM base
    fun t => { t with mode := .counting, windows := .all (some (win0)), ending := .all [win0, win0 8], closing := .all [win0 3, win0 4], inForce := 1, used := 1, priv := some 5 }

def sTIs : State := tIn (some (sealB true 0 0 0x42709aea)) 0

def sTIsFull : State := tIn (some (sealB true 4096 3 4)) 4096

def sTIsOther : State := tIn (some (sealB true 1 3 4)) 1

def sTNoFlash : State := psmM (tIn none 0) fun p => { p with flashUp := some false }

def sTSeal : State := talM base fun t => { t with mode := .sealing, used := 3, fuses := { burnt := 1 } }

def sTStartR : State := talM (harnM (boot .training 6) fun h => { h with flash := flashAB })
    fun t => { t with fuses := { keyHash := tKeyH } }

def sTTrack01 : State := talM base
    fun t => { t with mode := .counting, windows := .all (some { win0 with counts := { inN := 2, track := some (tr 0 1 true) } }) }

def sTUnsB : State := { talM base (fun t => { t with mode := .unsealed }) with psm := { psm0 .boot with step := .training } }

def sToDormant : State := psmM base fun p => { p with busy := some (.toDormant ⟨.host, 0⟩ 4999000000) }

def sToOff : State := psmM base fun p => { p with busy := some (.toOff ⟨.host, 0⟩ 4999000000) }

def sTracesHit : State := archM base
    fun a => { a with media := 1, recs := [{ rec1 0 with bytes := zeros 88 ++ [7, 0, 0, 0] ++ zeros 36 }], next := 1, rdidx := 0, traces := [⟨0, 0, 1, 0, 0, 0⟩, ⟨3, 5, 1, 7, 0, 0⟩] }

def sTsOut : State := timeM base fun t => { t with cfg := 0xFFFFFBE8 }

def sZsDiff : State := seqM baseS fun q => { q with zsDiffAt := some 4000000000 }

def listCellReadV1 : List CellRead := [{ rcd := FuseRecId.factory, bit := 3, cell := 0, value := CellValue.reads true },
    { rcd := FuseRecId.factory, bit := 3, cell := 1, value := CellValue.reads true }]

def awlRunV1 : AwlRun := { lanes := 0, delayBit := none, checkerFail := false, fabricFail := false, burnishFail := false }

def awlRunV2 : AwlRun := { lanes := 4, delayBit := none, checkerFail := false, fabricFail := false, burnishFail := false }

def cmdSourceV1 : CmdSource := { ch := Channel.host, node := 0 }

def cmdSourceV2 : CmdSource := { ch := Channel.canA, node := 5 }

def spiRequestV1 : SpiRequest := { crcOf 2 0x3004 4 9 [3] with crc := 0 }

def canRxV1 : CanRx := { word := { ide := false, rtr := false, fdf := false, brs := false, esi := false, ident := 0x48c0000, dlc := 8, data := [1, 2, 3, 4, 5, 6, 7, 8] }, nonCode := false, sofAgo := 900 }

def canRxV2 : CanRx := { word := { ide := true, rtr := false, fdf := true, brs := false, esi := false, ident := 5, dlc := 9, data := [0, 0, 0, 0, 0, 0, 0, 0, 0, 0, 0, 0] }, nonCode := false, sofAgo := 900 }

def canRxV3 : CanRx := { word := { ide := false, rtr := false, fdf := false, brs := false, esi := false, ident := 0x48c0000, dlc := 8, data := [1, 2, 3, 4, 5, 6, 7, 8] }, nonCode := true }

def canErrorV1 : CanError := { kind := CanErrType.bit0, field := CanErrField.arbitration, dataRate := false, dominantInFlag := false, flagErrors := 0, dominantRuns := 0, inOverload := false }

def emmcInfoV1 : EmmcInfo := { sectors := 4194304, hs200 := { supported := true, tuned := true, bus8 := true, bus4 := true, bus1 := true }, hs := { supported := true, tuned := true, bus8 := true, bus4 := true, bus1 := true }, legacy := { supported := true, tuned := true, bus8 := true, bus4 := true, bus1 := true }, rev := 8, lifeA := 1, lifeB := 1, preEol := 1, unread := [] }

def emmcInfoV2 : EmmcInfo := { sectors := 4194304, hs200 := { supported := true, tuned := false, bus8 := true, bus4 := true, bus1 := true }, hs := { supported := true, tuned := true, bus8 := false, bus4 := true, bus1 := true }, legacy := { supported := true, tuned := true, bus8 := true, bus4 := true, bus1 := true }, rev := 8, lifeA := 9, lifeB := 1, preEol := 1, unread := [0, 8192] }

def emmcInfoV3 : EmmcInfo := { sectors := 400000000, hs200 := { supported := true, tuned := false, bus8 := true, bus4 := true, bus1 := true }, hs := { supported := false, tuned := true, bus8 := true, bus4 := true, bus1 := true }, legacy := { supported := true, tuned := false, bus8 := false, bus4 := false, bus1 := true }, rev := 8, lifeA := 1, lifeB := 1, preEol := 1, unread := [] }

def emmcInfoV4 : EmmcInfo := { sectors := 0, hs200 := { supported := false, tuned := true, bus8 := true, bus4 := true, bus1 := true }, hs := { supported := false, tuned := true, bus8 := true, bus4 := true, bus1 := true }, legacy := { supported := false, tuned := true, bus8 := true, bus4 := true, bus1 := true }, rev := 0, lifeA := 0, lifeB := 0, preEol := 0, unread := [] }

def islandReadV1 : IslandRead := { weak := [], nonCode := true }

def islandReadV2 : IslandRead := { weak := [{ bit := 513, cell := 0, value := CellValue.marginal }, { bit := 513, cell := 1, value := CellValue.marginal }], nonCode := false }

def islandReadV3 : IslandRead := { weak := [], nonCode := false }

def islandReadV4 : IslandRead := { weak := [{ bit := 513, cell := 0, value := CellValue.reads true }, { bit := 513, cell := 1, value := CellValue.reads true }], nonCode := false }

def sealRunV1 : SealRun := { flashOk := true, weak := [], nonCode := true }

def sealRunV2 : SealRun := { flashOk := true, weak := [{ bit := 512, cell := 0, value := CellValue.marginal }, { bit := 512, cell := 1, value := CellValue.marginal }], nonCode := false }

def sealRunV3 : SealRun := { flashOk := true, weak := [], nonCode := false }

def sealRunV4 : SealRun := { flashOk := false, weak := [], nonCode := false }

def eventFrameV1 : EventFrame := { etime := 0x3e8, code := 17, axis := 3, port := 0, parts := 0, args := [1, 0, 0, 0, 0] }

def eventFrameV2 : EventFrame := { etime := 0x3e8, code := 16, axis := 3, port := 0, parts := 16, args := [0x400701a5, 0, 0, 0xa8d800, 0] }

def eventFrameV3 : EventFrame := { etime := 0x3e8, code := 16, axis := 3, port := 0, parts := 33, args := [0, 0x1c89, 0, 0, 0] }

def eventFrameV4 : EventFrame := { etime := 0x3e8, code := 16, axis := 3, port := 0, parts := 16, args := [0, 0, 0, 0, 0] }

def eventFrameV5 : EventFrame := { etime := 0x3e8, code := 16, axis := 3, port := 0, parts := 32, args := [0x400802a5, 1, 0, 0, 0] }

def cycleMarkV1 : CycleMark := { portal := 0, isEnd := false, cycle := 7, time := 0xbb8, incomplete := false, nonCode := false }

def cycleMarkV2 : CycleMark := { portal := 0, isEnd := true, cycle := 7, time := 0xbb8, incomplete := false, nonCode := false }

def cycleMarkV3 : CycleMark := { portal := 0, isEnd := false, cycle := 7, time := 0xbb8, incomplete := true, nonCode := true }

def triggerV1 : Trigger := { cond := 0, stamp := 0x3e8 }

def listFabricUpsetV1 : List FabricUpset := [{ pair := PairId.pommel, copyB := false, cell := 0 }]

def listFabricUpsetV2 : List FabricUpset := [{ pair := PairId.cantle, copyB := true, cell := 0 }]

def listHarnessUpsetV1 : List HarnessUpset := [{ chan2 := false, cell := 0 }]

def kernelInputsV1 : KernelInputs := { dis := { fst := { fst := 0, snd := 0 }, snd := { fst := 0, snd := 0 } }, xsig := { diff := 0, rails := none }, evalUs := 10, graftClean := true }

def frameHdrV1 : FrameHdr := { seq := 255, lane := 0 }

def frameHdrV2 : FrameHdr := { seq := 0, lane := 0 }

def commandFrameV1 : CommandFrame := { cseq := 0, cycle := 0, cls := 0, cust := 0, dstate := 5, order := 0, flags := 3, sw := 0, mseq := 1, motion := { x0 := 0, x1 := 0, x2 := 0 }, cbits := 0 }

def commandFrameV2 : CommandFrame := { cseq := 0, cycle := 0, cls := 2, cust := 0, dstate := 4, order := 0, flags := 3, sw := 0, mseq := 1, motion := { x0 := 64, x1 := 64, x2 := 0 }, cbits := 0 }

def commandFrameV3 : CommandFrame := { cseq := 0, cycle := 0, cls := 2, cust := 0, dstate := 5, order := 0, flags := 3, sw := 0, mseq := 1, motion := { x0 := 64, x1 := 0, x2 := 0 }, cbits := 0 }

def keeperFrameV1 : KeeperFrame := { key := 0, serve := 1 }

def keeperFrameV2 : KeeperFrame := { key := 0x1234, serve := 1 }

def configFrameV1 : ConfigFrame := { op := 1, status := 0, tag := 0, addr := 0, arg := 0, data := [], image := { version := 0, kinds := [], want := [], strc := [] } }

def configFrameV2 : ConfigFrame := { op := 2, status := 0, tag := 0, addr := 0x3000, arg := 1, data := [1, 0, 0, 128], image := { version := 0, kinds := [], want := [], strc := [] } }

def configFrameV3 : ConfigFrame := { op := 2, status := 0, tag := 0, addr := 0x800, arg := 0, data := [1, 0, 0, 0], image := { version := 0, kinds := [], want := [], strc := [] } }

def configFrameV4 : ConfigFrame := { op := 3, status := 0, tag := 0, addr := 0x464f5250, arg := 0x1000000, data := [9, 9], image := { version := 0, kinds := [], want := [], strc := [] } }

def configFrameV5 : ConfigFrame := { op := 4, status := 0, tag := 0, addr := 0x464f5250, arg := 0x1000004, data := [0, 0, 0, 0], image := { version := 0, kinds := [], want := [], strc := [] } }

def configFrameV6 : ConfigFrame := { op := 4, status := 0, tag := 0, addr := 0x464f5250, arg := 0x1000004, data := [199, 75, 103, 72], image := { version := 7, kinds := [1], want := [], strc := [1, 2, 3] } }

def configFrameV7 : ConfigFrame := { op := 5, status := 0, tag := 0, addr := 0, arg := 0, data := [], image := { version := 0, kinds := [], want := [], strc := [4, 5] } }

def configFrameV8 : ConfigFrame := { op := 6, status := 0, tag := 0, addr := 0, arg := 0, data := [], image := { version := 0, kinds := [], want := [], strc := [] } }

def frameHdrV3 : FrameHdr := { seq := 1, lane := 0 }

def helloFrameV1 : HelloFrame := { role := 1, vmax := 3, vmin := 3, vsel := 0, portal := 0, step := 177, lanes := 3, flags := 0, nonce := 0, dly0 := 0, dly1 := 0 }

def helloFrameV2 : HelloFrame := { role := 1, vmax := 3, vmin := 3, vsel := 3, portal := 0, step := 177, lanes := 3, flags := 0, nonce := 0, dly0 := 0, dly1 := 0 }

def helloFrameV3 : HelloFrame := { role := 1, vmax := 3, vmin := 3, vsel := 2, portal := 0, step := 177, lanes := 3, flags := 0, nonce := 0, dly0 := 0, dly1 := 0 }

def eventFrameV6 : EventFrame := { etime := 0x3e8, code := 6, axis := 3, port := 0, parts := 0, args := [] }

def helloFrameV4 : HelloFrame := { role := 2, vmax := 3, vmin := 3, vsel := 0, portal := 0, step := 177, lanes := 3, flags := 0, nonce := 0, dly0 := 0, dly1 := 0 }

def helloFrameV5 : HelloFrame := { role := 2, vmax := 5, vmin := 4, vsel := 0, portal := 0, step := 177, lanes := 3, flags := 0, nonce := 0, dly0 := 0, dly1 := 0 }

def helloFrameV6 : HelloFrame := { role := 2, vmax := 3, vmin := 3, vsel := 3, portal := 0, step := 177, lanes := 3, flags := 1, nonce := 0, dly0 := 0, dly1 := 0 }

def configFrameV9 : ConfigFrame := { op := 133, status := 0, tag := 0, addr := 0, arg := 0, data := [], image := { version := 0, kinds := [], want := [], strc := [] } }

def configFrameV10 : ConfigFrame := { op := 5, status := 0, tag := 0, addr := 0, arg := 0, data := [], image := { version := 0, kinds := [], want := [], strc := [] } }

def configFrameV11 : ConfigFrame := { op := 132, status := 0, tag := 0, addr := 0, arg := 0, data := [], image := { version := 0, kinds := [], want := [], strc := [] } }

def configFrameV12 : ConfigFrame := { op := 4, status := 0, tag := 0, addr := 0, arg := 0, data := [], image := { version := 0, kinds := [], want := [], strc := [] } }

def pwmSampleV1 : PwmSample := { vmot := 0, legs := { x0 := 0, x1 := 0, x2 := 0, x3 := 0 }, gatesLow := false }

def ssiFrameV1 : SsiFrame := { data := 5, status := 1, data2 := 6, status2 := 0, sep := false, trail := true }

def ssiFrameV2 : SsiFrame := { data := 0, status := 0, data2 := 0, status2 := 0, sep := false, trail := false }

def threeFbFoundV1 : Three FbFound := { x0 := { quad := true, ssi := false, sincos := false, hall := false, lineOk := 3 }, x1 := { quad := true, ssi := false, sincos := false, hall := false, lineOk := 3 }, x2 := { quad := true, ssi := false, sincos := false, hall := false, lineOk := 3 } }

def threeFbFoundV2 : Three FbFound := { x0 := { quad := false, ssi := false, sincos := false, hall := false, lineOk := 0 }, x1 := { quad := false, ssi := false, sincos := false, hall := false, lineOk := 0 }, x2 := { quad := false, ssi := false, sincos := false, hall := false, lineOk := 0 } }

def monitorDiffV1 : MonitorDiff := { stuck := { fst := 0, snd := 2 }, mute := { fst := false, snd := false }, torque := { fst := false, snd := false }, effort := { x0 := 0, x1 := 0, x2 := 0 }, counter := { x0 := 0, x1 := 0, x2 := 0 }, nonCode := false }

def monitorDiffV2 : MonitorDiff := { stuck := { fst := 0, snd := 0 }, mute := { fst := false, snd := false }, torque := { fst := false, snd := false }, effort := { x0 := 100, x1 := 0, x2 := 0 }, counter := { x0 := 0, x1 := 0, x2 := 0 }, nonCode := false }

def monitorDiffV3 : MonitorDiff := { stuck := { fst := 0, snd := 0 }, mute := { fst := false, snd := false }, torque := { fst := false, snd := false }, effort := { x0 := 0, x1 := 0, x2 := 0 }, counter := { x0 := 0, x1 := 5, x2 := 0 }, nonCode := false }

def monitorDiffV4 : MonitorDiff := { stuck := { fst := 0, snd := 0 }, mute := { fst := false, snd := false }, torque := { fst := false, snd := false }, effort := { x0 := 0, x1 := 0, x2 := 0 }, counter := { x0 := 0, x1 := 0, x2 := 0 }, nonCode := true }

def monitorDiffV5 : MonitorDiff := { stuck := { fst := 0, snd := 0 }, mute := { fst := false, snd := false }, torque := { fst := false, snd := true }, effort := { x0 := 0, x1 := 0, x2 := 0 }, counter := { x0 := 0, x1 := 0, x2 := 0 }, nonCode := false }

def crossReadingsV1 : CrossReadings := { adc0 := { fst := { code := 0, ovr := false }, snd := { code := 0, ovr := false } }, adc1 := { fst := { code := 0, ovr := false }, snd := { code := 0, ovr := false } } }

def crossReadingsV2 : CrossReadings := { adc0 := { fst := { code := 0x3fff, ovr := false }, snd := { code := 0x3fff, ovr := false } }, adc1 := { fst := { code := 0, ovr := false }, snd := { code := 0, ovr := false } } }

/-- The next state that an outcome answers. -/
def nextOf (o : Host.Outcome State Fault Refusal) : State :=
  match o with
  | .next t => t
  | _ => {}

/-- An outcome answers a next state. -/
def isNext (o : Host.Outcome State Fault Refusal) : Bool :=
  match o with
  | .next _ => true
  | _ => false

theorem next_of {o : Host.Outcome State Fault Refusal} (h : isNext o = true) : o = .next (nextOf o) := by
  cases o <;> simp_all [isNext, nextOf]

theorem portReady_of {s : State} (h : (s.port.hrdy == s.ready) = true) : s.PortReady := by simpa [State.PortReady] using h

theorem memoriesWf_of {s : State} (h : cellsWf 0xFF s.harn.flash = true ∧ cellsWf 0 s.arch.medium = true) : s.MemoriesWf := h

theorem pair_eta {α β : Type} (x : α × β) : x = (x.1, x.2) := rfl

theorem some_pair {α β : Type} {o : Option (α × β)} (h : o.isSome = true) : o = some ((o.get h).1, (o.get h).2) := by simp

theorem some_triple {α β γ : Type} {o : Option (α × β × γ)} (h : o.isSome = true) :
    o = some ((o.get h).1, (o.get h).2.1, (o.get h).2.2) := by simp

theorem some_quad {α β γ δ : Type} {o : Option (α × β × γ × δ)} (h : o.isSome = true) :
    o = some ((o.get h).1, (o.get h).2.1, (o.get h).2.2.1, (o.get h).2.2.2) := by simp

theorem calm_of {P : PortalState} (h : P.por = false ∧ (P.cls = .fault ∨ ∀ a, (P.axes.get a).trip = false) ∧
    P.link.outcomeWaits = false ∧ P.ob.lclrCount = false) : P.calm := h

theorem engineCalm_of {s : State} (h : s.port.pending = none ∧ (s.can .a).fdRun < 2 ∧ (s.can .b).fdRun < 2) : s.engineCalm :=
  ⟨h.1, fun c => by cases c <;> simp [h.2]⟩

theorem engineIdle_of {s : State}
    (h : s.port.pending = none ∧ ([Channel.host, .canA, .canB].all fun ch => (s.chan ch).waiting.isEmpty && (s.chan ch).followUp.isNone) = true ∧
      s.nelz.answers = [] ∧ s.seq.results = [] ∧ s.seq.summaries = [] ∧ (s.can .a).fdRun < 2 ∧ (s.can .b).fdRun < 2 ∧
      ([CanId.a, .b].all fun c => (List.range 8).all fun i => !s.unfit (canChan c) c i) = true) : s.engineIdle := by
  have hu := h.2.2.2.2.2.2.2
  simp only [List.all_cons, List.all_nil, Bool.and_true, Bool.and_eq_true, List.all_eq_true, List.mem_range, Bool.not_eq_true'] at hu
  refine ⟨h.1, fun ch => ?_, h.2.2.1, h.2.2.2.1, h.2.2.2.2.1, fun c => ?_⟩
  swap
  · cases c
    · exact ⟨h.2.2.2.2.2.1, hu.1⟩
    · exact ⟨h.2.2.2.2.2.2.1, hu.2⟩
  have := h.2.1
  simp only [List.all_cons, List.all_nil, Bool.and_true, Bool.and_eq_true, List.isEmpty_iff, Option.isNone_iff_eq_none] at this
  cases ch <;> simp [this]

theorem hears_of {s : State} {ch : Channel} {node : BitVec 6} {msg : Nat} {b : List Byte}
    (h : s.nelzOn ch = true ∧ node ≠ 0 ∧ s.nelzCfg.takes msg b.length = true ∧ (msg = 0 ∨ s.nelzCfg.excluded (s.chan ch).peers node = false)) :
    s.hears ch node msg b := h


theorem armedFor_of {s : State} {src : CmdSource} {tgt scope : Nat}
    (h : s.maySend src = true ∧ s.portFree ∧ s.psm.busy = none ∧ (s.psm.arm.any fun a =>
      a.word == armWordOf tgt scope && sameSource src a.src && decide (s.clock - a.at_ ≤ 10000000)) = true) : s.armedFor src tgt scope := by
  obtain ⟨h1, h2, h3, h4⟩ := h
  refine ⟨h1, h2, h3, ?_⟩
  cases ha : s.psm.arm with
  | none => rw [ha] at h4; simp at h4
  | some a =>
    rw [ha] at h4
    simp only [Option.any_some, Bool.and_eq_true, beq_iff_eq, decide_eq_true_eq] at h4
    exact ⟨a, rfl, h4.1.1, h4.1.2, h4.2⟩

theorem not_retraining {s : State} {p : PortalId} (h : ((s.links.get p).fin.retrain ||| (s.portals.get p).link.fin.retrain) = 0) :
    ¬s.retraining p := fun k => k h

theorem forall_pair {q : PairId → Prop} (h : q .pommel ∧ q .cantle) : ∀ i, q i := fun i => by
  cases i
  · exact h.1
  · exact h.2

theorem forall_some {α : Type} {o : Option α} {q : α → Prop} [DecidablePred q] (h : (o.all fun x => decide (q x)) = true) :
    ∀ x, o = some x → q x := fun x e => by
  rw [e] at h
  exact of_decide_eq_true h

theorem and_false_of {a b : Bool} (h : b = false) : (a && b) = false := by simp [h]

theorem one_word {n : Nat} {q : Nat → Prop} (h : n = 1) (h0 : q 0) : ∀ i, i < n → q i := fun i hi => by
  obtain rfl : i = 0 := by omega
  exact h0

/-- An observer with nothing to follow keeps its speed. -/
theorem observe_vHat_same {f : FbState} {c : FbCfg} {ck : Nat} (h : (f.still || f.firstEdge) = false)
    (hr : (!(c.kind == 2 || c.kind == 3) || f.fresh) = false) (ha : f.aHat = 0) : (f.observe c ck).vHat = f.vHat := by
  simp only [FbState.observe, h, hr, ha]
  simp

theorem observe_gt {f : FbState} {c : FbCfg} {ck : Nat} {x y : Rat}
    (h : (f.still || f.firstEdge) = false ∧ (!(c.kind == 2 || c.kind == 3) || f.fresh) = false ∧ f.aHat = 0) (hx : x < |f.vHat| * y) :
    x < |(f.observe c ck).vHat| * y := by
  rw [observe_vHat_same h.1 h.2.1 h.2.2]
  exact hx

/-- Each premise of `Obligations.StepTakesFrontCommand` can be met. -/
theorem test_witness_StepTakesFrontCommand :
    (∃ (s : State) (c : Instr) (rest : List Instr), s.pending = c :: rest) :=
  ⟨sPendingCmd, (sPendingCmd.pending).head (by decide +kernel), (sPendingCmd.pending).tail, by decide +kernel⟩

/-- Each premise of `Obligations.EmptyQueueIsOnePeriod` can be met. -/
theorem test_witness_EmptyQueueIsOnePeriod :
    (∃ (s : State), s.pending = [] ∧ s.portFree) :=
  ⟨sReset, by decide +kernel⟩

/-- Each premise of `Obligations.EveryStepKeepsHrdy` can be met. -/
theorem test_witness_EveryStepKeepsHrdy :
    (∃ (s : State) (t : State), s.PortReady ∧ step s = .next t) :=
  ⟨sReset, nextOf (step sReset), portReady_of (by decide +kernel), next_of (by decide +kernel)⟩

/-- Each premise of `Obligations.PortalCommandsStayOnTheirDie` can be met. -/
theorem test_witness_PortalCommandsStayOnTheirDie :
    (∃ (c : Instr) (p : PortalId) (s : State) (t : State), c.portalDie = some p ∧ exec c s = .next t ∧ (s.portals.get p).por = true) :=
  ⟨.adcFrame 0 (.all ⟨0, false⟩), ((.adcFrame 0 (.all ⟨0, false⟩) : Instr).portalDie).get (by decide +kernel), onDies pPor, nextOf (exec
      (.adcFrame 0 (.all ⟨0, false⟩) : Instr) (onDies pPor)), (Option.some_get (by decide +kernel)).symm, next_of (by decide +kernel),
      by decide +kernel⟩

/-- Each premise of `Obligations.DeliveredFramesStayOnTheirLink` can be met. -/
theorem test_witness_DeliveredFramesStayOnTheirLink :
    (∃ (c : Instr) (p : PortalId) (s : State) (t : State), c.deliveredTo = some p ∧ exec c s = .next t) :=
  ⟨.commandReceived 2 (hd 1) cmd0 true false, ((.commandReceived 2 (hd 1) cmd0 true false : Instr).deliveredTo).get (by decide +kernel),
      sReset, nextOf (exec (.commandReceived 2 (hd 1) cmd0 true false : Instr) sReset), (Option.some_get (by decide +kernel)).symm, next_of
      (by decide +kernel)⟩

/-- Each premise of `Obligations.ResetAndReleaseOfHostDie` can be met. -/
theorem test_witness_ResetAndReleaseOfHostDie :
    (∃ (s : State), s.psm.porHeld = true ∧ s.psm.resetLow = false ∧ s.portFree) ∧
    (∃ (s : State), s.psm.porHeld = false ∧ s.psm.resetLow = true ∧ s.portFree) :=
  ⟨⟨sReset, by decide +kernel⟩,
   ⟨sRstLow, by decide +kernel⟩⟩

/-- Each premise of `Obligations.StartUpToFlashDiscovery` can be met. -/
theorem test_witness_StartUpToFlashDiscovery :
    (∃ (s : State) (r : List CellRead), s.booting .fuseLoad = true ∧ s.portFree ∧ (s.fuse.load r).2 = true) ∧
    (∃ (s : State) (r : List CellRead), s.booting .fuseLoad = true ∧ s.portFree ∧ (s.fuse.load r).2 = false) ∧
    (∃ (s : State) (p : AwlRun), s.booting .awl = true ∧ s.portFree ∧ (∀ i, (s.pair i).failedSince = false) ∧
        (s.pair .pommel).state ≠ .retired ∧ awlPass p = true) ∧
    (∃ (s : State) (p : AwlRun) (c : AwlRun), s.booting .awl = true ∧ s.portFree ∧ (∀ i, (s.pair i).failedSince = false) ∧ (∀ i,
        (s.pair i).state ≠ .retired) ∧ awlPass p = false ∧ awlPass c = true) ∧
    (∃ (s : State) (p : AwlRun) (c : AwlRun), s.booting .awl = true ∧ s.portFree ∧ (∀ i, (s.pair i).failedSince = false) ∧ (∀ i,
        (s.pair i).state ≠ .retired) ∧ awlPass p = false ∧ awlPass c = false) ∧
    (∃ (s : State), s.booting .flashWait = true ∧ s.portFree) ∧
    (∃ (s : State) (d : FlashDevice) (x : Nat × Nat), s.booting .discovery = true ∧ s.portFree ∧ s.psm.flashDev = some d ∧
        settle s.harn.flash d = some x ∧ d.readable.getLsbD x.1 = true) ∧
    (∃ (s : State) (d : FlashDevice), s.booting .discovery = true ∧ s.portFree ∧ s.psm.flashDev = some d ∧ settle s.harn.flash d = none) :=
  ⟨⟨sBFuse, [], by decide +kernel⟩,
   ⟨sBFuse, listCellReadV1, by decide +kernel⟩,
   ⟨sBAwl, awlRunV1, by decide +kernel, by decide +kernel, forall_pair (by decide +kernel), by decide +kernel⟩,
   ⟨sBAwl, awlRunV2, awlRunV1, by decide +kernel, by decide +kernel, forall_pair (by decide +kernel), forall_pair (by decide +kernel),
        by decide +kernel⟩,
   ⟨sBAwl, awlRunV2, awlRunV2, by decide +kernel, by decide +kernel, forall_pair (by decide +kernel), forall_pair (by decide +kernel),
        by decide +kernel⟩,
   ⟨sBFlash, by decide +kernel⟩,
   ⟨sBDisc1, (sBDisc1.psm.flashDev).get (by decide +kernel), (settle sBDisc1.harn.flash ((sBDisc1.psm.flashDev).get
        (by decide +kernel))).get (by decide +kernel), by decide +kernel, by decide +kernel, (Option.some_get (by decide +kernel)).symm,
        (Option.some_get (by decide +kernel)).symm, by decide +kernel⟩,
   ⟨sBDisc, (sBDisc.psm.flashDev).get (by decide +kernel), by decide +kernel, by decide +kernel, (Option.some_get (by decide +kernel)).symm,
        by decide +kernel⟩⟩

/-- Each premise of `Obligations.ImageSelectionAndLoad` can be met. -/
theorem test_witness_ImageSelectionAndLoad :
    (∃ (s : State) (g : Image), s.booting .imageRead = true ∧ s.portFree ∧ (checkContent s.harn.flash s.bootRegion).image = some g) ∧
    (∃ (s : State), s.booting .imageRead = true ∧ s.portFree ∧ s.psm.phase = 4 ∧ (checkContent s.harn.flash .a).image = none) ∧
    (∃ (s : State), s.booting .imageRead = true ∧ s.portFree ∧ s.psm.phase = 5 ∧ (checkContent s.harn.flash .b).image = none) ∧
    (∃ (s : State) (g : Image), s.booting .signature = true ∧ s.portFree ∧ s.harn.candidate = some g ∧ g.signWhy s.harn.flash s.fuse = 0) ∧
    (∃ (s : State) (g : Image), s.booting .signature = true ∧ s.portFree ∧ s.harn.candidate = some g ∧ g.signWhy s.harn.flash s.fuse ≠ 0 ∧
        s.psm.phase = 4) ∧
    (∃ (s : State) (g : Image), s.booting .signature = true ∧ s.portFree ∧ s.harn.candidate = some g ∧ g.signWhy s.harn.flash s.fuse ≠ 0 ∧
        s.psm.phase = 5) ∧
    (∃ (s : State) (g : Image), s.booting .fabric = true ∧ s.portFree ∧ s.harn.image = some g) ∧
    (∃ (s : State), s.booting .training = true ∧ s.portFree ∧ 0 < s.admittedPairs ∧ s.harn.image.isSome = true) :=
  ⟨⟨sRImg4, ((checkContent sRImg4.harn.flash sRImg4.bootRegion).image).get (by decide +kernel), by decide +kernel, by decide +kernel,
        (Option.some_get (by decide +kernel)).symm⟩,
   ⟨sBImg4, by decide +kernel⟩,
   ⟨sBImg5, by decide +kernel⟩,
   ⟨sRSig, (sRSig.harn.candidate).get (by decide +kernel), by decide +kernel, by decide +kernel, (Option.some_get (by decide +kernel)).symm,
        by decide +kernel⟩,
   ⟨sBSig, (sBSig.harn.candidate).get (by decide +kernel), by decide +kernel, by decide +kernel, (Option.some_get (by decide +kernel)).symm,
        by decide +kernel⟩,
   ⟨sBSig5, (sBSig5.harn.candidate).get (by decide +kernel), by decide +kernel, by decide +kernel, (Option.some_get
        (by decide +kernel)).symm, by decide +kernel⟩,
   ⟨sBFab, (sBFab.harn.image).get (by decide +kernel), by decide +kernel, by decide +kernel, (Option.some_get (by decide +kernel)).symm⟩,
   ⟨sTUnsB, by decide +kernel⟩⟩

/-- Each premise of `Obligations.ArmingOfStateCommands` can be met. -/
theorem test_witness_ArmingOfStateCommands :
    (∃ (s : State) (src : CmdSource) (w : Word), s.maySend src = true ∧ s.portFree ∧ s.psm.arm = none ∧ s.psm.busy = none ∧
        s.armWord w = true ∧ s.granted src.ch (psmTarget w) = true) ∧
    (∃ (s : State) (src : CmdSource) (w : Word), s.maySend src = true ∧ s.portFree ∧ s.psm.arm = none ∧ s.psm.busy = none ∧
        s.armWord w = true ∧ s.granted src.ch (psmTarget w) = false) ∧
    (∃ (s : State) (a : Arm) (w : Word), s.psm.arm = some a ∧ s.clock - a.at_ ≤ 10000000 ∧ s.maySend a.src = true ∧ s.portFree ∧
        w ≠ ~~~a.word) :=
  ⟨⟨sBase, cmdSourceV1, 0xc5000050, by decide +kernel⟩,
   ⟨sNoGrant, cmdSourceV1, 0xc5000050, by decide +kernel⟩,
   ⟨sArmOther, (sArmOther.psm.arm).get (by decide +kernel), 0x80100008, (Option.some_get (by decide +kernel)).symm, by decide +kernel⟩⟩

/-- Each premise of `Obligations.ExecuteWordsCarryOutTransitions` can be met. -/
theorem test_witness_ExecuteWordsCarryOutTransitions :
    (∃ (s : State) (src : CmdSource), s.armedFor src 5 0 ∧ s.psm.state = .standby ∧ (s.admittedPairs = 2 ∨ (s.admittedPairs = 1 ∧
        wbit s.psm.grant 24 = true))) ∧
    (∃ (s : State) (src : CmdSource), s.armedFor src 4 0 ∧ ((s.psm.state = .service ∧ s.anyMoving = false) ∨ (s.psm.state = .maintain ∧
        s.harn.image.isSome = true ∧ s.harn.verified = true))) ∧
    (∃ (s : State) (src : CmdSource), s.armedFor src 4 0 ∧ s.psm.state = .dormant) ∧
    (∃ (s : State) (src : CmdSource), s.armedFor src 3 0 ∧ s.psm.state = .standby) ∧
    (∃ (s : State) (src : CmdSource), s.armedFor src 6 0 ∧ (s.psm.state = .standby ∨ s.psm.state = .safe) ∧ 0 < s.admittedPairs ∧
        s.pwHeldBy src = true ∧ s.sealLow = false) ∧
    (∃ (s : State) (src : CmdSource), s.armedFor src 7 0 ∧ (s.psm.state = .standby ∨ s.psm.state = .safe)) ∧
    (∃ (s : State) (src : CmdSource) (i : PairId), s.armedFor src 7 1 ∧ s.psm.state = .service ∧ s.lock.lead = some i ∧
        (s.pair i.other).admitted = false ∧ (s.pair i.other).state ≠ .retired ∧ (s.pair i.other).fails < 4 ∧ (s.pair i).admitted = true) ∧
    (∃ (s : State) (src : CmdSource), s.armedFor src 0 0 ∧ (s.psm.state = .standby ∨ s.psm.state = .dormant ∨ s.psm.state = .maintain ∨
        s.psm.state = .safe)) :=
  ⟨⟨sArmOther, cmdSourceV2, armedFor_of (by decide +kernel), by decide +kernel⟩,
   ⟨sArm4s0service, cmdSourceV1, armedFor_of (by decide +kernel), by decide +kernel⟩,
   ⟨sArm4s0dormant, cmdSourceV1, armedFor_of (by decide +kernel), by decide +kernel⟩,
   ⟨sArm3s0standby, cmdSourceV1, armedFor_of (by decide +kernel), by decide +kernel⟩,
   ⟨sArmPw6s0standby, cmdSourceV1, armedFor_of (by decide +kernel), by decide +kernel⟩,
   ⟨sArm7s0standby, cmdSourceV1, armedFor_of (by decide +kernel), by decide +kernel⟩,
   ⟨sArmOnePair7s1service, cmdSourceV1, (sArmOnePair7s1service.lock.lead).get (by decide +kernel), armedFor_of (by decide +kernel),
        by decide +kernel, (Option.some_get (by decide +kernel)).symm, by decide +kernel⟩,
   ⟨sArm0s0standby, cmdSourceV1, armedFor_of (by decide +kernel), by decide +kernel⟩⟩

/-- Each premise of `Obligations.FalseGuardAndForcedSafeRefuseExecuteWord` can be met. -/
theorem test_witness_FalseGuardAndForcedSafeRefuseExecuteWord :
    (∃ (s : State) (src : CmdSource) (at_ : Nat) (tgt : Nat) (scope : Nat) (why : _), s.maySend src = true ∧ s.portFree ∧
        s.psm.arm = some { word := armWordOf tgt scope, src := src, at_ := at_, seq := none } ∧ s.clock - at_ ≤ 10000000 ∧ tgt = ((5, 0,
        Instr.executeService src)).1 ∧ scope = ((5, 0, Instr.executeService src)).2.1 ∧ hasTransition s.psm.state tgt scope = true ∧
        ((tgt = 5 ∧ s.admittedPairs = 0 ∧ why = 7) ∨ (tgt = 5 ∧ s.admittedPairs = 1 ∧ wbit s.psm.grant 24 = false ∧ why = 7) ∨ (tgt = 4 ∧
        s.psm.state = .service ∧ s.anyMoving = true ∧ why = 6) ∨ (tgt = 4 ∧ s.psm.state = .maintain ∧ (s.harn.image = none ∨
        s.harn.verified = false) ∧ why = 10) ∨ (tgt = 6 ∧ s.admittedPairs = 0 ∧ why = 7) ∨ (tgt = 6 ∧ 0 < s.admittedPairs ∧
        s.pwHeldBy src = false ∧ why = 8) ∨ (tgt = 6 ∧ 0 < s.admittedPairs ∧ s.pwHeldBy src = true ∧ s.sealLow = true ∧ why = 9) ∨
        (scope = 1 ∧ s.lock.lead = none ∧ why = 7) ∨ (∃ i, scope = 1 ∧ s.lock.lead = some i ∧ (s.pair i).admitted = true ∧
        (s.pair i.other).admitted = true ∧ why = 12))) ∧
    (∃ (s : State) (src : CmdSource) (at_ : Nat) (tgt : Nat) (scope : Nat), s.maySend src = true ∧ s.portFree ∧
        s.psm.arm = some { word := armWordOf tgt scope, src := src, at_ := at_, seq := none } ∧ s.clock - at_ ≤ 10000000 ∧ tgt = ((5, 0,
        Instr.executeService src)).1 ∧ scope = ((5, 0, Instr.executeService src)).2.1 ∧ (s.psm.state = .standby ∨ s.psm.state = .service ∨
        s.psm.state = .maintain ∨ s.psm.state = .dormant)) :=
  ⟨⟨sArmNoPair5s0standby, cmdSourceV1, 4995000000, 5, 0, 7, by decide +kernel, by decide +kernel, by decide +kernel, by decide +kernel,
        by decide +kernel, by decide +kernel, by decide +kernel, .inl (by decide +kernel)⟩,
   ⟨sArm5s0standby, cmdSourceV1, 4995000000, 5, 0, by decide +kernel⟩⟩

/-- Each premise of `Obligations.OtherSourceBusyAndUnknownTargetRefused` can be met. -/
theorem test_witness_OtherSourceBusyAndUnknownTargetRefused :
    (∃ (s : State) (src : CmdSource) (a : Arm), s.maySend src = true ∧ s.portFree ∧ s.psm.arm = some a ∧ s.clock - a.at_ ≤ 10000000 ∧
        (src.ch ≠ a.src.ch ∨ (src.ch ≠ .host ∧ src.node ≠ a.src.node))) ∧
    (∃ (s : State) (src : CmdSource), s.maySend src = true ∧ s.portFree ∧ s.psm.arm = none ∧ s.psm.busy.isSome = true) ∧
    (∃ (s : State) (src : CmdSource) (w : Word), s.maySend src = true ∧ s.portFree ∧ s.psm.arm = none ∧ s.psm.busy = none ∧
        hasTransition s.psm.state (fget w 7 4) (fget w 3 3) = false) :=
  ⟨⟨sArmOther, cmdSourceV1, (sArmOther.psm.arm).get (by decide +kernel), by decide +kernel, by decide +kernel, (Option.some_get
        (by decide +kernel)).symm, by decide +kernel⟩,
   ⟨sToDormant, cmdSourceV1, by decide +kernel⟩,
   ⟨sBase, cmdSourceV1, 0x80100008, by decide +kernel⟩⟩

/-- Each premise of `Obligations.TransitionsThatTakeTimeAndWake` can be met. -/
theorem test_witness_TransitionsThatTakeTimeAndWake :
    (∃ (s : State) (src : CmdSource) (at_ : Nat), s.psm.busy = some (.toDormant src at_) ∧ s.flushOver at_ = true ∧ s.portFree) ∧
    (∃ (s : State) (src : CmdSource) (at_ : Nat), s.psm.busy = some (.toOff src at_) ∧ s.flushOver at_ = true ∧ s.portFree) ∧
    (∃ (s : State) (src : CmdSource) (p : AwlRun), s.psm.state = .dormant ∧ s.psm.busy = some (.fromDormant src) ∧ s.portFree ∧ (∀ i,
        (s.pair i).failedSince = false) ∧ (s.pair .pommel).state ≠ .retired ∧ awlPass p = true) ∧
    (∃ (s : State) (src : CmdSource), s.psm.busy = some (.linksBack src) ∧ s.psm.state = .dormant ∧ (∀ p, (s.link p).phase = .running ∨
        (s.link p).phase = .down ∨ 10000000 ≤ s.clock - (s.link p).trainFrom)) ∧
    (∃ (s : State) (p : AwlRun), s.psm.state = .selftest ∧ s.psm.pairScope = false ∧ s.portFree ∧ (∀ i, (s.pair i).failedSince = false) ∧
        (s.pair .pommel).state ≠ .retired ∧ awlPass p = true ∧ s.harn.image.isSome = true) ∧
    (∃ (s : State), s.inReset = false ∧ (s.psm.state = .standby ∨ s.psm.state = .service ∨ s.psm.state = .maintain) ∧ s.portFree) ∧
    (∃ (s : State), s.asleep = false ∧ s.portFree) ∧
    (∃ (s : State) (c : CanId), s.asleep = true ∧ (s.can c).standby = true ∧ s.portFree) ∧
    (∃ (s : State) (c : CanId), (s.can c).standby = false ∧ s.portFree) :=
  ⟨⟨sToDormant, cmdSourceV1, 4999000000, by decide +kernel⟩,
   ⟨sToOff, cmdSourceV1, 4999000000, by decide +kernel⟩,
   ⟨sFromDormant, cmdSourceV1, awlRunV1, by decide +kernel, by decide +kernel, by decide +kernel, forall_pair (by decide +kernel),
        by decide +kernel⟩,
   ⟨sLinksBack, cmdSourceV1, by decide +kernel⟩,
   ⟨sSelftest, awlRunV1, by decide +kernel, by decide +kernel, by decide +kernel, forall_pair (by decide +kernel), by decide +kernel⟩,
   ⟨sBase, by decide +kernel⟩,
   ⟨sReset, by decide +kernel⟩,
   ⟨sDormantCanStb, CanId.a, by decide +kernel⟩,
   ⟨sReset, CanId.a, by decide +kernel⟩⟩

/-- Each premise of `Obligations.HostPortReadStatusRepeatAbort` can be met. -/
theorem test_witness_HostPortReadStatusRepeatAbort :
    (∃ (s : State) (r : SpiRequest), s.portAlive = true ∧ s.portFree ∧ requestOk r = true ∧ r.cmd = 3 ∧ r.length = 0) ∧
    (∃ (s : State) (r : SpiRequest) (x : SpiResponse), s.portAlive = true ∧ s.portFree ∧ requestOk r = true ∧ r.cmd = 4 ∧ r.length = 0 ∧
        s.port.stored = some x) ∧
    (∃ (s : State) (r : SpiRequest) (v : Nat → Word), s.portAlive = true ∧ s.portFree ∧ requestOk r = true ∧ r.cmd = 1 ∧
        reqMisaligned r = false ∧ (∀ i, i < reqWords r → portalWord (reqAddr r i) = none ∧ s.serves (reqAddr r i) = true ∧ s.hostRead
        (reqAddr r i) = some (v i) ∧ s.readEffect (reqAddr r i) = s)) :=
  ⟨⟨sBase, crcOf 3 0 0 9 [], by decide +kernel⟩,
   ⟨sPortStored, crcOf 4 0 0 9 [], (sPortStored.port.stored).get (by decide +kernel), by decide +kernel, by decide +kernel,
        by decide +kernel, by decide +kernel, by decide +kernel, (Option.some_get (by decide +kernel)).symm⟩,
   ⟨sBase, crcOf 1 0x3000 4 9 [], fun _ => 0, by decide +kernel, by decide +kernel, by decide +kernel, by decide +kernel, by decide +kernel,
        one_word (by decide +kernel) ⟨by decide +kernel, by decide +kernel, by decide +kernel, rfl⟩⟩⟩

/-- Each premise of `Obligations.HostPortRejections` can be met. -/
theorem test_witness_HostPortRejections :
    (∃ (s : State) (r : SpiRequest), s.portAlive = true ∧ s.portFree ∧ requestOk r = false ∧ r.cmd = 2) ∧
    (∃ (s : State) (r : SpiRequest), s.portAlive = true ∧ s.portFree ∧ requestOk r = true ∧ (r.cmd = 0 ∨ 4 < r.cmd.toNat)) ∧
    (∃ (s : State) (r : SpiRequest), s.portAlive = true ∧ s.portFree ∧ requestOk r = true ∧ r.cmd = 1 ∧ reqMisaligned r = true) ∧
    (∃ (s : State) (r : SpiRequest), s.portAlive = true ∧ s.port.pending.isSome = true ∧ requestOk r = true ∧ r.cmd = 2) ∧
    (∃ (s : State), s.portAlive = false) :=
  ⟨⟨sBase, spiRequestV1, by decide +kernel⟩,
   ⟨sBase, crcOf 0 0 0 9 [], by decide +kernel⟩,
   ⟨sBase, crcOf 1 0x3001 4 9 [], by decide +kernel⟩,
   ⟨sPortPend, crcOf 2 0x3004 4 2 [1], by decide +kernel⟩,
   ⟨sReset, by decide +kernel⟩⟩

/-- Each premise of `Obligations.RepeatedWriteNotDoneTwice` can be met. -/
theorem test_witness_RepeatedWriteNotDoneTwice :
    (∃ (s : State) (r : SpiRequest) (x : SpiResponse), s.portAlive = true ∧ s.portFree ∧ requestOk r = true ∧ r.cmd = 2 ∧
        s.port.stored = some x ∧ x.seq = r.seq ∧ x.reqCrc = r.crc) :=
  ⟨sPortStored, crcOf 2 0x3000 4 1 [1], (sPortStored.port.stored).get (by decide +kernel), by decide +kernel, by decide +kernel,
      by decide +kernel, by decide +kernel, (Option.some_get (by decide +kernel)).symm, by decide +kernel⟩

/-- Each premise of `Obligations.WriteOfWords` can be met. -/
theorem test_witness_WriteOfWords :
    (∃ (s : State) (r : SpiRequest), s.portAlive = true ∧ s.portFree ∧ requestOk r = true ∧ r.cmd = 2 ∧ reqRejected r = 0 ∧
        s.repeated r = none ∧ (∀ i, i < reqWords r → portalWord (reqAddr r i) = none) ∧ ((List.range (reqWords r)).foldl (fun
        (x : State × List Nat) i => let w := x.1.writeWord (reqAddr r i) (r.payload.getD i 0) 0; (w.state, x.2 ++ [w.status])) (s,
        [])).1.portFree) ∧
    (∃ (s : State) (r : SpiRequest) (p : _) (o : _), s.portAlive = true ∧ s.portFree ∧ requestOk r = true ∧ r.cmd = 2 ∧ reqRejected r = 0 ∧
        s.repeated r = none ∧ reqWords r = 1 ∧ portalWord (reqAddr r 0) = some (p, o) ∧ s.serves (reqAddr r 0) = false) ∧
    (∃ (s : State) (r : SpiRequest) (p : _) (o : _), s.portAlive = true ∧ s.portFree ∧ requestOk r = true ∧ r.cmd = 2 ∧ reqRejected r = 0 ∧
        s.repeated r = none ∧ reqWords r = 1 ∧ portalWord (reqAddr r 0) = some (p, o) ∧ s.serves (reqAddr r 0) = true ∧
        (s.link p).up = false) ∧
    (∃ (s : State) (r : SpiRequest) (p : _) (o : _), s.portAlive = true ∧ s.portFree ∧ requestOk r = true ∧ r.cmd = 2 ∧ reqRejected r = 0 ∧
        s.repeated r = none ∧ reqWords r = 1 ∧ portalWord (reqAddr r 0) = some (p, o) ∧ s.serves (reqAddr r 0) = true ∧
        (s.link p).up = true) ∧
    (∃ (s : State) (a : Nat), noBlock a = true ∧ a % 4 = 0 ∧ s.psm.state ≠ .off) :=
  ⟨⟨sBase, crcOf 2 0x3004 4 2 [1], by decide +kernel⟩,
   ⟨sFuseFail, crcOf 2 0x10000 4 9 [1], ((portalWord (reqAddr (crcOf 2 0x10000 4 9 [1]) 0)).get (by decide +kernel)).1, ((portalWord
        (reqAddr (crcOf 2 0x10000 4 9 [1]) 0)).get (by decide +kernel)).2, by decide +kernel, by decide +kernel, by decide +kernel,
        by decide +kernel, by decide +kernel, by decide +kernel, by decide +kernel, some_pair (by decide +kernel), by decide +kernel⟩,
   ⟨sLinkDown, crcOf 2 0x10000 4 9 [1], ((portalWord (reqAddr (crcOf 2 0x10000 4 9 [1]) 0)).get (by decide +kernel)).1, ((portalWord
        (reqAddr (crcOf 2 0x10000 4 9 [1]) 0)).get (by decide +kernel)).2, by decide +kernel, by decide +kernel, by decide +kernel,
        by decide +kernel, by decide +kernel, by decide +kernel, by decide +kernel, some_pair (by decide +kernel), by decide +kernel⟩,
   ⟨sBase, crcOf 2 0x10000 4 9 [1], ((portalWord (reqAddr (crcOf 2 0x10000 4 9 [1]) 0)).get (by decide +kernel)).1, ((portalWord (reqAddr
        (crcOf 2 0x10000 4 9 [1]) 0)).get (by decide +kernel)).2, by decide +kernel, by decide +kernel, by decide +kernel,
        by decide +kernel, by decide +kernel, by decide +kernel, by decide +kernel, some_pair (by decide +kernel), by decide +kernel⟩,
   ⟨sReset, 528384, by decide +kernel⟩⟩

/-- Each premise of `Obligations.RegisterWriteFlags` can be met. -/
theorem test_witness_RegisterWriteFlags :
    (∃ (s : State), s.portAlive = true ∧ s.serves 0x3000 = true) ∧
    (∃ (s : State), s.portAlive = true ∧ s.serves 0x3004 = true) ∧
    (∃ (s : State), s.portAlive = true ∧ s.serves 0x3008 = true) :=
  ⟨⟨sBase, by decide +kernel⟩,
   ⟨sBase, by decide +kernel⟩,
   ⟨sBase, by decide +kernel⟩⟩

/-- Each premise of `Obligations.RegisterWriteInPortalBlock` can be met. -/
theorem test_witness_RegisterWriteInPortalBlock :
    (∃ (s : State) (addr : Word) (p : PortalId) (o : Nat), s.portAlive = true ∧ addr.toNat % 4 = 0 ∧ portalWord addr.toNat = some (p, o) ∧
        s.serves addr.toNat = true ∧ (s.link p).up = false) ∧
    (∃ (s : State) (addr : Word) (v : Word) (raced : Word) (p : PortalId) (o : Nat), s.portAlive = true ∧ addr.toNat % 4 = 0 ∧
        portalWord addr.toNat = some (p, o) ∧ s.serves addr.toNat = true ∧ (s.link p).up = true ∧
        ((s.portals.get p).write s.clock p o v raced).portal.calm) :=
  ⟨⟨sLinkDown, 0x10004, ((portalWord (0x10004 : Word).toNat).get (by decide +kernel)).1, ((portalWord (0x10004 : Word).toNat).get
        (by decide +kernel)).2, by decide +kernel, by decide +kernel, some_pair (by decide +kernel), by decide +kernel⟩,
   ⟨sBase, 0x10004, 0x80100008, 0x80100008, ((portalWord (0x10004 : Word).toNat).get (by decide +kernel)).1, ((portalWord
        (0x10004 : Word).toNat).get (by decide +kernel)).2, by decide +kernel, by decide +kernel, some_pair (by decide +kernel),
        by decide +kernel, by decide +kernel, calm_of (by decide +kernel)⟩⟩

/-- Each premise of `Obligations.TsyncTimeLoReadAndTimeCmdStep` can be met. -/
theorem test_witness_TsyncTimeLoReadAndTimeCmdStep :
    (∃ (s : State), s.portAlive = true ∧ s.serves 0x2000 = true) ∧
    (∃ (s : State), s.inReset = false ∧ s.time.tsyncOut = false) ∧
    (∃ (s : State), s.inReset = false ∧ s.time.tsyncOut = true) ∧
    (∃ (s : State), s.portAlive = true ∧ s.serves 0x2028 = true ∧ s.portFree ∧ s.time.synced = false) ∧
    (∃ (s : State) (key : Byte), s.portAlive = true ∧ s.serves 0x2028 = true ∧ (key ≠ 0x71 ∨ s.time.synced = true)) :=
  ⟨⟨sBase, by decide +kernel⟩,
   ⟨sBase, by decide +kernel⟩,
   ⟨sTsOut, by decide +kernel⟩,
   ⟨sBase, by decide +kernel⟩,
   ⟨sBase, 0, by decide +kernel⟩⟩

/-- Each premise of `Obligations.NelzilPeerTable` can be met. -/
theorem test_witness_NelzilPeerTable :
    (∃ (s : State) (ch : Channel) (node : BitVec 6) (b : List Byte), s.engineCalm ∧ s.hears ch node 0 b ∧ node ≠ s.nodeNum ∧
        (s.chan ch).peers.any (fun q => q.node == node) = false) ∧
    (∃ (s : State) (ch : Channel) (b : List Byte), s.engineCalm ∧ s.hears ch s.nodeNum 0 b) ∧
    (∃ (s : State) (ch : Channel) (node : BitVec 6), s.engineCalm ∧ (s.chan ch).peers.any (fun q => q.node == node) = true) :=
  ⟨⟨sBase, Channel.host, 1, [0, 0, 0, 0, 0, 0, 0, 0], engineCalm_of (by decide +kernel), hears_of (by decide +kernel), by decide +kernel⟩,
   ⟨sBase, Channel.host, [0, 0, 0, 0, 0, 0, 0, 0], engineCalm_of (by decide +kernel), hears_of (by decide +kernel)⟩,
   ⟨sPeers, Channel.host, 1, engineCalm_of (by decide +kernel), by decide +kernel⟩⟩

/-- Each premise of `Obligations.NelzilVersionsAndHello` can be met. -/
theorem test_witness_NelzilVersionsAndHello :
    (∃ (s : State) (ch : Channel), s.engineCalm ∧ (s.chan ch).settling = true) ∧
    (∃ (s : State) (ch : Channel), (s.chan ch).settling = false) ∧
    (∃ (s : State) (ch : Channel), s.engineCalm ∧ (s.chan ch).fdCap = true) ∧
    (∃ (s : State) (c : CanId), s.engineCalm ∧ s.nelzOn (canChan c) = true ∧ (s.chan (canChan c)).tooSoon s.clock = false ∧
        (s.can c).ctl ≠ .off) :=
  ⟨⟨sSettling, Channel.host, engineCalm_of (by decide +kernel), by decide +kernel⟩,
   ⟨sReset, Channel.host, by decide +kernel⟩,
   ⟨sFdCap, Channel.host, engineCalm_of (by decide +kernel), by decide +kernel⟩,
   ⟨sBase, CanId.a, engineCalm_of (by decide +kernel), by decide +kernel⟩⟩

/-- Each premise of `Obligations.NelzilStatusAndLines` can be met. -/
theorem test_witness_NelzilStatusAndLines :
    (∃ (s : State), s.engineCalm) :=
  ⟨sReset, engineCalm_of (by decide +kernel)⟩

/-- Each premise of `Obligations.NelzilCommands` can be met. -/
theorem test_witness_NelzilCommands :
    (∃ (s : State) (ch : Channel) (node : BitVec 6) (b : List Byte) (q : Byte), s.engineCalm ∧ s.hears ch node 8 b ∧
        s.addressed ch b = true ∧ b[1]? = some q ∧ s.psm.arm = none ∧ s.psm.busy = none ∧ s.armWord (rdw b 2) = true ∧ s.granted ch
        (psmTarget (rdw b 2)) = true) ∧
    (∃ (s : State) (ch : Channel) (node : BitVec 6) (b : List Byte), s.engineCalm ∧ s.hears ch node 9 b ∧ s.addressed ch b = true ∧
        b.length = 8 ∧ rd8 b 1 / 16 < (rd8 b 1 % 16 + 1 + 5) / 6 ∧ 1 < (rd8 b 1 % 16 + 1 + 5) / 6 ∧ (s.chan ch).pwParts.all
        (fun x => x.node != node) = true) ∧
    (∃ (s : State) (ch : Channel) (x : PwParts) (r : List PwParts), s.engineCalm ∧ (s.chan ch).pwParts = x :: r) ∧
    (∃ (s : State) (ch : Channel), (s.chan ch).pwParts = []) ∧
    (∃ (s : State) (ch : Channel) (node : BitVec 6) (b : List Byte) (p : PortalId), s.engineCalm ∧ s.hears ch node 10 b ∧
        s.addressed ch b = true ∧ s.psm.state ≠ .safe ∧ s.pcmdGranted ch (rd8 b 2) = true ∧ s.kernelRuns = true ∧ rd8 b 1 = p.val ∧
        s.seq.pcmd = none) ∧
    (∃ (s : State) (ch : Channel) (node : BitVec 6) (b : List Byte), s.engineCalm ∧ s.hears ch node 10 b ∧ s.addressed ch b = true ∧
        s.psm.state = .safe) :=
  ⟨⟨sBase, Channel.host, 1, [16, 7, 80, 0, 0, 197, 0, 0], (([16, 7, 80, 0, 0, 197, 0, 0] : List Byte)[1]?).get (by decide +kernel),
        engineCalm_of (by decide +kernel), hears_of (by decide +kernel), by decide +kernel, (Option.some_get (by decide +kernel)).symm,
        by decide +kernel⟩,
   ⟨sBase, Channel.host, 1, [16, 7, 80, 0, 0, 197, 0, 0], engineCalm_of (by decide +kernel), hears_of (by decide +kernel),
        by decide +kernel⟩,
   ⟨sPwParts, Channel.host, ((sPwParts.chan Channel.host).pwParts).head (by decide +kernel), ((sPwParts.chan Channel.host).pwParts).tail,
        engineCalm_of (by decide +kernel), by decide +kernel⟩,
   ⟨sReset, Channel.host, by decide +kernel⟩,
   ⟨sBase, Channel.host, 1, [16, 1, 1, 9, 0, 0, 0, 0], 1, engineCalm_of (by decide +kernel), hears_of (by decide +kernel),
        by decide +kernel⟩,
   ⟨sSafe, Channel.host, 1, [16, 7, 80, 0, 0, 197, 0, 0], engineCalm_of (by decide +kernel), hears_of (by decide +kernel),
        by decide +kernel⟩⟩

/-- Each premise of `Obligations.NelzilTimeSync` can be met. -/
theorem test_witness_NelzilTimeSync :
    (∃ (s : State) (c : CanId) (node : BitVec 6) (b : List Byte), s.engineCalm ∧ s.hears (canChan c) node 11 b ∧ s.followed = some c ∧
        s.timeMaster (canChan c) = some node ∧ node ≠ s.nodeNum ∧ rd8 b 0 = 1) ∧
    (∃ (s : State) (c : CanId) (node : BitVec 6) (b : List Byte) (own : Dword), s.engineCalm ∧ s.hears (canChan c) node 11 b ∧
        s.followed = some c ∧ s.timeMaster (canChan c) = some node ∧ node ≠ s.nodeNum ∧ rd8 b 0 = 2 ∧ s.time.syncWait = some (c, node,
        b.getD 1 0, own) ∧ ((rd64 b 4 : Int) - (own.toNat : Int)).natAbs ≤ 1000000) ∧
    (∃ (s : State) (c : CanId), s.engineCalm ∧ s.isMaster (canChan c) = true ∧ (s.chan (canChan c)).followUp = none) ∧
    (∃ (s : State) (c : CanId), s.isMaster (canChan c) = false) :=
  ⟨⟨sPeers, CanId.a, 1, [1, 8, 0, 0, 0, 0, 0, 0, 0, 0, 0, 0, 0, 0, 0, 0], engineCalm_of (by decide +kernel), hears_of (by decide +kernel),
        by decide +kernel⟩,
   ⟨sSyncWait, CanId.a, 5, [2, 8, 0, 0, 176, 19, 0, 0, 0, 0, 0, 0, 0, 0, 0, 0], ((sSyncWait.time.syncWait).get (by decide +kernel)).2.2.2,
        engineCalm_of (by decide +kernel), hears_of (by decide +kernel), by decide +kernel⟩,
   ⟨sPeers63, CanId.a, engineCalm_of (by decide +kernel), by decide +kernel⟩,
   ⟨sReset, CanId.a, by decide +kernel⟩⟩

/-- Each premise of `Obligations.NelzilReceiveMapAndMailbox` can be met. -/
theorem test_witness_NelzilReceiveMapAndMailbox :
    (∃ (s : State) (ch : Channel) (node : BitVec 6) (msg : BitVec 5) (b : List Byte), s.engineCalm ∧ s.hears ch node msg.toNat b) ∧
    (∃ (s : State) (f : Fin 64) (ch : Channel) (e : List Byte) (x : RxFlag), s.engineCalm ∧ s.rxEntry f.val = some e ∧
        s.nelz.flags[f.val]? = some x ∧ rd16 e 4 ≠ 0 ∧ x.fresh.get (mapSlot e ch) = true) ∧
    (∃ (s : State) (f : Fin 64), s.rxEntry f.val = none) ∧
    (∃ (s : State) (w : Word), s.portAlive = true ∧ s.serves 0x80140 = true ∧ s.engineCalm ∧ wbit w 31 = true ∧ fget w 20 16 = 16 ∧
        s.hears .host (BitVec.ofNat 6 s.nelzCfg.hostNode) 16 (slice (wordBytes s.nelz.mbxTx) 0 (fget w 6 0))) ∧
    (∃ (w : Word), wbit w 31 = false) ∧
    (∃ (s : State), s.portAlive = true ∧ s.serves 0x801C0 = true ∧ s.engineCalm) :=
  ⟨⟨sBase, Channel.host, 1, 0, [0, 0, 0, 0, 0, 0, 0, 0], engineCalm_of (by decide +kernel), hears_of (by decide +kernel)⟩,
   ⟨sRxFresh, 0, Channel.host, (sRxFresh.rxEntry (0 : Fin 64).val).get (by decide +kernel), (sRxFresh.nelz.flags[(0 : Fin 64).val]?).get
        (by decide +kernel), engineCalm_of (by decide +kernel), (Option.some_get (by decide +kernel)).symm, (Option.some_get
        (by decide +kernel)).symm, by decide +kernel⟩,
   ⟨sReset, 0, by decide +kernel⟩,
   ⟨sBase, 0x80100008, by decide +kernel, by decide +kernel, engineCalm_of (by decide +kernel), by decide +kernel, by decide +kernel,
        hears_of (by decide +kernel)⟩,
   ⟨0x10004, by decide +kernel⟩,
   ⟨sBase, by decide +kernel, by decide +kernel, engineCalm_of (by decide +kernel)⟩⟩

/-- Each premise of `Obligations.CanCommandsFrame` can be met. -/
theorem test_witness_CanCommandsFrame :
    (∃ (i : Instr) (c : CanId) (s : State) (t : State) (d : _), i.onController = some c ∧ s.portFree ∧ exec i s = .next t ∧ d ≠ c) :=
  ⟨.canCmdTxreq .a 0xA7 1, ((.canCmdTxreq .a 0xA7 1 : Instr).onController).get (by decide +kernel), sReset, nextOf (exec
      (.canCmdTxreq .a 0xA7 1 : Instr) sReset), CanId.b, (Option.some_get (by decide +kernel)).symm, by decide +kernel, next_of
      (by decide +kernel), by decide +kernel⟩

/-- Each premise of `Obligations.CanStatesAndRecovery` can be met. -/
theorem test_witness_CanStatesAndRecovery :
    (∃ (s : State) (c : CanId), s.portFree ∧ (s.can c).ctl = .integrating) ∧
    (∃ (s : State) (c : CanId), s.portFree ∧ (s.can c).ctl ≠ .integrating) ∧
    (∃ (s : State) (c : CanId), s.portFree ∧ (s.can c).ctl = .busOff ∧ (s.can c).flag 3 = true) ∧
    (∃ (s : State) (c : CanId), s.portFree ∧ ((s.can c).ctl ≠ .busOff ∨ (s.can c).flag 3 = false)) ∧
    (∃ (s : State) (c : CanId), s.portFree ∧ (s.can c).ctl = .recovering) ∧
    (∃ (s : State) (c : CanId), s.portFree ∧ (s.can c).ctl ≠ .recovering) ∧
    (∃ (s : State) (c : CanId), s.portFree ∧ s.portAlive = true ∧ s.serves (canBase c) = true ∧ (s.can c).ctl = .busOff) ∧
    (∃ (s : State) (c : CanId) (key : _), s.portFree ∧ s.portAlive = true ∧ s.serves (canBase c) = true ∧ key ≠ 0x6C) ∧
    (∃ (s : State) (c : CanId), s.portFree ∧ s.portAlive = true ∧ s.serves (canBase c) = true ∧ (s.can c).ctl ≠ .busOff) :=
  ⟨⟨sCanInt, CanId.a, by decide +kernel⟩,
   ⟨sReset, CanId.a, by decide +kernel⟩,
   ⟨sCanBusOff, CanId.a, by decide +kernel⟩,
   ⟨sReset, CanId.a, by decide +kernel⟩,
   ⟨sCanRecov, CanId.a, by decide +kernel⟩,
   ⟨sReset, CanId.a, by decide +kernel⟩,
   ⟨sCanBusOff, CanId.a, by decide +kernel⟩,
   ⟨sBase, CanId.a, 0, by decide +kernel⟩,
   ⟨sBase, CanId.a, by decide +kernel⟩⟩

/-- Each premise of `Obligations.CanReceiveCounters` can be met. -/
theorem test_witness_CanReceiveCounters :
    (∃ (s : State) (c : CanId) (f : CanRx), s.portFree ∧ (s.can c).onLine = true ∧ f.nonCode = false ∧ (f.word.fdf = false ∨
        (s.can c).fdEn = true) ∧ (s.can c).rec_ ≤ 127) ∧
    (∃ (s : State) (c : CanId) (f : CanRx), s.portFree ∧ (s.can c).onLine = true ∧ f.nonCode = false ∧ f.word.fdf = true ∧
        (s.can c).fdEn = false) :=
  ⟨⟨sBase, CanId.a, canRxV1, by decide +kernel⟩,
   ⟨sBase, CanId.a, canRxV2, by decide +kernel⟩⟩

/-- Each premise of `Obligations.CanFrameIntoObject` can be met. -/
theorem test_witness_CanFrameIntoObject :
    (∃ (s : State) (c : CanId) (f : CanRx) (n : _) (o : _), s.engineIdle ∧ f.nonCode = false ∧ f.upset = [] ∧ (f.word.fdf = false ∨
        (s.can c).fdEn = true) ∧ (s.can c).ctl = .active ∧ (s.can c).tec ≤ 127 ∧ (s.can c).rec_ ≤ 127 ∧ ((s.can c).objects.find? fun x =>
        (s.can c).accepts x.1 x.2 f.word) = some (n, o) ∧ n < 128 ∧ (s.can c).obj n = o ∧ (s.can c).bad.contains n = false ∧
        o.head = false) ∧
    (∃ (s : State) (c : CanId) (f : CanRx) (n : _) (o : _) (i : _), s.engineIdle ∧ f.nonCode = false ∧ f.upset = [] ∧ (f.word.fdf = false ∨
        (s.can c).fdEn = true) ∧ (s.can c).ctl = .active ∧ (s.can c).tec ≤ 127 ∧ (s.can c).rec_ ≤ 127 ∧ ((s.can c).objects.find? fun x =>
        (s.can c).accepts x.1 x.2 f.word) = some (n, o) ∧ n < 128 ∧ (s.can c).obj n = o ∧ (s.can c).bad.contains n = false ∧ o.head = true ∧
        o.own < 2 ∧ o.fifoTurn = some i ∧ n + i < 128 ∧ (s.can c).bad.contains (n + i) = false) ∧
    (∃ (s : State) (c : CanId) (f : CanRx) (n : _) (o : _), s.engineIdle ∧ f.nonCode = false ∧ f.upset = [] ∧ (f.word.fdf = false ∨
        (s.can c).fdEn = true) ∧ (s.can c).ctl = .active ∧ (s.can c).tec ≤ 127 ∧ (s.can c).rec_ ≤ 127 ∧ ((s.can c).objects.find? fun x =>
        (s.can c).accepts x.1 x.2 f.word) = some (n, o) ∧ n < 128 ∧ (s.can c).obj n = o ∧ (s.can c).bad.contains n = false ∧ o.head = true ∧
        o.own < 2 ∧ o.fifoTurn = none) ∧
    (∃ (s : State) (c : CanId) (f : CanRx) (n : _) (o : _), s.engineIdle ∧ f.nonCode = false ∧ f.upset = [] ∧ (f.word.fdf = false ∨
        (s.can c).fdEn = true) ∧ (s.can c).ctl = .active ∧ (s.can c).tec ≤ 127 ∧ (s.can c).rec_ ≤ 127 ∧ ((s.can c).objects.find? fun x =>
        (s.can c).accepts x.1 x.2 f.word) = some (n, o) ∧ n < 128 ∧ (s.can c).obj n = o ∧ (s.can c).bad.contains n = true ∧
        ({ o with cfg := putBit o.cfg 31 false } : CanObject) ≠ {}) ∧
    (∃ (s : State) (c : CanId) (f : CanRx), s.engineIdle ∧ f.nonCode = false ∧ f.upset = [] ∧ (f.word.fdf = false ∨ (s.can c).fdEn = true) ∧
        (s.can c).ctl = .active ∧ (s.can c).tec ≤ 127 ∧ (s.can c).rec_ ≤ 127 ∧ ((s.can c).objects.find? fun x =>
        (s.can c).accepts x.1 x.2 f.word) = none) ∧
    (∃ (s : State) (c : CanId) (f : CanRx), s.engineIdle ∧ f.nonCode = false ∧ f.upset = [] ∧ (s.can c).onLine = false ∧
        (s.can c).ctl ≠ .integrating) ∧
    (∃ (s : State) (f : CanRx), s.engineIdle ∧ f.nonCode = true) :=
  ⟨⟨sCanObjs, CanId.a, canRxV1, 0, (sCanObjs.can .a).obj 0, engineIdle_of (by decide +kernel), by decide +kernel⟩,
   ⟨sCFifo0, CanId.a, canRxV1, 3, (sCFifo0.can .a).obj 3, 0, engineIdle_of (by decide +kernel), by decide +kernel⟩,
   ⟨sCFifoFull, CanId.a, canRxV1, 3, (sCFifoFull.can .a).obj 3, engineIdle_of (by decide +kernel), by decide +kernel⟩,
   ⟨sCFifoBad, CanId.a, canRxV1, 3, (sCFifoBad.can .a).obj 3, engineIdle_of (by decide +kernel), by decide +kernel⟩,
   ⟨sBase, CanId.a, canRxV1, engineIdle_of (by decide +kernel), by decide +kernel⟩,
   ⟨sReset, CanId.a, canRxV1, engineIdle_of (by decide +kernel), by decide +kernel⟩,
   ⟨sReset, canRxV3, engineIdle_of (by decide +kernel), by decide +kernel⟩⟩

/-- Each premise of `Obligations.CanTransmitAttempts` can be met. -/
theorem test_witness_CanTransmitAttempts :
    (∃ (s : State) (c : CanId) (n : _), s.portFree ∧ (s.can c).onLine = true ∧ (s.can c).offDue = false ∧ (s.can c).flag 2 = false ∧
        (s.can c).onBus = none ∧ (s.can c).alone = false ∧ (s.can c).nextTx = some n ∧ (s.can c).bad.contains n = false ∧
        ((s.can c).obj n).expired s.clock = false) ∧
    (∃ (s : State) (c : CanId), s.portFree ∧ (s.can c).onLine = true ∧ (s.can c).offDue = false ∧ (s.can c).nextTx = none) ∧
    (∃ (s : State) (c : CanId) (n : _), s.portFree ∧ (s.can c).onLine = true ∧ (s.can c).offDue = false ∧ (s.can c).flag 2 = false ∧
        (s.can c).onBus = none ∧ (s.can c).alone = true ∧ (s.can c).nextTx = some n ∧ (s.can c).bad.contains n = false ∧
        ((s.can c).obj n).expired s.clock = false) ∧
    (∃ (s : State) (c : CanId) (n : _) (f : _) (e : CanError), s.portFree ∧ (s.can c).onLine = true ∧ (s.can c).offDue = false ∧
        (s.can c).onBus = some (n, f) ∧ (s.can c).ctl = .active ∧ (¬(e.kind = .stuff ∧ e.field = .arbitration))) :=
  ⟨⟨sCanTx, CanId.a, ((sCanTx.can CanId.a).nextTx).get (by decide +kernel), by decide +kernel, by decide +kernel, by decide +kernel,
        by decide +kernel, by decide +kernel, by decide +kernel, (Option.some_get (by decide +kernel)).symm, by decide +kernel⟩,
   ⟨sBase, CanId.a, by decide +kernel⟩,
   ⟨sCanTxAlone, CanId.a, ((sCanTxAlone.can CanId.a).nextTx).get (by decide +kernel), by decide +kernel, by decide +kernel,
        by decide +kernel, by decide +kernel, by decide +kernel, by decide +kernel, (Option.some_get (by decide +kernel)).symm,
        by decide +kernel⟩,
   ⟨sCanOnBus, CanId.a, (((sCanOnBus.can CanId.a).onBus).get (by decide +kernel)).1, (((sCanOnBus.can CanId.a).onBus).get
        (by decide +kernel)).2, canErrorV1, by decide +kernel, by decide +kernel, by decide +kernel, some_pair (by decide +kernel),
        by decide +kernel⟩⟩

/-- Each premise of `Obligations.CanObjectCommands` can be met. -/
theorem test_witness_CanObjectCommands :
    (∃ (s : State) (c : CanId) (n : BitVec 7) (key : _), s.engineIdle ∧ s.portAlive = true ∧ s.serves (canBase c) = true ∧
        (s.can c).sendWhy key n.toNat ≠ 0) ∧
    (∃ (s : State) (c : CanId) (n : BitVec 7) (key : _), s.engineIdle ∧ s.portAlive = true ∧ s.serves (canBase c) = true ∧
        (s.can c).sendWhy key n.toNat = 0 ∧ ((s.can c).obj n.toNat).txreq = true ∧ (s.can c).sending n.toNat = false) ∧
    (∃ (s : State) (c : CanId) (n : BitVec 7) (key : _), s.engineIdle ∧ s.portAlive = true ∧ s.serves (canBase c) = true ∧
        (s.can c).sendWhy key n.toNat = 0 ∧ ((s.can c).obj n.toNat).txreq = true ∧ (s.can c).sending n.toNat = true) ∧
    (∃ (s : State) (c : CanId) (n : BitVec 7) (o : _), s.engineIdle ∧ s.portAlive = true ∧ s.serves (canBase c) = true ∧
        (s.can c).obj n.toNat = o ∧ (s.can c).bad.contains n.toNat = false ∧ (o.head = false ∨ o.fifoHeld = []) ∧
        (s.can c).headOf n.toNat = none) ∧
    (∃ (s : State) (c : CanId) (n : BitVec 7) (o : _) (h : _), s.engineIdle ∧ s.portAlive = true ∧ s.serves (canBase c) = true ∧
        (s.can c).obj n.toNat = o ∧ (s.can c).bad.contains n.toNat = false ∧ o.head = false ∧ (s.can c).headOf n.toNat = some h ∧
        h < n.toNat ∧ ((s.can c).obj h).cfg ≠ 0 ∧ o.cfg ≠ 0) ∧
    (∃ (s : State) (c : CanId) (n : BitVec 7) (o : _) (i : _) (r : _), s.engineIdle ∧ s.portAlive = true ∧ s.serves (canBase c) = true ∧
        (s.can c).obj n.toNat = o ∧ (s.can c).bad.contains n.toNat = false ∧ o.head = true ∧ o.fifoHeld = i :: r ∧ n.toNat + i < 128 ∧
        (s.can c).bad.contains (n.toNat + i) = false ∧ ((s.can c).obj (n.toNat + i)).cfg ≠ 0) ∧
    (∃ (s : State) (c : CanId) (n : BitVec 7) (send : _), s.engineIdle ∧ s.portAlive = true ∧ s.serves (canBase c) = true ∧
        ((s.can c).obj n.toNat).sends = true ∧ ((s.can c).obj n.toNat).own = 1 ∧ (send = true → ((s.can c).obj n.toNat).en = true ∧
        (s.can c).ctl ≠ .off)) ∧
    (∃ (s : State) (c : CanId) (n : BitVec 7), s.engineIdle ∧ s.portAlive = true ∧ s.serves (canBase c) = true ∧
        ((s.can c).obj n.toNat).sends = true ∧ ((s.can c).obj n.toNat).own = 1 ∧ (((s.can c).obj n.toNat).en = false ∨
        (s.can c).ctl = .off)) ∧
    (∃ (s : State) (c : CanId) (n : BitVec 7) (v : _), s.engineIdle ∧ s.portAlive = true ∧ s.serves (canBase c) = true ∧
        ((s.can c).obj n.toNat).en = false ∧ ((s.can c).obj n.toNat).own ≤ 1 ∧ objMask 0 v ≠ 0) :=
  ⟨⟨sBase, CanId.a, 0, 0, engineIdle_of (by decide +kernel), by decide +kernel⟩,
   ⟨sCanTx, CanId.a, 1, 108, engineIdle_of (by decide +kernel), by decide +kernel⟩,
   ⟨sCanOnBus, CanId.a, 1, 108, engineIdle_of (by decide +kernel), by decide +kernel⟩,
   ⟨sBase, CanId.a, 0, (sBase.can CanId.a).obj (0 : BitVec 7).toNat, engineIdle_of (by decide +kernel), by decide +kernel,
        by decide +kernel, rfl, by decide +kernel⟩,
   ⟨sCFifo0, CanId.a, 4, (sCFifo0.can CanId.a).obj (4 : BitVec 7).toNat, ((sCFifo0.can CanId.a).headOf (4 : BitVec 7).toNat).get
        (by decide +kernel), engineIdle_of (by decide +kernel), by decide +kernel, by decide +kernel, rfl, by decide +kernel,
        by decide +kernel, (Option.some_get (by decide +kernel)).symm, by decide +kernel⟩,
   ⟨sCFifo1, CanId.a, 3, (sCFifo1.can CanId.a).obj (3 : BitVec 7).toNat, (((sCFifo1.can CanId.a).obj (3 : BitVec 7).toNat).fifoHeld).head
        (by decide +kernel), (((sCFifo1.can CanId.a).obj (3 : BitVec 7).toNat).fifoHeld).tail, engineIdle_of (by decide +kernel),
        by decide +kernel, by decide +kernel, rfl, by decide +kernel⟩,
   ⟨sCanObjsMore, CanId.a, 1, false, engineIdle_of (by decide +kernel), by decide +kernel⟩,
   ⟨sCFifo0, CanId.a, 12, engineIdle_of (by decide +kernel), by decide +kernel⟩,
   ⟨sBase, CanId.a, 0, 0x80100008, engineIdle_of (by decide +kernel), by decide +kernel⟩⟩

/-- Each premise of `Obligations.CanObjectCommands` can be met. -/
theorem test_witness_CanObjectCommands_part2 :
    (∃ (s : State) (c : CanId) (n : BitVec 7), s.engineIdle ∧ s.portAlive = true ∧ s.serves (canBase c) = true ∧
        (((s.can c).obj n.toNat).en = true ∨ 1 < ((s.can c).obj n.toNat).own)) :=
  ⟨sCanObjs, CanId.a, 0, engineIdle_of (by decide +kernel), by decide +kernel⟩

/-- Each premise of `Obligations.ArchiveInterface` can be met. -/
theorem test_witness_ArchiveInterface :
    (∃ (i : EmmcInfo), ((fun (m : EmmcMode) (tuning : Bool) => m.supported = true ∧ (tuning = true → m.tuned = true) ∧ (m.bus8 = true ∨
        m.bus4 = true ∨ m.bus1 = true)) i.hs200 true)) ∧
    (∃ (i : EmmcInfo), (¬(fun (m : EmmcMode) (tuning : Bool) => m.supported = true ∧ (tuning = true → m.tuned = true) ∧ (m.bus8 = true ∨
        m.bus4 = true ∨ m.bus1 = true)) i.hs200 true) ∧ ((fun (m : EmmcMode) (tuning : Bool) => m.supported = true ∧ (tuning = true →
        m.tuned = true) ∧ (m.bus8 = true ∨ m.bus4 = true ∨ m.bus1 = true)) i.hs false)) ∧
    (∃ (i : EmmcInfo), (¬(fun (m : EmmcMode) (tuning : Bool) => m.supported = true ∧ (tuning = true → m.tuned = true) ∧ (m.bus8 = true ∨
        m.bus4 = true ∨ m.bus1 = true)) i.hs200 true) ∧ (¬(fun (m : EmmcMode) (tuning : Bool) => m.supported = true ∧ (tuning = true →
        m.tuned = true) ∧ (m.bus8 = true ∨ m.bus4 = true ∨ m.bus1 = true)) i.hs false) ∧ ((fun (m : EmmcMode)
        (tuning : Bool) => m.supported = true ∧ (tuning = true → m.tuned = true) ∧ (m.bus8 = true ∨ m.bus4 = true ∨
        m.bus1 = true)) i.legacy false)) ∧
    (∃ (i : EmmcInfo), (¬(fun (m : EmmcMode) (tuning : Bool) => m.supported = true ∧ (tuning = true → m.tuned = true) ∧ (m.bus8 = true ∨
        m.bus4 = true ∨ m.bus1 = true)) i.hs200 true) ∧ (¬(fun (m : EmmcMode) (tuning : Bool) => m.supported = true ∧ (tuning = true →
        m.tuned = true) ∧ (m.bus8 = true ∨ m.bus4 = true ∨ m.bus1 = true)) i.hs false) ∧ (¬(fun (m : EmmcMode)
        (tuning : Bool) => m.supported = true ∧ (tuning = true → m.tuned = true) ∧ (m.bus8 = true ∨ m.bus4 = true ∨
        m.bus1 = true)) i.legacy false)) ∧
    (∃ (s : State), s.inReset = false ∧ s.psm.state ≠ .boot ∧ s.psm.state ≠ .fuseFail ∧ s.psm.state ≠ .off ∧ s.arch.media = 0 ∧
        s.arch.op = .idle) ∧
    (∃ (s : State), s.psm.state = .boot) ∧
    (∃ (s : State), s.arch.op = .init) ∧
    (∃ (s : State), s.arch.op ≠ .init) ∧
    (∃ (s : State), s.arch.op ≠ .idle ∧ s.arch.fails < 2) :=
  ⟨⟨emmcInfoV1, by decide +kernel⟩,
   ⟨emmcInfoV2, by decide +kernel⟩,
   ⟨emmcInfoV3, by decide +kernel⟩,
   ⟨emmcInfoV4, by decide +kernel⟩,
   ⟨sMNotReady, by decide +kernel⟩,
   ⟨sReset, by decide +kernel⟩,
   ⟨sMInit, by decide +kernel⟩,
   ⟨sReset, by decide +kernel⟩,
   ⟨sMInit, by decide +kernel⟩⟩

/-- Each premise of `Obligations.ArchiveInterface` can be met. -/
theorem test_witness_ArchiveInterface_part2 :
    (∃ (s : State), s.arch.op ≠ .idle ∧ 2 ≤ s.arch.fails ∧ s.arch.retried = false) ∧
    (∃ (s : State), s.arch.op ≠ .idle ∧ 2 ≤ s.arch.fails ∧ s.arch.retried = true) ∧
    (∃ (s : State) (log : Bool), s.arch.media = 1 ∧ s.arch.op = .idle ∧ s.arch.ringDue log = true) ∧
    (∃ (s : State) (log : Bool), s.arch.ringDue log = false) :=
  ⟨⟨sMFails2, by decide +kernel⟩,
   ⟨sMFails2r, by decide +kernel⟩,
   ⟨sMRecs, false, by decide +kernel⟩,
   ⟨sReset, false, by decide +kernel⟩⟩

/-- Each premise of `Obligations.ArchiveWritesComplete` can be met. -/
theorem test_witness_ArchiveWritesComplete :
    (∃ (s : State) (log : Bool), s.portFree ∧ cellsWf 0 s.arch.medium = true ∧ s.arch.op = .journal log) ∧
    (∃ (s : State) (log : Bool), s.portFree ∧ cellsWf 0 s.arch.medium = true ∧ s.arch.op = .stripe log ∧ s.arch.stripeDue log = true) ∧
    (∃ (s : State), s.portFree ∧ cellsWf 0 s.arch.medium = true ∧ s.arch.op = .superblock) ∧
    (∃ (s : State) (info : EmmcInfo), s.portFree ∧ s.arch.op = .init ∧ modeOf info = (0, 0)) ∧
    (∃ (s : State) (info : EmmcInfo) (b : Superblock), s.portFree ∧ s.arch.op = .init ∧ (modeOf info).1 ≠ 0 ∧
        ({ s.arch with unread := info.unread } : ArchState).superblock = some b) ∧
    (∃ (s : State), s.arch.op = .idle) :=
  ⟨⟨sMFails0, false, by decide +kernel⟩,
   ⟨sMStripe, false, by decide +kernel⟩,
   ⟨sMFails2, by decide +kernel⟩,
   ⟨sMInit, emmcInfoV4, by decide +kernel⟩,
   ⟨sMInitSb, emmcInfoV1, (({ sMInitSb.arch with unread := emmcInfoV1.unread } : ArchState).superblock).get (by decide +kernel),
        by decide +kernel, by decide +kernel, by decide +kernel, (Option.some_get (by decide +kernel)).symm⟩,
   ⟨sReset, by decide +kernel⟩⟩

/-- Each premise of `Obligations.ArchiveCommands` can be met. -/
theorem test_witness_ArchiveCommands :
    (∃ (s : State) (key : _), s.portAlive = true ∧ s.serves 0x6002C = true ∧ s.portFree ∧ key ≠ 0x4B) ∧
    (∃ (s : State), s.portAlive = true ∧ s.serves 0x6002C = true ∧ s.portFree ∧ wbit s.arch.cmdstat 31 = true) ∧
    (∃ (s : State), s.portAlive = true ∧ s.serves 0x6002C = true ∧ s.portFree ∧ wbit s.arch.cmdstat 31 = false ∧ s.arch.media = 1 ∧
        s.arch.op = .idle ∧ s.arch.opQueue = []) ∧
    (∃ (s : State), s.portAlive = true ∧ s.serves 0x6002C = true ∧ s.portFree ∧ wbit s.arch.cmdstat 31 = false ∧ s.arch.op ≠ .init) ∧
    (∃ (s : State), s.portAlive = true ∧ s.serves 0x6002C = true ∧ s.portFree ∧ wbit s.arch.cmdstat 31 = false ∧ s.psm.state = .maintain ∧
        s.harn.recovery = false ∧ (s.arch.media = 1 ∨ s.arch.media = 3)) ∧
    (∃ (s : State), s.portAlive = true ∧ s.serves 0x6002C = true ∧ s.portFree ∧ wbit s.arch.cmdstat 31 = false ∧ s.psm.state ≠ .maintain) ∧
    (∃ (s : State) (b : List Byte) (c : Nat) (u : Bool) (st : Bool), s.portAlive = true ∧ s.serves 0x6002C = true ∧ s.portFree ∧
        wbit s.arch.cmdstat 31 = false ∧ wbit s.arch.rdpage 31 = false ∧ s.arch.recordOf s.arch.rdidx.toNat = some (b, c, u, st)) ∧
    (∃ (s : State) (e : _), s.portAlive = true ∧ s.serves 0x6002C = true ∧ s.portFree ∧ wbit s.arch.cmdstat 31 = false ∧
        wbit s.arch.rdpage 31 = true ∧ s.arch.media = 1 ∧ (s.arch.traces.find? fun t => t.index == s.arch.rdidx.toNat) = some e ∧
        fget s.arch.rdpage 15 0 < 4 * e.stripes) ∧
    (∃ (s : State) (tsel : BitVec 2), s.portAlive = true ∧ s.serves 0x6002C = true ∧ s.portFree ∧ wbit s.arch.cmdstat 31 = false ∧
        s.arch.media = 1 ∧ tsel ≠ 3 ∧ s.arch.recordOf s.arch.rdidx.toNat = none) :=
  ⟨⟨sBase, 0, by decide +kernel⟩,
   ⟨sMBusy, by decide +kernel⟩,
   ⟨sBase, by decide +kernel⟩,
   ⟨sBase, by decide +kernel⟩,
   ⟨sMaintain, by decide +kernel⟩,
   ⟨sBase, by decide +kernel⟩,
   ⟨sMRecs, ((sMRecs.arch.recordOf sMRecs.arch.rdidx.toNat).get (by decide +kernel)).1, ((sMRecs.arch.recordOf sMRecs.arch.rdidx.toNat).get
        (by decide +kernel)).2.1, ((sMRecs.arch.recordOf sMRecs.arch.rdidx.toNat).get (by decide +kernel)).2.2.1,
        ((sMRecs.arch.recordOf sMRecs.arch.rdidx.toNat).get (by decide +kernel)).2.2.2, by decide +kernel, by decide +kernel,
        by decide +kernel, by decide +kernel, by decide +kernel, some_quad (by decide +kernel)⟩,
   ⟨sMTracePg, ((sMTracePg.arch.traces.find? fun t => t.index == sMTracePg.arch.rdidx.toNat)).get (by decide +kernel), by decide +kernel,
        by decide +kernel, by decide +kernel, by decide +kernel, by decide +kernel, by decide +kernel, (Option.some_get
        (by decide +kernel)).symm, by decide +kernel⟩,
   ⟨sBase, 0, by decide +kernel⟩⟩

/-- Each premise of `Obligations.ArchiveCommands` can be met. -/
theorem test_witness_ArchiveCommands_part2 :
    (∃ (s : State) (tsel : BitVec 2) (b : List Byte) (x : Nat × Bool × Bool), s.portAlive = true ∧ s.serves 0x6002C = true ∧ s.portFree ∧
        wbit s.arch.cmdstat 31 = false ∧ s.arch.media = 1 ∧ tsel ≠ 3 ∧ s.arch.recordOf s.arch.rdidx.toNat = some (b, x) ∧
        (∀ e ∈ s.arch.traces, ¬(fun e : TraceEntry => rdw b (88 + 4 * tsel.toNat) ≠ 0 ∧ e.ident = rdw b (88 + 4 * tsel.toNat) ∧
        rd64 b 16 ≤ e.ttrig) e)) ∧
    (∃ (s : State) (tsel : BitVec 2) (b : _) (x : _) (e : _) (l : _) (r : _), s.portAlive = true ∧ s.serves 0x6002C = true ∧ s.portFree ∧
        wbit s.arch.cmdstat 31 = false ∧ s.arch.media = 1 ∧ tsel ≠ 3 ∧ s.arch.recordOf s.arch.rdidx.toNat = some (b, x) ∧
        s.arch.traces = l ++ e :: r ∧ ((fun e : TraceEntry => rdw b (88 + 4 * tsel.toNat) ≠ 0 ∧ e.ident = rdw b (88 + 4 * tsel.toNat) ∧
        rd64 b 16 ≤ e.ttrig) e) ∧ (∀ i ∈ r, ¬(fun e : TraceEntry => rdw b (88 + 4 * tsel.toNat) ≠ 0 ∧ e.ident = rdw b
        (88 + 4 * tsel.toNat) ∧ rd64 b 16 ≤ e.ttrig) i)) :=
  ⟨⟨sMRecs, 0, ((sMRecs.arch.recordOf sMRecs.arch.rdidx.toNat).get (by decide +kernel)).1,
        ((sMRecs.arch.recordOf sMRecs.arch.rdidx.toNat).get (by decide +kernel)).2, by decide +kernel, by decide +kernel, by decide +kernel,
        by decide +kernel, by decide +kernel, by decide +kernel, some_pair (by decide +kernel), by decide +kernel⟩,
   ⟨sTracesHit, 0, ((sTracesHit.arch.recordOf sTracesHit.arch.rdidx.toNat).get (by decide +kernel)).1,
        ((sTracesHit.arch.recordOf sTracesHit.arch.rdidx.toNat).get (by decide +kernel)).2,
        { index := 3, stripe := 5, stripes := 1, ident := 7, bytes := 0, ttrig := 0 },
        [{ index := 0, stripe := 0, stripes := 1, ident := 0, bytes := 0, ttrig := 0 }], [], by decide +kernel, by decide +kernel,
        by decide +kernel, by decide +kernel, by decide +kernel, by decide +kernel, some_pair (by decide +kernel), by decide +kernel⟩⟩

/-- Each premise of `Obligations.ArchiveScrubAndTraces` can be met. -/
theorem test_witness_ArchiveScrubAndTraces :
    (∃ (s : State), (s.arch.media ≠ 1 ∨ (s.arch.op ≠ .idle ∧ s.arch.writingAt ≠ some s.arch.scrubDone))) ∧
    (∃ (s : State), s.arch.media = 1 ∧ s.arch.op ≠ .idle ∧ s.arch.writingAt = some s.arch.scrubDone) ∧
    (∃ (s : State), s.arch.media = 1 ∧ s.arch.op = .idle ∧ s.arch.scrubNext s.arch.scrubDone = none) ∧
    (∃ (s : State) (er : List Nat) (r : StripeRegion) (n : Nat) (next : Nat), s.arch.media = 1 ∧ s.arch.op = .idle ∧
        s.arch.scrubNext s.arch.scrubDone = some (r, n, next) ∧ (decodeStripe (s.arch.readStripe r n) (erasuresOf r
        (s.arch.readStripe r n) er)).2 = .good) ∧
    (∃ (s : State) (er : List Nat) (r : StripeRegion) (n : Nat) (next : Nat) (ks : _), s.arch.media = 1 ∧ s.arch.op = .idle ∧
        s.arch.scrubNext s.arch.scrubDone = some (r, n, next) ∧ (decodeStripe (s.arch.readStripe r n) (erasuresOf r
        (s.arch.readStripe r n) er)).2 = .corrected ks ∧ cellsWf 0 s.arch.medium = true) ∧
    (∃ (s : State) (er : List Nat) (r : StripeRegion) (n : Nat) (next : Nat), s.arch.media = 1 ∧ s.arch.op = .idle ∧
        s.arch.scrubNext s.arch.scrubDone = some (r, n, next) ∧ (decodeStripe (s.arch.readStripe r n) (erasuresOf r
        (s.arch.readStripe r n) er)).2 = .uncorrectable) ∧
    (∃ (s : State) (g : Fin 16) (slot : BitVec 12) (x : Segment), (s.acq.groups.get g).segAt slot.toNat = some x ∧ s.arch.media = 1 ∧
        (s.acq.groups.get g).arch = true ∧ x.archDue = true ∧ s.arch.traceJob = none ∧ 0 < s.arch.traceStripes) ∧
    (∃ (s : State) (g : Fin 16) (slot : BitVec 12), (s.acq.groups.get g).segAt slot.toNat = none) :=
  ⟨⟨sReset, by decide +kernel⟩,
   ⟨sMStripe, by decide +kernel⟩,
   ⟨sBase, by decide +kernel⟩,
   ⟨sTracesHit, [], ((sTracesHit.arch.scrubNext sTracesHit.arch.scrubDone).get (by decide +kernel)).1,
        ((sTracesHit.arch.scrubNext sTracesHit.arch.scrubDone).get (by decide +kernel)).2.1,
        ((sTracesHit.arch.scrubNext sTracesHit.arch.scrubDone).get (by decide +kernel)).2.2, by decide +kernel, by decide +kernel,
        some_triple (by decide +kernel), by decide +kernel⟩,
   ⟨sTracesHit, [0], ((sTracesHit.arch.scrubNext sTracesHit.arch.scrubDone).get (by decide +kernel)).1,
        ((sTracesHit.arch.scrubNext sTracesHit.arch.scrubDone).get (by decide +kernel)).2.1,
        ((sTracesHit.arch.scrubNext sTracesHit.arch.scrubDone).get (by decide +kernel)).2.2, [0], by decide +kernel, by decide +kernel,
        some_triple (by decide +kernel), by decide +kernel⟩,
   ⟨sMStripeM, [], ((sMStripeM.arch.scrubNext sMStripeM.arch.scrubDone).get (by decide +kernel)).1,
        ((sMStripeM.arch.scrubNext sMStripeM.arch.scrubDone).get (by decide +kernel)).2.1,
        ((sMStripeM.arch.scrubNext sMStripeM.arch.scrubDone).get (by decide +kernel)).2.2, by decide +kernel, by decide +kernel, some_triple
        (by decide +kernel), by decide +kernel⟩,
   ⟨sMTrace2, 0, 0, ((sMTrace2.acq.groups.get (0 : Fin 16)).segAt (0 : BitVec 12).toNat).get (by decide +kernel), (Option.some_get
        (by decide +kernel)).symm, by decide +kernel⟩,
   ⟨sReset, 0, 0, by decide +kernel⟩⟩

/-- Each premise of `Obligations.OuterCodeRepairsTwoErasures` can be met. -/
theorem test_witness_OuterCodeRepairsTwoErasures :
    (∃ (d : List (List Byte)) (e : Nat) (f : Nat) (g : List Byte) (h : List Byte), d.length = 16 ∧ (∀ b ∈ d, b.length = 512) ∧ e < 18 ∧
        f < 18 ∧ e ≠ f ∧ g.length = 512 ∧ h.length = 512) :=
  ⟨List.replicate 16 (List.replicate 512 0), 0, 1, List.replicate 512 0, List.replicate 512 0, by decide +kernel⟩

/-- Each premise of `Obligations.EveryStepKeepsMemoriesCanonical` can be met. -/
theorem test_witness_EveryStepKeepsMemoriesCanonical :
    (∃ (s : State) (t : State), s.MemoriesWf ∧ step s = .next t) :=
  ⟨sReset, nextOf (step sReset), memoriesWf_of (by decide +kernel), next_of (by decide +kernel)⟩

/-- Each premise of `Obligations.TallyIslandChecks` can be met. -/
theorem test_witness_TallyIslandChecks :
    (∃ (s : State), (s.tally.mode ≠ .start ∨ s.tally.loaded = true ∨ s.psm.flashUp = none)) :=
  ⟨sReset, by decide +kernel⟩

/-- Each premise of `Obligations.TallyIslandChecks` can be met. -/
theorem test_witness_TallyIslandChecks_part2 :
    (∃ (s : State) (r : IslandRead) (up : Bool), s.portFree ∧ s.tally.mode = .start ∧ s.tally.loaded = false ∧ s.psm.flashUp = some up ∧
        r.nonCode = true) :=
  ⟨sBase, islandReadV1, (sBase.psm.flashUp).get (by decide +kernel), by decide +kernel, by decide +kernel, by decide +kernel,
      (Option.some_get (by decide +kernel)).symm, by decide +kernel⟩

/-- Each premise of `Obligations.TallyIslandChecks` can be met. -/
theorem test_witness_TallyIslandChecks_part3 :
    (∃ (s : State) (r : IslandRead) (up : Bool), s.portFree ∧ s.tally.mode = .start ∧ s.tally.loaded = false ∧ s.psm.flashUp = some up ∧
        r.nonCode = false ∧ ({ s.tally with fuses := { s.tally.fuses with weak := r.weak } } : TallyState).fuses.fails = true) :=
  ⟨sBase, islandReadV2, (sBase.psm.flashUp).get (by decide +kernel), by decide +kernel, by decide +kernel, by decide +kernel,
      (Option.some_get (by decide +kernel)).symm, by decide +kernel⟩

/-- Each premise of `Obligations.TallyIslandChecks` can be met. -/
theorem test_witness_TallyIslandChecks_part4 :
    (∃ (s : State) (r : IslandRead) (up : Bool), s.portFree ∧ s.tally.mode = .start ∧ s.tally.loaded = false ∧ s.psm.flashUp = some up ∧
        r.nonCode = false ∧ ({ s.tally with fuses := { s.tally.fuses with weak := r.weak } } : TallyState).fuses.fails = false ∧
        up = false) :=
  ⟨sTNoFlash, islandReadV3, (sTNoFlash.psm.flashUp).get (by decide +kernel), by decide +kernel, by decide +kernel, by decide +kernel,
      (Option.some_get (by decide +kernel)).symm, by decide +kernel⟩

/-- Each premise of `Obligations.TallyIslandChecks` can be met. -/
theorem test_witness_TallyIslandChecks_part5 :
    (∃ (s : State) (r : IslandRead) (up : Bool) (w : Nat) (b : List Byte), s.portFree ∧ s.tally.mode = .start ∧ s.tally.loaded = false ∧
        s.psm.flashUp = some up ∧ r.nonCode = false ∧
        ({ s.tally with fuses := { s.tally.fuses with weak := r.weak } } : TallyState).fuses.fails = false ∧ up = true ∧
        checkTally s.harn.flash ({ s.tally with fuses := { s.tally.fuses with weak := r.weak } } : TallyState).readFuses.keyHash = (w, b) ∧
        w ≠ 0) :=
  ⟨sBase, islandReadV3, (sBase.psm.flashUp).get (by decide +kernel), (checkTally sBase.harn.flash
      ({ sBase.tally with fuses := { sBase.tally.fuses with weak := islandReadV3.weak } } : TallyState).readFuses.keyHash).1,
      (checkTally sBase.harn.flash
      ({ sBase.tally with fuses := { sBase.tally.fuses with weak := islandReadV3.weak } } : TallyState).readFuses.keyHash).2,
      by decide +kernel, by decide +kernel, by decide +kernel, (Option.some_get (by decide +kernel)).symm, by decide +kernel,
      by decide +kernel, by decide +kernel, pair_eta _, by decide +kernel⟩

/-- Each premise of `Obligations.TallyIslandChecks` can be met. -/
theorem test_witness_TallyIslandChecks_part6 :
    (∃ (s : State) (r : IslandRead) (up : Bool) (w : Nat) (b : List Byte), s.portFree ∧ s.tally.mode = .start ∧ s.tally.loaded = false ∧
        s.psm.flashUp = some up ∧ r.nonCode = false ∧
        ({ s.tally with fuses := { s.tally.fuses with weak := r.weak } } : TallyState).fuses.fails = false ∧ up = true ∧
        checkTally s.harn.flash ({ s.tally with fuses := { s.tally.fuses with weak := r.weak } } : TallyState).readFuses.keyHash = (w, b) ∧
        w = 0 ∧ ({ s with tally := ({ s.tally with fuses := { s.tally.fuses with weak := r.weak } } : TallyState).readFuses.takeImage b } : State).sealWrites = true ∧ s.psm.state = .boot) :=
  ⟨sTStartR, islandReadV4, (sTStartR.psm.flashUp).get (by decide +kernel), (checkTally sTStartR.harn.flash
      ({ sTStartR.tally with fuses := { sTStartR.tally.fuses with weak := islandReadV4.weak } } : TallyState).readFuses.keyHash).1,
      (checkTally sTStartR.harn.flash
      ({ sTStartR.tally with fuses := { sTStartR.tally.fuses with weak := islandReadV4.weak } } : TallyState).readFuses.keyHash).2,
      by decide +kernel, by decide +kernel, by decide +kernel, (Option.some_get (by decide +kernel)).symm, by decide +kernel,
      by decide +kernel, by decide +kernel, pair_eta _, by decide +kernel⟩

/-- Each premise of `Obligations.TallyIslandChecks` can be met. -/
theorem test_witness_TallyIslandChecks_part7 :
    (∃ (s : State) (r : IslandRead) (up : Bool) (w : Nat) (b : List Byte), s.portFree ∧ s.tally.mode = .start ∧ s.tally.loaded = false ∧
        s.psm.flashUp = some up ∧ r.nonCode = false ∧
        ({ s.tally with fuses := { s.tally.fuses with weak := r.weak } } : TallyState).fuses.fails = false ∧ up = true ∧
        checkTally s.harn.flash ({ s.tally with fuses := { s.tally.fuses with weak := r.weak } } : TallyState).readFuses.keyHash = (w, b) ∧
        w = 0 ∧ (({ s with tally := ({ s.tally with fuses := { s.tally.fuses with weak := r.weak } } : TallyState).readFuses.takeImage b } : State).sealWrites = false ∨ s.psm.state ≠ .boot) ∧ cellsWf 0xFF s.harn.flash = true ∧ s.sealBlock.filter SealBlock.isSealed = none) :=
  ⟨sTStartR, islandReadV3, (sTStartR.psm.flashUp).get (by decide +kernel), (checkTally sTStartR.harn.flash
      ({ sTStartR.tally with fuses := { sTStartR.tally.fuses with weak := islandReadV3.weak } } : TallyState).readFuses.keyHash).1,
      (checkTally sTStartR.harn.flash
      ({ sTStartR.tally with fuses := { sTStartR.tally.fuses with weak := islandReadV3.weak } } : TallyState).readFuses.keyHash).2,
      by decide +kernel, by decide +kernel, by decide +kernel, (Option.some_get (by decide +kernel)).symm, by decide +kernel,
      by decide +kernel, by decide +kernel, pair_eta _, by decide +kernel⟩

/-- Each premise of `Obligations.TallyIslandChecks` can be met. -/
theorem test_witness_TallyIslandChecks_part8 :
    (∃ (s : State) (r : IslandRead) (up : Bool) (w : Nat) (b : List Byte) (y : _), s.portFree ∧ s.tally.mode = .start ∧
        s.tally.loaded = false ∧ s.psm.flashUp = some up ∧ r.nonCode = false ∧
        ({ s.tally with fuses := { s.tally.fuses with weak := r.weak } } : TallyState).fuses.fails = false ∧ up = true ∧
        checkTally s.harn.flash ({ s.tally with fuses := { s.tally.fuses with weak := r.weak } } : TallyState).readFuses.keyHash = (w, b) ∧
        w = 0 ∧ (({ s with tally := ({ s.tally with fuses := { s.tally.fuses with weak := r.weak } } : TallyState).readFuses.takeImage b } : State).sealWrites = false ∨ s.psm.state ≠ .boot) ∧ cellsWf 0xFF s.harn.flash = true ∧ s.sealBlock = some y ∧ y.isSealed = true ∧ y.evt < ({ s.tally with fuses := { s.tally.fuses with weak := r.weak } } : TallyState).readFuses.used) :=
  ⟨sTIs, islandReadV4, true, 0, tallyBytes.take 80, sealB true 0 0 0x42709aea, by decide +kernel⟩

/-- Each premise of `Obligations.TallyIslandChecks` can be met. -/
theorem test_witness_TallyIslandChecks_part9 :
    (∃ (s : State) (r : IslandRead) (up : Bool) (w : Nat) (b : List Byte) (y : _), s.portFree ∧ s.tally.mode = .start ∧
        s.tally.loaded = false ∧ s.psm.flashUp = some up ∧ r.nonCode = false ∧
        ({ s.tally with fuses := { s.tally.fuses with weak := r.weak } } : TallyState).fuses.fails = false ∧ up = true ∧
        checkTally s.harn.flash ({ s.tally with fuses := { s.tally.fuses with weak := r.weak } } : TallyState).readFuses.keyHash = (w, b) ∧
        w = 0 ∧ (({ s with tally := ({ s.tally with fuses := { s.tally.fuses with weak := r.weak } } : TallyState).readFuses.takeImage b } : State).sealWrites = false ∨ s.psm.state ≠ .boot) ∧ cellsWf 0xFF s.harn.flash = true ∧ s.sealBlock = some y ∧ y.isSealed = true ∧ ({ s.tally with fuses := { s.tally.fuses with weak := r.weak } } : TallyState).readFuses.used ≤ y.evt ∧ y.imgVer = rdw b 12 ∧ y.imgCrc = rdw b 32) :=
  ⟨sTIs, islandReadV3, true, 0, tallyBytes.take 80, sealB true 0 0 0x42709aea, by decide +kernel⟩

/-- Each premise of `Obligations.TallyIslandChecks` can be met. -/
theorem test_witness_TallyIslandChecks_part10 :
    (∃ (s : State) (r : IslandRead) (up : Bool) (w : Nat) (b : List Byte) (y : _), s.portFree ∧ s.tally.mode = .start ∧
        s.tally.loaded = false ∧ s.psm.flashUp = some up ∧ r.nonCode = false ∧
        ({ s.tally with fuses := { s.tally.fuses with weak := r.weak } } : TallyState).fuses.fails = false ∧ up = true ∧
        checkTally s.harn.flash ({ s.tally with fuses := { s.tally.fuses with weak := r.weak } } : TallyState).readFuses.keyHash = (w, b) ∧
        w = 0 ∧ (({ s with tally := ({ s.tally with fuses := { s.tally.fuses with weak := r.weak } } : TallyState).readFuses.takeImage b } : State).sealWrites = false ∨ s.psm.state ≠ .boot) ∧ cellsWf 0xFF s.harn.flash = true ∧ s.sealBlock = some y ∧ y.isSealed = true ∧ ({ s.tally with fuses := { s.tally.fuses with weak := r.weak } } : TallyState).readFuses.used ≤ y.evt ∧ (y.imgVer ≠ rdw b 12 ∨ y.imgCrc ≠ rdw b 32) ∧ ({ s.tally with fuses := { s.tally.fuses with weak := r.weak } } : TallyState).readFuses.used < 4096) :=
  ⟨sTIsOther, islandReadV3, true, 0, tallyBytes.take 80, sealB true 1 3 4, by decide +kernel⟩

/-- Each premise of `Obligations.TallyIslandChecks` can be met. -/
theorem test_witness_TallyIslandChecks_part11 :
    (∃ (s : State) (r : IslandRead) (up : Bool) (w : Nat) (b : List Byte) (y : _), s.portFree ∧ s.tally.mode = .start ∧
        s.tally.loaded = false ∧ s.psm.flashUp = some up ∧ r.nonCode = false ∧
        ({ s.tally with fuses := { s.tally.fuses with weak := r.weak } } : TallyState).fuses.fails = false ∧ up = true ∧
        checkTally s.harn.flash ({ s.tally with fuses := { s.tally.fuses with weak := r.weak } } : TallyState).readFuses.keyHash = (w, b) ∧
        w = 0 ∧ (({ s with tally := ({ s.tally with fuses := { s.tally.fuses with weak := r.weak } } : TallyState).readFuses.takeImage b } : State).sealWrites = false ∨ s.psm.state ≠ .boot) ∧ cellsWf 0xFF s.harn.flash = true ∧ s.sealBlock = some y ∧ y.isSealed = true ∧ ({ s.tally with fuses := { s.tally.fuses with weak := r.weak } } : TallyState).readFuses.used ≤ y.evt ∧ (y.imgVer ≠ rdw b 12 ∨ y.imgCrc ≠ rdw b 32) ∧ 4096 ≤ ({ s.tally with fuses := { s.tally.fuses with weak := r.weak } } : TallyState).readFuses.used) :=
  ⟨sTIsFull, islandReadV3, true, 0, tallyBytes.take 80, sealB true 4096 3 4, by decide +kernel⟩

/-- Each premise of `Obligations.TallyIslandChecks` can be met. -/
theorem test_witness_TallyIslandChecks_part12 :
    (∃ (s : State), s.tally.runs = true) :=
  ⟨sTCount, by decide +kernel⟩

/-- Each premise of `Obligations.TallyIslandChecks` can be met. -/
theorem test_witness_TallyIslandChecks_part13 :
    (∃ (s : State), crc32c (s.tally.image.drop 64) = s.tally.imgCrc) :=
  ⟨sReset, by decide +kernel⟩

/-- Each premise of `Obligations.TallySealing` can be met. -/
theorem test_witness_TallySealing :
    (∃ (s : State), (s.tally.mode = .unsealed ∨ s.tally.mode = .counting) ∧ s.psm.state ≠ .boot ∧ s.tally.idleWindows = true ∧
        s.tally.used < 4096 ∧ s.tally.sealDone = false) ∧
    (∃ (s : State), (s.tally.idleWindows = false ∨ 4096 ≤ s.tally.used ∨ s.psm.state = .boot ∨ s.tally.sealDone = true ∨
        (s.tally.mode ≠ .unsealed ∧ s.tally.mode ≠ .counting))) ∧
    (∃ (s : State) (r : SealRun), s.portFree ∧ s.tally.mode = .sealing ∧ r.nonCode = true) ∧
    (∃ (s : State) (r : SealRun), s.portFree ∧ s.tally.mode = .sealing ∧ r.nonCode = false ∧
        ({ s.tally.fuses with weak := r.weak } : IslandFuses).voted (511 + s.tally.fuses.burnt) ≠ some true) ∧
    (∃ (s : State) (r : SealRun), s.portFree ∧ s.tally.mode = .sealing ∧ r.nonCode = false ∧
        ({ s.tally.fuses with weak := r.weak } : IslandFuses).voted (511 + s.tally.fuses.burnt) = some true ∧ r.flashOk = true) ∧
    (∃ (s : State) (r : SealRun), s.portFree ∧ s.tally.mode = .sealing ∧ r.nonCode = false ∧
        ({ s.tally.fuses with weak := r.weak } : IslandFuses).voted (511 + s.tally.fuses.burnt) = some true ∧ r.flashOk = false) ∧
    (∃ (s : State), s.tally.mode ≠ .sealing) :=
  ⟨⟨sTCount, by decide +kernel⟩,
   ⟨sReset, by decide +kernel⟩,
   ⟨sTSeal, sealRunV1, by decide +kernel⟩,
   ⟨sTSeal, sealRunV2, by decide +kernel⟩,
   ⟨sTSeal, sealRunV3, by decide +kernel⟩,
   ⟨sTSeal, sealRunV4, by decide +kernel⟩,
   ⟨sReset, by decide +kernel⟩⟩

/-- Each premise of `Obligations.TallyCurtainTraffic` can be met. -/
theorem test_witness_TallyCurtainTraffic :
    (∃ (f : EventFrame), f.code = 0x11) ∧
    (∃ (s : State) (p : PortalId) (f : EventFrame) (n : Nat) (b : List Byte) (x : _), f.code = 0x10 ∧ frameOf ((s.tally.parts.get p).at2
        (if f.port.toNat % 2 = 0 then 0 else 1)) f = some (n, b) ∧ rd8 b 0 = 0xA5 ∧ rd8 b 1 = n ∧ curtainCrcOk b = true ∧
        ((s.tally.spans.get p).any fun x => decide (x.1 ≤ f.etime.toNat) && decide (f.etime.toNat < x.2)) = false ∧
        s.tally.windows.get p = some x ∧ x.end_ = none ∧ x.start.toNat ≤ f.etime.toNat) ∧
    (∃ (s : State) (p : PortalId) (f : EventFrame) (n : Nat) (b : List Byte), f.code = 0x10 ∧ frameOf ((s.tally.parts.get p).at2
        (if f.port.toNat % 2 = 0 then 0 else 1)) f = some (n, b) ∧ rd8 b 0 = 0xA5 ∧ rd8 b 1 = n ∧ curtainCrcOk b = true ∧
        ((s.tally.spans.get p).any fun x => decide (x.1 ≤ f.etime.toNat) && decide (f.etime.toNat < x.2)) = true) ∧
    (∃ (s : State) (p : PortalId) (f : EventFrame) (n : Nat) (b : List Byte), f.code = 0x10 ∧ frameOf ((s.tally.parts.get p).at2
        (if f.port.toNat % 2 = 0 then 0 else 1)) f = some (n, b) ∧ (rd8 b 0 ≠ 0xA5 ∨ rd8 b 1 ≠ n ∨ curtainCrcOk b = false)) ∧
    (∃ (s : State) (p : PortalId) (f : EventFrame), f.code = 0x10 ∧ f.parts = 0x20 ∧ ((s.tally.parts.get p).at2
        (if f.port.toNat % 2 = 0 then 0 else 1)) = none) :=
  ⟨⟨eventFrameV1, by decide +kernel⟩,
   ⟨sTCountWin, 0, eventFrameV2, ((frameOf ((sTCountWin.tally.parts.get (0 : PortalId)).at2
        (if eventFrameV2.port.toNat % 2 = 0 then 0 else 1)) eventFrameV2).get (by decide +kernel)).1, ((frameOf ((sTCountWin.tally.parts.get
        (0 : PortalId)).at2 (if eventFrameV2.port.toNat % 2 = 0 then 0 else 1)) eventFrameV2).get (by decide +kernel)).2,
        (sTCountWin.tally.windows.get (0 : PortalId)).get (by decide +kernel), by decide +kernel, some_pair (by decide +kernel),
        by decide +kernel, by decide +kernel, by decide +kernel, by decide +kernel, (Option.some_get (by decide +kernel)).symm,
        by decide +kernel⟩,
   ⟨sTCountEnd, 0, eventFrameV3, ((frameOf ((sTCountEnd.tally.parts.get (0 : PortalId)).at2
        (if eventFrameV3.port.toNat % 2 = 0 then 0 else 1)) eventFrameV3).get (by decide +kernel)).1, ((frameOf ((sTCountEnd.tally.parts.get
        (0 : PortalId)).at2 (if eventFrameV3.port.toNat % 2 = 0 then 0 else 1)) eventFrameV3).get (by decide +kernel)).2, by decide +kernel,
        some_pair (by decide +kernel), by decide +kernel⟩,
   ⟨sReset, 0, eventFrameV4, ((frameOf ((sReset.tally.parts.get (0 : PortalId)).at2
        (if eventFrameV4.port.toNat % 2 = 0 then 0 else 1)) eventFrameV4).get (by decide +kernel)).1, ((frameOf ((sReset.tally.parts.get
        (0 : PortalId)).at2 (if eventFrameV4.port.toNat % 2 = 0 then 0 else 1)) eventFrameV4).get (by decide +kernel)).2, by decide +kernel,
        some_pair (by decide +kernel), by decide +kernel⟩,
   ⟨sReset, 0, eventFrameV5, by decide +kernel⟩⟩

/-- Each premise of `Obligations.TallyWindows` can be met. -/
theorem test_witness_TallyWindows :
    (∃ (s : State) (m : CycleMark), m.nonCode = false ∧ s.tally.mode = .counting ∧ m.isEnd = false) ∧
    (∃ (s : State) (m : CycleMark), m.nonCode = false ∧ s.tally.mode ≠ .counting ∧ m.isEnd = false) ∧
    (∃ (s : State) (m : CycleMark) (x : Window), s.portFree ∧ m.nonCode = false ∧ m.isEnd = true ∧ s.tally.windows.get m.portal = some x) ∧
    (∃ (s : State) (m : CycleMark), s.portFree ∧ m.nonCode = false ∧ m.isEnd = true ∧ s.tally.windows.get m.portal = none) ∧
    (∃ (s : State) (m : CycleMark), s.portFree ∧ m.nonCode = true) ∧
    (∃ (s : State) (p : PortalId) (x : Window) (r : List Window), s.tally.ending.get p = x :: r ∧ x.counts.track = none) ∧
    (∃ (s : State) (p : PortalId), s.tally.ending.get p = []) ∧
    (∃ (s : State) (p : PortalId) (x : Window) (k : Track), s.tally.windows.get p = some x ∧ x.counts.track = some k ∧ k.outerNow = false ∧
        k.innerNow = false) ∧
    (∃ (ports : BitVec 4) (p : PortalId), wbit ports p.val = true) :=
  ⟨⟨sTCount, cycleMarkV1, by decide +kernel⟩,
   ⟨sReset, cycleMarkV1, by decide +kernel⟩,
   ⟨sTCountWin, cycleMarkV2, (sTCountWin.tally.windows.get cycleMarkV2.portal).get (by decide +kernel), by decide +kernel,
        by decide +kernel, by decide +kernel, (Option.some_get (by decide +kernel)).symm⟩,
   ⟨sReset, cycleMarkV2, by decide +kernel⟩,
   ⟨sReset, cycleMarkV3, by decide +kernel⟩,
   ⟨sTCountWin, 0, (sTCountWin.tally.ending.get (0 : PortalId)).head (by decide +kernel), (sTCountWin.tally.ending.get (0 : PortalId)).tail,
        by decide +kernel⟩,
   ⟨sReset, 0, by decide +kernel⟩,
   ⟨sTTrack01, 0, (sTTrack01.tally.windows.get (0 : PortalId)).get (by decide +kernel), (((sTTrack01.tally.windows.get (0 : PortalId)).get
        (by decide +kernel)).counts.track).get (by decide +kernel), (Option.some_get (by decide +kernel)).symm, (Option.some_get
        (by decide +kernel)).symm, by decide +kernel⟩,
   ⟨1, 0, by decide +kernel⟩⟩

/-- Each premise of `Obligations.TallyRecordsAndCarousel` can be met. -/
theorem test_witness_TallyRecordsAndCarousel :
    (∃ (s : State) (p : PortalId) (x : Window) (r : List Window), s.portFree ∧ s.tally.closing.get p = x :: r) ∧
    (∃ (s : State) (p : PortalId), s.tally.closing.get p = []) ∧
    (∃ (s : State) (e : Nat), s.audits.find? (fun n => decide (s.tally.carIdx < n)) = some e) ∧
    (∃ (s : State), s.audits.find? (fun n => decide (s.tally.carIdx < n)) = none) :=
  ⟨⟨sTCountWin, 0, (sTCountWin.tally.closing.get (0 : PortalId)).head (by decide +kernel), (sTCountWin.tally.closing.get
        (0 : PortalId)).tail, by decide +kernel⟩,
   ⟨sReset, 0, by decide +kernel⟩,
   ⟨sTAudit, (sTAudit.audits.find? (fun n => decide (sTAudit.tally.carIdx < n))).get (by decide +kernel), (Option.some_get
        (by decide +kernel)).symm⟩,
   ⟨sReset, by decide +kernel⟩⟩

/-- Each premise of `Obligations.AcquisitionFrontEndAndGroups` can be met. -/
theorem test_witness_AcquisitionFrontEndAndGroups :
    (∃ (s : State) (p : PortalId), (s.portals.get p).calm ∧ wbit (s.portals.get p).afe.stream 19 = true ∧
        (s.portals.get p).afe.halted = false) ∧
    (∃ (s : State) (n : Fin 16) (g : Group), s.portAlive = true ∧ s.serves 0x30000 = true ∧ s.acq.groups.get n = g ∧ g.recd = true) ∧
    (∃ (s : State) (n : Fin 16) (g : Group) (w : Word), s.portAlive = true ∧ s.serves 0x30000 = true ∧ s.acq.groups.get n = g ∧
        g.recd = false ∧ g.en = true ∧ wbit w 31 = false ∧ (g.cfg ^^^ w) &&& 0x0FF0FFFF = 0) ∧
    (∃ (s : State) (n : Fin 16) (g : Group) (w : Word), s.portAlive = true ∧ s.serves 0x30000 = true ∧ s.acq.groups.get n = g ∧
        g.recd = false ∧ g.en = false ∧ wbit w 31 = true ∧ ({ g with cfg := wrw g.cfg w 0x0FF0FFFF } : Group).check n.val
        (s.acq.othersOf n) s.groupEnv = 0) ∧
    (∃ (s : State) (n : Fin 16) (g : Group) (w : Word), s.portAlive = true ∧ s.serves 0x30000 = true ∧ s.acq.groups.get n = g ∧
        g.recd = false ∧ g.en = false ∧ wbit w 31 = true ∧ ({ g with cfg := wrw g.cfg w 0x0FF0FFFF } : Group).check n.val
        (s.acq.othersOf n) s.groupEnv ≠ 0) ∧
    (∃ (s : State) (n : Fin 16) (g : Group), s.portAlive = true ∧ s.serves 0x30000 = true ∧ s.acq.groups.get n = g ∧ g.recd = false ∧
        g.en = true ∧ g.full = true) ∧
    (∃ (s : State) (n : Fin 16) (g : Group), s.portAlive = true ∧ s.serves 0x30000 = true ∧ s.acq.groups.get n = g ∧ g.recd = false ∧
        g.full = false) ∧
    (∃ (s : State), s.portAlive = true ∧ s.serves 0x30000 = true ∧ (∀ n, (s.acq.groups.get n).paused = false)) ∧
    (∃ (s : State) (single : List Nat) (double : List Nat), (∀ a ∈ double, s.acq.bad.contains a = false) ∧
        fget s.acq.ecc 31 16 + single.length ≤ 0xFFFF ∧ fget s.acq.ecc 15 0 + double.length ≤ 0xFFFF) :=
  ⟨⟨onDies pStream, 0, calm_of (by decide +kernel), by decide +kernel⟩,
   ⟨sGDig, 0, sGDig.acq.groups.get (0 : Fin 16), by decide +kernel, by decide +kernel, rfl, by decide +kernel⟩,
   ⟨sGEn1, 0, sGEn1.acq.groups.get (0 : Fin 16), 1, by decide +kernel, by decide +kernel, rfl, by decide +kernel⟩,
   ⟨sGDis1, 0, sGDis1.acq.groups.get (0 : Fin 16), 0x80100008, by decide +kernel, by decide +kernel, rfl, by decide +kernel⟩,
   ⟨sBase, 0, sBase.acq.groups.get (0 : Fin 16), 0x80100008, by decide +kernel, by decide +kernel, rfl, by decide +kernel⟩,
   ⟨sGFull, 0, sGFull.acq.groups.get (0 : Fin 16), by decide +kernel, by decide +kernel, rfl, by decide +kernel⟩,
   ⟨sBase, 0, sBase.acq.groups.get (0 : Fin 16), by decide +kernel, by decide +kernel, rfl, by decide +kernel⟩,
   ⟨sBase, by decide +kernel⟩,
   ⟨sReset, [], [], by decide +kernel⟩⟩

/-- Each premise of `Obligations.AcquisitionTriggersAndSegments` can be met. -/
theorem test_witness_AcquisitionTriggersAndSegments :
    (∃ (s : State) (n : Fin 16) (g : Group), s.acq.groups.get n = g ∧ g.en = false) ∧
    (∃ (s : State) (n : Fin 16) (g : Group), s.acq.groups.get n = g ∧ g.en = true ∧ g.paused = true) ∧
    (∃ (s : State) (n : Fin 16) (g : Group), s.acq.groups.get n = g ∧ g.en = true ∧ g.paused = false ∧ g.armed = true ∧
        g.commit.isSome = true) ∧
    (∃ (s : State) (n : Fin 16) (x : Trigger) (g : Group), s.acq.groups.get n = g ∧ g.en = true ∧ g.paused = false ∧ g.armed = true ∧
        g.commit = none ∧ g.trig = none ∧ 0 < g.upTo x.stamp.toNat ∧ g.pre ≤ g.indexOf x.stamp.toNat) ∧
    (∃ (s : State) (n : Fin 16) (x : Trigger) (g : Group), s.acq.groups.get n = g ∧ g.en = true ∧ g.paused = false ∧ g.armed = true ∧
        g.commit = none ∧ g.trig = none ∧ g.indexOf x.stamp.toNat < g.pre ∧ g.early = false) ∧
    (∃ (s : State), s.portAlive = true ∧ s.serves 0x30000 = true) ∧
    (∃ (s : State) (n : Fin 16), (s.acq.groups.get n).armed = true ∧ (s.acq.groups.get n).autoUs ≠ 0 ∧ (s.acq.groups.get n).commit = none) ∧
    (∃ (s : State) (n : Fin 16), (s.acq.groups.get n).autoUs = 0) ∧
    (∃ (s : State) (n : Fin 16) (g : Group) (x : PendingTrig), s.acq.groups.get n = g ∧ g.trig = some x ∧ g.src ≠ 2 ∧
        g.kept.length < g.lenN - g.pre ∧ (∀ h c, ¬(((s.acq.groups.get h).conds.get c).kind = 9 ∧
        ((s.acq.groups.get h).conds.get c).src = n.val)) ∧ 0 < g.upTo (x.key + g.ts - 1) ∧ (∃ y ∈ g.kept, x.key ≤ y.time)) :=
  ⟨⟨sReset, 0, sReset.acq.groups.get (0 : Fin 16), rfl, by decide +kernel⟩,
   ⟨sGPaused, 0, sGPaused.acq.groups.get (0 : Fin 16), rfl, by decide +kernel⟩,
   ⟨sGCommit, 0, sGCommit.acq.groups.get (0 : Fin 16), rfl, by decide +kernel⟩,
   ⟨sGKept, 0, triggerV1, sGKept.acq.groups.get (0 : Fin 16), rfl, by decide +kernel⟩,
   ⟨sGEn1, 0, triggerV1, sGEn1.acq.groups.get (0 : Fin 16), rfl, by decide +kernel⟩,
   ⟨sBase, by decide +kernel⟩,
   ⟨sGAuto, 0, by decide +kernel⟩,
   ⟨sReset, 0, by decide +kernel⟩,
   ⟨sGTrig, 0, sGTrig.acq.groups.get (0 : Fin 16), ((sGTrig.acq.groups.get (0 : Fin 16)).trig).get (by decide +kernel), rfl,
        (Option.some_get (by decide +kernel)).symm, by decide +kernel⟩⟩

/-- Each premise of `Obligations.AcquisitionTriggersAndSegments` can be met. -/
theorem test_witness_AcquisitionTriggersAndSegments_part2 :
    (∃ (s : State) (n : Fin 16), (s.acq.groups.get n).trig = none) ∧
    (∃ (s : State) (n : Fin 16) (g : Group), s.acq.groups.get n = g ∧ g.src = 2 ∧ g.dspan ≠ 0 ∧ g.armed = true ∧ g.commit.isSome = true ∧
        fget g.cfg 23 22 = 0) ∧
    (∃ (s : State) (n : Fin 16), (s.acq.groups.get n).dspan = 0) ∧
    (∃ (s : State) (n : Fin 16) (slot : BitVec 12), (s.acq.groups.get n).measuring.contains slot.toNat = true ∧
        (s.acq.groups.get n).paused = false) ∧
    (∃ (s : State) (n : Fin 16) (slot : BitVec 12), (s.acq.groups.get n).measuring.contains slot.toNat = false) :=
  ⟨⟨sReset, 0, by decide +kernel⟩,
   ⟨sGDig2, 0, sGDig2.acq.groups.get (0 : Fin 16), rfl, by decide +kernel⟩,
   ⟨sReset, 0, by decide +kernel⟩,
   ⟨sGMeas, 0, 0, by decide +kernel⟩,
   ⟨sReset, 0, 0, by decide +kernel⟩⟩

/-- Each premise of `Obligations.PasswordsSealsAndKeys` can be met. -/
theorem test_witness_PasswordsSealsAndKeys :
    (∃ (s : State) (w : Word), s.portFree ∧ s.portAlive = true ∧ s.serves 0x50010 = true ∧ wbit w 31 = false) ∧
    (∃ (s : State), s.portFree ∧ s.portAlive = true ∧ s.serves 0x50010 = true ∧ s.sec.holdUntil.isSome = true) ∧
    (∃ (s : State) (w : Word) (g : _), s.portFree ∧ s.portAlive = true ∧ s.serves 0x50010 = true ∧ wbit w 31 = true ∧
        s.sec.holdUntil = none ∧ s.sec.pwJob = none ∧ s.harn.image = some g ∧ 0 < fget w 4 0 ∧ fget w 4 0 ≤ 16) ∧
    (∃ (s : State) (w : Word) (g : _), s.portFree ∧ s.portAlive = true ∧ s.serves 0x50010 = true ∧ wbit w 31 = true ∧
        s.sec.holdUntil = none ∧ s.sec.pwJob = none ∧ s.harn.image = some g ∧ (fget w 4 0 = 0 ∨ 16 < fget w 4 0) ∧ s.sec.failRun < 7) ∧
    (∃ (s : State) (w : Word), s.portFree ∧ s.portAlive = true ∧ s.serves 0x50010 = true ∧ wbit w 31 = true ∧ s.sec.holdUntil = none ∧
        s.sec.pwJob = none ∧ s.harn.image = none ∧ fget w 4 0 = 0) ∧
    (∃ (s : State) (w : Word), s.portFree ∧ s.portAlive = true ∧ s.serves 0x50010 = true ∧ wbit w 31 = true ∧ s.sec.holdUntil = none ∧
        s.sec.pwJob = none ∧ s.harn.image = none ∧ 0 < fget w 4 0 ∧ fget w 4 0 ≤ 16) ∧
    (∃ (s : State) (j : PwJob), s.portFree ∧ s.sec.pwJob = some j ∧ (pbkdf2 j.bytes j.salt == j.hash && j.hash != zeros 32) = false) ∧
    (∃ (s : State) (sw : BitVec 4), s.portFree ∧ s.psm.porHeld = false ∧ s.psm.resetLow = false ∧ (s.fuse.compat = false ∨
        s.psm.state ≠ .maintain ∨ s.sec.sealSw ≠ 15 ∨ sw = 15)) ∧
    (∃ (s : State) (sw : BitVec 4), s.portFree ∧ s.psm.porHeld = false ∧ s.psm.resetLow = false ∧ s.fuse.compat = true ∧
        s.psm.state = .maintain ∧ s.sec.sealSw = 15 ∧ sw ≠ 15) :=
  ⟨⟨sBase, 0x10004, by decide +kernel⟩,
   ⟨sPwHoldoff, by decide +kernel⟩,
   ⟨sBase, 0x80100008, (sBase.harn.image).get (by decide +kernel), by decide +kernel, by decide +kernel, by decide +kernel,
        by decide +kernel, by decide +kernel, by decide +kernel, (Option.some_get (by decide +kernel)).symm, by decide +kernel⟩,
   ⟨sBase, 0x80000000, (sBase.harn.image).get (by decide +kernel), by decide +kernel, by decide +kernel, by decide +kernel,
        by decide +kernel, by decide +kernel, by decide +kernel, (Option.some_get (by decide +kernel)).symm, by decide +kernel⟩,
   ⟨sBFuse, 0x80000000, by decide +kernel⟩,
   ⟨sBFuse, 0x80100008, by decide +kernel⟩,
   ⟨sPwJob, (sPwJob.sec.pwJob).get (by decide +kernel), by decide +kernel, (Option.some_get (by decide +kernel)).symm, and_false_of
        (by decide +kernel)⟩,
   ⟨sBase, 0, by decide +kernel⟩,
   ⟨sMaintSeal, 0, by decide +kernel⟩⟩

/-- Each premise of `Obligations.PasswordsSealsAndKeys` can be met. -/
theorem test_witness_PasswordsSealsAndKeys_part2 :
    (∃ (s : State) (k : Fin 4), s.portFree ∧ s.portAlive = true ∧ s.serves 0x50020 = true ∧ s.sec.keyJob = none ∧ s.psm.state = .maintain ∧
        s.harn.recovery = false ∧ s.sealLow = false ∧ s.fuse.valid k = false ∧ s.fuse.void.getLsbD k.val = false ∧
        (s.fuse.keys.get k).cells = []) ∧
    (∃ (s : State) (k : Fin 4), s.portFree ∧ s.portAlive = true ∧ s.serves 0x50020 = true ∧ s.sec.keyJob = none ∧ s.psm.state = .maintain ∧
        s.harn.recovery = false ∧ s.sealLow = false ∧ s.fuse.valid k = true) ∧
    (∃ (s : State) (k : Fin 4) (g : _), s.portFree ∧ s.portAlive = true ∧ s.serves 0x50020 = true ∧ s.sec.keyJob = none ∧
        s.psm.state = .maintain ∧ s.harn.recovery = false ∧ s.sealLow = false ∧ s.harn.image = some g ∧ g.slot ≠ k.val ∧
        s.fuse.goodSlots ≠ [k]) ∧
    (∃ (s : State) (k : Fin 4) (g : _), s.portFree ∧ s.portAlive = true ∧ s.serves 0x50020 = true ∧ s.sec.keyJob = none ∧
        s.psm.state = .maintain ∧ s.harn.recovery = false ∧ s.sealLow = false ∧ s.harn.image = some g ∧ g.slot ≠ k.val ∧
        s.fuse.goodSlots = [k]) ∧
    (∃ (s : State), s.portFree ∧ s.portAlive = true ∧ s.serves 0x50020 = true ∧ s.sec.keyJob = none ∧ s.psm.state ≠ .maintain) ∧
    (∃ (s : State) (j : KeyJob), s.portFree ∧ s.sec.keyJob = some j) :=
  ⟨⟨sMaintain, 0, by decide +kernel⟩,
   ⟨sMaintSeal, 0, by decide +kernel⟩,
   ⟨sMaintain, 0, (sMaintain.harn.image).get (by decide +kernel), by decide +kernel, by decide +kernel, by decide +kernel,
        by decide +kernel, by decide +kernel, by decide +kernel, by decide +kernel, (Option.some_get (by decide +kernel)).symm,
        by decide +kernel⟩,
   ⟨sRAct, 0, (sRAct.harn.image).get (by decide +kernel), by decide +kernel, by decide +kernel, by decide +kernel, by decide +kernel,
        by decide +kernel, by decide +kernel, by decide +kernel, (Option.some_get (by decide +kernel)).symm, by decide +kernel⟩,
   ⟨sBase, by decide +kernel⟩,
   ⟨sKeyJobP, (sKeyJobP.sec.keyJob).get (by decide +kernel), by decide +kernel, (Option.some_get (by decide +kernel)).symm⟩⟩

/-- Each premise of `Obligations.FlashCommandsAndFabricTicks` can be met. -/
theorem test_witness_FlashCommandsAndFabricTicks :
    (∃ (s : State), s.portFree ∧ s.portAlive = true ∧ s.serves 0x4020 = true ∧ s.psm.state ≠ .maintain) ∧
    (∃ (s : State), s.portFree ∧ s.portAlive = true ∧ s.serves 0x4020 = true ∧ s.psm.state = .maintain ∧ s.harn.job.isSome = true) ∧
    (∃ (s : State) (r : Region), s.portFree ∧ s.portAlive = true ∧ s.serves 0x4020 = true ∧ s.psm.state = .maintain ∧ s.harn.job = none ∧
        s.sealLow = false ∧ s.harn.recovery = false ∧ s.harn.isActive r = false) ∧
    (∃ (s : State) (r : Region), s.portFree ∧ s.portAlive = true ∧ s.serves 0x4020 = true ∧ s.psm.state = .maintain ∧ s.harn.job = none ∧
        s.sealLow = false ∧ s.harn.recovery = false ∧ s.harn.isActive r = true) ∧
    (∃ (s : State) (r : Region), s.portFree ∧ s.portAlive = true ∧ s.serves 0x4020 = true ∧ s.psm.state = .maintain ∧ s.harn.job = none ∧
        s.sealLow = false ∧ s.harn.isActive r = false ∧ s.harn.fladdr &&& 0xFFC000FF = 0) ∧
    (∃ (s : State) (r : Region), s.portFree ∧ s.portAlive = true ∧ s.serves 0x4020 = true ∧ s.psm.state = .maintain ∧ s.harn.job = none ∧
        s.sealLow = false ∧ s.harn.isActive r = false ∧ s.harn.fladdr &&& 0xFFC000FF ≠ 0) ∧
    (∃ (s : State) (r : Region), s.portFree ∧ s.portAlive = true ∧ s.serves 0x4020 = true ∧ s.psm.state = .maintain ∧ s.harn.job = none ∧
        s.sealLow = false ∧ s.harn.regOk r = true) ∧
    (∃ (s : State) (r : Region), s.portFree ∧ s.portAlive = true ∧ s.serves 0x4020 = true ∧ s.psm.state = .maintain ∧ s.harn.job = none ∧
        s.sealLow = false ∧ s.harn.regOk r = false) ∧
    (∃ (s : State) (r : Region), s.portFree ∧ s.harn.job = some (.erase r)) :=
  ⟨⟨sBase, by decide +kernel⟩,
   ⟨sJobErase, by decide +kernel⟩,
   ⟨sMaintain, Region.b, by decide +kernel⟩,
   ⟨sMaintain, Region.a, by decide +kernel⟩,
   ⟨sMaintain, Region.b, by decide +kernel⟩,
   ⟨sFlAddr, Region.b, by decide +kernel⟩,
   ⟨sMActiveA, Region.a, by decide +kernel⟩,
   ⟨sMaintain, Region.a, by decide +kernel⟩,
   ⟨sJobErase, Region.b, by decide +kernel⟩⟩

/-- Each premise of `Obligations.FlashCommandsAndFabricTicks` can be met. -/
theorem test_witness_FlashCommandsAndFabricTicks_part2 :
    (∃ (s : State) (r : Region) (b : _) (d : _), s.portFree ∧ s.harn.job = some (.program r b d)) ∧
    (∃ (s : State) (r : Region), s.portFree ∧ s.harn.job = some (.verify r)) ∧
    (∃ (s : State) (r : Region) (g : _), s.portFree ∧ s.harn.job = some (.activate r) ∧ (checkImage s.harn.flash s.fuse r).image = some g) ∧
    (∃ (s : State) (r : Region), s.portFree ∧ s.harn.job = some (.activate r) ∧ (checkImage s.harn.flash s.fuse r).image = none) ∧
    (∃ (s : State) (i : PairId) (u : List FabricUpset), s.portFree ∧ s.lock.lead = some i ∧ (s.pair i.other).state = .shadow ∧
        s.lock.graft = none ∧ s.lock.promoteWhy = 0 ∧ ((fun (j : PairId) =>
        (s.fabric.pairs.pair j).tick s.hostCells s.hostTimers s.fabricSrc (upsetCells u j false) (upsetCells u j true)) i).2 = none ∧ ((fun
        (j : PairId) => (s.fabric.pairs.pair j).tick s.hostCells s.hostTimers s.fabricSrc (upsetCells u j false)
        (upsetCells u j true)) i.other).2 = none) ∧
    (∃ (s : State) (i : PairId) (u : List FabricUpset) (d : _), s.portFree ∧ s.lock.lead = some i ∧ (s.pair i.other).state = .shadow ∧
        s.lock.graft = none ∧ s.lock.promoteWhy = 0 ∧ ((fun (j : PairId) =>
        (s.fabric.pairs.pair j).tick s.hostCells s.hostTimers s.fabricSrc (upsetCells u j false) (upsetCells u j true)) i).2 = some d ∧
        ((fun (j : PairId) => (s.fabric.pairs.pair j).tick s.hostCells s.hostTimers s.fabricSrc (upsetCells u j false)
        (upsetCells u j true)) i.other).2 = none ∧ s.lock.xdisRun = 0 ∧ (s.pair i).fails < 3) ∧
    (∃ (s : State) (i : PairId) (u : List FabricUpset) (d : _), s.portFree ∧ s.lock.lead = some i ∧ (s.pair i.other).state = .shadow ∧
        s.lock.graft = none ∧ s.lock.promoteWhy = 0 ∧ ((fun (j : PairId) =>
        (s.fabric.pairs.pair j).tick s.hostCells s.hostTimers s.fabricSrc (upsetCells u j false) (upsetCells u j true)) i).2 = none ∧ ((fun
        (j : PairId) => (s.fabric.pairs.pair j).tick s.hostCells s.hostTimers s.fabricSrc (upsetCells u j false)
        (upsetCells u j true)) i.other).2 = some d ∧ (s.pair i.other).fails < 3) ∧
    (∃ (s : State) (p : PortalId), (s.portals.get p).calm) ∧
    (∃ (s : State) (p : PortalId) (P : PortalState), s.portals.get p = P ∧ P.calm ∧ holds P.units tagHARN 1 = false) :=
  ⟨⟨sJobProg8, Region.b, 3, [0, 0, 0, 0, 0, 0, 0, 0], by decide +kernel⟩,
   ⟨sJobVerify, Region.b, by decide +kernel⟩,
   ⟨sRAct, Region.b, ((checkImage sRAct.harn.flash sRAct.fuse Region.b).image).get (by decide +kernel), by decide +kernel,
        by decide +kernel, (Option.some_get (by decide +kernel)).symm⟩,
   ⟨sJobAct, Region.b, by decide +kernel⟩,
   ⟨sBase, (sBase.lock.lead).get (by decide +kernel), [], by decide +kernel, (Option.some_get (by decide +kernel)).symm, by decide +kernel⟩,
   ⟨sBase, (sBase.lock.lead).get (by decide +kernel), listFabricUpsetV1, (((fun (j : PairId) =>
        (sBase.fabric.pairs.pair j).tick sBase.hostCells sBase.hostTimers sBase.fabricSrc (upsetCells listFabricUpsetV1 j false)
        (upsetCells listFabricUpsetV1 j true)) ((sBase.lock.lead).get (by decide +kernel))).2).get (by decide +kernel), by decide +kernel,
        (Option.some_get (by decide +kernel)).symm, by decide +kernel, by decide +kernel, by decide +kernel, (Option.some_get
        (by decide +kernel)).symm, by decide +kernel⟩,
   ⟨sBase, (sBase.lock.lead).get (by decide +kernel), listFabricUpsetV2, (((fun (j : PairId) =>
        (sBase.fabric.pairs.pair j).tick sBase.hostCells sBase.hostTimers sBase.fabricSrc (upsetCells listFabricUpsetV2 j false)
        (upsetCells listFabricUpsetV2 j true)) ((sBase.lock.lead).get (by decide +kernel)).other).2).get (by decide +kernel),
        by decide +kernel, (Option.some_get (by decide +kernel)).symm, by decide +kernel, by decide +kernel, by decide +kernel,
        by decide +kernel, (Option.some_get (by decide +kernel)).symm, by decide +kernel⟩,
   ⟨sReset, 0, calm_of (by decide +kernel)⟩,
   ⟨sReset, 0, sReset.portals.get (0 : PortalId), rfl, calm_of (by decide +kernel), by decide +kernel⟩⟩

/-- Each premise of `Obligations.FlashCommandsAndFabricTicks` can be met. -/
theorem test_witness_FlashCommandsAndFabricTicks_part3 :
    (∃ (s : State) (p : PortalId) (u : List HarnessUpset) (P : PortalState) (d : _), s.portals.get p = P ∧ P.calm ∧
        holds P.units tagHARN 1 = true ∧ copyMismatch P.harnessCells ((fun (two : Bool) =>
        ((if two then P.harness.chan2 else P.harness.chan1).tick P.harnessCells P.harnessTimers P.harnessSrc.read).upset P.harnessCells
        ((u.filter fun x => x.chan2 == two).map fun x => x.cell.toNat)) false) ((fun (two : Bool) =>
        ((if two then P.harness.chan2 else P.harness.chan1).tick P.harnessCells P.harnessTimers P.harnessSrc.read).upset P.harnessCells
        ((u.filter fun x => x.chan2 == two).map fun x => x.cell.toNat)) true) = some d) ∧
    (∃ (s : State) (p : PortalId) (u : List HarnessUpset) (P : PortalState), s.portals.get p = P ∧ P.calm ∧ holds P.units tagHARN 1 = true ∧
        P.link.limp = false ∧ copyMismatch P.harnessCells ((fun (two : Bool) =>
        ((if two then P.harness.chan2 else P.harness.chan1).tick P.harnessCells P.harnessTimers P.harnessSrc.read).upset P.harnessCells
        ((u.filter fun x => x.chan2 == two).map fun x => x.cell.toNat)) false) ((fun (two : Bool) =>
        ((if two then P.harness.chan2 else P.harness.chan1).tick P.harnessCells P.harnessTimers P.harnessSrc.read).upset P.harnessCells
        ((u.filter fun x => x.chan2 == two).map fun x => x.cell.toNat)) true) = none) :=
  ⟨⟨onDies pHarn, 0, listHarnessUpsetV1, (onDies pHarn).portals.get (0 : PortalId), (copyMismatch ((onDies pHarn).portals.get
        (0 : PortalId)).harnessCells ((fun (two : Bool) => ((if two then ((onDies pHarn).portals.get (0 : PortalId)).harness.chan2 else
        ((onDies pHarn).portals.get (0 : PortalId)).harness.chan1).tick ((onDies pHarn).portals.get (0 : PortalId)).harnessCells
        ((onDies pHarn).portals.get (0 : PortalId)).harnessTimers ((onDies pHarn).portals.get (0 : PortalId)).harnessSrc.read).upset
        ((onDies pHarn).portals.get (0 : PortalId)).harnessCells ((listHarnessUpsetV1.filter fun x => x.chan2 == two).map
        fun x => x.cell.toNat)) false) ((fun (two : Bool) => ((if two then ((onDies pHarn).portals.get (0 : PortalId)).harness.chan2 else
        ((onDies pHarn).portals.get (0 : PortalId)).harness.chan1).tick ((onDies pHarn).portals.get (0 : PortalId)).harnessCells
        ((onDies pHarn).portals.get (0 : PortalId)).harnessTimers ((onDies pHarn).portals.get (0 : PortalId)).harnessSrc.read).upset
        ((onDies pHarn).portals.get (0 : PortalId)).harnessCells ((listHarnessUpsetV1.filter fun x => x.chan2 == two).map
        fun x => x.cell.toNat)) true)).get (by decide +kernel), rfl, calm_of (by decide +kernel), by decide +kernel, (Option.some_get
        (by decide +kernel)).symm⟩,
   ⟨sBase, 0, [], sBase.portals.get (0 : PortalId), rfl, calm_of (by decide +kernel), by decide +kernel⟩⟩

/-- Each premise of `Obligations.KernelOutputsObeyTheirGuards` can be met. -/
theorem test_witness_KernelOutputsObeyTheirGuards :
    (∃ (s : State) (k : KernelInputs), s.portFree ∧ s.kernelRuns = true ∧ (s.boundary k).lock.lead.isSome = true) :=
  ⟨sBase, kernelInputsV1, by decide +kernel⟩

/-- Each premise of `Obligations.KernelCycleTimersAndPortalCommands` can be met. -/
theorem test_witness_KernelCycleTimersAndPortalCommands :
    (∃ (s : State), s.kernelRuns = false ∧ s.time.stepPend = none) ∧
    (∃ (s : State) (k : KernelInputs) (i : PairId), s.portFree ∧ s.psm.state = .service ∧ s.lock.lead = some i ∧ s.lock.promoteWhy = 0 ∧
        s.psm.busy = none ∧ s.lock.plan = none ∧ s.lock.graft = none ∧ s.lock.xdisRun = 0 ∧ s.time.stepPend = none ∧
        crossResult k.xsig s.lock.sig = .equal) ∧
    (∃ (bad : BitVec 128) (n : Nat), 32 ≤ n ∧ n < 96 ∧ n % 16 = 0 ∧ (∃ i, i < 16 ∧ wbit bad (n + i) = true)) ∧
    (∃ (s : State) (p : PortalId), s.portFree ∧ (s.sp p).custValid = true ∧ (seqRec (s.seqTable p) (s.sp p).cust).timeout ≠ 0) ∧
    (∃ (s : State) (p : PortalId), s.portFree ∧ (s.sp p).custValid = false) ∧
    (∃ (s : State) (p : PortalId) (x : _), s.portFree ∧ (s.sp p).agreeAt = some x) ∧
    (∃ (s : State) (p : PortalId), s.portFree ∧ (s.sp p).agreeAt = none) ∧
    (∃ (s : State) (x : _), s.portFree ∧ s.seq.zsDiffAt = some x ∧ s.seq.zsDisc = false) ∧
    (∃ (s : State), s.portFree ∧ s.seq.zsDiffAt = none) :=
  ⟨⟨sReset, by decide +kernel⟩,
   ⟨sService, kernelInputsV1, (sService.lock.lead).get (by decide +kernel), by decide +kernel, by decide +kernel, (Option.some_get
        (by decide +kernel)).symm, by decide +kernel⟩,
   ⟨0xffffffffffffffffffffffffffffffff, 32, by decide +kernel⟩,
   ⟨sSeqTmo, 0, by decide +kernel⟩,
   ⟨sReset, 0, by decide +kernel⟩,
   ⟨sSeqTmo, 0, ((sSeqTmo.sp (0 : PortalId)).agreeAt).get (by decide +kernel), by decide +kernel, (Option.some_get
        (by decide +kernel)).symm⟩,
   ⟨sReset, 0, by decide +kernel⟩,
   ⟨sZsDiff, (sZsDiff.seq.zsDiffAt).get (by decide +kernel), by decide +kernel, (Option.some_get (by decide +kernel)).symm,
        by decide +kernel⟩,
   ⟨sReset, by decide +kernel⟩⟩

/-- Each premise of `Obligations.KernelCycleTimersAndPortalCommands` can be met. -/
theorem test_witness_KernelCycleTimersAndPortalCommands_part2 :
    (∃ (s : State) (p : PortalId) (r : _) (x : _), s.portFree ∧ (s.sp p).splitAt.get (roleIdx r) = some x) ∧
    (∃ (s : State) (p : PortalId) (r : _), s.portFree ∧ (s.sp p).splitAt.get (roleIdx r) = none) ∧
    (∃ (s : State) (key : Byte), s.portFree ∧ s.portAlive = true ∧ s.serves 0x6034 = true ∧ key ≠ 0x5E) ∧
    (∃ (s : State) (key : Byte), s.portFree ∧ s.portAlive = true ∧ s.serves 0x6034 = true ∧ key = 0x5E ∧ s.seq.pcmd = none ∧
        s.seq.pcmdQueue = []) ∧
    (∃ (s : State) (key : Byte) (c : _), s.portFree ∧ s.portAlive = true ∧ s.serves 0x6034 = true ∧ key = 0x5E ∧ s.seq.pcmd = some c) :=
  ⟨⟨sSeqTmo, 0, Role.cls, ((sSeqTmo.sp (0 : PortalId)).splitAt.get (roleIdx Role.cls)).get (by decide +kernel), by decide +kernel,
        (Option.some_get (by decide +kernel)).symm⟩,
   ⟨sReset, 0, Role.cls, by decide +kernel⟩,
   ⟨sBase, 0, by decide +kernel⟩,
   ⟨sBase, 94, by decide +kernel⟩,
   ⟨sPcmd, 94, (sPcmd.seq.pcmd).get (by decide +kernel), by decide +kernel, by decide +kernel, by decide +kernel, by decide +kernel,
        (Option.some_get (by decide +kernel)).symm⟩⟩

/-- Each premise of `Obligations.CommandFramesMotionsAndOrders` can be met. -/
theorem test_witness_CommandFramesMotionsAndOrders :
    (∃ (s : State) (p : PortalId) (P : PortalState), s.portals.get p = P ∧ P.calm ∧ P.cls ≠ .fault ∧ P.link.up = false) ∧
    (∃ (s : State) (p : PortalId) (h : FrameHdr) (P : PortalState), s.portals.get p = P ∧ P.calm ∧ P.cls ≠ .fault ∧ P.link.up = true ∧
        P.link.fin.accept h = none) ∧
    (∃ (s : State) (p : PortalId) (h : FrameHdr) (P : PortalState) (e : _), s.portals.get p = P ∧ P.calm ∧ P.cls ≠ .fault ∧
        P.link.up = true ∧ P.link.fin.accept h = some e ∧ P.link.takeover ≠ .ready) ∧
    (∃ (s : State) (p : PortalId) (h : FrameHdr) (f : CommandFrame) (x : Bool) (P : PortalState) (e : _), s.portals.get p = P ∧ P.calm ∧
        P.cls ≠ .fault ∧ P.link.up = true ∧ P.link.fin.accept h = some e ∧ P.link.takeover = .ready ∧ P.link.limp = false ∧
        P.jogging = false ∧ (∀ g, P.link.last = some g → g.mseq ≠ f.mseq) ∧ P.acting = false ∧ P.ob.lockCause = 0 ∧ x = false ∧
        guardedOf f.cls.toNat ≠ .fault ∧ f.dstate = 5 ∧ wbit f.flags 0 = true ∧ wbit f.flags 1 = true ∧ (∀ a, P.motionAllowed
        (guardedOf f.cls.toNat) (f.motion.get a) = true)) ∧
    (∃ (s : State) (p : PortalId) (h : FrameHdr) (f : CommandFrame) (P : PortalState) (e : _) (a : _), s.portals.get p = P ∧ P.calm ∧
        P.cls ≠ .fault ∧ P.link.up = true ∧ P.link.fin.accept h = some e ∧ P.link.takeover = .ready ∧ P.link.limp = false ∧
        P.jogging = false ∧ (∀ g, P.link.last = some g → g.mseq ≠ f.mseq) ∧ motionOp (f.motion.get a) ≠ 0 ∧ (f.dstate ≠ 5 ∨
        wbit f.flags 0 = false)) ∧
    (∃ (s : State) (p : PortalId) (h : FrameHdr) (f : CommandFrame) (x : Bool) (P : PortalState) (e : _) (a : _), s.portals.get p = P ∧
        P.calm ∧ P.cls ≠ .fault ∧ P.link.up = true ∧ P.link.fin.accept h = some e ∧ P.link.takeover = .ready ∧ P.link.limp = false ∧
        P.jogging = false ∧ (∀ g, P.link.last = some g → g.mseq ≠ f.mseq) ∧ motionOp (f.motion.get a) ≠ 0 ∧ f.dstate = 5 ∧
        wbit f.flags 0 = true ∧ (P.ownMotion = true ∨ x = true)) ∧
    (∃ (s : State) (p : PortalId) (a : AxisId) (P : PortalState), s.portals.get p = P ∧ P.calm ∧ P.cls ≠ .fault ∧
        P.link.motionDue.get a = none) ∧
    (∃ (s : State) (p : PortalId) (a : AxisId) (P : PortalState) (b : _) (c : _), s.portals.get p = P ∧ P.calm ∧ P.cls ≠ .fault ∧
        P.link.motionDue.get a = some b ∧ motionOp b = 1 ∧ P.holding = false ∧ P.prof (motionProf b) = some c ∧ P.profReady c = true ∧
        P.supply.gateUv = false ∧ (∀ d ∈ P.sameRun a b, (P.axes.get d).drive = .torqueOff ∧ P.canEnable d = true)) ∧
    (∃ (s : State) (p : PortalId) (a : AxisId) (P : PortalState) (b : _), s.portals.get p = P ∧ P.calm ∧ P.cls ≠ .fault ∧
        P.link.motionDue.get a = some b ∧ motionOp b = 1 ∧ P.holding = true) :=
  ⟨⟨onDies pDefault, 0, (onDies pDefault).portals.get (0 : PortalId), rfl, calm_of (by decide +kernel), by decide +kernel⟩,
   ⟨onDies pRich, 0, frameHdrV1, (onDies pRich).portals.get (0 : PortalId), rfl, calm_of (by decide +kernel), by decide +kernel⟩,
   ⟨onDies pHelloDone, 0, frameHdrV2, (onDies pHelloDone).portals.get (0 : PortalId), (((onDies pHelloDone).portals.get
        (0 : PortalId)).link.fin.accept frameHdrV2).get (by decide +kernel), rfl, calm_of (by decide +kernel), by decide +kernel,
        by decide +kernel, (Option.some_get (by decide +kernel)).symm, by decide +kernel⟩,
   ⟨onDies pRich, 0, frameHdrV2, commandFrameV1, false, (onDies pRich).portals.get (0 : PortalId), (((onDies pRich).portals.get
        (0 : PortalId)).link.fin.accept frameHdrV2).get (by decide +kernel), rfl, calm_of (by decide +kernel), by decide +kernel,
        by decide +kernel, (Option.some_get (by decide +kernel)).symm, by decide +kernel, by decide +kernel, by decide +kernel, forall_some
        (by decide +kernel), by decide +kernel⟩,
   ⟨onDies pRich, 0, frameHdrV2, commandFrameV2, (onDies pRich).portals.get (0 : PortalId), (((onDies pRich).portals.get
        (0 : PortalId)).link.fin.accept frameHdrV2).get (by decide +kernel), 0, rfl, calm_of (by decide +kernel), by decide +kernel,
        by decide +kernel, (Option.some_get (by decide +kernel)).symm, by decide +kernel, by decide +kernel, by decide +kernel, forall_some
        (by decide +kernel), by decide +kernel⟩,
   ⟨onDies pRich, 0, frameHdrV2, commandFrameV3, true, (onDies pRich).portals.get (0 : PortalId), (((onDies pRich).portals.get
        (0 : PortalId)).link.fin.accept frameHdrV2).get (by decide +kernel), 0, rfl, calm_of (by decide +kernel), by decide +kernel,
        by decide +kernel, (Option.some_get (by decide +kernel)).symm, by decide +kernel, by decide +kernel, by decide +kernel, forall_some
        (by decide +kernel), by decide +kernel⟩,
   ⟨onDies pDefault, 0, 0, (onDies pDefault).portals.get (0 : PortalId), rfl, calm_of (by decide +kernel), by decide +kernel⟩,
   ⟨onDies pMotDue1, 0, 0, (onDies pMotDue1).portals.get (0 : PortalId), (((onDies pMotDue1).portals.get (0 : PortalId)).link.motionDue.get
        (0 : AxisId)).get (by decide +kernel), (((onDies pMotDue1).portals.get (0 : PortalId)).prof (motionProf
        ((((onDies pMotDue1).portals.get (0 : PortalId)).link.motionDue.get (0 : AxisId)).get (by decide +kernel)))).get
        (by decide +kernel), rfl, calm_of (by decide +kernel), by decide +kernel, (Option.some_get (by decide +kernel)).symm,
        by decide +kernel, by decide +kernel, (Option.some_get (by decide +kernel)).symm, by decide +kernel⟩,
   ⟨onDies pMotHold, 0, 0, (onDies pMotHold).portals.get (0 : PortalId), (((onDies pMotHold).portals.get (0 : PortalId)).link.motionDue.get
        (0 : AxisId)).get (by decide +kernel), rfl, calm_of (by decide +kernel), by decide +kernel, (Option.some_get
        (by decide +kernel)).symm, by decide +kernel⟩⟩

/-- Each premise of `Obligations.CommandFramesMotionsAndOrders` can be met. -/
theorem test_witness_CommandFramesMotionsAndOrders_part2 :
    (∃ (s : State) (p : PortalId) (a : AxisId) (P : PortalState) (b : _) (c : _), s.portals.get p = P ∧ P.calm ∧ P.cls ≠ .fault ∧
        P.link.motionDue.get a = some b ∧ motionOp b = 1 ∧ P.holding = false ∧ P.prof (motionProf b) = some c ∧ P.profReady c = false) ∧
    (∃ (s : State) (p : PortalId) (a : AxisId) (P : PortalState) (b : _) (m : _), s.portals.get p = P ∧ P.calm ∧ P.cls ≠ .fault ∧
        P.link.motionDue.get a = some b ∧ motionOp b = 2 ∧ (P.axes.get a).motion = some m ∧ m.why = .profile ∧ (P.axes.get a).drive = .run ∧
        (P.axes.get a).precharge = false) ∧
    (∃ (s : State) (p : PortalId) (a : AxisId) (P : PortalState) (b : _), s.portals.get p = P ∧ P.calm ∧ P.cls ≠ .fault ∧
        P.link.motionDue.get a = some b ∧ motionOp b = 3 ∧ (P.axes.get a).moving = false) ∧
    (∃ (s : State) (p : PortalId) (P : PortalState), s.portals.get p = P ∧ P.calm ∧ P.link.orderDue = 0) ∧
    (∃ (s : State) (p : PortalId) (P : PortalState), s.portals.get p = P ∧ P.calm ∧ P.link.orderDue = 1) ∧
    (∃ (s : State) (p : PortalId) (P : PortalState), s.portals.get p = P ∧ P.calm ∧ P.link.orderDue = 2) ∧
    (∃ (s : State) (p : PortalId) (P : PortalState), s.portals.get p = P ∧ P.calm ∧ P.link.orderDue = 3 ∧ P.cls ≠ .lockedOut) ∧
    (∃ (s : State) (p : PortalId) (P : PortalState), s.portals.get p = P ∧ P.calm ∧ P.link.orderDue = 3 ∧ P.resetWhy p = 0 ∧
        P.ob.selftest = none) ∧
    (∃ (s : State) (p : PortalId) (P : PortalState), s.portals.get p = P ∧ P.calm ∧ P.link.orderDue = 4 ∧ P.cls = .fault ∧
        P.faultPresent = false ∧ P.ob.lockCause = 0 ∧ P.link.limpN = false ∧ P.link.limp = false) :=
  ⟨⟨onDies pMotDueHallUnready, 0, 0, (onDies pMotDueHallUnready).portals.get (0 : PortalId), (((onDies pMotDueHallUnready).portals.get
        (0 : PortalId)).link.motionDue.get (0 : AxisId)).get (by decide +kernel), (((onDies pMotDueHallUnready).portals.get
        (0 : PortalId)).prof (motionProf ((((onDies pMotDueHallUnready).portals.get (0 : PortalId)).link.motionDue.get (0 : AxisId)).get
        (by decide +kernel)))).get (by decide +kernel), rfl, calm_of (by decide +kernel), by decide +kernel, (Option.some_get
        (by decide +kernel)).symm, by decide +kernel, by decide +kernel, (Option.some_get (by decide +kernel)).symm, by decide +kernel⟩,
   ⟨onDies pMotDue2, 0, 0, (onDies pMotDue2).portals.get (0 : PortalId), (((onDies pMotDue2).portals.get (0 : PortalId)).link.motionDue.get
        (0 : AxisId)).get (by decide +kernel), ((((onDies pMotDue2).portals.get (0 : PortalId)).axes.get (0 : AxisId)).motion).get
        (by decide +kernel), rfl, calm_of (by decide +kernel), by decide +kernel, (Option.some_get (by decide +kernel)).symm,
        by decide +kernel, (Option.some_get (by decide +kernel)).symm, by decide +kernel⟩,
   ⟨onDies pMotDue3, 0, 0, (onDies pMotDue3).portals.get (0 : PortalId), (((onDies pMotDue3).portals.get (0 : PortalId)).link.motionDue.get
        (0 : AxisId)).get (by decide +kernel), rfl, calm_of (by decide +kernel), by decide +kernel, (Option.some_get
        (by decide +kernel)).symm, by decide +kernel⟩,
   ⟨onDies pDefault, 0, (onDies pDefault).portals.get (0 : PortalId), rfl, calm_of (by decide +kernel), by decide +kernel⟩,
   ⟨onDies pOrder1, 0, (onDies pOrder1).portals.get (0 : PortalId), rfl, calm_of (by decide +kernel), by decide +kernel⟩,
   ⟨onDies pOrder2, 0, (onDies pOrder2).portals.get (0 : PortalId), rfl, calm_of (by decide +kernel), by decide +kernel⟩,
   ⟨onDies pOrder3, 0, (onDies pOrder3).portals.get (0 : PortalId), rfl, calm_of (by decide +kernel), by decide +kernel⟩,
   ⟨onDies pOrder3lock, 0, (onDies pOrder3lock).portals.get (0 : PortalId), rfl, calm_of (by decide +kernel), by decide +kernel⟩,
   ⟨onDies pOrder4, 0, (onDies pOrder4).portals.get (0 : PortalId), rfl, calm_of (by decide +kernel), by decide +kernel⟩⟩

/-- Each premise of `Obligations.CommandFramesMotionsAndOrders` can be met. -/
theorem test_witness_CommandFramesMotionsAndOrders_part3 :
    (∃ (s : State) (p : PortalId) (P : PortalState), s.portals.get p = P ∧ P.calm ∧ P.link.orderDue = 4 ∧ P.cls = .fault ∧
        P.faultPresent = true) :=
  ⟨onDies pOrder4b, 0, (onDies pOrder4b).portals.get (0 : PortalId), rfl, calm_of (by decide +kernel), by decide +kernel⟩

/-- Each premise of `Obligations.PortalSideOfTheLink` can be met. -/
theorem test_witness_PortalSideOfTheLink :
    (∃ (s : State) (p : PortalId) (h : FrameHdr) (P : PortalState), s.portals.get p = P ∧ P.calm ∧ (P.link.up = false ∨
        P.link.fin.accept h = none) ∧ ¬s.retraining p) ∧
    (∃ (s : State) (p : PortalId) (h : FrameHdr) (e : LinkEnd) (P : PortalState) (f : KeeperFrame), s.portals.get p = P ∧ P.calm ∧
        P.cls ≠ .fault ∧ P.link.up = true ∧ P.link.fin.accept h = some e ∧ P.link.lowRate = false ∧ f.key = P.link.keeperKey ∧
        f.serve = BitVec.ofNat 16 P.link.keeperServe ∧ s.clock - P.link.keeperAt ≤ 2000000 ∧ (P.link.keeperServe = 1 ∨
        500000 ≤ s.clock - P.link.keeperAt)) ∧
    (∃ (s : State) (p : PortalId) (h : FrameHdr) (e : LinkEnd) (P : PortalState) (f : KeeperFrame), s.portals.get p = P ∧ P.calm ∧
        P.cls ≠ .fault ∧ P.link.up = true ∧ P.link.fin.accept h = some e ∧ P.link.lowRate = false ∧ P.link.keeperArmed = true ∧
        P.link.ordered = false ∧ (f.key ≠ P.link.keeperKey ∨ f.serve ≠ BitVec.ofNat 16 P.link.keeperServe ∨
        2000000 < s.clock - P.link.keeperAt)) ∧
    (∃ (s : State) (p : PortalId) (h : FrameHdr) (e : LinkEnd) (P : PortalState) (d : Dword), s.portals.get p = P ∧ P.calm ∧
        P.cls ≠ .fault ∧ P.link.up = true ∧ P.link.fin.accept h = some e ∧ ¬s.retraining p ∧ 1000 < |((d + BitVec.ofInt 64 (divR
        (P.link.dly.at2 h.lane).toNat 10)) - P.link.time).toInt|) ∧
    (∃ (s : State) (p : PortalId) (h : FrameHdr) (e : LinkEnd) (P : PortalState) (d : Dword), s.portals.get p = P ∧ P.calm ∧
        P.cls ≠ .fault ∧ P.link.up = true ∧ P.link.fin.accept h = some e ∧ ¬s.retraining p ∧ |((d + BitVec.ofInt 64 (divR
        (P.link.dly.at2 h.lane).toNat 10)) - P.link.time).toInt| ≤ 1000) ∧
    (∃ (s : State) (p : PortalId) (h : FrameHdr) (e : LinkEnd) (P : PortalState) (f : ConfigFrame) (v : _), s.portals.get p = P ∧ P.calm ∧
        P.cls ≠ .fault ∧ P.link.up = true ∧ P.link.fin.accept h = some e ∧ f.op = 1 ∧ (P.modLink
        fun l => { l with fin := e }).read s.clock p f.addr.toNat = some v) ∧
    (∃ (s : State) (p : PortalId) (h : FrameHdr) (e : LinkEnd) (P : PortalState) (f : ConfigFrame), s.portals.get p = P ∧ P.calm ∧
        P.cls ≠ .fault ∧ P.link.up = true ∧ P.link.fin.accept h = some e ∧ f.op = 2 ∧ f.addr = 0x3000 ∧ f.arg = 1) ∧
    (∃ (s : State) (p : PortalId) (h : FrameHdr) (e : LinkEnd) (P : PortalState) (f : ConfigFrame), s.portals.get p = P ∧ P.calm ∧
        P.cls ≠ .fault ∧ P.link.up = true ∧ P.link.fin.accept h = some e ∧ f.op = 2 ∧ (f.addr ≠ 0x3000 ∨ f.arg ≠ 1) ∧ ((P.modLink
        fun l => { l with fin := e }).write s.clock p f.addr.toNat (rdw f.data 0) 0).portal.calm) ∧
    (∃ (s : State) (p : PortalId) (h : FrameHdr) (e : LinkEnd) (P : PortalState) (f : ConfigFrame) (b : List Byte), s.portals.get p = P ∧
        P.calm ∧ P.cls ≠ .fault ∧ P.link.up = true ∧ P.link.fin.accept h = some e ∧ f.op = 3 ∧ P.chunk = some (f.addr, BitVec.ofNat 8
        (fget f.arg 31 24), b)) :=
  ⟨⟨onDies pDefault, 0, frameHdrV1, (onDies pDefault).portals.get (0 : PortalId), rfl, calm_of (by decide +kernel), by decide +kernel,
        not_retraining (by decide +kernel)⟩,
   ⟨onDies pRich, 0, frameHdrV2, (((onDies pRich).portals.get (0 : PortalId)).link.fin.accept frameHdrV2).get (by decide +kernel),
        (onDies pRich).portals.get (0 : PortalId), keeperFrameV1, rfl, calm_of (by decide +kernel), by decide +kernel, by decide +kernel,
        (Option.some_get (by decide +kernel)).symm, by decide +kernel⟩,
   ⟨onDies pRich, 0, frameHdrV2, (((onDies pRich).portals.get (0 : PortalId)).link.fin.accept frameHdrV2).get (by decide +kernel),
        (onDies pRich).portals.get (0 : PortalId), keeperFrameV2, rfl, calm_of (by decide +kernel), by decide +kernel, by decide +kernel,
        (Option.some_get (by decide +kernel)).symm, by decide +kernel⟩,
   ⟨onDies pRich, 0, frameHdrV2, (((onDies pRich).portals.get (0 : PortalId)).link.fin.accept frameHdrV2).get (by decide +kernel),
        (onDies pRich).portals.get (0 : PortalId), 0, rfl, calm_of (by decide +kernel), by decide +kernel, by decide +kernel,
        (Option.some_get (by decide +kernel)).symm, not_retraining (by decide +kernel), by decide +kernel⟩,
   ⟨onDies pRich, 0, frameHdrV2, (((onDies pRich).portals.get (0 : PortalId)).link.fin.accept frameHdrV2).get (by decide +kernel),
        (onDies pRich).portals.get (0 : PortalId), 0x4c4b40, rfl, calm_of (by decide +kernel), by decide +kernel, by decide +kernel,
        (Option.some_get (by decide +kernel)).symm, not_retraining (by decide +kernel), by decide +kernel⟩,
   ⟨onDies pRich, 0, frameHdrV2, (((onDies pRich).portals.get (0 : PortalId)).link.fin.accept frameHdrV2).get (by decide +kernel),
        (onDies pRich).portals.get (0 : PortalId), configFrameV1, ((((onDies pRich).portals.get (0 : PortalId)).modLink
        fun l => { l with fin := ((((onDies pRich).portals.get (0 : PortalId)).link.fin.accept frameHdrV2).get (by decide +kernel)) }).read
        (onDies pRich).clock (0 : PortalId) configFrameV1.addr.toNat).get (by decide +kernel), rfl, calm_of (by decide +kernel),
        by decide +kernel, by decide +kernel, (Option.some_get (by decide +kernel)).symm, by decide +kernel, (Option.some_get
        (by decide +kernel)).symm⟩,
   ⟨onDies pRich, 0, frameHdrV2, (((onDies pRich).portals.get (0 : PortalId)).link.fin.accept frameHdrV2).get (by decide +kernel),
        (onDies pRich).portals.get (0 : PortalId), configFrameV2, rfl, calm_of (by decide +kernel), by decide +kernel, by decide +kernel,
        (Option.some_get (by decide +kernel)).symm, by decide +kernel⟩,
   ⟨onDies pRich, 0, frameHdrV2, (((onDies pRich).portals.get (0 : PortalId)).link.fin.accept frameHdrV2).get (by decide +kernel),
        (onDies pRich).portals.get (0 : PortalId), configFrameV3, rfl, calm_of (by decide +kernel), by decide +kernel, by decide +kernel,
        (Option.some_get (by decide +kernel)).symm, by decide +kernel, by decide +kernel, calm_of (by decide +kernel)⟩,
   ⟨onDies pChunk, 0, frameHdrV2, (((onDies pChunk).portals.get (0 : PortalId)).link.fin.accept frameHdrV2).get (by decide +kernel),
        (onDies pChunk).portals.get (0 : PortalId), configFrameV4, ((((onDies pChunk).portals.get (0 : PortalId)).chunk).get
        (by decide +kernel)).2.2, rfl, calm_of (by decide +kernel), by decide +kernel, by decide +kernel, (Option.some_get
        (by decide +kernel)).symm, by decide +kernel⟩⟩

/-- Each premise of `Obligations.PortalSideOfTheLink` can be met. -/
theorem test_witness_PortalSideOfTheLink_part2 :
    (∃ (s : State) (p : PortalId) (h : FrameHdr) (e : LinkEnd) (P : PortalState) (f : ConfigFrame) (b : List Byte), s.portals.get p = P ∧
        P.calm ∧ P.cls ≠ .fault ∧ P.link.up = true ∧ P.link.fin.accept h = some e ∧ f.op = 4 ∧ P.chunk = some (f.addr, BitVec.ofNat 8
        (fget f.arg 31 24), b) ∧ crc32c (slice b 0 (fget f.arg 23 0)) ≠ rdw f.data 0) ∧
    (∃ (s : State) (p : PortalId) (h : FrameHdr) (e : LinkEnd) (P : PortalState) (f : ConfigFrame) (b : List Byte), s.portals.get p = P ∧
        P.calm ∧ P.cls ≠ .fault ∧ P.link.up = true ∧ P.link.fin.accept h = some e ∧ f.op = 4 ∧ P.chunk = some (f.addr, BitVec.ofNat 8
        (fget f.arg 31 24), b) ∧ crc32c (slice b 0 (fget f.arg 23 0)) = rdw f.data 0 ∧ f.image.kinds = [fget f.arg 31 24] ∧
        P.incoming = []) ∧
    (∃ (s : State) (p : PortalId) (h : FrameHdr) (e : LinkEnd) (P : PortalState) (f : ConfigFrame), s.portals.get p = P ∧ P.calm ∧
        P.cls ≠ .fault ∧ P.link.up = true ∧ P.link.fin.accept h = some e ∧ f.op = 5 ∧ P.link.takeover = .keeperDone ∧
        f.addr.setWidth 8 = P.link.readbackSeq) ∧
    (∃ (s : State) (p : PortalId) (h : FrameHdr) (e : LinkEnd) (P : PortalState) (f : ConfigFrame), s.portals.get p = P ∧ P.calm ∧
        P.cls ≠ .fault ∧ P.link.up = true ∧ P.link.fin.accept h = some e ∧ f.op = 5 ∧ P.link.takeover = .helloDone) ∧
    (∃ (s : State) (p : PortalId) (h : FrameHdr) (e : LinkEnd) (P : PortalState) (f : ConfigFrame), s.portals.get p = P ∧ P.calm ∧
        P.cls ≠ .fault ∧ P.link.up = true ∧ P.link.fin.accept h = some e ∧ f.op = 6 ∧ P.ob.lockCause = 0) ∧
    (∃ (s : State) (p : PortalId) (h : FrameHdr) (P : PortalState), s.portals.get p = P ∧ P.calm ∧ P.link.up = true ∧ (s.link p).up = true ∧
        wbit (P.link.fin.retrain &&& P.link.fin.locked) h.lane.val = true ∧ wbit (s.link p).fin.ready h.lane.val = true) ∧
    (∃ (s : State) (p : PortalId) (h : FrameHdr) (f : HelloFrame) (P : PortalState), s.portals.get p = P ∧ P.calm ∧
        P.link.fin.silent = false ∧ (P.link.fin.accept h).isSome = true ∧ (P.link.up = false ∨ h.seq ≠ P.link.helloSeq) ∧ f.role = 1 ∧
        f.vsel = 0) ∧
    (∃ (s : State) (p : PortalId) (h : FrameHdr) (f : HelloFrame) (P : PortalState), s.portals.get p = P ∧ P.calm ∧
        P.link.fin.silent = false ∧ (P.link.fin.accept h).isSome = true ∧ (P.link.up = false ∨ h.seq ≠ P.link.helloSeq) ∧ f.role = 1 ∧
        f.vsel = 3 ∧ P.cls ≠ .fault ∧ P.link.holdUntil = none) ∧
    (∃ (s : State) (p : PortalId) (h : FrameHdr) (f : HelloFrame) (P : PortalState), s.portals.get p = P ∧ P.calm ∧
        P.link.fin.silent = false ∧ (P.link.fin.accept h).isSome = true ∧ (P.link.up = false ∨ h.seq ≠ P.link.helloSeq) ∧ f.role = 1 ∧
        f.vsel ≠ 0 ∧ f.vsel ≠ 3 ∧ P.cls ≠ .fault ∧ P.link.ordered = false) :=
  ⟨⟨onDies pChunk, 0, frameHdrV2, (((onDies pChunk).portals.get (0 : PortalId)).link.fin.accept frameHdrV2).get (by decide +kernel),
        (onDies pChunk).portals.get (0 : PortalId), configFrameV5, ((((onDies pChunk).portals.get (0 : PortalId)).chunk).get
        (by decide +kernel)).2.2, rfl, calm_of (by decide +kernel), by decide +kernel, by decide +kernel, (Option.some_get
        (by decide +kernel)).symm, by decide +kernel⟩,
   ⟨onDies pChunk, 0, frameHdrV2, (((onDies pChunk).portals.get (0 : PortalId)).link.fin.accept frameHdrV2).get (by decide +kernel),
        (onDies pChunk).portals.get (0 : PortalId), configFrameV6, ((((onDies pChunk).portals.get (0 : PortalId)).chunk).get
        (by decide +kernel)).2.2, rfl, calm_of (by decide +kernel), by decide +kernel, by decide +kernel, (Option.some_get
        (by decide +kernel)).symm, by decide +kernel⟩,
   ⟨onDies pKeeperDone, 0, frameHdrV2, (((onDies pKeeperDone).portals.get (0 : PortalId)).link.fin.accept frameHdrV2).get
        (by decide +kernel), (onDies pKeeperDone).portals.get (0 : PortalId), configFrameV7, rfl, calm_of (by decide +kernel),
        by decide +kernel, by decide +kernel, (Option.some_get (by decide +kernel)).symm, by decide +kernel⟩,
   ⟨onDies pHelloDone, 0, frameHdrV2, (((onDies pHelloDone).portals.get (0 : PortalId)).link.fin.accept frameHdrV2).get (by decide +kernel),
        (onDies pHelloDone).portals.get (0 : PortalId), configFrameV7, rfl, calm_of (by decide +kernel), by decide +kernel,
        by decide +kernel, (Option.some_get (by decide +kernel)).symm, by decide +kernel⟩,
   ⟨onDies pRich, 0, frameHdrV2, (((onDies pRich).portals.get (0 : PortalId)).link.fin.accept frameHdrV2).get (by decide +kernel),
        (onDies pRich).portals.get (0 : PortalId), configFrameV8, rfl, calm_of (by decide +kernel), by decide +kernel, by decide +kernel,
        (Option.some_get (by decide +kernel)).symm, by decide +kernel⟩,
   ⟨sRetr31, 0, frameHdrV1, sRetr31.portals.get (0 : PortalId), rfl, calm_of (by decide +kernel), by decide +kernel⟩,
   ⟨onDies pRich, 0, frameHdrV3, helloFrameV1, (onDies pRich).portals.get (0 : PortalId), rfl, calm_of (by decide +kernel),
        by decide +kernel⟩,
   ⟨onDies pRich, 0, frameHdrV3, helloFrameV2, (onDies pRich).portals.get (0 : PortalId), rfl, calm_of (by decide +kernel),
        by decide +kernel⟩,
   ⟨onDies pRich, 0, frameHdrV3, helloFrameV3, (onDies pRich).portals.get (0 : PortalId), rfl, calm_of (by decide +kernel),
        by decide +kernel⟩⟩

/-- Each premise of `Obligations.PortalSideOfTheLink` can be met. -/
theorem test_witness_PortalSideOfTheLink_part3 :
    (∃ (s : State) (p : PortalId) (P : PortalState), s.portals.get p = P ∧ P.calm ∧ P.cls ≠ .fault ∧ P.link.keeperArmed = true ∧
        P.link.lowRate = false ∧ P.link.ordered = false ∧ P.link.limp = false ∧ P.limpEn p = false ∧ P.ownMotion = false) ∧
    (∃ (s : State) (p : PortalId) (P : PortalState), s.portals.get p = P ∧ P.calm ∧ P.cls ≠ .fault ∧ P.link.keeperArmed = false) ∧
    (∃ (s : State) (p : PortalId) (P : PortalState) (x : _), s.portals.get p = P ∧ P.calm ∧ P.cls ≠ .fault ∧ P.link.holdUntil = some x ∧
        P.ownMotion = true) ∧
    (∃ (s : State) (p : PortalId) (P : PortalState) (x : _), s.portals.get p = P ∧ P.calm ∧ P.cls ≠ .fault ∧ P.link.holdUntil = some x ∧
        P.ownMotion = false ∧ P.link.limp = false ∧ P.limpEn p = false) ∧
    (∃ (s : State) (p : PortalId) (P : PortalState) (x : _), s.portals.get p = P ∧ P.calm ∧ P.cls ≠ .fault ∧ P.link.holdUntil = some x ∧
        P.ownMotion = false ∧ P.link.limp = false ∧ P.limpEn p = true ∧ P.cls ≠ .lockedOut) ∧
    (∃ (s : State) (p : PortalId) (P : PortalState), s.portals.get p = P ∧ P.calm ∧ P.cls ≠ .fault ∧ P.link.up = false ∧
        P.link.limp = true ∧ (P.limpEn p = false ∨ P.link.lostByOrder = true)) ∧
    (∃ (s : State) (p : PortalId) (P : PortalState), s.portals.get p = P ∧ P.calm ∧ P.cls ≠ .fault ∧ P.link.lowRate = true) ∧
    (∃ (s : State) (p : PortalId), (s.portals.get p).calm ∧ (s.portals.get p).cls = .fault) :=
  ⟨⟨onDies pNoLimpEn, 0, (onDies pNoLimpEn).portals.get (0 : PortalId), rfl, calm_of (by decide +kernel), by decide +kernel⟩,
   ⟨onDies pDefault, 0, (onDies pDefault).portals.get (0 : PortalId), rfl, calm_of (by decide +kernel), by decide +kernel⟩,
   ⟨onDies pHoldOwn, 0, (onDies pHoldOwn).portals.get (0 : PortalId), (((onDies pHoldOwn).portals.get (0 : PortalId)).link.holdUntil).get
        (by decide +kernel), rfl, calm_of (by decide +kernel), by decide +kernel, (Option.some_get (by decide +kernel)).symm,
        by decide +kernel⟩,
   ⟨onDies pHoldNoLimp, 0, (onDies pHoldNoLimp).portals.get (0 : PortalId), (((onDies pHoldNoLimp).portals.get
        (0 : PortalId)).link.holdUntil).get (by decide +kernel), rfl, calm_of (by decide +kernel), by decide +kernel, (Option.some_get
        (by decide +kernel)).symm, by decide +kernel⟩,
   ⟨onDies pHold, 0, (onDies pHold).portals.get (0 : PortalId), (((onDies pHold).portals.get (0 : PortalId)).link.holdUntil).get
        (by decide +kernel), rfl, calm_of (by decide +kernel), by decide +kernel, (Option.some_get (by decide +kernel)).symm,
        by decide +kernel⟩,
   ⟨onDies pLimpDown, 0, (onDies pLimpDown).portals.get (0 : PortalId), rfl, calm_of (by decide +kernel), by decide +kernel⟩,
   ⟨onDies pLowRate, 0, (onDies pLowRate).portals.get (0 : PortalId), rfl, calm_of (by decide +kernel), by decide +kernel⟩,
   ⟨onDies pFault, 0, calm_of (by decide +kernel), by decide +kernel⟩⟩

/-- Each premise of `Obligations.HostSideOfTheLink` can be met. -/
theorem test_witness_HostSideOfTheLink :
    (∃ (s : State) (p : PortalId) (h : FrameHdr), s.portFree ∧ ((s.link p).up = false ∨ (s.link p).fin.accept h = none) ∧ ¬s.retraining p) ∧
    (∃ (s : State) (p : PortalId) (h : FrameHdr) (e : LinkEnd) (f : EventFrame), s.portFree ∧ (s.link p).up = true ∧
        (s.link p).fin.accept h = some e ∧ (f.code = 0x10 ∨ f.code = 0x11)) ∧
    (∃ (s : State) (p : PortalId) (h : FrameHdr) (e : LinkEnd) (f : EventFrame), s.portFree ∧ (s.link p).up = true ∧
        (s.link p).fin.accept h = some e ∧ f.code = 0x06) ∧
    (∃ (s : State) (p : PortalId) (h : FrameHdr) (e : LinkEnd) (full : Bool) (bad : Bool), s.portFree ∧ (s.link p).up = true ∧
        (s.link p).fin.accept h = some e ∧ (full = true ∨ bad = true)) ∧
    (∃ (s : State) (p : PortalId) (lane : Fin 2), s.portFree ∧ (s.link p).phase = .training ∧ (s.link p).up = false ∧
        (s.link p).fin.silent = false ∧ (s.link p).attempts.at2 lane ≤ 3 ∧ wbit (s.link p).fin.lanes lane.val = false) ∧
    (∃ (s : State) (p : PortalId), s.portFree ∧ (s.portals.get p).calm ∧ (s.portals.get p).link.up = false ∧
        (s.portals.get p).link.fin.silent = false) ∧
    (∃ (s : State) (p : PortalId) (lane : Fin 2), s.portFree ∧ (s.link p).phase = .training ∧ (s.link p).up = false ∧ wbit
        (s.link p).fin.lanes lane.val = false ∧ (s.link p).attempts.at2 lane < 3) ∧
    (∃ (s : State) (p : PortalId) (lane : Fin 2), s.portFree ∧ (s.link p).phase = .training ∧ (s.link p).up = false ∧ wbit
        (s.link p).fin.lanes lane.val = false ∧ (s.link p).attempts.set2 lane 4 = .all 4 ∧ (s.link p).attempts.at2 lane = 3) ∧
    (∃ (s : State) (p : PortalId) (lane : Fin 2), s.portFree ∧ wbit (s.link p).fin.lanes lane.val = true ∧ (s.link p).up = true ∧ putBit
        (s.link p).fin.lanes lane.val false ≠ 0) :=
  ⟨⟨sReset, 0, frameHdrV1, by decide +kernel, by decide +kernel, not_retraining (by decide +kernel)⟩,
   ⟨sBase, 0, frameHdrV2, ((sBase.link (0 : PortalId)).fin.accept frameHdrV2).get (by decide +kernel), eventFrameV1, by decide +kernel,
        by decide +kernel, (Option.some_get (by decide +kernel)).symm, by decide +kernel⟩,
   ⟨sBase, 0, frameHdrV2, ((sBase.link (0 : PortalId)).fin.accept frameHdrV2).get (by decide +kernel), eventFrameV6, by decide +kernel,
        by decide +kernel, (Option.some_get (by decide +kernel)).symm, by decide +kernel⟩,
   ⟨sBase, 0, frameHdrV2, ((sBase.link (0 : PortalId)).fin.accept frameHdrV2).get (by decide +kernel), false, true, by decide +kernel,
        by decide +kernel, (Option.some_get (by decide +kernel)).symm, by decide +kernel⟩,
   ⟨sLinkTrain, 0, 0, by decide +kernel⟩,
   ⟨sReset, 0, by decide +kernel, calm_of (by decide +kernel), by decide +kernel⟩,
   ⟨sLinkTrain, 0, 0, by decide +kernel⟩,
   ⟨sLinkTrain4, 0, 1, by decide +kernel⟩,
   ⟨sBase, 0, 0, by decide +kernel⟩⟩

/-- Each premise of `Obligations.HostSideOfTheLink` can be met. -/
theorem test_witness_HostSideOfTheLink_part2 :
    (∃ (s : State) (p : PortalId) (lane : Fin 2), s.portFree ∧ wbit (s.link p).fin.lanes lane.val = true ∧ (s.link p).up = true ∧
        (s.link p).lowRate = false ∧ putBit (s.link p).fin.lanes lane.val false = 0) ∧
    (∃ (s : State) (p : PortalId) (lane : Fin 2), s.portFree ∧ (s.portals.get p).calm ∧ (s.portals.get p).cls ≠ .fault ∧ wbit
        (s.portals.get p).link.fin.lanes lane.val = true ∧ (s.portals.get p).link.up = true ∧ (s.portals.get p).link.ordered = false ∧
        (s.portals.get p).link.lowRate = false ∧ putBit (s.portals.get p).link.fin.lanes lane.val false = 0) ∧
    (∃ (s : State) (p : PortalId) (lane : Fin 2), s.portFree ∧ wbit (s.link p).fin.lanes lane.val = true ∧ ((s.link p).fin.linkErrs.filter
        fun t => s.clock - t < 1000000) = []) ∧
    (∃ (s : State) (p : PortalId) (lane : Fin 2) (a : _) (b : _), s.portFree ∧ wbit (s.link p).fin.lanes lane.val = true ∧
        (s.link p).up = true ∧ (s.link p).lowRate = false ∧ ((s.link p).fin.linkErrs.filter fun t => s.clock - t < 1000000) = [a, b]) ∧
    (∃ (s : State) (p : PortalId) (lane : Fin 2), s.portFree ∧ wbit (s.link p).fin.lanes lane.val = true ∧
        (((s.link p).fin.laneErrs.at2 lane).filter fun t => s.clock - t < 1000000) = []) ∧
    (∃ (s : State) (p : PortalId) (h : FrameHdr) (f : HelloFrame), s.portFree ∧ (s.link p).phase = .hello ∧ (s.link p).up = false ∧
        (s.link p).fin.silent = false ∧ ((s.link p).fin.accept h).isSome = true ∧ f.role = 2 ∧ f.vsel = 0 ∧ f.vmax = 3 ∧ f.vmin = 3) ∧
    (∃ (s : State) (p : PortalId) (h : FrameHdr) (f : HelloFrame), s.portFree ∧ (s.link p).phase = .hello ∧ (s.link p).up = false ∧
        (s.link p).fin.silent = false ∧ ((s.link p).fin.accept h).isSome = true ∧ f.role = 2 ∧ f.vsel = 0 ∧ f.vmin = 4) ∧
    (∃ (s : State) (p : PortalId) (h : FrameHdr) (f : HelloFrame), s.portFree ∧ (s.link p).phase = .hello ∧ (s.link p).up = false ∧
        (s.link p).fin.silent = false ∧ ((s.link p).fin.accept h).isSome = true ∧ f.role = 2 ∧ f.vsel = 3 ∧ (s.link p).vsel = 3 ∧
        wbit f.flags 0 = true) ∧
    (∃ (s : State) (p : PortalId), s.portFree ∧ s.mayTrain = false ∧ (s.portals.get p).calm) :=
  ⟨⟨sLinkOneLane, 0, 0, by decide +kernel⟩,
   ⟨sPrlLane, 0, 0, by decide +kernel, calm_of (by decide +kernel), by decide +kernel⟩,
   ⟨sBase, 0, 0, by decide +kernel⟩,
   ⟨sLinkErr2, 0, 0, (((sLinkErr2.link (0 : PortalId)).fin.linkErrs.filter fun t => sLinkErr2.clock - t < 1000000)).getD 0 0,
        (((sLinkErr2.link (0 : PortalId)).fin.linkErrs.filter fun t => sLinkErr2.clock - t < 1000000)).getD 1 0, by decide +kernel⟩,
   ⟨sBase, 0, 0, by decide +kernel⟩,
   ⟨sLinkHello, 0, frameHdrV2, helloFrameV4, by decide +kernel⟩,
   ⟨sLinkHello, 0, frameHdrV2, helloFrameV5, by decide +kernel⟩,
   ⟨sLinkHello, 0, frameHdrV2, helloFrameV6, by decide +kernel⟩,
   ⟨sReset, 0, by decide +kernel, by decide +kernel, calm_of (by decide +kernel)⟩⟩

/-- Each premise of `Obligations.HostSideOfTheLink` can be met. -/
theorem test_witness_HostSideOfTheLink_part3 :
    (∃ (s : State) (p : PortalId), s.portFree ∧ (s.link p).up = true ∧ (s.portals.get p).calm ∧ (s.portals.get p).link.up = true ∧
        (s.link p).lowRate = false) ∧
    (∃ (s : State) (p : PortalId), s.portFree ∧ (s.link p).up = false ∧ s.mayTrain = true ∧ (s.link p).fin.silent = false ∧
        (s.link p).phase = .down) ∧
    (∃ (s : State) (p : PortalId), s.portFree ∧ (s.link p).lowRate = true ∧ (s.link p).up = true) ∧
    (∃ (s : State) (p : PortalId), s.portFree ∧ (s.portals.get p).calm ∧ (s.portals.get p).cls ≠ .fault ∧
        (s.portals.get p).link.lowRate = true ∧ (s.portals.get p).link.up = true) ∧
    (∃ (s : State) (p : PortalId) (h : FrameHdr) (e : LinkEnd) (f : ConfigFrame) (req : ConfigFrame), s.portFree ∧ (s.link p).up = true ∧
        (s.link p).fin.accept h = some e ∧ (s.link p).queue = [] ∧ f.tag = req.tag ∧ f.op = req.op ||| 0x80 ∧ (s.link p).pending = some
        (.readbackAck, req) ∧ f.status = 0 ∧ (s.sp p).readBack = false) ∧
    (∃ (s : State) (p : PortalId) (h : FrameHdr) (e : LinkEnd) (f : ConfigFrame) (req : ConfigFrame), s.portFree ∧ (s.link p).up = true ∧
        (s.link p).fin.accept h = some e ∧ (s.link p).queue = [] ∧ f.tag = req.tag ∧ f.op = req.op ||| 0x80 ∧ (s.link p).pending = some
        (.download, req) ∧ f.status = 0 ∧ (s.link p).phase = .download ∧ wbit (s.link p).helloFlags 0 = false) ∧
    (∃ (s : State) (p : PortalId) (h : FrameHdr) (e : LinkEnd) (f : ConfigFrame) (req : ConfigFrame), s.portFree ∧ (s.link p).up = true ∧
        (s.link p).fin.accept h = some e ∧ (s.link p).queue = [] ∧ f.tag = req.tag ∧ f.op = req.op ||| 0x80 ∧ (s.link p).pending = none) :=
  ⟨⟨sBase, 0, by decide +kernel, by decide +kernel, calm_of (by decide +kernel), by decide +kernel⟩,
   ⟨sLinkDown, 0, by decide +kernel⟩,
   ⟨sLinkLow, 0, by decide +kernel⟩,
   ⟨onDies pLowRate, 0, by decide +kernel, calm_of (by decide +kernel), by decide +kernel⟩,
   ⟨sPendRb, 0, frameHdrV2, ((sPendRb.link (0 : PortalId)).fin.accept frameHdrV2).get (by decide +kernel), configFrameV9, configFrameV10,
        by decide +kernel, by decide +kernel, (Option.some_get (by decide +kernel)).symm, by decide +kernel⟩,
   ⟨sPendDl, 0, frameHdrV2, ((sPendDl.link (0 : PortalId)).fin.accept frameHdrV2).get (by decide +kernel), configFrameV11, configFrameV12,
        by decide +kernel, by decide +kernel, (Option.some_get (by decide +kernel)).symm, by decide +kernel⟩,
   ⟨sBase, 0, frameHdrV2, ((sBase.link (0 : PortalId)).fin.accept frameHdrV2).get (by decide +kernel), configFrameV9, configFrameV7,
        by decide +kernel, by decide +kernel, (Option.some_get (by decide +kernel)).symm, by decide +kernel⟩⟩

/-- Each premise of `Obligations.PortalInputsAndSwitches` can be met. -/
theorem test_witness_PortalInputsAndSwitches :
    (∃ (s : State) (p : PortalId) (P : PortalState), s.portals.get p = P ∧ P.calm ∧ P.link.lowRate = true) ∧
    (∃ (s : State) (p : PortalId) (P : PortalState), s.portals.get p = P ∧ P.calm ∧ P.link.lowRate = false) ∧
    (∃ (s : State) (p : PortalId) (P : PortalState) (n : Fin 16), s.portals.get p = P ∧ P.calm ∧ P.hasInputs = true ∧
        (P.inputCfg n.val).owEn = true ∧ wbit P.filtered n.val = false ∧ wbit P.inputs.ow n.val = false) ∧
    (∃ (s : State) (p : PortalId) (P : PortalState) (n : Fin 16), s.portals.get p = P ∧ P.calm ∧ (P.hasInputs = false ∨
        (P.inputCfg n.val).owEn = false ∨ wbit P.filtered n.val = true ∨ wbit P.inputs.ow n.val = true)) ∧
    (∃ (s : State) (p : PortalId) (P : PortalState) (n : Fin 8) (w : SwitchState), s.portals.get p = P ∧ P.calm ∧ P.switches.get n = w ∧
        (w.on = false ∨ w.episode ≠ none)) ∧
    (∃ (s : State) (p : PortalId) (P : PortalState) (n : Fin 8) (w : SwitchState), s.portals.get p = P ∧ P.calm ∧ P.switches.get n = w ∧
        w.episode = none ∧ w.retried = none) ∧
    (∃ (s : State) (p : PortalId) (P : PortalState) (n : Fin 8) (w : SwitchState), s.portals.get p = P ∧ P.calm ∧ P.switches.get n = w ∧
        (w.episode ≠ none ∨ w.retried ≠ none)) ∧
    (∃ (s : State) (p : PortalId) (P : PortalState) (n : Fin 8) (w : SwitchState), s.portals.get p = P ∧ P.calm ∧ P.switches.get n = w ∧
        (w.episode = none ∨ w.episode = some .shortRetry)) ∧
    (∃ (s : State) (p : PortalId) (P : PortalState) (n : Fin 8) (w : SwitchState), s.portals.get p = P ∧ P.calm ∧ P.switches.get n = w ∧
        (w.episode = some .switchOn ∨ w.episode = some .inrushRetry)) :=
  ⟨⟨onDies pLowRate, 0, (onDies pLowRate).portals.get (0 : PortalId), rfl, calm_of (by decide +kernel), by decide +kernel⟩,
   ⟨onDies pDefault, 0, (onDies pDefault).portals.get (0 : PortalId), rfl, calm_of (by decide +kernel), by decide +kernel⟩,
   ⟨onDies pRich, 0, (onDies pRich).portals.get (0 : PortalId), 0, rfl, calm_of (by decide +kernel), by decide +kernel⟩,
   ⟨onDies pDefault, 0, (onDies pDefault).portals.get (0 : PortalId), 0, rfl, calm_of (by decide +kernel), by decide +kernel⟩,
   ⟨onDies pDefault, 0, (onDies pDefault).portals.get (0 : PortalId), 0, ((onDies pDefault).portals.get (0 : PortalId)).switches.get
        (0 : Fin 8), rfl, calm_of (by decide +kernel), rfl, by decide +kernel⟩,
   ⟨onDies pDefault, 0, (onDies pDefault).portals.get (0 : PortalId), 0, ((onDies pDefault).portals.get (0 : PortalId)).switches.get
        (0 : Fin 8), rfl, calm_of (by decide +kernel), rfl, by decide +kernel⟩,
   ⟨onDies pSwEp, 0, (onDies pSwEp).portals.get (0 : PortalId), 0, ((onDies pSwEp).portals.get (0 : PortalId)).switches.get (0 : Fin 8),
        rfl, calm_of (by decide +kernel), rfl, by decide +kernel⟩,
   ⟨onDies pDefault, 0, (onDies pDefault).portals.get (0 : PortalId), 0, ((onDies pDefault).portals.get (0 : PortalId)).switches.get
        (0 : Fin 8), rfl, calm_of (by decide +kernel), rfl, by decide +kernel⟩,
   ⟨onDies pSwEp, 0, (onDies pSwEp).portals.get (0 : PortalId), 0, ((onDies pSwEp).portals.get (0 : PortalId)).switches.get (0 : Fin 8),
        rfl, calm_of (by decide +kernel), rfl, by decide +kernel⟩⟩

/-- Each premise of `Obligations.PortalInputsAndSwitches` can be met. -/
theorem test_witness_PortalInputsAndSwitches_part2 :
    (∃ (s : State) (p : PortalId) (P : PortalState) (n : Fin 8) (w : SwitchState), s.portals.get p = P ∧ P.calm ∧ P.switches.get n = w ∧
        (P.switchCfg n.val).used = false) ∧
    (∃ (s : State) (p : PortalId) (P : PortalState) (n : Fin 8) (w : SwitchState), s.portals.get p = P ∧ P.calm ∧ P.switches.get n = w ∧
        (P.switchCfg n.val).used = true ∧ w.on = true ∧ w.episode = none) ∧
    (∃ (s : State) (p : PortalId) (P : PortalState) (n : Fin 8) (w : SwitchState), s.portals.get p = P ∧ P.calm ∧ P.switches.get n = w ∧
        (P.switchCfg n.val).used = true ∧ w.on = false ∧ w.episode = none) ∧
    (∃ (s : State) (p : PortalId) (P : PortalState) (n : Fin 8) (w : SwitchState), s.portals.get p = P ∧ P.calm ∧ P.switches.get n = w ∧
        (P.switchCfg n.val).used = true ∧ w.episode ≠ none) ∧
    (∃ (s : State) (p : PortalId) (P : PortalState) (n : Fin 8) (w : SwitchState), s.portals.get p = P ∧ P.calm ∧ P.switches.get n = w ∧
        w.retry = none) ∧
    (∃ (s : State) (p : PortalId) (P : PortalState) (n : Fin 8) (w : SwitchState) (r : _), s.portals.get p = P ∧ P.calm ∧
        P.switches.get n = w ∧ w.retry = some r ∧ r.due = false) ∧
    (∃ (s : State) (p : PortalId) (P : PortalState) (n : Fin 8) (w : SwitchState) (r : _) (hot : _), s.portals.get p = P ∧ P.calm ∧
        P.switches.get n = w ∧ w.retry = some r ∧ (hot = true ∨ P.holding = true ∨ (∃ k ∈ neighbours n, (P.switches.get k).inRetry = true) ∨
        s.clock < r.at_)) ∧
    (∃ (s : State) (p : PortalId) (P : PortalState) (n : Fin 8) (w : SwitchState) (r : _), s.portals.get p = P ∧ P.calm ∧
        P.switches.get n = w ∧ w.retry = some r ∧ r.due = true ∧ (P.holding = true ∨ (∃ k ∈ neighbours n,
        (P.switches.get k).inRetry = true) ∨ s.clock < r.at_)) ∧
    (∃ (s : State) (p : PortalId) (P : PortalState) (n : Fin 8) (w : SwitchState) (r : _), s.portals.get p = P ∧ P.calm ∧
        P.switches.get n = w ∧ w.retry = some r ∧ r.due = true ∧ P.holding = false ∧ (∀ k ∈ neighbours n,
        (P.switches.get k).inRetry = false) ∧ r.at_ ≤ s.clock) :=
  ⟨⟨onDies pDefault, 0, (onDies pDefault).portals.get (0 : PortalId), 0, ((onDies pDefault).portals.get (0 : PortalId)).switches.get
        (0 : Fin 8), rfl, calm_of (by decide +kernel), rfl, by decide +kernel⟩,
   ⟨onDies pSwOn, 0, (onDies pSwOn).portals.get (0 : PortalId), 0, ((onDies pSwOn).portals.get (0 : PortalId)).switches.get (0 : Fin 8),
        rfl, calm_of (by decide +kernel), rfl, by decide +kernel⟩,
   ⟨onDies pRich, 0, (onDies pRich).portals.get (0 : PortalId), 0, ((onDies pRich).portals.get (0 : PortalId)).switches.get (0 : Fin 8),
        rfl, calm_of (by decide +kernel), rfl, by decide +kernel⟩,
   ⟨onDies pSwEp, 0, (onDies pSwEp).portals.get (0 : PortalId), 0, ((onDies pSwEp).portals.get (0 : PortalId)).switches.get (0 : Fin 8),
        rfl, calm_of (by decide +kernel), rfl, by decide +kernel⟩,
   ⟨onDies pDefault, 0, (onDies pDefault).portals.get (0 : PortalId), 0, ((onDies pDefault).portals.get (0 : PortalId)).switches.get
        (0 : Fin 8), rfl, calm_of (by decide +kernel), rfl, by decide +kernel⟩,
   ⟨onDies pSwWait, 0, (onDies pSwWait).portals.get (0 : PortalId), 0, ((onDies pSwWait).portals.get (0 : PortalId)).switches.get
        (0 : Fin 8), ((((onDies pSwWait).portals.get (0 : PortalId)).switches.get (0 : Fin 8)).retry).get (by decide +kernel), rfl, calm_of
        (by decide +kernel), rfl, (Option.some_get (by decide +kernel)).symm, by decide +kernel⟩,
   ⟨onDies pSwWait, 0, (onDies pSwWait).portals.get (0 : PortalId), 0, ((onDies pSwWait).portals.get (0 : PortalId)).switches.get
        (0 : Fin 8), ((((onDies pSwWait).portals.get (0 : PortalId)).switches.get (0 : Fin 8)).retry).get (by decide +kernel), true, rfl,
        calm_of (by decide +kernel), rfl, (Option.some_get (by decide +kernel)).symm, by decide +kernel⟩,
   ⟨onDies pSwWaitHold, 0, (onDies pSwWaitHold).portals.get (0 : PortalId), 0, ((onDies pSwWaitHold).portals.get
        (0 : PortalId)).switches.get (0 : Fin 8), ((((onDies pSwWaitHold).portals.get (0 : PortalId)).switches.get (0 : Fin 8)).retry).get
        (by decide +kernel), rfl, calm_of (by decide +kernel), rfl, (Option.some_get (by decide +kernel)).symm, by decide +kernel⟩,
   ⟨onDies pSwWaitDue, 0, (onDies pSwWaitDue).portals.get (0 : PortalId), 0, ((onDies pSwWaitDue).portals.get (0 : PortalId)).switches.get
        (0 : Fin 8), ((((onDies pSwWaitDue).portals.get (0 : PortalId)).switches.get (0 : Fin 8)).retry).get (by decide +kernel), rfl,
        calm_of (by decide +kernel), rfl, (Option.some_get (by decide +kernel)).symm, by decide +kernel⟩⟩

/-- Each premise of `Obligations.PortalInputsAndSwitches` can be met. -/
theorem test_witness_PortalInputsAndSwitches_part3 :
    (∃ (s : State) (p : PortalId) (P : PortalState) (n : Fin 8) (w : SwitchState), s.portals.get p = P ∧ P.calm ∧ P.switches.get n = w ∧
        w.inShortRetry = false) ∧
    (∃ (s : State) (p : PortalId) (P : PortalState) (n : Fin 8) (w : SwitchState), s.portals.get p = P ∧ P.calm ∧ P.switches.get n = w ∧
        w.inShortRetry = true) ∧
    (∃ (s : State) (p : PortalId) (P : PortalState) (loss : Eight Half), s.portals.get p = P ∧ P.calm ∧ ((chans8.map fun n => if
        (P.switches.get n).on && (P.switches.get n).episode.isNone then (loss.get n).toNat else 0).sum) ≤ P.pio.budget) ∧
    (∃ (s : State) (p : PortalId) (P : PortalState) (loss : Eight Half), s.portals.get p = P ∧ P.calm ∧ P.pio.budget < ((chans8.map
        fun n => if (P.switches.get n).on && (P.switches.get n).episode.isNone then (loss.get n).toNat else 0).sum) ∧ (∀ k,
        (P.switches.get k).on = true → (fun n : Fin 8 => (P.switchCfg n.val).prio) k = 0)) ∧
    (∃ (s : State) (p : PortalId) (P : PortalState) (loss : Eight Half) (n : Fin 8), s.portals.get p = P ∧ P.calm ∧ P.pio.budget <
        ((chans8.map fun n => if (P.switches.get n).on && (P.switches.get n).episode.isNone then (loss.get n).toNat else 0).sum) ∧
        (P.switches.get n).on = true ∧ (fun n : Fin 8 => (P.switchCfg n.val).prio) n ≠ 0 ∧ (∀ k, (P.switches.get k).on = true →
        (fun n : Fin 8 => (P.switchCfg n.val).prio) k < (fun n : Fin 8 => (P.switchCfg n.val).prio) n ∨ ((fun n : Fin 8 =>
        (P.switchCfg n.val).prio) k = (fun n : Fin 8 => (P.switchCfg n.val).prio) n ∧ k ≤ n))) ∧
    (∃ (s : State) (p : PortalId) (P : PortalState), s.portals.get p = P ∧ P.calm ∧ P.supply.shedOrder = []) ∧
    (∃ (s : State) (p : PortalId) (P : PortalState) (n : _) (l : _) (w : _), s.portals.get p = P ∧ P.calm ∧ P.supply.shedOrder = n :: l ∧
        P.switches.get n = w ∧ (¬(w.demand = true ∧ w.shed = true ∧ w.cls = .none ∧ (P.switchCfg n.val).used = true))) ∧
    (∃ (s : State) (p : PortalId) (P : PortalState) (n : _) (l : _) (w : _), s.portals.get p = P ∧ P.calm ∧ P.supply.shedOrder = n :: l ∧
        P.switches.get n = w ∧ ((w.demand = true ∧ w.shed = true ∧ w.cls = .none ∧ (P.switchCfg n.val).used = true)) ∧ (P.holding = true ∨
        (80 * P.pio.budget < 100 * (P.supply.est + w.lastLoss)))) ∧
    (∃ (s : State) (p : PortalId) (P : PortalState) (n : _) (l : _) (w : _), s.portals.get p = P ∧ P.calm ∧ P.supply.shedOrder = n :: l ∧
        P.switches.get n = w ∧ ((w.demand = true ∧ w.shed = true ∧ w.cls = .none ∧ (P.switchCfg n.val).used = true)) ∧ P.holding = false ∧
        ¬(80 * P.pio.budget < 100 * (P.supply.est + w.lastLoss))) :=
  ⟨⟨onDies pDefault, 0, (onDies pDefault).portals.get (0 : PortalId), 0, ((onDies pDefault).portals.get (0 : PortalId)).switches.get
        (0 : Fin 8), rfl, calm_of (by decide +kernel), rfl, by decide +kernel⟩,
   ⟨onDies pSwShort, 0, (onDies pSwShort).portals.get (0 : PortalId), 0, ((onDies pSwShort).portals.get (0 : PortalId)).switches.get
        (0 : Fin 8), rfl, calm_of (by decide +kernel), rfl, by decide +kernel⟩,
   ⟨onDies pDefault, 0, (onDies pDefault).portals.get (0 : PortalId), .all 0, rfl, calm_of (by decide +kernel), by decide +kernel⟩,
   ⟨onDies pSwPrio0, 0, (onDies pSwPrio0).portals.get (0 : PortalId), .all 1000, rfl, calm_of (by decide +kernel), by decide +kernel⟩,
   ⟨onDies pSwOn, 0, (onDies pSwOn).portals.get (0 : PortalId), .all 1000, 7, rfl, calm_of (by decide +kernel), by decide +kernel⟩,
   ⟨onDies pDefault, 0, (onDies pDefault).portals.get (0 : PortalId), rfl, calm_of (by decide +kernel), by decide +kernel⟩,
   ⟨onDies pShedStale, 0, (onDies pShedStale).portals.get (0 : PortalId), (((onDies pShedStale).portals.get
        (0 : PortalId)).supply.shedOrder).head (by decide +kernel), (((onDies pShedStale).portals.get
        (0 : PortalId)).supply.shedOrder).tail, ((onDies pShedStale).portals.get (0 : PortalId)).switches.get
        ((((onDies pShedStale).portals.get (0 : PortalId)).supply.shedOrder).head (by decide +kernel)), rfl, calm_of (by decide +kernel),
        by decide +kernel, rfl, by decide +kernel⟩,
   ⟨onDies pSwShedBig, 0, (onDies pSwShedBig).portals.get (0 : PortalId), (((onDies pSwShedBig).portals.get
        (0 : PortalId)).supply.shedOrder).head (by decide +kernel), (((onDies pSwShedBig).portals.get
        (0 : PortalId)).supply.shedOrder).tail, ((onDies pSwShedBig).portals.get (0 : PortalId)).switches.get
        ((((onDies pSwShedBig).portals.get (0 : PortalId)).supply.shedOrder).head (by decide +kernel)), rfl, calm_of (by decide +kernel),
        by decide +kernel, rfl, by decide +kernel⟩,
   ⟨onDies pSwShed, 0, (onDies pSwShed).portals.get (0 : PortalId), (((onDies pSwShed).portals.get (0 : PortalId)).supply.shedOrder).head
        (by decide +kernel), (((onDies pSwShed).portals.get (0 : PortalId)).supply.shedOrder).tail, ((onDies pSwShed).portals.get
        (0 : PortalId)).switches.get ((((onDies pSwShed).portals.get (0 : PortalId)).supply.shedOrder).head (by decide +kernel)), rfl,
        calm_of (by decide +kernel), by decide +kernel, rfl, by decide +kernel⟩⟩

/-- Each premise of `Obligations.SafetyOutputsSuppliesAndCurtains` can be met. -/
theorem test_witness_SafetyOutputsSuppliesAndCurtains :
    (∃ (s : State) (p : PortalId) (P : PortalState) (k : Fin 4), s.portals.get p = P ∧ P.calm ∧ wbit P.supply.ssOn k.val = false) ∧
    (∃ (s : State) (p : PortalId) (P : PortalState) (k : Fin 4), s.portals.get p = P ∧ P.calm ∧ wbit P.supply.ssOn k.val = true ∧
        P.supply.field ≠ .uv) ∧
    (∃ (s : State) (p : PortalId) (P : PortalState) (o : SoId) (x : SoState) (y : SoState), s.portals.get p = P ∧ P.calm ∧ P.sos.so o = x ∧
        P.sos.so (SoId.other o) = y ∧ P.soUsed o = false) ∧
    (∃ (s : State) (p : PortalId) (P : PortalState) (o : SoId) (x : SoState) (y : SoState), s.portals.get p = P ∧ P.calm ∧ P.sos.so o = x ∧
        P.sos.so (SoId.other o) = y ∧ (x.on = false ∨ x.pulse = true)) ∧
    (∃ (s : State) (p : PortalId) (P : PortalState) (o : SoId) (x : SoState) (y : SoState) (c : SoCheck), s.portals.get p = P ∧ P.calm ∧
        P.sos.so o = x ∧ P.sos.so (SoId.other o) = y ∧ P.soUsed o = true ∧ x.pulse = true ∧ y.on = true ∧ c ≠ .notReturned) ∧
    (∃ (s : State) (p : PortalId) (P : PortalState) (o : SoId) (x : SoState) (y : SoState), s.portals.get p = P ∧ P.calm ∧ P.sos.so o = x ∧
        P.sos.so (SoId.other o) = y ∧ P.soUsed o = true ∧ x.pulse = true ∧ y.on = false) ∧
    (∃ (s : State) (p : PortalId) (P : PortalState) (o : SoId) (x : SoState) (y : SoState), s.portals.get p = P ∧ P.calm ∧ P.sos.so o = x ∧
        P.sos.so (SoId.other o) = y ∧ P.soUsed o = true ∧ x.on = true ∧ x.pulse = false) ∧
    (∃ (s : State) (p : PortalId) (P : PortalState) (o : SoId) (x : SoState) (y : SoState), s.portals.get p = P ∧ P.calm ∧ P.sos.so o = x ∧
        P.sos.so (SoId.other o) = y ∧ P.soUsed o = true ∧ x.on = false) ∧
    (∃ (s : State) (p : PortalId) (P : PortalState), s.portals.get p = P ∧ P.calm ∧ P.supply.field = .normal) :=
  ⟨⟨onDies pDefault, 0, (onDies pDefault).portals.get (0 : PortalId), 0, rfl, calm_of (by decide +kernel), by decide +kernel⟩,
   ⟨onDies pSsOn, 0, (onDies pSsOn).portals.get (0 : PortalId), 0, rfl, calm_of (by decide +kernel), by decide +kernel⟩,
   ⟨onDies pDefault, 0, (onDies pDefault).portals.get (0 : PortalId), SoId.a, ((onDies pDefault).portals.get (0 : PortalId)).sos.so SoId.a,
        ((onDies pDefault).portals.get (0 : PortalId)).sos.so (SoId.other SoId.a), rfl, calm_of (by decide +kernel), rfl, rfl,
        by decide +kernel⟩,
   ⟨onDies pDefault, 0, (onDies pDefault).portals.get (0 : PortalId), SoId.a, ((onDies pDefault).portals.get (0 : PortalId)).sos.so SoId.a,
        ((onDies pDefault).portals.get (0 : PortalId)).sos.so (SoId.other SoId.a), rfl, calm_of (by decide +kernel), rfl, rfl,
        by decide +kernel⟩,
   ⟨onDies pSoPulse, 0, (onDies pSoPulse).portals.get (0 : PortalId), SoId.a, ((onDies pSoPulse).portals.get (0 : PortalId)).sos.so SoId.a,
        ((onDies pSoPulse).portals.get (0 : PortalId)).sos.so (SoId.other SoId.a), SoCheck.notFallen, rfl, calm_of (by decide +kernel), rfl,
        rfl, by decide +kernel⟩,
   ⟨onDies pSoPulseA, 0, (onDies pSoPulseA).portals.get (0 : PortalId), SoId.a, ((onDies pSoPulseA).portals.get
        (0 : PortalId)).sos.so SoId.a, ((onDies pSoPulseA).portals.get (0 : PortalId)).sos.so (SoId.other SoId.a), rfl, calm_of
        (by decide +kernel), rfl, rfl, by decide +kernel⟩,
   ⟨onDies pSoOn, 0, (onDies pSoOn).portals.get (0 : PortalId), SoId.a, ((onDies pSoOn).portals.get (0 : PortalId)).sos.so SoId.a,
        ((onDies pSoOn).portals.get (0 : PortalId)).sos.so (SoId.other SoId.a), rfl, calm_of (by decide +kernel), rfl, rfl,
        by decide +kernel⟩,
   ⟨onDies pRich, 0, (onDies pRich).portals.get (0 : PortalId), SoId.a, ((onDies pRich).portals.get (0 : PortalId)).sos.so SoId.a,
        ((onDies pRich).portals.get (0 : PortalId)).sos.so (SoId.other SoId.a), rfl, calm_of (by decide +kernel), rfl, rfl,
        by decide +kernel⟩,
   ⟨onDies pDefault, 0, (onDies pDefault).portals.get (0 : PortalId), rfl, calm_of (by decide +kernel), by decide +kernel⟩⟩

/-- Each premise of `Obligations.SafetyOutputsSuppliesAndCurtains` can be met. -/
theorem test_witness_SafetyOutputsSuppliesAndCurtains_part2 :
    (∃ (s : State) (p : PortalId) (P : PortalState), s.portals.get p = P ∧ P.calm ∧ P.supply.field ≠ .normal) ∧
    (∃ (s : State) (p : PortalId) (P : PortalState), s.portals.get p = P ∧ P.calm ∧ (P.supply.field = .hold ∨ P.supply.field = .uv)) ∧
    (∃ (s : State) (p : PortalId) (P : PortalState), s.portals.get p = P ∧ P.calm ∧ (P.supply.field = .normal ∨ P.supply.field = .warn)) ∧
    (∃ (s : State) (p : PortalId) (P : PortalState), s.portals.get p = P ∧ P.calm ∧ P.supply.field = .uv) ∧
    (∃ (s : State) (p : PortalId) (P : PortalState), s.portals.get p = P ∧ P.calm ∧ P.supply.field = .warn) ∧
    (∃ (s : State) (p : PortalId) (P : PortalState), s.portals.get p = P ∧ P.calm ∧ P.supply.field = .hold) ∧
    (∃ (s : State) (p : PortalId) (P : PortalState), s.portals.get p = P ∧ P.calm ∧ (P.holding = true ∨ P.supply.restoring = false)) ∧
    (∃ (s : State) (p : PortalId) (P : PortalState), s.portals.get p = P ∧ P.calm ∧ P.holding = false ∧ P.supply.restoring = true ∧ (∀ k,
        (P.switches.get k).deferred = false)) ∧
    (∃ (s : State) (p : PortalId) (P : PortalState) (n : _), s.portals.get p = P ∧ P.calm ∧ P.holding = false ∧ P.supply.restoring = true ∧
        (P.switches.get n).deferred = true ∧ (∀ k, k < n → (P.switches.get k).deferred = false)) :=
  ⟨⟨onDies pSwWaitHold, 0, (onDies pSwWaitHold).portals.get (0 : PortalId), rfl, calm_of (by decide +kernel), by decide +kernel⟩,
   ⟨onDies pSwWaitHold, 0, (onDies pSwWaitHold).portals.get (0 : PortalId), rfl, calm_of (by decide +kernel), by decide +kernel⟩,
   ⟨onDies pDefault, 0, (onDies pDefault).portals.get (0 : PortalId), rfl, calm_of (by decide +kernel), by decide +kernel⟩,
   ⟨onDies pSsOnUv, 0, (onDies pSsOnUv).portals.get (0 : PortalId), rfl, calm_of (by decide +kernel), by decide +kernel⟩,
   ⟨onDies pWarn, 0, (onDies pWarn).portals.get (0 : PortalId), rfl, calm_of (by decide +kernel), by decide +kernel⟩,
   ⟨onDies pSwWaitHold, 0, (onDies pSwWaitHold).portals.get (0 : PortalId), rfl, calm_of (by decide +kernel), by decide +kernel⟩,
   ⟨onDies pDefault, 0, (onDies pDefault).portals.get (0 : PortalId), rfl, calm_of (by decide +kernel), by decide +kernel⟩,
   ⟨onDies pRestoringDone, 0, (onDies pRestoringDone).portals.get (0 : PortalId), rfl, calm_of (by decide +kernel), by decide +kernel⟩,
   ⟨onDies pRestoring, 0, (onDies pRestoring).portals.get (0 : PortalId), 0, rfl, calm_of (by decide +kernel), by decide +kernel⟩⟩

/-- Each premise of `Obligations.SafetyOutputsSuppliesAndCurtains` can be met. -/
theorem test_witness_SafetyOutputsSuppliesAndCurtains_part3 :
    (∃ (s : State) (p : PortalId), (s.portals.get p).por = true) ∧
    (∃ (s : State) (p : PortalId) (k : Fin 2) (P : PortalState) (c : CurtainState) (r : CurtainCfg), s.portals.get p = P ∧ P.calm ∧
        P.curtains.at2 k = c ∧ P.curtainCfg k.val = r ∧ c.phase = .off) ∧
    (∃ (s : State) (p : PortalId) (k : Fin 2) (P : PortalState) (c : CurtainState) (r : CurtainCfg) (l : List Byte), s.portals.get p = P ∧
        P.calm ∧ P.curtains.at2 k = c ∧ P.curtainCfg k.val = r ∧ c.phase = .hello ∧ l.length = 12 ∧ rd8 l 0 = 0xA5 ∧ rd8 l 1 = 0x11 ∧
        curtainCrcOk l = true) ∧
    (∃ (s : State) (p : PortalId) (k : Fin 2) (P : PortalState) (c : CurtainState) (r : CurtainCfg) (l : List Byte), s.portals.get p = P ∧
        P.calm ∧ P.curtains.at2 k = c ∧ P.curtainCfg k.val = r ∧ c.phase ≠ .off ∧ (c.phase ≠ .hello ∨ l.length ≠ 12 ∨ rd8 l 0 ≠ 0xA5 ∨
        rd8 l 1 ≠ 0x11 ∨ curtainCrcOk l = false)) ∧
    (∃ (s : State) (p : PortalId) (k : Fin 2) (P : PortalState) (c : CurtainState) (r : CurtainCfg), s.portals.get p = P ∧ P.calm ∧
        P.curtains.at2 k = c ∧ P.curtainCfg k.val = r ∧ c.phase ≠ .hello ∧ c.phase ≠ .select) ∧
    (∃ (s : State) (p : PortalId) (k : Fin 2) (P : PortalState) (c : CurtainState) (r : CurtainCfg), s.portals.get p = P ∧ P.calm ∧
        P.curtains.at2 k = c ∧ P.curtainCfg k.val = r ∧ c.phase = .hello ∧ c.tries < 2) ∧
    (∃ (s : State) (p : PortalId) (k : Fin 2) (P : PortalState) (c : CurtainState) (r : CurtainCfg), s.portals.get p = P ∧ P.calm ∧
        P.curtains.at2 k = c ∧ P.curtainCfg k.val = r ∧ c.phase = .hello ∧ 2 ≤ c.tries ∧ r.legacyOk = true ∧ c.v1Seen = true) ∧
    (∃ (s : State) (p : PortalId) (k : Fin 2) (P : PortalState) (c : CurtainState) (r : CurtainCfg), s.portals.get p = P ∧ P.calm ∧
        P.curtains.at2 k = c ∧ P.curtainCfg k.val = r ∧ (c.phase = .select ∨ (c.phase = .hello ∧ 2 ≤ c.tries ∧ (r.legacyOk = false ∨
        c.v1Seen = false)))) ∧
    (∃ (s : State) (p : PortalId) (k : Fin 2) (P : PortalState) (c : CurtainState) (r : CurtainCfg), s.portals.get p = P ∧ P.calm ∧
        P.curtains.at2 k = c ∧ P.curtainCfg k.val = r ∧ (r.used = false ∨ (c.phase ≠ .lost ∧ c.phase ≠ .failed))) :=
  ⟨⟨onDies pPor, 0, by decide +kernel⟩,
   ⟨onDies pDefault, 0, 0, (onDies pDefault).portals.get (0 : PortalId), ((onDies pDefault).portals.get (0 : PortalId)).curtains.at2
        (0 : Fin 2), ((onDies pDefault).portals.get (0 : PortalId)).curtainCfg (0 : Fin 2).val, rfl, calm_of (by decide +kernel), rfl, rfl,
        by decide +kernel⟩,
   ⟨onDies pCurHello, 0, 0, (onDies pCurHello).portals.get (0 : PortalId), ((onDies pCurHello).portals.get (0 : PortalId)).curtains.at2
        (0 : Fin 2), ((onDies pCurHello).portals.get (0 : PortalId)).curtainCfg (0 : Fin 2).val, [165, 17, 2, 1, 64, 5, 0, 0, 0, 0, 45, 56],
        rfl, calm_of (by decide +kernel), rfl, rfl, by decide +kernel⟩,
   ⟨onDies pCurHello, 0, 0, (onDies pCurHello).portals.get (0 : PortalId), ((onDies pCurHello).portals.get (0 : PortalId)).curtains.at2
        (0 : Fin 2), ((onDies pCurHello).portals.get (0 : PortalId)).curtainCfg (0 : Fin 2).val, [], rfl, calm_of (by decide +kernel), rfl,
        rfl, by decide +kernel⟩,
   ⟨onDies pDefault, 0, 0, (onDies pDefault).portals.get (0 : PortalId), ((onDies pDefault).portals.get (0 : PortalId)).curtains.at2
        (0 : Fin 2), ((onDies pDefault).portals.get (0 : PortalId)).curtainCfg (0 : Fin 2).val, rfl, calm_of (by decide +kernel), rfl, rfl,
        by decide +kernel⟩,
   ⟨onDies pCurHello, 0, 0, (onDies pCurHello).portals.get (0 : PortalId), ((onDies pCurHello).portals.get (0 : PortalId)).curtains.at2
        (0 : Fin 2), ((onDies pCurHello).portals.get (0 : PortalId)).curtainCfg (0 : Fin 2).val, rfl, calm_of (by decide +kernel), rfl, rfl,
        by decide +kernel⟩,
   ⟨onDies pCurHello2v1, 0, 0, (onDies pCurHello2v1).portals.get (0 : PortalId), ((onDies pCurHello2v1).portals.get
        (0 : PortalId)).curtains.at2 (0 : Fin 2), ((onDies pCurHello2v1).portals.get (0 : PortalId)).curtainCfg (0 : Fin 2).val, rfl,
        calm_of (by decide +kernel), rfl, rfl, by decide +kernel⟩,
   ⟨onDies pCurHello2, 0, 0, (onDies pCurHello2).portals.get (0 : PortalId), ((onDies pCurHello2).portals.get (0 : PortalId)).curtains.at2
        (0 : Fin 2), ((onDies pCurHello2).portals.get (0 : PortalId)).curtainCfg (0 : Fin 2).val, rfl, calm_of (by decide +kernel), rfl,
        rfl, by decide +kernel⟩,
   ⟨onDies pDefault, 0, 0, (onDies pDefault).portals.get (0 : PortalId), ((onDies pDefault).portals.get (0 : PortalId)).curtains.at2
        (0 : Fin 2), ((onDies pDefault).portals.get (0 : PortalId)).curtainCfg (0 : Fin 2).val, rfl, calm_of (by decide +kernel), rfl, rfl,
        by decide +kernel⟩⟩

/-- Each premise of `Obligations.SafetyOutputsSuppliesAndCurtains` can be met. -/
theorem test_witness_SafetyOutputsSuppliesAndCurtains_part4 :
    (∃ (s : State) (p : PortalId) (k : Fin 2) (P : PortalState) (c : CurtainState) (r : CurtainCfg), s.portals.get p = P ∧ P.calm ∧
        P.curtains.at2 k = c ∧ P.curtainCfg k.val = r ∧ r.used = true ∧ (c.phase = .lost ∨ c.phase = .failed)) ∧
    (∃ (s : State) (p : PortalId) (k : Fin 2) (P : PortalState) (c : CurtainState) (r : CurtainCfg) (l : _) (v : _), s.portals.get p = P ∧
        P.calm ∧ P.curtains.at2 k = c ∧ P.curtainCfg k.val = r ∧ beamVersion l = some v ∧ v = c.vsel ∧ (c.phase = .live ∨
        c.phase = .select)) ∧
    (∃ (s : State) (p : PortalId) (k : Fin 2) (P : PortalState) (c : CurtainState) (r : CurtainCfg) (l : _) (v : _), s.portals.get p = P ∧
        P.calm ∧ P.curtains.at2 k = c ∧ P.curtainCfg k.val = r ∧ beamVersion l = some v ∧ v ≠ c.vsel ∧ (c.phase = .live ∨
        c.phase = .select)) ∧
    (∃ (s : State) (p : PortalId) (k : Fin 2) (P : PortalState) (c : CurtainState) (r : CurtainCfg) (l : _) (v : _), s.portals.get p = P ∧
        P.calm ∧ P.curtains.at2 k = c ∧ P.curtainCfg k.val = r ∧ beamVersion l = some v ∧ c.wants = v ∧ c.phase = .hello) ∧
    (∃ (s : State) (p : PortalId) (k : Fin 2) (P : PortalState) (c : CurtainState) (r : CurtainCfg) (l : _) (v : _), s.portals.get p = P ∧
        P.calm ∧ P.curtains.at2 k = c ∧ P.curtainCfg k.val = r ∧ beamVersion l = some v ∧ c.wants = v ∧ (c.phase = .lost ∨
        c.phase = .failed)) ∧
    (∃ (s : State) (p : PortalId) (k : Fin 2) (P : PortalState) (c : CurtainState) (r : CurtainCfg) (l : _) (v : _), s.portals.get p = P ∧
        P.calm ∧ P.curtains.at2 k = c ∧ P.curtainCfg k.val = r ∧ beamVersion l = some v ∧ c.wants ≠ v ∧ c.phase ≠ .off ∧
        c.unselected = true) ∧
    (∃ (s : State) (p : PortalId) (k : Fin 2) (P : PortalState) (c : CurtainState) (r : CurtainCfg) (l : _), s.portals.get p = P ∧ P.calm ∧
        P.curtains.at2 k = c ∧ P.curtainCfg k.val = r ∧ beamVersion l = none ∧ c.phase ≠ .off) ∧
    (∃ (s : State) (p : PortalId) (k : Fin 2) (P : PortalState) (c : CurtainState) (r : CurtainCfg), s.portals.get p = P ∧ P.calm ∧
        P.curtains.at2 k = c ∧ P.curtainCfg k.val = r ∧ c.phase = .live) ∧
    (∃ (s : State) (p : PortalId) (k : Fin 2) (P : PortalState) (c : CurtainState) (r : CurtainCfg), s.portals.get p = P ∧ P.calm ∧
        P.curtains.at2 k = c ∧ P.curtainCfg k.val = r ∧ c.phase ≠ .live) :=
  ⟨⟨onDies pCurLost, 0, 0, (onDies pCurLost).portals.get (0 : PortalId), ((onDies pCurLost).portals.get (0 : PortalId)).curtains.at2
        (0 : Fin 2), ((onDies pCurLost).portals.get (0 : PortalId)).curtainCfg (0 : Fin 2).val, rfl, calm_of (by decide +kernel), rfl, rfl,
        by decide +kernel⟩,
   ⟨onDies pCurSelect1, 0, 0, (onDies pCurSelect1).portals.get (0 : PortalId), ((onDies pCurSelect1).portals.get
        (0 : PortalId)).curtains.at2 (0 : Fin 2), ((onDies pCurSelect1).portals.get (0 : PortalId)).curtainCfg (0 : Fin 2).val, [165, 1, 7,
        64, 0, 0, 0, 0, 0, 0, 0, 0, 0, 216, 168], (beamVersion [165, 1, 7, 64, 0, 0, 0, 0, 0, 0, 0, 0, 0, 216, 168]).get
        (by decide +kernel), rfl, calm_of (by decide +kernel), rfl, rfl, (Option.some_get (by decide +kernel)).symm, by decide +kernel⟩,
   ⟨onDies pCurSelect1, 0, 0, (onDies pCurSelect1).portals.get (0 : PortalId), ((onDies pCurSelect1).portals.get
        (0 : PortalId)).curtains.at2 (0 : Fin 2), ((onDies pCurSelect1).portals.get (0 : PortalId)).curtainCfg (0 : Fin 2).val, [165, 2, 8,
        64, 1, 0, 0, 0, 0, 0, 0, 0, 0, 0, 0, 0, 0, 0, 0, 0, 0, 0, 0, 0, 137, 28], (beamVersion [165, 2, 8, 64, 1, 0, 0, 0, 0, 0, 0, 0, 0, 0,
        0, 0, 0, 0, 0, 0, 0, 0, 0, 0, 137, 28]).get (by decide +kernel), rfl, calm_of (by decide +kernel), rfl, rfl, (Option.some_get
        (by decide +kernel)).symm, by decide +kernel⟩,
   ⟨onDies pCurHello, 0, 0, (onDies pCurHello).portals.get (0 : PortalId), ((onDies pCurHello).portals.get (0 : PortalId)).curtains.at2
        (0 : Fin 2), ((onDies pCurHello).portals.get (0 : PortalId)).curtainCfg (0 : Fin 2).val, [165, 1, 7, 64, 0, 0, 0, 0, 0, 0, 0, 0, 0,
        216, 168], (beamVersion [165, 1, 7, 64, 0, 0, 0, 0, 0, 0, 0, 0, 0, 216, 168]).get (by decide +kernel), rfl, calm_of
        (by decide +kernel), rfl, rfl, (Option.some_get (by decide +kernel)).symm, by decide +kernel⟩,
   ⟨onDies pCurLost, 0, 0, (onDies pCurLost).portals.get (0 : PortalId), ((onDies pCurLost).portals.get (0 : PortalId)).curtains.at2
        (0 : Fin 2), ((onDies pCurLost).portals.get (0 : PortalId)).curtainCfg (0 : Fin 2).val, [165, 1, 7, 64, 0, 0, 0, 0, 0, 0, 0, 0, 0,
        216, 168], (beamVersion [165, 1, 7, 64, 0, 0, 0, 0, 0, 0, 0, 0, 0, 216, 168]).get (by decide +kernel), rfl, calm_of
        (by decide +kernel), rfl, rfl, (Option.some_get (by decide +kernel)).symm, by decide +kernel⟩,
   ⟨onDies pCurHello, 0, 0, (onDies pCurHello).portals.get (0 : PortalId), ((onDies pCurHello).portals.get (0 : PortalId)).curtains.at2
        (0 : Fin 2), ((onDies pCurHello).portals.get (0 : PortalId)).curtainCfg (0 : Fin 2).val, [165, 2, 8, 64, 1, 0, 0, 0, 0, 0, 0, 0, 0,
        0, 0, 0, 0, 0, 0, 0, 0, 0, 0, 0, 137, 28], (beamVersion [165, 2, 8, 64, 1, 0, 0, 0, 0, 0, 0, 0, 0, 0, 0, 0, 0, 0, 0, 0, 0, 0, 0, 0,
        137, 28]).get (by decide +kernel), rfl, calm_of (by decide +kernel), rfl, rfl, (Option.some_get (by decide +kernel)).symm,
        by decide +kernel⟩,
   ⟨onDies pCurHello, 0, 0, (onDies pCurHello).portals.get (0 : PortalId), ((onDies pCurHello).portals.get (0 : PortalId)).curtains.at2
        (0 : Fin 2), ((onDies pCurHello).portals.get (0 : PortalId)).curtainCfg (0 : Fin 2).val, [], rfl, calm_of (by decide +kernel), rfl,
        rfl, by decide +kernel⟩,
   ⟨onDies pCurLive1, 0, 0, (onDies pCurLive1).portals.get (0 : PortalId), ((onDies pCurLive1).portals.get (0 : PortalId)).curtains.at2
        (0 : Fin 2), ((onDies pCurLive1).portals.get (0 : PortalId)).curtainCfg (0 : Fin 2).val, rfl, calm_of (by decide +kernel), rfl, rfl,
        by decide +kernel⟩,
   ⟨onDies pDefault, 0, 0, (onDies pDefault).portals.get (0 : PortalId), ((onDies pDefault).portals.get (0 : PortalId)).curtains.at2
        (0 : Fin 2), ((onDies pDefault).portals.get (0 : PortalId)).curtainCfg (0 : Fin 2).val, rfl, calm_of (by decide +kernel), rfl, rfl,
        by decide +kernel⟩⟩

/-- Each premise of `Obligations.AxesAndFeedback` can be met. -/
theorem test_witness_AxesAndFeedback :
    (∃ (s : State) (p : PortalId) (a : AxisId) (P : PortalState) (x : AxisState), s.portals.get p = P ∧ P.calm ∧ P.axes.get a = x ∧
        x.precharge = true ∧ P.ob.reversal = none ∧ x.drive ≠ .standstill) ∧
    (∃ (s : State) (p : PortalId) (a : AxisId) (P : PortalState) (x : AxisState), s.portals.get p = P ∧ P.calm ∧ P.axes.get a = x ∧
        x.precharge = true ∧ P.ob.reversal = none ∧ P.link.limp = false ∧ x.drive = .standstill ∧ x.queued = none) ∧
    (∃ (s : State) (p : PortalId) (a : AxisId) (P : PortalState) (x : AxisState) (b : _), s.portals.get p = P ∧ P.calm ∧ P.axes.get a = x ∧
        x.precharge = true ∧ P.ob.reversal = none ∧ P.link.limp = false ∧ x.drive = .standstill ∧ x.queued = some b ∧ P.holding = true) ∧
    (∃ (s : State) (p : PortalId) (a : AxisId) (P : PortalState) (x : AxisState) (b : _), s.portals.get p = P ∧ P.calm ∧ P.axes.get a = x ∧
        x.precharge = true ∧ P.ob.reversal = none ∧ P.link.limp = false ∧ x.drive = .standstill ∧ x.queued = some b ∧ P.holding = false ∧
        (∀ i, i ≠ a → (P.axes.get i).queued ≠ some b)) ∧
    (∃ (s : State) (p : PortalId) (a : AxisId) (P : PortalState) (x : AxisState) (b : _), s.portals.get p = P ∧ P.calm ∧ P.axes.get a = x ∧
        x.precharge = true ∧ P.ob.reversal = none ∧ P.link.limp = false ∧ x.drive = .standstill ∧ x.queued = some b ∧ (∃ i, i ≠ a ∧
        (P.axes.get i).queued = some b ∧ (P.axes.get i).enabled = true ∧ (P.axes.get i).canStep = false)) ∧
    (∃ (s : State) (p : PortalId) (a : AxisId) (P : PortalState) (x : AxisState), s.portals.get p = P ∧ P.calm ∧ P.axes.get a = x ∧
        (x.drive ≠ .align ∨ x.precharge = true)) ∧
    (∃ (s : State) (p : PortalId) (a : AxisId) (P : PortalState) (x : AxisState), s.portals.get p = P ∧ P.calm ∧ P.axes.get a = x ∧
        x.drive = .align ∧ x.precharge = false ∧ P.ob.reversal = none ∧ P.link.limp = false ∧ x.queued = none) ∧
    (∃ (s : State) (p : PortalId) (a : AxisId) (P : PortalState) (x : AxisState), s.portals.get p = P ∧ P.calm ∧ P.axes.get a = x ∧
        (x.motion = none ∨ x.moving = false ∨ x.timer = 0 ∨ (∃ m, x.motion = some m ∧ x.demand = m.target))) ∧
    (∃ (s : State) (p : PortalId) (a : AxisId) (P : PortalState) (x : AxisState) (m : _), s.portals.get p = P ∧ P.calm ∧ P.axes.get a = x ∧
        x.motion = some m ∧ x.moving = true ∧ x.timer ≠ 0 ∧ x.demand ≠ m.target ∧ P.ob.stop = none) :=
  ⟨⟨onDies pPrechargeAlign, 0, 0, (onDies pPrechargeAlign).portals.get (0 : PortalId), ((onDies pPrechargeAlign).portals.get
        (0 : PortalId)).axes.get (0 : AxisId), rfl, calm_of (by decide +kernel), rfl, by decide +kernel⟩,
   ⟨onDies pPrecharge, 0, 0, (onDies pPrecharge).portals.get (0 : PortalId), ((onDies pPrecharge).portals.get (0 : PortalId)).axes.get
        (0 : AxisId), rfl, calm_of (by decide +kernel), rfl, by decide +kernel⟩,
   ⟨onDies pPrechargeHold, 0, 0, (onDies pPrechargeHold).portals.get (0 : PortalId), ((onDies pPrechargeHold).portals.get
        (0 : PortalId)).axes.get (0 : AxisId), ((((onDies pPrechargeHold).portals.get (0 : PortalId)).axes.get (0 : AxisId)).queued).get
        (by decide +kernel), rfl, calm_of (by decide +kernel), rfl, by decide +kernel, by decide +kernel, by decide +kernel,
        by decide +kernel, (Option.some_get (by decide +kernel)).symm, by decide +kernel⟩,
   ⟨onDies pPrecharge1, 0, 0, (onDies pPrecharge1).portals.get (0 : PortalId), ((onDies pPrecharge1).portals.get (0 : PortalId)).axes.get
        (0 : AxisId), ((((onDies pPrecharge1).portals.get (0 : PortalId)).axes.get (0 : AxisId)).queued).get (by decide +kernel), rfl,
        calm_of (by decide +kernel), rfl, by decide +kernel, by decide +kernel, by decide +kernel, by decide +kernel, (Option.some_get
        (by decide +kernel)).symm, by decide +kernel⟩,
   ⟨onDies pPrechargeQ, 0, 0, (onDies pPrechargeQ).portals.get (0 : PortalId), ((onDies pPrechargeQ).portals.get (0 : PortalId)).axes.get
        (0 : AxisId), ((((onDies pPrechargeQ).portals.get (0 : PortalId)).axes.get (0 : AxisId)).queued).get (by decide +kernel), rfl,
        calm_of (by decide +kernel), rfl, by decide +kernel, by decide +kernel, by decide +kernel, by decide +kernel, (Option.some_get
        (by decide +kernel)).symm, by decide +kernel⟩,
   ⟨onDies pDefault, 0, 0, (onDies pDefault).portals.get (0 : PortalId), ((onDies pDefault).portals.get (0 : PortalId)).axes.get
        (0 : AxisId), rfl, calm_of (by decide +kernel), rfl, by decide +kernel⟩,
   ⟨onDies pAlign, 0, 0, (onDies pAlign).portals.get (0 : PortalId), ((onDies pAlign).portals.get (0 : PortalId)).axes.get (0 : AxisId),
        rfl, calm_of (by decide +kernel), rfl, by decide +kernel⟩,
   ⟨onDies pDefault, 0, 0, (onDies pDefault).portals.get (0 : PortalId), ((onDies pDefault).portals.get (0 : PortalId)).axes.get
        (0 : AxisId), rfl, calm_of (by decide +kernel), rfl, by decide +kernel⟩,
   ⟨onDies pMotDue2, 0, 0, (onDies pMotDue2).portals.get (0 : PortalId), ((onDies pMotDue2).portals.get (0 : PortalId)).axes.get
        (0 : AxisId), ((((onDies pMotDue2).portals.get (0 : PortalId)).axes.get (0 : AxisId)).motion).get (by decide +kernel), rfl, calm_of
        (by decide +kernel), rfl, (Option.some_get (by decide +kernel)).symm, by decide +kernel⟩⟩

/-- Each premise of `Obligations.AxesAndFeedback` can be met. -/
theorem test_witness_AxesAndFeedback_part2 :
    (∃ (s : State) (p : PortalId) (a : AxisId) (P : PortalState) (x : AxisState) (m : _) (st : _), s.portals.get p = P ∧ P.calm ∧
        P.axes.get a = x ∧ x.motion = some m ∧ x.moving = true ∧ x.timer ≠ 0 ∧ x.demand ≠ m.target ∧ P.ob.stop = some st ∧
        wbit st.axes a.val = true ∧ st.started.get a = none ∧ m.why = .safeStop) ∧
    (∃ (s : State) (p : PortalId) (a : AxisId) (P : PortalState) (x : AxisState) (m : _), s.portals.get p = P ∧ P.calm ∧ P.axes.get a = x ∧
        x.motion = some m ∧ x.moving = true ∧ x.timer ≠ 0 ∧ x.demand ≠ m.target ∧ x.demand +
        (if x.demand < m.target then 1 else -1 : Int) ≠ m.target) ∧
    (∃ (s : State) (p : PortalId) (a : AxisId) (P : PortalState) (x : AxisState) (m : _), s.portals.get p = P ∧ P.calm ∧ P.axes.get a = x ∧
        x.motion = some m ∧ x.moving = true ∧ x.timer ≠ 0 ∧ x.demand ≠ m.target ∧ x.demand +
        (if x.demand < m.target then 1 else -1 : Int) = m.target ∧ m.why = .profile ∧ m.after = .rest ∧ P.ob.reversal = none ∧
        P.ob.learnRun = none ∧ P.det.progTmo = 0) ∧
    (∃ (s : State) (p : PortalId) (a : AxisId) (P : PortalState) (x : AxisState) (m : PwmSample), s.portals.get p = P ∧ P.calm ∧
        P.axes.get a = x ∧ P.ob.lockCause = 0 ∧ wbit P.ob.gateCheck a.val = true ∧ m.gatesLow = false) ∧
    (∃ (s : State) (p : PortalId) (a : AxisId) (P : PortalState) (x : AxisState) (m : PwmSample), s.portals.get p = P ∧ P.calm ∧
        P.axes.get a = x ∧ (wbit P.ob.gateCheck a.val = false ∨ m.gatesLow = true)) ∧
    (∃ (s : State) (p : PortalId) (a : AxisId) (P : PortalState) (x : AxisState) (legs : BitVec 4), s.portals.get p = P ∧ P.calm ∧
        P.axes.get a = x ∧ legs.toNat % 2 ^ legsUsed (P.axisCfg a).kind = 0) ∧
    (∃ (s : State) (p : PortalId) (a : AxisId) (P : PortalState) (x : AxisState) (leg : Fin 4), s.portals.get p = P ∧ P.calm ∧
        P.axes.get a = x ∧ (x.enabled = false ∨ x.precharge = true ∨ legsUsed (P.axisCfg a).kind ≤ leg.val)) ∧
    (∃ (s : State) (p : PortalId) (a : AxisId) (P : PortalState) (x : AxisState), s.portals.get p = P ∧ P.calm ∧ P.axes.get a = x ∧
        P.vov = 0) ∧
    (∃ (s : State) (p : PortalId) (a : AxisId) (P : PortalState) (x : AxisState), s.portals.get p = P ∧ P.calm ∧ P.axes.get a = x ∧ (∀ b,
        (P.axes.get b).enabled = false)) :=
  ⟨⟨onDies pSafeStopStep, 0, 0, (onDies pSafeStopStep).portals.get (0 : PortalId), ((onDies pSafeStopStep).portals.get
        (0 : PortalId)).axes.get (0 : AxisId), ((((onDies pSafeStopStep).portals.get (0 : PortalId)).axes.get (0 : AxisId)).motion).get
        (by decide +kernel), (((onDies pSafeStopStep).portals.get (0 : PortalId)).ob.stop).get (by decide +kernel), rfl, calm_of
        (by decide +kernel), rfl, (Option.some_get (by decide +kernel)).symm, by decide +kernel, by decide +kernel, by decide +kernel,
        (Option.some_get (by decide +kernel)).symm, by decide +kernel⟩,
   ⟨onDies pMotDue2, 0, 0, (onDies pMotDue2).portals.get (0 : PortalId), ((onDies pMotDue2).portals.get (0 : PortalId)).axes.get
        (0 : AxisId), ((((onDies pMotDue2).portals.get (0 : PortalId)).axes.get (0 : AxisId)).motion).get (by decide +kernel), rfl, calm_of
        (by decide +kernel), rfl, (Option.some_get (by decide +kernel)).symm, by decide +kernel⟩,
   ⟨onDies pRunLast0, 0, 0, (onDies pRunLast0).portals.get (0 : PortalId), ((onDies pRunLast0).portals.get (0 : PortalId)).axes.get
        (0 : AxisId), ((((onDies pRunLast0).portals.get (0 : PortalId)).axes.get (0 : AxisId)).motion).get (by decide +kernel), rfl, calm_of
        (by decide +kernel), rfl, (Option.some_get (by decide +kernel)).symm, by decide +kernel⟩,
   ⟨onDies pGateDue, 0, 0, (onDies pGateDue).portals.get (0 : PortalId), ((onDies pGateDue).portals.get (0 : PortalId)).axes.get
        (0 : AxisId), pwmSampleV1, rfl, calm_of (by decide +kernel), rfl, by decide +kernel⟩,
   ⟨onDies pDefault, 0, 0, (onDies pDefault).portals.get (0 : PortalId), ((onDies pDefault).portals.get (0 : PortalId)).axes.get
        (0 : AxisId), pwmSampleV1, rfl, calm_of (by decide +kernel), rfl, by decide +kernel⟩,
   ⟨onDies pDefault, 0, 0, (onDies pDefault).portals.get (0 : PortalId), ((onDies pDefault).portals.get (0 : PortalId)).axes.get
        (0 : AxisId), 0, rfl, calm_of (by decide +kernel), rfl, by decide +kernel⟩,
   ⟨onDies pDefault, 0, 0, (onDies pDefault).portals.get (0 : PortalId), ((onDies pDefault).portals.get (0 : PortalId)).axes.get
        (0 : AxisId), 0, rfl, calm_of (by decide +kernel), rfl, by decide +kernel⟩,
   ⟨onDies pDefault, 0, 0, (onDies pDefault).portals.get (0 : PortalId), ((onDies pDefault).portals.get (0 : PortalId)).axes.get
        (0 : AxisId), rfl, calm_of (by decide +kernel), rfl, by decide +kernel⟩,
   ⟨onDies pDefault, 0, 0, (onDies pDefault).portals.get (0 : PortalId), ((onDies pDefault).portals.get (0 : PortalId)).axes.get
        (0 : AxisId), rfl, calm_of (by decide +kernel), rfl, by decide +kernel⟩⟩

/-- Each premise of `Obligations.AxesAndFeedback` can be met. -/
theorem test_witness_AxesAndFeedback_part3 :
    (∃ (s : State) (p : PortalId) (a : AxisId) (P : PortalState) (x : AxisState) (legs : BitVec 4), s.portals.get p = P ∧ P.calm ∧
        P.axes.get a = x ∧ legs.toNat % 2 ^ legsUsed (P.axisCfg a).kind ≠ 0) ∧
    (∃ (s : State) (p : PortalId) (a : AxisId) (P : PortalState) (x : AxisState) (leg : Fin 4), s.portals.get p = P ∧ P.calm ∧
        P.axes.get a = x ∧ x.enabled = true ∧ x.precharge = false ∧ leg.val < legsUsed (P.axisCfg a).kind) ∧
    (∃ (s : State) (p : PortalId) (a : AxisId) (P : PortalState) (x : AxisState), s.portals.get p = P ∧ P.calm ∧ P.axes.get a = x ∧
        P.vov ≠ 0) ∧
    (∃ (s : State) (p : PortalId) (a : AxisId) (P : PortalState) (f : FbState) (c : FbCfg), s.portals.get p = P ∧ P.calm ∧ P.fbs.get a = f ∧
        P.fbCfg a = c ∧ P.mon2.fbs.get a = f) ∧
    (∃ (s : State) (p : PortalId) (a : AxisId) (P : PortalState) (f : FbState) (c : FbCfg), s.portals.get p = P ∧ P.calm ∧ P.fbs.get a = f ∧
        P.fbCfg a = c ∧ c.kind ≠ 1) ∧
    (∃ (s : State) (p : PortalId) (a : AxisId) (P : PortalState) (f : FbState) (c : FbCfg) (qa : _) (qb : _), s.portals.get p = P ∧ P.calm ∧
        P.fbs.get a = f ∧ P.fbCfg a = c ∧ c.kind = 1 ∧ (quadPhase qa qb + 4 - quadPhase f.qa f.qb) % 4 = 0) ∧
    (∃ (s : State) (p : PortalId) (a : AxisId) (P : PortalState) (f : FbState) (c : FbCfg) (qa : _) (qb : _), s.portals.get p = P ∧ P.calm ∧
        P.fbs.get a = f ∧ P.fbCfg a = c ∧ c.kind = 1 ∧ (quadPhase qa qb + 4 - quadPhase f.qa f.qb) % 4 = 2) ∧
    (∃ (s : State) (p : PortalId) (a : AxisId) (P : PortalState) (f : FbState) (c : FbCfg) (qa : Bool) (qb : Bool) (up : Bool),
        s.portals.get p = P ∧ P.calm ∧ P.fbs.get a = f ∧ P.fbCfg a = c ∧ c.kind = 1 ∧ (quadPhase qa qb + 4 - quadPhase f.qa f.qb) % 4 =
        (if up then 1 else 3)) ∧
    (∃ (s : State) (p : PortalId) (a : AxisId) (P : PortalState) (f : FbState) (c : FbCfg), s.portals.get p = P ∧ P.calm ∧ P.fbs.get a = f ∧
        P.fbCfg a = c ∧ c.indexed = false) :=
  ⟨⟨onDies pRich, 0, 0, (onDies pRich).portals.get (0 : PortalId), ((onDies pRich).portals.get (0 : PortalId)).axes.get (0 : AxisId), 1,
        rfl, calm_of (by decide +kernel), rfl, by decide +kernel⟩,
   ⟨onDies pMotDue2, 0, 0, (onDies pMotDue2).portals.get (0 : PortalId), ((onDies pMotDue2).portals.get (0 : PortalId)).axes.get
        (0 : AxisId), 0, rfl, calm_of (by decide +kernel), rfl, by decide +kernel⟩,
   ⟨onDies pRich, 0, 0, (onDies pRich).portals.get (0 : PortalId), ((onDies pRich).portals.get (0 : PortalId)).axes.get (0 : AxisId), rfl,
        calm_of (by decide +kernel), rfl, by decide +kernel⟩,
   ⟨onDies pDefault, 0, 0, (onDies pDefault).portals.get (0 : PortalId), ((onDies pDefault).portals.get (0 : PortalId)).fbs.get
        (0 : AxisId), ((onDies pDefault).portals.get (0 : PortalId)).fbCfg (0 : AxisId), rfl, calm_of (by decide +kernel), rfl, rfl,
        by decide +kernel⟩,
   ⟨onDies pDefault, 0, 0, (onDies pDefault).portals.get (0 : PortalId), ((onDies pDefault).portals.get (0 : PortalId)).fbs.get
        (0 : AxisId), ((onDies pDefault).portals.get (0 : PortalId)).fbCfg (0 : AxisId), rfl, calm_of (by decide +kernel), rfl, rfl,
        by decide +kernel⟩,
   ⟨onDies pRich, 0, 0, (onDies pRich).portals.get (0 : PortalId), ((onDies pRich).portals.get (0 : PortalId)).fbs.get (0 : AxisId),
        ((onDies pRich).portals.get (0 : PortalId)).fbCfg (0 : AxisId), false, false, rfl, calm_of (by decide +kernel), rfl, rfl,
        by decide +kernel⟩,
   ⟨onDies pRich, 0, 0, (onDies pRich).portals.get (0 : PortalId), ((onDies pRich).portals.get (0 : PortalId)).fbs.get (0 : AxisId),
        ((onDies pRich).portals.get (0 : PortalId)).fbCfg (0 : AxisId), true, true, rfl, calm_of (by decide +kernel), rfl, rfl,
        by decide +kernel⟩,
   ⟨onDies pRich, 0, 0, (onDies pRich).portals.get (0 : PortalId), ((onDies pRich).portals.get (0 : PortalId)).fbs.get (0 : AxisId),
        ((onDies pRich).portals.get (0 : PortalId)).fbCfg (0 : AxisId), false, true, false, rfl, calm_of (by decide +kernel), rfl, rfl,
        by decide +kernel⟩,
   ⟨onDies pDefault, 0, 0, (onDies pDefault).portals.get (0 : PortalId), ((onDies pDefault).portals.get (0 : PortalId)).fbs.get
        (0 : AxisId), ((onDies pDefault).portals.get (0 : PortalId)).fbCfg (0 : AxisId), rfl, calm_of (by decide +kernel), rfl, rfl,
        by decide +kernel⟩⟩

/-- Each premise of `Obligations.AxesAndFeedback` can be met. -/
theorem test_witness_AxesAndFeedback_part4 :
    (∃ (s : State) (p : PortalId) (a : AxisId) (P : PortalState) (f : FbState) (c : FbCfg), s.portals.get p = P ∧ P.calm ∧ P.fbs.get a = f ∧
        P.fbCfg a = c ∧ ((c.kind = 1 ∧ c.idxGate = true ∧ (f.qa && f.qb) = false))) ∧
    (∃ (s : State) (p : PortalId) (a : AxisId) (P : PortalState) (f : FbState) (c : FbCfg) (i : _), s.portals.get p = P ∧ P.calm ∧
        P.fbs.get a = f ∧ P.fbCfg a = c ∧ (¬(c.kind = 1 ∧ c.idxGate = true ∧ (f.qa && f.qb) = false)) ∧ c.indexed = true ∧ (i = true ∨
        c.idxMode < 2 ∨ (c.idxMode = 2 ∧ f.idxArmed = false))) ∧
    (∃ (s : State) (p : PortalId) (a : AxisId) (P : PortalState) (f : FbState) (c : FbCfg), s.portals.get p = P ∧ P.calm ∧ P.fbs.get a = f ∧
        P.fbCfg a = c ∧ (¬(c.kind = 1 ∧ c.idxGate = true ∧ (f.qa && f.qb) = false)) ∧ c.indexed = true ∧ (2 < c.idxMode ∨ (c.idxMode = 2 ∧
        f.idxArmed = true))) ∧
    (∃ (s : State) (p : PortalId) (a : AxisId) (P : PortalState) (f : FbState) (c : FbCfg), s.portals.get p = P ∧ P.calm ∧ P.fbs.get a = f ∧
        P.fbCfg a = c ∧ (c.kind ≠ 2 ∨ f.ssiBusy = true)) ∧
    (∃ (s : State) (p : PortalId) (a : AxisId) (P : PortalState) (f : FbState) (c : FbCfg), s.portals.get p = P ∧ P.calm ∧ P.fbs.get a = f ∧
        P.fbCfg a = c ∧ c.kind = 2 ∧ f.ssiBusy = false ∧ f.ssiBad < 2) ∧
    (∃ (s : State) (p : PortalId) (a : AxisId) (P : PortalState) (f : FbState) (c : FbCfg), s.portals.get p = P ∧ P.calm ∧ P.fbs.get a = f ∧
        P.fbCfg a = c ∧ c.kind = 2 ∧ f.ssiBusy = false ∧ 2 ≤ f.ssiBad) ∧
    (∃ (s : State) (p : PortalId) (a : AxisId) (P : PortalState) (f : FbState) (c : FbCfg) (w : SsiFrame), s.portals.get p = P ∧ P.calm ∧
        P.fbs.get a = f ∧ P.fbCfg a = c ∧ f.ssiBusy = true ∧ w.trail = true) ∧
    (∃ (s : State) (p : PortalId) (a : AxisId) (P : PortalState) (f : FbState) (c : FbCfg) (w : SsiFrame), s.portals.get p = P ∧ P.calm ∧
        P.fbs.get a = f ∧ P.fbCfg a = c ∧ f.ssiBusy = true ∧ w.trail = false ∧ c.dbl = false ∧ (w.status.toNat &&& c.errMask) = 0 ∧
        c.jump = 0 ∧ c.wrap = false ∧ c.gray = false ∧ c.cntInv = false) ∧
    (∃ (s : State) (p : PortalId) (a : AxisId) (P : PortalState) (f : FbState) (c : FbCfg), s.portals.get p = P ∧ P.calm ∧ P.fbs.get a = f ∧
        P.fbCfg a = c ∧ c.kind ≠ 3) :=
  ⟨⟨onDies pQuadGate, 0, 0, (onDies pQuadGate).portals.get (0 : PortalId), ((onDies pQuadGate).portals.get (0 : PortalId)).fbs.get
        (0 : AxisId), ((onDies pQuadGate).portals.get (0 : PortalId)).fbCfg (0 : AxisId), rfl, calm_of (by decide +kernel), rfl, rfl,
        by decide +kernel⟩,
   ⟨onDies pQuadIdx, 0, 0, (onDies pQuadIdx).portals.get (0 : PortalId), ((onDies pQuadIdx).portals.get (0 : PortalId)).fbs.get
        (0 : AxisId), ((onDies pQuadIdx).portals.get (0 : PortalId)).fbCfg (0 : AxisId), true, rfl, calm_of (by decide +kernel), rfl, rfl,
        by decide +kernel⟩,
   ⟨onDies pQuadIdx, 0, 0, (onDies pQuadIdx).portals.get (0 : PortalId), ((onDies pQuadIdx).portals.get (0 : PortalId)).fbs.get
        (0 : AxisId), ((onDies pQuadIdx).portals.get (0 : PortalId)).fbCfg (0 : AxisId), rfl, calm_of (by decide +kernel), rfl, rfl,
        by decide +kernel⟩,
   ⟨onDies pDefault, 0, 0, (onDies pDefault).portals.get (0 : PortalId), ((onDies pDefault).portals.get (0 : PortalId)).fbs.get
        (0 : AxisId), ((onDies pDefault).portals.get (0 : PortalId)).fbCfg (0 : AxisId), rfl, calm_of (by decide +kernel), rfl, rfl,
        by decide +kernel⟩,
   ⟨onDies pSafeStopFast, 0, 0, (onDies pSafeStopFast).portals.get (0 : PortalId), ((onDies pSafeStopFast).portals.get
        (0 : PortalId)).fbs.get (0 : AxisId), ((onDies pSafeStopFast).portals.get (0 : PortalId)).fbCfg (0 : AxisId), rfl, calm_of
        (by decide +kernel), rfl, rfl, by decide +kernel⟩,
   ⟨onDies pSsiBad, 0, 0, (onDies pSsiBad).portals.get (0 : PortalId), ((onDies pSsiBad).portals.get (0 : PortalId)).fbs.get (0 : AxisId),
        ((onDies pSsiBad).portals.get (0 : PortalId)).fbCfg (0 : AxisId), rfl, calm_of (by decide +kernel), rfl, rfl, by decide +kernel⟩,
   ⟨onDies pSsiBusy, 0, 0, (onDies pSsiBusy).portals.get (0 : PortalId), ((onDies pSsiBusy).portals.get (0 : PortalId)).fbs.get
        (0 : AxisId), ((onDies pSsiBusy).portals.get (0 : PortalId)).fbCfg (0 : AxisId), ssiFrameV1, rfl, calm_of (by decide +kernel), rfl,
        rfl, by decide +kernel⟩,
   ⟨onDies pSsiBusy, 0, 0, (onDies pSsiBusy).portals.get (0 : PortalId), ((onDies pSsiBusy).portals.get (0 : PortalId)).fbs.get
        (0 : AxisId), ((onDies pSsiBusy).portals.get (0 : PortalId)).fbCfg (0 : AxisId), ssiFrameV2, rfl, calm_of (by decide +kernel), rfl,
        rfl, by decide +kernel⟩,
   ⟨onDies pDefault, 0, 0, (onDies pDefault).portals.get (0 : PortalId), ((onDies pDefault).portals.get (0 : PortalId)).fbs.get
        (0 : AxisId), ((onDies pDefault).portals.get (0 : PortalId)).fbCfg (0 : AxisId), rfl, calm_of (by decide +kernel), rfl, rfl,
        by decide +kernel⟩⟩

/-- Each premise of `Obligations.AxesAndFeedback` can be met. -/
theorem test_witness_AxesAndFeedback_part5 :
    (∃ (s : State) (p : PortalId) (a : AxisId) (P : PortalState) (f : FbState) (c : FbCfg) (sn : BitVec 12) (cs : BitVec 12),
        s.portals.get p = P ∧ P.calm ∧ P.fbs.get a = f ∧ P.fbCfg a = c ∧ c.kind = 3 ∧ 100 * (((sn.toInt - c.sinOfs) *
        (sn.toInt - c.sinOfs) + (cs.toInt - c.cosOfs) * (cs.toInt - c.cosOfs)).toNat) < c.wlo * (c.nom * c.nom)) ∧
    (∃ (s : State) (p : PortalId) (a : AxisId) (P : PortalState) (f : FbState) (c : FbCfg) (sn : BitVec 12) (cs : BitVec 12),
        s.portals.get p = P ∧ P.calm ∧ P.fbs.get a = f ∧ P.fbCfg a = c ∧ c.kind = 3 ∧ c.wlo * (c.nom * c.nom) ≤ 100 *
        (((sn.toInt - c.sinOfs) * (sn.toInt - c.sinOfs) + (cs.toInt - c.cosOfs) * (cs.toInt - c.cosOfs)).toNat) ∧ 100 *
        (((sn.toInt - c.sinOfs) * (sn.toInt - c.sinOfs) + (cs.toInt - c.cosOfs) * (cs.toInt - c.cosOfs)).toNat) ≤ c.whi * (c.nom * c.nom)) ∧
    (∃ (s : State) (p : PortalId) (a : AxisId) (P : PortalState) (f : FbState) (c : FbCfg) (st : _), s.portals.get p = P ∧ P.calm ∧
        P.fbs.get a = f ∧ P.fbCfg a = c ∧ c.kind ≠ 0 ∧ P.ob.stop = some st ∧ wbit st.axes a.val = true ∧ ((1 ≤ P.ob.envRun.get a ∧
        P.vEnv s.clock a st < |(f.observe c s.clock).vHat| * mkRat (P.axisCfg a).fbRatio 65536) ∨ 1 ≤ P.mon2.envRun.get a ∧
        P.vEnv s.clock a st < |((P.mon2.fbs.get a).observe c s.clock).vHat| * mkRat (P.axisCfg a).fbRatio 65536)) ∧
    (∃ (s : State) (p : PortalId) (a : AxisId) (P : PortalState) (f : FbState) (c : FbCfg) (e : _), s.portals.get p = P ∧ P.calm ∧
        P.fbs.get a = f ∧ P.fbCfg a = c ∧ (e = true ∨ (f.still = true ∧ (P.mon2.fbs.get a).still = true))) ∧
    (∃ (s : State) (p : PortalId) (a : AxisId) (P : PortalState) (f : FbState) (c : FbCfg), s.portals.get p = P ∧ P.calm ∧ P.fbs.get a = f ∧
        P.fbCfg a = c ∧ f.still = false ∧ P.ob.stop = none) ∧
    (∃ (s : State) (p : PortalId) (a : AxisId) (P : PortalState) (f : FbState) (c : FbCfg), s.portals.get p = P ∧ P.calm ∧ P.fbs.get a = f ∧
        P.fbCfg a = c ∧ (P.axes.get a).drive = .torqueOff) ∧
    (∃ (s : State) (p : PortalId) (a : AxisId) (P : PortalState) (f : FbState) (c : FbCfg), s.portals.get p = P ∧ P.calm ∧ P.fbs.get a = f ∧
        P.fbCfg a = c ∧ (P.axes.get a).drive ≠ .torqueOff) ∧
    (∃ (s : State) (p : PortalId) (a : AxisId) (P : PortalState) (f : FbState) (c : FbCfg) (v : Word), s.portals.get p = P ∧ P.calm ∧
        P.fbs.get a = f ∧ P.fbCfg a = c ∧ wbit v 31 = false) ∧
    (∃ (s : State) (p : PortalId) (a : AxisId) (P : PortalState) (f : FbState) (c : FbCfg) (v : Word), s.portals.get p = P ∧ P.calm ∧
        P.fbs.get a = f ∧ P.fbCfg a = c ∧ wbit v 31 = true ∧ f.pos ≠ f.cmpVal.toInt) :=
  ⟨⟨onDies pSincos, 0, 0, (onDies pSincos).portals.get (0 : PortalId), ((onDies pSincos).portals.get (0 : PortalId)).fbs.get (0 : AxisId),
        ((onDies pSincos).portals.get (0 : PortalId)).fbCfg (0 : AxisId), 0, 0, rfl, calm_of (by decide +kernel), rfl, rfl,
        by decide +kernel⟩,
   ⟨onDies pSincos, 0, 0, (onDies pSincos).portals.get (0 : PortalId), ((onDies pSincos).portals.get (0 : PortalId)).fbs.get (0 : AxisId),
        ((onDies pSincos).portals.get (0 : PortalId)).fbCfg (0 : AxisId), 0, 0x3E8, rfl, calm_of (by decide +kernel), rfl, rfl,
        by decide +kernel⟩,
   ⟨onDies pSafeStopFast, 0, 0, (onDies pSafeStopFast).portals.get (0 : PortalId), ((onDies pSafeStopFast).portals.get
        (0 : PortalId)).fbs.get (0 : AxisId), ((onDies pSafeStopFast).portals.get (0 : PortalId)).fbCfg (0 : AxisId),
        (((onDies pSafeStopFast).portals.get (0 : PortalId)).ob.stop).get (by decide +kernel), rfl, calm_of (by decide +kernel), rfl, rfl,
        by decide +kernel, (Option.some_get (by decide +kernel)).symm, by decide +kernel, .inl ⟨by decide +kernel, observe_gt
        (by decide +kernel) (by decide +kernel)⟩⟩,
   ⟨onDies pDefault, 0, 0, (onDies pDefault).portals.get (0 : PortalId), ((onDies pDefault).portals.get (0 : PortalId)).fbs.get
        (0 : AxisId), ((onDies pDefault).portals.get (0 : PortalId)).fbCfg (0 : AxisId), false, rfl, calm_of (by decide +kernel), rfl, rfl,
        by decide +kernel⟩,
   ⟨onDies pQuadUp, 0, 0, (onDies pQuadUp).portals.get (0 : PortalId), ((onDies pQuadUp).portals.get (0 : PortalId)).fbs.get (0 : AxisId),
        ((onDies pQuadUp).portals.get (0 : PortalId)).fbCfg (0 : AxisId), rfl, calm_of (by decide +kernel), rfl, rfl, by decide +kernel⟩,
   ⟨onDies pDefault, 0, 0, (onDies pDefault).portals.get (0 : PortalId), ((onDies pDefault).portals.get (0 : PortalId)).fbs.get
        (0 : AxisId), ((onDies pDefault).portals.get (0 : PortalId)).fbCfg (0 : AxisId), rfl, calm_of (by decide +kernel), rfl, rfl,
        by decide +kernel⟩,
   ⟨onDies pMotDue2, 0, 0, (onDies pMotDue2).portals.get (0 : PortalId), ((onDies pMotDue2).portals.get (0 : PortalId)).fbs.get
        (0 : AxisId), ((onDies pMotDue2).portals.get (0 : PortalId)).fbCfg (0 : AxisId), rfl, calm_of (by decide +kernel), rfl, rfl,
        by decide +kernel⟩,
   ⟨onDies pDefault, 0, 0, (onDies pDefault).portals.get (0 : PortalId), ((onDies pDefault).portals.get (0 : PortalId)).fbs.get
        (0 : AxisId), ((onDies pDefault).portals.get (0 : PortalId)).fbCfg (0 : AxisId), 0, rfl, calm_of (by decide +kernel), rfl, rfl,
        by decide +kernel⟩,
   ⟨onDies pQuadGate, 0, 0, (onDies pQuadGate).portals.get (0 : PortalId), ((onDies pQuadGate).portals.get (0 : PortalId)).fbs.get
        (0 : AxisId), ((onDies pQuadGate).portals.get (0 : PortalId)).fbCfg (0 : AxisId), 0x80000010, rfl, calm_of (by decide +kernel), rfl,
        rfl, by decide +kernel⟩⟩

/-- Each premise of `Obligations.AxesAndFeedback` can be met. -/
theorem test_witness_AxesAndFeedback_part6 :
    (∃ (s : State) (p : PortalId) (a : AxisId) (P : PortalState) (f : FbState) (c : FbCfg) (v : Word), s.portals.get p = P ∧ P.calm ∧
        P.fbs.get a = f ∧ P.fbCfg a = c ∧ wbit v 31 = true ∧ f.pos = f.cmpVal.toInt) ∧
    (∃ (s : State) (p : PortalId) (a : AxisId) (P : PortalState) (f : FbState) (c : FbCfg) (l : Fin 4), s.portals.get p = P ∧ P.calm ∧
        P.fbs.get a = f ∧ P.fbCfg a = c ∧ (f.passed = false ∨ wbit c.usedLines l.val = false)) ∧
    (∃ (s : State) (p : PortalId) (a : AxisId) (P : PortalState) (f : FbState) (c : FbCfg) (l : Fin 4), s.portals.get p = P ∧ P.calm ∧
        P.fbs.get a = f ∧ P.fbCfg a = c ∧ f.passed = true ∧ wbit c.usedLines l.val = true) ∧
    (∃ (s : State) (p : PortalId) (a : AxisId) (P : PortalState) (f : FbState) (c : FbCfg), s.portals.get p = P ∧ P.calm ∧ P.fbs.get a = f ∧
        P.fbCfg a = c ∧ (f.passed = false ∨ c.usesHall = false ∨ (f.hallCode ≠ 0 ∧ f.hallCode ≠ 7))) ∧
    (∃ (s : State) (p : PortalId) (a : AxisId) (P : PortalState) (f : FbState) (c : FbCfg), s.portals.get p = P ∧ P.calm ∧ P.fbs.get a = f ∧
        P.fbCfg a = c ∧ f.passed = true ∧ c.usesHall = true ∧ (f.hallCode = 0 ∨ f.hallCode = 7)) ∧
    (∃ (s : State) (p : PortalId) (P : PortalState), s.portals.get p = P ∧ P.calm ∧ holds P.units tagIOMP 8 = false) ∧
    (∃ (s : State) (p : PortalId) (x : Three FbFound) (P : PortalState), s.portals.get p = P ∧ P.calm ∧ holds P.units tagIOMP 8 = true ∧
        (∀ a, (P.axisCfg a).kind ≠ 0 → (P.fbs.get a).detected = false → (P.fbCfg a).kindByte = 1 ∧ (x.get a).quad = true)) ∧
    (∃ (s : State) (p : PortalId) (x : Three FbFound) (P : PortalState) (a : _), s.portals.get p = P ∧ P.calm ∧
        holds P.units tagIOMP 8 = true ∧ (P.axisCfg a).kind ≠ 0 ∧ (P.fbs.get a).detected = false ∧ (P.fbCfg a).kind = 1 ∧
        (x.get a).quad = false) :=
  ⟨⟨onDies pDefault, 0, 0, (onDies pDefault).portals.get (0 : PortalId), ((onDies pDefault).portals.get (0 : PortalId)).fbs.get
        (0 : AxisId), ((onDies pDefault).portals.get (0 : PortalId)).fbCfg (0 : AxisId), 0x80000010, rfl, calm_of (by decide +kernel), rfl,
        rfl, by decide +kernel⟩,
   ⟨onDies pDefault, 0, 0, (onDies pDefault).portals.get (0 : PortalId), ((onDies pDefault).portals.get (0 : PortalId)).fbs.get
        (0 : AxisId), ((onDies pDefault).portals.get (0 : PortalId)).fbCfg (0 : AxisId), 0, rfl, calm_of (by decide +kernel), rfl, rfl,
        by decide +kernel⟩,
   ⟨onDies pRich, 0, 0, (onDies pRich).portals.get (0 : PortalId), ((onDies pRich).portals.get (0 : PortalId)).fbs.get (0 : AxisId),
        ((onDies pRich).portals.get (0 : PortalId)).fbCfg (0 : AxisId), 0, rfl, calm_of (by decide +kernel), rfl, rfl, by decide +kernel⟩,
   ⟨onDies pDefault, 0, 0, (onDies pDefault).portals.get (0 : PortalId), ((onDies pDefault).portals.get (0 : PortalId)).fbs.get
        (0 : AxisId), ((onDies pDefault).portals.get (0 : PortalId)).fbCfg (0 : AxisId), rfl, calm_of (by decide +kernel), rfl, rfl,
        by decide +kernel⟩,
   ⟨onDies pHall7, 0, 0, (onDies pHall7).portals.get (0 : PortalId), ((onDies pHall7).portals.get (0 : PortalId)).fbs.get (0 : AxisId),
        ((onDies pHall7).portals.get (0 : PortalId)).fbCfg (0 : AxisId), rfl, calm_of (by decide +kernel), rfl, rfl, by decide +kernel⟩,
   ⟨onDies pDefault, 0, (onDies pDefault).portals.get (0 : PortalId), rfl, calm_of (by decide +kernel), by decide +kernel⟩,
   ⟨onDies pRich, 0, threeFbFoundV1, (onDies pRich).portals.get (0 : PortalId), rfl, calm_of (by decide +kernel), by decide +kernel⟩,
   ⟨onDies pUndetected, 0, threeFbFoundV2, (onDies pUndetected).portals.get (0 : PortalId), 0, rfl, calm_of (by decide +kernel),
        by decide +kernel⟩⟩

/-- Each premise of `Obligations.SafetyMonitorStopsAndLockout` can be met. -/
theorem test_witness_SafetyMonitorStopsAndLockout :
    (∃ (s : State) (p : PortalId) (P : PortalState), s.portals.get p = P ∧ P.por = false ∧ (∀ a, (P.axes.get a).trip = false) ∧
        P.link.outcomeWaits = false ∧ P.ob.lclrCount = true ∧ P.resetWhy p ≠ 0 ∧ P.ob.selftest = none) ∧
    (∃ (s : State) (p : PortalId) (P : PortalState), s.portals.get p = P ∧ P.por = false ∧ (∀ a, (P.axes.get a).trip = false) ∧
        P.link.outcomeWaits = false ∧ P.ob.lclrCount = true ∧ P.resetWhy p = 0) ∧
    (∃ (s : State) (p : PortalId) (P : PortalState), s.portals.get p = P ∧ P.calm ∧ P.movingAxes = [] ∧ (((P.ob.stop = none ∨
        P.ob.decided.fst = P.ob.decided.snd) ∧ P.ob.removed.fst = P.ob.removed.snd ∧ ∀ a, |P.ob.eff.get a - P.mon2.eff.get a| ≤ 20 ∧
        (P.fbs.get a).pos = (P.mon2.fbs.get a).pos))) ∧
    (∃ (s : State) (p : PortalId) (P : PortalState) (d : MonitorDiff), s.portals.get p = P ∧ P.calm ∧ P.ob.lockCause = 0 ∧
        d.nonCode = false ∧ 2 ≤ P.ob.runStop ∧ ((P.ob.removed.fst || d.torque.fst) ≠ (P.ob.removed.snd || d.torque.snd) ∨ (fun
        (R : PortalState) (stuck : BitVec 8) (mute was : Bool) => !mute &&
        ((P.ob.stop.isSome && was) || !(R.channelCauses P.edgesArmed stuck mute).isEmpty)) P d.stuck.fst d.mute.fst P.ob.decided.fst ≠ (fun
        (R : PortalState) (stuck : BitVec 8) (mute was : Bool) => !mute &&
        ((P.ob.stop.isSome && was) || !(R.channelCauses P.edgesArmed stuck mute).isEmpty))
        (P.upset d).asChan2 d.stuck.snd d.mute.snd P.ob.decided.snd)) ∧
    (∃ (s : State) (p : PortalId) (P : PortalState) (d : MonitorDiff) (a : AxisId), s.portals.get p = P ∧ P.calm ∧ P.ob.lockCause = 0 ∧
        d.nonCode = false ∧ 20 < |P.ob.eff.get a - (P.mon2.eff.get a + d.effort.get a)| ∧ 2 ≤ P.ob.runEff.get a) ∧
    (∃ (s : State) (p : PortalId) (P : PortalState) (d : MonitorDiff) (a : AxisId), s.portals.get p = P ∧ P.calm ∧ P.ob.lockCause = 0 ∧
        d.nonCode = false ∧ P.ob.runStop < 2 ∧ (∀ b, P.ob.runEff.get b < 2) ∧ (P.fbs.get a).pos ≠ (P.mon2.fbs.get a).pos + d.counter.get a ∧
        2 ≤ P.ob.runCnt.get a) ∧
    (∃ (s : State) (p : PortalId) (P : PortalState) (d : MonitorDiff), s.portals.get p = P ∧ P.calm ∧ d.nonCode = true) ∧
    (∃ (s : State) (p : PortalId) (P : PortalState) (d : MonitorDiff), s.portals.get p = P ∧ P.calm ∧ d.nonCode = false ∧
        ((P.ob.runStop < 2 ∧ ∀ a, P.ob.runEff.get a < 2 ∧ P.ob.runCnt.get a < 2)) ∧ P.ob.stop = none ∧ P.ob.reversal = none ∧
        (d.torque.fst = true ∨ d.torque.snd = true)) ∧
    (∃ (s : State) (p : PortalId) (P : PortalState), s.portals.get p = P ∧ P.calm ∧ P.ob.lockCause = 0 ∧ ((P.ob.runStop < 2 ∧ ∀ a,
        P.ob.runEff.get a < 2 ∧ P.ob.runCnt.get a < 2)) ∧ P.ob.stop = none ∧ P.edgesArmed = true ∧ P.swEdgePressed = true) :=
  ⟨⟨onDies pLclrCnt0, 0, (onDies pLclrCnt0).portals.get (0 : PortalId), rfl, by decide +kernel⟩,
   ⟨onDies pLclrCntLock, 0, (onDies pLclrCntLock).portals.get (0 : PortalId), rfl, by decide +kernel⟩,
   ⟨onDies pDefault, 0, (onDies pDefault).portals.get (0 : PortalId), rfl, calm_of (by decide +kernel), by decide +kernel⟩,
   ⟨onDies pMon2, 0, (onDies pMon2).portals.get (0 : PortalId), monitorDiffV1, rfl, calm_of (by decide +kernel), by decide +kernel⟩,
   ⟨onDies pMon2, 0, (onDies pMon2).portals.get (0 : PortalId), monitorDiffV2, 0, rfl, calm_of (by decide +kernel), by decide +kernel⟩,
   ⟨onDies pMon2cnt, 0, (onDies pMon2cnt).portals.get (0 : PortalId), monitorDiffV3, 1, rfl, calm_of (by decide +kernel),
        by decide +kernel⟩,
   ⟨onDies pDefault, 0, (onDies pDefault).portals.get (0 : PortalId), monitorDiffV4, rfl, calm_of (by decide +kernel), by decide +kernel⟩,
   ⟨onDies pDefault, 0, (onDies pDefault).portals.get (0 : PortalId), monitorDiffV5, rfl, calm_of (by decide +kernel), by decide +kernel⟩,
   ⟨onDies pSwEdgeC, 0, (onDies pSwEdgeC).portals.get (0 : PortalId), rfl, calm_of (by decide +kernel), by decide +kernel⟩⟩

/-- Each premise of `Obligations.SafetyMonitorStopsAndLockout` can be met. -/
theorem test_witness_SafetyMonitorStopsAndLockout_part2 :
    (∃ (s : State) (p : PortalId) (P : PortalState) (r : CrossReadings), s.portals.get p = P ∧ P.calm ∧
        (crossDiffers r.adc0.fst r.adc1.fst = false ∨ P.ob.runAdc.fst < 2) ∧ (crossDiffers r.adc0.snd r.adc1.snd = false ∨
        P.ob.runAdc.snd < 2)) ∧
    (∃ (s : State) (p : PortalId) (P : PortalState) (r : CrossReadings), s.portals.get p = P ∧ P.calm ∧ P.ob.lockCause = 0 ∧
        ((crossDiffers r.adc0.fst r.adc1.fst = true ∧ 2 ≤ P.ob.runAdc.fst) ∨ (crossDiffers r.adc0.snd r.adc1.snd = true ∧
        2 ≤ P.ob.runAdc.snd))) ∧
    (∃ (s : State) (p : PortalId) (P : PortalState), s.portals.get p = P ∧ P.calm ∧ (∀ u ∈ P.units, u.tag = tagENVL →
        crc32c u.bytes = u.crc)) ∧
    (∃ (s : State) (p : PortalId) (P : PortalState), s.portals.get p = P ∧ P.calm ∧ (∀ u ∈ P.units, u.tag ≠ tagENVL)) ∧
    (∃ (s : State) (p : PortalId) (P : PortalState) (b : _), s.portals.get p = P ∧ P.calm ∧ P.ob.lockCause = 0 ∧ (∃ u ∈ P.units,
        u.tag = tagENVL ∧ (b = true ∨ crc32c u.bytes ≠ u.crc))) ∧
    (∃ (s : State) (p : PortalId) (P : PortalState), s.portals.get p = P ∧ P.calm ∧ P.ob.selftest = none) ∧
    (∃ (s : State) (p : PortalId) (P : PortalState), s.portals.get p = P ∧ P.calm ∧ P.ob.lockCause = 0 ∧ P.ob.selftest = some .download) ∧
    (∃ (s : State) (p : PortalId) (P : PortalState), s.portals.get p = P ∧ P.calm ∧ P.ob.selftest ≠ none ∧ P.ob.selftest ≠ some .download) ∧
    (∃ (s : State) (p : PortalId) (P : PortalState) (e : Fin 2), s.portals.get p = P ∧ P.calm ∧ P.det.edgeUsed e = false) :=
  ⟨⟨onDies pDefault, 0, (onDies pDefault).portals.get (0 : PortalId), crossReadingsV1, rfl, calm_of (by decide +kernel), by decide +kernel⟩,
   ⟨onDies pMon2, 0, (onDies pMon2).portals.get (0 : PortalId), crossReadingsV2, rfl, calm_of (by decide +kernel), by decide +kernel⟩,
   ⟨onDies pDefault, 0, (onDies pDefault).portals.get (0 : PortalId), rfl, calm_of (by decide +kernel), by decide +kernel⟩,
   ⟨onDies pDefault, 0, (onDies pDefault).portals.get (0 : PortalId), rfl, calm_of (by decide +kernel), by decide +kernel⟩,
   ⟨onDies pRich, 0, (onDies pRich).portals.get (0 : PortalId), true, rfl, calm_of (by decide +kernel), by decide +kernel⟩,
   ⟨onDies pDefault, 0, (onDies pDefault).portals.get (0 : PortalId), rfl, calm_of (by decide +kernel), by decide +kernel⟩,
   ⟨onDies pStDownload, 0, (onDies pStDownload).portals.get (0 : PortalId), rfl, calm_of (by decide +kernel), by decide +kernel⟩,
   ⟨onDies pLockedRemote, 0, (onDies pLockedRemote).portals.get (0 : PortalId), rfl, calm_of (by decide +kernel), by decide +kernel⟩,
   ⟨onDies pDefault, 0, (onDies pDefault).portals.get (0 : PortalId), 0, rfl, calm_of (by decide +kernel), by decide +kernel⟩⟩

/-- Each premise of `Obligations.SafetyMonitorStopsAndLockout` can be met. -/
theorem test_witness_SafetyMonitorStopsAndLockout_part3 :
    (∃ (s : State) (p : PortalId) (P : PortalState) (e : Fin 2) (code : BitVec 14), s.portals.get p = P ∧ P.calm ∧ P.det.edgeUsed e = true ∧
        (¬(((fun y : EdgeState => y.sample P.det (P.det.thr e) (mkRat (code.toNat * 30518) 100000) P.edgesArmed P.link.time)
        (P.ob.edges.at2 e)).badRun = P.det.edgConf ∨ ((fun y : EdgeState => y.sample P.det (P.det.thr e) (mkRat
        (code.toNat * 30518) 100000) P.edgesArmed P.link.time) (P.mon2.edges.at2 e)).badRun = P.det.edgConf) ∨ P.det.edgConf = 0)) ∧
    (∃ (s : State) (p : PortalId) (P : PortalState) (e : Fin 2) (code : BitVec 14), s.portals.get p = P ∧ P.calm ∧ P.det.edgeUsed e = true ∧
        ((((fun y : EdgeState => y.sample P.det (P.det.thr e) (mkRat (code.toNat * 30518) 100000) P.edgesArmed P.link.time)
        (P.ob.edges.at2 e)).badRun = P.det.edgConf ∨ ((fun y : EdgeState => y.sample P.det (P.det.thr e) (mkRat
        (code.toNat * 30518) 100000) P.edgesArmed P.link.time) (P.mon2.edges.at2 e)).badRun = P.det.edgConf)) ∧ P.det.edgConf ≠ 0 ∧
        P.edgesArmed = false) ∧
    (∃ (s : State) (p : PortalId) (P : PortalState) (e : Fin 2) (code : BitVec 14), s.portals.get p = P ∧ P.calm ∧ P.det.edgeUsed e = true ∧
        ((((fun y : EdgeState => y.sample P.det (P.det.thr e) (mkRat (code.toNat * 30518) 100000) P.edgesArmed P.link.time)
        (P.ob.edges.at2 e)).badRun = P.det.edgConf ∨ ((fun y : EdgeState => y.sample P.det (P.det.thr e) (mkRat
        (code.toNat * 30518) 100000) P.edgesArmed P.link.time) (P.mon2.edges.at2 e)).badRun = P.det.edgConf)) ∧ P.det.edgConf ≠ 0 ∧
        P.edgesArmed = true ∧ P.ob.lockCause = 0) ∧
    (∃ (s : State) (p : PortalId) (P : PortalState) (a : AxisId), s.portals.get p = P ∧ P.calm ∧
        (fun a : AxisId => wbit P.ob.progArmed a.val || wbit P.mon2.progArmed a.val) a = false) ∧
    (∃ (s : State) (p : PortalId) (P : PortalState) (a : AxisId), s.portals.get p = P ∧ P.calm ∧
        (fun a : AxisId => wbit P.ob.progArmed a.val || wbit P.mon2.progArmed a.val) a = true ∧ P.ob.lockCause ≠ 0) ∧
    (∃ (s : State) (p : PortalId) (P : PortalState) (a : AxisId), s.portals.get p = P ∧ P.calm ∧
        (fun a : AxisId => wbit P.ob.progArmed a.val || wbit P.mon2.progArmed a.val) a = true ∧ P.ob.lockCause = 0 ∧ P.ob.stop = none ∧
        P.movingAxes = []) ∧
    (∃ (s : State) (p : PortalId) (P : PortalState) (a : AxisId), s.portals.get p = P ∧ P.calm ∧
        (fun a : AxisId => wbit P.ob.progArmed a.val || wbit P.mon2.progArmed a.val) a = true ∧ P.ob.lockCause = 0 ∧ P.movingAxes ≠ []) ∧
    (∃ (s : State) (p : PortalId) (P : PortalState) (a : AxisId) (st : SafeStop), s.portals.get p = P ∧ P.calm ∧ P.ob.stop = some st ∧
        (wbit st.axes a.val = false ∨ P.planDone s.clock a = false)) ∧
    (∃ (s : State) (p : PortalId) (P : PortalState) (a : AxisId) (st : SafeStop), s.portals.get p = P ∧ P.calm ∧ P.ob.stop = some st ∧
        wbit st.axes a.val = true ∧ P.planDone s.clock a = true) :=
  ⟨⟨onDies pEdgOk, 0, (onDies pEdgOk).portals.get (0 : PortalId), 0, 0, rfl, calm_of (by decide +kernel), by decide +kernel⟩,
   ⟨onDies pEdgBadR, 0, (onDies pEdgBadR).portals.get (0 : PortalId), 0, 0x3fff, rfl, calm_of (by decide +kernel), by decide +kernel⟩,
   ⟨onDies pEdgBadM, 0, (onDies pEdgBadM).portals.get (0 : PortalId), 0, 0x3fff, rfl, calm_of (by decide +kernel), by decide +kernel⟩,
   ⟨onDies pDefault, 0, (onDies pDefault).portals.get (0 : PortalId), 0, rfl, calm_of (by decide +kernel), by decide +kernel⟩,
   ⟨onDies pProgArmedLock, 0, (onDies pProgArmedLock).portals.get (0 : PortalId), 0, rfl, calm_of (by decide +kernel), by decide +kernel⟩,
   ⟨onDies pProgArmed, 0, (onDies pProgArmed).portals.get (0 : PortalId), 0, rfl, calm_of (by decide +kernel), by decide +kernel⟩,
   ⟨onDies pProgArmedRun, 0, (onDies pProgArmedRun).portals.get (0 : PortalId), 0, rfl, calm_of (by decide +kernel), by decide +kernel⟩,
   ⟨onDies pSafeStopStep, 0, (onDies pSafeStopStep).portals.get (0 : PortalId), 0, (((onDies pSafeStopStep).portals.get
        (0 : PortalId)).ob.stop).get (by decide +kernel), rfl, calm_of (by decide +kernel), (Option.some_get (by decide +kernel)).symm,
        by decide +kernel⟩,
   ⟨onDies pSafeStop, 0, (onDies pSafeStop).portals.get (0 : PortalId), 0, (((onDies pSafeStop).portals.get (0 : PortalId)).ob.stop).get
        (by decide +kernel), rfl, calm_of (by decide +kernel), (Option.some_get (by decide +kernel)).symm, by decide +kernel⟩⟩

/-- Each premise of `Obligations.SafetyMonitorStopsAndLockout` can be met. -/
theorem test_witness_SafetyMonitorStopsAndLockout_part4 :
    (∃ (s : State) (p : PortalId) (P : PortalState) (a : AxisId), s.portals.get p = P ∧ P.calm ∧ wbit P.ob.readback a.val = false ∧
        wbit P.ob.gateCheck a.val = false) ∧
    (∃ (s : State) (p : PortalId) (P : PortalState) (a : AxisId), s.portals.get p = P ∧ P.calm ∧ P.ob.lockCause = 0 ∧
        (wbit P.ob.readback a.val = true ∨ wbit P.ob.gateCheck a.val = true)) ∧
    (∃ (s : State) (p : PortalId) (P : PortalState), s.portals.get p = P ∧ P.calm ∧ P.ob.rest = none) ∧
    (∃ (s : State) (p : PortalId) (P : PortalState) (n : _), s.portals.get p = P ∧ P.calm ∧ P.ob.rest = some n ∧ (∀ c, P.prof
        (P.revOrder n).profile = some c → P.profReady c = false)) ∧
    (∃ (s : State) (p : PortalId) (P : PortalState) (n : _) (c : _), s.portals.get p = P ∧ P.calm ∧ P.ob.rest = some n ∧ P.prof
        (P.revOrder n).profile = some c ∧ P.profReady c = true ∧ P.supply.gateUv = false) ∧
    (∃ (s : State) (p : PortalId) (P : PortalState) (w : Word), s.portals.get p = P ∧ P.calm ∧ wbit w 31 = true ∧ P.dstate = 5 ∧
        P.released = true ∧ P.learnable (fget w 29 24) = true) ∧
    (∃ (s : State) (p : PortalId) (P : PortalState) (w : Word), s.portals.get p = P ∧ P.calm ∧ wbit w 31 = true ∧ (P.dstate ≠ 5 ∨
        P.released = false ∨ P.learnable (fget w 29 24) = false)) ∧
    (∃ (s : State) (p : PortalId) (P : PortalState) (w : Word), s.portals.get p = P ∧ P.calm ∧ wbit w 31 = false) :=
  ⟨⟨onDies pDefault, 0, (onDies pDefault).portals.get (0 : PortalId), 0, rfl, calm_of (by decide +kernel), by decide +kernel⟩,
   ⟨onDies pGateDue, 0, (onDies pGateDue).portals.get (0 : PortalId), 0, rfl, calm_of (by decide +kernel), by decide +kernel⟩,
   ⟨onDies pDefault, 0, (onDies pDefault).portals.get (0 : PortalId), rfl, calm_of (by decide +kernel), by decide +kernel⟩,
   ⟨onDies pRestUndet, 0, (onDies pRestUndet).portals.get (0 : PortalId), (((onDies pRestUndet).portals.get (0 : PortalId)).ob.rest).get
        (by decide +kernel), rfl, calm_of (by decide +kernel), (Option.some_get (by decide +kernel)).symm, forall_some (by decide +kernel)⟩,
   ⟨onDies pRest, 0, (onDies pRest).portals.get (0 : PortalId), (((onDies pRest).portals.get (0 : PortalId)).ob.rest).get
        (by decide +kernel), (((onDies pRest).portals.get (0 : PortalId)).prof (((onDies pRest).portals.get (0 : PortalId)).revOrder
        ((((onDies pRest).portals.get (0 : PortalId)).ob.rest).get (by decide +kernel))).profile).get (by decide +kernel), rfl, calm_of
        (by decide +kernel), (Option.some_get (by decide +kernel)).symm, (Option.some_get (by decide +kernel)).symm, by decide +kernel⟩,
   ⟨onDies pLinkDown, 0, (onDies pLinkDown).portals.get (0 : PortalId), 0x80100008, rfl, calm_of (by decide +kernel), by decide +kernel⟩,
   ⟨onDies pDefault, 0, (onDies pDefault).portals.get (0 : PortalId), 0x80100008, rfl, calm_of (by decide +kernel), by decide +kernel⟩,
   ⟨onDies pDefault, 0, (onDies pDefault).portals.get (0 : PortalId), 0x10004, rfl, calm_of (by decide +kernel), by decide +kernel⟩⟩

/-! ### The checks of WellFormed: one ill-formed command for each, which is refused -/

theorem test_wf_refuses_fuse_cell : Instr.wf (.fuseLoadComplete [⟨.factory, 6908, 0, .reads true⟩]) = false := by decide

theorem test_wf_refuses_delay_bit :
    Instr.wf (.awlTestComplete ⟨0, some 4294967296, false, false, false⟩ ⟨0, none, false, false, false⟩ false) = false := by decide

theorem test_wf_refuses_selftest_run :
    Instr.wf (.deviceSelftestComplete ⟨0, none, false, false, false⟩ ⟨0, some 4294967296, false, false, false⟩ false (.all false)) = false ∧
      Instr.wf (.dormantReturnComplete ⟨0, some 4294967296, false, false, false⟩ ⟨0, none, false, false, false⟩ false true) = false ∧
      Instr.wf (.pairAwlComplete ⟨0, some 4294967296, false, false, false⟩ false) = false := by decide

theorem test_wf_refuses_flash_device :
    Instr.wf (.flashReady (some ⟨true, 1, 256, 1⟩)) = false ∧ Instr.wf (.flashReady (some ⟨true, 2, 50, 1⟩)) = false := by decide

theorem test_wf_refuses_node_on_the_host_port :
    Instr.wf (.psmCmdArm ⟨.host, 1⟩ 0) = false ∧ Instr.wf (.executeOff ⟨.host, 1⟩ none) = false := by decide

theorem test_wf_refuses_event_frame :
    Instr.wf (.eventFrameReceived 0 ⟨0, 0⟩ ⟨0, 0x10, 0, 0, 0, List.replicate 6 0⟩) = false ∧
      Instr.wf (.tallyCurtainEvent 0 ⟨⟨0, 0x10, 4, 0, 0, []⟩, false⟩) = false ∧ Instr.wf (.tallyCurtainEvent 0 ⟨⟨0, 0x10, 0, 2, 0, []⟩, false⟩) = false := by decide

theorem test_wf_refuses_sample_frame :
    Instr.wf (.sampleFrameReceived 0 ⟨0, 0⟩ ⟨⟨8, 0, [], [], []⟩, 0, false, false⟩) = false ∧ Instr.wf (.sampleFrameReceived 0 ⟨0, 0⟩ ⟨⟨2, 0, [1], [], []⟩, 0, false, false⟩) = false ∧
      Instr.wf (.sampleFrameReceived 0 ⟨0, 0⟩ ⟨⟨1, 0, List.replicate 17 0, [], []⟩, 0, false, false⟩) = false := by decide

theorem test_wf_refuses_config_frame :
    Instr.wf (.configRead 0 ⟨0, 0⟩ ⟨1, 0, 0, 0, 0, List.replicate 257 0, {}⟩) = false := by decide +kernel

theorem test_wf_refuses_can_frame :
    Instr.wf (.canFrameReceived .a ⟨⟨false, false, false, false, false, 1, 0, []⟩, false, 0, []⟩) = false ∧
      Instr.wf (.canFrameReceived .a ⟨⟨false, true, true, false, false, 0, 0, []⟩, false, 0, []⟩) = false ∧
      Instr.wf (.canFrameReceived .a ⟨⟨false, false, false, true, false, 0, 0, []⟩, false, 0, []⟩) = false ∧
      Instr.wf (.canFrameReceived .a ⟨⟨false, false, false, false, false, 0, 2, [1]⟩, false, 0, []⟩) = false := by decide

theorem test_wf_refuses_request_length :
    Instr.wf (.spiWrite ⟨2, 0x3000, 8, 0, [1], 0, false⟩) = false ∧ Instr.wf (.spiRead ⟨1, 0x3000, 4, 0, [1], 0, false⟩) = false := by decide

theorem test_wf_refuses_payload :
    Instr.wf (.nelzilHelloReceived .canA 1 (List.replicate 65 0)) = false ∧ Instr.wf (.curtainBeamFrame 0 0 (List.replicate 27 0)) = false := by
  decide +kernel

theorem test_wf_refuses_store_word :
    Instr.wf (.storeScrub [2] []) = false ∧ Instr.wf (.storeScrub [] [4194304]) = false := by decide

theorem test_wf_refuses_stripe_block : Instr.wf (.scrubRead [18]) = false := by decide

theorem test_wf_accepts :
    Instr.wf (.fuseLoadComplete [⟨.factory, 6907, 0, .reads true⟩]) = true ∧ Instr.wf (.psmCmdArm ⟨.canA, 1⟩ 0) = true ∧
      Instr.wf (.spiWrite ⟨2, 0x3000, 4, 0, [1], 0, false⟩) = true ∧ Instr.wf (.scrubRead [0, 17]) = true ∧
      Instr.wf (.canFrameReceived .b ⟨⟨true, false, true, true, false, 1, 9, List.replicate 12 0⟩, false, 0, []⟩) = true := by decide

/-! ### The command table has no bits, and the manual's own values -/

/-- The table gives no row any bits: no word spells a command, and `withFetchWord` leaves every state as it is. -/
theorem test_no_word_spells_a_command (s : State) (n w : Nat) : decodeTableWord n w = none ∧ s.withFetchWord n w = s := ⟨rfl, rfl⟩

/-- "123456789" in ASCII, over which the manual gives its check values. -/
def nineDigits : List Byte := [0x31, 0x32, 0x33, 0x34, 0x35, 0x36, 0x37, 0x38, 0x39]

/-- R85 gives 0xE306_9283. -/
theorem test_crc32c_check_value : crc32c nineDigits = 0xE3069283 := by decide +kernel

/-- R401 gives 0xCBF4_3926. -/
theorem test_crc32_check_value : crc32 nineDigits = 0xCBF43926 := by decide +kernel

/-- R365 gives 0x29B1. -/
theorem test_crc16_check_value : crc16 nineDigits = 0x29B1 := by decide +kernel

/-- Products of FIPS 197, section 4.2, and the substitution of 0x53 that its section 5.1.1 gives. -/
theorem test_aes_arithmetic : aesMul 0x57 0x83 = 0xC1 ∧ aesMul 0x57 0x13 = 0xFE ∧ aesSub 0x53 = 0xED ∧ aesSub 0 = 0x63 := by decide +kernel

/-- What is written of a seal block is read back (R468). -/
theorem test_seal_block_reads_back :
    let b : SealBlock := { gen := 3, isSealed := true, evt := 2, imgVer := 7, imgCrc := 0x12345678, wrapped := List.replicate 40 0x5A, pub := 9 }
    readSeal b.bytes = some b ∧ readSeal (b.bytes.set 5 1) = none := by decide +kernel

/-- What is written of a superblock is read back (R452). -/
theorem test_superblock_reads_back :
    let b : Superblock := { gen := 3, uid := 5, recordMib := 100, nextIndex := 70, durable := 64, cycles := ⟨1, 2, 3, 4⟩, logSeq := 9 }
    readSuperblock b.bytes = some b ∧ readSuperblock (b.bytes.set 8 1) = none := by decide +kernel

/-- After R51 the manual gives these words: SERVICE, MAINTAIN and a pair-scope SELFTEST, arm and execute. -/
theorem test_psm_words :
    armWordOf 5 0 = 0xC5000050 ∧ ~~~armWordOf 5 0 = 0x3AFFFFAF ∧ armWordOf 6 0 = 0xC5000060 ∧ ~~~armWordOf 6 0 = 0x3AFFFF9F ∧
      armWordOf 7 1 = 0xC5000078 ∧ ~~~armWordOf 7 1 = 0x3AFFFF87 := by decide

/-- After R14 the manual computes that address 0x0001_9100 begins the feedback registers of axis 2.1. -/
theorem test_feedback_registers_of_axis_2_1 : portalWord 0x19100 = some (2, 0x1100) := by decide

/-- With PRESET 1 and UNIT 0 an on-delay rises two ticks after the tick whose presentation raised its input (after R90): the first tick
that samples the input starts it, the next raises it. -/
theorem test_on_delay_of_one_tick :
    ((({} : TimerState).tick ⟨1, 1⟩ true).out, ((({} : TimerState).tick ⟨1, 1⟩ true).tick ⟨1, 1⟩ true).out) = (false, true) := by decide

/-- Reset holds the block as R36 leaves it after power-on: no pair is admitted, and a command waits for nothing. -/
theorem test_reset_is_empty : State.reset.pending = [] ∧ State.reset.admittedPairs = 0 ∧ State.reset.portAlive = false := by decide +kernel

end Sys2Proof.Tests
end

section
/-! The host die at reset, its release, and RESET_N or a failing supply. -/

namespace Sys2Proof.Machine

/-! ### What is settled at the host die -/

/-- A command that is settled at the host die runs, and what holds of the state that `commit` makes holds after it. -/
theorem Runs.of_settled {c : Instr} {s t : State} {Q : State → Prop} (h : exec c s = settled s t) (hq : Q (s.commit t)) : Runs c s Q :=
  ⟨_, h, hq⟩

/-! ### Values at reset -/

theorem reset_can (c : CanId) : State.reset.can c = {} := by cases c <;> rfl

theorem reset_portal (p : PortalId) : State.reset.portals.get p = {} := Four.get_all _ p

theorem fresh_axis (a : AxisId) : ({} : PortalState).axes.get a = {} := Three.get_all _ a

/-- Settles O4: the host die's values are the fields of the reset state; every controller, portal die and axis is the fresh one. -/
theorem resetValues : Obligations.ResetValues := by
  refine ⟨rfl, rfl, rfl, by decide, rfl, rfl, rfl, rfl, rfl, rfl, rfl, fun c => ?_, fun p a => ?_⟩
  · rw [reset_can]
    exact ⟨rfl, rfl⟩
  · rw [reset_portal, fresh_axis]
    exact ⟨rfl, rfl, rfl⟩

/-! ### Reset and release of the host die -/

theorem exec_porRelease (s : State) : exec .porRelease s = settled s s.porRelease := rfl

theorem exec_resetNRelease (s : State) : exec .resetNRelease s = settled s s.resetRelease := rfl

theorem exec_resetNAssert (s : State) : exec .resetNAssert s = settled s s.resetAssert := rfl

theorem exec_hostSupplyUndervoltage (r : HostRail) (s : State) : exec (.hostSupplyUndervoltage r) s = settled s (s.railLost r) := rfl

theorem porRelease_eq {s : State} (hp : s.psm.porHeld = true) (hr : s.psm.resetLow = false) : s.porRelease = s.startUp false := by
  simp [State.porRelease, hp, hr]

theorem resetRelease_eq {s : State} (hp : s.psm.porHeld = false) (hr : s.psm.resetLow = true) : s.resetRelease = s.startUp true := by
  simp [State.resetRelease, hp, hr]

/-- The begin of start-up changes the PSM alone, and what follows the command leaves the PSM as it is. -/
theorem commit_startUp_psm {s : State} (rstPin : Bool) (hp : s.portFree) :
    (s.commit (s.startUp rstPin)).psm =
      { s.psm with porHeld := false, resetLow := false, step := .fuseLoad, boot := bitIf 31 rstPin, bootFrom := s.clock } :=
  commit_psm' s (s.startUp rstPin) hp

/-- Back in BOOT neither the tally island's check of the seal nor a step of device time is made. -/
theorem stateLeft_of_inBoot {t : State} (hb : t.inBoot = true) (hw : t.time.stepPend = none) : t.stateLeft = t := by
  have hisl : t.tallyWaiting = t := by simp [State.tallyWaiting, hb]
  simp [State.stateLeft, State.stepWaiting, hisl, hw]

/-- What follows a command that leads to BOOT writes no flash. -/
theorem commit_harn_of_inBoot (s : State) {t : State} (hp : t.port.pending = none) (hb : t.inBoot = true) (hw : t.time.stepPend = none) :
    (s.commit t).harn = t.harn := by
  obtain ⟨u, hu, e⟩ := commit_eq s t hp
  rw [stateLeft_of_inBoot hb hw, ite_self] at hu
  obtain ⟨-, -, -, hharn, -⟩ := hu.fields
  rw [e, State.interrupts_harn]
  exact hharn

/-- The host die stands in POR or reset as `x` gives it, every portal die, the flash, the eMMC medium and the queue as they were in `s`. -/
structure BackInReset (s : State) (x : PsmState) (t : State) : Prop where
  psm : t.psm = x
  portals : t.portals = s.portals
  harn : t.harn = { flash := s.harn.flash }
  medium : t.arch.medium = s.arch.medium
  time : t.time = {}
  irqEn : t.irqEn = 1
  pending : t.pending = s.pending

/-- What follows the command keeps a host die that is back in reset so. -/
theorem BackInReset.commit {s t : State} {x : PsmState} (h : BackInReset s x t) (hp : t.port.pending = none) (hx : x.state = .boot) :
    BackInReset s x (s.commit t) where
  psm := (commit_psm' s t hp).trans h.psm
  portals := (commit_portals' s t hp).trans h.portals
  harn := (commit_harn_of_inBoot s hp (by simp [State.inBoot, h.psm, hx]) (by rw [h.time])).trans h.harn
  medium := (congrArg ArchState.medium (commit_arch' s t hp)).trans h.medium
  time := (commit_time' s t hp (by rw [h.time])).trans h.time
  irqEn := (commit_irqEn' s t hp).trans h.irqEn
  pending := (commit_pending' s t hp).trans h.pending

/-- A command whose own effect brings the host die back to reset leaves it there. -/
theorem BackInReset.runs {c : Instr} {s t : State} {x : PsmState} (h : BackInReset s x t) (hc : exec c s = settled s t)
    (hp : t.port.pending = none) (hx : x.state = .boot) :
    Runs c s fun t => t.psm = x ∧ t.portals = s.portals ∧ t.harn = { flash := s.harn.flash } ∧ t.arch.medium = s.arch.medium ∧
      t.time = {} ∧ t.irqEn = 1 ∧ t.pending = s.pending :=
  have k := h.commit hp hx
  .of_settled hc ⟨k.psm, k.portals, k.harn, k.medium, k.time, k.irqEn, k.pending⟩

theorem backInReset_resetAssert (s : State) :
    BackInReset s { ({} : PsmState) with porHeld := s.psm.porHeld, resetLow := true } s.resetAssert :=
  ⟨rfl, rfl, rfl, rfl, rfl, rfl, rfl⟩

theorem backInReset_supplyLost (s : State) : BackInReset s { ({} : PsmState) with resetLow := s.psm.resetLow } s.supplyLost :=
  ⟨rfl, rfl, rfl, rfl, rfl, rfl, rfl⟩

/-- Whichever supply fails: VDD33 restarts the tally island besides. -/
theorem backInReset_railLost (s : State) (r : HostRail) : BackInReset s { ({} : PsmState) with resetLow := s.psm.resetLow } (s.railLost r) := by
  have h := backInReset_supplyLost s
  unfold State.railLost
  split
  · exact ⟨h.psm, h.portals, h.harn, h.medium, h.time, h.irqEn, h.pending⟩
  · exact h

theorem railLost_port (s : State) (r : HostRail) : (s.railLost r).port = {} := by
  unfold State.railLost
  split <;> rfl

/-- Settles O9: start-up changes the PSM alone, and a host die that is back in reset stays so by what follows the command. -/
theorem resetAndReleaseOfHostDie : Obligations.ResetAndReleaseOfHostDie := by
  refine ⟨fun s hp hr hf => ?_, fun s hp hr hf => ?_, fun s => ?_, fun s r => ?_⟩
  · exact .of_settled (exec_porRelease s) (by rw [porRelease_eq hp hr]; exact commit_startUp_psm false hf)
  · exact .of_settled (exec_resetNRelease s) (by rw [resetRelease_eq hp hr]; exact commit_startUp_psm true hf)
  · exact (backInReset_resetAssert s).runs (exec_resetNAssert s) rfl rfl
  · exact (backInReset_railLost s r).runs (exec_hostSupplyUndervoltage r s) (by rw [railLost_port]) rfl

end Sys2Proof.Machine
end

section
/-! Writes of the IRQ block, flag by flag. -/

namespace Sys2Proof.Machine

/-- Outside the portal blocks and the TALLY window REGISTER_WRITE is the write of the host die's register, where the port serves the address. -/
theorem exec_registerWrite_host {s : State} {addr : Word} (v raced : Word) (ha : s.portAlive = true) (hs : s.serves addr.toNat = true)
    (h4 : addr.toNat % 4 = 0) (hp : portalWord addr.toNat = none) (ht : ¬(0x70000 ≤ addr.toNat ∧ addr.toNat < 0x71000)) :
    exec (.registerWrite addr v raced) s = .next (s.commit (s.hostWrite addr.toNat v raced).state) := by
  have hw : s.registerWrite addr.toNat v raced = (s.hostWrite addr.toNat v raced).state := by
    simp [State.registerWrite, State.writeWord, ha, hs, h4, hp, ht]
  exact congrArg (settled s) hw

theorem hostWrite_irqStat (s : State) (v rc : Word) :
    (s.hostWrite (0x3000 : Word).toNat v rc).state = { s with irqStat := w1c s.irqStat v rc 0xFFFF } := rfl

theorem hostWrite_irqEn (s : State) (v rc : Word) :
    (s.hostWrite (0x3004 : Word).toNat v rc).state = { s with irqEn := wrw s.irqEn v 0xFFFF } := rfl

/-- IRQ_PEND only reads (R6). -/
theorem hostWrite_irqPend (s : State) (v rc : Word) : (s.hostWrite (0x3008 : Word).toNat v rc).state = s := rfl

/-- A command that changes IRQ_STAT and IRQ_EN alone: no flag of a block rises. -/
theorem commit_irqOnly (s : State) (w e : Word) :
    s.commit { s with irqStat := w, irqEn := e } = { s with irqStat := w, irqEn := e, port := { s.port with hrdy := s.ready } } := by
  rw [commit_still _ _ (by simp [State.sameTraffic])]
  simp [State.interrupts, irqRises, State.ready, State.portAlive]

/-- The sixteen low bits: the flags of IRQ_STAT and their enables. -/
theorem wbit_lowHalf (i : Nat) : wbit (0xFFFF : Word) i = decide (i < 16) := by
  have h : (0xFFFF : Word) = BitVec.ofNat 32 (2 ^ 16 - 1) := rfl
  rw [h, wbit, BitVec.getLsbD_ofNat, Nat.testBit_two_pow_sub_one]
  by_cases g : i < 16
  · simp [g, Nat.lt_trans g]
  · simp [g]

theorem wbit_w1c_lowHalf (w v raced : Word) (i : Nat) :
    wbit (w1c w v raced 0xFFFF) i = if i < 16 then (wbit w i && !wbit v i) || wbit raced i else wbit w i := by
  rw [wbit_w1c, wbit_lowHalf]
  by_cases h : i < 16 <;> simp [h]

theorem wbit_wrw_lowHalf (w v : Word) (i : Nat) : wbit (wrw w v 0xFFFF) i = if i < 16 then wbit v i else wbit w i := by
  rw [wbit_wrw, wbit_lowHalf]
  by_cases h : i < 16 <;> simp [h]

/-- Settles O21: each of the three words is written as `hostWrite` says, and no interrupt follows. -/
theorem registerWriteFlags : Obligations.RegisterWriteFlags := by
  refine ⟨fun s v raced ha hs => ⟨?_, wbit_w1c_lowHalf s.irqStat v raced⟩, fun s v raced ha hs => ?_, fun s v raced ha hs => ?_⟩
  · rw [exec_registerWrite_host (addr := 0x3000) v raced ha hs (by decide) (by decide) (by decide), hostWrite_irqStat, commit_irqOnly s _ s.irqEn]
  · refine ⟨_, exec_registerWrite_host v raced ha hs (by decide) (by decide) (by decide), ?_⟩
    rw [hostWrite_irqEn, commit_irqOnly s s.irqStat]
    exact ⟨rfl, wbit_wrw_lowHalf s.irqEn v⟩
  · rw [exec_registerWrite_host (addr := 0x3008) v raced ha hs (by decide) (by decide) (by decide), hostWrite_irqPend, commit_self]

end Sys2Proof.Machine
end

section
/-! WRITE transactions of the host port: the run over the words, and the word that a portal die has to answer. -/

namespace Sys2Proof.Machine

/-! ### Addresses outside every block -/

/-- No block of the map holds the address: there is no register to write. -/
theorem hostWriteAt_noBlock (s : State) {a : Nat} (v rc : Word) (h : noBlock a = true) : s.hostWriteAt a v rc = none := by
  simp only [noBlock, Bool.or_eq_true, decide_eq_true_eq] at h
  obtain ((((h | h) | h) | h) | h) | h := h <;>
    simp (disch := omega) only [State.hostWriteAt, ↓if_pos, ↓if_neg, ↓dif_neg]

/-- Nor is there one to read. -/
theorem hostRead_noBlock (s : State) {a : Nat} (h : noBlock a = true) : s.hostRead a = none := by
  simp only [noBlock, Bool.or_eq_true, decide_eq_true_eq] at h
  obtain ((((h | h) | h) | h) | h) | h := h <;>
    simp (disch := omega) only [State.hostRead, ↓if_pos, ↓if_neg, ↓dif_neg]

/-- Every state but OFF answers there as for any undecoded word (R7). -/
theorem serves_noBlock {s : State} {a : Nat} (h : noBlock a = true) (hs : s.psm.state ≠ .off) : s.serves a = true := by
  unfold State.serves
  cases hstate : s.psm.state
  case off => exact absurd hstate hs
  all_goals simp [h]

theorem writeWord_noBlock {s : State} {a : Nat} (v rc : Word) (h : noBlock a = true) (hs : s.psm.state ≠ .off) :
    s.writeWord a v rc = ⟨s, 1⟩ := by
  have ht : ¬(0x70000 ≤ a ∧ a < 0x71000) := by
    simp only [noBlock, Bool.or_eq_true, decide_eq_true_eq] at h
    omega
  simp [State.writeWord, State.hostWrite, ht, serves_noBlock h hs, hostWriteAt_noBlock s v rc h, hostRead_noBlock s h]

/-! ### What the checks before any word let through -/

/-- The burst of a request before its first word. -/
def burstStart (r : SpiRequest) : SpiPending :=
  { req := r, index := 0, data := [], status := 0, failIdx := none, undecoded := false, done := 0 }

/-- A WRITE that no check rejects is the run over its words. -/
theorem exec_spiWrite_run {s : State} {r : SpiRequest} (ha : s.portAlive = true) (hf : s.portFree) (hok : requestOk r = true)
    (hc : r.cmd = 2) (hrej : reqRejected r = 0) (hrep : s.repeated r = none) :
    exec (.spiWrite r) s = settled s (spiRun (reqWords r) s (burstStart r)) := by
  have hw : s.spiWriteCmd r = spiRun (reqWords r) s (burstStart r) := by
    simp [State.spiWriteCmd, State.spiTake, State.spiBurst, burstStart, ha, hf, hok, hc, hrej, hrep]
  exact congrArg (settled s) hw

/-! ### The run over words that the host die serves -/

/-- One word of a WRITE: the state after it, and its code behind those of the words before. -/
def writeStep (r : SpiRequest) (y : State × List Nat) (i : Nat) : State × List Nat :=
  let w := y.1.writeWord (reqAddr r i) (r.payload.getD i 0) 0
  (w.state, y.2 ++ [w.status])

/-- The code of a word says that it failed: it is neither done nor undecoded. -/
def wordFails (k : Nat) : Bool := decide (1 < k)

/-- Burst `x` of request `r` has settled words with these codes. -/
structure Settled (r : SpiRequest) (codes : List Nat) (x : SpiPending) : Prop where
  req : x.req = r
  index : x.index = codes.length
  status : x.status = BitVec.ofNat 8 ((codes.find? wordFails).getD 0)
  failIdx : x.failIdx = codes.findIdx? wordFails
  undecoded : x.undecoded = codes.contains 1

theorem settled_burstStart (r : SpiRequest) : Settled r [] (burstStart r) := ⟨rfl, rfl, rfl, rfl, rfl⟩

/-- A word that is done, or undecoded, leaves the status and the place of the first word that failed. -/
theorem Settled.settle_passes {r : SpiRequest} {codes : List Nat} {x : SpiPending} {k : Nat} (h : Settled r codes x) (hk : k ≤ 1) :
    Settled r (codes ++ [k]) (x.settle 0 0 (decide (1 = k))) := by
  obtain ⟨hreq, hindex, hstatus, hfail, hund⟩ := h
  have hw : wordFails k = false := by simpa [wordFails] using hk
  refine ⟨hreq, by simp [SpiPending.settle, hindex], ?_, ?_, ?_⟩
  · simp [SpiPending.settle, hstatus, List.find?_append, hw]
  · simp [SpiPending.settle, hfail, List.findIdx?_append, hw]
  · simp [SpiPending.settle, hund]

/-- A word that fails is the one reported, unless one before it has failed. -/
theorem Settled.settle_fails {r : SpiRequest} {codes : List Nat} {x : SpiPending} {k : Nat} (h : Settled r codes x) (hk : 1 < k) :
    Settled r (codes ++ [k]) (x.settle k 0 false) := by
  obtain ⟨hreq, hindex, hstatus, hfail, hund⟩ := h
  have hw : wordFails k = true := by simpa [wordFails] using hk
  have hk0 : k ≠ 0 := by omega
  have hk1 : k ≠ 1 := by omega
  have hnone : x.failIdx = none ↔ codes.find? wordFails = none := by
    rw [hfail, List.findIdx?_eq_none_iff, List.find?_eq_none]
    simp
  refine ⟨hreq, by simp [SpiPending.settle, hindex], ?_, ?_, by simp [SpiPending.settle, hund, hk1.symm]⟩
  · cases hc : codes.find? wordFails with
    | none => simp [SpiPending.settle, hnone.mpr hc, List.find?_append, hc, hw, hk0]
    | some c =>
      have hsome : x.failIdx ≠ none := by simp [hnone, hc]
      simp [SpiPending.settle, hsome, hstatus, List.find?_append, hc]
  · cases hc : codes.findIdx? wordFails with
    | none => simp [SpiPending.settle, hfail, hc, List.findIdx?_append, hw, hk0, hindex]
    | some c => simp [SpiPending.settle, hfail, hc, List.findIdx?_append]

/-- What `hostWord` settles for a word of a WRITE with code `k`. -/
theorem Settled.settle_code {r : SpiRequest} {codes : List Nat} {x : SpiPending} (h : Settled r codes x) (k : Nat) :
    Settled r (codes ++ [k]) (if k = 1 then x.settle 0 0 true else x.settle k 0 false) := by
  obtain rfl | rfl | hk : k = 0 ∨ k = 1 ∨ 1 < k := by omega
  · exact h.settle_passes (k := 0) (by decide)
  · exact h.settle_passes (k := 1) (by decide)
  · rw [if_neg (by omega)]
    exact h.settle_fails hk

/-- A word of a WRITE that the host die serves: its register is written, and its code settled. -/
theorem hostWord_write {s : State} {r : SpiRequest} {codes : List Nat} {x : SpiPending} (hc : r.cmd = 2) (h : Settled r codes x) :
    (s.hostWord x (reqAddr r x.index)).1 = (writeStep r (s, codes) x.index).1 ∧
      Settled r (writeStep r (s, codes) x.index).2 (s.hostWord x (reqAddr r x.index)).2 := by
  simp only [State.hostWord, writeStep, h.req, hc, ↓reduceIte, true_and]
  exact h.settle_code _

/-- The run over the `m` last words of a WRITE whose words the host die serves, the others being settled. -/
theorem spiRun_write {r : SpiRequest} (hc : r.cmd = 2) (hw : ∀ i, i < reqWords r → portalWord (reqAddr r i) = none) (m : Nat) :
    ∀ (y : State × List Nat) (x : SpiPending), Settled r y.2 x → x.index + m = reqWords r →
      ∃ z, Settled r ((List.range' x.index m).foldl (writeStep r) y).2 z ∧
        spiRun m y.1 x = ((List.range' x.index m).foldl (writeStep r) y).1.finishSpi z := by
  induction m with
  | zero => exact fun y x h _ => ⟨x, h, rfl⟩
  | succ m ih =>
    intro y x h hm
    have hlt : x.index < reqWords r := by omega
    obtain ⟨hstate, hnext⟩ := hostWord_write (s := y.1) hc h
    have hindex : (y.1.hostWord x (reqAddr r x.index)).2.index = x.index + 1 := by
      rw [hnext.index, h.index]
      simp [writeStep]
    obtain ⟨z, hz, hrun⟩ := ih (writeStep r y x.index) _ hnext (by omega)
    refine ⟨z, ?_, ?_⟩
    · rw [List.range'_succ, List.foldl_cons, ← hindex]
      exact hz
    · rw [List.range'_succ, List.foldl_cons, ← hindex, ← hrun]
      simp only [spiRun, h.req, if_neg (Nat.not_le.mpr hlt), hw _ hlt, hstate]

/-- What a WRITE of words that the host die serves comes to: the state, and the codes of the words. -/
def wordsWritten (r : SpiRequest) (s : State) : State × List Nat := (List.range (reqWords r)).foldl (writeStep r) (s, [])

/-- The run over all the words of a WRITE that the host die serves ends with the response to their codes. -/
theorem spiRun_burstStart_write {s : State} {r : SpiRequest} (hc : r.cmd = 2) (hw : ∀ i, i < reqWords r → portalWord (reqAddr r i) = none) :
    ∃ z, Settled r (wordsWritten r s).2 z ∧ spiRun (reqWords r) s (burstStart r) = (wordsWritten r s).1.finishSpi z := by
  rw [wordsWritten, List.range_eq_range']
  exact spiRun_write hc hw (reqWords r) (s, []) (burstStart r) (settled_burstStart r) (Nat.zero_add _)

/-! ### The response -/

/-- The response to a WRITE whose words have settled with these codes (R403, R404). -/
structure Answers (r : SpiRequest) (codes : List Nat) (x : SpiResponse) : Prop where
  seq : x.seq = r.seq
  data : x.data = []
  status : x.status = BitVec.ofNat 8 ((codes.find? wordFails).getD 0)
  failIdx : x.failIdx = BitVec.ofNat 8 (min 255 ((codes.findIdx? wordFails).getD 0))
  undecoded : x.flags.getLsbD 1 = codes.contains 1

/-- FLAGS of a response: neither IRQ nor PARTIAL stands at the place of UNDECODED. -/
theorem flags_undecoded (s : State) (u : Bool) (p : Prop) [Decidable p] :
    (s.irqFlag ||| (if u then 2 else 0) ||| (if p then 4 else 0) : Byte).getLsbD 1 = u := by
  have hirq : s.irqFlag.getLsbD 1 = false := by unfold State.irqFlag; split <;> rfl
  have hpart : (if p then 4 else 0 : Byte).getLsbD 1 = false := by split <;> rfl
  have hund : (if u then 2 else 0 : Byte).getLsbD 1 = u := by cases u <;> rfl
  rw [BitVec.getLsbD_or, BitVec.getLsbD_or, hirq, hpart, hund, Bool.false_or, Bool.or_false]

/-- A WRITE whose words are settled gets the response to their codes. -/
theorem finishSpi_write {s : State} {r : SpiRequest} {codes : List Nat} {z : SpiPending} (hc : r.cmd = 2) (h : Settled r codes z) :
    ∃ x, Answers r codes x ∧ s.finishSpi z = s.respondSpi x := by
  have hz : z.req.cmd ≠ 1 := by rw [h.req, hc]; decide
  exact ⟨_, ⟨congrArg SpiRequest.seq h.req, if_neg hz, h.status, by rw [h.failIdx], (flags_undecoded s _ _).trans h.undecoded⟩, rfl⟩

/-! ### What follows the response -/

/-- A response, once the command is over: it is answered and stored, and no access waits. -/
theorem commit_respondSpi_port (s v : State) (x : SpiResponse) :
    (s.commit (v.respondSpi x)).port =
      { v.port with answer := some x, stored := some x, pending := none, hrdy := (s.commit (v.respondSpi x)).port.hrdy } :=
  commit_port s (v.respondSpi x) rfl

/-- Where no message can depend on what was written, interrupts and the host port alone differ. -/
theorem commit_respondSpi_still {s v : State} (x : SpiResponse) (h : s.sameTraffic v = true) :
    s.commit (v.respondSpi x) =
      { v with irqStat := (s.commit (v.respondSpi x)).irqStat, port := (s.commit (v.respondSpi x)).port } := by
  rw [commit_still s (v.respondSpi x) h]
  rfl

/-- Where the device state stays, the message engine and the controllers alone go on. -/
theorem commit_respondSpi_onlyCan {s v : State} (x : SpiResponse) (h : v.psm.state = s.psm.state) :
    OnlyCan v { s.commit (v.respondSpi x) with
      port := { v.port with hrdy := (s.commit (v.respondSpi x)).port.hrdy } } := by
  obtain ⟨u, hu, e⟩ := commit_calm s (v.respondSpi x) h rfl
  unfold OnlyCan
  rw [e, show u = _ from hu]
  rfl

/-! ### A word that lies in a portal block -/

/-- The single word of a burst lies in a portal block: it fails in the host die with code `k`, and the response says so. -/
theorem runs_failedWord {c : Instr} {s : State} {r : SpiRequest} {k : Nat} (hk : k ≠ 0)
    (h : exec c s = settled s (s.finishSpi ((burstStart r).settle k 0 false))) :
    Runs c s fun t => t.portals = s.portals ∧ t.links = s.links ∧ ∃ x, t.port.answer = some x ∧ x.status = BitVec.ofNat 8 k := by
  obtain ⟨x, hx, e⟩ : ∃ x, x.status = BitVec.ofNat 8 k ∧ s.finishSpi ((burstStart r).settle k 0 false) = s.respondSpi x :=
    ⟨_, if_pos ⟨hk, rfl⟩, rfl⟩
  rw [e] at h
  refine .of_settled h ⟨commit_portals' s _ rfl, commit_links' s _ rfl, x, ?_, hx⟩
  rw [commit_respondSpi_port]

/-- The three ways of a single portal word: its block is not served, its link is in link fault, or its portal die is asked (R20). -/
theorem spiRun_portal_unserved {s : State} {r : SpiRequest} {p : PortalId} {o : Nat} (hn : reqWords r = 1)
    (hp : portalWord (reqAddr r 0) = some (p, o)) (hs : s.serves (reqAddr r 0) = false) :
    spiRun (reqWords r) s (burstStart r) = s.finishSpi ((burstStart r).settle 7 0 false) := by
  simp [hn, spiRun, burstStart, hp, hs]

theorem spiRun_portal_linkDown {s : State} {r : SpiRequest} {p : PortalId} {o : Nat} (hn : reqWords r = 1)
    (hp : portalWord (reqAddr r 0) = some (p, o)) (hs : s.serves (reqAddr r 0) = true) (hl : (s.link p).up = false) :
    spiRun (reqWords r) s (burstStart r) = s.finishSpi ((burstStart r).settle 5 0 false) := by
  simp [hn, spiRun, burstStart, hp, hs, hl]

theorem spiRun_portal_asks {s : State} {r : SpiRequest} {p : PortalId} {o : Nat} (hn : reqWords r = 1)
    (hp : portalWord (reqAddr r 0) = some (p, o)) (hs : s.serves (reqAddr r 0) = true) (hl : (s.link p).up = true) :
    spiRun (reqWords r) s (burstStart r) = s.askPortal (burstStart r) p o := by
  simp [hn, spiRun, burstStart, hp, hs, hl]

/-- A request that is queued leaves the link up or down as it was. -/
theorem request_up (l : HostLink) (fs : List (ConfigUse × ConfigFrame)) : (l.request fs).up = l.up := by
  unfold HostLink.request HostLink.pump
  split
  · rfl
  · split <;> rfl

/-- An access that waits goes on waiting while its link is up. -/
theorem spiLinkLost_of_up {s : State} {x : SpiPending} {p : PortalId} {o : Nat} (hx : s.port.pending = some x)
    (hp : portalWord (reqAddr x.req x.index) = some (p, o)) (hl : (s.link p).up = true) : s.spiLinkLost = s := by
  simp [State.spiLinkLost, hx, hp, hl]

/-- Where the device state stays as it is and an access waits on a link that is up, what follows a command is traffic alone. -/
theorem commit_waiting {s t : State} {x : SpiPending} {p : PortalId} {o : Nat} (hs : t.psm.state = s.psm.state)
    (hx : t.port.pending = some x) (hp : portalWord (reqAddr x.req x.index) = some (p, o)) (hl : (t.link p).up = true) :
    ∃ u, Traffic t u ∧ s.commit t = s.interrupts { u with port := { u.port with hrdy := u.ready } } := by
  unfold State.commit
  extract_lets t' u v
  have ht : t' = t := if_pos hs
  have hu : Traffic t u := by
    dsimp only [u]
    rw [ht]
    split
    · exact .refl t
    · exact .messages s t
  obtain ⟨-, -, -, -, -, -, -, hlinks, -, hport, -⟩ := hu.fields
  have hv : v = u := by
    dsimp only [v]
    split
    · rfl
    · exact spiLinkLost_of_up (by rw [hport, hx]) hp (by rw [State.link, hlinks]; exact hl)
  exact ⟨u, hu, by rw [← hv]⟩

/-- The CONFIG request that carries a word of a WRITE to its portal die (R308). -/
def writeRequest (r : SpiRequest) (o : Nat) : ConfigUse × ConfigFrame :=
  (.spiWrite, configFrame 2 (wnat o) 0 (leBytes 4 (r.payload.getD 0 0).toNat))

theorem askPortal_pending (s : State) (x : SpiPending) (p : PortalId) (o : Nat) : (s.askPortal x p o).port.pending = some x := rfl

theorem askPortal_link (s : State) {r : SpiRequest} (hc : r.cmd = 2) (p : PortalId) (o : Nat) :
    (s.askPortal (burstStart r) p o).link p = (s.link p).request [writeRequest r o] := by
  simp [State.askPortal, State.link, burstStart, hc, writeRequest]

/-- After the word has gone to its portal die, the access waits for the answer with HRDY low. -/
theorem commit_askPortal {s : State} {r : SpiRequest} {p : PortalId} {o : Nat} (hc : r.cmd = 2)
    (hp : portalWord (reqAddr r 0) = some (p, o)) (hl : (s.link p).up = true) :
    let t := s.commit (s.askPortal (burstStart r) p o)
    t.portals = s.portals ∧ t.port.hrdy = false ∧ t.link p = (s.link p).request [writeRequest r o] ∧
      t.port.pending = some (burstStart r) := by
  have hup : ((s.askPortal (burstStart r) p o).link p).up = true := by rw [askPortal_link s hc, request_up, hl]
  obtain ⟨u, hu, e⟩ := commit_waiting (t := s.askPortal (burstStart r) p o) (s := s) rfl (askPortal_pending ..) hp hup
  obtain ⟨-, -, -, -, -, -, -, hlinks, -, hport, -, -, -, -, -, hportals, -⟩ := hu.fields
  have hpend : u.port.pending = some (burstStart r) := by rw [hport, askPortal_pending]
  rw [e]
  refine ⟨hportals, by simp [State.ready, hpend], ?_, hpend⟩
  rw [← askPortal_link s hc p o]
  exact congrArg (Four.get · p) hlinks

/-! ### WRITE -/

/-- A WRITE of words that the host die serves writes them one by one and responds with their codes. -/
theorem exec_spiWrite_hostWords {s : State} {r : SpiRequest} (hc : r.cmd = 2)
    (hexec : exec (.spiWrite r) s = settled s (spiRun (reqWords r) s (burstStart r)))
    (hw : ∀ i, i < reqWords r → portalWord (reqAddr r i) = none) :
    ∃ x, Answers r (wordsWritten r s).2 x ∧
      exec (.spiWrite r) s = settled s ((wordsWritten r s).1.respondSpi x) := by
  obtain ⟨z, hz, hrun⟩ := spiRun_burstStart_write (s := s) hc hw
  obtain ⟨x, hx, hfin⟩ := finishSpi_write (s := (wordsWritten r s).1) hc hz
  exact ⟨x, hx, by rw [hexec, hrun, hfin]⟩

/-- Settles O20: the run over the words of the host die, by the codes settled so far; the word that goes to a portal die, by its refusals and its
request; an address outside every block, by the address map. -/
theorem writeOfWords : Obligations.WriteOfWords := by
  refine ⟨fun s r ha hf hok hc hrej hrep => ?_, fun s a v rc hb _ hs => ⟨writeWord_noBlock v rc hb hs, hostRead_noBlock s hb⟩⟩
  have hexec := exec_spiWrite_run ha hf hok hc hrej hrep
  refine ⟨fun hw _ => ?_, fun p o hn hp => ⟨fun hs => ?_, fun hs hl => ?_, fun hs hl => ?_⟩⟩
  · obtain ⟨x, hx, he⟩ := exec_spiWrite_hostWords hc hexec hw
    have hport := commit_respondSpi_port s (wordsWritten r s).1 x
    refine .of_settled he ⟨⟨x, ?_, ?_, hx.seq, hx.data, hx.status, hx.failIdx, hx.undecoded⟩, commit_respondSpi_still x,
      commit_respondSpi_onlyCan x, commit_psm' s _ rfl, commit_acq' s _ rfl, commit_arch' s _ rfl, commit_irqEn' s _ rfl,
      commit_portals' s _ rfl, commit_sec' s _ rfl, commit_lock' s _ rfl, commit_fuse' s _ rfl, commit_links' s _ rfl, commit_hrdy s _⟩
    · rw [hport]
    · rw [hport]
  · exact runs_failedWord (by decide) (hexec.trans (by rw [spiRun_portal_unserved hn hp hs]))
  · exact runs_failedWord (by decide) (hexec.trans (by rw [spiRun_portal_linkDown hn hp hs hl]))
  · rw [spiRun_portal_asks hn hp hs hl] at hexec
    obtain ⟨hportals, hhrdy, hlink, hpend⟩ := commit_askPortal hc hp hl
    exact .of_settled hexec ⟨hportals, hhrdy, hlink, _, hpend, rfl, rfl⟩

end Sys2Proof.Machine
end

section
/-! A portal die but for its outputs: what each operation on axes, switches, safety outputs and the fail-safe states leaves alone. -/

namespace Sys2Proof.Machine

/-- `Q` is the portal die `P` but for its outputs: axes, feedback ports, switches, safety outputs, what supervises and learns from its motions, and what
it reports. No trip is latched or cleared, and no kernel demand of a safety output differs. -/
structure OutputsOnly (P Q : PortalState) : Prop where
  eq : Q = { P with
    axes := Q.axes, fbs := Q.fbs, mon2 := Q.mon2, switches := Q.switches, sos := Q.sos, supply := { P.supply with shedOrder := Q.supply.shedOrder },
    ob := { P.ob with
      evt := Q.ob.evt, removed := Q.ob.removed, progArmed := Q.ob.progArmed, learn := Q.ob.learn, learnRun := Q.ob.learnRun, runsOk := Q.ob.runsOk,
      runsDisc := Q.ob.runsDisc, learnAxes := Q.ob.learnAxes },
    link := { P.link with
      fin := { P.link.fin with outbox := Q.link.fin.outbox, txSeq := Q.link.fin.txSeq }, glEvt := Q.link.glEvt, lhEvt := Q.link.lhEvt,
      noteTime := Q.link.noteTime, evtTimes := Q.link.evtTimes, evtQueue := Q.link.evtQueue } }
  trip : ∀ a, (Q.axes.get a).trip = (P.axes.get a).trip
  dem : ∀ o, (Q.sos.so o).dem = (P.sos.so o).dem

namespace OutputsOnly

variable {P Q R : PortalState}

theorem refl (P : PortalState) : OutputsOnly P P := ⟨rfl, fun _ => rfl, fun _ => rfl⟩

theorem trans (h : OutputsOnly P Q) (g : OutputsOnly Q R) : OutputsOnly P R where
  eq := by rw [g.eq, h.eq]
  trip a := (g.trip a).trans (h.trip a)
  dem o := (g.dem o).trans (h.dem o)

theorem foldl {α : Type} {f : PortalState → α → PortalState} (h : ∀ P a, OutputsOnly P (f P a)) (l : List α) (P : PortalState) :
    OutputsOnly P (l.foldl f P) := by
  induction l generalizing P with
  | nil => exact .refl P
  | cons a r ih => exact (h P a).trans (ih _)

/-- A change of one axis that leaves its trip alone. -/
theorem modAxis {a : AxisId} {f : AxisState → AxisState} (h : (f (P.axes.get a)).trip = (P.axes.get a).trip) : OutputsOnly P (P.modAxis a f) where
  eq := rfl
  trip b := by
    by_cases hb : b = a
    · subst hb
      rw [PortalState.modAxis_axes, Three.get_set, h]
    · rw [PortalState.modAxis_axes, Three.get_set_ne _ hb]
  dem _ := rfl

/-- A change of the learning and the supervision of motions in the obstacle block. -/
theorem modOb {f : ObState → ObState}
    (h : ∀ o, f o = { o with
      evt := (f o).evt, removed := (f o).removed, progArmed := (f o).progArmed, learn := (f o).learn, learnRun := (f o).learnRun,
      runsOk := (f o).runsOk, runsDisc := (f o).runsDisc, learnAxes := (f o).learnAxes })
    (P : PortalState) : OutputsOnly P (P.modOb f) where
  eq := by
    show _ = { P with ob := _ }
    exact congrArg (fun o => { P with ob := o }) (h P.ob)
  trip _ := rfl
  dem _ := rfl

/-! ### Reports -/

theorem pushEvent (P : PortalState) (ck : Nat) (e : EventFrame) : OutputsOnly P (P.pushEvent ck e) := by
  unfold PortalState.pushEvent
  dsimp only
  split
  · exact .refl P
  · split <;> exact ⟨rfl, fun _ => rfl, fun _ => rfl⟩

theorem event (P : PortalState) (ck code axis : Nat) (args : List Word) : OutputsOnly P (P.event ck code axis args) := pushEvent ..

theorem sendState (P : PortalState) (ck : Nat) : OutputsOnly P (P.sendState ck) := ⟨rfl, fun _ => rfl, fun _ => rfl⟩

theorem lhFlag (P : PortalState) (i : Nat) : OutputsOnly P (P.lhFlag i) := ⟨rfl, fun _ => rfl, fun _ => rfl⟩

theorem obFlag (P : PortalState) (i : Nat) : OutputsOnly P (P.obFlag i) := ⟨rfl, fun _ => rfl, fun _ => rfl⟩

/-! ### Learning and progress -/

theorem learnDiscard (P : PortalState) : OutputsOnly P P.learnDiscard := by
  unfold PortalState.learnDiscard
  split
  · exact .refl P
  · exact (modOb (fun _ => rfl) P).trans (obFlag ..)

theorem learnClear (P : PortalState) : OutputsOnly P P.learnClear := modOb (fun _ => rfl) P

theorem learnAtEnd (P : PortalState) (a : AxisId) : OutputsOnly P (P.learnAtEnd a) := by
  unfold PortalState.learnAtEnd
  split
  · exact .refl P
  · dsimp only
    split
    · exact modOb (fun _ => rfl) P
    · split
      · exact ((modOb (fun _ => rfl) P).trans (modOb (fun _ => rfl) _)).trans (obFlag ..)
      · exact modOb (fun _ => rfl) P

theorem learnEnd (P : PortalState) (a : AxisId) (m : Motion) : OutputsOnly P (P.learnEnd a m) := by
  unfold PortalState.learnEnd
  extract_lets named
  split
  · exact .refl P
  · split
    · exact learnAtEnd P a
    · split
      · exact .refl P
      · exact learnDiscard P

theorem armProgress (P : PortalState) (a : AxisId) : OutputsOnly P (P.armProgress a) := by
  unfold PortalState.armProgress
  split
  · exact ⟨rfl, fun _ => rfl, fun _ => rfl⟩
  · exact .refl P

end OutputsOnly

/-! ### Axes -/

@[simp] theorem AxisState.flag_trip (x : AxisState) (i : Nat) : (x.flag i).trip = x.trip := rfl

@[simp] theorem AxisState.off_trip (x : AxisState) : x.off.trip = x.trip := rfl

@[simp] theorem AxisState.rest_trip (x : AxisState) (ck : Nat) : (x.rest ck).trip = x.trip := rfl

@[simp] theorem AxisState.setHoldFirm_trip (x : AxisState) (ck : Nat) (b : Bool) : (x.setHoldFirm ck b).trip = x.trip := rfl

@[simp] theorem AxisState.reduce_trip (x : AxisState) (ck : Nat) : (x.reduce ck).trip = x.trip := by
  unfold AxisState.reduce
  split <;> rfl

@[simp] theorem AxisState.reduce_motion (x : AxisState) (ck : Nat) : (x.reduce ck).motion = x.motion := by
  unfold AxisState.reduce
  split <;> rfl

/-- The step timer alone, and what it reports. -/
theorem AxisState.load_eq (x : AxisState) (i : Nat) :
    x.load i = { x with ival := i, timer := (x.load i).timer, carry := (x.load i).carry, rateClip := (x.load i).rateClip, evt := (x.load i).evt } := by
  unfold AxisState.load
  split <;> rfl

@[simp] theorem AxisState.load_trip (x : AxisState) (i : Nat) : (x.load i).trip = x.trip := by rw [AxisState.load_eq]

@[simp] theorem AxisState.load_motion (x : AxisState) (i : Nat) : (x.load i).motion = x.motion := by rw [AxisState.load_eq]

@[simp] theorem AxisState.start_trip (x : AxisState) (m : Motion) (d : Drive) : (x.start m d).trip = x.trip := by
  unfold AxisState.start
  extract_lets v y
  split
  · exact AxisState.load_trip ..
  · rfl

@[simp] theorem AxisState.start_motion (x : AxisState) (m : Motion) (d : Drive) : (x.start m d).motion = some m := by
  unfold AxisState.start
  extract_lets v y
  split
  · exact AxisState.load_motion ..
  · rfl

/-- What a controlled stop of an axis can come to (R159): nothing where it does not move or is under a safe stop; otherwise it is under a controlled stop,
or at rest where the stop ends where it begins. -/
theorem controlledStop_cases (P : PortalState) (ck : Nat) (a : AxisId) (after : MotionAfter) (own : Bool) :
    ((∀ m, (P.axes.get a).motion = some m → m.why = .safeStop) ∧ P.controlledStop ck a after own = P) ∨
      ∃ f m, (f (P.axes.get a)).trip = (P.axes.get a).trip ∧
        ((f (P.axes.get a)).motion = none ∨ ∃ n, (f (P.axes.get a)).motion = some n ∧ n.why = .controlledStop) ∧
        (P.controlledStop ck a after own = P.modAxis a f ∨ P.controlledStop ck a after own = ((P.modAxis a f).learnEnd a m).armProgress a) := by
  unfold PortalState.controlledStop
  extract_lets x
  split
  next h => exact .inl ⟨fun m hm => absurd (h.symm.trans hm) nofun, rfl⟩
  next m h =>
    split
    next hw => exact .inl ⟨fun n hn => by rwa [← Option.some.inj (h.symm.trans hn)], rfl⟩
    next hw =>
      refine .inr ⟨_, m, ?_, ?_, .inl rfl⟩
      · rfl
      · exact .inr ⟨_, rfl, hw⟩
    next =>
      split
      extract_lets sg
      split
      extract_lets p n stopAt m'
      split
      · refine .inr ⟨_, m', ?_, ?_, .inr rfl⟩
        · dsimp only
          split
          · rfl
          · split
            · exact AxisState.reduce_trip ..
            · rfl
        · dsimp only
          split
          · exact .inl rfl
          · split
            · exact .inl (AxisState.reduce_motion ..)
            · exact .inl rfl
      · refine .inr ⟨_, m', ?_, ?_, .inl rfl⟩
        · exact AxisState.start_trip ..
        · exact .inr ⟨_, AxisState.start_motion .., rfl⟩

/-- What `applyDemands` does: every channel to its demand, then the episodes that this has ended. -/
theorem applyDemands_eq (P : PortalState) (ck : Nat) :
    P.applyDemands ck = chans8.foldl (fun R n => R.episodeOver ck n (P.switches.get n)) (chans8.foldl (fun R n => R.setDemand n (P.demandOf n)) P) := by
  unfold PortalState.applyDemands
  rfl

namespace OutputsOnly

theorem axisOff (P : PortalState) (a : AxisId) : OutputsOnly P (P.axisOff a) := modAxis (AxisState.off_trip _)

theorem controlledStop (P : PortalState) (ck : Nat) (a : AxisId) (after : MotionAfter) (own : Bool) :
    OutputsOnly P (P.controlledStop ck a after own) := by
  obtain ⟨-, h⟩ | ⟨f, m, hx, -, h | h⟩ := controlledStop_cases P ck a after own <;> rw [h]
  · exact .refl P
  · exact modAxis hx
  · exact ((modAxis hx).trans (learnEnd ..)).trans (armProgress ..)

/-! ### Switches and safety outputs -/

theorem modSw (P : PortalState) (n : Fin 8) (f : SwitchState → SwitchState) : OutputsOnly P (P.modSw n f) := ⟨rfl, fun _ => rfl, fun _ => rfl⟩

theorem setShedOrder (P : PortalState) (l : List (Fin 8)) : OutputsOnly P { P with supply := { P.supply with shedOrder := l } } :=
  ⟨rfl, fun _ => rfl, fun _ => rfl⟩

theorem setDemand (P : PortalState) (n : Fin 8) (d : Bool) : OutputsOnly P (P.setDemand n d) := by
  unfold PortalState.setDemand
  extract_lets c w unshed
  split
  · exact (modSw ..).trans (setShedOrder ..)
  · split
    · exact modSw ..
    · split
      · exact (modSw ..).trans (setShedOrder ..)
      · exact .refl P

theorem episodeOver (P : PortalState) (ck : Nat) (n : Fin 8) (was : SwitchState) : OutputsOnly P (P.episodeOver ck n was) := by
  unfold PortalState.episodeOver
  split
  · exact foldl (fun Q k => modSw ..) _ P
  · exact .refl P

theorem applyDemands (P : PortalState) (ck : Nat) : OutputsOnly P (P.applyDemands ck) := by
  rw [applyDemands_eq]
  exact (foldl (fun R n => setDemand R n (P.demandOf n)) chans8 P).trans
    (foldl (fun R n => episodeOver R ck n (P.switches.get n)) chans8 _)

theorem setSos {t : Two SoState} (h : ∀ o, (t.so o).dem = (P.sos.so o).dem) : OutputsOnly P { P with sos := t } := ⟨rfl, fun _ => rfl, h⟩

theorem modSo {o : SoId} {f : SoState → SoState} (h : ∀ x, (f x).dem = x.dem) (P : PortalState) : OutputsOnly P (P.modSo o f) := by
  refine setSos fun i => ?_
  by_cases hi : i = o
  · subst hi
    rw [Two.so_setSo, h]
  · rw [Two.so_setSo_ne _ hi]

theorem soAllOff (P : PortalState) : OutputsOnly P P.soAllOff := setSos fun o => by cases o <;> rfl

/-- The moments of the next pulses stand beside the demands. -/
theorem dem_nextAt (t : Two SoState) (i j : Nat) (o : SoId) :
    ((⟨{ t.fst with nextAt := i }, { t.snd with nextAt := j }⟩ : Two SoState).so o).dem = (t.so o).dem := by
  cases o <;> rfl

theorem soSchedule (P : PortalState) (ck : Nat) : OutputsOnly P (P.soSchedule ck) := by
  unfold PortalState.soSchedule
  split
  · exact setSos (dem_nextAt P.sos _ _)
  · exact .refl P

theorem soRefresh (P : PortalState) (ck : Nat) (o : SoId) : OutputsOnly P (P.soRefresh ck o) := by
  unfold PortalState.soRefresh
  dsimp only
  split
  · exact (soSchedule P ck).trans (modSo (by exact fun _ => rfl) _)
  · split
    · exact modSo (by exact fun _ => rfl) P
    · exact .refl P

theorem setPerm (P : PortalState) (ck : Nat) (o : SoId) (b : Bool) : OutputsOnly P (P.setPerm ck o b) := by
  refine (modSo (fun x => ?_) P).trans (soRefresh ..)
  split <;> rfl

end OutputsOnly

/-! ### The fail-safe states -/

namespace OutputsOnly

theorem setAxes {t : Three AxisState} (h : ∀ a, (t.get a).trip = (P.axes.get a).trip) : OutputsOnly P { P with axes := t } := ⟨rfl, h, fun _ => rfl⟩

theorem dropFirm (P : PortalState) (ck : Nat) : OutputsOnly P (P.dropFirm ck) := setAxes fun a => by rw [Three.get_map, AxisState.setHoldFirm_trip]

end OutputsOnly

/-- The portal die `P` with what was commanded and not begun discarded from its link (R23). -/
def PortalState.noneDue (P : PortalState) : PortalState := { P with link := { P.link with motionDue := .all none, kept := .all none } }

/-- The portal die `P` outside limp-home (R326). -/
def PortalState.limpOver (P : PortalState) : PortalState :=
  { P with link := { P.link with
      limp := false, jogOpen := P.link.jogOpen && !P.link.limp, jogClose := P.link.jogClose && !P.link.limp,
      causePin := P.link.causePin && !P.link.limp, causeLink := P.link.causeLink && !P.link.limp } }

theorem PortalState.limpOver_eq_self (P : PortalState) (h : P.link.limp = false) : P.limpOver = P := by
  obtain ⟨⟩ := P
  rename_i link
  obtain ⟨⟩ := link
  obtain rfl := h
  simp [PortalState.limpOver]

/-- The portal die `P` with the marks that the fail-safe states leave in its link (R321). -/
def PortalState.failsafeMarks (P : PortalState) : PortalState :=
  { P with link := { P.link with
      motionDue := .all none, kept := .all none, limp := false, causePin := P.link.causePin && !P.link.limp,
      causeLink := P.link.causeLink && !P.link.limp, failsafe := true, jogOpen := false, jogClose := false } }

theorem PortalState.failsafeMarks_eq (P : PortalState) : P.failsafeMarks =
    { P.noneDue.limpOver with link := { P.noneDue.limpOver.link with failsafe := true, jogOpen := false, jogClose := false } } := rfl

namespace OutputsOnly

theorem dropMotion (h : OutputsOnly P Q) : OutputsOnly P.noneDue Q.dropMotion where
  eq := by
    unfold PortalState.noneDue PortalState.dropMotion
    rw [h.eq]
  trip a := by
    show ((Q.axes.map fun x : AxisState => { x with queued := none }).get a).trip = _
    rw [Three.get_map]
    exact h.trip a
  dem := h.dem

/-- Axes in the fail-safe states: they stop or lose torque, and no more. -/
theorem stopAxes (P : PortalState) (ck : Nat) : OutputsOnly P.noneDue (P.stopAxes ck) := by
  refine (dropMotion (dropFirm P ck)).trans (foldl (fun R a => ?_) _ _)
  split
  · exact controlledStop ..
  · exact axisOff ..

theorem limpExit (P : PortalState) (ck : Nat) : OutputsOnly P.limpOver (P.limpExit ck) := by
  unfold PortalState.limpExit
  split
  next h =>
    have e : P.limpOver =
        { P with link := { P.link with limp := false, jogOpen := false, jogClose := false, causePin := false, causeLink := false } } := by
      simp [PortalState.limpOver, h]
    rw [e]
    exact (lhFlag _ 4).trans (event ..)
  next h =>
    rw [P.limpOver_eq_self (by simpa using h)]
    exact .refl P

theorem limpOver (h : OutputsOnly P Q) : OutputsOnly P.limpOver Q.limpOver where
  eq := by
    unfold PortalState.limpOver
    rw [h.eq]
  trip := h.trip
  dem := h.dem

/-- Two dies that differ in their outputs alone do so too once both stand in the fail-safe states. -/
theorem markFailsafe (h : OutputsOnly P Q) :
    OutputsOnly { P with link := { P.link with failsafe := true, jogOpen := false, jogClose := false } }
      { Q with link := { Q.link with failsafe := true, jogOpen := false, jogClose := false } } where
  eq := by rw [h.eq]
  trip := h.trip
  dem := h.dem

theorem noneDue (h : OutputsOnly P Q) : OutputsOnly P.noneDue Q.noneDue where
  eq := by
    unfold PortalState.noneDue
    rw [h.eq]
  trip := h.trip
  dem := h.dem

/-- The fail-safe states leave their marks in the link, and act on the outputs alone (R321). -/
theorem applyFailsafe (P : PortalState) (ck : Nat) : OutputsOnly P.failsafeMarks (P.applyFailsafe ck) := by
  have stopped : OutputsOnly P.noneDue (P.learnDiscard.stopAxes ck).soAllOff :=
    ((noneDue (learnDiscard P)).trans (stopAxes _ ck)).trans (soAllOff _)
  rw [P.failsafeMarks_eq]
  exact (markFailsafe ((limpOver stopped).trans (limpExit _ ck))).trans (applyDemands _ ck)

end OutputsOnly

/-! ### What the portal die's end of its link keeps -/

/-- The end of the link that portal die `Q` holds is that of `P` but for frames that it has sent. -/
structure SendsOnly (P Q : PortalState) : Prop where
  fin_eq : Q.link.fin = { P.link.fin with outbox := Q.link.fin.outbox, txSeq := Q.link.fin.txSeq }

namespace SendsOnly

theorem refl (P : PortalState) : SendsOnly P P := ⟨rfl⟩

theorem trans (h : SendsOnly P Q) (g : SendsOnly Q R) : SendsOnly P R := ⟨by rw [g.fin_eq, h.fin_eq]⟩

theorem of_outputsOnly (h : OutputsOnly P Q) : SendsOnly P Q := ⟨congrArg (fun X : PortalState => X.link.fin) h.eq⟩

/-- The same end of the link. -/
theorem of_eq (h : Q.link.fin = P.link.fin) : SendsOnly P Q := ⟨by rw [h]⟩

theorem applyFailsafe (P : PortalState) (ck : Nat) : SendsOnly P (P.applyFailsafe ck) :=
  (of_eq (P := P) (Q := P.failsafeMarks) rfl).trans (of_outputsOnly (OutputsOnly.applyFailsafe P ck))

theorem stopAxes (P : PortalState) (ck : Nat) : SendsOnly P (P.stopAxes ck) :=
  (of_eq (P := P) (Q := P.noneDue) rfl).trans (of_outputsOnly (OutputsOnly.stopAxes P ck))

theorem enterFault (P : PortalState) (ck : Nat) (why : Word) : SendsOnly P (P.enterFault ck why) := by
  unfold PortalState.enterFault
  extract_lets R S
  have begun : SendsOnly P { R with cls := .fault } := of_eq rfl
  split
  · exact .refl P
  · exact (begun.trans (applyFailsafe _ ck)).trans (of_outputsOnly (OutputsOnly.event S ck ..))

theorem enterLimp (P : PortalState) (ck : Nat) (pin link : Bool) : SendsOnly P (P.enterLimp ck pin link) := by
  unfold PortalState.enterLimp
  extract_lets R fresh src S T
  have stopped : SendsOnly P R := ((of_outputsOnly (OutputsOnly.learnDiscard P)).trans (stopAxes _ ck)).trans
    (of_outputsOnly (OutputsOnly.soAllOff _))
  have begun : SendsOnly R S := of_eq rfl
  have marked : SendsOnly P T := (stopped.trans begun).trans (of_outputsOnly (OutputsOnly.applyDemands S ck))
  split
  · exact marked.trans (of_outputsOnly ((OutputsOnly.lhFlag T 5).trans (OutputsOnly.event ..)))
  · exact marked

theorem lossOutcome (P : PortalState) (ck : Nat) (p : PortalId) : SendsOnly P (P.lossOutcome ck p) := by
  unfold PortalState.lossOutcome
  extract_lets src R
  have begun : SendsOnly P R := of_eq rfl
  split
  · exact begun.trans (applyFailsafe R ck)
  · split
    · exact begun
    · split
      · exact begun.trans (enterLimp ..)
      · exact (begun.trans (applyFailsafe R ck)).trans (of_outputsOnly (OutputsOnly.lhFlag ..))

theorem tripFault (P : PortalState) (ck : Nat) : SendsOnly P (P.tripFault ck) := by
  unfold PortalState.tripFault
  split
  · split
    · exact .refl P
    · exact (of_outputsOnly (OutputsOnly.learnDiscard P)).trans (enterFault ..)
  · exact .refl P

theorem afterOwnMotion (P : PortalState) (ck : Nat) (p : PortalId) : SendsOnly P (P.afterOwnMotion ck p) := by
  unfold PortalState.afterOwnMotion
  split
  · exact lossOutcome P ck p
  · exact .refl P

theorem lclrWatch (P : PortalState) (p : PortalId) : SendsOnly P (P.lclrWatch p) := by
  unfold PortalState.lclrWatch
  split <;> exact of_eq rfl

theorem followUp (P : PortalState) (ck : Nat) (p : PortalId) : SendsOnly P (P.followUp ck p) :=
  ((tripFault P ck).trans (afterOwnMotion ..)).trans (lclrWatch ..)

theorem reported (Q P : PortalState) (ck : Nat) : SendsOnly P (PortalState.reported Q P ck) := by
  unfold PortalState.reported
  split
  · exact of_outputsOnly (OutputsOnly.sendState P ck)
  · exact .refl P

end SendsOnly

end Sys2Proof.Machine
end

section
/-! Commands of one portal die, and frames delivered to one: they stay on their die and their link. -/

namespace Sys2Proof.Machine

/-- A command of one portal die is something that happens on that die alone. -/
theorem exec_portalDie {c : Instr} {p : PortalId} (h : c.portalDie = some p) (s : State) :
    ∃ f, exec c s = .next (s.onPortal p f) := by
  cases c <;> cases h <;> exact ⟨_, rfl⟩

/-- Settles O7: each such command is one function applied on its die, and a die whose logic is held in POR takes none. -/
theorem portalCommandsStayOnTheirDie : Obligations.PortalCommandsStayOnTheirDie := by
  intro c p s t hc ht
  obtain ⟨f, hf⟩ := exec_portalDie hc s
  obtain rfl := Host.Outcome.next.inj (hf.symm.trans ht)
  exact ⟨onPortal_frame s p f, fun hp => onPortal_por hp f⟩

/-! ### What follows a command on a calm portal die -/

/-- Nothing follows on a calm portal die. -/
theorem PortalState.calm.followUp {P : PortalState} (h : P.calm) (ck : Nat) (p : PortalId) : P.followUp ck p = P := by
  obtain ⟨-, hc, hw, hl⟩ := h
  have ht : P.tripFault ck = P := by
    rcases hc with hc | hc
    · unfold PortalState.tripFault
      split <;> simp [hc]
    · exact tripFault_calm P ck hc
  unfold PortalState.followUp PortalState.afterOwnMotion PortalState.lclrWatch
  simp [ht, hw, hl]

theorem UpToFrames.refl (X : PortalState) : UpToFrames X X := ⟨rfl, .inl rfl⟩

theorem UpToFrames.sendState (X : PortalState) (ck : Nat) : UpToFrames X (X.sendState ck) := ⟨rfl, .inr rfl⟩

/-- A STATE frame that goes out is a frame, and takes with it what was to be reported for GL_EVT (R305). -/
theorem UpToFrames.reported (Q X : PortalState) (ck : Nat) : UpToFrames X (PortalState.reported Q X ck) := by
  unfold PortalState.reported
  split
  · exact .sendState X ck
  · exact .refl X

/-- What a command does on a portal die that it leaves calm: no more than a STATE frame follows. -/
theorem onPortal_calm {s : State} {p : PortalId} {P : PortalState} {f : PortalState → PortalState} (hP : s.portals.get p = P) (hp : P.por = false)
    (hc : (f P).calm) : UpToFrames (f P) ((s.onPortal p f).portals.get p) := by
  subst hP
  rw [onPortal_run hp, State.setPortal_portals, Four.get_set, hc.followUp]
  exact .reported ..

/-- A command of one portal die that leaves it calm. -/
theorem RunsPortal.of_calm {c : Instr} {s : State} {p : PortalId} {P : PortalState} {f : PortalState → PortalState} {Q : PortalState → Prop}
    (hexec : exec c s = portalOnly s p f) (hP : s.portals.get p = P) (hp : P.por = false) (hc : (f P).calm) (hQ : ∀ R, UpToFrames (f P) R → Q R) :
    RunsPortal p c s Q :=
  ⟨_, hexec, onPortal_frame s p f, hQ _ (onPortal_calm hP hp hc)⟩

/-- A command of one portal die that does nothing there. -/
theorem RunsPortal.of_idle {c : Instr} {s : State} {p : PortalId} {P : PortalState} {f : PortalState → PortalState}
    (hexec : exec c s = portalOnly s p f) (hP : s.portals.get p = P) (hc : P.calm) (hf : f P = P) : RunsPortal p c s fun Q => UpToFrames P Q :=
  .of_calm hexec hP hc.1 (by rwa [hf]) fun R hR => by rwa [hf] at hR

/-! ### Frames delivered to a portal die -/

theorem hostFrame_portals (s : State) (p : PortalId) (x : LinkFrame) : (s.hostFrame p x).portals = s.portals := rfl

/-- A frame that has reached its portal die is no longer on its way; beyond that the die alone differs. -/
theorem OnlyPortal.of_hostFrame {s t : State} {p : PortalId} {x : LinkFrame} (h : OnlyPortal p (s.hostFrame p x) t) : OnlyPortalAndFrames p s t := by
  obtain ⟨heq, hother⟩ := h
  have hlinks : t.links = s.links.set p { s.links.get p with fin := (s.links.get p).fin.arrived x } := by rw [heq]; rfl
  refine ⟨?_, fun q hq => ⟨hother q hq, ?_⟩, ?_⟩
  · rw [hlinks]
    exact heq
  · rw [hlinks]
    exact Four.get_set_ne _ hq _
  · rw [hlinks, Four.get_set]
    rfl

theorem onPortal_onlyPortal (s : State) (p : PortalId) (f : PortalState → PortalState) : OnlyPortal p s (s.onPortal p f) := onPortal_frame s p f

/-- A delivered frame whose effect leaves its portal die calm. -/
theorem RunsFrame.of_calm {c : Instr} {s : State} {p : PortalId} {x : LinkFrame} {P : PortalState} {f : PortalState → PortalState}
    {Q : PortalState → Prop} (hexec : exec c s = delivered s p x f) (hP : s.portals.get p = P) (hp : P.por = false) (hc : (f P).calm)
    (hQ : ∀ R, UpToFrames (f P) R → Q R) : RunsFrame p c s Q :=
  ⟨_, hexec, (onPortal_onlyPortal ..).of_hostFrame, hQ _ (onPortal_calm (s := s.hostFrame p x) hP hp hc)⟩

/-- A command that delivers a frame other than TIME to a portal die. -/
theorem exec_deliveredTo {c : Instr} {p : PortalId} (h : c.deliveredTo = some p) (s : State) :
    (∃ x f, exec c s = delivered s p x f) ∨ ∃ hd d, c = .timeFrameReceived p hd d := by
  cases c <;> cases h
  case timeFrameReceived => exact .inr ⟨_, _, rfl⟩
  all_goals exact .inl ⟨_, _, rfl⟩

/-! ### TIME frames and background retraining (R311) -/

/-- An accepted frame leaves its SEQ, and nothing else (R297). -/
theorem accept_eq {e e' : LinkEnd} {h : FrameHdr} (ha : e.accept h = some e') : e' = { e with rxSeqs := e'.rxSeqs } := by
  unfold LinkEnd.accept at ha
  split at ha
  · obtain rfl := Option.some.inj ha
    rfl
  · exact absurd ha nofun

theorem prove_retrain (e : LinkEnd) (lane : Fin 2) : (e.prove lane).retrain = e.retrain := by
  unfold LinkEnd.prove
  split <;> rfl

/-- What a portal die does with a frame that it takes keeps the lanes under retraining where the frame's own effect keeps them. -/
theorem taking_retrain {f : PortalState → PortalState} (hf : ∀ P, (f P).link.fin.retrain = P.link.fin.retrain) (P : PortalState) (h : FrameHdr) :
    (P.taking h f).link.fin.retrain = P.link.fin.retrain := by
  unfold PortalState.taking
  split
  · rfl
  · split
    · rfl
    next e he => rw [hf, PortalState.modLink_link, accept_eq he]

theorem timeFrame_fin (P : PortalState) (h : FrameHdr) (d : Dword) : (P.timeFrame h d).link.fin = P.link.fin := by
  unfold PortalState.timeFrame
  extract_lets target e
  split <;> rfl

/-- What a portal die does with a TIME frame, its lane counted for R311. -/
def PortalState.timeTaken (h : FrameHdr) (d : Dword) (P : PortalState) : PortalState :=
  (P.modLink fun l => { l with fin := l.fin.prove h.lane }).taking h fun P => P.timeFrame h d

theorem timeTaken_retrain (h : FrameHdr) (d : Dword) (P : PortalState) : (P.timeTaken h d).link.fin.retrain = P.link.fin.retrain := by
  rw [PortalState.timeTaken, taking_retrain (fun P => by rw [timeFrame_fin]), PortalState.modLink_link, prove_retrain]

/-- What happens on a portal die keeps its lanes under retraining where its own effect does. -/
theorem onPortal_retrain {f : PortalState → PortalState} (hf : ∀ P, (f P).link.fin.retrain = P.link.fin.retrain) (s : State) (p : PortalId) :
    ((s.onPortal p f).portals.get p).link.fin.retrain = (s.portals.get p).link.fin.retrain := by
  cases hp : (s.portals.get p).por with
  | true => rw [onPortal_por hp]
  | false =>
    have sent := (SendsOnly.followUp (f (s.portals.get p)) s.clock p).trans (SendsOnly.reported (s.portals.get p) _ s.clock)
    rw [onPortal_run hp, State.setPortal_portals, Four.get_set, sent.fin_eq]
    exact hf _

theorem exec_timeFrameReceived (s : State) (p : PortalId) (h : FrameHdr) (d : Dword) :
    exec (.timeFrameReceived p h d) s = .next (((s.hostFrame p (.time h d)).onPortal p (PortalState.timeTaken h d)).rejoin p) := rfl

/-- Lanes rejoin only where one is under background retraining; then the host side takes them in, and the portal die does (R311). -/
theorem rejoin_cases (s : State) (p : PortalId) :
    s.rejoin p = s ∨ s.retraining p ∧ ∃ m f, s.rejoin p =
      (s.modLink p fun l => { l with fin := l.fin.rejoin m, evt := raise l.evt 4 }).onPortal p f := by
  unfold State.rejoin
  extract_lets l P m
  split
  · exact .inl rfl
  next hm =>
    refine .inr ⟨fun h0 => hm ?_, m, _, rfl⟩
    have hm0 : m = 0 := by
      have hl : l.fin.retrain ||| P.link.fin.retrain = 0 := h0
      simp [m, hl]
    simp [hm0]

/-- Lanes taken into the link after a delivered frame: the die, the frames on their way to it, and the lanes of its link alone differ. -/
theorem OnlyPortalAndFrames.rejoined {s t u : State} {p : PortalId} (h : OnlyPortalAndFrames p s t) (m : BitVec 2)
    (g : OnlyPortal p (t.modLink p fun l => { l with fin := l.fin.rejoin m, evt := raise l.evt 4 }) u) : OnlyPortalAndLanes p s u := by
  obtain ⟨heq, hother, hown⟩ := h
  obtain ⟨geq, gother⟩ := g
  have hlinks : u.links = t.links.set p { t.links.get p with fin := (t.links.get p).fin.rejoin m, evt := raise (t.links.get p).evt 4 } := by
    rw [geq]
    rfl
  refine ⟨?_, fun q hq => ⟨(gother q hq).trans (hother q hq).1, ?_⟩, m, ?_⟩
  · rw [hlinks, geq, heq]
    rfl
  · rw [hlinks, Four.get_set_ne _ hq]
    exact (hother q hq).2
  · rw [hlinks, Four.get_set, hown]
    rfl

/-- A lane under retraining after a TIME frame was so before it. -/
theorem retraining_of_timeTaken {s : State} {p : PortalId} {x : LinkFrame} {h : FrameHdr} {d : Dword}
    (hr : ((s.hostFrame p x).onPortal p (PortalState.timeTaken h d)).retraining p) : s.retraining p := by
  obtain ⟨-, -, hown⟩ := (onPortal_onlyPortal (s.hostFrame p x) p (PortalState.timeTaken h d)).of_hostFrame
  have hportal := onPortal_retrain (timeTaken_retrain h d) (s.hostFrame p x) p
  unfold State.retraining at hr ⊢
  rwa [hportal, hown] at hr

/-- Settles O8: the host side loses the frame that arrived, the die acts alone, and only a TIME frame can bring back a lane that was retraining. -/
theorem deliveredFramesStayOnTheirLink : Obligations.DeliveredFramesStayOnTheirLink := by
  intro c p s t hc ht
  obtain ⟨x, f, hf⟩ | ⟨h, d, rfl⟩ := exec_deliveredTo hc s
  · obtain rfl := Host.Outcome.next.inj (hf.symm.trans ht)
    exact .inl (onPortal_onlyPortal ..).of_hostFrame
  · obtain rfl := Host.Outcome.next.inj ((exec_timeFrameReceived s p h d).symm.trans ht)
    have taken := (onPortal_onlyPortal (s.hostFrame p (.time h d)) p (PortalState.timeTaken h d)).of_hostFrame
    have retraining := retraining_of_timeTaken (s := s) (p := p) (x := .time h d) (h := h) (d := d)
    generalize (s.hostFrame p (.time h d)).onPortal p (PortalState.timeTaken h d) = v at taken retraining
    obtain hr | ⟨hv, m, f, hr⟩ := rejoin_cases v p
    · rw [hr]
      exact .inl taken
    · rw [hr]
      exact .inr ⟨retraining hv, ⟨h, d, rfl⟩, taken.rejoined m (onPortal_onlyPortal ..)⟩

end Sys2Proof.Machine
end

section
/-! Brown-out hold and a jog that waits for its leaves. -/

namespace Sys2Proof.Machine

/-- A portal die in limp-home on which an opening jog waits for its leaves: none of them moves yet. -/
def jogWaiting : PortalState := { cls := .limp, link := { limp := true, failsafe := false, jogOpen := true } }

/-- The device at reset with a waiting jog on portal 0. -/
def jogWaitingState : State := State.reset.setPortal 0 jogWaiting

theorem jogWaiting_calm : jogWaiting.calm := ⟨rfl, .inr fun a => by rw [show jogWaiting.axes = .all {} from rfl, Three.get_all], rfl, rfl⟩

theorem exec_vfldHold (p : PortalId) (s : State) : exec (.vfldHold p) s = portalOnly s p fun P => P.fieldEnter s.clock p .hold := rfl

/-- In brown-out hold a jog whose leaves do not move yet is over (R357). -/
theorem vfldHold_ends_waiting_jog :
    ((jogWaitingState.onPortal 0 fun P => P.fieldEnter jogWaitingState.clock 0 .hold).portals.get 0).link.jogOpen = false := by
  rfl

/-- Refutes O58: the entry of brown-out hold is stated to change the supply, the axes and the armed programs alone, and it also ends a waiting jog. -/
theorem not_safetyOutputsSuppliesAndCurtains : ¬ Obligations.SafetyOutputsSuppliesAndCurtains := by
  intro h
  obtain ⟨-, -, hsupply, -⟩ := h
  obtain ⟨-, -, -, hhold, -⟩ := hsupply jogWaitingState 0 jogWaiting rfl jogWaiting_calm
  obtain ⟨t, ht, -, ⟨hsame, -⟩, -⟩ := hhold (.inl rfl)
  obtain rfl := Host.Outcome.next.inj ((exec_vfldHold 0 jogWaitingState).symm.trans ht)
  have hjog := congrArg (fun P : PortalState => P.link.jogOpen) hsame
  rw [vfldHold_ends_waiting_jog] at hjog
  exact absurd hjog (by decide)

end Sys2Proof.Machine
end

section
/-! Writes in a portal block. -/

namespace Sys2Proof.Machine

/-! ### Writes in a portal block keep the logic POR -/

theorem cmpCtlWrite_fault (f : FbState) (v : Word) (t : Dword) : (f.cmpCtlWrite v t).fault = false := by
  unfold FbState.cmpCtlWrite
  extract_lets g
  split <;> rfl

theorem pushEvent_por (P : PortalState) (ck : Nat) (e : EventFrame) : (P.pushEvent ck e).por = P.por :=
  (congrArg PortalState.por (OutputsOnly.pushEvent P ck e).eq :)

/-- A write of FB_CMPCTL reports at most a hit (R197). -/
theorem cmpCtl_por (P : PortalState) (ck : Nat) (a : AxisId) (v : Word) : (P.cmpCtl ck a v).por = P.por := by
  unfold PortalState.cmpCtl PortalState.fbApply
  extract_lets f0 o R rev ev ev' S T U
  have hfault : o.fault = false := cmpCtlWrite_fault ..
  have hU : U.por = P.por := by
    dsimp only [U]
    split
    · exact pushEvent_por ..
    · rfl
  rw [if_neg (by simp [hfault]), hU]

theorem fbWrite_por {P : PortalState} {ck : Nat} {a : AxisId} {o : Nat} {v rc : Word} {w : PortalWrite} (h : P.fbWrite ck a o v rc = some w) :
    w.portal.por = P.por := by
  unfold PortalState.fbWrite at h
  split at h <;> cases h
  case h_6 => exact cmpCtl_por P ck a v
  all_goals rfl

theorem axWrite_por {P : PortalState} {a : AxisId} {o : Nat} {v rc : Word} {w : PortalWrite} (h : P.axWrite a o v rc = some w) :
    w.portal.por = P.por := by
  unfold PortalState.axWrite at h
  split at h <;> cases h <;> rfl

theorem swWrite_por {P : PortalState} {o : Nat} {v rc : Word} {w : PortalWrite} (h : P.swWrite o v rc = some w) : w.portal.por = P.por := by
  unfold PortalState.swWrite at h
  dsimp only at h
  split at h
  · cases h; rfl
  · split at h <;> cases h <;> rfl

theorem inWrite_por {P : PortalState} {o : Nat} {v rc : Word} {w : PortalWrite} (h : P.inWrite o v rc = some w) : w.portal.por = P.por := by
  unfold PortalState.inWrite at h
  split at h <;> cases h <;> rfl

theorem learnWrite_por (P : PortalState) (v : Word) : (P.learnWrite v).por = P.por := by
  unfold PortalState.learnWrite
  extract_lets w
  split
  · split <;> rfl
  · rfl

theorem obWrite_por {P : PortalState} {o : Nat} {v rc : Word} {w : PortalWrite} (h : P.obWrite o v rc = some w) : w.portal.por = P.por := by
  unfold PortalState.obWrite at h
  split at h <;> cases h
  case h_2 => exact learnWrite_por P v
  all_goals rfl

/-- A choice of writes keeps what each of them keeps. -/
theorem por_of_ite {P : PortalState} {c : Prop} [Decidable c] {a b : Option PortalWrite} (ha : ∀ w, a = some w → w.portal.por = P.por)
    (hb : ∀ w, b = some w → w.portal.por = P.por) : ∀ w, (if c then a else b) = some w → w.portal.por = P.por := by
  split
  · exact ha
  · exact hb

theorem por_of_some {P Q : PortalState} {n : Nat} (h : Q.por = P.por) : ∀ w, some (PortalWrite.mk Q n) = some w → w.portal.por = P.por := by
  rintro _ ⟨⟩
  exact h

theorem por_of_none {P : PortalState} : ∀ w, (none : Option PortalWrite) = some w → w.portal.por = P.por := by
  rintro _ ⟨⟩

theorem writeAt_por {P : PortalState} {ck o : Nat} {v rc : Word} : ∀ w, P.writeAt ck o v rc = some w → w.portal.por = P.por := by
  unfold PortalState.writeAt
  have ax (a : AxisId) (n : Nat) : ∀ w, P.axWrite a n v rc = some w → w.portal.por = P.por := fun _ => axWrite_por
  have fb (a : AxisId) (n : Nat) : ∀ w, P.fbWrite ck a n v rc = some w → w.portal.por = P.por := fun _ => fbWrite_por
  refine por_of_ite (por_of_some rfl) ?_
  refine por_of_ite por_of_none ?_
  refine por_of_ite (ax _ _) (por_of_ite (ax _ _) (por_of_ite (ax _ _) ?_))
  refine por_of_ite (fb _ _) (por_of_ite (fb _ _) (por_of_ite (fb _ _) ?_))
  refine por_of_ite (fun _ => swWrite_por) (por_of_ite (fun _ => inWrite_por) ?_)
  refine por_of_ite (por_of_some rfl) ?_
  refine por_of_ite (fun _ => obWrite_por) ?_
  exact por_of_ite (por_of_some rfl) por_of_none

/-- A write of a portal-block word neither begins nor ends a logic POR. -/
theorem write_por (P : PortalState) (ck : Nat) (p : PortalId) (o : Nat) (v rc : Word) : (P.write ck p o v rc).portal.por = P.por := by
  unfold PortalState.write
  split
  next w h => exact writeAt_por w h
  next => rfl

/-! ### A register write that lies in a portal block -/

/-- A command of the host die that changes the portal dies alone. -/
theorem commit_portalsOnly (s : State) (x : Four PortalState) :
    s.commit { s with portals := x } = { s with portals := x, port := { s.port with hrdy := s.ready } } := by
  rw [commit_still _ _ (by simp [State.sameTraffic])]
  simp [State.interrupts, irqRises, State.ready, State.portAlive]

theorem exec_registerWrite (s : State) (addr v raced : Word) : exec (.registerWrite addr v raced) s = settled s (s.registerWrite addr.toNat v raced) := rfl

theorem registerWrite_linkDown {s : State} {a : Nat} {v rc : Word} {p : PortalId} {o : Nat} (h : portalWord a = some (p, o))
    (hl : (s.link p).up = false) : s.registerWrite a v rc = s := by
  unfold State.registerWrite
  simp [h, hl]

theorem registerWrite_linkUp {s : State} {a : Nat} {v rc : Word} {p : PortalId} {o : Nat} (halive : s.portAlive = true) (ha : a % 4 = 0)
    (h : portalWord a = some (p, o)) (hs : s.serves a = true) (hl : (s.link p).up = true) :
    s.registerWrite a v rc = s.onPortal p fun P => (P.write s.clock p o v rc).portal := by
  unfold State.registerWrite
  simp [halive, ha, h, hs, hl]

/-- Settles O22: a write that the link carries is made as its portal die makes it, and one that the link does not carry is no change to follow up. -/
theorem registerWriteInPortalBlock : Obligations.RegisterWriteInPortalBlock := by
  intro s addr v raced p o halive haddr hword hserves
  refine ⟨fun hl => ?_, fun hl hcalm => ?_⟩
  · rw [exec_registerWrite, registerWrite_linkDown hword hl, settled, commit_self]
  · obtain ⟨heq, hother⟩ := onPortal_frame s p fun P => (P.write s.clock p o v raced).portal
    have hpor : (s.portals.get p).por = false := (write_por ..).symm.trans hcalm.1
    have hcommit := (congrArg s.commit heq).trans (commit_portalsOnly s _)
    refine .of_settled (by rw [exec_registerWrite, registerWrite_linkUp halive haddr hword hserves hl]) ?_
    rw [hcommit]
    exact ⟨onPortal_calm rfl hpor hcalm, rfl, hother⟩

end Sys2Proof.Machine
end

section
/-! COMMAND frames that arrive at a portal die. -/

namespace Sys2Proof.Machine

/-! ### What follows a command whose effect is known but for the outputs -/

namespace OutputsOnly

variable {P Q R : PortalState}

/-- A frame is one of the outputs. -/
theorem of_upToFrames (h : UpToFrames P Q) : OutputsOnly P Q where
  eq := by rw [h.1]
  trip a := by rw [h.1]
  dem o := by rw [h.1]

/-- The outputs bring nothing that would follow a command. -/
theorem calm (h : OutputsOnly P Q) (hc : P.calm) : Q.calm := by
  obtain ⟨hpor, hcls, hwaits, hcount⟩ := hc
  refine ⟨?_, ?_, ?_, ?_⟩
  · rw [h.eq, hpor]
  · obtain hcls | htrip := hcls
    · exact .inl (by rw [h.eq, hcls])
    · exact .inr fun a => (h.trip a).trans (htrip a)
  · rw [h.eq, hwaits]
  · rw [h.eq, hcount]

end OutputsOnly

/-- A command of one portal die whose effect is that of `f`, known as `X` but for the outputs. -/
theorem RunsPortal.of_outputsOnly {c : Instr} {s : State} {p : PortalId} {P X : PortalState} {f : PortalState → PortalState} {Q : PortalState → Prop}
    (hexec : exec c s = portalOnly s p f) (hP : s.portals.get p = P) (hp : P.por = false) (hc : X.calm) (h : OutputsOnly X (f P))
    (hQ : ∀ R, OutputsOnly X R → Q R) : RunsPortal p c s Q :=
  .of_calm hexec hP hp (h.calm hc) fun R hR => hQ R (h.trans (.of_upToFrames hR))

/-- A delivered frame whose effect is that of `f`, known as `X` but for the outputs. -/
theorem RunsFrame.of_outputsOnly {c : Instr} {s : State} {p : PortalId} {x : LinkFrame} {P X : PortalState} {f : PortalState → PortalState}
    {Q : PortalState → Prop} (hexec : exec c s = delivered s p x f) (hP : s.portals.get p = P) (hp : P.por = false) (hc : X.calm)
    (h : OutputsOnly X (f P)) (hQ : ∀ R, OutputsOnly X R → Q R) : RunsFrame p c s Q :=
  .of_calm hexec hP hp (h.calm hc) fun R hR => hQ R (h.trans (.of_upToFrames hR))

/-! ### Frames that a portal die takes -/

/-- The portal die `P` with what an accepted frame leaves in its end of the link (R297). -/
def PortalState.withEnd (P : PortalState) (e : LinkEnd) : PortalState := P.modLink fun l => { l with fin := e }

theorem taking_linkDown {P : PortalState} (h : P.link.up = false) (x : FrameHdr) (f : PortalState → PortalState) : P.taking x f = P := by
  simp [PortalState.taking, h]

theorem taking_duplicate {P : PortalState} {x : FrameHdr} (h : P.link.fin.accept x = none) (f : PortalState → PortalState) : P.taking x f = P := by
  simp [PortalState.taking, h]

theorem taking_accepted {P : PortalState} {x : FrameHdr} {e : LinkEnd} (hc : P.calm) (hup : P.link.up = true) (h : P.link.fin.accept x = some e)
    (f : PortalState → PortalState) : P.taking x f = f (P.withEnd e) := by
  obtain ⟨hpor, -, hwaits, -⟩ := hc
  simp [PortalState.taking, PortalState.withEnd, hpor, hup, hwaits, h]

/-! ### Kernel demands of the safety outputs -/

/-- The portal die `P` with a kernel demand for one safety output, as a COMMAND carries it (R24). -/
def PortalState.demanded (P : PortalState) (o : SoId) (b : Bool) : PortalState := P.modSo o fun x => { x with dem := b }

theorem PortalState.demanded_dem (P : PortalState) (o : SoId) (b : Bool) : ((P.demanded o b).sos.so o).dem = b := by
  show ((P.sos.setSo o _).so o).dem = b
  rw [Two.so_setSo]

theorem PortalState.demanded_dem_ne (P : PortalState) {o i : SoId} (h : i ≠ o) (b : Bool) : ((P.demanded o b).sos.so i).dem = (P.sos.so i).dem := by
  show ((P.sos.setSo o _).so i).dem = _
  rw [Two.so_setSo_ne _ h]

namespace OutputsOnly

variable {P Q : PortalState}

/-- Two changes of one safety output that agree in its demand. -/
theorem modSo_modSo {o : SoId} {f g : SoState → SoState} (h : ∀ x, (g x).dem = (f x).dem) (P : PortalState) :
    OutputsOnly (P.modSo o f) (P.modSo o g) where
  eq := rfl
  trip _ := rfl
  dem i := by
    show ((P.sos.setSo o _).so i).dem = ((P.sos.setSo o _).so i).dem
    by_cases hi : i = o
    · subst hi
      rw [Two.so_setSo, Two.so_setSo, h]
    · rw [Two.so_setSo_ne _ hi, Two.so_setSo_ne _ hi]

theorem setDem (P : PortalState) (ck : Nat) (o : SoId) (b : Bool) (cycle : Half) : OutputsOnly (P.demanded o b) (P.setDem ck o b cycle) := by
  unfold PortalState.demanded PortalState.setDem
  exact (modSo_modSo (by exact fun _ => rfl) P).trans (soRefresh ..)

theorem demanded (h : OutputsOnly P Q) (o : SoId) (b : Bool) : OutputsOnly (P.demanded o b) (Q.demanded o b) where
  eq := by
    unfold PortalState.demanded PortalState.modSo
    rw [h.eq]
  trip := h.trip
  dem i := by
    by_cases hi : i = o
    · subst hi
      rw [PortalState.demanded_dem, PortalState.demanded_dem]
    · rw [PortalState.demanded_dem_ne _ hi, PortalState.demanded_dem_ne _ hi, h.dem]

/-! ### The parts of a COMMAND that act on the outputs -/

theorem applyHoldFirm (P : PortalState) (ck : Nat) (f : CommandFrame) : OutputsOnly P (P.applyHoldFirm ck f) :=
  setAxes fun a => by fin_cases a <;> rfl

theorem permitStop (P : PortalState) (ck : Nat) : OutputsOnly P (P.permitStop ck) := by
  refine foldl (fun R a => ?_) _ P
  split
  · exact controlledStop ..
  · exact .refl R

end OutputsOnly

/-! ### A COMMAND frame -/

/-- The portal die `P` with what the kernel says of its state in a COMMAND (R23, R304). -/
def PortalState.commanded (P : PortalState) (ck : Nat) (f : CommandFrame) : PortalState :=
  { P with cls := P.nextCls f, cust := (f.cust &&& 0x3F).toNat, link := { P.link with last := some f, lastAt := ck, orderDue := f.order } }

/-- The portal die `P` with the marks that RELEASED of a COMMAND leaves in its link (R38, R44, R317). -/
def PortalState.releaseMarks (P : PortalState) (f : CommandFrame) : PortalState :=
  if wbit f.flags 0 then P.modLink fun l => { l with keeperArmed := false, failsafe := l.failsafe && P.cls == .fault, permitHeld := false }
  else if P.link.failsafe || P.link.limp then P.modLink fun l => { l with keeperArmed := true, permitHeld := false }
  else (P.modLink fun l => { l with keeperArmed := true, permitHeld := false }).failsafeMarks

/-- The portal die `P` with the motion of a COMMAND taken, or refused for the reason `why` (R23). -/
def PortalState.motionTaken (P : PortalState) (f : CommandFrame) (why : Nat) : PortalState :=
  if why != 0 then { P with refuseWhy := BitVec.ofNat 8 why, refuseCnt := satInc P.refuseCnt 0xFFFF }
  else P.modLink fun l => { l with motionDue := f.motion.map fun b => if motionOp b = 0 then none else some b }

/-- What a COMMAND makes of the portal die `P`, but for its outputs; `why` is the reason for which its motion is refused. -/
def PortalState.commandTaken (P : PortalState) (ck : Nat) (f : CommandFrame) (why : Nat) : PortalState :=
  ((((P.commanded ck f).releaseMarks f).demanded .a (wbit f.flags 2)).demanded .b (wbit f.flags 3)).motionTaken f why

/-- Why the motion of a new COMMAND is refused (R23). -/
def PortalState.whyRefused (P : PortalState) (ck : Nat) (f : CommandFrame) (stopNow : Bool) : Nat := (P.commanded ck f).refusal f (P.acting || stopNow)

theorem leaveLimp_of_not_limp {P : PortalState} (h : P.link.limp = false) (ck : Nat) (f : CommandFrame) : P.leaveLimp ck f = P := by
  simp [PortalState.leaveLimp, h]

namespace OutputsOnly

variable {P Q : PortalState}

theorem applyRelease (P : PortalState) (ck : Nat) (f : CommandFrame) : OutputsOnly (P.releaseMarks f) (P.applyRelease ck f) := by
  unfold PortalState.releaseMarks PortalState.applyRelease
  split
  · exact .refl _
  · extract_lets R
    have hfailsafe : (R.link.failsafe || R.link.limp) = (P.link.failsafe || P.link.limp) := rfl
    rw [hfailsafe]
    split
    · exact .refl _
    · exact applyFailsafe R ck

theorem motionTaken (h : OutputsOnly P Q) (f : CommandFrame) (why : Nat) : OutputsOnly (P.motionTaken f why) (Q.motionTaken f why) := by
  unfold PortalState.motionTaken
  split
  · exact ⟨by rw [h.eq], h.trip, h.dem⟩
  · exact ⟨by rw [h.eq]; rfl, h.trip, h.dem⟩

/-- A COMMAND with a new MSEQ outside limp-home: the state it carries, its motion taken or refused, and outputs (R23, R304). -/
theorem command (hl : P.link.limp = false) {f : CommandFrame} (hnew : ∀ g, P.link.last = some g → g.mseq ≠ f.mseq) (ck : Nat) (x y : Bool) :
    OutputsOnly (P.commandTaken ck f (P.whyRefused ck f x)) (P.command ck f x y) := by
  unfold PortalState.command
  rw [leaveLimp_of_not_limp hl]
  extract_lets P0 begun new why taken released permitted asked held stopped cleared switched flagged moved
  have isNew : new = true := by
    dsimp only [new]
    split
    next g hg => simpa using hnew g hg
    next => rfl
  have hwhy : why = P.whyRefused ck f x := if_pos isNew
  have hreleased : OutputsOnly ((P.commanded ck f).releaseMarks f) released := applyRelease taken ck f
  have hpermitted : OutputsOnly released permitted := by
    dsimp only [permitted]
    split
    · exact (setPerm ..).trans (setPerm ..)
    · exact .refl released
  have hasked : OutputsOnly ((permitted.demanded .a (wbit f.flags 2)).demanded .b (wbit f.flags 3)) asked :=
    (demanded (setDem permitted ck .a _ _) .b _).trans (setDem _ ck .b _ _)
  have hheld : OutputsOnly asked held := applyHoldFirm asked ck f
  have hstopped : OutputsOnly held stopped := by
    dsimp only [stopped]
    split
    · exact .refl held
    · exact permitStop held ck
  have hcleared : OutputsOnly stopped cleared := by
    dsimp only [cleared]
    split
    · exact .refl stopped
    · exact learnClear stopped
  have hswitched : OutputsOnly cleared switched := applyDemands cleared ck
  have hflagged : OutputsOnly switched flagged := by
    dsimp only [flagged]
    split
    · exact lhFlag switched 0
    · exact .refl switched
  have hmoved : OutputsOnly (flagged.motionTaken f why) moved := by
    unfold PortalState.motionTaken
    dsimp only [moved]
    split
    · exact event ..
    · exact .refl _
  have hsent : OutputsOnly moved (if moved.link.lowRate then moved else moved.sendState ck) := by
    split
    · exact .refl moved
    · exact sendState moved ck
  have hdemands := ((hreleased.trans hpermitted).demanded .a (wbit f.flags 2)).demanded .b (wbit f.flags 3)
  have houtputs := hasked.trans (hheld.trans (hstopped.trans (hcleared.trans (hswitched.trans hflagged))))
  rw [← hwhy]
  exact ((hdemands.trans houtputs).motionTaken f why).trans (hmoved.trans hsent)

end OutputsOnly

/-! ### Why a motion is refused (R23) -/

theorem Three.all_toList {α : Type} (t : Three α) (p : α → Bool) : t.toList.all p = true ↔ ∀ a, p (t.get a) = true := by
  refine ⟨fun h a => ?_, fun h => ?_⟩
  · have hall : p t.x0 = true ∧ p t.x1 = true ∧ p t.x2 = true := by simpa [Three.toList] using h
    obtain ⟨h0, h1, h2⟩ := hall
    fin_cases a
    · exact h0
    · exact h1
    · exact h2
  · have hall : p t.x0 = true ∧ p t.x1 = true ∧ p t.x2 = true := ⟨h 0, h 1, h 2⟩
    simpa [Three.toList] using hall

/-- A motion byte that asks for something. -/
theorem motions_asked {f : CommandFrame} {a : AxisId} (ha : motionOp (f.motion.get a) ≠ 0) : (f.motion.toList.all fun b => motionOp b = 0) = false := by
  refine Bool.eq_false_iff.mpr fun h => ha ?_
  simpa using (Three.all_toList _ _).mp h a

theorem refusal_allowed {P : PortalState} {f : CommandFrame} (hd : f.dstate = 5) (hr : wbit f.flags 0 = true) (ho : wbit f.flags 1 = true)
    (ha : ∀ a, P.motionAllowed P.cls (f.motion.get a) = true) : P.refusal f false = 0 := by
  have hall : (f.motion.toList.all fun b => P.motionAllowed P.cls b) = true := (Three.all_toList _ _).mpr ha
  simp [PortalState.refusal, hd, hr, ho, hall]

theorem refusal_state {f : CommandFrame} {a : AxisId} (ha : motionOp (f.motion.get a) ≠ 0) (h : f.dstate ≠ 5 ∨ wbit f.flags 0 = false)
    (P : PortalState) (busy : Bool) : P.refusal f busy = if f.dstate ≠ 5 then 1 else 2 := by
  unfold PortalState.refusal
  dsimp only
  rw [motions_asked ha, if_neg nofun]
  by_cases hd : f.dstate = 5
  · have hr : wbit f.flags 0 = false := h.resolve_left (not_not_intro hd)
    simp [hd, hr]
  · rw [if_pos (bne_iff_ne.mpr hd), if_pos hd]

theorem refusal_busy {f : CommandFrame} {a : AxisId} (ha : motionOp (f.motion.get a) ≠ 0) (hd : f.dstate = 5) (hr : wbit f.flags 0 = true)
    (P : PortalState) : P.refusal f true = 4 := by
  unfold PortalState.refusal
  dsimp only
  rw [motions_asked ha, if_neg nofun]
  simp [hd, hr]

/-! ### What a COMMAND leaves -/

section
variable (P : PortalState) (ck : Nat) (f : CommandFrame) (why : Nat)

/-- RELEASED leaves its marks in the link alone. -/
theorem releaseMarks_eq : P.releaseMarks f = { P with link := (P.releaseMarks f).link } := by
  unfold PortalState.releaseMarks
  split
  · rfl
  · split <;> rfl

/-- In the link RELEASED concerns neither the COMMAND itself nor the outcome of a link loss. -/
theorem releaseMarks_link : (P.releaseMarks f).link.last = P.link.last ∧ (P.releaseMarks f).link.orderDue = P.link.orderDue ∧
    (P.releaseMarks f).link.outcomeWaits = P.link.outcomeWaits := by
  unfold PortalState.releaseMarks
  split
  · exact ⟨rfl, rfl, rfl⟩
  · split <;> exact ⟨rfl, rfl, rfl⟩

/-- A COMMAND that does not release the portal discards what was commanded and not begun, unless the fail-safe states stand already (R23, R321). -/
theorem releaseMarks_motionDue (hl : P.link.limp = false) : (P.releaseMarks f).link.motionDue =
    if wbit f.flags 0 = true ∨ P.link.failsafe = true then P.link.motionDue else .all none := by
  unfold PortalState.releaseMarks
  by_cases hr : wbit f.flags 0 = true
  · rw [if_pos hr, if_pos (.inl hr)]
    rfl
  · by_cases hs : P.link.failsafe = true
    · rw [if_neg hr, if_pos (by simp [hs]), if_pos (.inr hs)]
      rfl
    · rw [if_neg hr, if_neg (by simp [hs, hl]), if_neg (not_or_intro hr hs)]
      rfl

theorem motionTaken_refused (h : why ≠ 0) :
    P.motionTaken f why = { P with refuseWhy := BitVec.ofNat 8 why, refuseCnt := satInc P.refuseCnt 0xFFFF } := if_pos (bne_iff_ne.mpr h)

theorem motionTaken_taken : P.motionTaken f 0 = P.modLink fun l => { l with motionDue := f.motion.map fun b => if motionOp b = 0 then none else some b } :=
  rfl

/-- The kernel demands that a COMMAND carries stand once both are set. -/
theorem demanded_both (a b : Bool) : (((P.demanded .a a).demanded .b b).sos.so .a).dem = a ∧ (((P.demanded .a a).demanded .b b).sos.so .b).dem = b :=
  ⟨(PortalState.demanded_dem_ne _ (by decide) b).trans (PortalState.demanded_dem P .a a), PortalState.demanded_dem _ .b b⟩

/-- A refused motion leaves the reason and the count beside what else the COMMAND brings. -/
theorem commandTaken_refused (h : why ≠ 0) : ∃ t : Two SoState, (t.so .a).dem = wbit f.flags 2 ∧
    P.commandTaken ck f why = { P.commanded ck f with
      sos := t, link := ((P.commanded ck f).releaseMarks f).link, refuseWhy := BitVec.ofNat 8 why, refuseCnt := satInc P.refuseCnt 0xFFFF } := by
  obtain ⟨ha, -⟩ := demanded_both ((P.commanded ck f).releaseMarks f) (wbit f.flags 2) (wbit f.flags 3)
  refine ⟨_, ha, ?_⟩
  rw [PortalState.commandTaken, motionTaken_refused _ _ _ h, releaseMarks_eq]
  rfl

/-- A motion that is not refused is due. -/
theorem commandTaken_taken : ∃ t : Two SoState, (t.so .a).dem = wbit f.flags 2 ∧ (t.so .b).dem = wbit f.flags 3 ∧
    P.commandTaken ck f 0 = { P.commanded ck f with
      sos := t
      link := { ((P.commanded ck f).releaseMarks f).link with motionDue := f.motion.map fun b => if motionOp b = 0 then none else some b } } := by
  obtain ⟨ha, hb⟩ := demanded_both ((P.commanded ck f).releaseMarks f) (wbit f.flags 2) (wbit f.flags 3)
  refine ⟨_, ha, hb, ?_⟩
  rw [PortalState.commandTaken, motionTaken_taken, releaseMarks_eq]
  rfl

end

/-- A COMMAND leaves a calm portal die outside FAULT calm. -/
theorem commandTaken_calm {P : PortalState} (hc : P.calm) (hf : P.cls ≠ .fault) (ck : Nat) (f : CommandFrame) (why : Nat) :
    (P.commandTaken ck f why).calm := by
  obtain ⟨hpor, hcls, hwaits, hcount⟩ := hc
  have htrip := hcls.resolve_left hf
  obtain ⟨-, -, hmarks⟩ := releaseMarks_link (P.commanded ck f) f
  by_cases h : why = 0
  · subst h
    obtain ⟨t, -, -, ht⟩ := commandTaken_taken P ck f
    rw [ht]
    exact ⟨hpor, .inr htrip, hmarks.trans hwaits, hcount⟩
  · obtain ⟨t, -, ht⟩ := commandTaken_refused P ck f why h
    rw [ht]
    exact ⟨hpor, .inr htrip, hmarks.trans hwaits, hcount⟩

/-! ### COMMAND frames that arrive -/

theorem exec_commandReceived (p : PortalId) (h : FrameHdr) (f : CommandFrame) (x y : Bool) (s : State) :
    exec (.commandReceived p h f x y) s = delivered s p (.command h f) fun P => P.commandReceived s.clock h f x y := rfl

/-- Before its takeover is complete a portal die counts a COMMAND that it takes (R324). -/
theorem commandReceived_early {P : PortalState} {h : FrameHdr} {e : LinkEnd} (hc : P.calm) (hup : P.link.up = true)
    (he : P.link.fin.accept h = some e) (ht : P.link.takeover ≠ .ready) (ck : Nat) (f : CommandFrame) (x y : Bool) :
    P.commandReceived ck h f x y = P.modLink fun l => { l with fin := e, early := satInc l.early 255 } := by
  unfold PortalState.commandReceived
  rw [taking_accepted hc hup he]
  split
  next hr => exact absurd hr ht
  next => rfl

theorem commandReceived_ready {P : PortalState} {h : FrameHdr} {e : LinkEnd} (hc : P.calm) (hup : P.link.up = true)
    (he : P.link.fin.accept h = some e) (ht : P.link.takeover = .ready) (ck : Nat) (f : CommandFrame) (x y : Bool) :
    P.commandReceived ck h f x y = (P.withEnd e).command ck f x y := by
  unfold PortalState.commandReceived
  rw [taking_accepted hc hup he]
  split
  next => rfl
  next hr => exact absurd ht hr

section
variable {s : State} {p : PortalId} {P : PortalState} {h : FrameHdr} {f : CommandFrame} {x y : Bool} {e : LinkEnd}

/-- A COMMAND that the portal die does not take changes nothing (R297). -/
theorem runs_command_untaken (hP : s.portals.get p = P) (hc : P.calm) (hu : P.link.up = false ∨ P.link.fin.accept h = none) :
    RunsFrame p (.commandReceived p h f x y) s fun Q => UpToFrames P Q := by
  have huntaken : P.commandReceived s.clock h f x y = P := by
    obtain hu | hu := hu
    · exact taking_linkDown hu ..
    · exact taking_duplicate hu _
  refine .of_calm (exec_commandReceived ..) hP hc.1 ?_ fun R hR => ?_
  · rwa [huntaken]
  · rwa [huntaken] at hR

/-- A COMMAND before the takeover is complete is counted (R324). -/
theorem runs_command_early (hP : s.portals.get p = P) (hc : P.calm) (hup : P.link.up = true) (he : P.link.fin.accept h = some e)
    (ht : P.link.takeover ≠ .ready) : RunsFrame p (.commandReceived p h f x y) s fun Q =>
      UpToLinkEnd { P with link := { P.link with early := satInc P.link.early 255 } } Q := by
  have hcounted := commandReceived_early hc hup he ht s.clock f x y
  refine .of_calm (exec_commandReceived ..) hP hc.1 ?_ fun R hR => ?_
  · rw [hcounted]
    exact hc
  · rw [hcounted] at hR
    obtain ⟨heq, hglEvt⟩ := hR
    exact ⟨by rw [heq]; rfl, hglEvt⟩

/-- A new COMMAND on a portal die outside limp-home (R23, R304). -/
theorem runs_command (hP : s.portals.get p = P) (hc : P.calm) (hf : P.cls ≠ .fault) (hup : P.link.up = true) (he : P.link.fin.accept h = some e)
    (ht : P.link.takeover = .ready) (hl : P.link.limp = false) (hnew : ∀ g, P.link.last = some g → g.mseq ≠ f.mseq) {why : Nat}
    (hwhy : (P.withEnd e).whyRefused s.clock f x = why) {Q : PortalState → Prop}
    (hQ : ∀ R, OutputsOnly ((P.withEnd e).commandTaken s.clock f why) R → Q R) :
    RunsFrame p (.commandReceived p h f x y) s Q := by
  have taken : OutputsOnly ((P.withEnd e).commandTaken s.clock f why) (P.commandReceived s.clock h f x y) := by
    rw [commandReceived_ready hc hup he ht, ← hwhy]
    exact .command (P := P.withEnd e) hl hnew s.clock x y
  exact .of_outputsOnly (exec_commandReceived ..) hP hc.1 (commandTaken_calm (P := P.withEnd e) hc hf s.clock f why) taken hQ

/-- A new COMMAND whose motion is refused (R23). -/
theorem runs_command_refused (hP : s.portals.get p = P) (hc : P.calm) (hf : P.cls ≠ .fault) (hup : P.link.up = true)
    (he : P.link.fin.accept h = some e) (ht : P.link.takeover = .ready) (hl : P.link.limp = false)
    (hnew : ∀ g, P.link.last = some g → g.mseq ≠ f.mseq) {why : Nat} (h0 : why ≠ 0)
    (hwhy : (P.withEnd e).whyRefused s.clock f x = why) :
    RunsFrame p (.commandReceived p h f x y) s fun Q => Q.link.last = some f ∧
      Q.link.motionDue = (if wbit f.flags 0 = true ∨ P.link.failsafe = true then P.link.motionDue else .all none) ∧
      Q.refuseWhy = BitVec.ofNat 8 why ∧ Q.refuseCnt = satInc P.refuseCnt 0xFFFF ∧ (Q.sos.so .a).dem = wbit f.flags 2 := by
  refine runs_command hP hc hf hup he ht hl hnew hwhy fun R hR => ?_
  obtain ⟨t, hdem, htaken⟩ := commandTaken_refused (P.withEnd e) s.clock f why h0
  obtain ⟨hlast, -, -⟩ := releaseMarks_link ((P.withEnd e).commanded s.clock f) f
  rw [htaken] at hR
  refine ⟨?_, ?_, ?_, ?_, (hR.dem .a).trans hdem⟩
  · rw [hR.eq]
    exact hlast
  · rw [hR.eq]
    exact releaseMarks_motionDue _ f hl
  · rw [hR.eq]
  · rw [hR.eq]
    rfl

/-- A new COMMAND that a portal die, which neither moves nor stops an axis itself and is not locked out, takes with its motion (R23, R24, R304). -/
theorem runs_command_taken (hP : s.portals.get p = P) (hc : P.calm) (hf : P.cls ≠ .fault) (hup : P.link.up = true)
    (he : P.link.fin.accept h = some e) (ht : P.link.takeover = .ready) (hl : P.link.limp = false)
    (hnew : ∀ g, P.link.last = some g → g.mseq ≠ f.mseq) (hacting : P.acting = false) (hlock : P.ob.lockCause = 0) (hx : x = false)
    (hg : guardedOf f.cls.toNat ≠ .fault) (hd : f.dstate = 5) (hr : wbit f.flags 0 = true) (ho : wbit f.flags 1 = true)
    (ha : ∀ a, P.motionAllowed (guardedOf f.cls.toNat) (f.motion.get a) = true) :
    RunsFrame p (.commandReceived p h f x y) s fun Q => Q.link.last = some f ∧ Q.link.orderDue = f.order ∧
      (∀ a, Q.link.motionDue.get a = if motionOp (f.motion.get a) = 0 then none else some (f.motion.get a)) ∧
      Q.cls = guardedOf f.cls.toNat ∧ Q.cust = (f.cust &&& 0x3F).toNat ∧ (Q.sos.so .a).dem = wbit f.flags 2 ∧
      (Q.sos.so .b).dem = wbit f.flags 3 ∧ Q.refuseCnt = P.refuseCnt ∧ Q.link.failsafe = false ∧ Q.link.keeperArmed = false := by
  subst hx
  have hown : P.ownMotion = false := by
    unfold PortalState.acting at hacting
    simp only [Bool.or_eq_false_iff] at hacting
    exact hacting.1.1
  have hcls : P.nextCls f = guardedOf f.cls.toNat := by simp [PortalState.nextCls, hf, hlock, hl, hown]
  have hwhy : (P.withEnd e).whyRefused s.clock f false = 0 := by
    unfold PortalState.whyRefused
    rw [show ((P.withEnd e).acting || false) = false from by rw [Bool.or_false]; exact hacting]
    refine refusal_allowed hd hr ho fun a => ?_
    show P.motionAllowed (P.nextCls f) (f.motion.get a) = true
    rw [hcls]
    exact ha a
  refine runs_command hP hc hf hup he ht hl hnew hwhy fun R hR => ?_
  obtain ⟨t, hdemA, hdemB, htaken⟩ := commandTaken_taken (P.withEnd e) s.clock f
  have hmarks : (((P.withEnd e).commanded s.clock f).releaseMarks f) = _ := if_pos hr
  rw [htaken, hmarks] at hR
  refine ⟨?_, ?_, fun a => ?_, ?_, ?_, (hR.dem .a).trans hdemA, (hR.dem .b).trans hdemB, ?_, ?_, ?_⟩
  · rw [hR.eq]; rfl
  · rw [hR.eq]; rfl
  · rw [hR.eq]
    exact Three.get_map ..
  · rw [hR.eq]
    exact hcls
  · rw [hR.eq]; rfl
  · rw [hR.eq]; rfl
  · rw [hR.eq]
    show (P.link.failsafe && P.nextCls f == .fault) = false
    rw [hcls, beq_eq_false_iff_ne.mpr hg, Bool.and_false]
  · rw [hR.eq]; rfl

end

end Sys2Proof.Machine
end

section
/-! Motions that are due: runs, controlled stops, disables. -/

namespace Sys2Proof.Machine

/-! ### Changes of several axes -/

@[simp] theorem Three.get_mapIdx {α β : Type} (f : Fin 3 → α → β) (t : Three α) (i : Fin 3) : (t.mapIdx f).get i = f i (t.get i) := by
  fin_cases i <;> rfl

/-- The portal die `P` with the axes of `g` changed, each by `f`. -/
def PortalState.modAxes (P : PortalState) (g : List AxisId) (f : AxisId → AxisState → AxisState) : PortalState :=
  { P with axes := P.axes.mapIdx fun i x => if g.contains i then f i x else x }

theorem PortalState.modAxes_get (P : PortalState) (g : List AxisId) (f : AxisId → AxisState → AxisState) (d : AxisId) :
    (P.modAxes g f).axes.get d = if g.contains d then f d (P.axes.get d) else P.axes.get d := Three.get_mapIdx ..

theorem PortalState.modAxes_nil (P : PortalState) (f : AxisId → AxisState → AxisState) : P.modAxes [] f = P := rfl

theorem Three.ext_get {α : Type} {t u : Three α} (h : ∀ i, t.get i = u.get i) : t = u := by
  obtain ⟨x0, x1, x2⟩ := t
  obtain ⟨y0, y1, y2⟩ := u
  have h0 : x0 = y0 := h 0
  have h1 : x1 = y1 := h 1
  have h2 : x2 = y2 := h 2
  rw [h0, h1, h2]

/-- Axes changed one after another are changed all together. -/
theorem modAxis_modAxes {a : AxisId} {g : List AxisId} (ha : a ∉ g) (f : AxisId → AxisState → AxisState) (P : PortalState) :
    (P.modAxis a (f a)).modAxes g f = P.modAxes (a :: g) f := by
  refine congrArg (fun t => { P with axes := t }) (Three.ext_get fun d => ?_)
  rw [Three.get_mapIdx, Three.get_mapIdx, List.contains_cons, PortalState.modAxis_axes]
  by_cases hd : d = a
  · subst hd
    simp [ha]
  · simp [Three.get_set_ne _ hd, hd]

theorem foldl_modAxis {g : List AxisId} (hg : g.Nodup) (f : AxisId → AxisState → AxisState) (P : PortalState) :
    g.foldl (fun R a => R.modAxis a (f a)) P = P.modAxes g f := by
  induction g generalizing P with
  | nil => rfl
  | cons a r ih =>
    obtain ⟨ha, hr⟩ := List.nodup_cons.mp hg
    rw [List.foldl_cons, ih hr, modAxis_modAxes ha]

/-! ### Motion bytes that are due -/

theorem takeMotion_none {P : PortalState} {a : AxisId} (h : P.link.motionDue.get a = none) (op : Nat) : P.takeMotion a op = none := by
  simp [PortalState.takeMotion, h]

theorem takeMotion_due {P : PortalState} {a : AxisId} {b : Byte} (h : P.link.motionDue.get a = some b) :
    P.takeMotion a (motionOp b) = some (b, P.modLink fun l => { l with motionDue := l.motionDue.set a none }) := by
  simp [PortalState.takeMotion, h]

/-- The axes that a run byte due on an axis drives: that axis among them, and none of them twice (R151). -/
theorem mem_sameRun (P : PortalState) (a : AxisId) (b : Byte) : a ∈ P.sameRun a b := by
  simp [PortalState.sameRun]
  fin_cases a <;> simp

theorem nodup_sameRun (P : PortalState) (a : AxisId) (b : Byte) : (P.sameRun a b).Nodup := List.Nodup.filter _ (by decide)

/-- The portal die `P` with the motion bytes of the axes `g` taken. -/
def PortalState.dueTaken (P : PortalState) (g : List AxisId) : PortalState :=
  P.modLink fun l => { l with motionDue := l.motionDue.mapIdx fun i x => if g.contains i then none else x }

theorem dueTaken_get (P : PortalState) (g : List AxisId) (d : AxisId) :
    (P.dueTaken g).link.motionDue.get d = if g.contains d then none else P.link.motionDue.get d := Three.get_mapIdx ..

theorem dueTaken_dueTaken {P : PortalState} {a : AxisId} {g : List AxisId} (ha : a ∈ g) :
    (P.modLink fun l => { l with motionDue := l.motionDue.set a none }).dueTaken g = P.dueTaken g := by
  refine congrArg (fun t => { P with link := { P.link with motionDue := t } }) (Three.ext_get fun d => ?_)
  rw [Three.get_mapIdx, Three.get_mapIdx, PortalState.modLink_link]
  by_cases hd : d = a
  · subst hd
    simp [ha]
  · rw [Three.get_set_ne _ hd]

/-- The portal die `P` with run byte `b` of the COMMAND with MSEQ `q` kept for the axes `g` (R357). -/
def PortalState.keptFor (P : PortalState) (g : List AxisId) (b q : Byte) : PortalState :=
  P.modLink fun l => { l with kept := l.kept.mapIdx fun i x => if g.contains i then some (b, q) else x }

theorem keptFor_get (P : PortalState) (g : List AxisId) (b q : Byte) (d : AxisId) :
    (P.keptFor g b q).link.kept.get d = if g.contains d then some (b, q) else P.link.kept.get d := Three.get_mapIdx ..

/-- A run byte that is due, in brown-out hold (R161, R172, R357). -/
theorem motionRun_holding {P : PortalState} {a : AxisId} {b : Byte} (h : P.link.motionDue.get a = some b) (hop : motionOp b = 1) (hh : P.holding = true)
    (ck : Nat) : ∃ q, P.motionRun ck a =
      ((P.dueTaken (P.sameRun a b)).keptFor (P.sameRun a b) b q).modAxes (P.sameRun a b) fun _ x => { x with atEnd := false, holdRed := false } := by
  have htake := takeMotion_due h
  rw [hop] at htake
  unfold PortalState.motionRun
  rw [htake]
  dsimp only
  split
  next => exact ⟨_, (foldl_modAxis (nodup_sameRun ..) _ _).trans (by rw [← dueTaken_dueTaken (mem_sameRun P a b)]; rfl)⟩
  next hn => exact absurd hh hn

/-- A run byte that is due, outside brown-out hold (R158). -/
theorem motionRun_due {P : PortalState} {a : AxisId} {b : Byte} (h : P.link.motionDue.get a = some b) (hop : motionOp b = 1) (hh : P.holding = false)
    (ck : Nat) : P.motionRun ck a = (P.dueTaken (P.sameRun a b)).runCommand ck (P.sameRun a b) (motionProf b) := by
  have htake := takeMotion_due h
  rw [hop] at htake
  unfold PortalState.motionRun
  rw [htake]
  dsimp only
  split
  next hy => exact absurd hy (Bool.eq_false_iff.mp hh)
  next => exact congrArg (fun R : PortalState => R.runCommand ck _ _) (dueTaken_dueTaken (mem_sameRun ..))

/-! ### Enabling -/

/-- `Q` is the portal die `P` but for its axes, its feedback ports and the marks of torque removed; no trip and no verdict on a port differs. -/
structure EnablesOnly (P Q : PortalState) : Prop where
  eq : Q = { P with axes := Q.axes, fbs := Q.fbs, mon2 := Q.mon2, ob := { P.ob with removed := Q.ob.removed } }
  trip : ∀ a, (Q.axes.get a).trip = (P.axes.get a).trip
  passed : ∀ a, (Q.fbs.get a).passed = (P.fbs.get a).passed

namespace EnablesOnly

variable {P Q R : PortalState}

theorem refl (P : PortalState) : EnablesOnly P P := ⟨rfl, fun _ => rfl, fun _ => rfl⟩

theorem trans (h : EnablesOnly P Q) (g : EnablesOnly Q R) : EnablesOnly P R where
  eq := by rw [g.eq, h.eq]
  trip a := (g.trip a).trans (h.trip a)
  passed a := (g.passed a).trans (h.passed a)

theorem cls (h : EnablesOnly P Q) : Q.cls = P.cls := (congrArg PortalState.cls h.eq :)

theorem link (h : EnablesOnly P Q) : Q.link = P.link := (congrArg PortalState.link h.eq :)

theorem canEnable (h : EnablesOnly P Q) (a : AxisId) : Q.canEnable a = P.canEnable a := by
  have htrip := h.trip a
  have hpassed := h.passed a
  unfold PortalState.canEnable
  rw [htrip, hpassed, h.eq]
  rfl

theorem calm (h : EnablesOnly P Q) (hc : P.calm) : Q.calm := by
  obtain ⟨hpor, hcls, hwaits, hcount⟩ := hc
  refine ⟨?_, ?_, ?_, ?_⟩
  · rw [h.eq, hpor]
  · obtain hcls | htrip := hcls
    · exact .inl (by rw [h.eq, hcls])
    · exact .inr fun a => (h.trip a).trans (htrip a)
  · rw [h.eq, hwaits]
  · rw [h.eq, hcount]

end EnablesOnly

/-- An axis that is being enabled: its bootstraps charge (R149). -/
def AxisState.begins (x y : AxisState) : Prop := y.precharge = true ∧ y.enabled = true ∧ y.atEnd = x.atEnd

/-- An axis in TORQUE_OFF that can be enabled begins to be, alone (R149, R490). -/
theorem enable_begins {P : PortalState} {a : AxisId} (hoff : (P.axes.get a).drive = .torqueOff) (hcan : P.canEnable a = true)
    (hg : P.supply.gateUv = false) (ck : Nat) : EnablesOnly P (P.enable ck a) ∧ (P.axes.get a).begins ((P.enable ck a).axes.get a) ∧
      ∀ d, d ≠ a → (P.enable ck a).axes.get d = P.axes.get d := by
  unfold PortalState.enable
  extract_lets c x noFb held th y z ob P'
  rw [if_neg (by simp [x, hoff, hcan]), if_neg (by simp [hg])]
  have haxes : (P'.modFb a fun f => { f with idxArmed := (P.fbCfg a).armsIndex }).axes = P.axes.set a z := rfl
  have htrip : z.trip = (P.axes.get a).trip := rfl
  refine ⟨⟨rfl, fun d => ?_, fun d => ?_⟩, ?_, fun d hd => ?_⟩
  · rw [haxes]
    by_cases hd : d = a
    · subst hd
      rw [Three.get_set, htrip]
    · rw [Three.get_set_ne _ hd]
  · show ((P.fbs.set a _).get d).passed = _
    by_cases hd : d = a
    · subst hd
      rw [Three.get_set]
    · rw [Three.get_set_ne _ hd]
  · rw [haxes, Three.get_set]
    refine ⟨rfl, ?_, rfl⟩
    unfold AxisState.enabled
    show (if y.aligned then Drive.standstill else Drive.align) != .torqueOff
    split <;> rfl
  · rw [haxes, Three.get_set_ne _ hd]

/-- Axes in TORQUE_OFF that can be enabled begin to be, one after another. -/
theorem foldl_enable {g : List AxisId} (hg : g.Nodup) (ck : Nat) {P : PortalState}
    (h : ∀ a ∈ g, (P.axes.get a).drive = .torqueOff ∧ P.canEnable a = true) (hgate : P.supply.gateUv = false) {Q : PortalState}
    (hQ : g.foldl (fun R a => if (R.axes.get a).drive = .torqueOff then R.enable ck a else R) P = Q) :
    EnablesOnly P Q ∧ (∀ a ∈ g, (P.axes.get a).begins (Q.axes.get a)) ∧ ∀ d, d ∉ g → Q.axes.get d = P.axes.get d := by
  induction g generalizing P with
  | nil =>
    subst hQ
    exact ⟨.refl P, nofun, fun _ _ => rfl⟩
  | cons a r ih =>
    obtain ⟨ha, hr⟩ := List.nodup_cons.mp hg
    obtain ⟨hoff, hcan⟩ := h a List.mem_cons_self
    obtain ⟨honly, hbegins, hother⟩ := enable_begins hoff hcan hgate ck
    rw [List.foldl_cons, if_pos hoff] at hQ
    have hrest : ∀ d ∈ r, ((P.enable ck a).axes.get d).drive = .torqueOff ∧ (P.enable ck a).canEnable d = true := fun d hd => by
      rw [honly.canEnable, hother d (fun hda => ha (hda ▸ hd))]
      exact h d (List.mem_cons_of_mem a hd)
    obtain ⟨honly', hbegins', hother'⟩ := ih hr hrest (by rw [honly.eq]; exact hgate) hQ
    refine ⟨honly.trans honly', fun d hd => ?_, fun d hd => ?_⟩
    · obtain rfl | hd := List.mem_cons.mp hd
      · rw [hother' d ha]
        exact hbegins
      · rw [← hother d (fun hda => ha (hda ▸ hd))]
        exact hbegins' d hd
    · obtain ⟨hda, hdr⟩ := not_or.mp (mt List.mem_cons.mpr hd)
      rw [hother' d hdr, hother d hda]

/-! ### Runs that wait for an axis being enabled -/

/-- A run queued on an axis that still charges starts on no axis (R151). -/
theorem runQueued_precharge {P : PortalState} {a : AxisId} (hq : (P.axes.get a).precharge = true) (he : (P.axes.get a).enabled = true) (ck : Nat) :
    P.runQueued ck a = P := by
  unfold PortalState.runQueued
  split
  next => rfl
  next b hb =>
    split
    · rfl
    · unfold PortalState.together
      refine if_neg fun hall => ?_
      have hmem : a ∈ ([0, 1, 2] : List AxisId) := by fin_cases a <;> decide
      have hstep := List.all_eq_true.mp hall a (by simp [hmem, hb, he])
      simp [AxisState.canStep, hq] at hstep

theorem foldl_same {α β : Type} {f : β → α → β} {b : β} {g : List α} (h : ∀ a ∈ g, f b a = b) : g.foldl f b = b := by
  induction g with
  | nil => rfl
  | cons a r ih =>
    rw [List.foldl_cons, h a List.mem_cons_self]
    exact ih fun d hd => h d (List.mem_cons_of_mem a hd)

/-! ### Run commands -/

/-- Axes changed without a trip. -/
theorem EnablesOnly.modAxes {f : AxisId → AxisState → AxisState} (hf : ∀ a x, (f a x).trip = x.trip) (g : List AxisId) (P : PortalState) :
    EnablesOnly P (P.modAxes g f) where
  eq := rfl
  trip a := by
    rw [PortalState.modAxes_get]
    split
    · exact hf ..
    · rfl
  passed _ := rfl

/-- An axis with a run queued until it is enabled (R151). -/
def AxisState.waits (x : AxisState) (n : Nat) : Prop :=
  x.precharge = true ∧ x.queued = some (runByte n) ∧ x.enabled = true ∧ x.atEnd = false

/-- The portal die `P` with a run accepted for the axes `g` (R161, R172). -/
def PortalState.runAccepted (P : PortalState) (g : List AxisId) : PortalState := P.modAxes g fun _ x => { x with atEnd := false, holdRed := false }

/-- The portal die `P` with run `n` queued on those of the axes `g` that are enabled, each to its goal (R151, R157). -/
def PortalState.runQueuedOn (P : PortalState) (g : List AxisId) (n : Nat) (goal : AxisId → Int) : PortalState :=
  P.modAxes g fun a x => if x.enabled then { x with queued := some (runByte n), queuedGoal := goal a } else x

theorem runCommand_ready {P : PortalState} {g : List AxisId} {n : Nat} {c : ProfCfg} (hprof : P.prof n = some c) (hready : P.profReady c = true)
    (hg : g.Nodup) (hstill : ∀ a ∈ g, (P.axes.get a).moving = false) (ck : Nat) : ∃ goal, P.runCommand ck g n =
      g.foldl (fun R a => R.runQueued ck a)
        ((g.foldl (fun R a => if (R.axes.get a).drive = .torqueOff then R.enable ck a else R) (P.runAccepted g)).runQueuedOn g n goal) := by
  have hrest : ¬(P.ob.learnRun.isSome && g.any fun a => (P.axes.get a).moving) = true := by
    have hany : (g.any fun a => (P.axes.get a).moving) = false := List.any_eq_false.mpr fun a ha => Bool.eq_false_iff.mp (hstill a ha)
    simp [hany]
  unfold PortalState.runCommand
  rw [hprof]
  dsimp only
  rw [if_neg (by simp [hready]), if_neg hrest, foldl_modAxis hg fun _ x => { x with atEnd := false, holdRed := false },
    foldl_modAxis hg fun a x => if x.enabled then { x with queued := some (runByte n), queuedGoal := _ } else x]
  exact ⟨_, rfl⟩

/-- A run whose axes are in TORQUE_OFF enables them, and waits on every one of them (R149, R151, R160). -/
theorem runCommand_enables {P : PortalState} {g : List AxisId} {n : Nat} {c : ProfCfg} (hprof : P.prof n = some c) (hready : P.profReady c = true)
    (hg : g.Nodup) (h : ∀ a ∈ g, (P.axes.get a).drive = .torqueOff ∧ P.canEnable a = true) (hgate : P.supply.gateUv = false) (ck : Nat) :
    EnablesOnly P (P.runCommand ck g n) ∧ (∀ a ∈ g, ((P.runCommand ck g n).axes.get a).waits n) ∧
      ∀ d, d ∉ g → (P.runCommand ck g n).axes.get d = P.axes.get d := by
  obtain ⟨goal, hrun⟩ := runCommand_ready hprof hready hg (fun a ha => by simp [AxisState.moving, (h a ha).1]) ck
  have haccepted : EnablesOnly P (P.runAccepted g) := .modAxes (by exact fun _ _ => rfl) g P
  have hget (d : AxisId) : (P.runAccepted g).axes.get d = if g.contains d then { P.axes.get d with atEnd := false, holdRed := false } else P.axes.get d :=
    P.modAxes_get ..
  have hcan : ∀ a ∈ g, ((P.runAccepted g).axes.get a).drive = .torqueOff ∧ (P.runAccepted g).canEnable a = true := fun a ha => by
    rw [haccepted.canEnable, hget, if_pos (by simpa using ha)]
    exact h a ha
  generalize henabled : g.foldl (fun R a => if (R.axes.get a).drive = .torqueOff then R.enable ck a else R) (P.runAccepted g) = T at hrun
  obtain ⟨hT, hbegins, hother⟩ := foldl_enable hg ck hcan hgate henabled
  have hqueued : EnablesOnly T (T.runQueuedOn g n goal) := .modAxes (by exact fun _ _ => by split <;> rfl) g T
  have hwaits : ∀ a ∈ g, ((T.runQueuedOn g n goal).axes.get a).waits n := fun a ha => by
    obtain ⟨hcharge, hen, hend⟩ := hbegins a ha
    have hcontains : g.contains a = true := by simpa using ha
    rw [PortalState.runQueuedOn, PortalState.modAxes_get, if_pos hcontains, if_pos hen]
    refine ⟨hcharge, rfl, hen, hend.trans ?_⟩
    rw [hget, if_pos hcontains]
  rw [hrun, foldl_same fun a ha => by
    obtain ⟨hcharge, -, hen, -⟩ := hwaits a ha
    exact runQueued_precharge hcharge hen ck]
  refine ⟨(haccepted.trans hT).trans hqueued, hwaits, fun d hd => ?_⟩
  have hcontains : ¬g.contains d = true := by simpa using hd
  rw [PortalState.runQueuedOn, PortalState.modAxes_get, if_neg hcontains, hother d hd, hget, if_neg hcontains]

/-- Where an axis that its profile names is not ready, no axis of a run starts, and all of them report it (R160). -/
theorem runCommand_notReady {P : PortalState} {g : List AxisId} {n : Nat} {c : ProfCfg} (hprof : P.prof n = some c) (hready : P.profReady c = false)
    (hg : g.Nodup) (ck : Nat) : ∃ args, P.runCommand ck g n = (P.modAxes g fun _ x => x.flag 6).event ck 0x07 (g.headD 0).val args := by
  unfold PortalState.runCommand
  rw [hprof]
  dsimp only
  rw [if_pos (by simp [hready]), foldl_modAxis hg fun _ x => x.flag 6]
  exact ⟨_, rfl⟩

/-! ### Axes beside what is learnt and reported -/

theorem obFlag_axes (P : PortalState) (i : Nat) : (P.obFlag i).axes = P.axes := rfl

theorem learnDiscard_axes (P : PortalState) : P.learnDiscard.axes = P.axes := by
  unfold PortalState.learnDiscard
  split <;> rfl

theorem learnAtEnd_axes (P : PortalState) (a : AxisId) : (P.learnAtEnd a).axes = P.axes := by
  unfold PortalState.learnAtEnd
  split
  · rfl
  · dsimp only
    split
    · rfl
    · split
      · rw [obFlag_axes, PortalState.modOb_axes, PortalState.modOb_axes]
      · rfl

theorem learnEnd_axes (P : PortalState) (a : AxisId) (m : Motion) : (P.learnEnd a m).axes = P.axes := by
  unfold PortalState.learnEnd
  extract_lets named
  split
  · rfl
  · split
    · exact learnAtEnd_axes P a
    · split
      · rfl
      · exact learnDiscard_axes P

theorem armProgress_axes (P : PortalState) (a : AxisId) : (P.armProgress a).axes = P.axes := by
  unfold PortalState.armProgress
  split <;> rfl

/-- An event is a matter of the link alone. -/
theorem pushEvent_eq (P : PortalState) (ck : Nat) (e : EventFrame) : P.pushEvent ck e = { P with link := (P.pushEvent ck e).link } := by
  unfold PortalState.pushEvent
  dsimp only
  split
  · rfl
  · split <;> rfl

theorem event_eq (P : PortalState) (ck code axis : Nat) (args : List Word) :
    P.event ck code axis args = { P with link := (P.event ck code axis args).link } := pushEvent_eq ..

section
variable {X R : PortalState}

theorem UpToFrames.cls (h : UpToFrames X R) : R.cls = X.cls := (congrArg PortalState.cls h.1 :)

theorem UpToFrames.axes (h : UpToFrames X R) : R.axes = X.axes := (congrArg PortalState.axes h.1 :)

theorem UpToFrames.motionDue (h : UpToFrames X R) : R.link.motionDue = X.link.motionDue := (congrArg (fun P : PortalState => P.link.motionDue) h.1 :)

theorem UpToFrames.kept (h : UpToFrames X R) : R.link.kept = X.link.kept := (congrArg (fun P : PortalState => P.link.kept) h.1 :)

theorem OutputsOnly.motionDue (h : OutputsOnly X R) : R.link.motionDue = X.link.motionDue :=
  (congrArg (fun P : PortalState => P.link.motionDue) h.eq :)

end

/-! ### Controlled stops and disables -/

/-- A moving axis that is not under a safe stop comes to a controlled stop, or is at rest at once; no other axis is concerned (R159). -/
theorem controlledStop_axes {P : PortalState} {a : AxisId} {m : Motion} (hm : (P.axes.get a).motion = some m) (hw : m.why ≠ .safeStop) (ck : Nat)
    (after : MotionAfter) (own : Bool) :
    (((P.controlledStop ck a after own).axes.get a).motion = none ∨
      ∃ n, ((P.controlledStop ck a after own).axes.get a).motion = some n ∧ n.why = .controlledStop) ∧
    ∀ d, d ≠ a → (P.controlledStop ck a after own).axes.get d = P.axes.get d := by
  obtain ⟨hsafe, -⟩ | ⟨f, k, -, hstop, hres⟩ := controlledStop_cases P ck a after own
  · exact absurd (hsafe m hm) hw
  · have haxes : (P.controlledStop ck a after own).axes = P.axes.set a (f (P.axes.get a)) := by
      obtain hres | hres := hres
      · rw [hres, PortalState.modAxis_axes]
      · rw [hres, armProgress_axes, learnEnd_axes, PortalState.modAxis_axes]
    rw [haxes, Three.get_set]
    exact ⟨hstop, fun d hd => Three.get_set_ne _ hd _⟩

theorem stopCommand_running {P : PortalState} {a : AxisId} (h : (P.axes.get a).drive = .run) (ck : Nat) : ∃ after, P.stopCommand ck a =
    (P.modAxis a fun x => { x with queued := none, atEnd := false }).controlledStop ck a after false := by
  unfold PortalState.stopCommand
  simp only [PortalState.modAxis_axes, Three.get_set, AxisState.moving, h]
  exact ⟨_, rfl⟩

theorem disableCommand_still {P : PortalState} {a : AxisId} (h : (P.axes.get a).moving = false) (ck : Nat) : P.disableCommand ck a =
    (P.modAxis a fun x => { x with queued := none, atEnd := false }).axisOff a := by
  unfold PortalState.disableCommand
  dsimp only
  rw [PortalState.modAxis_axes, Three.get_set]
  exact if_neg (Bool.eq_false_iff.mp h)

/-! ### Motions that are due, carried out once -/

theorem motionStop_due {P : PortalState} {a : AxisId} {b : Byte} (h : P.link.motionDue.get a = some b) (hop : motionOp b = 2) (ck : Nat) :
    P.motionStop ck a = (P.modLink fun l => { l with motionDue := l.motionDue.set a none }).stopCommand ck a := by
  have htake := takeMotion_due h
  rw [hop] at htake
  simp only [PortalState.motionStop, htake]

theorem motionDisable_due {P : PortalState} {a : AxisId} {b : Byte} (h : P.link.motionDue.get a = some b) (hop : motionOp b = 3) (ck : Nat) :
    P.motionDisable ck a = (P.modLink fun l => { l with motionDue := l.motionDue.set a none }).disableCommand ck a := by
  have htake := takeMotion_due h
  rw [hop] at htake
  simp only [PortalState.motionDisable, htake]

section
variable {s : State} {p : PortalId} {a : AxisId} {P : PortalState} {b : Byte}

theorem exec_motionRunProfile (p : PortalId) (a : AxisId) (s : State) :
    exec (.motionRunProfile p a) s = portalOnly s p fun P => P.motionRun s.clock a := rfl

theorem exec_motionControlledStop (p : PortalId) (a : AxisId) (s : State) :
    exec (.motionControlledStop p a) s = portalOnly s p fun P => P.motionStop s.clock a := rfl

theorem exec_motionDisable (p : PortalId) (a : AxisId) (s : State) :
    exec (.motionDisable p a) s = portalOnly s p fun P => P.motionDisable s.clock a := rfl

/-- Where nothing is due on an axis, nothing is carried out there. -/
theorem runs_motion_notDue (hP : s.portals.get p = P) (hc : P.calm) (h : P.link.motionDue.get a = none) :
    ∀ c ∈ [Instr.motionRunProfile p a, .motionControlledStop p a, .motionDisable p a], RunsPortal p c s fun Q => UpToFrames P Q := by
  rw [List.forall_mem_cons, List.forall_mem_cons, List.forall_mem_singleton]
  refine ⟨.of_idle (exec_motionRunProfile p a s) hP hc ?_, .of_idle (exec_motionControlledStop p a s) hP hc ?_,
    .of_idle (exec_motionDisable p a s) hP hc ?_⟩
  · simp only [PortalState.motionRun, takeMotion_none h]
  · simp only [PortalState.motionStop, takeMotion_none h]
  · simp only [PortalState.motionDisable, takeMotion_none h]

/-- A run whose axes are in TORQUE_OFF and can be enabled (R149, R150, R151). -/
theorem runs_motion_run (hP : s.portals.get p = P) (hc : P.calm) (h : P.link.motionDue.get a = some b) (hop : motionOp b = 1) (hh : P.holding = false)
    {c : ProfCfg} (hprof : P.prof (motionProf b) = some c) (hready : P.profReady c = true) (hgate : P.supply.gateUv = false)
    (hoff : ∀ d ∈ P.sameRun a b, (P.axes.get d).drive = .torqueOff ∧ P.canEnable d = true) :
    RunsPortal p (.motionRunProfile p a) s fun Q => Q.cls = P.cls ∧
      (∀ d ∈ P.sameRun a b, (Q.axes.get d).precharge = true ∧ (Q.axes.get d).queued = some (runByte (motionProf b)) ∧
        (Q.axes.get d).enabled = true ∧ (Q.axes.get d).atEnd = false ∧ Q.link.motionDue.get d = none) ∧
      ∀ d, (P.sameRun a b).contains d = false → Q.axes.get d = P.axes.get d ∧ Q.link.motionDue.get d = P.link.motionDue.get d := by
  obtain ⟨honly, hwaits, hother⟩ := runCommand_enables (P := P.dueTaken (P.sameRun a b)) hprof hready (nodup_sameRun P a b) hoff hgate s.clock
  rw [← motionRun_due h hop hh] at honly hwaits hother
  have hcalm : (P.dueTaken (P.sameRun a b)).calm := hc
  refine .of_calm (exec_motionRunProfile p a s) hP hc.1 (honly.calm hcalm) fun R hR => ?_
  rw [hR.cls, hR.axes, hR.motionDue, honly.cls, honly.link]
  refine ⟨rfl, fun d hd => ?_, fun d hd => ⟨hother d (by simpa using hd), ?_⟩⟩
  · obtain ⟨hcharge, hqueued, hen, hend⟩ := hwaits d hd
    refine ⟨hcharge, hqueued, hen, hend, ?_⟩
    rw [dueTaken_get, if_pos (by simpa using hd)]
  · rw [dueTaken_get, if_neg (Bool.eq_false_iff.mp hd)]

/-- A run in brown-out hold is kept (R357). -/
theorem runs_motion_kept (hP : s.portals.get p = P) (hc : P.calm) (h : P.link.motionDue.get a = some b) (hop : motionOp b = 1)
    (hh : P.holding = true) : RunsPortal p (.motionRunProfile p a) s fun Q =>
      (∀ d ∈ P.sameRun a b, Q.link.motionDue.get d = none ∧ ∃ q, Q.link.kept.get d = some (b, q)) ∧
        ∀ d, Q.axes.get d = if (P.sameRun a b).contains d then { (P.axes.get d) with atEnd := false, holdRed := false } else P.axes.get d := by
  obtain ⟨q, hrun⟩ := motionRun_holding h hop hh s.clock
  have hcalm : ((P.dueTaken (P.sameRun a b)).keptFor (P.sameRun a b) b q).calm := hc
  have honly := EnablesOnly.modAxes (f := fun _ x => { x with atEnd := false, holdRed := false }) (by exact fun _ _ => rfl) (P.sameRun a b)
    ((P.dueTaken (P.sameRun a b)).keptFor (P.sameRun a b) b q)
  rw [← hrun] at honly
  refine .of_calm (exec_motionRunProfile p a s) hP hc.1 (honly.calm hcalm) fun R hR => ?_
  rw [hR.motionDue, hR.kept, hR.axes, honly.link]
  refine ⟨fun d hd => ?_, fun d => ?_⟩
  · have hcontains : (P.sameRun a b).contains d = true := by simpa using hd
    exact ⟨(dueTaken_get P _ d).trans (if_pos hcontains), q, (keptFor_get _ _ b q d).trans (if_pos hcontains)⟩
  · rw [hrun]
    exact PortalState.modAxes_get ..

/-- A run of which an axis is not ready (R160). -/
theorem runs_motion_notReady (hP : s.portals.get p = P) (hc : P.calm) (h : P.link.motionDue.get a = some b) (hop : motionOp b = 1)
    (hh : P.holding = false) {c : ProfCfg} (hprof : P.prof (motionProf b) = some c) (hready : P.profReady c = false) :
    RunsPortal p (.motionRunProfile p a) s fun Q =>
      (∀ d, Q.axes.get d = if (P.sameRun a b).contains d then (P.axes.get d).flag 6 else P.axes.get d) ∧
        ∀ d ∈ P.sameRun a b, Q.link.motionDue.get d = none := by
  obtain ⟨args, hrun⟩ := runCommand_notReady (P := P.dueTaken (P.sameRun a b)) hprof hready (nodup_sameRun P a b) s.clock
  rw [← motionRun_due h hop hh] at hrun
  have hcalm : (P.dueTaken (P.sameRun a b)).calm := hc
  have honly := EnablesOnly.modAxes (f := fun _ x => x.flag 6) (by exact fun _ _ => rfl) (P.sameRun a b) (P.dueTaken (P.sameRun a b))
  have hevent := OutputsOnly.event ((P.dueTaken (P.sameRun a b)).modAxes (P.sameRun a b) fun _ x => x.flag 6) s.clock 0x07
    ((P.sameRun a b).headD 0).val args
  rw [← hrun] at hevent
  have haxes : (P.motionRun s.clock a).axes = ((P.dueTaken (P.sameRun a b)).modAxes (P.sameRun a b) fun _ x => x.flag 6).axes := by
    rw [hrun, event_eq]
  refine .of_calm (exec_motionRunProfile p a s) hP hc.1 (hevent.calm (honly.calm hcalm)) fun R hR => ?_
  rw [hR.axes, hR.motionDue, haxes, hevent.motionDue, honly.link]
  refine ⟨PortalState.modAxes_get _ _ _, fun d hd => ?_⟩
  rw [dueTaken_get, if_pos (by simpa using hd)]

/-- A controlled stop of a running axis (R159). -/
theorem runs_motion_stop (hP : s.portals.get p = P) (hc : P.calm) (h : P.link.motionDue.get a = some b) (hop : motionOp b = 2) {m : Motion}
    (hm : (P.axes.get a).motion = some m) (hw : m.why = .profile) (hd : (P.axes.get a).drive = .run) :
    RunsPortal p (.motionControlledStop p a) s fun Q =>
      ((Q.axes.get a).motion = none ∨ ∃ n, (Q.axes.get a).motion = some n ∧ n.why = .controlledStop) ∧
        (∀ d, d ≠ a → Q.axes.get d = P.axes.get d) ∧ Q.link.motionDue.get a = none := by
  obtain ⟨after, hstop⟩ := stopCommand_running (P := P.modLink fun l => { l with motionDue := l.motionDue.set a none }) hd s.clock
  rw [← motionStop_due h hop] at hstop
  have honly : OutputsOnly (P.modLink fun l => { l with motionDue := l.motionDue.set a none }) (P.motionStop s.clock a) := by
    rw [hstop]
    exact (OutputsOnly.modAxis (by exact rfl)).trans (OutputsOnly.controlledStop ..)
  obtain ⟨hmotion, hother⟩ := controlledStop_axes (a := a) (m := m)
    (P := (P.modLink fun l => { l with motionDue := l.motionDue.set a none }).modAxis a fun x => { x with queued := none, atEnd := false })
    (by rw [PortalState.modAxis_axes, Three.get_set]; exact hm) (by rw [hw]; decide) s.clock after false
  rw [← hstop] at hmotion hother
  refine .of_calm (exec_motionControlledStop p a s) hP hc.1 (honly.calm hc) fun R hR => ?_
  rw [hR.axes, hR.motionDue, honly.motionDue]
  exact ⟨hmotion, fun d hd => (hother d hd).trans (Three.get_set_ne _ hd _), Three.get_set ..⟩

/-- A disable of an axis that does not move (R150). -/
theorem runs_motion_disable (hP : s.portals.get p = P) (hc : P.calm) (h : P.link.motionDue.get a = some b) (hop : motionOp b = 3)
    (hm : (P.axes.get a).moving = false) : RunsPortal p (.motionDisable p a) s fun Q =>
      UpToFrames { P with
        axes := P.axes.set a { (P.axes.get a).off with atEnd := false }, link := { P.link with motionDue := P.link.motionDue.set a none } } Q := by
  have hdisable := (motionDisable_due h hop s.clock).trans (disableCommand_still (by exact hm) s.clock)
  have honly : OutputsOnly (P.modLink fun l => { l with motionDue := l.motionDue.set a none }) (P.motionDisable s.clock a) := by
    rw [hdisable]
    exact (OutputsOnly.modAxis (by exact rfl)).trans (OutputsOnly.axisOff ..)
  have hcalm : (P.modLink fun l => { l with motionDue := l.motionDue.set a none }).calm := hc
  refine .of_calm (exec_motionDisable p a s) hP hc.1 (honly.calm hcalm) fun R hR => ?_
  have heq : P.motionDisable s.clock a =
      { P with axes := P.axes.set a { (P.axes.get a).off with atEnd := false }, link := { P.link with motionDue := P.link.motionDue.set a none } } := by
    rw [hdisable]
    refine congrArg (fun t => { P with axes := t, link := { P.link with motionDue := P.link.motionDue.set a none } }) (Three.ext_get fun d => ?_)
    by_cases hd : d = a
    · subst hd
      rw [Three.get_set, Three.get_set, PortalState.modAxis_axes, Three.get_set]
      rfl
    · rw [Three.get_set_ne _ hd, Three.get_set_ne _ hd, PortalState.modAxis_axes, Three.get_set_ne _ hd]
      rfl
  rwa [← heq]

end

end Sys2Proof.Machine
end

section
/-! Orders that are due, and the whole of what a COMMAND brings. -/

namespace Sys2Proof.Machine

/-! ### Safety outputs where switches follow their demands -/

theorem foldl_sos {α : Type} {f : PortalState → α → PortalState} (h : ∀ P a, (f P a).sos = P.sos) (l : List α) (P : PortalState) :
    (l.foldl f P).sos = P.sos := by
  induction l generalizing P with
  | nil => rfl
  | cons a r ih => exact (ih _).trans (h P a)

theorem setDemand_sos (P : PortalState) (n : Fin 8) (d : Bool) : (P.setDemand n d).sos = P.sos := by
  unfold PortalState.setDemand
  extract_lets c w unshed
  split
  · rfl
  · split
    · rfl
    · split <;> rfl

theorem episodeOver_sos (P : PortalState) (ck : Nat) (n : Fin 8) (was : SwitchState) : (P.episodeOver ck n was).sos = P.sos := by
  unfold PortalState.episodeOver
  split
  · exact foldl_sos (by exact fun _ _ => rfl) _ P
  · rfl

theorem applyDemands_sos (P : PortalState) (ck : Nat) : (P.applyDemands ck).sos = P.sos := by
  rw [applyDemands_eq, foldl_sos (fun Q n => episodeOver_sos Q ck n _), foldl_sos fun Q n => setDemand_sos Q n _]

theorem event_sos (P : PortalState) (ck code axis : Nat) (args : List Word) : (P.event ck code axis args).sos = P.sos :=
  (congrArg PortalState.sos (event_eq P ck code axis args) :)

theorem limpExit_sos (P : PortalState) (ck : Nat) : (P.limpExit ck).sos = P.sos := by
  unfold PortalState.limpExit
  split
  · exact event_sos ..
  · rfl

theorem soAllOff_on (P : PortalState) (o : SoId) : (P.soAllOff.sos.so o).on = false := by cases o <;> rfl

/-- In the fail-safe states both safety outputs are off (R321). -/
theorem applyFailsafe_sos_on (P : PortalState) (ck : Nat) (o : SoId) : ((P.applyFailsafe ck).sos.so o).on = false := by
  unfold PortalState.applyFailsafe
  extract_lets R src S
  have hR : R.sos = (P.learnDiscard.stopAxes ck).soAllOff.sos := limpExit_sos ..
  have hS : S.sos = R.sos := rfl
  rw [applyDemands_sos, hS, hR]
  exact soAllOff_on ..

/-! ### Orders that are due, carried out once -/

/-- A change of the link that leaves alone whether the outcome of a link loss waits. -/
theorem PortalState.calm.modLink {P : PortalState} (hc : P.calm) {f : PortalLink → PortalLink} (hf : ∀ l, (f l).outcomeWaits = l.outcomeWaits) :
    (P.modLink f).calm := by
  obtain ⟨hpor, hcls, hwaits, hcount⟩ := hc
  exact ⟨hpor, hcls, (hf _).trans hwaits, hcount⟩

theorem PortalState.calm.failsafeMarks {P : PortalState} (hc : P.calm) : P.failsafeMarks.calm := hc

theorem failsafeMarks_cls (P : PortalState) : P.failsafeMarks.cls = P.cls := rfl

/-- The portal die `P` with its order taken. -/
def PortalState.orderTaken (P : PortalState) : PortalState := P.modLink fun l => { l with orderDue := 0 }

/-- The portal die `P` with its shutdown ordered (R328). -/
def PortalState.ordered (P : PortalState) : PortalState := P.modLink fun l => { l with ordered := true }

/-- The portal die `P` in low-rate mode (R327). -/
def PortalState.lowRated (P : PortalState) : PortalState :=
  P.modLink fun l => { l with lowRate := true, fin := { l.fin with lanes := l.fin.lanes &&& 1 } }

namespace OutputsOnly

variable {P Q : PortalState}

theorem cls (h : OutputsOnly P Q) : Q.cls = P.cls := (congrArg PortalState.cls h.eq :)

theorem ordered (h : OutputsOnly P Q) : OutputsOnly P.ordered Q.ordered := ⟨by rw [h.eq]; rfl, h.trip, h.dem⟩

theorem lowRated (h : OutputsOnly P Q) : OutputsOnly P.lowRated Q.lowRated := ⟨by rw [h.eq]; rfl, h.trip, h.dem⟩

end OutputsOnly

theorem PortalState.calm.orderTaken {P : PortalState} (hc : P.calm) : P.orderTaken.calm := hc.modLink fun _ => rfl

theorem takeOrder_due {P : PortalState} {o : Byte} (h : P.link.orderDue = o) : P.takeOrder o = some P.orderTaken := if_pos h

theorem takeOrder_none {P : PortalState} {o : Byte} (h : P.link.orderDue = 0) (ho : o ≠ 0) : P.takeOrder o = none :=
  if_neg fun hd => ho (hd.symm.trans h)

theorem orderShutdown_due {P : PortalState} (h : P.link.orderDue = 1) (ck : Nat) :
    P.orderShutdown ck = (P.orderTaken.applyFailsafe ck).ordered.sendState ck := by
  unfold PortalState.orderShutdown
  rw [takeOrder_due h]
  rfl

theorem orderLowRate_due {P : PortalState} (h : P.link.orderDue = 2) (ck : Nat) : P.orderLowRate ck = (P.orderTaken.applyFailsafe ck).lowRated := by
  unfold PortalState.orderLowRate
  rw [takeOrder_due h]
  rfl

theorem orderLockoutReset_refused {P : PortalState} (h : P.link.orderDue = 3) {p : PortalId} {w : Nat} (hw : P.resetWhy p = w) (h0 : w ≠ 0) (ck : Nat) :
    P.orderLockoutReset ck p = P.orderTaken.resetRefused ck w 1 := by
  have hwhy : P.orderTaken.resetWhy p = w := hw
  simp only [PortalState.orderLockoutReset, takeOrder_due h, hwhy]
  exact if_pos (bne_iff_ne.mpr h0)

theorem orderLockoutReset_tests {P : PortalState} (h : P.link.orderDue = 3) {p : PortalId} (hw : P.resetWhy p = 0) (hs : P.ob.selftest = none)
    (ck : Nat) : P.orderLockoutReset ck p = P.orderTaken.modOb fun o => { o with selftest := some .remoteReset } := by
  have hwhy : P.orderTaken.resetWhy p = 0 := hw
  have hnone : P.orderTaken.ob.selftest = none := hs
  simp only [PortalState.orderLockoutReset, takeOrder_due h, hwhy, PortalState.modOb, hnone]
  rfl

/-- The portal die `P` with its faults cleared, in guarded state `g` (R129, R143, R181). -/
def PortalState.faultsCleared (P : PortalState) (g : Guarded) : PortalState :=
  { P.allFbs (fun _ f => f.clearFault) with axes := P.axes.map AxisState.clearTrip, sos := P.sos.map SoState.clearFault, cls := g }

theorem orderClearFault_present {P : PortalState} (h : P.link.orderDue = 4) (hp : P.faultPresent = true) (ck : Nat) :
    P.orderClearFault ck = P.orderTaken := by
  have hpresent : P.orderTaken.faultPresent = true := hp
  unfold PortalState.orderClearFault
  rw [takeOrder_due h]
  exact if_pos (by simp [hpresent])

theorem orderClearFault_clears {P : PortalState} (h : P.link.orderDue = 4) (hf : P.cls = .fault) (hp : P.faultPresent = false)
    (hlock : P.ob.lockCause = 0) (hn : P.link.limpN = false) (hl : P.link.limp = false) (ck : Nat) : P.orderClearFault ck =
      (if P.released then ((P.orderTaken.faultsCleared (guardedOf P.lastCls)).modLink fun l => { l with failsafe := false }).applyDemands ck
        else P.orderTaken.faultsCleared (guardedOf P.lastCls)).event ck 0x0A 3 [0, 0] := by
  have hfault : P.orderTaken.cls = .fault := hf
  have hpresent : P.orderTaken.faultPresent = false := hp
  have hnoLock : P.orderTaken.ob.lockCause = 0 := hlock
  have hnoLand : P.orderTaken.link.limpN = false := hn
  unfold PortalState.orderClearFault
  rw [takeOrder_due h]
  refine (if_neg (by simp [hfault, hpresent])).trans ?_
  extract_lets g src cleared landed served
  have hg : g = guardedOf P.lastCls := (if_neg (by simp [hnoLock])).trans (if_neg (by simp [hnoLand]))
  have hcleared : cleared = P.orderTaken.faultsCleared (guardedOf P.lastCls) := by rw [← hg]; rfl
  have hlanded : landed = cleared := if_neg (by rw [hcleared]; exact Bool.eq_false_iff.mp hn)
  have hreleased : (landed.released && !landed.link.limp) = P.released := by
    rw [hlanded, hcleared]
    show (P.released && !P.link.limp) = P.released
    rw [hl, Bool.not_false, Bool.and_true]
  have hserved : served = if P.released then ((P.orderTaken.faultsCleared (guardedOf P.lastCls)).modLink fun l =>
      { l with failsafe := false }).applyDemands ck else P.orderTaken.faultsCleared (guardedOf P.lastCls) := by
    dsimp only [served]
    rw [hreleased, hlanded, hcleared]
  rw [← hserved]

/-! ### What each order does -/

section
variable {s : State} {p : PortalId} {P : PortalState}

theorem exec_orderShutdown (p : PortalId) (s : State) : exec (.orderShutdown p) s = portalOnly s p fun P => P.orderShutdown s.clock := rfl

theorem exec_orderLowRate (p : PortalId) (s : State) : exec (.orderLowRate p) s = portalOnly s p fun P => P.orderLowRate s.clock := rfl

theorem exec_orderLockoutReset (p : PortalId) (s : State) :
    exec (.orderLockoutReset p) s = portalOnly s p fun P => P.orderLockoutReset s.clock p := rfl

theorem exec_orderClearFault (p : PortalId) (s : State) : exec (.orderClearFault p) s = portalOnly s p fun P => P.orderClearFault s.clock := rfl

theorem UpToFrames.sos {X R : PortalState} (h : UpToFrames X R) : R.sos = X.sos := (congrArg PortalState.sos h.1 :)

/-- Where no order is due, none is carried out. -/
theorem runs_order_notDue (hP : s.portals.get p = P) (hc : P.calm) (h : P.link.orderDue = 0) :
    ∀ c ∈ [Instr.orderShutdown p, .orderLowRate p, .orderLockoutReset p, .orderClearFault p], RunsPortal p c s fun Q => UpToFrames P Q := by
  rw [List.forall_mem_cons, List.forall_mem_cons, List.forall_mem_cons, List.forall_mem_singleton]
  refine ⟨.of_idle (exec_orderShutdown p s) hP hc ?_, .of_idle (exec_orderLowRate p s) hP hc ?_, .of_idle (exec_orderLockoutReset p s) hP hc ?_,
    .of_idle (exec_orderClearFault p s) hP hc ?_⟩
  · simp only [PortalState.orderShutdown, takeOrder_none h (o := 1) (by decide)]
  · simp only [PortalState.orderLowRate, takeOrder_none h (o := 2) (by decide)]
  · simp only [PortalState.orderLockoutReset, takeOrder_none h (o := 3) (by decide)]
  · simp only [PortalState.orderClearFault, takeOrder_none h (o := 4) (by decide)]

/-- Ordered shutdown (R328). -/
theorem runs_order_shutdown (hP : s.portals.get p = P) (hc : P.calm) (h : P.link.orderDue = 1) : RunsPortal p (.orderShutdown p) s fun Q =>
    Q.link.failsafe = true ∧ Q.link.ordered = true ∧ Q.link.orderDue = 0 ∧ Q.link.limp = false ∧ (∀ o, (Q.sos.so o).on = false) ∧
      Q.cls = P.cls := by
  have hdue := orderShutdown_due h s.clock
  have honly : OutputsOnly P.orderTaken.failsafeMarks.ordered (P.orderShutdown s.clock) := by
    rw [hdue]
    exact (OutputsOnly.applyFailsafe P.orderTaken s.clock).ordered.trans (.sendState ..)
  have hsos : (P.orderShutdown s.clock).sos = (P.orderTaken.applyFailsafe s.clock).sos := by
    rw [hdue, PortalState.sendState_sos, PortalState.ordered, PortalState.modLink_sos]
  have hcalm : P.orderTaken.failsafeMarks.ordered.calm := hc.orderTaken.failsafeMarks.modLink (by exact fun _ => rfl)
  refine .of_calm (exec_orderShutdown p s) hP hc.1 (honly.calm hcalm) fun R hR => ?_
  have hcls := hR.cls.trans honly.cls
  obtain ⟨heq, -, -⟩ := honly.trans (.of_upToFrames hR)
  refine ⟨?_, ?_, ?_, ?_, fun o => ?_, ?_⟩
  · rw [heq]; rfl
  · rw [heq]; rfl
  · rw [heq]; rfl
  · rw [heq]; rfl
  · rw [hR.sos, hsos]
    exact applyFailsafe_sos_on ..
  · exact hcls.trans (failsafeMarks_cls P.orderTaken)

/-- Low-rate mode (R327). -/
theorem runs_order_lowRate (hP : s.portals.get p = P) (hc : P.calm) (h : P.link.orderDue = 2) : RunsPortal p (.orderLowRate p) s fun Q =>
    Q.link.failsafe = true ∧ Q.link.lowRate = true ∧ Q.link.orderDue = 0 ∧ Q.link.fin.lanes = P.link.fin.lanes &&& 1 ∧
      (∀ o, (Q.sos.so o).on = false) ∧ Q.cls = P.cls := by
  have hdue := orderLowRate_due h s.clock
  have honly : OutputsOnly P.orderTaken.failsafeMarks.lowRated (P.orderLowRate s.clock) := by
    rw [hdue]
    exact (OutputsOnly.applyFailsafe P.orderTaken s.clock).lowRated
  have hsos : (P.orderLowRate s.clock).sos = (P.orderTaken.applyFailsafe s.clock).sos := by
    rw [hdue, PortalState.lowRated, PortalState.modLink_sos]
  have hcalm : P.orderTaken.failsafeMarks.lowRated.calm := hc.orderTaken.failsafeMarks.modLink (by exact fun _ => rfl)
  refine .of_calm (exec_orderLowRate p s) hP hc.1 (honly.calm hcalm) fun R hR => ?_
  have hcls := hR.cls.trans honly.cls
  obtain ⟨heq, -, -⟩ := honly.trans (.of_upToFrames hR)
  refine ⟨?_, ?_, ?_, ?_, fun o => ?_, ?_⟩
  · rw [heq]; rfl
  · rw [heq]; rfl
  · rw [heq]; rfl
  · rw [heq]; rfl
  · rw [hR.sos, hsos]
    exact applyFailsafe_sos_on ..
  · exact hcls.trans (failsafeMarks_cls P.orderTaken)

/-- A lock-out reset outside LOCKED_OUT is refused (R230). -/
theorem runs_order_resetRefused (hP : s.portals.get p = P) (hc : P.calm) (h : P.link.orderDue = 3) (hcls : P.cls ≠ .lockedOut) :
    RunsPortal p (.orderLockoutReset p) s fun Q =>
      Q.ob.rstWhy = 1 ∧ Q.ob.selftest = P.ob.selftest ∧ Q.link.orderDue = 0 ∧ Q.axes = P.axes ∧ Q.cls = P.cls := by
  have hwhy : P.resetWhy p = 1 := if_pos (bne_iff_ne.mpr hcls)
  have hrefused := orderLockoutReset_refused h hwhy (by decide) s.clock
  have honly : OutputsOnly (P.orderTaken.modOb fun o => { o with rstWhy := 1 }) (P.orderLockoutReset s.clock p) := by
    rw [hrefused]
    exact (OutputsOnly.obFlag _ 9).trans (.event ..)
  have haxes : (P.orderLockoutReset s.clock p).axes = P.axes := by
    rw [hrefused]
    exact (congrArg PortalState.axes (event_eq _ _ _ _ _) :)
  have hcalm : (P.orderTaken.modOb fun o => { o with rstWhy := 1 }).calm := hc
  refine .of_calm (exec_orderLockoutReset p s) hP hc.1 (honly.calm hcalm) fun R hR => ?_
  have hall := honly.trans (.of_upToFrames hR)
  refine ⟨?_, ?_, ?_, hR.axes.trans haxes, ?_⟩
  · rw [hall.eq]; rfl
  · rw [hall.eq]; rfl
  · rw [hall.eq]; rfl
  · rw [hall.eq]; rfl

/-- A lock-out reset whose other conditions hold begins its self-test (R230). -/
theorem runs_order_reset (hP : s.portals.get p = P) (hc : P.calm) (h : P.link.orderDue = 3) (hw : P.resetWhy p = 0) (hs : P.ob.selftest = none) :
    RunsPortal p (.orderLockoutReset p) s fun Q =>
      UpToFrames { P with ob := { P.ob with selftest := some .remoteReset }, link := { P.link with orderDue := 0 } } Q := by
  have htests := orderLockoutReset_tests h hw hs s.clock
  refine .of_calm (exec_orderLockoutReset p s) hP hc.1 ?_ fun R hR => ?_
  · rw [htests]
    exact hc
  · rwa [htests] at hR

/-- Clear fault while a fault is present (R129). -/
theorem runs_order_faultPresent (hP : s.portals.get p = P) (hc : P.calm) (h : P.link.orderDue = 4) (hp : P.faultPresent = true) :
    RunsPortal p (.orderClearFault p) s fun Q => UpToFrames { P with link := { P.link with orderDue := 0 } } Q := by
  have hkept := orderClearFault_present h hp s.clock
  refine .of_calm (exec_orderClearFault p s) hP hc.1 ?_ fun R hR => ?_
  · rw [hkept]
    exact hc
  · rwa [hkept] at hR

/-- The marks that clear fault leaves in the link: a released portal die is out of the fail-safe states (R129, R321). -/
def PortalState.failsafeOver (P : PortalState) (b : Bool) : PortalState := P.modLink fun l => { l with failsafe := !b && l.failsafe }

theorem map_clearFault_fault (t : Two SoState) (o : SoId) : ((t.map SoState.clearFault).so o).fault = false := by cases o <;> rfl

/-- A portal die with its faults cleared and no outcome of a link loss or local reset outstanding is calm. -/
theorem PortalState.calm.faultsCleared {P : PortalState} (hc : P.calm) (g : Guarded) : (P.faultsCleared g).calm := by
  obtain ⟨hpor, -, hwaits, hcount⟩ := hc
  refine ⟨hpor, .inr fun a => ?_, hwaits, hcount⟩
  show ((P.axes.map AxisState.clearTrip).get a).trip = false
  rw [Three.get_map]
  rfl

/-- What clear fault leaves, but for the outputs. -/
theorem orderClearFault_outputsOnly {P : PortalState} (h : P.link.orderDue = 4) (hf : P.cls = .fault) (hp : P.faultPresent = false)
    (hlock : P.ob.lockCause = 0) (hn : P.link.limpN = false) (hl : P.link.limp = false) (ck : Nat) :
    OutputsOnly ((P.orderTaken.faultsCleared (guardedOf P.lastCls)).failsafeOver P.released) (P.orderClearFault ck) ∧
      (P.orderClearFault ck).sos = P.sos.map SoState.clearFault := by
  rw [orderClearFault_clears h hf hp hlock hn hl, event_sos]
  cases hr : P.released with
  | true => exact ⟨(OutputsOnly.applyDemands ..).trans (.event ..), applyDemands_sos ..⟩
  | false => exact ⟨.event .., rfl⟩

/-- Clear fault with no fault present (R129, R143). -/
theorem runs_order_clearFault (hP : s.portals.get p = P) (hc : P.calm) (h : P.link.orderDue = 4) (hf : P.cls = .fault) (hp : P.faultPresent = false)
    (hlock : P.ob.lockCause = 0) (hn : P.link.limpN = false) (hl : P.link.limp = false) : RunsPortal p (.orderClearFault p) s fun Q =>
      Q.cls = guardedOf P.lastCls ∧ (∀ a, (Q.axes.get a).trip = false) ∧ (∀ o, (Q.sos.so o).fault = false) ∧ Q.link.orderDue = 0 ∧
        (P.released = true → Q.link.failsafe = false) := by
  obtain ⟨honly, hsos⟩ := orderClearFault_outputsOnly h hf hp hlock hn hl s.clock
  have hcleared : (P.orderTaken.faultsCleared (guardedOf P.lastCls)).calm := hc.orderTaken.faultsCleared _
  have hcalm : ((P.orderTaken.faultsCleared (guardedOf P.lastCls)).failsafeOver P.released).calm := hcleared.modLink fun _ => rfl
  refine .of_calm (exec_orderClearFault p s) hP hc.1 (honly.calm hcalm) fun R hR => ?_
  obtain ⟨heq, htrip, -⟩ := honly.trans (.of_upToFrames hR)
  refine ⟨hR.cls.trans honly.cls, fun a => ?_, fun o => ?_, ?_, fun hr => ?_⟩
  · rw [htrip]
    show ((P.axes.map AxisState.clearTrip).get a).trip = false
    rw [Three.get_map]
    rfl
  · rw [hR.sos, hsos]
    exact map_clearFault_fault ..
  · rw [heq]; rfl
  · rw [heq, hr]; rfl

end

/-- Settles O54, a COMMAND frame by what `OutputsOnly.command` leaves of it, each motion by what it makes of its axes, and each order by its marks. -/
theorem commandFramesMotionsAndOrders : Obligations.CommandFramesMotionsAndOrders := by
  refine ⟨fun s p h f x y P hP hc hf => ?_, fun s p a P hP hc _ => ?_, fun s p P hP hc => ?_⟩
  · refine ⟨fun hu => runs_command_untaken hP hc (.inl hu), fun _ hd => runs_command_untaken hP hc (.inr hd),
      fun e hup he ht => runs_command_early hP hc hup he ht, fun e hup he ht hl _ hnew => ⟨?_, fun a ha hd => ?_, fun a ha hd hr hbusy => ?_⟩⟩
    · exact runs_command_taken hP hc hf hup he ht hl hnew
    · have hwhy : (P.withEnd e).whyRefused s.clock f x = if f.dstate ≠ 5 then 1 else 2 := refusal_state ha hd ..
      have hne : (if f.dstate ≠ 5 then 1 else 2) ≠ 0 := by split <;> decide
      obtain ⟨t, ht, hframes, hlast, hdue, hreason, hcount, hdem⟩ := runs_command_refused hP hc hf hup he ht hl hnew hne hwhy (y := y)
      refine ⟨t, ht, hframes, hlast, hdue, ?_, hcount, hdem⟩
      rw [hreason]
      split <;> rfl
    · have hacting : (P.acting || x) = true := by
        obtain hown | hx := hbusy
        · simp [PortalState.acting, hown]
        · simp [hx]
      have hwhy : (P.withEnd e).whyRefused s.clock f x = 4 := by
        unfold PortalState.whyRefused
        rw [show ((P.withEnd e).acting || x) = true from hacting]
        exact refusal_busy ha hd hr _
      obtain ⟨t, ht, hframes, hlast, hdue, hreason, hcount, -⟩ := runs_command_refused hP hc hf hup he ht hl hnew (by decide) hwhy (y := y)
      exact ⟨t, ht, hframes, hlast, hdue.trans (if_pos (.inl hr)), hreason, hcount⟩
  · exact ⟨runs_motion_notDue hP hc, fun b c h hop hh hprof hready hgate hoff => runs_motion_run hP hc h hop hh hprof hready hgate hoff,
      fun b h hop hh => runs_motion_kept hP hc h hop hh, fun b c h hop hh hprof hready => runs_motion_notReady hP hc h hop hh hprof hready,
      fun b m h hop hm hw hd _ => runs_motion_stop hP hc h hop hm hw hd, fun b h hop hm => runs_motion_disable hP hc h hop hm⟩
  · exact ⟨runs_order_notDue hP hc, runs_order_shutdown hP hc, runs_order_lowRate hP hc, runs_order_resetRefused hP hc, runs_order_reset hP hc,
      runs_order_clearFault hP hc, fun h _ hp => runs_order_faultPresent hP hc h hp⟩

end Sys2Proof.Machine
end

section
/-! What a command of the host die leaves once it is over, and what the words of a state command do. -/

namespace Sys2Proof.Machine

/-! ### The state once a command is over -/

/-- What `u` keeps of the state `t` to which a command of the host die led from `s`, once the command is over: the message engine, the controllers
and the interrupts aside, all but what a change of the device state brings. -/
structure AfterCommand (s t u : State) : Prop where
  psm : u.psm = t.psm
  lock : u.lock = t.lock
  sec : u.sec = t.sec
  fuse : u.fuse = t.fuse
  links : u.links = t.links
  acq : u.acq = t.acq
  portals : u.portals = t.portals
  image : u.harn.image = t.harn.image
  harn : t.psm.state = s.psm.state → u.harn = t.harn
  hrdy : u.port.hrdy = u.ready

theorem afterCommand (s t : State) (hp : t.port.pending = none) : AfterCommand s t (s.commit t) where
  psm := commit_psm' s t hp
  lock := commit_lock' s t hp
  sec := commit_sec' s t hp
  fuse := commit_fuse' s t hp
  links := commit_links' s t hp
  acq := commit_acq' s t hp
  portals := commit_portals' s t hp
  image := (congrArg HarnState.image (commit_harn' s t hp) :)
  harn hs := commit_harn s t hs hp
  hrdy := commit_hrdy s t

/-- A command of the host die that leaves no access of the host port waiting, by what holds once it is over. -/
theorem Runs.of_afterCommand {c : Instr} {s t : State} {Q : State → Prop} (hc : exec c s = settled s t) (hp : t.port.pending = none)
    (hQ : ∀ u, AfterCommand s t u → Q u) : Runs c s Q :=
  ⟨_, hc, hQ _ (afterCommand s t hp)⟩

theorem AfterCommand.pair {s t u : State} (h : AfterCommand s t u) (i : PairId) : u.pair i = t.pair i := by rw [State.pair, h.lock, State.pair]

/-! ### Changes within the host die -/

/-- `t` differs from `s` within the host die alone, and there in no part that the power states leave alone: its clock, the fuses, the host port, device
time. -/
def WithinHost (s t : State) : Prop :=
  t = { s with psm := t.psm, harn := t.harn, sec := t.sec, fabric := t.fabric, seq := t.seq, lock := t.lock, links := t.links, acq := t.acq,
               cans := t.cans, nelz := t.nelz, arch := t.arch, tally := t.tally }

namespace WithinHost

variable {s t u : State}

theorem refl (s : State) : WithinHost s s := rfl

theorem trans (h : WithinHost s t) (g : WithinHost t u) : WithinHost s u := by
  unfold WithinHost at *
  rw [g, h]

theorem foldl {α : Type} {f : State → α → State} (h : ∀ s a, WithinHost s (f s a)) (l : List α) (s : State) : WithinHost s (l.foldl f s) := by
  induction l generalizing s with
  | nil => exact .refl s
  | cons a r ih => exact (h s a).trans (ih _)

theorem clock (h : WithinHost s t) : t.clock = s.clock := (congrArg State.clock h :)

theorem fuse (h : WithinHost s t) : t.fuse = s.fuse := (congrArg State.fuse h :)

theorem port (h : WithinHost s t) : t.port = s.port := (congrArg State.port h :)

theorem portals (h : WithinHost s t) : t.portals = s.portals := (congrArg State.portals h :)

theorem portFree (h : WithinHost s t) (hf : s.portFree) : t.port.pending = none := by rw [h.port, hf]

theorem of_traffic (h : Traffic s t) : WithinHost s t := by
  unfold WithinHost
  rw [h]

theorem of_eval (h : Eval s t) : WithinHost s t := by
  unfold WithinHost
  rw [h]

end WithinHost

/-! ### PSM_CMDSTAT (R73) -/

/-- PSM_CMDSTAT after a word for target `tgt` has been refused. -/
def refusedStat (w : Word) (src : CmdSource) (tgt why : Nat) : Word :=
  fInc (fput (raise (fput (fput w 29 28 (chanCode src.ch)) 27 24 tgt) 30) 19 16 why) 15 0

theorem fget_fInc_ne (w : Word) {hi lo hj lj : Nat} (h : lo ≤ hi) (g : lj ≤ hj) (d : hj < lo ∨ hi < lj) :
    fget (fInc w hi lo) hj lj = fget w hj lj := fget_fput_ne _ _ h g d

theorem fget_lt (w : Word) (hi lo : Nat) : fget w hi lo < 2 ^ (hi - lo + 1) := Nat.mod_lt _ (Nat.two_pow_pos _)

theorem fget_fInc_low (w : Word) : fget (fInc w 15 0) 15 0 = min 0xFFFF (fget w 15 0 + 1) := by
  have hlt := fget_lt w 15 0
  rw [fInc, fget_fput_self _ _ _ _ (by decide) (by decide), satInc]
  split <;> omega

theorem wbit_fInc_ne (w : Word) {hi lo : Nat} (j : Nat) (h : lo ≤ hi) (d : j < lo ∨ hi < j) : wbit (fInc w hi lo) j = wbit w j :=
  wbit_fput_ne _ _ _ h d

section
variable (w : Word) (src : CmdSource) (tgt why : Nat)

theorem refusedStat_refused : wbit (refusedStat w src tgt why) 30 = true := by
  rw [refusedStat, wbit_fInc_ne _ _ (by decide) (by decide), wbit_fput_ne _ _ _ (by decide) (by decide), wbit_raise_self _ _ (by decide)]

theorem refusedStat_reason (h : why < 16) : fget (refusedStat w src tgt why) 19 16 = why := by
  rw [refusedStat, fget_fInc_ne _ (by decide) (by decide) (by decide), fget_fput_self _ _ _ _ (by decide) (by decide)]
  exact Nat.mod_eq_of_lt h

theorem refusedStat_target (h : tgt < 16) : fget (refusedStat w src tgt why) 27 24 = tgt := by
  rw [refusedStat, fget_fInc_ne _ (by decide) (by decide) (by decide), fget_fput_ne _ _ (by decide) (by decide) (by decide), raise,
    fget_putBit_ne _ _ _ (by decide) (by decide), fget_fput_self _ _ _ _ (by decide) (by decide)]
  exact Nat.mod_eq_of_lt h

theorem chanCode_lt (c : Channel) : chanCode c < 4 := by cases c <;> decide

theorem refusedStat_source : fget (refusedStat w src tgt why) 29 28 = chanCode src.ch := by
  rw [refusedStat, fget_fInc_ne _ (by decide) (by decide) (by decide), fget_fput_ne _ _ (by decide) (by decide) (by decide), raise,
    fget_putBit_ne _ _ _ (by decide) (by decide), fget_fput_ne _ _ (by decide) (by decide) (by decide),
    fget_fput_self _ _ _ _ (by decide) (by decide)]
  exact Nat.mod_eq_of_lt (chanCode_lt _)

theorem refusedStat_count : fget (refusedStat w src tgt why) 15 0 = min 0xFFFF (fget w 15 0 + 1) := by
  rw [refusedStat, fget_fInc_low, fget_fput_ne _ _ (by decide) (by decide) (by decide), raise, fget_putBit_ne _ _ _ (by decide) (by decide),
    fget_fput_ne _ _ (by decide) (by decide) (by decide), fget_fput_ne _ _ (by decide) (by decide) (by decide)]

end

/-! ### Answers and refusals of words -/

section
variable (s : State) (src : CmdSource) (ans : Option Byte) (tgt why : Nat)

/-- An answer concerns the message engine alone. -/
theorem answerWord_eq : s.answerWord src ans why = { s with nelz := (s.answerWord src ans why).nelz } := by
  unfold State.answerWord
  split <;> rfl

/-- A refused word leaves its code in PSM_CMDSTAT, and an answer. -/
theorem refuseWord_eq : s.refuseWord src ans tgt why =
    { s with psm := { s.psm with cmdstat := refusedStat s.psm.cmdstat src tgt why }, nelz := (s.refuseWord src ans tgt why).nelz } := by
  unfold State.refuseWord
  dsimp only
  rw [answerWord_eq]
  rfl

theorem refuseWord_within : WithinHost s (s.refuseWord src ans tgt why) := by
  rw [refuseWord_eq]
  rfl

theorem refuseWord_psm :
    (s.refuseWord src ans tgt why).psm = { s.psm with cmdstat := refusedStat s.psm.cmdstat src tgt why } := by rw [refuseWord_eq]

theorem refuseWord_lock : (s.refuseWord src ans tgt why).lock = s.lock := by rw [refuseWord_eq]

end

/-! ### Words and the pending arm (R46 to R48) -/

section
variable {s : State} {src : CmdSource} {w : Word}

theorem exec_psmCmdArm (s : State) (src : CmdSource) (w : Word) : exec (.psmCmdArm src w) s = settled s (s.stateWord src w none) := rfl

theorem exec_psmCmdBadExec (s : State) (src : CmdSource) (w : Word) : exec (.psmCmdBadExec src w) s = settled s (s.stateWord src w none) := rfl

theorem exec_psmArmTimeout (s : State) : exec .psmArmTimeout s = settled s s.armTimeout := rfl

theorem stateWord_of_maySend (h : s.maySend src = true) (w : Word) (safe : Option SafeCause) :
    s.stateWord src w safe = s.psmWord src none w safe := if_pos h

theorem lapseArm_of_none (h : s.psm.arm = none) : s.lapseArm = s := by simp [State.lapseArm, h]

theorem lapseArm_of_fresh {a : Arm} (h : s.psm.arm = some a) (hfresh : s.clock - a.at_ ≤ 10000000) : s.lapseArm = s := by
  simp [State.lapseArm, h, Nat.not_lt.mpr hfresh]

/-- A word that no arm awaits and that is not granted as an arm of its own is refused: with BUSY, NO_TRANSITION or NO_GRANT (R48, R49, R51). -/
theorem psmWord_refused {why : Nat} (h : s.psm.arm = none) (ans : Option Byte) (safe : Option SafeCause)
    (hwhy : (s.psm.busy.isSome = true ∧ why = 5) ∨ (s.psm.busy = none ∧ s.armWord w = false ∧ why = 4) ∨
      (s.psm.busy = none ∧ s.armWord w = true ∧ s.granted src.ch (psmTarget w) = false ∧ why = 3)) :
    s.psmWord src ans w safe = s.refuseWord src ans (psmTarget w) why := by
  unfold State.psmWord
  rw [lapseArm_of_none h]
  obtain ⟨hb, rfl⟩ | ⟨hb, ha, rfl⟩ | ⟨hb, ha, hg, rfl⟩ := hwhy
  · simp [h, hb]
  · simp [h, hb, ha]
  · simp [h, hb, ha, hg]

/-- The state with an arm word taken. -/
def State.armed (s : State) (src : CmdSource) (w : Word) : State :=
  ({ s with psm := { s.psm with arm := some { word := w, src := src, at_ := s.clock, seq := none } } }).noteCmd src (psmTarget w)

theorem psmWord_arms (h : s.psm.arm = none) (hb : s.psm.busy = none) (ha : s.armWord w = true) (hg : s.granted src.ch (psmTarget w) = true)
    (safe : Option SafeCause) : s.psmWord src none w safe = s.armed src w := by
  unfold State.psmWord
  rw [lapseArm_of_none h]
  simp [h, hb, ha, hg, State.answerWord, State.armed]

theorem psmWord_otherSource {a : Arm} (h : s.psm.arm = some a) (hfresh : s.clock - a.at_ ≤ 10000000) (hsrc : sameSource src a.src = false)
    (ans : Option Byte) (w : Word) (safe : Option SafeCause) : s.psmWord src ans w safe = s.refuseWord src ans (psmTarget w) 5 := by
  unfold State.psmWord
  rw [lapseArm_of_fresh h hfresh]
  simp [h, hsrc]

/-- The state with the pending arm gone. -/
def State.disarmed (s : State) : State := { s with psm := { s.psm with arm := none } }

theorem psmWord_badExec {a : Arm} (h : s.psm.arm = some a) (hfresh : s.clock - a.at_ ≤ 10000000) (hsrc : sameSource src a.src = true)
    (hw : w ≠ ~~~a.word) (ans : Option Byte) (safe : Option SafeCause) :
    s.psmWord src ans w safe = s.disarmed.refuseWord src ans (psmTarget a.word) 2 := by
  unfold State.psmWord
  rw [lapseArm_of_fresh h hfresh]
  simp [h, hsrc, hw, State.disarmed]

theorem psmWord_executes {a : Arm} (h : s.psm.arm = some a) (hfresh : s.clock - a.at_ ≤ 10000000) (hsrc : sameSource src a.src = true)
    (ans : Option Byte) (safe : Option SafeCause) :
    s.psmWord src ans (~~~a.word) safe = s.disarmed.executeArm src ans a.word safe := by
  unfold State.psmWord
  rw [lapseArm_of_fresh h hfresh]
  simp [h, hsrc, State.disarmed]

theorem armTimeout_of_none (h : s.psm.arm = none) : s.armTimeout = s := by simp [State.armTimeout, h]

theorem armTimeout_of_arm {a : Arm} (h : s.psm.arm = some a) : s.armTimeout = s.disarmed.refuseWord a.src a.seq (psmTarget a.word) 1 := by
  simp [State.armTimeout, h, State.disarmed]

theorem sameSource_self (src : CmdSource) : sameSource src src = true := by simp [sameSource]

/-- Another channel, or on CAN another node, is another source (R427). -/
theorem sameSource_of_other {a b : CmdSource} (h : a.ch ≠ b.ch ∨ (a.ch ≠ .host ∧ a.node ≠ b.node)) : sameSource a b = false := by
  obtain h | ⟨hc, hn⟩ := h <;> simp [sameSource, *]

theorem psmTarget_lt (w : Word) : psmTarget w < 16 := fget_lt w 7 4

end

/-! ### A refused word, once the command is over -/

/-- The PSM block `y` is `x` with the refusal of a word in PSM_CMDSTAT: its reason, source, target and count (R73). -/
structure Refused (x : PsmState) (src : CmdSource) (tgt why : Nat) (y : PsmState) : Prop where
  eq : y = { x with cmdstat := y.cmdstat }
  refused : wbit y.cmdstat 30 = true
  reason : fget y.cmdstat 19 16 = why
  target : fget y.cmdstat 27 24 = tgt
  source : fget y.cmdstat 29 28 = chanCode src.ch
  count : fget y.cmdstat 15 0 = min 0xFFFF (fget x.cmdstat 15 0 + 1)

theorem refused_refuseWord (v : State) (src : CmdSource) (ans : Option Byte) {tgt why : Nat} (htgt : tgt < 16) (hwhy : why < 16) :
    Refused v.psm src tgt why (v.refuseWord src ans tgt why).psm := by
  rw [refuseWord_psm]
  exact ⟨rfl, refusedStat_refused .., refusedStat_reason _ _ _ _ hwhy, refusedStat_target _ _ _ _ htgt, refusedStat_source .., refusedStat_count ..⟩

section
variable {c : Instr} {s t v : State} {src : CmdSource} {ans : Option Byte} {x : PsmState} {tgt why : Nat}

/-- A command that comes to a refusal. -/
theorem runs_refused (hc : exec c s = settled s t) (hf : s.portFree) (ht : WithinHost s t) (hr : Refused x src tgt why t.psm) :
    Runs c s fun u => Refused x src tgt why u.psm ∧ u.portals = s.portals ∧ u.lock = t.lock :=
  .of_afterCommand hc (ht.portFree hf) fun u hu => ⟨by rwa [hu.psm], hu.portals.trans ht.portals, hu.lock⟩

/-- A command that comes to the refusal of a word, from a state that differs from the one before it in the PSM alone. -/
theorem runs_refuseWord (hc : exec c s = settled s (v.refuseWord src ans tgt why)) (hf : s.portFree) (hv : WithinHost s v) (hl : v.lock = s.lock)
    (htgt : tgt < 16) (hwhy : why < 16) : Runs c s fun u => Refused v.psm src tgt why u.psm ∧ u.portals = s.portals ∧ u.lock = s.lock := by
  rw [← hl, ← refuseWord_lock v src ans tgt why]
  exact runs_refused hc hf (hv.trans (refuseWord_within ..)) (refused_refuseWord v src ans htgt hwhy)

theorem Runs.mono {Q R : State → Prop} (h : Runs c s Q) (hQ : ∀ t, Q t → R t) : Runs c s R := by
  obtain ⟨t, ht, hq⟩ := h
  exact ⟨t, ht, hQ t hq⟩

end

/-! ### Arming -/

section
variable {s : State} {src : CmdSource} {w : Word}

theorem armed_cmdstat (s : State) (src : CmdSource) (w : Word) : fget (s.armed src w).psm.cmdstat 27 24 = psmTarget w := by
  show fget (fput (fput s.psm.cmdstat 29 28 _) 27 24 _) 27 24 = _
  rw [fget_fput_self _ _ _ _ (by decide) (by decide)]
  exact Nat.mod_eq_of_lt (psmTarget_lt w)

/-- An arm word that is granted and not in the way of another is held (R46, R48). -/
theorem runs_arms (hs : s.maySend src = true) (hf : s.portFree) (h : s.psm.arm = none) (hb : s.psm.busy = none) (ha : s.armWord w = true)
    (hg : s.granted src.ch (psmTarget w) = true) : Runs (.psmCmdArm src w) s fun t =>
      t.psm.arm = some { word := w, src := src, at_ := s.clock, seq := none } ∧ t.psm.state = s.psm.state ∧
        fget t.psm.cmdstat 27 24 = psmTarget w ∧ t.lock = s.lock ∧ t.portals = s.portals := by
  have hc : exec (.psmCmdArm src w) s = settled s (s.armed src w) := by
    rw [exec_psmCmdArm, stateWord_of_maySend hs, psmWord_arms h hb ha hg]
  refine .of_afterCommand hc hf fun u hu => ?_
  rw [hu.psm]
  exact ⟨rfl, rfl, armed_cmdstat s src w, hu.lock, hu.portals⟩

/-- Settles O12: an arm word that is granted is held, and every other case is a refusal. -/
theorem armingOfStateCommands : Obligations.ArmingOfStateCommands := by
  refine ⟨fun s src w hs hf h hb ha hg => runs_arms hs hf h hb ha hg, fun s src w hs hf h hb ha hg => ?_, fun s a h hf => ?_,
    fun s h hf => ?_, fun s a w h hfresh hs hf hw => ?_⟩
  · have hc : exec (.psmCmdArm src w) s = settled s (s.refuseWord src none (psmTarget w) 3) := by
      rw [exec_psmCmdArm, stateWord_of_maySend hs, psmWord_refused h none none (.inr (.inr ⟨hb, ha, hg, rfl⟩))]
    refine (runs_refuseWord hc hf (.refl s) rfl (psmTarget_lt w) (by decide)).mono fun t ⟨ht, _⟩ => ?_
    rw [ht.eq]
    exact ⟨h, rfl, ht.refused, ht.reason⟩
  · have hc := (exec_psmArmTimeout s).trans (congrArg (settled s) (armTimeout_of_arm h))
    refine (runs_refuseWord hc hf rfl rfl (psmTarget_lt a.word) (by decide)).mono fun t ⟨ht, hportals, _⟩ => ?_
    rw [ht.eq]
    exact ⟨rfl, rfl, ht.refused, ht.reason, hportals⟩
  · exact .of_afterCommand ((exec_psmArmTimeout s).trans (congrArg (settled s) (armTimeout_of_none h))) hf fun u hu => hu.psm
  · have hc : exec (.psmCmdBadExec a.src w) s = settled s (s.disarmed.refuseWord a.src none (psmTarget a.word) 2) := by
      rw [exec_psmCmdBadExec, stateWord_of_maySend hs, psmWord_badExec h hfresh (sameSource_self _) hw]
    refine (runs_refuseWord hc hf rfl rfl (psmTarget_lt a.word) (by decide)).mono fun t ⟨ht, hportals, _⟩ => ?_
    rw [ht.eq]
    exact ⟨rfl, rfl, ht.refused, ht.reason, hportals⟩

/-! ### Words that stand in each other's way (R48, R51) -/

/-- A command that carries a word of a state command from a source that may send it. -/
theorem exec_carriesWord {c : Instr} (hc : c ∈ [Instr.psmCmdArm src w, .psmCmdBadExec src w, .executeService src none, .executeStandby src none,
      .executeDormant src none, .executeMaintain src none, .executeSelftestDevice src none, .executeSelftestPair src none, .executeOff src none])
    (hs : s.maySend src = true) : ∃ v, exec c s = settled s (s.psmWord src none v none) := by
  have hexec (tgt scope : Nat) : s.executeWord src tgt scope none = s.psmWord src none (~~~armWordOf tgt scope) none := if_pos hs
  have hstate : s.stateWord src w none = s.psmWord src none w none := stateWord_of_maySend hs ..
  simp only [List.mem_cons, List.not_mem_nil, or_false] at hc
  obtain rfl | rfl | rfl | rfl | rfl | rfl | rfl | rfl | rfl := hc
  · exact ⟨_, congrArg (settled s) hstate⟩
  · exact ⟨_, congrArg (settled s) hstate⟩
  all_goals exact ⟨_, congrArg (settled s) (hexec _ _)⟩

/-- Settles O15: whatever the word, it comes to a refusal that leaves the arm as it was. -/
theorem otherSourceBusyAndUnknownTargetRefused : Obligations.OtherSourceBusyAndUnknownTargetRefused := by
  intro s src w hs hf refused
  have done {x : Option Arm} {c : Instr} {tgt why : Nat} (hx : s.psm.arm = x)
      (h : Runs c s fun t => Refused s.psm src tgt why t.psm ∧ t.portals = s.portals ∧ t.lock = s.lock) :
      Runs c s fun t => refused why t ∧ t.psm.arm = x := h.mono fun t ⟨ht, hportals, hlock⟩ =>
    ⟨⟨(congrArg PsmState.state ht.eq :), (congrArg PsmState.busy ht.eq :), ht.refused, ht.reason, ht.source, ht.count, hportals, hlock⟩,
      (congrArg PsmState.arm ht.eq).trans hx⟩
  have arm (why : Nat) (h : s.psm.arm = none) (hwhy : why < 16)
      (hw : s.psmWord src none w none = s.refuseWord src none (psmTarget w) why) : Runs (.psmCmdArm src w) s fun t => refused why t ∧ t.psm.arm = none :=
    done (tgt := psmTarget w) h
    (runs_refuseWord (c := .psmCmdArm src w) (by rw [exec_psmCmdArm, stateWord_of_maySend hs, hw]) hf (.refl s) rfl (psmTarget_lt w) hwhy)
  refine ⟨fun a h hfresh hother c hc => ?_, fun h hb => ?_, fun h hb ht => ?_⟩
  · obtain ⟨v, hv⟩ := exec_carriesWord hc hs
    rw [psmWord_otherSource h hfresh (sameSource_of_other hother)] at hv
    exact done h (runs_refuseWord hv hf (.refl s) rfl (psmTarget_lt v) (by decide))
  · exact arm 5 h (by decide) (psmWord_refused h none none (.inl ⟨hb, rfl⟩))
  · have hword : s.armWord w = false := by simp [State.armWord, psmTarget, ht]
    exact arm 4 h (by decide) (psmWord_refused h none none (.inr (.inl ⟨hb, hword, rfl⟩)))

end

end Sys2Proof.Machine
end

section
/-! Pair states, the stop of the kernel and the links, and the entry to SAFE. -/

namespace Sys2Proof.Machine

/-! ### Pair states (R279, R280) -/

/-- A pair's record in state `st`, with the admission that the state gives it (R41, R279). -/
def PairInfo.movedTo (x : PairInfo) (st : PairState) : PairInfo := { x with state := st, admitted := admittedIn x.admitted st }

/-- The same, but that a retired pair stays retired. -/
def PairInfo.broughtTo (x : PairInfo) (st : PairState) : PairInfo := if x.state == .retired then x else x.movedTo st

theorem PairInfo.broughtTo_of_ne {x : PairInfo} (h : x.state ≠ .retired) (st : PairState) : x.broughtTo st = x.movedTo st :=
  if_neg (by simpa using h)

section
variable (s : State) (i j : PairId) (st : PairState)

theorem modPair_pair_self (f : PairInfo → PairInfo) : (s.modPair i f).pair i = f (s.pair i) := Two.pair_setPair ..

theorem modPair_pair_ne {i j : PairId} (h : j ≠ i) (f : PairInfo → PairInfo) : (s.modPair i f).pair j = s.pair j := Two.pair_setPair_ne _ h _

theorem movePair_pair_self : (s.movePair i st).pair i = (s.pair i).movedTo st := by
  unfold State.movePair
  extract_lets lost t
  have ht : t.pair i = s.pair i := by
    dsimp only [t]
    split <;> rfl
  rw [modPair_pair_self, ht]
  rfl

theorem movePair_pair_ne {i j : PairId} (h : j ≠ i) : (s.movePair i st).pair j = s.pair j := by
  unfold State.movePair
  extract_lets lost t
  have ht : t.pair j = s.pair j := by
    dsimp only [t]
    split <;> rfl
  rw [modPair_pair_ne _ h, ht]

/-- A pair's state is a matter of the lock block: of its record and of the flag SHADOW_LOST. -/
theorem movePair_eq : s.movePair i st = { s with lock := { s.lock with pairs := (s.movePair i st).lock.pairs, evt := (s.movePair i st).lock.evt } } := by
  unfold State.movePair
  dsimp only
  split <;> rfl

/-- A pair is brought to a state, unless it is retired. -/
def State.bringPair (s : State) (i : PairId) (st : PairState) : State := if (s.pair i).state == .retired then s else s.movePair i st

theorem bringPair_pair_self : (s.bringPair i st).pair i = (s.pair i).broughtTo st := by
  unfold State.bringPair PairInfo.broughtTo
  split
  · rfl
  · exact movePair_pair_self ..

theorem bringPair_pair_ne {i j : PairId} (h : j ≠ i) : (s.bringPair i st).pair j = s.pair j := by
  unfold State.bringPair
  split
  · rfl
  · exact movePair_pair_ne _ _ h

theorem bringPair_eq : s.bringPair i st = { s with lock := { s.lock with pairs := (s.bringPair i st).lock.pairs, evt := (s.bringPair i st).lock.evt } } := by
  unfold State.bringPair
  split
  · rfl
  · exact movePair_eq ..

/-- Both pairs are brought to a state. -/
def State.bringPairs (s : State) (st : PairState) : State := (s.bringPair .pommel st).bringPair .cantle st

theorem stopPairs_eq : s.stopPairs = s.bringPairs .stopped := rfl

theorem pairsToTest_eq : s.pairsToTest = s.bringPairs .test := rfl

theorem bringPairs_pair : (s.bringPairs st).pair i = (s.pair i).broughtTo st := by
  unfold State.bringPairs
  cases i with
  | pommel => rw [bringPair_pair_ne _ _ (by decide), bringPair_pair_self]
  | cantle => rw [bringPair_pair_self, bringPair_pair_ne _ _ (by decide)]

theorem bringPairs_eq : s.bringPairs st = { s with lock := { s.lock with pairs := (s.bringPairs st).lock.pairs, evt := (s.bringPairs st).lock.evt } } := by
  unfold State.bringPairs
  rw [bringPair_eq, bringPair_eq]

theorem bringPairs_psm : (s.bringPairs st).psm = s.psm := by rw [bringPairs_eq]

end

theorem WithinHost.bringPairs (s : State) (st : PairState) : WithinHost s (s.bringPairs st) := by
  rw [bringPairs_eq]
  rfl

/-- Where no pair is retired, pairs brought to a state are in it. -/
theorem bringPairs_state {s : State} {i : PairId} (h : (s.pair i).state ≠ .retired) (st : PairState) : ((s.bringPairs st).pair i).state = st := by
  rw [bringPairs_pair, PairInfo.broughtTo_of_ne h]
  rfl

/-! ### The links stop, or are trained -/

/-- `t` differs from `s` in the host side of the links, in what the kernel keeps of their portals, and in the acquisition store alone. -/
def LinksOnly (s t : State) : Prop := t = { s with links := t.links, seq := t.seq, acq := t.acq }

namespace LinksOnly

variable {s t u : State}

theorem refl (s : State) : LinksOnly s s := rfl

theorem trans (h : LinksOnly s t) (g : LinksOnly t u) : LinksOnly s u := by
  unfold LinksOnly at *
  rw [g, h]

theorem foldl {α : Type} {f : State → α → State} (h : ∀ s a, LinksOnly s (f s a)) (l : List α) (s : State) : LinksOnly s (l.foldl f s) := by
  induction l generalizing s with
  | nil => exact .refl s
  | cons a r ih => exact (h s a).trans (ih _)

theorem eachPortal {f : State → PortalId → State} (h : ∀ s p, LinksOnly s (f s p)) (s : State) : LinksOnly s (s.eachPortal f) := foldl h _ s

theorem within (h : LinksOnly s t) : WithinHost s t := by
  unfold WithinHost
  rw [h]

theorem psm (h : LinksOnly s t) : t.psm = s.psm := (congrArg State.psm h :)

theorem lock (h : LinksOnly s t) : t.lock = s.lock := (congrArg State.lock h :)

theorem harn (h : LinksOnly s t) : t.harn = s.harn := (congrArg State.harn h :)

theorem sec (h : LinksOnly s t) : t.sec = s.sec := (congrArg State.sec h :)

theorem modLink (s : State) (p : PortalId) (f : HostLink → HostLink) : LinksOnly s (s.modLink p f) := rfl

theorem modSeq (s : State) (p : PortalId) (f : SeqPortal → SeqPortal) : LinksOnly s (s.modSeq p f) := rfl

theorem stopLinks (s : State) (why : Nat) : LinksOnly s (s.stopLinks why) := .eachPortal (by exact fun _ _ => rfl) s

theorem trainAll (s : State) : LinksOnly s s.trainAll := .eachPortal (by exact fun _ _ => rfl) s

theorem giveUp (s : State) : LinksOnly s (s.eachPortal fun s p => s.modLink p HostLink.giveUp) := .eachPortal (by exact fun _ _ => rfl) s

theorem sendTests (s : State) : LinksOnly s (s.eachPortal State.sendTest) := .eachPortal (fun s p => by
  unfold State.sendTest
  split
  · exact .modLink ..
  · exact .refl s) s

theorem sendCommandNow (s : State) (p : PortalId) : LinksOnly s (s.sendCommandNow p) := by
  unfold State.sendCommandNow
  extract_lets counted f sent noted
  have hcounted : LinksOnly s counted := .modSeq ..
  have hnoted : LinksOnly s noted := (hcounted.trans (.modLink ..)).trans (.modSeq ..)
  split
  · exact hcounted
  · split
    · exact hnoted.trans (.modSeq ..)
    · split
      · exact hnoted.trans (.modLink ..)
      · exact hnoted

theorem sendCommands (s : State) : LinksOnly s (s.eachPortal State.sendCommandNow) := .eachPortal sendCommandNow s

end LinksOnly

/-- Once all links are in training, every one of them is. -/
theorem trainAll_phase (s : State) (p : PortalId) : (s.trainAll.link p).phase = .training := by fin_cases p <;> rfl

/-! ### What the entry to SAFE stops -/

theorem answerState_eq (s : State) (why : Nat) : s.answerState why = { s with nelz := (s.answerState why).nelz } := by
  unfold State.answerState
  split <;> rfl

theorem Eval.closeAllCycles (s : State) (f : Half) : Eval s (s.closeAllCycles f) := .foldl (fun _ _ => .closeCycle ..) _ s

/-- SAFE gives up the state command at hand: PSM_CMDSTAT and an answer (R50). -/
theorem preempt_eq (s : State) :
    s.preempt = { s with psm := { s.psm with accepted := none, cmdstat := s.preempt.psm.cmdstat }, nelz := s.preempt.nelz } := by
  unfold State.preempt
  extract_lets old b t
  cases old with
  | none => dsimp only; split <;> rfl
  | some a =>
    obtain ⟨src, at_, seq, stat⟩ := a
    cases seq with
    | none => rfl
    | some q => cases b <;> rfl

/-- A pair-scope SELFTEST under way ends with its pair FAILED. -/
def State.graftGivenUp (s : State) : State :=
  match s.lock.graft with
  | some g => (s.endGraft 4).modPair g.pair fun x => { x with state := .failed, admitted := false }
  | none => s

theorem endGraft_eq (s : State) (why : Nat) : s.endGraft why =
    { s with psm := { s.psm with state := (s.endGraft why).psm.state, pairScope := (s.endGraft why).psm.pairScope }
             lock := { (s.endGraft why).lock with pairs := s.lock.pairs } } := by
  unfold State.endGraft
  split
  · rfl
  · dsimp only
    split <;> rfl

/-- A graft that is given up changes the lock block and at most the state it had led to. -/
theorem graftGivenUp_eq (s : State) : s.graftGivenUp =
    { s with psm := { s.psm with state := s.graftGivenUp.psm.state, pairScope := s.graftGivenUp.psm.pairScope }, lock := s.graftGivenUp.lock } := by
  unfold State.graftGivenUp
  split
  · rw [endGraft_eq]
    rfl
  · rfl

/-- A pair that is not retired is not retired by a graft that is given up, nor admitted. -/
theorem graftGivenUp_pair (s : State) (i : PairId) : (s.graftGivenUp.pair i).state = .failed ∧ (s.graftGivenUp.pair i).admitted = false ∨
    s.graftGivenUp.pair i = s.pair i := by
  unfold State.graftGivenUp
  split
  next g _ =>
    by_cases h : i = g.pair
    · subst h
      rw [modPair_pair_self]
      exact .inl ⟨rfl, rfl⟩
    · rw [modPair_pair_ne _ h, endGraft_eq]
      exact .inr rfl
  next => exact .inr rfl

/-- What the entry to SAFE stops, before the PSM block tells of it: door cycles, the graft, the kernel and both pairs (R45, R50, R66). -/
def State.stoppedFor (s : State) (c : SafeCause) : State :=
  let t := (s.closeAllCycles (faultCode 3 (safeBit c + 1))).graftGivenUp.stopKernel.bringPairs .stopped
  if c = .pairDisagree then (t.modPair .pommel fun x => { x with admitted := false }).modPair .cantle fun x => { x with admitted := false } else t

/-- What the PSM block holds in SAFE. -/
def PsmState.inSafe (x : PsmState) (c : SafeCause) : PsmState :=
  { x with state := .safe, pairScope := false, busy := none, safe := fput (raise x.safe (safeBit c)) 11 8 (safeBit c + 1) }

/-- A device state from which a fault leads to SAFE (R41). -/
def Psm.mayFail (x : Psm) : Prop := x ≠ .off ∧ x ≠ .fuseFail ∧ x ≠ .safe

theorem enterSafe_eq {s : State} (h : s.psm.state.mayFail) (c : SafeCause) : ∃ u v : State, u = ((s.stoppedFor c).answerState 11).preempt ∧
    v = { u with psm := u.psm.inSafe c, harn := { u.harn with recovery := false } } ∧
    s.enterSafe c = ((if u.psm.state = .boot then v.noteStartUp else v).stopLinks 1) := by
  obtain ⟨hoff, hfail, hsafe⟩ := h
  unfold State.enterSafe
  split
  next h => exact absurd h hoff
  next h => exact absurd h hfail
  next h => exact absurd h hsafe
  next => exact ⟨_, _, rfl, rfl, rfl⟩

/-- What the entry to SAFE stops is nothing of the PSM block but a pair-scope SELFTEST. -/
theorem stoppedFor_eq (s : State) (c : SafeCause) : ∃ u, Eval s u ∧ s.stoppedFor c =
    { u with psm := { s.psm with state := (s.stoppedFor c).psm.state, pairScope := (s.stoppedFor c).psm.pairScope }
             lock := (s.stoppedFor c).lock, seq := (s.stoppedFor c).seq } := by
  have hu := Eval.closeAllCycles s (faultCode 3 (safeBit c + 1))
  refine ⟨_, hu, ?_⟩
  obtain ⟨-, hpsm, -⟩ := hu.fields
  unfold State.stoppedFor
  generalize s.closeAllCycles (faultCode 3 (safeBit c + 1)) = u at hu hpsm
  rw [← hpsm]
  dsimp only
  rw [bringPairs_eq, graftGivenUp_eq]
  split <;> rfl

theorem stoppedFor_pair (s : State) (c : SafeCause) {i : PairId} (h : (s.pair i).state ≠ .retired) :
    ((s.stoppedFor c).pair i).state = .stopped ∧ ((s.pair i).admitted = false → ((s.stoppedFor c).pair i).admitted = false) := by
  have hu := Eval.closeAllCycles s (faultCode 3 (safeBit c + 1))
  obtain ⟨-, -, -, -, -, hlock, -⟩ := hu.fields
  unfold State.stoppedFor
  generalize s.closeAllCycles (faultCode 3 (safeBit c + 1)) = u at hu hlock
  have hpair : u.pair i = s.pair i := by rw [State.pair, hlock, State.pair]
  rw [← hpair] at h ⊢
  have hne : (u.graftGivenUp.pair i).state ≠ .retired := by
    obtain ⟨hfailed, -⟩ | hsame := graftGivenUp_pair u i
    · rw [hfailed]
      decide
    · rwa [hsame]
  have hstopped : (u.graftGivenUp.stopKernel.bringPairs .stopped).pair i = (u.graftGivenUp.pair i).movedTo .stopped :=
    (bringPairs_pair _ i .stopped).trans (PairInfo.broughtTo_of_ne hne .stopped)
  have hadm : (u.pair i).admitted = false → ((u.graftGivenUp.pair i).movedTo .stopped).admitted = false := fun ha => by
    obtain ⟨-, hfailed⟩ | hsame := graftGivenUp_pair u i
    · exact hfailed
    · rw [hsame]
      exact ha
  dsimp only
  split
  · cases i with
    | pommel =>
      rw [modPair_pair_ne _ (by decide), modPair_pair_self, hstopped]
      exact ⟨rfl, fun _ => rfl⟩
    | cantle =>
      rw [modPair_pair_self, modPair_pair_ne _ (by decide), hstopped]
      exact ⟨rfl, fun _ => rfl⟩
  · rw [hstopped]
    exact ⟨rfl, hadm⟩

/-! ### The entry to SAFE (R45, R50, R66) -/

/-- `t` is what the entry to SAFE for the cause `c` leaves of `s`. -/
structure EntersSafe (s : State) (c : SafeCause) (t : State) : Prop where
  within : WithinHost s t
  psm : t.psm = { s.psm.inSafe c with accepted := none, cmdstat := t.psm.cmdstat, startUp := t.psm.startUp }
  harn : t.harn = { s.harn with recovery := false }
  pair : ∀ i, (s.pair i).state ≠ .retired → (t.pair i).state = .stopped ∧ ((s.pair i).admitted = false → (t.pair i).admitted = false)

/-- From every state but OFF, FUSE_FAIL and SAFE a fault that forces SAFE leads there. -/
theorem entersSafe {s : State} (h : s.psm.state.mayFail) (c : SafeCause) : EntersSafe s c (s.enterSafe c) := by
  obtain ⟨u, v, hu, hv, he⟩ := enterSafe_eq h c
  obtain ⟨r, hr, hstopped⟩ := stoppedFor_eq s c
  have hpair := fun i => stoppedFor_pair s c (i := i)
  have hwithin : WithinHost s (s.stoppedFor c) := (WithinHost.of_eval hr).trans (by rw [hstopped]; rfl)
  obtain ⟨-, -, -, hharn, -⟩ := hr.fields
  have hpsm : (s.stoppedFor c).psm = { s.psm with state := (s.stoppedFor c).psm.state, pairScope := (s.stoppedFor c).psm.pairScope } :=
    (congrArg State.psm hstopped :)
  have hharn' : (s.stoppedFor c).harn = s.harn := (congrArg State.harn hstopped).trans hharn
  generalize s.stoppedFor c = x at hu hstopped hpair hwithin hpsm hharn'
  have hx : u = { x with psm := { x.psm with accepted := none, cmdstat := u.psm.cmdstat }, nelz := u.nelz } := by
    rw [hu, preempt_eq, answerState_eq]
  have hlinks := LinksOnly.stopLinks (if u.psm.state = .boot then v.noteStartUp else v) 1
  rw [← he] at hlinks
  have hnoted : (if u.psm.state = .boot then v.noteStartUp else v) =
      { v with psm := { v.psm with startUp := (if u.psm.state = .boot then v.noteStartUp else v).psm.startUp } } := by split <;> rfl
  generalize (if u.psm.state = .boot then v.noteStartUp else v) = w at hlinks hnoted
  have hend : s.enterSafe c = { x with
      psm := { x.psm.inSafe c with accepted := none, cmdstat := u.psm.cmdstat, startUp := w.psm.startUp }
      harn := { x.harn with recovery := false }, nelz := u.nelz
      links := (s.enterSafe c).links, seq := (s.enterSafe c).seq, acq := (s.enterSafe c).acq } := by
    rw [show s.enterSafe c = _ from hlinks, hnoted, hv, hx]
    rfl
  generalize s.enterSafe c = t at hend
  refine ⟨hwithin.trans (by rw [hend]; rfl), ?_, ?_, fun i hi => ?_⟩
  · rw [hend, hpsm]
    rfl
  · rw [hend]
    dsimp only
    rw [hharn']
  · have hsame : t.pair i = x.pair i := by rw [hend]; rfl
    rw [hsame]
    exact hpair i hi

namespace EntersSafe

variable {s t : State} {c : SafeCause}

theorem state (h : EntersSafe s c t) : t.psm.state = .safe := (congrArg PsmState.state h.psm :)

theorem arm (h : EntersSafe s c t) : t.psm.arm = s.psm.arm := (congrArg PsmState.arm h.psm :)

theorem boot (h : EntersSafe s c t) : t.psm.boot = s.psm.boot := (congrArg PsmState.boot h.psm :)

theorem flashUp (h : EntersSafe s c t) : t.psm.flashUp = s.psm.flashUp := (congrArg PsmState.flashUp h.psm :)

theorem image (h : EntersSafe s c t) : t.harn.image = s.harn.image := (congrArg HarnState.image h.harn :)

theorem safeBit_lt (c : SafeCause) : safeBit c < 5 := by cases c <;> decide

/-- The cause stands in PSM_SAFE (R66). -/
theorem cause (h : EntersSafe s c t) : wbit t.psm.safe (safeBit c) = true := by
  have hlt := safeBit_lt c
  rw [h.psm]
  show wbit (fput _ 11 8 _) _ = true
  rw [wbit_fput_ne _ _ _ (by decide) (by omega), wbit_raise_self _ _ (by omega)]

end EntersSafe

/-- FAULT_N is low in SAFE (R493). -/
theorem faultN_of_safe {s : State} (h : s.psm.state = .safe) : s.faultN = false := by simp [State.faultN, h]

end Sys2Proof.Machine
end

section
/-! Execute words: the transition whose guard holds, the refusal where it does not, and a fault that forces SAFE in the same cycle. -/

namespace Sys2Proof.Machine

/-! ### What the operations of a transition leave alone -/

section
variable (s : State) (src : CmdSource)

/-- A change-log entry concerns the change log and its mirror in the archive alone (R109). -/
theorem logMaintain_eq (why : Nat) : s.logMaintain src why =
    { s with sec := { (s.logMaintain src why).sec with held := s.sec.held }, arch := (s.logMaintain src why).arch } := rfl

theorem flushArchive_eq : s.flushArchive = { s with arch := s.flushArchive.arch } := by
  unfold State.flushArchive State.nextTrace
  split
  · unfold State.traceCopy
    dsimp only
    split
    · rfl
    · split <;> rfl
  · rfl

theorem WithinHost.flushArchive : WithinHost s s.flushArchive := by
  rw [flushArchive_eq]
  rfl

end

/-! ### Commanded transitions that are complete -/

/-- PSM_CMDSTAT.DONE stands once a transition is complete (R73). -/
theorem done_cmdstat (x : PsmState) : wbit x.done.cmdstat 31 = true := by
  show wbit (fput (raise x.cmdstat 31) 19 16 0) 31 = true
  rw [wbit_fput_ne _ _ _ (by decide) (by decide), wbit_raise_self _ _ (by decide)]

/-- The PSM block after a commanded transition to `st` that is complete (R44). -/
def PsmState.entered (x : PsmState) (st : Psm) (pairScope : Bool) : PsmState := { x.done with state := st, pairScope := pairScope }

/-- Where no arm and no transition was under way, none is once a transition is complete. -/
theorem entered_complete {x y : PsmState} {st : Psm} {b : Bool} (h : y = x.entered st b) (ha : x.arm = none) (hb : x.busy = none) :
    y.state = st ∧ y.arm = none ∧ y.busy = none ∧ wbit y.cmdstat 31 = true := by
  subst h
  exact ⟨rfl, ha, hb, done_cmdstat x⟩

/-! ### What a command whose guard holds carries out -/

section
variable (s : State) (src : CmdSource)

theorem perform_service : s.perform src none 5 0 = s.enter .service := rfl

theorem perform_maintain : s.perform src none 6 0 = s.enterMaintain src := rfl

theorem perform_selftest : s.perform src none 7 0 = s.enterSelftest := rfl

theorem perform_pairTest : s.perform src none 7 1 = s.enterPairTest src := rfl

theorem perform_toDormant : s.perform src none 3 0 = s.flushArchive.begin src none (.toDormant src s.clock) := rfl

variable {s}

theorem perform_fromDormant (h : s.psm.state = .dormant) : s.perform src none 4 0 = (s.begin src none (.fromDormant src)).pairsToTest := by
  simp [State.perform, h]

theorem perform_fromService (h : s.psm.state = .service) : s.perform src none 4 0 = (s.closeAllCycles 0).enter .standby := by
  simp [State.perform, h, State.answerWord]

theorem perform_fromMaintain (h : s.psm.state = .maintain) : s.perform src none 4 0 = s.enter .standby := by
  simp [State.perform, h, State.answerWord]

variable (s)

theorem begin_psm (ans : Option Byte) (x : Transition) : (s.begin src ans x).psm = { s.psm with busy := some x } := rfl

theorem begin_pair (ans : Option Byte) (x : Transition) (i : PairId) : (s.begin src ans x).pair i = s.pair i := rfl

theorem WithinHost.begin (ans : Option Byte) (x : Transition) : WithinHost s (s.begin src ans x) := rfl

/-- To OFF: the flush of the archive begins, and where the kernel does not run the final COMMANDs go out at once (R44). -/
theorem perform_off : LinksOnly (s.flushArchive.begin src none (.toOff src s.clock)) (s.perform src none 0 0) := by
  have hclock : s.flushArchive.clock = s.clock := by rw [flushArchive_eq]
  have hoff : s.perform src none 0 0 = if (s.flushArchive.begin src none (.toOff src s.clock)).kernelRuns
      then s.flushArchive.begin src none (.toOff src s.clock)
      else (s.flushArchive.begin src none (.toOff src s.clock)).eachPortal State.sendCommandNow := rfl
  rw [hoff]
  split
  · exact .refl _
  · exact .sendCommands _

theorem WithinHost.enter (st : Psm) : WithinHost s (s.enter st) := rfl

/-- MAINTAIN, with the password used up and its entry in the change log (R100, R110). -/
def State.maintaining (s : State) (src : CmdSource) : State :=
  (({ s with sec := { s.sec with held := s.sec.held.setChan src.ch none }, harn := { s.harn with recovery := s.harn.image.isNone } } : State).enter
    .maintain).logMaintain src 0

theorem enterMaintain_eq : s.enterMaintain src =
    if s.psm.state == .safe then (s.maintaining src).pairsToTest.trainAll else s.maintaining src := rfl

/-- MAINTAIN: the password is used up, and from SAFE the pairs are tested anew (R41, R100, R280). -/
theorem enterMaintain_spec : WithinHost s (s.enterMaintain src) ∧ (s.enterMaintain src).psm = s.psm.entered .maintain s.psm.pairScope ∧
    (s.enterMaintain src).sec.held.chan src.ch = none ∧
    (s.psm.state = .safe → ∀ i, (s.pair i).state ≠ .retired → ((s.enterMaintain src).pair i).state = .test) := by
  have hbegun : WithinHost s (s.maintaining src) := rfl
  have hpsm : (s.maintaining src).psm = s.psm.entered .maintain s.psm.pairScope := rfl
  have hheld : (s.maintaining src).sec.held.chan src.ch = none := Three.chan_setChan ..
  have hpair (i : PairId) : (s.maintaining src).pair i = s.pair i := rfl
  rw [enterMaintain_eq]
  generalize s.maintaining src = v at *
  split
  next =>
    have hlinks := LinksOnly.trainAll v.pairsToTest
    have hsec : v.pairsToTest.trainAll.sec = v.sec := by rw [hlinks.sec, pairsToTest_eq, bringPairs_eq]
    refine ⟨(hbegun.trans (.bringPairs ..)).trans hlinks.within, ?_, by rw [hsec, hheld], fun _ i hi => ?_⟩
    · rw [hlinks.psm, pairsToTest_eq, bringPairs_psm, hpsm]
    · rw [State.pair, hlinks.lock]
      exact bringPairs_state (by rwa [hpair]) _
  next h => exact ⟨hbegun, hpsm, hheld, fun hs => absurd hs (by simpa using h)⟩

/-- A device-scope SELFTEST with the kernel stopped. -/
def State.selftesting (s : State) : State := ({ s with psm := s.psm.entered .selftest false } : State).stopKernel

theorem enterSelftest_eq : s.enterSelftest =
    if s.psm.state == .safe then s.selftesting.pairsToTest.trainAll else s.selftesting.pairsToTest.eachPortal State.sendTest := rfl

/-- A device-scope SELFTEST: both pairs are under test (R41, R280). -/
theorem enterSelftest_spec : WithinHost s s.enterSelftest ∧ s.enterSelftest.psm = s.psm.entered .selftest false ∧
    ∀ i, (s.pair i).state ≠ .retired → (s.enterSelftest.pair i).state = .test := by
  have hbegun : WithinHost s s.selftesting := rfl
  have hlinks : LinksOnly (s.selftesting.bringPairs .test) s.enterSelftest := by
    rw [enterSelftest_eq]
    split
    · exact .trainAll _
    · exact .sendTests _
  refine ⟨(hbegun.trans (.bringPairs ..)).trans hlinks.within, ?_, fun i hi => ?_⟩
  · rw [hlinks.psm, bringPairs_psm]
    rfl
  · rw [State.pair, hlinks.lock]
    exact bringPairs_state (s := s.selftesting) hi _

/-- A pair-scope SELFTEST with pair `o` under test. -/
def State.pairTesting (s : State) (o : PairId) : State :=
  (({ s with psm := s.psm.entered .selftest true } : State).modPair o fun x => { x with before := x.state }).movePair o .test

theorem enterPairTest_eq {i : PairId} (h : s.lock.lead = some i) : s.enterPairTest src =
    { s.pairTesting i.other with lock := { (s.pairTesting i.other).lock with
        graft := some { pair := i.other, step := 1, from_ := (s.pairTesting i.other).clock, awlAt := (s.pairTesting i.other).clock, clean := 0, src := src }
        cores := (s.pairTesting i.other).lock.cores.setPair i.other {} } } := by
  unfold State.enterPairTest
  rw [h]
  rfl

/-- A pair-scope SELFTEST: the pair that does not lead is under test, and its graft is at step 1 (R292). -/
theorem enterPairTest_spec {i : PairId} (h : s.lock.lead = some i) : WithinHost s (s.enterPairTest src) ∧
    (s.enterPairTest src).psm = s.psm.entered .selftest true ∧ ((s.enterPairTest src).pair i.other).state = .test ∧
    (s.enterPairTest src).pair i = s.pair i ∧
    ∃ g, (s.enterPairTest src).lock.graft = some g ∧ g.pair = i.other ∧ g.step = 1 ∧ g.awlAt = s.clock := by
  have hother : i ≠ i.other := by cases i <;> decide
  have hbegun : s.pairTesting i.other = { s with psm := s.psm.entered .selftest true, lock := (s.pairTesting i.other).lock } := by
    rw [State.pairTesting, movePair_eq]
    rfl
  have htest : ((s.pairTesting i.other).pair i.other).state = .test := by
    rw [State.pairTesting, movePair_pair_self]
    rfl
  have hkept : (s.pairTesting i.other).pair i = s.pair i := (movePair_pair_ne _ _ hother).trans (modPair_pair_ne _ hother _)
  rw [enterPairTest_eq s src h]
  generalize s.pairTesting i.other = v at hbegun htest hkept
  refine ⟨?_, ?_, htest, hkept, _, rfl, rfl, rfl, ?_⟩
  · rw [hbegun]
    rfl
  · rw [hbegun]
  · rw [hbegun]

end

/-! ### An execute word that follows its own arm (R47) -/

section
variable {s : State} {src : CmdSource} {tgt scope : Nat}

/-- The target and the scope that an arm word names. -/
theorem armWordOf_fields (ht : tgt < 8) (hs : scope < 2) : psmTarget (armWordOf tgt scope) = tgt ∧ fget (armWordOf tgt scope) 3 3 = scope := by
  have h : ∀ a < 8, ∀ b < 2, psmTarget (armWordOf a b) = a ∧ fget (armWordOf a b) 3 3 = b := by decide
  exact h tgt ht scope hs

/-- The state in which an execute word is judged: the arm is used up, and the kernel sees the word (R437). -/
def State.judging (s : State) (src : CmdSource) (tgt scope : Nat) : State :=
  { s.disarmed with seq := { s.seq with word96 := execWord src tgt scope } }

/-- The state in which a command is carried out. -/
def State.accepting (s : State) (src : CmdSource) (tgt scope : Nat) : State := ((s.judging src tgt scope).noteCmd src tgt).accept src none

/-- A command that is accepted uses up its arm, and leaves itself in PSM_CMDSTAT and for R50. -/
theorem accepting_eq (s : State) (src : CmdSource) (tgt scope : Nat) : s.accepting src tgt scope =
    { s with psm := { s.psm with arm := none, cmdstat := (s.accepting src tgt scope).psm.cmdstat, accepted := (s.accepting src tgt scope).psm.accepted }
             seq := (s.accepting src tgt scope).seq } := by
  unfold State.accepting State.accept
  split <;> rfl

/-- An execute word with no fault in its cycle is judged by the transition it asks for, and by its guard (R42, R51). -/
theorem executeArm_judged (ht : tgt < 8) (hs : scope < 2) : s.disarmed.executeArm src none (armWordOf tgt scope) none =
    if !hasTransition s.psm.state tgt scope then (s.judging src tgt scope).refuseExec src none tgt 4
    else if s.guardWhy src tgt scope ≠ 0 then (s.judging src tgt scope).refuseExec src none tgt (s.guardWhy src tgt scope)
    else (s.accepting src tgt scope).perform src none tgt scope := by
  obtain ⟨htgt, hscope⟩ := armWordOf_fields ht hs
  unfold State.executeArm
  rw [htgt, hscope]
  exact if_neg (not_not_intro rfl)

/-- A fault that forces SAFE in the same cycle comes first (R50). -/
theorem executeArm_forced (ht : tgt < 8) (hs : scope < 2) (h : s.psm.state.mayFail) (c : SafeCause) :
    s.disarmed.executeArm src none (armWordOf tgt scope) (some c) = ((s.judging src tgt scope).enterSafe c).refuseExec src none tgt 11 := by
  obtain ⟨htgt, hscope⟩ := armWordOf_fields ht hs
  have hsafe := (entersSafe (s := s.judging src tgt scope) h c).state
  have hne : ((s.judging src tgt scope).enterSafe c).psm.state ≠ (s.judging src tgt scope).psm.state := by
    obtain ⟨-, -, hnot⟩ := h
    rw [hsafe]
    exact Ne.symm hnot
  simp only [State.executeArm, htgt, hscope]
  exact if_pos hne

/-- The execute word of a target from a source that may send it, within 10 ms of its own arm (R47). -/
theorem executeWord_armed {a : Arm} (hsend : s.maySend src = true) (h : s.psm.arm = some a) (hw : a.word = armWordOf tgt scope)
    (hsrc : sameSource src a.src = true) (hfresh : s.clock - a.at_ ≤ 10000000) (safe : Option SafeCause) :
    s.executeWord src tgt scope safe = s.disarmed.executeArm src none (armWordOf tgt scope) safe := by
  have hex := psmWord_executes h hfresh hsrc none safe
  rw [hw] at hex
  exact (if_pos hsend).trans hex

/-- `v` is `s` with a command accepted whose execute word has arrived: its arm is used up and no transition is under way. -/
structure Accepts (s v : State) : Prop where
  within : WithinHost s v
  state : v.psm.state = s.psm.state
  arm : v.psm.arm = none
  busy : v.psm.busy = none
  lock : v.lock = s.lock

theorem Accepts.pair {v : State} (h : Accepts s v) (i : PairId) : v.pair i = s.pair i := by rw [State.pair, h.lock, State.pair]

theorem accepts_accepting (h : s.psm.busy = none) : Accepts s (s.accepting src tgt scope) := by
  rw [accepting_eq]
  exact ⟨rfl, rfl, rfl, h, rfl⟩

/-- An execute word whose guard holds, by what its command leaves once it is over. -/
theorem runs_performs {c : Instr} {Q : State → Prop} (h : s.armedFor src tgt scope) (hc : exec c s = settled s (s.executeWord src tgt scope none))
    (ht : tgt < 8) (hs : scope < 2) (htr : hasTransition s.psm.state tgt scope = true) (hg : s.guardWhy src tgt scope = 0)
    (hQ : ∀ v, Accepts s v → WithinHost v (v.perform src none tgt scope) ∧
      ∀ u, AfterCommand s (v.perform src none tgt scope) u → u.portals = s.portals → Q u) : Runs c s Q := by
  obtain ⟨hsend, hf, hbusy, a, harm, hword, hsrc, hfresh⟩ := h
  have hv : Accepts s (s.accepting src tgt scope) := accepts_accepting hbusy
  obtain ⟨hw, hq⟩ := hQ _ hv
  rw [executeWord_armed hsend harm hword hsrc hfresh, executeArm_judged ht hs, htr, hg, if_neg (by decide), if_neg (by decide)] at hc
  exact .of_afterCommand hc ((hv.within.trans hw).portFree hf) fun u hu => hq u hu (hu.portals.trans (hv.within.trans hw).portals)

/-! ### The transitions, one by one (R41, R44, R67) -/

theorem exec_executeService (src : CmdSource) (x : Option SafeCause) (s : State) :
    exec (.executeService src x) s = settled s (s.executeWord src 5 0 x) := rfl

theorem exec_executeStandby (src : CmdSource) (x : Option SafeCause) (s : State) :
    exec (.executeStandby src x) s = settled s (s.executeWord src 4 0 x) := rfl

theorem exec_executeDormant (src : CmdSource) (x : Option SafeCause) (s : State) :
    exec (.executeDormant src x) s = settled s (s.executeWord src 3 0 x) := rfl

theorem exec_executeMaintain (src : CmdSource) (x : Option SafeCause) (s : State) :
    exec (.executeMaintain src x) s = settled s (s.executeWord src 6 0 x) := rfl

theorem exec_executeSelftestDevice (src : CmdSource) (x : Option SafeCause) (s : State) :
    exec (.executeSelftestDevice src x) s = settled s (s.executeWord src 7 0 x) := rfl

theorem exec_executeSelftestPair (src : CmdSource) (x : Option SafeCause) (s : State) :
    exec (.executeSelftestPair src x) s = settled s (s.executeWord src 7 1 x) := rfl

theorem exec_executeOff (src : CmdSource) (x : Option SafeCause) (s : State) :
    exec (.executeOff src x) s = settled s (s.executeWord src 0 0 x) := rfl

/-- What stands once a commanded transition to `st` is complete. -/
def State.completed (t : State) (st : Psm) : Prop := t.psm.state = st ∧ t.psm.arm = none ∧ t.psm.busy = none ∧ wbit t.psm.cmdstat 31 = true

theorem Accepts.completed {v u : State} {st : Psm} {b : Bool} (h : Accepts s v) (hu : u.psm = v.psm.entered st b) : u.completed st :=
  entered_complete hu h.arm h.busy

theorem runs_executeService (h : s.armedFor src 5 0) (hs : s.psm.state = .standby)
    (hn : s.admittedPairs = 2 ∨ (s.admittedPairs = 1 ∧ wbit s.psm.grant 24 = true)) :
    Runs (.executeService src none) s fun t => t.completed .service ∧ t.portals = s.portals := by
  have hg : s.guardWhy src 5 0 = 0 := by obtain hn | ⟨hn, hgrant⟩ := hn <;> simp [State.guardWhy, *]
  refine runs_performs h (exec_executeService ..) (by decide) (by decide) (by rw [hs]; rfl) hg fun v hv => ?_
  rw [perform_service]
  exact ⟨.enter v _, fun u hu hportals => ⟨hv.completed hu.psm, hportals⟩⟩

theorem runs_executeStandby (h : s.armedFor src 4 0)
    (hs : (s.psm.state = .service ∧ s.anyMoving = false) ∨ (s.psm.state = .maintain ∧ s.harn.image.isSome = true ∧ s.harn.verified = true)) :
    Runs (.executeStandby src none) s fun t => t.completed .standby ∧ t.portals = s.portals := by
  obtain ⟨hs, hstill⟩ | ⟨hs, himage, hverified⟩ := hs
  · have hg : s.guardWhy src 4 0 = 0 := by simp [State.guardWhy, hs, hstill]
    refine runs_performs h (exec_executeStandby ..) (by decide) (by decide) (by rw [hs]; rfl) hg fun v hv => ?_
    rw [perform_fromService src (hv.state.trans hs)]
    have hcycles := Eval.closeAllCycles v 0
    obtain ⟨-, hpsm, -⟩ := hcycles.fields
    refine ⟨(WithinHost.of_eval hcycles).trans (.enter ..), fun u hu hportals => ⟨hv.completed (b := v.psm.pairScope) (hu.psm.trans ?_), hportals⟩⟩
    rw [State.enter, hpsm]
    rfl
  · have hg : s.guardWhy src 4 0 = 0 := by simp [State.guardWhy, hs, himage, hverified]
    refine runs_performs h (exec_executeStandby ..) (by decide) (by decide) (by rw [hs]; rfl) hg fun v hv => ?_
    rw [perform_fromMaintain src (hv.state.trans hs)]
    exact ⟨.enter v _, fun u hu hportals => ⟨hv.completed hu.psm, hportals⟩⟩

theorem runs_executeStandby_dormant (h : s.armedFor src 4 0) (hs : s.psm.state = .dormant) :
    Runs (.executeStandby src none) s fun t => t.psm.state = .dormant ∧ t.psm.arm = none ∧ t.psm.busy = some (.fromDormant src) ∧
      ∀ i, (s.pair i).state ≠ .retired → (t.pair i).state = .test := by
  have hg : s.guardWhy src 4 0 = 0 := by simp [State.guardWhy, hs]
  refine runs_performs h (exec_executeStandby ..) (by decide) (by decide) (by rw [hs]; rfl) hg fun v hv => ?_
  rw [perform_fromDormant src (hv.state.trans hs), pairsToTest_eq]
  refine ⟨(WithinHost.begin ..).trans (.bringPairs ..), fun u hu _ => ?_⟩
  rw [hu.psm, bringPairs_psm]
  refine ⟨hv.state.trans hs, hv.arm, rfl, fun i hi => ?_⟩
  rw [hu.pair]
  exact bringPairs_state (by rwa [begin_pair, hv.pair]) _

theorem runs_executeDormant (h : s.armedFor src 3 0) (hs : s.psm.state = .standby) :
    Runs (.executeDormant src none) s fun t =>
      t.psm.state = .standby ∧ t.psm.arm = none ∧ t.psm.busy = some (.toDormant src s.clock) ∧ t.portals = s.portals := by
  refine runs_performs h (exec_executeDormant ..) (by decide) (by decide) (by rw [hs]; rfl) rfl fun v hv => ?_
  rw [perform_toDormant]
  refine ⟨(WithinHost.flushArchive v).trans (.begin ..), fun u hu hportals => ?_⟩
  have hpsm : v.flushArchive.psm = v.psm := by rw [flushArchive_eq]
  rw [hu.psm, begin_psm, hpsm, ← hv.within.clock]
  exact ⟨hv.state.trans hs, hv.arm, rfl, hportals⟩

theorem runs_executeMaintain (h : s.armedFor src 6 0) (hs : s.psm.state = .standby ∨ s.psm.state = .safe) (hn : 0 < s.admittedPairs)
    (hpw : s.pwHeldBy src = true) (hseal : s.sealLow = false) :
    Runs (.executeMaintain src none) s fun t => t.completed .maintain ∧ t.sec.held.chan src.ch = none ∧
      (s.psm.state = .safe → ∀ i, (s.pair i).state ≠ .retired → (t.pair i).state = .test) := by
  have hg : s.guardWhy src 6 0 = 0 := by simp [State.guardWhy, hpw, hseal, Nat.pos_iff_ne_zero.mp hn]
  have htr : hasTransition s.psm.state 6 0 = true := by obtain hs | hs := hs <;> rw [hs] <;> rfl
  refine runs_performs h (exec_executeMaintain ..) (by decide) (by decide) htr hg fun v hv => ?_
  rw [perform_maintain]
  obtain ⟨hwithin, hpsm, hheld, htest⟩ := enterMaintain_spec v src
  refine ⟨hwithin, fun u hu _ => ⟨hv.completed (hu.psm.trans hpsm), by rw [hu.sec, hheld], fun hsafe i hi => ?_⟩⟩
  rw [hu.pair]
  exact htest (hv.state.trans hsafe) i (by rwa [hv.pair])

theorem runs_executeSelftestDevice (h : s.armedFor src 7 0) (hs : s.psm.state = .standby ∨ s.psm.state = .safe) :
    Runs (.executeSelftestDevice src none) s fun t => t.completed .selftest ∧ t.psm.pairScope = false ∧
      ∀ i, (s.pair i).state ≠ .retired → (t.pair i).state = .test := by
  have htr : hasTransition s.psm.state 7 0 = true := by obtain hs | hs := hs <;> rw [hs] <;> rfl
  refine runs_performs h (exec_executeSelftestDevice ..) (by decide) (by decide) htr rfl fun v hv => ?_
  rw [perform_selftest]
  obtain ⟨hwithin, hpsm, htest⟩ := enterSelftest_spec v
  refine ⟨hwithin, fun u hu _ => ⟨hv.completed (hu.psm.trans hpsm), by rw [hu.psm, hpsm]; rfl, fun i hi => ?_⟩⟩
  rw [hu.pair]
  exact htest i (by rwa [hv.pair])

theorem runs_executeSelftestPair {i : PairId} (h : s.armedFor src 7 1) (hs : s.psm.state = .service) (hlead : s.lock.lead = some i)
    (hother : (s.pair i.other).admitted = false) (hret : (s.pair i.other).state ≠ .retired) (hfails : (s.pair i.other).fails < 4)
    (hadm : (s.pair i).admitted = true) :
    Runs (.executeSelftestPair src none) s fun t => t.completed .selftest ∧ t.psm.pairScope = true ∧ (t.pair i.other).state = .test ∧
      t.pair i = s.pair i ∧ ∃ g, t.lock.graft = some g ∧ g.pair = i.other ∧ g.step = 1 ∧ g.awlAt = s.clock := by
  have hg : s.guardWhy src 7 1 = 0 := by simp [State.guardWhy, hlead, hother, hret, hfails, hadm]
  refine runs_performs h (exec_executeSelftestPair ..) (by decide) (by decide) (by rw [hs]; rfl) hg fun v hv => ?_
  rw [perform_pairTest]
  obtain ⟨hwithin, hpsm, htest, hkept, hgraft⟩ := enterPairTest_spec v src (by rw [hv.lock, hlead])
  refine ⟨hwithin, fun u hu _ => ⟨hv.completed (hu.psm.trans hpsm), by rw [hu.psm, hpsm]; rfl, ?_, ?_, ?_⟩⟩
  · rw [hu.pair, htest]
  · rw [hu.pair, hkept, hv.pair]
  · rwa [hu.lock, ← hv.within.clock]

theorem runs_executeOff (h : s.armedFor src 0 0)
    (hs : s.psm.state = .standby ∨ s.psm.state = .dormant ∨ s.psm.state = .maintain ∨ s.psm.state = .safe) :
    Runs (.executeOff src none) s fun t =>
      t.psm.state = s.psm.state ∧ t.psm.arm = none ∧ t.psm.busy = some (.toOff src s.clock) ∧ t.portals = s.portals := by
  have htr : hasTransition s.psm.state 0 0 = true := by obtain hs | hs | hs | hs := hs <;> rw [hs] <;> rfl
  refine runs_performs h (exec_executeOff ..) (by decide) (by decide) htr rfl fun v hv => ?_
  have hlinks := perform_off v src
  have hpsm : v.flushArchive.psm = v.psm := by rw [flushArchive_eq]
  refine ⟨((WithinHost.flushArchive v).trans (.begin ..)).trans hlinks.within, fun u hu hportals => ?_⟩
  rw [hu.psm, hlinks.psm, begin_psm, hpsm, ← hv.within.clock]
  exact ⟨hv.state, hv.arm, rfl, hportals⟩

/-- Settles O13, transition by transition: the execute word uses up its arm, its guard holds, and its command is carried out. -/
theorem executeWordsCarryOutTransitions : Obligations.ExecuteWordsCarryOutTransitions := by
  refine ⟨fun s src h hs hn => ?_, fun s src h hs => ?_, fun s src h hs => runs_executeStandby_dormant h hs,
    fun s src h hs => runs_executeDormant h hs, fun s src h hs hn hpw hseal => ?_, fun s src h hs => ?_,
    fun s src i h hs hlead hother hret hfails hadm => ?_, fun s src h hs => runs_executeOff h hs⟩
  · exact (runs_executeService h hs hn).mono fun t ⟨⟨hst, hc⟩, hportals⟩ => ⟨hst, hc, hportals⟩
  · exact (runs_executeStandby h hs).mono fun t ⟨⟨hst, hc⟩, hportals⟩ => ⟨hst, hc, hportals⟩
  · exact (runs_executeMaintain h hs hn hpw hseal).mono fun t ⟨⟨hst, hc⟩, hheld, htest⟩ => ⟨hst, hc, hheld, htest⟩
  · exact (runs_executeSelftestDevice h hs).mono fun t ⟨⟨hst, hc⟩, hscope, htest⟩ => ⟨hst, hscope, hc, htest⟩
  · exact (runs_executeSelftestPair h hs hlead hother hret hfails hadm).mono fun t ⟨⟨hst, hc⟩, hscope, htest, hkept, hgraft⟩ =>
      ⟨hst, hscope, hc, htest, hkept, hgraft⟩

end

/-! ### An execute word whose guard is false, or that a fault forcing SAFE overtakes (R42, R50) -/

section
variable {s v : State} {src : CmdSource} {tgt scope why : Nat}

/-- A command that is refused with its execute word leaves, beside PSM_CMDSTAT and an answer, at most an entry in the change log (R110). -/
theorem refuseExec_eq (v : State) (src : CmdSource) (ans : Option Byte) (tgt why : Nat) : v.refuseExec src ans tgt why =
    { v.refuseWord src ans tgt why with sec := (v.refuseExec src ans tgt why).sec, arch := (v.refuseExec src ans tgt why).arch } := by
  unfold State.refuseExec
  dsimp only
  split
  · exact logMaintain_eq ..
  · rfl

theorem refuseExec_within (v : State) (src : CmdSource) (ans : Option Byte) (tgt why : Nat) : WithinHost v (v.refuseExec src ans tgt why) := by
  rw [refuseExec_eq]
  exact (refuseWord_within v src ans tgt why).trans rfl

theorem refused_refuseExec (v : State) (src : CmdSource) (htgt : tgt < 16) (hwhy : why < 16) :
    Refused v.psm src tgt why (v.refuseExec src none tgt why).psm := by
  rw [refuseExec_eq]
  exact refused_refuseWord v src none htgt hwhy

/-- A source's execute word for its own arm that comes to a refusal of its command. -/
theorem runs_refuseExec {c : Instr} (hc : exec c s = settled s (v.refuseExec src none tgt why)) (hf : s.portFree) (hv : WithinHost s v) (ht : tgt < 16)
    (hwhy : why < 16) : Runs c s fun t => Refused v.psm src tgt why t.psm ∧ t.portals = s.portals ∧ t.lock = v.lock := by
  have hlock : (v.refuseExec src none tgt why).lock = v.lock := by rw [refuseExec_eq, ← refuseWord_lock v src none tgt why]
  rw [← hlock]
  exact runs_refused hc hf (hv.trans (refuseExec_within ..)) (refused_refuseExec v src ht hwhy)

/-- Where the arm is the source's own and no older than 10 ms, its execute word is judged. -/
theorem exec_own_arm {c : Instr} {x : Option SafeCause} {at_ : Nat} (hc : exec c s = settled s (s.executeWord src tgt scope x))
    (hs : s.maySend src = true) (ha : s.psm.arm = some { word := armWordOf tgt scope, src := src, at_ := at_, seq := none })
    (hfresh : s.clock - at_ ≤ 10000000) : exec c s = settled s (s.disarmed.executeArm src none (armWordOf tgt scope) x) := by
  rw [hc, executeWord_armed hs ha rfl (sameSource_self src) hfresh]

/-- The guard of the command for a target with a scope is false for the reason `why` (R41, R42). -/
def State.guardFails (s : State) (src : CmdSource) (tgt scope why : Nat) : Prop :=
  (tgt = 5 ∧ s.admittedPairs = 0 ∧ why = 7) ∨ (tgt = 5 ∧ s.admittedPairs = 1 ∧ wbit s.psm.grant 24 = false ∧ why = 7) ∨
    (tgt = 4 ∧ s.psm.state = .service ∧ s.anyMoving = true ∧ why = 6) ∨
    (tgt = 4 ∧ s.psm.state = .maintain ∧ (s.harn.image = none ∨ s.harn.verified = false) ∧ why = 10) ∨
    (tgt = 6 ∧ s.admittedPairs = 0 ∧ why = 7) ∨
    (tgt = 6 ∧ 0 < s.admittedPairs ∧ s.pwHeldBy src = false ∧ why = 8) ∨
    (tgt = 6 ∧ 0 < s.admittedPairs ∧ s.pwHeldBy src = true ∧ s.sealLow = true ∧ why = 9) ∨
    (scope = 1 ∧ s.lock.lead = none ∧ why = 7) ∨
    (∃ i, scope = 1 ∧ s.lock.lead = some i ∧ (s.pair i).admitted = true ∧ (s.pair i.other).admitted = true ∧ why = 12)

/-- Each of those cases is one of the guard's own reasons. -/
theorem guardWhy_of_guardFails (h : s.guardFails src tgt scope why) (hscope : scope = 1 → tgt = 7) :
    s.guardWhy src tgt scope = why ∧ why ≠ 0 ∧ why < 16 := by
  obtain ⟨rfl, hn, rfl⟩ | ⟨rfl, hn, hg, rfl⟩ | ⟨rfl, hs, hm, rfl⟩ | ⟨rfl, hs, hi, rfl⟩ | ⟨rfl, hn, rfl⟩ | ⟨rfl, hn, hp, rfl⟩ | ⟨rfl, hn, hp, hl, rfl⟩ |
    ⟨rfl, hl, rfl⟩ | ⟨i, rfl, hl, ha, ho, rfl⟩ := h
  · simp [State.guardWhy, hn]
  · simp [State.guardWhy, hn, hg]
  · simp [State.guardWhy, hs, hm]
  · obtain hi | hi := hi <;> simp [State.guardWhy, hs, hi]
  · simp [State.guardWhy, hn]
  · simp [State.guardWhy, Nat.pos_iff_ne_zero.1 hn, hp]
  · simp [State.guardWhy, Nat.pos_iff_ne_zero.1 hn, hp, hl]
  · obtain rfl := hscope rfl
    simp [State.guardWhy, hl]
  · obtain rfl := hscope rfl
    simp [State.guardWhy, hl, ha, ho]

/-- What a refused execute word leaves in the PSM block. -/
theorem Refused.of_execute {x y : PsmState} {st : Psm} (h : Refused x src tgt why y) (ha : x.arm = none) (hst : x.state = st) :
    y.state = st ∧ y.arm = none ∧ wbit y.cmdstat 30 = true ∧ fget y.cmdstat 19 16 = why ∧ fget y.cmdstat 27 24 = tgt ∧
      fget y.cmdstat 29 28 = chanCode src.ch :=
  ⟨(congrArg PsmState.state h.eq).trans hst, (congrArg PsmState.arm h.eq).trans ha, h.refused, h.reason, h.target, h.source⟩

/-- The execute commands, each with its target and scope. -/
theorem executeCommand {e : Nat × Nat × (Option SafeCause → Instr)}
    (h : e ∈ [(5, 0, Instr.executeService src), (4, 0, .executeStandby src), (3, 0, .executeDormant src), (6, 0, .executeMaintain src),
      (7, 0, .executeSelftestDevice src), (7, 1, .executeSelftestPair src), (0, 0, .executeOff src)]) (s : State) :
    (∀ x, exec (e.2.2 x) s = settled s (s.executeWord src e.1 e.2.1 x)) ∧ e.1 < 8 ∧ e.2.1 < 2 ∧ (e.2.1 = 1 → e.1 = 7) := by
  simp only [List.mem_cons, List.not_mem_nil, or_false] at h
  obtain rfl | rfl | rfl | rfl | rfl | rfl | rfl := h <;> exact ⟨fun _ => rfl, by simp⟩

/-- Settles O14: a false guard refuses its command, and a fault in the same cycle leads to SAFE before the command is judged. -/
theorem falseGuardAndForcedSafeRefuseExecuteWord : Obligations.FalseGuardAndForcedSafeRefuseExecuteWord := by
  intro s src at_ tgt scope hs hf ha hfresh e he htgt hscope refused
  obtain ⟨hexec, ht, hsc, hpair⟩ := executeCommand he s
  rw [← htgt] at ht hpair
  rw [← hscope] at hsc hpair
  rw [← htgt, ← hscope] at hexec
  have hexec (x : Option SafeCause) := exec_own_arm (hexec x) hs ha hfresh
  refine ⟨fun why htr hwhy => ?_, fun c hst => ?_⟩
  · obtain ⟨hg, h0, hlt⟩ := guardWhy_of_guardFails hwhy hpair
    have hc := hexec none
    rw [executeArm_judged ht hsc, htr, hg, if_neg (by decide), if_pos h0] at hc
    refine (runs_refuseExec hc hf rfl (by omega) hlt).mono fun t ⟨hr, hportals, hlock⟩ => ?_
    exact ⟨hr.of_execute rfl rfl, (congrArg PsmState.busy hr.eq :), hportals, hlock⟩
  · have hfail : s.psm.state.mayFail := by obtain h | h | h | h := hst <;> rw [h] <;> exact ⟨by decide, by decide, by decide⟩
    have hsafe := entersSafe (s := s.judging src tgt scope) hfail c
    have hc := hexec (some c)
    rw [executeArm_forced ht hsc hfail] at hc
    have hwithin : WithinHost s (s.judging src tgt scope) := rfl
    refine (runs_refuseExec hc hf (hwithin.trans hsafe.within) (by omega) (by decide)).mono fun t ⟨hr, _, _⟩ => ?_
    exact ⟨hr.of_execute hsafe.arm hsafe.state, by rw [hr.eq]; exact hsafe.cause⟩

end

end Sys2Proof.Machine
end

section
/-! The end of an awl run, and start-up from fuse load to STANDBY. -/

namespace Sys2Proof.Machine

/-! ### The end of an awl run that covers both pairs (R281, R289 to R291) -/

/-- The run of a pair among those of both. -/
def pairRun (p c : AwlRun) : PairId → AwlRun
  | .pommel => p
  | .cantle => c

/-- A pair that is not retired and passes the awl. -/
def State.awlOk (s : State) (p c : AwlRun) (i : PairId) : Bool := (s.pair i).state != .retired && awlPass (pairRun p c i)

/-- The pair that leads after an awl run: the preferred one, else Pommel, else Cantle, of those that pass (R281). -/
def State.awlLead (s : State) (p c : AwlRun) (prefer : Option PairId) : Option PairId :=
  match prefer with
  | some i => if s.awlOk p c i then some i else if s.awlOk p c .pommel then some .pommel else if s.awlOk p c .cantle then some .cantle else none
  | none => if s.awlOk p c .pommel then some .pommel else if s.awlOk p c .cantle then some .cantle else none

/-- What an awl run makes of a pair that is not retired. -/
def awlState (ok : PairId → Bool) (lead : Option PairId) (other : PairState) (i : PairId) : PairState :=
  if !ok i then .failed else if lead == some i then .lead else other

/-- A pair's record after an awl run. -/
def PairInfo.judged (x : PairInfo) (st : PairState) : PairInfo :=
  if x.state == .retired then x else { x with state := st, admitted := admittedIn false st }

/-- A pair takes the state that the awl run gives it, and where it passes the data that it starts from. -/
def State.judgePair (s : State) (ok : PairId → Bool) (src lead : Option PairId) (other : PairState) (i : PairId) : State :=
  if (s.pair i).state == .retired then s
  else (if ok i then s.matchTo src i else s).modPair i fun x =>
    { x with state := awlState ok lead other i, admitted := admittedIn false (awlState ok lead other i) }

section
variable (s : State) (p c : AwlRun) (ok : PairId → Bool) (src lead prefer : Option PairId) (other : PairState) (i : PairId)

theorem matchTo_eq : s.matchTo src i = { s with lock := { s.lock with cores := (s.matchTo src i).lock.cores }, fabric := (s.matchTo src i).fabric } := by
  unfold State.matchTo
  split
  · split <;> rfl
  · rfl

theorem judgePair_eq : s.judgePair ok src lead other i =
    { s with lock := (s.judgePair ok src lead other i).lock, fabric := (s.judgePair ok src lead other i).fabric } := by
  unfold State.judgePair
  split
  · rfl
  · split
    · rw [matchTo_eq]
      rfl
    · rfl

theorem judgePair_pair_self : (s.judgePair ok src lead other i).pair i = (s.pair i).judged (awlState ok lead other i) := by
  unfold State.judgePair PairInfo.judged
  split
  · rfl
  · have hmatched : (if ok i then s.matchTo src i else s).pair i = s.pair i := by
      split
      · rw [matchTo_eq]
        rfl
      · rfl
    rw [modPair_pair_self, hmatched]

theorem judgePair_pair_ne {i j : PairId} (h : j ≠ i) : (s.judgePair ok src lead other i).pair j = s.pair j := by
  unfold State.judgePair
  split
  · rfl
  · rw [modPair_pair_ne _ h]
    split
    · rw [matchTo_eq]
      rfl
    · rfl

/-- A pair with no failure to record leaves no maintenance record (R291). -/
theorem awlRecord_of_noFailure {r : AwlRun} {b : Bool} (h : (s.pair i).failedSince = false) : s.awlRecord i r b = s := by
  simp [State.awlRecord, h]

/-- A pair that is not retired fails the awl. -/
def State.awlFails (s : State) (i : PairId) (r : AwlRun) : Bool := (s.pair i).state != .retired && !awlPass r

/-- PSM_BOOT after an awl run. -/
def State.awlBoot (s : State) (p c : AwlRun) : Word := putBit (putBit s.psm.boot 3 (s.awlFails .cantle c)) 2 (s.awlFails .pommel p)

/-- LOCK_AWL, LOCK_AWLLANE and PSM_BOOT.AWL_FAIL take the results of an awl run. -/
theorem awlNote_eq (x y : Bool) : ∃ w lane, s.awlNote p c x y =
    { s with lock := { s.lock with awl := w, awlLane := lane }, psm := { s.psm with boot := s.awlBoot p c } } :=
  ⟨_, _, rfl⟩

theorem awlNote_pair (x y : Bool) : (s.awlNote p c x y).pair i = s.pair i := by
  obtain ⟨w, lane, h⟩ := awlNote_eq s p c x y
  rw [h]
  rfl

/-- The lockstep fabric once the pairs have the states of an awl run. -/
def State.awlSettle (s : State) (lead : Option PairId) : State :=
  { s with lock := { s.lock with held := lead.or s.lock.held, xdisRun := 0, xsig := fput s.lock.xsig 7 0 0, plan := none, promoteWhy := 0, failedNow := 0,
                                 intrDue := false, lastBurst := s.clock } }

theorem awlSettle_pair : (s.awlSettle lead).pair i = s.pair i := rfl

/-- An awl run after which no failure is to be recorded, pair by pair. -/
theorem awlBoth_eq (h : ∀ i, (s.pair i).failedSince = false) (xFail : Bool) : ∃ src,
    let other : PairState := if xFail then .suspect else .shadow
    s.awlBoth p c xFail prefer = (((s.awlNote p c true xFail).judgePair (s.awlOk p c) src (s.awlLead p c prefer) other .pommel).judgePair
      (s.awlOk p c) src (s.awlLead p c prefer) other .cantle).awlSettle (s.awlLead p c prefer) := by
  unfold State.awlBoth
  extract_lets other okP okC noted covered recorded ok lead' src put settled
  have hcovered (i : PairId) (r : AwlRun) (b : Bool) : covered noted i r b = noted := by
    dsimp only [covered]
    rw [awlRecord_of_noFailure noted i ((congrArg PairInfo.failedSince (awlNote_pair ..)).trans (h i)), ite_self]
  have hrecorded : recorded = noted := by
    dsimp only [recorded]
    rw [hcovered, hcovered]
  have hok : ok = s.awlOk p c := by
    funext i
    cases i <;> rfl
  have hlead : lead' = s.awlLead p c prefer := by
    unfold State.awlLead
    rw [← hok]
    dsimp only [lead']
    split <;> rfl
  have hput (u : State) (i : PairId) : put u i = u.judgePair (s.awlOk p c) src (s.awlLead p c prefer) other i := by
    rw [← hok, ← hlead]
    rfl
  have hsettled : settled = (noted.judgePair (s.awlOk p c) src (s.awlLead p c prefer) other .pommel).judgePair (s.awlOk p c) src
      (s.awlLead p c prefer) other .cantle := by
    dsimp only [settled]
    rw [hrecorded, hput, hput]
  refine ⟨src, ?_⟩
  rw [← hsettled, ← hlead]
  rfl

/-- An awl run changes the lockstep fabric, the fabric copies and PSM_BOOT. -/
theorem awlBoth_fields (h : ∀ i, (s.pair i).failedSince = false) (xFail : Bool) : ∃ l f,
    s.awlBoth p c xFail prefer = { s with lock := l, fabric := f, psm := { s.psm with boot := s.awlBoot p c } } := by
  obtain ⟨src, heq⟩ := awlBoth_eq s p c prefer h xFail
  obtain ⟨w, lane, hnote⟩ := awlNote_eq s p c true xFail
  rw [heq, State.awlSettle, judgePair_eq, judgePair_eq, hnote]
  exact ⟨_, _, rfl⟩

/-- The pairs after an awl run. -/
theorem awlBoth_pair (h : ∀ i, (s.pair i).failedSince = false) (xFail : Bool) : (s.awlBoth p c xFail prefer).pair i =
    (s.pair i).judged (awlState (s.awlOk p c) (s.awlLead p c prefer) (if xFail then .suspect else .shadow) i) := by
  obtain ⟨src, heq⟩ := awlBoth_eq s p c prefer h xFail
  rw [heq]
  refine (awlSettle_pair ..).trans ?_
  cases i with
  | pommel => rw [judgePair_pair_ne _ _ _ _ _ (by decide), judgePair_pair_self, awlNote_pair]
  | cantle => rw [judgePair_pair_self, judgePair_pair_ne _ _ _ _ _ (by decide), awlNote_pair]

/-- What an awl run leaves as it was, and PSM_BOOT.AWL_FAIL, where no failure is to be recorded. -/
theorem awlBoth_spec (h : ∀ i, (s.pair i).failedSince = false) (xFail : Bool) : WithinHost s (s.awlBoth p c xFail prefer) ∧
    (s.awlBoth p c xFail prefer).psm = { s.psm with boot := s.awlBoot p c } ∧ (s.awlBoth p c xFail prefer).harn = s.harn := by
  obtain ⟨l, f, heq⟩ := awlBoth_fields s p c prefer h xFail
  rw [heq]
  exact ⟨rfl, rfl, rfl⟩

end

section
variable {s : State} {p c : AwlRun} {prefer : Option PairId} {i : PairId}

theorem PairInfo.judged_of_ne {x : PairInfo} (h : x.state ≠ .retired) (st : PairState) :
    x.judged st = { x with state := st, admitted := admittedIn false st } := if_neg (by simpa using h)

theorem awlState_lead {ok : PairId → Bool} {lead : Option PairId} (h : ok i = true) (hl : lead = some i) (other : PairState) :
    awlState ok lead other i = .lead := by
  simp [awlState, h, hl]

theorem awlState_failed {ok : PairId → Bool} (h : ok i = false) (lead : Option PairId) (other : PairState) : awlState ok lead other i = .failed := by
  simp [awlState, h]

theorem awlOk_pommel (h : (s.pair .pommel).state ≠ .retired) (hp : awlPass p = true) : s.awlOk p c .pommel = true := by
  simp [State.awlOk, pairRun, h, hp]

/-- Some pair that passes leads. -/
theorem awlLead_of_pommel (h : s.awlOk p c .pommel = true) (prefer : Option PairId) :
    ∃ i, s.awlLead p c prefer = some i ∧ s.awlOk p c i = true := by
  unfold State.awlLead
  split
  next i =>
    by_cases hi : s.awlOk p c i = true
    · exact ⟨i, if_pos hi, hi⟩
    · exact ⟨.pommel, (if_neg hi).trans (if_pos h), h⟩
  next => exact ⟨.pommel, if_pos h, h⟩

theorem lead_isSome_of_pair {t : State} (h : (t.pair i).state = .lead) : t.lock.lead.isSome = true := by
  unfold LockState.lead
  cases i with
  | pommel => rw [if_pos (by rw [show t.lock.pairs.fst.state = .lead from h]; rfl)]; rfl
  | cantle =>
    split
    · rfl
    · rw [if_pos (by rw [show t.lock.pairs.snd.state = .lead from h]; rfl)]; rfl

theorem lead_none_of_failed {t : State} (h : ∀ i, (t.pair i).state = .failed) : t.lock.lead = none := by
  have hp : t.lock.pairs.fst.state = .failed := h .pommel
  have hc : t.lock.pairs.snd.state = .failed := h .cantle
  simp [LockState.lead, hp, hc, PairState.leads]

/-- The pair that leads after an awl run is in LEAD, and admitted. -/
theorem awlBoth_lead (h : ∀ i, (s.pair i).failedSince = false) (xFail : Bool) (hl : s.awlLead p c prefer = some i) (hok : s.awlOk p c i = true) :
    ((s.awlBoth p c xFail prefer).pair i).state = .lead ∧ ((s.awlBoth p c xFail prefer).pair i).admitted = true := by
  have hne : (s.pair i).state ≠ .retired := fun hr => by simp [State.awlOk, hr] at hok
  rw [awlBoth_pair _ _ _ _ _ h, PairInfo.judged_of_ne hne, awlState_lead hok hl]
  exact ⟨rfl, rfl⟩

/-- A pair that does not pass the awl is FAILED, and not admitted. -/
theorem awlBoth_failed (h : ∀ i, (s.pair i).failedSince = false) (xFail : Bool) (hne : (s.pair i).state ≠ .retired) (hok : s.awlOk p c i = false) :
    ((s.awlBoth p c xFail prefer).pair i).state = .failed ∧ ((s.awlBoth p c xFail prefer).pair i).admitted = false := by
  rw [awlBoth_pair _ _ _ _ _ h, PairInfo.judged_of_ne hne, awlState_failed hok]
  exact ⟨rfl, rfl⟩

end

/-! ### Start-up to the discovery of the flash (R53 to R55) -/

section
variable {s : State}

theorem booting_state {x : BootStep} (h : s.booting x = true) : s.psm.state = .boot := by
  simp only [State.booting, Bool.and_eq_true, beq_iff_eq] at h
  obtain ⟨⟨⟨hst, -⟩, -⟩, -⟩ := h
  exact hst

theorem mayFail_of_boot (h : s.psm.state = .boot) : s.psm.state.mayFail := by
  rw [h]
  exact ⟨by decide, by decide, by decide⟩

theorem exec_fuseLoadComplete (r : List CellRead) (s : State) : exec (.fuseLoadComplete r) s = settled s (s.fuseLoaded r) := rfl

theorem exec_awlTestComplete (p c : AwlRun) (x : Bool) (s : State) : exec (.awlTestComplete p c x) s = settled s (s.awlDone p c x) := rfl

theorem exec_flashReady (d : Option FlashDevice) (s : State) : exec (.flashReady d) s = settled s (s.flashReady d) := rfl

theorem exec_flashDiscoveryComplete (s : State) : exec .flashDiscoveryComplete s = settled s s.flashSettled := rfl

/-- Fuse load that succeeds brings both pairs under the awl test (R53). -/
theorem fuseLoaded_loads {r : List CellRead} (hb : s.booting .fuseLoad = true) (h : (s.fuse.load r).2 = true) :
    s.fuseLoaded r = (({ s with fuse := (s.fuse.load r).1 } : State).bringPairs .test).bootStep .awl 2 := by
  simp [State.fuseLoaded, hb, h, pairsToTest_eq]

theorem fuseLoaded_fails {r : List CellRead} (hb : s.booting .fuseLoad = true) (h : (s.fuse.load r).2 = false) :
    s.fuseLoaded r = { s with fuse := (s.fuse.load r).1, psm := { s.psm with state := .fuseFail } } := by
  simp [State.fuseLoaded, hb, h]

theorem runs_fuseLoad {r : List CellRead} (hb : s.booting .fuseLoad = true) (hf : s.portFree) (h : (s.fuse.load r).2 = true) :
    Runs (.fuseLoadComplete r) s fun t => t.fuse = (s.fuse.load r).1 ∧ t.psm = { s.psm with step := .awl, phase := 2 } ∧
      ∀ i, (s.pair i).state ≠ .retired → (t.pair i).state = .test := by
  have hloaded : WithinHost { s with fuse := (s.fuse.load r).1 } (s.fuseLoaded r) := by
    rw [fuseLoaded_loads hb h]
    exact (WithinHost.bringPairs ..).trans rfl
  refine .of_afterCommand (exec_fuseLoadComplete r s) (hloaded.portFree hf) fun u hu => ⟨hu.fuse.trans hloaded.fuse, ?_, fun i hi => ?_⟩
  · rw [hu.psm, fuseLoaded_loads hb h, State.bootStep_psm, bringPairs_psm]
  · rw [hu.pair, fuseLoaded_loads hb h]
    exact bringPairs_state (s := { s with fuse := (s.fuse.load r).1 }) hi _

theorem runs_fuseFail {r : List CellRead} (hb : s.booting .fuseLoad = true) (hf : s.portFree) (h : (s.fuse.load r).2 = false) :
    Runs (.fuseLoadComplete r) s fun t => t.psm = { s.psm with state := .fuseFail } ∧ t.faultN = false := by
  have hc := exec_fuseLoadComplete r s
  rw [fuseLoaded_fails hb h] at hc
  exact .of_afterCommand hc hf fun u hu => ⟨hu.psm, by simp [State.faultN, hu.psm]⟩

/-- Where a pair leads after the awl test of start-up, the flash wait follows (R54). -/
theorem awlDone_leads {p c : AwlRun} {x : Bool} (hb : s.booting .awl = true) (h : (s.awlBoth p c x none).lock.lead.isSome = true) :
    s.awlDone p c x = (s.awlBoth p c x none).bootStep .flashWait 3 := by
  have hsome : (s.awlBoth p c x none).lock.lead.isNone = false := by simpa using h
  simp [State.awlDone, hb, hsome]

theorem awlDone_noPair {p c : AwlRun} {x : Bool} (hb : s.booting .awl = true) (h : (s.awlBoth p c x none).lock.lead = none) :
    s.awlDone p c x = (s.awlBoth p c x none).enterSafe .noPair := by
  simp [State.awlDone, hb, h]

/-- The awl test of start-up that some pair passes: it leads, and the flash wait follows (R54, R281). -/
theorem runs_awl_leads {p c : AwlRun} {i : PairId} (x : Bool) (hb : s.booting .awl = true) (hf : s.portFree)
    (h : ∀ i, (s.pair i).failedSince = false) (hl : s.awlLead p c none = some i) (hok : s.awlOk p c i = true) :
    Runs (.awlTestComplete p c x) s fun t => t.psm = { (s.awlBoth p c x none).psm with step := .flashWait, phase := 3 } ∧
      t.psm.state = .boot ∧ (∀ j, t.pair j = (s.awlBoth p c x none).pair j) ∧ (t.pair i).state = .lead ∧ (t.pair i).admitted = true := by
  obtain ⟨hwithin, hpsm, -⟩ := awlBoth_spec s p c none h x
  obtain ⟨hlead, hadm⟩ := awlBoth_lead h x hl hok
  have hc := exec_awlTestComplete p c x s
  rw [awlDone_leads hb (lead_isSome_of_pair hlead)] at hc
  generalize s.awlBoth p c x none = b at hwithin hpsm hlead hadm hc ⊢
  refine .of_afterCommand hc (hwithin.portFree hf) fun u hu => ⟨hu.psm, ?_, hu.pair, ?_, ?_⟩
  · rw [hu.psm, State.bootStep_psm, hpsm]
    exact booting_state hb
  · exact (congrArg PairInfo.state (hu.pair i)).trans hlead
  · exact (congrArg PairInfo.admitted (hu.pair i)).trans hadm

/-- The awl test of start-up that no pair passes (R54). -/
theorem runs_awl_noPair {p c : AwlRun} (x : Bool) (hb : s.booting .awl = true) (hf : s.portFree) (h : ∀ i, (s.pair i).failedSince = false)
    (hne : ∀ i, (s.pair i).state ≠ .retired) (hok : ∀ i, s.awlOk p c i = false) :
    Runs (.awlTestComplete p c x) s fun t => t.psm.state = .safe ∧ wbit t.psm.safe (safeBit .noPair) = true ∧ t.faultN = false ∧
      ∀ i, (t.pair i).state = .stopped ∧ (t.pair i).admitted = false := by
  obtain ⟨hwithin, hpsm, -⟩ := awlBoth_spec s p c none h x
  have hfailed (i : PairId) := awlBoth_failed (prefer := none) h x (hne i) (hok i)
  have hboot : (s.awlBoth p c x none).psm.state = .boot := by
    rw [hpsm]
    exact booting_state hb
  have hsafe := entersSafe (mayFail_of_boot hboot) .noPair
  have hc := exec_awlTestComplete p c x s
  rw [awlDone_noPair hb (lead_none_of_failed fun i => (hfailed i).1)] at hc
  refine .of_afterCommand hc ((hwithin.trans hsafe.within).portFree hf) fun u hu => ?_
  have hst := (congrArg PsmState.state hu.psm).trans hsafe.state
  refine ⟨hst, by rw [hu.psm]; exact hsafe.cause, faultN_of_safe hst, fun i => ?_⟩
  obtain ⟨hstate, hadm⟩ := hfailed i
  obtain ⟨hstopped, hout⟩ := hsafe.pair i (by rw [hstate]; decide)
  rw [hu.pair]
  exact ⟨hstopped, hout hadm⟩

/-- Discovery that settles on a mode in which the flash can be read (R55). -/
theorem flashSettled_reads {d : FlashDevice} {x : Nat × Nat} (hb : s.booting .discovery = true) (hd : s.psm.flashDev = some d)
    (hx : settle s.harn.flash d = some x) (hr : d.readable.getLsbD x.1 = true) : s.flashSettled =
      { s with psm := { s.psm with boot := s.flashSettled.psm.boot, flashUp := some true, step := .imageRead, phase := 4 } } := by
  simp [State.flashSettled, hb, hd, hx, hr, State.bootMode, State.bootStep]

/-- Discovery without a mode that the flash answers in: both images count as absent, and SAFE follows (R55). -/
theorem flashSettled_fails {d : FlashDevice} (hb : s.booting .discovery = true) (hd : s.psm.flashDev = some d) (hx : settle s.harn.flash d = none) :
    ∃ w, s.flashSettled = ({ s with psm := { s.psm with boot := w, flashUp := some false } } : State).enterSafe .noImage := by
  refine ⟨fput (fput (putBit s.psm.boot 18 d.sfdpOk) 27 25 1) 24 22 1, ?_⟩
  simp [State.flashSettled, hb, hd, hx, State.bootWhy]

/-- Settles O10, step by step: each step's own equation, and the entry to SAFE where a step fails. -/
theorem startUpToFlashDiscovery : Obligations.StartUpToFlashDiscovery := by
  refine ⟨fun s r hb hf h => runs_fuseLoad hb hf h, fun s r hb hf h => runs_fuseFail hb hf h, fun s p c x hb hf h hne hp => ?_,
    fun s p c x hb hf h hne hp => ⟨fun hc => ?_, fun hc => ?_⟩, fun s d hb hf => ?_, fun s d x hb hf hd hx hr => ?_, fun s d hb hf hd hx => ?_⟩
  · have hok := awlOk_pommel (c := c) hne hp
    exact (runs_awl_leads x hb hf h (if_pos hok) hok).mono fun t ⟨hpsm, hst, _, hlead, hadm⟩ =>
      ⟨(congrArg PsmState.step hpsm :), (congrArg PsmState.phase hpsm :), hst, hlead, hadm⟩
  · have hno : s.awlOk p c .pommel = false := by simp [State.awlOk, pairRun, hp]
    have hok : s.awlOk p c .cantle = true := by simp [State.awlOk, pairRun, hc, hne]
    have hl : s.awlLead p c none = some .cantle := by simp [State.awlLead, hno, hok]
    obtain ⟨-, hboth, -⟩ := awlBoth_spec s p c none h x
    obtain ⟨hfailed, hout⟩ := awlBoth_failed (prefer := none) h x (hne .pommel) hno
    refine (runs_awl_leads x hb hf h hl hok).mono fun t ⟨hpsm, hst, hpair, hlead, hadm⟩ => ?_
    have hboot : t.psm.boot = putBit (putBit s.psm.boot 3 false) 2 true := by
      rw [hpsm, hboth]
      have hhas : ((s.pair .pommel).state != .retired) = true := bne_iff_ne.2 (hne .pommel)
      simp [State.awlBoot, State.awlFails, hhas, hp, hc]
    refine ⟨(congrArg PsmState.step hpsm :), (congrArg PsmState.phase hpsm :), hst, hlead, hadm, ?_, ?_, ?_, ?_⟩
    · rw [hpair, hfailed]
    · rw [hpair, hout]
    · simp [hboot, wbit_putBit]
    · simp [hboot, wbit_putBit]
  · exact runs_awl_noPair x hb hf h hne fun i => by cases i <;> simp [State.awlOk, pairRun, hp, hc]
  · have hc := exec_flashReady d s
    rw [show s.flashReady d = { s with psm := { s.psm with flashDev := d, step := .discovery } } by simp [State.flashReady, hb]] at hc
    exact .of_afterCommand hc hf fun u hu => hu.psm
  · have hc := exec_flashDiscoveryComplete s
    rw [flashSettled_reads hb hd hx hr] at hc
    refine .of_afterCommand hc hf fun u hu => ?_
    rw [hu.psm]
    exact ⟨rfl, rfl, booting_state (s := s) hb, rfl, hu.lock, hu.portals⟩
  · obtain ⟨w, hw⟩ := flashSettled_fails hb hd hx
    have hsafe := entersSafe (s := { s with psm := { s.psm with boot := w, flashUp := some false } }) (mayFail_of_boot (booting_state hb)) .noImage
    have hc := exec_flashDiscoveryComplete s
    rw [hw] at hc
    refine .of_afterCommand hc (hsafe.within.portFree hf) fun u hu => ?_
    have hst := (congrArg PsmState.state hu.psm).trans hsafe.state
    exact ⟨hst, by rw [hu.psm]; exact hsafe.cause, by rw [hu.psm]; exact hsafe.flashUp, faultN_of_safe hst⟩

end

end Sys2Proof.Machine
end

section
/-! Start-up from the reading of an image to STANDBY (R57, R59, R84). -/

namespace Sys2Proof.Machine

variable {s : State} {g : Image}

theorem exec_imageReadComplete (s : State) : exec .imageReadComplete s = settled s s.imageRead := rfl

theorem exec_signatureVerified (s : State) : exec .signatureVerified s = settled s s.signatureDone := rfl

theorem exec_fabricConfigured (s : State) : exec .fabricConfigured s = settled s s.fabricDone := rfl

theorem exec_portalDownloadComplete (s : State) : exec .portalDownloadComplete s = settled s s.bootDone := rfl

/-! ### The content of an image -/

theorem imageRead_passes (hb : s.booting .imageRead = true) (hc : (checkContent s.harn.flash s.bootRegion).image = some g) :
    s.imageRead = ({ s with harn := { s.harn with candidate := some g } } : State).bootStep .signature s.psm.phase := by
  simp [State.imageRead, hb, hc]

theorem imageRead_rejects (hb : s.booting .imageRead = true) (hc : (checkContent s.harn.flash s.bootRegion).image = none) :
    s.imageRead = s.rejectImage (checkContent s.harn.flash s.bootRegion).why := by
  simp [State.imageRead, hb, hc]

/-! ### A region that is rejected -/

theorem bootRegion_a (h : s.psm.phase = 4) : s.bootRegion = .a := by simp [State.bootRegion, h]

theorem bootRegion_b (h : s.psm.phase = 5) : s.bootRegion = .b := by simp [State.bootRegion, h]

/-- The image read is forgotten, and its region's reason stands in PSM_BOOT. -/
def State.imageRefused (s : State) (r : Region) (why : Nat) : State := ({ s with harn := { s.harn with candidate := none } } : State).bootWhy r why

theorem imageRefused_state (s : State) (r : Region) (why : Nat) : (s.imageRefused r why).psm.state = s.psm.state := rfl

/-- After A, B is read. -/
theorem rejectImage_a (h : s.psm.phase = 4) (why : Nat) : s.rejectImage why = (s.imageRefused .a why).bootStep .imageRead 5 := by
  unfold State.rejectImage
  rw [bootRegion_a h]
  rfl

/-- After B, the part enters SAFE. -/
theorem rejectImage_b (h : s.psm.phase = 5) (why : Nat) : s.rejectImage why = (s.imageRefused .b why).enterSafe .noImage := by
  unfold State.rejectImage
  rw [bootRegion_b h]
  rfl

/-- A command that rejects region A goes on with region B. -/
theorem runs_rejects_a {c : Instr} {why : Nat} (hc : exec c s = settled s (s.rejectImage why)) (hs : s.psm.state = .boot) (hf : s.portFree)
    (hp : s.psm.phase = 4) :
    Runs c s fun t => t.psm.state = .boot ∧ t.psm.step = .imageRead ∧ t.psm.phase = 5 ∧ t.harn.image = s.harn.image ∧
      fget t.psm.boot 27 25 = why % 8 := by
  rw [rejectImage_a hp] at hc
  refine .of_afterCommand hc hf fun u hu => ?_
  rw [hu.psm]
  exact ⟨hs, rfl, rfl, hu.image, fget_fput_self _ _ _ _ (by decide) (by decide)⟩

/-- A command that rejects region B ends in SAFE. -/
theorem runs_rejects_b {c : Instr} {why : Nat} (hc : exec c s = settled s (s.rejectImage why)) (hs : s.psm.state = .boot) (hf : s.portFree)
    (hp : s.psm.phase = 5) :
    Runs c s fun t => t.psm.state = .safe ∧ wbit t.psm.safe (safeBit .noImage) = true ∧ t.faultN = false ∧ t.harn.image = s.harn.image ∧
      fget t.psm.boot 24 22 = why % 8 := by
  rw [rejectImage_b hp] at hc
  have hsafe := entersSafe (mayFail_of_boot ((imageRefused_state s .b why).trans hs)) .noImage
  have hfree : (s.imageRefused .b why).portFree := hf
  refine .of_afterCommand hc (hsafe.within.portFree hfree) fun u hu => ?_
  have hst := (congrArg PsmState.state hu.psm).trans hsafe.state
  refine ⟨hst, ?_, faultN_of_safe hst, hu.image.trans hsafe.image, ?_⟩
  · rw [hu.psm]
    exact hsafe.cause
  · rw [hu.psm, hsafe.boot]
    exact fget_fput_self _ _ _ _ (by decide) (by decide)

/-! ### The signature -/

theorem signatureDone_holds (hb : s.booting .signature = true) (hg : s.harn.candidate = some g) (hw : g.signWhy s.harn.flash s.fuse = 0) :
    s.signatureDone =
      { s with harn := { s.harn with image := some g, verified := true, recovery := false, candidate := none }
               psm := { s.psm with grant := g.grant, boot := fput s.psm.boot 29 28 (regionBit g.region + 1), step := .fabric } } := by
  unfold State.signatureDone
  rw [hg]
  simp only [hb, hw]
  rfl

theorem signatureDone_fails (hb : s.booting .signature = true) (hg : s.harn.candidate = some g) (hw : g.signWhy s.harn.flash s.fuse ≠ 0) :
    s.signatureDone = s.rejectImage (g.signWhy s.harn.flash s.fuse) := by
  simp [State.signatureDone, hb, hg, hw]

/-! ### The configuration, and the end of start-up -/

theorem loadFabric_eq (s : State) : ∃ f, s.loadFabric = { s with fabric := f } := ⟨_, rfl⟩

theorem loadCores_eq (s : State) (i : PairId) : ∃ l, s.loadCores i = { s with lock := l } := ⟨_, rfl⟩

theorem loadCan_eq (s : State) (g : Image) (c : CanId) : ∃ x, s.loadCan g c = { s with cans := x } := ⟨_, rfl⟩

theorem adoptAll_eq (l : List PortalId) (s : State) :
    ∃ q, l.foldl (fun s p => s.modSeq p fun q => { q with adoptDue := true }) s = { s with seq := q } := by
  induction l generalizing s with
  | nil => exact ⟨s.seq, rfl⟩
  | cons p l ih => exact ih (s.modSeq p fun q => { q with adoptDue := true })

/-- The fabric copies, the cores and the controllers take the active image. -/
def State.loadDie (s : State) (g : Image) : State := (((s.loadFabric.loadCores .pommel).loadCores .cantle).loadCan g .a).loadCan g .b

theorem loadDie_eq (s : State) (g : Image) : ∃ f l cs, s.loadDie g = { s with fabric := f, lock := l, cans := cs } := by
  unfold State.loadDie
  obtain ⟨f, hf⟩ := loadFabric_eq s
  rw [hf]
  obtain ⟨l, hl⟩ := loadCores_eq { s with fabric := f } .pommel
  rw [hl]
  obtain ⟨l', hl'⟩ := loadCores_eq { s with fabric := f, lock := l } .cantle
  rw [hl']
  obtain ⟨x, hx⟩ := loadCan_eq { s with fabric := f, lock := l' } g .a
  rw [hx]
  obtain ⟨y, hy⟩ := loadCan_eq { s with fabric := f, lock := l', cans := x } g .b
  exact ⟨f, l', y, hy⟩

/-- The receive flags and the capture groups start anew. -/
def State.loadGroups (s : State) (g : Image) : State :=
  let s := { s with nelz := { s.nelz with flags := List.replicate 64 {} } }
  { s with acq := s.acq.load g.groupRecs s.groupEnv }

theorem loadGroups_eq (s : State) (g : Image) : ∃ n a, s.loadGroups g = { s with nelz := n, acq := a } := ⟨_, _, rfl⟩

theorem configure_parts (s : State) (g : Image) :
    s.configure g = ((s.loadDie g).loadGroups g).eachPortal fun s p => s.modSeq p fun q => { q with adoptDue := true } := rfl

/-- A host die is configured in its fabric, its pairs' cores, its controllers, its receive flags, its capture groups and its kernel's links. -/
theorem configure_eq (s : State) (g : Image) : ∃ f l cs n a q, s.configure g =
    { s with fabric := f, lock := l, cans := cs, nelz := n, acq := a, seq := q } := by
  rw [configure_parts]
  obtain ⟨f, l, cs, hdie⟩ := loadDie_eq s g
  rw [hdie]
  obtain ⟨n, a, hgroups⟩ := loadGroups_eq { s with fabric := f, lock := l, cans := cs } g
  rw [hgroups]
  obtain ⟨q, hq⟩ := adoptAll_eq allPortals { s with fabric := f, lock := l, cans := cs, nelz := n, acq := a }
  exact ⟨f, l, cs, n, a, q, hq⟩

theorem fabricDone_eq (hb : s.booting .fabric = true) (hg : s.harn.image = some g) :
    s.fabricDone = ((s.configure g).bootStep .training 6).trainAll := by
  simp [State.fabricDone, hb, hg]

theorem runs_fabricConfigured (hb : s.booting .fabric = true) (hf : s.portFree) (hg : s.harn.image = some g) :
    Runs .fabricConfigured s fun t => t.psm.step = .training ∧ t.psm.phase = 6 ∧ t.psm.state = .boot ∧ t.harn.image = some g := by
  have hc := exec_fabricConfigured s
  obtain ⟨f, l, cs, n, a, q, hconf⟩ := configure_eq s g
  have hlinks := LinksOnly.trainAll ((s.configure g).bootStep .training 6)
  rw [← fabricDone_eq hb hg, hconf] at hlinks
  generalize s.fabricDone = x at hc hlinks
  have hpsm : x.psm = { s.psm with step := .training, phase := 6 } := hlinks.psm
  have hharn : x.harn = s.harn := hlinks.harn
  refine .of_afterCommand hc (hlinks.within.portFree hf) fun u hu => ?_
  rw [hu.psm, hpsm, hu.image, hharn]
  exact ⟨rfl, rfl, booting_state hb, hg⟩

/-- Start-up ends in STANDBY (R41). -/
theorem bootDone_eq (hb : s.booting .training = true) (ha : 0 < s.admittedPairs) (hi : s.harn.image.isSome = true) :
    s.bootDone = ({ s.eachPortal fun s p => s.modLink p HostLink.giveUp with
      psm := { (s.eachPortal fun s p => s.modLink p HostLink.giveUp).psm with
        state := .standby, step := .done, phase := 7, bootTime := BitVec.ofNat 32 ((s.clock - s.psm.bootFrom) / 1000) } } : State).noteStartUp := by
  have hne : s.admittedPairs ≠ 0 := by omega
  have hsome : s.harn.image.isNone = false := by simpa using hi
  simp [State.bootDone, hb, hne, hsome]

theorem runs_portalDownloadComplete (hb : s.booting .training = true) (hf : s.portFree) (ha : 0 < s.admittedPairs) (hi : s.harn.image.isSome = true) :
    Runs .portalDownloadComplete s fun t => t.psm.state = .standby ∧ t.psm.step = .done ∧ t.psm.phase = 7 ∧
      t.psm.bootTime = BitVec.ofNat 32 ((s.clock - s.psm.bootFrom) / 1000) ∧ t.portals = s.portals := by
  have hc := exec_portalDownloadComplete s
  rw [bootDone_eq hb ha hi] at hc
  have hlinks := LinksOnly.giveUp s
  generalize (s.eachPortal fun s p => s.modLink p HostLink.giveUp) = x at hc hlinks
  refine .of_afterCommand hc (hlinks.within.portFree hf) fun u hu => ?_
  rw [hu.psm]
  exact ⟨rfl, rfl, rfl, rfl, hu.portals.trans hlinks.within.portals⟩

/-- Settles O11, step by step; a region that is rejected leads on in the same way from its content and from its signature. -/
theorem imageSelectionAndLoad : Obligations.ImageSelectionAndLoad := by
  refine ⟨fun s g hb hf hg => ?_, fun s hb hf hp hg => ?_, fun s hb hf hp hg => ?_, fun s g hb hf hg hw => ?_,
    fun s g hb hf hg hw => ?_, fun s g => runs_fabricConfigured, fun s => runs_portalDownloadComplete⟩
  · have hc := exec_imageReadComplete s
    rw [imageRead_passes hb hg] at hc
    exact .of_afterCommand hc hf fun u hu => ⟨hu.psm, hu.harn rfl, hu.portals⟩
  · have hc := (exec_imageReadComplete s).trans (by rw [imageRead_rejects hb (by rwa [bootRegion_a hp])])
    exact (runs_rejects_a hc (booting_state hb) hf hp).mono fun t ⟨hst, hstep, hphase, _, _⟩ => ⟨hstep, hphase, hst⟩
  · have hc := (exec_imageReadComplete s).trans (by rw [imageRead_rejects hb (by rwa [bootRegion_b hp])])
    exact (runs_rejects_b hc (booting_state hb) hf hp).mono fun t ⟨hst, hcause, hfault, _, _⟩ => ⟨hst, hcause, hfault⟩
  · have hc := exec_signatureVerified s
    rw [signatureDone_holds hb hg hw] at hc
    refine .of_afterCommand hc hf fun u hu => ?_
    rw [hu.psm, hu.harn rfl]
    exact ⟨rfl, booting_state (s := s) hb, rfl, rfl, rfl⟩
  · have hc := (exec_signatureVerified s).trans (by rw [signatureDone_fails hb hg hw])
    exact ⟨runs_rejects_a hc (booting_state hb) hf, runs_rejects_b hc (booting_state hb) hf⟩

end Sys2Proof.Machine
end

section
/-! The transitions that take time, the device self-test, the loss of the reference, and wake events (R44, R63 to R65, R492). -/

namespace Sys2Proof.Machine

variable {s t : State}

theorem exec_dormantEntryComplete (s : State) : exec .dormantEntryComplete s = settled s s.lastWords.dormantEntered := rfl

theorem exec_offEntryComplete (s : State) : exec .offEntryComplete s = settled s s.lastWords.offEntered := rfl

theorem exec_dormantReturnComplete (p c : AwlRun) (x ok : Bool) (s : State) :
    exec (.dormantReturnComplete p c x ok) s = settled s (s.dormantReturned p c x ok) := rfl

theorem exec_deviceSelftestComplete (p c : AwlRun) (x : Bool) (f : Four Bool) (s : State) :
    exec (.deviceSelftestComplete p c x f) s = settled s (s.selftestDone p c x f) := rfl

theorem exec_referenceLost (s : State) : exec .referenceLost s = settled s s.referenceLost := rfl

theorem exec_wakePin (s : State) : exec .wakePin s = settled s (s.wakeEvent 0) := rfl

theorem exec_wakeCan (c : CanId) (s : State) : exec (.wakeCan c) s = settled s (s.wakeCan c) := rfl

/-! ### The entries to DORMANT and OFF (R44) -/

theorem Traffic.answerState (s : State) (why : Nat) : Traffic s (s.answerState why) := by
  unfold Traffic
  rw [answerState_eq]

/-- The answer to a command that ends is traffic of the channels. -/
theorem Traffic.lastWords (s : State) : Traffic s s.lastWords := by
  have hanswer : Traffic s s.leaveAnswer := by
    unfold State.leaveAnswer
    split
    · split
      · exact .answerState ..
      · exact .refl s
    · split
      · exact .answerState ..
      · exact .refl s
    · exact .refl s
  unfold State.lastWords
  dsimp only
  split
  · exact hanswer
  · exact (hanswer.trans (.drainAnswers _)).trans rfl

theorem Traffic.flushOver (h : Traffic s t) (n : Nat) : t.flushOver n = s.flushOver n := by
  unfold State.flushOver
  rw [h]

theorem bringPairs_fields (s : State) (st : PairState) : ∃ l, s.bringPairs st = { s with lock := l } := by
  rw [bringPairs_eq]
  exact ⟨_, rfl⟩

/-- The entry to DORMANT that is over: the pairs and the capture groups stop, and the controllers go OFF. -/
theorem dormantEntered_eq {src : CmdSource} {n : Nat} (hb : s.psm.busy = some (.toDormant src n)) (hf : s.flushOver n = true) :
    ∃ q l cs, s.dormantEntered =
      { s with psm := { s.psm.done with state := .dormant, busy := none }, seq := q, lock := l, acq := s.acq.shut, cans := cs } := by
  unfold State.dormantEntered
  obtain ⟨l, hl⟩ := bringPairs_fields s.stopKernel .stopped
  simp only [hb, hf, Bool.not_true, stopPairs_eq, hl]
  exact ⟨_, _, _, rfl⟩

/-- The entry to OFF that is over: besides, the links stop. -/
theorem offEntered_eq {src : CmdSource} {n : Nat} (hb : s.psm.busy = some (.toOff src n)) (hf : s.flushOver n = true) :
    WithinHost s s.offEntered ∧ s.offEntered.psm = { s.psm.done with state := .off, busy := none } := by
  obtain ⟨l, hl⟩ := bringPairs_fields s.stopKernel .stopped
  have hlinks := LinksOnly.stopLinks { s.stopKernel with lock := l } 5
  have hoff : s.offEntered =
      ({ State.stopLinks { s.stopKernel with lock := l } 5 with
        psm := { (State.stopLinks { s.stopKernel with lock := l } 5).psm.done with state := .off, busy := none }
        harn := { (State.stopLinks { s.stopKernel with lock := l } 5).harn with recovery := false }
        acq := (State.stopLinks { s.stopKernel with lock := l } 5).acq.shut } : State).cansOff := by
    unfold State.offEntered
    simp only [hb, hf, Bool.not_true, stopPairs_eq, hl]
    rfl
  generalize State.stopLinks { s.stopKernel with lock := l } 5 = x at hlinks hoff
  have hpsm : x.psm = s.psm := hlinks.psm
  have hwithin : WithinHost s x := (show WithinHost s { s.stopKernel with lock := l } from rfl).trans hlinks.within
  rw [hoff]
  refine ⟨hwithin.trans rfl, ?_⟩
  rw [State.cansOff, hpsm]

/-! ### The return from DORMANT (R65) -/

/-- The pairs are back, one leads, and the retained CRCs hold: the links are trained. -/
theorem dormantReturned_eq {src : CmdSource} {p c : AwlRun} {x : Bool} (hb : s.psm.busy = some (.fromDormant src))
    (hl : (s.awlBoth p c x s.lock.ledBefore).lock.lead.isSome = true) (hs : (s.awlBoth p c x s.lock.ledBefore).psm.state = .dormant) :
    s.dormantReturned p c x true = ({ s.awlBoth p c x s.lock.ledBefore with
      psm := { (s.awlBoth p c x s.lock.ledBefore).psm with busy := some (.linksBack src) } } : State).trainAll := by
  have hsome : (s.awlBoth p c x s.lock.ledBefore).lock.lead.isNone = false := by simpa using hl
  simp [State.dormantReturned, hb, hsome, hs]

theorem runs_dormantReturn {src : CmdSource} {p c : AwlRun} {x : Bool} (hs : s.psm.state = .dormant) (hb : s.psm.busy = some (.fromDormant src))
    (hf : s.portFree) (h : ∀ i, (s.pair i).failedSince = false) (hne : (s.pair .pommel).state ≠ .retired) (hp : awlPass p = true) :
    Runs (.dormantReturnComplete p c x true) s fun t => t.psm.state = .dormant ∧ t.psm.busy = some (.linksBack src) ∧
      t.lock.lead.isSome = true ∧ t.portals = s.portals ∧ ∀ q, (t.link q).phase = .training := by
  obtain ⟨i, hl, hok⟩ := awlLead_of_pommel (awlOk_pommel (c := c) hne hp) s.lock.ledBefore
  obtain ⟨hwithin, hpsm, -⟩ := awlBoth_spec s p c s.lock.ledBefore h x
  obtain ⟨hlead, -⟩ := awlBoth_lead h x hl hok
  have hstate : (s.awlBoth p c x s.lock.ledBefore).psm.state = .dormant := by
    rw [hpsm]
    exact hs
  have hc := exec_dormantReturnComplete p c x true s
  rw [dormantReturned_eq hb (lead_isSome_of_pair hlead) hstate] at hc
  generalize s.awlBoth p c x s.lock.ledBefore = b at hwithin hlead hstate hc
  generalize hy : ({ b with psm := { b.psm with busy := some (.linksBack src) } } : State) = y at hc
  have htrain := LinksOnly.trainAll y
  have hyb : WithinHost b y := by
    rw [← hy]
    rfl
  have hall := (hwithin.trans hyb).trans htrain.within
  refine .of_afterCommand hc (hall.portFree hf) fun u hu => ⟨?_, ?_, ?_, hu.portals.trans hall.portals, fun q => ?_⟩
  · rw [hu.psm, htrain.psm, ← hy]
    exact hstate
  · rw [hu.psm, htrain.psm, ← hy]
  · rw [hu.lock, htrain.lock, ← hy]
    exact lead_isSome_of_pair hlead
  · rw [State.link, hu.links]
    exact trainAll_phase y q

theorem settled_of_phase {l : HostLink} {ck : Nat} (h : l.phase = .running ∨ l.phase = .down ∨ 10000000 ≤ ck - l.trainFrom) : l.settled ck = true := by
  unfold HostLink.settled
  obtain h | h | h := h
  · simp [h]
  · simp [h]
  · simp [h]

/-- Once every link is back, the return is complete (R65). -/
theorem backFromDormant_eq {src : CmdSource} (hb : s.psm.busy = some (.linksBack src)) (hl : ∀ p, (s.link p).settled s.clock = true) :
    s.backFromDormant.psm = { s.psm.done with state := .standby, busy := none } := by
  have hback : s.psm.linksBack = true := by simp [PsmState.linksBack, hb]
  have hgive := LinksOnly.giveUp s
  unfold State.backFromDormant
  rw [if_pos (by simp [hback, hl]), answerState_eq]
  dsimp only
  rw [hgive.psm]

/-! ### The device self-test (R41) -/

/-- What the end of the self-test leaves once the awl run is judged: its step 7, and INFAULT and ACTION_REQ cleared. -/
def State.selftested (s : State) (f : Four Bool) : State :=
  { s.portalTests f with lock := { (s.portalTests f).lock.clearInfault with actionReq := false } }

theorem selftested_eq (s : State) (f : Four Bool) :
    ∃ l, l.pairs = s.lock.pairs ∧ l.actionReq = false ∧ s.selftested f = { s with lock := l } :=
  ⟨(s.selftested f).lock, rfl, rfl, rfl⟩

theorem selftestDone_eq {p c : AwlRun} {x : Bool} {f : Four Bool} (hs : s.psm.state = .selftest) (hp : s.psm.pairScope = false)
    (hl : ((s.awlBoth p c x none).selftested f).lock.lead.isSome = true)
    (hi : ((s.awlBoth p c x none).selftested f).harn.image.isSome = true) :
    s.selftestDone p c x f = { (s.awlBoth p c x none).selftested f with
      psm := { ((s.awlBoth p c x none).selftested f).psm with state := .standby } } := by
  unfold State.selftestDone
  rw [if_neg (by simp [hs, hp])]
  generalize s.awlBoth p c x none = b at hl hi ⊢
  show (if (b.selftested f).lock.lead.isNone = true then _ else if (b.selftested f).harn.image.isNone = true then _ else _) = _
  rw [if_neg (by simpa using Option.isSome_iff_ne_none.1 hl), if_neg (by simpa using Option.isSome_iff_ne_none.1 hi)]
  rfl

theorem runs_selftest {p c : AwlRun} {x : Bool} {f : Four Bool} (hs : s.psm.state = .selftest) (hp : s.psm.pairScope = false) (hf : s.portFree)
    (h : ∀ i, (s.pair i).failedSince = false) (hne : (s.pair .pommel).state ≠ .retired) (hpass : awlPass p = true)
    (hi : s.harn.image.isSome = true) :
    Runs (.deviceSelftestComplete p c x f) s fun t => t.psm.state = .standby ∧ (t.pair .pommel).state = .lead ∧ t.lock.actionReq = false := by
  have hok := awlOk_pommel (c := c) hne hpass
  obtain ⟨hwithin, -, hharn⟩ := awlBoth_spec s p c none h x
  obtain ⟨hlead, -⟩ := awlBoth_lead (prefer := none) h x (if_pos hok) hok
  obtain ⟨l, hpairs, hreq, hend⟩ := selftested_eq (s.awlBoth p c x none) f
  have hleads : (({ s.awlBoth p c x none with lock := l } : State).pair .pommel).state = .lead := by
    rw [← hlead]
    exact congrArg (fun q : Two PairInfo => (q.pair .pommel).state) hpairs
  have hc := exec_deviceSelftestComplete p c x f s
  rw [selftestDone_eq hs hp (by rw [hend]; exact lead_isSome_of_pair hleads) (by rw [hend]; rwa [hharn]), hend] at hc
  generalize s.awlBoth p c x none = b at hwithin hleads hc
  have hfree : b.portFree := hwithin.portFree hf
  refine .of_afterCommand hc hfree fun u hu => ⟨by rw [hu.psm], ?_, by rw [hu.lock, hreq]⟩
  rw [hu.pair]
  exact hleads

/-! ### The reference, and wake events (R63, R64, R492) -/

theorem wakeEvent_asleep (h : s.asleep = true) (bit : Nat) : s.wakeEvent bit = { s with psm := { s.psm with wake := raise s.psm.wake bit } } := if_pos h

theorem wakeEvent_awake (h : s.asleep = false) (bit : Nat) : s.wakeEvent bit = s := if_neg (by simp [h])

theorem referenceLost_eq (h : s.inReset = false) : s.referenceLost = s.enterSafe .refLoss := if_neg (by simpa [State.inReset] using h)

theorem mayFail_of_serving (h : s.psm.state = .standby ∨ s.psm.state = .service ∨ s.psm.state = .maintain) : s.psm.state.mayFail := by
  obtain h | h | h := h <;> rw [h] <;> exact ⟨by decide, by decide, by decide⟩

theorem runs_wakeCan {c : CanId} {bit : Nat} (hbit : bit < 32) (hw : s.wakeCan c = s.wakeEvent bit) (h : s.asleep = true) (hf : s.portFree) :
    Runs (.wakeCan c) s fun t => wbit t.psm.wake bit = true ∧ t.psm.state = s.psm.state ∧ t.portals = s.portals := by
  have hc := exec_wakeCan c s
  rw [hw, wakeEvent_asleep h] at hc
  refine .of_afterCommand hc hf fun u hu => ?_
  rw [hu.psm]
  exact ⟨wbit_raise_self _ _ hbit, rfl, hu.portals⟩

/-- Settles O16, part by part: what each completion makes of the PSM block, and what else it reaches. -/
theorem transitionsThatTakeTimeAndWake : Obligations.TransitionsThatTakeTimeAndWake := by
  refine ⟨fun s src n hb ho hf => ?_, fun s src n hb ho hf => ?_, fun s src p c x hs hb hf h hne hp => runs_dormantReturn hs hb hf h hne hp,
    fun s src hb hs hl => ?_, fun s p c x hs hps hf h hne hp hi => runs_selftest hs hps hf h hne hp hi, fun s hr hs hf => ?_, fun s ha hf => ?_,
    fun s ha hf => ?_, fun s c ha hst hf => ?_, fun s c hst hf => ?_⟩
  · have htraffic := Traffic.lastWords s
    obtain ⟨-, hpsm, -, -, -, -, -, -, hacq, -, -, -, -, -, -, hportals, -⟩ := htraffic.fields
    obtain ⟨q, l, cs, heq⟩ := dormantEntered_eq (s := s.lastWords) (by rw [hpsm, hb]) (by rwa [htraffic.flushOver])
    have hc := exec_dormantEntryComplete s
    rw [heq, hpsm, hacq] at hc
    refine .of_afterCommand hc ((WithinHost.of_traffic htraffic).portFree hf) fun u hu => ?_
    rw [hu.psm]
    exact ⟨rfl, rfl, done_cmdstat _, hu.acq, hu.portals.trans hportals⟩
  · have htraffic := Traffic.lastWords s
    obtain ⟨-, hpsm, -⟩ := htraffic.fields
    obtain ⟨hwithin, hoff⟩ := offEntered_eq (s := s.lastWords) (by rw [hpsm, hb]) (by rwa [htraffic.flushOver])
    have hall := (WithinHost.of_traffic htraffic).trans hwithin
    refine .of_afterCommand (exec_offEntryComplete s) (hall.portFree hf) fun u hu => ?_
    have hupsm : u.psm = { s.psm.done with state := .off, busy := none } := by rw [hu.psm, hoff, hpsm]
    have hdead : u.portAlive = false := by simp [State.portAlive, hupsm]
    refine ⟨by rw [hupsm], by rw [hupsm], hdead, ?_, hu.portals.trans hall.portals⟩
    rw [hu.hrdy, State.ready, hdead, Bool.false_and]
  · rw [backFromDormant_eq hb fun p => settled_of_phase (hl p)]
    exact ⟨rfl, rfl, done_cmdstat _⟩
  · have hsafe := entersSafe (mayFail_of_serving hs) .refLoss
    have hc := exec_referenceLost s
    rw [referenceLost_eq hr] at hc
    refine .of_afterCommand hc (hsafe.within.portFree hf) fun u hu => ?_
    have hst := (congrArg PsmState.state hu.psm).trans hsafe.state
    refine ⟨hst, ?_, faultN_of_safe hst⟩
    rw [hu.psm]
    exact hsafe.cause
  · have hc := exec_wakePin s
    rw [wakeEvent_asleep ha] at hc
    exact .of_afterCommand hc hf fun u hu => ⟨hu.psm, hu.portals⟩
  · have hc := exec_wakePin s
    rw [wakeEvent_awake ha] at hc
    exact .of_afterCommand hc hf fun u hu => hu.psm
  · cases c with
    | a => exact runs_wakeCan (by decide) (if_pos hst) ha hf
    | b => exact runs_wakeCan (by decide) (if_pos hst) ha hf
  · have hc := exec_wakeCan c s
    rw [show s.wakeCan c = s from if_neg (by simp [hst])] at hc
    exact .of_afterCommand hc hf fun u hu => hu.psm

end Sys2Proof.Machine
end

section
/-! The protected switches of a portal die: episodes, retries, diagnoses (R343 to R348). -/

namespace Sys2Proof.Machine

@[simp] theorem Eight.set_self {α : Type} (t : Eight α) (i : Fin 8) : t.set i (t.get i) = t := by fin_cases i <;> rfl

/-! ### Retries that wait next to an episode that ends (R345) -/

/-- A channel whose retry, where one is due, starts no earlier than 20 µs from `ck`. -/
def SwitchState.heldBack (w : SwitchState) (ck : Nat) : SwitchState :=
  { w with retry := w.retry.map fun r => if r.due then { r with at_ := ck + 20000 } else r }

section
variable {P : PortalState}

theorem foldl_modSw_eq (f : SwitchState → SwitchState) (l : List (Fin 8)) (P : PortalState) :
    l.foldl (fun R k => R.modSw k f) P = { P with switches := (l.foldl (fun R k => R.modSw k f) P).switches } := by
  induction l generalizing P with
  | nil => rfl
  | cons k l ih =>
    rw [List.foldl_cons, ih]
    rfl

theorem foldl_modSw_get (f : SwitchState → SwitchState) {l : List (Fin 8)} (hl : l.Nodup) (P : PortalState) (j : Fin 8) :
    (l.foldl (fun R k => R.modSw k f) P).switches.get j = if j ∈ l then f (P.switches.get j) else P.switches.get j := by
  induction l generalizing P with
  | nil => rfl
  | cons k l ih =>
    obtain ⟨hk, hl⟩ := List.nodup_cons.1 hl
    rw [List.foldl_cons, ih hl, PortalState.modSw_switches]
    by_cases hj : j = k
    · subst hj
      simp [hk]
    · rw [Eight.get_set_ne _ hj]
      simp [hj]

theorem neighbours_nodup (n : Fin 8) : (neighbours n).Nodup := .filter _ (by decide)

theorem not_mem_neighbours_self (n : Fin 8) : n ∉ neighbours n := by simp [neighbours]

theorem episodeOver_eq (P : PortalState) (ck : Nat) (n : Fin 8) (was : SwitchState) :
    P.episodeOver ck n was = { P with switches := (P.episodeOver ck n was).switches } := by
  unfold PortalState.episodeOver
  split
  · exact foldl_modSw_eq ..
  · rfl

/-- Where no retry's episode ends, no other channel is concerned. -/
theorem episodeOver_of_not {n : Fin 8} {was : SwitchState} (h : (was.inRetry && !(P.switches.get n).inRetry) = false) (ck : Nat) :
    P.episodeOver ck n was = P := if_neg (by simp [h])

/-- Where a retry's episode ends, the retries that are due next to it are held back. -/
theorem episodeOver_get {n : Fin 8} {was : SwitchState} (h : (was.inRetry && !(P.switches.get n).inRetry) = true) (ck : Nat) (j : Fin 8) :
    (P.episodeOver ck n was).switches.get j = if j ∈ neighbours n then (P.switches.get j).heldBack ck else P.switches.get j := by
  unfold PortalState.episodeOver
  rw [if_pos h]
  exact foldl_modSw_get (fun w => w.heldBack ck) (neighbours_nodup n) P j

theorem episodeOver_get_self (P : PortalState) (ck : Nat) (n : Fin 8) (was : SwitchState) :
    (P.episodeOver ck n was).switches.get n = P.switches.get n := by
  cases h : was.inRetry && !(P.switches.get n).inRetry
  · rw [episodeOver_of_not h]
  · rw [episodeOver_get h, if_neg (not_mem_neighbours_self n)]

theorem episodeOver_get_retry (P : PortalState) (ck : Nat) (n : Fin 8) (was : SwitchState) (j : Fin 8) :
    (P.episodeOver ck n was).switches.get j = { P.switches.get j with retry := ((P.episodeOver ck n was).switches.get j).retry } := by
  cases h : was.inRetry && !(P.switches.get n).inRetry
  · rw [episodeOver_of_not h]
  · rw [episodeOver_get h]
    split <;> rfl

theorem episodeOver_get_far {n j : Fin 8} {was : SwitchState} (h : was.inRetry = false ∨ j ∉ neighbours n) (ck : Nat) :
    (P.episodeOver ck n was).switches.get j = P.switches.get j := by
  cases hover : was.inRetry && !(P.switches.get n).inRetry
  · rw [episodeOver_of_not hover]
  · rw [episodeOver_get hover]
    obtain h | h := h
    · simp [h] at hover
    · rw [if_neg h]

/-! ### A command that concerns one channel -/

theorem modSw_of_fixed {n : Fin 8} {g : SwitchState → SwitchState} (h : g (P.switches.get n) = P.switches.get n) : P.modSw n g = P := by
  unfold PortalState.modSw
  rw [h, Eight.set_self]

theorem UpToFrames.switches {X R : PortalState} (h : UpToFrames X R) : R.switches = X.switches := (congrArg PortalState.switches h.1 :)

/-- What a channel's operation, and the end of a retry's episode with it, leaves of a portal die. -/
theorem modSw_episodeOver_eq (P : PortalState) (n : Fin 8) (g : SwitchState → SwitchState) (ck : Nat) (was : SwitchState) :
    (P.modSw n g).episodeOver ck n was = { P with switches := ((P.modSw n g).episodeOver ck n was).switches } :=
  (episodeOver_eq ..).trans rfl

theorem modSw_episodeOver_self (P : PortalState) (n : Fin 8) (g : SwitchState → SwitchState) (ck : Nat) (was : SwitchState) :
    ((P.modSw n g).episodeOver ck n was).switches.get n = g (P.switches.get n) := by
  rw [episodeOver_get_self, PortalState.modSw_switches, Eight.get_set]

theorem modSw_episodeOver_ne {n k : Fin 8} (hk : k ≠ n) (P : PortalState) (g : SwitchState → SwitchState) (ck : Nat) (was : SwitchState) :
    ((P.modSw n g).episodeOver ck n was).switches.get k =
      { P.switches.get k with retry := (((P.modSw n g).episodeOver ck n was).switches.get k).retry } := by
  refine (episodeOver_get_retry ..).trans ?_
  rw [PortalState.modSw_switches, Eight.get_set_ne _ hk]

/-- The end of a retry's episode, where the operation leaves the channel in none. -/
theorem modSw_episodeOver_near {n k : Fin 8} {g : SwitchState → SwitchState} {was : SwitchState} (hk : k ∈ neighbours n) (hw : was.inRetry = true)
    (hg : (g (P.switches.get n)).inRetry = false) (ck : Nat) :
    ((P.modSw n g).episodeOver ck n was).switches.get k = (P.switches.get k).heldBack ck := by
  have hkn : k ≠ n := fun h => not_mem_neighbours_self n (h ▸ hk)
  have hend : ((P.modSw n g).switches.get n).inRetry = false := by rw [PortalState.modSw_switches, Eight.get_set, hg]
  rw [episodeOver_get (by rw [hw, hend]; rfl), if_pos hk, PortalState.modSw_switches, Eight.get_set_ne _ hkn]

end

section
variable {c : Instr} {s : State} {p : PortalId} {P : PortalState} {n : Fin 8} {f : PortalState → PortalState} {g : SwitchState → SwitchState}
  {w : SwitchState}

theorem RunsPortal.mono {Q R : PortalState → Prop} (h : RunsPortal p c s Q) (hQ : ∀ X, Q X → R X) : RunsPortal p c s R := by
  obtain ⟨t, ht, honly, hq⟩ := h
  exact ⟨t, ht, honly, hQ _ hq⟩

/-- A command that is one operation on a channel, with what follows from the end of a retry's episode. -/
theorem runs_switch (hexec : exec c s = portalOnly s p f) (hP : s.portals.get p = P) (hc : P.calm) (hw : P.switches.get n = w)
    (hf : f P = (P.modSw n g).episodeOver s.clock n w) :
    RunsPortal p c s fun Q => (OnlySwitch n P Q ∧ Q.switches.get n = g w) ∧
      (w.inRetry = true → (g w).inRetry = false → ∀ k ∈ neighbours n, Q.switches.get k = (P.switches.get k).heldBack s.clock) := by
  have heq := modSw_episodeOver_eq P n g s.clock w
  refine .of_calm hexec hP hc.1 (by rw [hf, heq]; exact hc) fun R hR => ?_
  rw [hf] at hR
  have hsw := hR.switches
  refine ⟨⟨⟨?_, fun k hk => ?_⟩, ?_⟩, fun hin hout k hk => ?_⟩
  · rw [hsw, ← heq]
    exact hR
  · rw [hsw]
    exact modSw_episodeOver_ne hk ..
  · rw [hsw, modSw_episodeOver_self, hw]
  · rw [hsw]
    exact modSw_episodeOver_near hk hin (by rw [hw, hout]) s.clock

/-- Such a command whose operation leaves the channel as it was. -/
theorem runs_switch_idle (hexec : exec c s = portalOnly s p f) (hP : s.portals.get p = P) (hc : P.calm) (hw : P.switches.get n = w)
    (hf : f P = (P.modSw n g).episodeOver s.clock n w) (hg : g w = w) : RunsPortal p c s fun Q => UpToFrames P Q := by
  subst hw
  refine .of_idle hexec hP hc ?_
  rw [hf, modSw_of_fixed hg]
  exact episodeOver_of_not (Bool.and_not_self _) _

/-- A command that is one operation on a channel and ends no retry's episode. -/
theorem runs_modSw (hexec : exec c s = portalOnly s p f) (hP : s.portals.get p = P) (hc : P.calm) (hw : P.switches.get n = w)
    (hf : f P = P.modSw n g) : RunsPortal p c s fun Q => OnlySwitch n P Q ∧ Q.switches.get n = g w := by
  have hcalm : (P.modSw n g).calm := hc
  refine .of_calm hexec hP hc.1 (by rwa [hf]) fun R hR => ?_
  rw [hf] at hR
  have hsw := hR.switches
  refine ⟨⟨?_, fun k hk => ?_⟩, ?_⟩
  · rw [hsw]
    exact hR
  · rw [hsw, PortalState.modSw_switches, Eight.get_set_ne _ hk]
  · rw [hsw, PortalState.modSw_switches, Eight.get_set, hw]

theorem runs_modSw_idle (hexec : exec c s = portalOnly s p f) (hP : s.portals.get p = P) (hc : P.calm) (hw : P.switches.get n = w)
    (hf : f P = P.modSw n g) (hg : g w = w) : RunsPortal p c s fun Q => UpToFrames P Q := by
  subst hw
  exact .of_idle hexec hP hc (hf.trans (modSw_of_fixed hg))

end

end Sys2Proof.Machine
end

section
/-! The commands of a protected switch, and what each makes of its channel (R343 to R348). -/

namespace Sys2Proof.Machine

/-! ### What an operation makes of a channel -/

namespace SwitchState

variable {w : SwitchState} {rose vswLow : Bool}

theorem episodeStart_begins (hon : w.on = true) (he : w.episode = none) :
    w.episodeStart = { w with episode := some (w.retried.getD .switchOn), retried := none, rose := false } := by
  cases hr : w.retried <;> simp [episodeStart, hon, he, hr]

theorem episodeStart_idle (h : w.on = false ∨ w.episode ≠ none) : w.episodeStart = w := by
  refine if_neg ?_
  obtain h | h := h <;> simp [h]

/-- A channel whose current has stayed below ILIM for 100 µs (R343). -/
def episodeWon (w : SwitchState) : SwitchState :=
  if w.episode.isNone && w.retried.isNone then w
  else { w with episode := none, retried := none, rose := false, shortCl := w.shortCl && !w.inShortRetry }

theorem episodeWon_idle (he : w.episode = none) (hr : w.retried = none) : w.episodeWon = w := by simp [episodeWon, he, hr]

theorem episodeWon_ends (h : w.episode ≠ none ∨ w.retried ≠ none) :
    w.episodeWon = { w with episode := none, retried := none, rose := false, shortCl := w.shortCl && !w.inShortRetry } := by
  refine if_neg ?_
  obtain h | h := h <;> simp [h]

/-- A channel whose T_EP has elapsed (R343). -/
def tepOver (w : SwitchState) (rose vswLow : Bool) : SwitchState :=
  match w.episode with
  | none | some .shortRetry => w
  | some _ => if w.rose || rose || vswLow then w.inrushEnd else w.short

theorem tepOver_idle (h : w.episode = none ∨ w.episode = some .shortRetry) : w.tepOver rose vswLow = w := by
  obtain h | h := h <;> simp [tepOver, h]

theorem tepOver_ends (h : w.episode = some .switchOn ∨ w.episode = some .inrushRetry) :
    w.tepOver rose vswLow = if (w.rose || rose || vswLow) = false then w.short else w.inrushEnd := by
  obtain h | h := h <;> cases hr : w.rose || rose || vswLow <;> simp [tepOver, h, hr]

/-- A channel whose 100 µs of a short retry are over (R344). -/
def shortRetryDone (w : SwitchState) (rose vswLow : Bool) : SwitchState := if w.inShortRetry then w.shortRetryOver rose vswLow else w

theorem shortRetryOver_eq (w : SwitchState) (rose vswLow : Bool) : w.shortRetryOver rose vswLow =
    if (w.rose || rose) = true ∨ (vswLow = true ∧ w.episode = none) then w.unshort
    else if vswLow = true then { w with shortCl := false }.inrushEnd
    else w.shortFailed := by
  unfold shortRetryOver
  cases hr : w.rose || rose <;> cases vswLow <;> cases he : w.episode <;> rfl

/-! ### A junction at 160 °C -/

theorem inrushEnd_on (w : SwitchState) : w.inrushEnd.on = false := by
  unfold inrushEnd
  split <;> rfl

theorem inrushEnd_episode (w : SwitchState) : w.inrushEnd.episode = none := by
  unfold inrushEnd
  split <;> rfl

theorem inrushEnd_flags (w : SwitchState) : w.inrushEnd.flags = w.flags := by
  unfold inrushEnd
  split <;> rfl

theorem inrushEnd_cls (w : SwitchState) : w.inrushEnd.cls = if w.retryLeft = 0 then .overload else w.cls := by
  unfold inrushEnd
  split <;> rfl

theorem inrushEnd_retry (w : SwitchState) : w.inrushEnd.retry = if w.retryLeft = 0 then none else some { short := false } := by
  unfold inrushEnd
  split <;> rfl

theorem shortFailed_on (w : SwitchState) : w.shortFailed.on = false := by
  unfold shortFailed
  split <;> rfl

theorem shortFailed_episode (w : SwitchState) : w.shortFailed.episode = none := by
  unfold shortFailed
  split <;> rfl

theorem shortFailed_flags (w : SwitchState) : w.shortFailed.flags = w.flags := by
  unfold shortFailed
  split <;> rfl

theorem shortFailed_cls (w : SwitchState) : w.shortFailed.cls = if 1 ≤ w.shortTries then .short else w.cls := by
  unfold shortFailed
  split <;> rfl

end SwitchState

/-- A channel whose junction reaches 160 °C (R343, R346). -/
def PortalState.hotOver (P : PortalState) (n : Fin 8) (rose : Bool) (w : SwitchState) : SwitchState :=
  let w := { w with flags := raise w.flags 17 }
  match w.episode with
  | none => if w.on then w.latch .ot else w
  | some .shortRetry =>
    if w.rose || rose then (if P.supply.vswLow then w.unshort.inrushEnd else P.hotRisen n w.unshort) else w.shortRetryOver false P.supply.vswLow
  | some _ =>
    if P.supply.vswLow then w.inrushEnd
    else if !(w.rose || rose) then w.short
    else P.hotRisen n w

section
variable {P : PortalState} {n : Fin 8} {w : SwitchState} {rose : Bool}

theorem hotOver_on (hon : w.on = true) (he : w.episode = none) : P.hotOver n rose w = { w with flags := raise w.flags 17 }.latch .ot := by
  simp [PortalState.hotOver, hon, he]

theorem hotOver_off (hon : w.on = false) (he : w.episode = none) : P.hotOver n rose w = { w with flags := raise w.flags 17 } := by
  simp [PortalState.hotOver, hon, he]

/-- What an episode that the junction ends makes of its channel where VSW_LOW is set (R361). -/
theorem hotOver_vswLow (he : w.episode ≠ none) (hv : P.supply.vswLow = true) :
    ∃ x : SwitchState, P.hotOver n rose w = x.inrushEnd ∧ x.flags = raise w.flags 17 ∧ x.retryLeft = w.retryLeft ∧ x.cls = w.cls := by
  cases hep : w.episode with
  | none => exact absurd hep he
  | some e =>
    cases e with
    | shortRetry =>
      cases hr : w.rose || rose with
      | true => exact ⟨({ w with flags := raise w.flags 17 } : SwitchState).unshort, by simp [PortalState.hotOver, hep, hr, hv], rfl, rfl, rfl⟩
      | false =>
        obtain ⟨hno, hrose⟩ := Bool.or_eq_false_iff.1 hr
        exact ⟨{ w with flags := raise w.flags 17, shortCl := false },
          by simp [PortalState.hotOver, SwitchState.shortRetryOver, hep, hno, hrose, hv], rfl, rfl, rfl⟩
    | switchOn => exact ⟨{ w with flags := raise w.flags 17 }, by simp [PortalState.hotOver, hep, hv], rfl, rfl, rfl⟩
    | inrushRetry => exact ⟨{ w with flags := raise w.flags 17 }, by simp [PortalState.hotOver, hep, hv], rfl, rfl, rfl⟩

/-- Where the output never rose, outside a short retry, the channel is classed SHORT. -/
theorem hotOver_short (he : w.episode ≠ none) (hs : w.episode ≠ some .shortRetry) (hr : (w.rose || rose) = false) (hv : P.supply.vswLow = false) :
    P.hotOver n rose w = { w with flags := raise w.flags 17 }.short := by
  cases hep : w.episode with
  | none => exact absurd hep he
  | some e =>
    cases e with
    | shortRetry => exact absurd hep hs
    | switchOn => simp [PortalState.hotOver, hep, hr, hv]
    | inrushRetry => simp [PortalState.hotOver, hep, hr, hv]

/-- A short retry in which the output never rose has failed. -/
theorem hotOver_shortFailed (hs : w.episode = some .shortRetry) (hr : (w.rose || rose) = false) (hv : P.supply.vswLow = false) :
    P.hotOver n rose w = { w with flags := raise w.flags 17 }.shortFailed := by
  obtain ⟨hno, hrose⟩ := Bool.or_eq_false_iff.1 hr
  simp [PortalState.hotOver, SwitchState.shortRetryOver, hs, hno, hrose, hv]

/-- Where the output has risen, OT or a retry under R346. -/
theorem hotOver_risen (he : w.episode ≠ none) (hr : (w.rose || rose) = true) (hv : P.supply.vswLow = false) :
    ∃ x : SwitchState, P.hotOver n rose w = P.hotRisen n x ∧ x.episode.isSome = true ∧ x.flags = raise w.flags 17 ∧ x.retryLeft = w.retryLeft ∧
      x.cls = w.cls := by
  cases hep : w.episode with
  | none => exact absurd hep he
  | some e =>
    cases e with
    | shortRetry =>
      exact ⟨({ w with flags := raise w.flags 17 } : SwitchState).unshort, by simp [PortalState.hotOver, hep, hr, hv],
        by simp [SwitchState.unshort, hep], rfl, rfl, rfl⟩
    | switchOn => exact ⟨{ w with flags := raise w.flags 17 }, by simp [PortalState.hotOver, hep, hr, hv], by simp [hep], rfl, rfl, rfl⟩
    | inrushRetry => exact ⟨{ w with flags := raise w.flags 17 }, by simp [PortalState.hotOver, hep, hr, hv], by simp [hep], rfl, rfl, rfl⟩

theorem hotRisen_ot (h : P.dieAbove150 = true ∨ ∀ k ∈ neighbours n, (P.switches.get k).shortCl = false) (x : SwitchState) :
    P.hotRisen n x = x.latch .ot := by
  refine if_neg ?_
  obtain h | h := h
  · simp [h]
  · have hnear : P.nearShort n = false := by simpa [PortalState.nearShort] using h
    simp [hnear]

theorem hotRisen_retries (hd : P.dieAbove150 = false) (hn : ∃ k ∈ neighbours n, (P.switches.get k).shortCl = true) {x : SwitchState}
    (he : x.episode.isSome = true) : P.hotRisen n x = { x with flags := raise x.flags 16 }.inrushEnd := by
  have hnear : P.nearShort n = true := by simpa [PortalState.nearShort] using hn
  exact if_pos (by simp [he, hd, hnear])

theorem hotRisen_either (P : PortalState) (n : Fin 8) (x : SwitchState) :
    P.hotRisen n x = x.latch .ot ∨ P.hotRisen n x = { x with flags := raise x.flags 16 }.inrushEnd := by
  unfold PortalState.hotRisen
  split
  · exact .inr rfl
  · exact .inl rfl

theorem wbit_raise_ot (w : Word) : wbit (raise w 17) 17 = true := wbit_raise_self _ _ (by decide)

theorem wbit_raise_near (w : Word) : wbit (raise (raise w 17) 16) 17 = true := by simp [raise, wbit_putBit]

/-- However the junction ends an episode, the channel goes off, and its over-temperature is flagged. -/
theorem hotOver_ends (he : w.episode ≠ none) :
    (P.hotOver n rose w).on = false ∧ (P.hotOver n rose w).episode = none ∧ wbit (P.hotOver n rose w).flags 17 = true := by
  cases hv : P.supply.vswLow with
  | true =>
    obtain ⟨x, hx, hflags, -, -⟩ := hotOver_vswLow (rose := rose) (n := n) he hv
    rw [hx]
    exact ⟨x.inrushEnd_on, x.inrushEnd_episode, by rw [x.inrushEnd_flags, hflags, wbit_raise_ot]⟩
  | false =>
    cases hr : w.rose || rose with
    | true =>
      obtain ⟨x, hx, -, hflags, -, -⟩ := hotOver_risen (n := n) he hr hv
      rw [hx]
      obtain h | h := hotRisen_either P n x <;> rw [h]
      · exact ⟨rfl, rfl, by rw [show (x.latch .ot).flags = x.flags from rfl, hflags, wbit_raise_ot]⟩
      · exact ⟨SwitchState.inrushEnd_on _, SwitchState.inrushEnd_episode _, by rw [SwitchState.inrushEnd_flags, hflags, wbit_raise_near]⟩
    | false =>
      by_cases hs : w.episode = some .shortRetry
      · rw [hotOver_shortFailed hs hr hv]
        exact ⟨SwitchState.shortFailed_on _, SwitchState.shortFailed_episode _, by rw [SwitchState.shortFailed_flags, wbit_raise_ot]⟩
      · rw [hotOver_short he hs hr hv]
        exact ⟨rfl, rfl, wbit_raise_ot _⟩

/-- What an episode that the junction ends leaves of its channel: SHORT, a failed short retry, an end as at T_EP, OT, or a retry under R346. -/
theorem hotOver_outcome (he : w.episode ≠ none) :
    (P.hotOver n rose w).on = false ∧ (P.hotOver n rose w).episode = none ∧ wbit (P.hotOver n rose w).flags 17 = true ∧
    ((w.rose || rose) = false → P.supply.vswLow = false → w.episode ≠ some .shortRetry →
      (P.hotOver n rose w).shortCl = true ∧ (P.hotOver n rose w).retry = some { short := true }) ∧
    ((w.rose || rose) = false → P.supply.vswLow = false → w.episode = some .shortRetry →
      (P.hotOver n rose w).cls = if 1 ≤ w.shortTries then .short else w.cls) ∧
    (P.supply.vswLow = true → (P.hotOver n rose w).cls = if w.retryLeft = 0 then .overload else w.cls) ∧
    ((w.rose || rose) = true → P.supply.vswLow = false →
      (P.dieAbove150 = true ∨ (∀ k ∈ neighbours n, (P.switches.get k).shortCl = false) →
        (P.hotOver n rose w).cls = .ot ∧ (P.hotOver n rose w).retry = none) ∧
      (P.dieAbove150 = false → (∃ k ∈ neighbours n, (P.switches.get k).shortCl = true) → wbit (P.hotOver n rose w).flags 16 = true ∧
        (0 < w.retryLeft → (P.hotOver n rose w).cls = w.cls ∧ (P.hotOver n rose w).retry = some { short := false }) ∧
        (w.retryLeft = 0 → (P.hotOver n rose w).cls = .overload))) := by
  obtain ⟨hon, hep, hflag⟩ := hotOver_ends (P := P) (n := n) (rose := rose) he
  refine ⟨hon, hep, hflag, fun hr hv hs => ?_, fun hr hv hs => ?_, fun hv => ?_, fun hr hv => ?_⟩
  · rw [hotOver_short he hs hr hv]
    exact ⟨rfl, rfl⟩
  · rw [hotOver_shortFailed hs hr hv, SwitchState.shortFailed_cls]
  · obtain ⟨x, hx, -, hleft, hcls⟩ := hotOver_vswLow (rose := rose) (n := n) he hv
    rw [hx, x.inrushEnd_cls, hleft, hcls]
  · obtain ⟨x, hx, hxe, -, hleft, hcls⟩ := hotOver_risen (n := n) he hr hv
    rw [hx]
    refine ⟨fun h => ?_, fun hd hn => ?_⟩
    · rw [hotRisen_ot h]
      exact ⟨rfl, rfl⟩
    · rw [hotRisen_retries hd hn hxe, SwitchState.inrushEnd_flags, SwitchState.inrushEnd_cls, SwitchState.inrushEnd_retry]
      dsimp only
      rw [hleft, hcls]
      exact ⟨wbit_raise_self _ _ (by decide), fun h => ⟨if_neg (by omega), if_neg (by omega)⟩, fun h => if_pos h⟩

/-! ### The commands -/

theorem tryRetry_waits {r : RetryWait} {hot : Bool} {ck : Nat} (hw : (P.switches.get n).retry = some r)
    (h : hot = true ∨ P.holding = true ∨ (∃ k ∈ neighbours n, (P.switches.get k).inRetry = true) ∨ ck < r.at_) :
    P.tryRetry ck n hot = P.modSw n fun w => { w with retry := some { r with due := true, hot := hot } } := by
  unfold PortalState.tryRetry
  simp only [hw]
  refine if_pos ?_
  simpa only [Bool.or_eq_true, List.any_eq_true, decide_eq_true_eq, or_assoc] using h

/-- A channel that a retry switches on (R343, R344). -/
def SwitchState.retryOn (w : SwitchState) (r : RetryWait) : SwitchState :=
  { w with retry := none, on := true, rose := false, retried := some (if r.short then .shortRetry else .inrushRetry),
           retryLeft := if r.short then w.retryLeft else w.retryLeft - 1 }

theorem tryRetry_starts {r : RetryWait} {ck : Nat} (hw : (P.switches.get n).retry = some r) (hh : P.holding = false)
    (hn : ∀ k ∈ neighbours n, (P.switches.get k).inRetry = false) (ht : r.at_ ≤ ck) :
    P.tryRetry ck n false = P.modSw n fun w => w.retryOn r := by
  unfold PortalState.tryRetry
  simp only [hw]
  refine if_neg ?_
  have hnear : ((neighbours n).any fun k => (P.switches.get k).inRetry) = false := by simpa using hn
  simp [hh, hnear, ht]

theorem tryRetry_none {hot : Bool} {ck : Nat} (hw : (P.switches.get n).retry = none) : P.tryRetry ck n hot = P := by simp [PortalState.tryRetry, hw]

theorem junctionCool_none {ck : Nat} (hw : (P.switches.get n).retry = none) : P.junctionCool ck n = P := by simp [PortalState.junctionCool, hw]

theorem junctionCool_due {r : RetryWait} (ck : Nat) (hw : (P.switches.get n).retry = some r) (hd : r.due = true) :
    P.junctionCool ck n = P.tryRetry ck n false := by
  simp [PortalState.junctionCool, hw, hd]

theorem junctionCool_early {r : RetryWait} (ck : Nat) (hw : (P.switches.get n).retry = some r) (hd : r.due = false) :
    P.junctionCool ck n = P.modSw n fun w => { w with retry := some { r with hot := false } } := by
  simp [PortalState.junctionCool, hw, hd]

end

section
variable {s : State} {p : PortalId} {P : PortalState} {n : Fin 8} {w : SwitchState} {rose : Bool}

theorem exec_switchEpisodeStart (p : PortalId) (n : Fin 8) (s : State) :
    exec (.switchEpisodeStart p n) s = portalOnly s p fun P => P.modSw n SwitchState.episodeStart := rfl

theorem exec_switchEpisodeSuccess (p : PortalId) (n : Fin 8) (s : State) : exec (.switchEpisodeSuccess p n) s =
    portalOnly s p fun P => (P.modSw n SwitchState.episodeWon).episodeOver s.clock n (P.switches.get n) := rfl

theorem exec_switchTepExpire (p : PortalId) (n : Fin 8) (rose : Bool) (s : State) : exec (.switchTepExpire p n rose) s =
    portalOnly s p fun P => (P.modSw n fun w => w.tepOver rose P.supply.vswLow).episodeOver s.clock n (P.switches.get n) := rfl

theorem exec_switchJunctionOvertemp (p : PortalId) (n : Fin 8) (rose : Bool) (s : State) : exec (.switchJunctionOvertemp p n rose) s =
    portalOnly s p fun P => if !(P.switchCfg n.val).used then P
      else (P.modSw n (P.hotOver n rose)).episodeOver s.clock n (P.switches.get n) := rfl

theorem exec_switchJunctionCooled (p : PortalId) (n : Fin 8) (s : State) :
    exec (.switchJunctionCooled p n) s = portalOnly s p fun P => P.junctionCool s.clock n := rfl

theorem exec_switchRetryDue (p : PortalId) (n : Fin 8) (hot : Bool) (s : State) :
    exec (.switchRetryDue p n hot) s = portalOnly s p fun P => P.tryRetry s.clock n hot := rfl

theorem exec_shortRetryEnd (p : PortalId) (n : Fin 8) (rose : Bool) (s : State) : exec (.shortRetryEnd p n rose) s =
    portalOnly s p fun P => (P.modSw n fun w => w.shortRetryDone rose P.supply.vswLow).episodeOver s.clock n (P.switches.get n) := rfl

theorem exec_switchOlOffTimer (p : PortalId) (n : Fin 8) (s : State) : exec (.switchOlOffTimer p n) s = portalOnly s p fun P => P.olOff n := rfl

theorem exec_switchUcTimer (p : PortalId) (n : Fin 8) (s : State) : exec (.switchUcTimer p n) s = portalOnly s p fun P => P.undercurrent n := rfl

/-- T_EP elapses in an episode that a switch-on or an inrush retry began (R343). -/
theorem runs_tepExpire_ends (hP : s.portals.get p = P) (hc : P.calm) (hw : P.switches.get n = w)
    (he : w.episode = some .switchOn ∨ w.episode = some .inrushRetry) : RunsPortal p (.switchTepExpire p n rose) s fun Q => OnlySwitch n P Q ∧
      Q.switches.get n = if (w.rose || rose || P.supply.vswLow) = false then w.short else w.inrushEnd := by
  subst hw
  refine (runs_switch (exec_switchTepExpire ..) hP hc rfl rfl).mono fun Q ⟨⟨honly, hself⟩, _⟩ => ⟨honly, ?_⟩
  rw [hself, SwitchState.tepOver_ends he]

/-- A junction reaches 160 °C in an episode (R343, R346, R361). -/
theorem runs_junctionOvertemp (hP : s.portals.get p = P) (hc : P.calm) (hw : P.switches.get n = w) (hu : (P.switchCfg n.val).used = true) :
    RunsPortal p (.switchJunctionOvertemp p n rose) s fun Q => OnlySwitch n P Q ∧ Q.switches.get n = P.hotOver n rose w := by
  subst hw
  exact (runs_switch (exec_switchJunctionOvertemp ..) hP hc rfl (if_neg (by simp [hu]))).mono fun Q h => h.1

/-- Where a retry cannot start, it waits. -/
theorem runs_retry_waits {c : Instr} {r : RetryWait} {hot : Bool} (hexec : ∃ f, exec c s = portalOnly s p f ∧ f P = P.tryRetry s.clock n hot)
    (hP : s.portals.get p = P) (hc : P.calm) (hw : P.switches.get n = w) (hr : w.retry = some r)
    (h : hot = true ∨ P.holding = true ∨ (∃ k ∈ neighbours n, (P.switches.get k).inRetry = true) ∨ s.clock < r.at_) :
    RunsPortal p c s fun Q => OnlySwitch n P Q ∧ Q.switches.get n = { w with retry := some { r with due := true, hot := hot } } := by
  obtain ⟨f, hexec, hf⟩ := hexec
  exact runs_modSw (g := fun w => { w with retry := some { r with due := true, hot := hot } }) hexec hP hc hw
    (hf.trans (tryRetry_waits (by rw [hw, hr]) h))

/-- A retry starts where nothing keeps it back. -/
theorem runs_retry_starts {c : Instr} {r : RetryWait} (hexec : ∃ f, exec c s = portalOnly s p f ∧ f P = P.tryRetry s.clock n false)
    (hP : s.portals.get p = P) (hc : P.calm) (hw : P.switches.get n = w) (hr : w.retry = some r) (hh : P.holding = false)
    (hn : ∀ k ∈ neighbours n, (P.switches.get k).inRetry = false) (ht : r.at_ ≤ s.clock) :
    RunsPortal p c s fun Q => OnlySwitch n P Q ∧ Q.switches.get n = w.retryOn r := by
  obtain ⟨f, hexec, hf⟩ := hexec
  exact runs_modSw (g := fun w => w.retryOn r) hexec hP hc hw (hf.trans (tryRetry_starts (by rw [hw, hr]) hh hn ht))

end

end Sys2Proof.Machine
end

section
/-! The conduction budget of a portal die's switches (R349). -/

namespace Sys2Proof.Machine

@[simp] theorem Eight.get_mapIdx {α β : Type} (f : Fin 8 → α → β) (t : Eight α) (i : Fin 8) : (t.mapIdx f).get i = f i (t.get i) := by
  fin_cases i <;> rfl

variable {s : State} {p : PortalId} {P : PortalState} {n : Fin 8} {loss current : Eight Half} {ck : Nat}

/-! ### The channel that is shed next -/

/-- One channel taken into account in the choice of the one to shed. -/
def PortalState.shedStep (P : PortalState) (b : Option (Fin 8)) (n : Fin 8) : Option (Fin 8) :=
  let q := (P.switchCfg n.val).prio
  if !(P.switches.get n).on || q = 0 then b
  else
    match b with
    | some k => if (P.switchCfg k.val).prio ≤ q then some n else b
    | none => some n

theorem shedNext_eq (P : PortalState) : P.shedNext = chans8.foldl P.shedStep none := rfl

theorem shedStep_skips {b : Option (Fin 8)} (h : (P.switches.get n).on = true → (P.switchCfg n.val).prio = 0) : P.shedStep b n = b := by
  refine if_pos ?_
  cases hon : (P.switches.get n).on with
  | false => simp
  | true => simp [h hon]

theorem shedStep_takes {b : Option (Fin 8)} (hon : (P.switches.get n).on = true) (hq : (P.switchCfg n.val).prio ≠ 0)
    (hb : ∀ k, b = some k → (P.switchCfg k.val).prio ≤ (P.switchCfg n.val).prio) : P.shedStep b n = some n := by
  unfold PortalState.shedStep
  cases b with
  | none => simp [hon, hq]
  | some k => simp [hon, hq, hb k rfl]

theorem shedStep_keeps {k : Fin 8} (h : (P.switches.get k).on = true → (P.switchCfg k.val).prio < (P.switchCfg n.val).prio) :
    P.shedStep (some n) k = some n := by
  unfold PortalState.shedStep
  cases hon : (P.switches.get k).on with
  | false => simp
  | true =>
    have hlt := h hon
    simp only [Bool.not_true, Bool.false_or, decide_eq_true_eq]
    split
    · rfl
    · exact if_neg (by omega)

/-- A step chooses the channel itself, or keeps the choice. -/
theorem shedStep_either (b : Option (Fin 8)) (n : Fin 8) : P.shedStep b n = b ∨ (P.shedStep b n = some n ∧ (P.switches.get n).on = true) := by
  unfold PortalState.shedStep
  cases hon : (P.switches.get n).on with
  | false => exact .inl rfl
  | true =>
    dsimp only
    split
    · exact .inl rfl
    · split
      · split
        · exact .inr ⟨rfl, rfl⟩
        · exact .inl rfl
      · exact .inr ⟨rfl, rfl⟩

theorem shedNext_none (h : ∀ k, (P.switches.get k).on = true → (P.switchCfg k.val).prio = 0) : P.shedNext = none := by
  rw [shedNext_eq]
  generalize chans8 = l
  induction l with
  | nil => rfl
  | cons k l ih => rwa [List.foldl_cons, shedStep_skips (h k)]

/-- Of channels in ascending order the choice falls on the one of highest PRIO, the last among equals. -/
theorem foldl_shedStep (hon : (P.switches.get n).on = true) (hq : (P.switchCfg n.val).prio ≠ 0)
    (hmax : ∀ k, (P.switches.get k).on = true →
      (P.switchCfg k.val).prio < (P.switchCfg n.val).prio ∨ ((P.switchCfg k.val).prio = (P.switchCfg n.val).prio ∧ k ≤ n))
    {l : List (Fin 8)} (hl : l.Pairwise (· < ·)) (hn : n ∈ l) {b : Option (Fin 8)}
    (hb : ∀ k, b = some k → (P.switchCfg k.val).prio ≤ (P.switchCfg n.val).prio) : l.foldl P.shedStep b = some n := by
  induction l generalizing b with
  | nil => cases hn
  | cons k l ih =>
    obtain ⟨hk, hl⟩ := List.pairwise_cons.1 hl
    rw [List.foldl_cons]
    by_cases hkn : k = n
    · subst hkn
      rw [shedStep_takes hon hq hb]
      refine List.foldlRecOn (motive := fun b => b = some k) l P.shedStep rfl fun c hc j hj => ?_
      subst hc
      refine shedStep_keeps fun hjon => (hmax j hjon).resolve_right fun h => ?_
      exact absurd (hk j hj) (not_lt.2 h.2)
    · refine ih hl ((List.mem_cons.1 hn).resolve_left (Ne.symm hkn)) fun j hj => ?_
      obtain h | ⟨h, hkon⟩ := shedStep_either (P := P) b k
      · exact hb j (h.symm.trans hj)
      · obtain rfl : k = j := Option.some.inj (h.symm.trans hj)
        have := hmax k hkon
        omega

theorem shedNext_some (hon : (P.switches.get n).on = true) (hq : (P.switchCfg n.val).prio ≠ 0)
    (hmax : ∀ k, (P.switches.get k).on = true →
      (P.switchCfg k.val).prio < (P.switchCfg n.val).prio ∨ ((P.switchCfg k.val).prio = (P.switchCfg n.val).prio ∧ k ≤ n)) :
    P.shedNext = some n :=
  foldl_shedStep hon hq hmax (by decide) (by fin_cases n <;> decide) fun _ h => by cases h

/-! ### The estimate -/

/-- The losses of the channels that conduct outside an episode, mW. -/
def PortalState.estimate (P : PortalState) (loss : Eight Half) : Nat :=
  (chans8.map fun n => if (P.switches.get n).on && (P.switches.get n).episode.isNone then (loss.get n).toNat else 0).sum

/-- The portal die `P` with the currents measured and the losses estimated. -/
def PortalState.metered (P : PortalState) (loss current : Eight Half) : PortalState :=
  { P with switches := P.switches.mapIdx fun n w => { w with current := current.get n }
           supply := { P.supply with est := P.estimate loss } }

theorem metered_get (n : Fin 8) : (P.metered loss current).switches.get n = { P.switches.get n with current := current.get n } := Eight.get_mapIdx ..

theorem foldl_add_eq_sum (f : Fin 8 → Nat) (l : List (Fin 8)) (a : Nat) : l.foldl (fun t n => t + f n) a = a + (l.map f).sum := by
  induction l generalizing a with
  | nil => rfl
  | cons k l ih => rw [List.foldl_cons, ih, List.map_cons, List.sum_cons, Nat.add_assoc]

theorem budget_eq (hp : P.por = false) : P.budget ck loss current =
    if P.estimate loss ≤ P.pio.budget then { P.metered loss current with supply := { (P.metered loss current).supply with overBudget := false } }
    else
      match (P.metered loss current).shedNext with
      | some n => (P.metered loss current).shed ck n (loss.get n).toNat
      | none => { P.metered loss current with supply := { (P.metered loss current).supply with overBudget := true } } := by
  have hest : chans8.foldl (fun t n => t + if ((P.switches.mapIdx fun n w => ({ w with current := current.get n } : SwitchState)).get n).on &&
      ((P.switches.mapIdx fun n w => ({ w with current := current.get n } : SwitchState)).get n).episode.isNone then (loss.get n).toNat else 0) 0 =
      P.estimate loss := by
    rw [foldl_add_eq_sum, Nat.zero_add]
    simp only [Eight.get_mapIdx]
    rfl
  unfold PortalState.budget
  rw [if_neg (by simp [hp])]
  dsimp only
  rw [hest]
  rfl

theorem exec_budgetEvaluate (p : PortalId) (loss current : Eight Half) (s : State) :
    exec (.budgetEvaluate p loss current) s = portalOnly s p fun P => P.budget s.clock loss current := rfl

/-- An evaluation after which no channel is shed. -/
theorem runs_budget_keeps {b : Bool} (hP : s.portals.get p = P) (hc : P.calm) (hf : P.budget s.clock loss current =
      { P.metered loss current with supply := { (P.metered loss current).supply with overBudget := b } }) :
    RunsPortal p (.budgetEvaluate p loss current) s fun Q =>
      UpToFrames { P with switches := Q.switches, supply := { P.supply with est := P.estimate loss, overBudget := b } } Q ∧
      ∀ k, Q.switches.get k = { P.switches.get k with current := current.get k } := by
  refine .of_calm (exec_budgetEvaluate p loss current s) hP hc.1 (by rw [hf]; exact hc) fun R hR => ?_
  rw [hf] at hR
  have hsw := hR.switches
  refine ⟨?_, fun k => ?_⟩
  · rw [hsw]
    exact hR
  · rw [hsw]
    exact metered_get (loss := loss) k

/-- A channel that is shed, with its latest loss. -/
def SwitchState.shedFor (w : SwitchState) (loss : Nat) : SwitchState := { w.outOff with retry := none, shed := true, lastLoss := loss }

theorem shed_eq (P : PortalState) (ck : Nat) (n : Fin 8) (q : Nat) : ∃ x : Eight SwitchState,
    P.shed ck n q = { P with switches := x, supply := { P.supply with shedOrder := n :: P.supply.shedOrder, overBudget := false } } ∧
      x.get n = (P.switches.get n).shedFor q ∧
      ∀ k, k ≠ n → x.get k = { P.switches.get k with retry := (x.get k).retry } ∧
        ((P.switches.get n).inRetry = false ∨ k ∉ neighbours n → (x.get k).retry = (P.switches.get k).retry) := by
  have heq := modSw_episodeOver_eq P n (fun w => w.shedFor q) ck (P.switches.get n)
  have hself := modSw_episodeOver_self P n (fun w => w.shedFor q) ck (P.switches.get n)
  refine ⟨((P.modSw n fun w => w.shedFor q).episodeOver ck n (P.switches.get n)).switches, ?_, hself,
    fun k hk => ⟨modSw_episodeOver_ne hk .., fun hfar => ?_⟩⟩
  · exact congrArg (fun E : PortalState => { E with supply := { E.supply with shedOrder := n :: E.supply.shedOrder, overBudget := false } }) heq
  · rw [episodeOver_get_far hfar, PortalState.modSw_switches, Eight.get_set_ne _ hk]

/-- An evaluation that sheds channel `n`. -/
theorem runs_budget_sheds (hP : s.portals.get p = P) (hc : P.calm)
    (hf : P.budget s.clock loss current = (P.metered loss current).shed s.clock n (loss.get n).toNat) :
    RunsPortal p (.budgetEvaluate p loss current) s fun Q =>
      UpToFrames { P with
        switches := Q.switches
        supply := { P.supply with est := P.estimate loss, overBudget := false, shedOrder := n :: P.supply.shedOrder } } Q ∧
      Q.switches.get n = { P.switches.get n with
        current := current.get n, on := false, episode := none, retried := none, rose := false, retry := none, shed := true,
        lastLoss := (loss.get n).toNat } ∧
      ∀ k, k ≠ n → Q.switches.get k = { P.switches.get k with current := current.get k, retry := (Q.switches.get k).retry } ∧
        ((P.switches.get n).inRetry = false ∨ k ∉ neighbours n → (Q.switches.get k).retry = (P.switches.get k).retry) := by
  obtain ⟨x, hx, hself, hother⟩ := shed_eq (P.metered loss current) s.clock n (loss.get n).toNat
  rw [hx] at hf
  have hin : ((P.metered loss current).switches.get n).inRetry = (P.switches.get n).inRetry := by
    rw [metered_get]
    rfl
  refine .of_calm (exec_budgetEvaluate p loss current s) hP hc.1 (by rw [hf]; exact hc) fun R hR => ?_
  rw [hf] at hR
  have hsw : R.switches = x := hR.switches
  rw [hsw]
  refine ⟨hR, ?_, fun k hk => ?_⟩
  · rw [hself, metered_get]
    rfl
  · obtain ⟨hk, hretry⟩ := hother k hk
    rw [hin, metered_get] at hretry
    rw [metered_get] at hk
    exact ⟨hk, hretry⟩

/-! ### A second of headroom -/

theorem exec_budgetRestore (p : PortalId) (s : State) : exec (.budgetRestore p) s = portalOnly s p fun P => P.budgetRestore := rfl

section
variable {l : List (Fin 8)} {w : SwitchState}

/-- The channel shed last is to be switched on again: it is demanded, shed, not latched off, and in use. -/
def PortalState.wantsBack (P : PortalState) (n : Fin 8) : Prop :=
  (P.switches.get n).demand = true ∧ (P.switches.get n).shed = true ∧ (P.switches.get n).cls = .none ∧ (P.switchCfg n.val).used = true

theorem wantsBack_iff : P.wantsBack n ↔
    (!(P.switches.get n).demand || !(P.switches.get n).shed || (P.switches.get n).latched || !(P.switchCfg n.val).used) = false := by
  simp [PortalState.wantsBack, SwitchState.latched, and_assoc]

theorem budgetRestore_drops (hl : P.supply.shedOrder = n :: l) (hw : ¬P.wantsBack n) :
    P.budgetRestore = { P with supply := { P.supply with shedOrder := l } } := by
  unfold PortalState.budgetRestore
  simp only [hl]
  exact if_pos (by rwa [wantsBack_iff, Bool.not_eq_false] at hw)

theorem budgetRestore_waits (hl : P.supply.shedOrder = n :: l) (hw : P.wantsBack n)
    (h : P.holding = true ∨ 80 * P.pio.budget < 100 * (P.supply.est + (P.switches.get n).lastLoss)) : P.budgetRestore = P := by
  unfold PortalState.budgetRestore
  simp only [hl]
  rw [if_neg (by rw [wantsBack_iff.1 hw]; decide)]
  refine if_pos ?_
  obtain h | h := h <;> simp [h]

theorem budgetRestore_restores (hl : P.supply.shedOrder = n :: l) (hp : P.por = false) (hw : P.wantsBack n) (hh : P.holding = false)
    (h : ¬80 * P.pio.budget < 100 * (P.supply.est + (P.switches.get n).lastLoss)) : P.budgetRestore =
      { P with switches := P.switches.set n { P.switches.get n with on := true, shed := false }, supply := { P.supply with shedOrder := l } } := by
  unfold PortalState.budgetRestore
  simp only [hl]
  rw [if_neg (by rw [wantsBack_iff.1 hw]; decide), if_neg (by simp only [hh, hp, h]; decide)]
  rfl

end

/-- A restore whose effect leaves the die calm. -/
theorem runs_budgetRestore {X : PortalState} (hP : s.portals.get p = P) (hp : P.por = false) (hX : X.calm) (h : P.budgetRestore = X) :
    RunsPortal p (.budgetRestore p) s fun Q => UpToFrames X Q :=
  .of_calm (exec_budgetRestore p s) hP hp (by rwa [h]) fun R hR => by rwa [h] at hR

end Sys2Proof.Machine
end

section
/-! The digital inputs of a portal die: filters, open wire, proofs, and the safety outputs that follow them (R68, R69, R336, R339, R340). -/

namespace Sys2Proof.Machine

@[simp] theorem Sixteen.get_mapIdx {α β : Type} (f : Fin 16 → α → β) (t : Sixteen α) (i : Fin 16) : (t.mapIdx f).get i = f i (t.get i) := by
  fin_cases i <;> rfl

/-! ### Events -/

namespace UpToEvents

variable {X Y R : PortalState}

theorem of_frames (h : UpToFrames X R) : UpToEvents X R := by
  obtain ⟨heq, hgl⟩ := h
  refine ⟨?_, hgl⟩
  rw [heq]

theorem trans_frames (h : UpToEvents X Y) (g : UpToFrames Y R) : UpToEvents X R := by
  obtain ⟨hxy, hgl⟩ := h
  obtain ⟨hyr, hgl'⟩ := g
  refine ⟨by rw [hyr, hxy], ?_⟩
  obtain hgl' | hgl' := hgl'
  · exact hgl.imp hgl'.trans hgl'.trans
  · exact .inr hgl'

theorem event (X : PortalState) (ck code axis : Nat) (args : List Word) : UpToEvents X (X.event ck code axis args) := by
  unfold PortalState.event PortalState.eventAt PortalState.pushEvent
  dsimp only
  split
  · exact ⟨rfl, .inl rfl⟩
  · split
    · exact ⟨rfl, .inl rfl⟩
    · exact ⟨rfl, .inl rfl⟩

theorem calm (h : UpToEvents X R) (hc : X.calm) : R.calm := by
  obtain ⟨heq, -⟩ := h
  rw [heq]
  exact hc

end UpToEvents

/-! ### What the safety outputs follow (R24 to R26) -/

/-- What of an output decides, beside the rest of the die, whether it may be on. -/
def SoState.allowed (x : SoState) : Bool := x.perm && x.dem && !x.stand && !x.fault

section
variable {P : PortalState} {o : SoId}

/-- An output is wanted where it is allowed and nothing else on the die holds it off. -/
theorem soWanted_eq (P : PortalState) (o : SoId) : P.soWanted o = ((P.sos.so o).allowed && (wbit P.pio.soUsed (SoId.bit o) && P.proofOk &&
    P.supply.field != .uv && !P.por && P.cls != .fault && !P.link.failsafe && !P.link.limp)) := by
  simp only [PortalState.soWanted, SoState.allowed, Bool.and_assoc]

theorem soWanted_setSos {t : Two SoState} (h : (t.so o).allowed = (P.sos.so o).allowed) :
    ({ P with sos := t } : PortalState).soWanted o = P.soWanted o := by
  rw [soWanted_eq, soWanted_eq P, ← h]
  rfl

theorem soSchedule_eq (P : PortalState) (ck : Nat) : ∃ i j, P.soSchedule ck =
    { P with sos := ⟨{ P.sos.fst with nextAt := i }, { P.sos.snd with nextAt := j }⟩ } := by
  unfold PortalState.soSchedule
  dsimp only
  split
  · exact ⟨_, _, rfl⟩
  · exact ⟨P.sos.fst.nextAt, P.sos.snd.nextAt, rfl⟩

/-- `t` holds the permissions, demands and faults of the outputs `u`. -/
def SameDemands (u t : Two SoState) : Prop := ∀ i, (t.so i).perm = (u.so i).perm ∧ (t.so i).dem = (u.so i).dem ∧ (t.so i).fault = (u.so i).fault

theorem SameDemands.refl (u : Two SoState) : SameDemands u u := fun _ => ⟨rfl, rfl, rfl⟩

theorem SameDemands.trans {u t v : Two SoState} (h : SameDemands u t) (g : SameDemands t v) : SameDemands u v := fun i => by
  obtain ⟨hperm, hdem, hfault⟩ := g i
  rw [hperm, hdem, hfault]
  exact h i

/-- The other output, which a refresh leaves as it was but for the moment of its next pulse. -/
def SoUntouched (x y : SoState) : Prop := y.on = x.on ∧ y.allowed = x.allowed

/-- A refreshed output is on exactly where it is wanted. -/
theorem soRefresh_spec (P : PortalState) (ck : Nat) (o : SoId) : ∃ t, P.soRefresh ck o = { P with sos := t } ∧ SameDemands P.sos t ∧
    (t.so o).on = ({ P with sos := t } : PortalState).soWanted o ∧ ∀ i, i ≠ o → SoUntouched (P.sos.so i) (t.so i) := by
  unfold PortalState.soRefresh
  cases hw : P.soWanted o with
  | true =>
    cases hon : (P.sos.so o).on with
    | true => exact ⟨P.sos, rfl, .refl _, hon.trans hw.symm, fun _ _ => ⟨rfl, rfl⟩⟩
    | false =>
      obtain ⟨i, j, hsched⟩ := soSchedule_eq P ck
      let t : Two SoState := ⟨{ P.sos.fst with nextAt := i }, { P.sos.snd with nextAt := j }⟩
      refine ⟨t.setSo o { t.so o with on := true }, by rw [hsched]; rfl, ?_, ?_, ?_⟩
      · intro k
        cases o <;> cases k <;> exact ⟨rfl, rfl, rfl⟩
      · rw [soWanted_setSos (by cases o <;> rfl), hw]
        cases o <;> rfl
      · intro k hk
        rw [Two.so_setSo_ne _ hk]
        cases k <;> exact ⟨rfl, rfl⟩
  | false =>
    cases hon : (P.sos.so o).on with
    | false => exact ⟨P.sos, rfl, .refl _, hon.trans hw.symm, fun _ _ => ⟨rfl, rfl⟩⟩
    | true =>
      let x := P.sos.so o
      refine ⟨P.sos.setSo o { x with on := false, pulse := false, stand := x.stand || x.dem }, rfl, ?_, ?_, ?_⟩
      · intro k
        cases o <;> cases k <;> exact ⟨rfl, rfl, rfl⟩
      · have hoff : ({ x with on := false, pulse := false, stand := x.stand || x.dem } : SoState).allowed = false := by
          cases x.dem <;> simp [SoState.allowed]
        rw [soWanted_eq]
        dsimp only
        rw [Two.so_setSo, hoff]
        rfl
      · intro k hk
        rw [Two.so_setSo_ne _ hk]
        exact ⟨rfl, rfl⟩

/-- Both outputs refreshed. -/
theorem soRefreshAll_spec (P : PortalState) (ck : Nat) : ∃ t, P.soRefreshAll ck = { P with sos := t } ∧ SameDemands P.sos t ∧
    ∀ o, (t.so o).on = ({ P with sos := t } : PortalState).soWanted o := by
  obtain ⟨t, ht, hsame, hon, -⟩ := soRefresh_spec P ck .a
  obtain ⟨u, hu, hsame', hon', huntouched⟩ := soRefresh_spec { P with sos := t } ck .b
  refine ⟨u, ?_, hsame.trans hsame', fun o => ?_⟩
  · unfold PortalState.soRefreshAll
    rw [ht, hu]
  · cases o with
    | a =>
      obtain ⟨hkept, hallowed⟩ := huntouched .a (by decide)
      rw [hkept, hon]
      exact (soWanted_setSos (P := { P with sos := t }) hallowed).symm
    | b => exact hon'

end

/-! ### A change of the inputs -/

/-- The outputs of `Q` are on where they are wanted, and have the permissions, demands and faults of those of `X`. -/
def OutputsFollow (X Q : PortalState) : Prop := SameDemands X.sos Q.sos ∧ ∀ o, (Q.sos.so o).on = Q.soWanted o

section
variable {X R : PortalState}

/-- What a change of the inputs brings on the die itself. -/
theorem trackRoles_soRefreshAll (X : PortalState) (ck : Nat) : ∃ i a t,
    (X.trackRoles ck).soRefreshAll ck = { X with isoSplitAt := i, agreeAt := a, sos := t } ∧
      OutputsFollow X { X with isoSplitAt := i, agreeAt := a, sos := t } := by
  obtain ⟨t, ht, hsame, hon⟩ := soRefreshAll_spec (X.trackRoles ck) ck
  exact ⟨_, _, t, ht, hsame, hon⟩

theorem inputsChanged_unfiltered (X : PortalState) (ck : Nat) (was : Word) : X.inputsChanged ck was false = (X.trackRoles ck).soRefreshAll ck := by
  unfold PortalState.inputsChanged
  dsimp only
  rw [Bool.false_and]
  exact if_neg Bool.false_ne_true

theorem inputsChanged_events (X : PortalState) (ck : Nat) (was : Word) (b : Bool) :
    UpToEvents ((X.trackRoles ck).soRefreshAll ck) (X.inputsChanged ck was b) := by
  unfold PortalState.inputsChanged
  dsimp only
  split
  · exact .event ..
  · exact ⟨rfl, .inl rfl⟩

/-- The link of a portal die decides on its outputs by the fail-safe states and limp-home alone. -/
theorem soWanted_setLink (P : PortalState) (o : SoId) {l : PortalLink} (hf : l.failsafe = P.link.failsafe) (hl : l.limp = P.link.limp) :
    ({ P with link := l } : PortalState).soWanted o = P.soWanted o := by
  rw [soWanted_eq, soWanted_eq P, ← hf, ← hl]
  rfl

theorem UpToEvents.soWanted {Y : PortalState} (h : UpToEvents Y R) (o : SoId) : R.soWanted o = Y.soWanted o := by
  obtain ⟨heq, -⟩ := h
  have hf : R.link.failsafe = Y.link.failsafe := (congrArg (fun P : PortalState => P.link.failsafe) heq :)
  have hl : R.link.limp = Y.link.limp := (congrArg (fun P : PortalState => P.link.limp) heq :)
  have hlink : R = { Y with link := R.link } := by
    rw [heq]
  rw [hlink]
  exact soWanted_setLink Y o hf hl

theorem UpToEvents.follow {Y : PortalState} (h : UpToEvents Y R) (hY : OutputsFollow X Y) : OutputsFollow X R := by
  obtain ⟨hsame, hon⟩ := hY
  have hsos : R.sos = Y.sos := (congrArg PortalState.sos h.1 :)
  exact ⟨by rwa [hsos], fun o => by rw [hsos, hon, h.soWanted]⟩

/-- The die after a change of its inputs, whose own effect is `X`. -/
def InputsFollowed (X Q : PortalState) : Prop :=
  UpToEvents { X with isoSplitAt := Q.isoSplitAt, agreeAt := Q.agreeAt, sos := Q.sos } Q ∧ OutputsFollow X Q

theorem InputsFollowed.of_events {i a : Option Nat} {t : Two SoState} (h : UpToEvents { X with isoSplitAt := i, agreeAt := a, sos := t } R)
    (hf : OutputsFollow X { X with isoSplitAt := i, agreeAt := a, sos := t }) : InputsFollowed X R := by
  have hi : R.isoSplitAt = i := (congrArg PortalState.isoSplitAt h.1 :)
  have ha : R.agreeAt = a := (congrArg PortalState.agreeAt h.1 :)
  have ht : R.sos = t := (congrArg PortalState.sos h.1 :)
  refine ⟨?_, h.follow hf⟩
  rw [hi, ha, ht]
  exact h

variable {c : Instr} {s : State} {p : PortalId} {P : PortalState} {f : PortalState → PortalState} {was : Word}

/-- A command whose effect is a change of the inputs that no event reports. -/
theorem runs_inputs (hexec : exec c s = portalOnly s p f) (hP : s.portals.get p = P) (hp : P.por = false) (hc : X.calm)
    (hf : f P = X.inputsChanged s.clock was false) : RunsPortal p c s fun Q =>
      UpToFrames { X with isoSplitAt := Q.isoSplitAt, agreeAt := Q.agreeAt, sos := Q.sos } Q ∧ OutputsFollow X Q := by
  rw [inputsChanged_unfiltered] at hf
  obtain ⟨i, a, t, hset, hfollow⟩ := trackRoles_soRefreshAll X s.clock
  rw [hset] at hf
  refine .of_calm hexec hP hp (by rw [hf]; exact hc) fun R hR => ?_
  rw [hf] at hR
  have hi : R.isoSplitAt = i := (congrArg PortalState.isoSplitAt hR.1 :)
  have ha : R.agreeAt = a := (congrArg PortalState.agreeAt hR.1 :)
  have ht : R.sos = t := (congrArg PortalState.sos hR.1 :)
  refine ⟨?_, (UpToEvents.of_frames hR).follow hfollow⟩
  rw [hi, ha, ht]
  exact hR

/-- A command whose effect is a change of the inputs that an event may report. -/
theorem runs_inputs_events {b : Bool} (hexec : exec c s = portalOnly s p f) (hP : s.portals.get p = P) (hp : P.por = false) (hc : X.calm)
    (hf : f P = X.inputsChanged s.clock was b) : RunsPortal p c s (InputsFollowed X) := by
  obtain ⟨i, a, t, hset, hfollow⟩ := trackRoles_soRefreshAll X s.clock
  have hevents := inputsChanged_events X s.clock was b
  rw [← hf, hset] at hevents
  have hcalm : ({ X with isoSplitAt := i, agreeAt := a, sos := t } : PortalState).calm := hc
  exact .of_calm hexec hP hp (hevents.calm hcalm) fun R hR => .of_events (hevents.trans_frames hR) hfollow

/-! ### Beside the obstacle block -/

theorem UpToEvents.setOb {Y : PortalState} (h : UpToEvents Y R) (o : ObState) : UpToEvents { Y with ob := o } { R with ob := o } := by
  obtain ⟨heq, hgl⟩ := h
  refine ⟨?_, hgl⟩
  rw [heq]

theorem OutputsFollow.setOb {Y : PortalState} (h : OutputsFollow X Y) (o : ObState) : OutputsFollow X { Y with ob := o } := by
  obtain ⟨hsame, hon⟩ := h
  exact ⟨hsame, fun i => (hon i).trans ((soWanted_eq Y i).trans (soWanted_eq { Y with ob := o } i).symm)⟩

end

end Sys2Proof.Machine
end

section
/-! The commands of the digital inputs (R231, R336, R339 to R341). -/

namespace Sys2Proof.Machine

variable {s : State} {p : PortalId} {P : PortalState}

/-! ### A sample that crosses as a non-code word (R18, R32) -/

/-- The obstacle block at the entry to FAULT: no reversal follows the stop under way (R129). -/
def ObState.faultEntered (o : ObState) : ObState :=
  { o with rest := none, reversal := none, revPend := false, stop := o.stop.map fun s => { s with noReversal := true } }

/-- The entry to FAULT leaves its marks in the obstacle block and the link, and acts on the outputs. -/
theorem enterFault_outputs (h : P.cls ≠ .fault) (ck : Nat) (why : Word) :
    OutputsOnly ({ P with cls := .fault, ob := P.ob.faultEntered } : PortalState).failsafeMarks (P.enterFault ck why) := by
  unfold PortalState.enterFault
  rw [if_neg (by simpa using h)]
  exact (OutputsOnly.applyFailsafe { P with cls := .fault, ob := P.ob.faultEntered } ck).trans (.event ..)

/-- What a sample of the lands does on its portal die. -/
def PortalState.sampleLands (P : PortalState) (ck : Nat) (p : PortalId) (x : LandSample) : PortalState :=
  if P.por then P else if x.nonCode then P.enterFault ck 0 else P.inputSample ck p x

theorem exec_inputSample (p : PortalId) (x : LandSample) (s : State) :
    exec (.inputSample p x) s = portalOnly s p fun P => P.sampleLands s.clock p x := rfl

theorem sampleLands_nonCode (hp : P.por = false) (ck : Nat) (p : PortalId) (raw : BitVec 16) (low : Bool) :
    P.sampleLands ck p ⟨raw, low, true⟩ = P.enterFault ck 0 := if_neg (by simp [hp])

theorem sampleLands_code (hp : P.por = false) (ck : Nat) (p : PortalId) (raw : BitVec 16) (low : Bool) :
    P.sampleLands ck p ⟨raw, low, false⟩ = P.inputSample ck p ⟨raw, low, false⟩ := if_neg (by simp [hp])

theorem runs_inputSample_nonCode (hP : s.portals.get p = P) (hc : P.calm) (raw : BitVec 16) (low : Bool) :
    RunsPortal p (.inputSample p ⟨raw, low, true⟩) s fun Q => Q.cls = .fault ∧ Q.units = P.units ∧ Q.inputs = P.inputs := by
  have hexec := exec_inputSample p ⟨raw, low, true⟩ s
  have hf := sampleLands_nonCode hc.1 s.clock p raw low
  by_cases hcls : P.cls = .fault
  · have hstays : P.enterFault s.clock 0 = P := if_pos (by simp [hcls])
    refine (RunsPortal.of_idle hexec hP hc (hf.trans hstays)).mono fun Q ⟨hQ, _⟩ => ?_
    rw [hQ]
    exact ⟨hcls, rfl, rfl⟩
  · have hout := enterFault_outputs hcls s.clock 0
    rw [← hf] at hout
    obtain ⟨hpor, -, hwaits, hcount⟩ := hc
    have hcalm : ({ P with cls := .fault, ob := P.ob.faultEntered } : PortalState).failsafeMarks.calm := ⟨hpor, .inl rfl, hwaits, hcount⟩
    refine .of_outputsOnly hexec hP hpor hcalm hout fun R hR => ?_
    rw [hR.eq]
    exact ⟨rfl, rfl, rfl⟩

/-! ### The land of a local lock-out reset (R231) -/

/-- What a sample of LOCKOUT_CLR_N makes of the obstacle block's part in a local reset: its fall is kept with its moment, and the 2 s count from it only
where the portal is locked out. -/
def LandKept (P : PortalState) (ck : Nat) (low : Bool) (o : ObState) : Prop :=
  (low = false → o = { P.ob with lclrAt := none }) ∧
  (low = true → o = { P.ob with lclrAt := some (P.ob.lclrAt.getD ck), lclrCount := o.lclrCount } ∧
    (P.ob.lclrAt ≠ none ∨ P.cls ≠ .lockedOut → o.lclrCount = false))

theorem resetWhy_of_open (h : P.cls ≠ .lockedOut) (p : PortalId) : P.resetWhy p = 1 := if_pos (bne_iff_ne.mpr h)

/-- A sample of the land changes the obstacle block alone, as it is to be kept, even where the watch over the 2 s then ends the count. -/
theorem lclrLand_spec (hcount : P.ob.lclrCount = false) (ck : Nat) (p : PortalId) (low : Bool) : ∃ o, P.lclrLand ck p low = { P with ob := o } ∧
    ∀ b, (o.lclrCount = false → b = false) → LandKept P ck low { o with lclrCount := b } := by
  cases low with
  | false =>
    refine ⟨{ P.ob with lclrAt := none, lclrCount := false }, rfl, fun b hb => ⟨fun _ => ?_, fun h => by cases h⟩⟩
    obtain rfl : b = P.ob.lclrCount := (hb rfl).trans hcount.symm
    rfl
  | true =>
    cases hat : P.ob.lclrAt with
    | some t =>
      refine ⟨P.ob, by simp [PortalState.lclrLand, hat], fun b hb => ⟨fun h => by (cases h), fun _ => ⟨?_, fun _ => hb hcount⟩⟩⟩
      rw [hat, Option.getD_some, ← hat]
    | none =>
      refine ⟨{ P.ob with lclrAt := some ck, lclrCount := P.resetWhy p == 0 }, by simp [PortalState.lclrLand, hat, PortalState.modOb],
        fun b hb => ⟨fun h => by (cases h), fun _ => ⟨by rw [hat, Option.getD_none], fun h => hb ?_⟩⟩⟩
      rw [resetWhy_of_open (h.resolve_left fun h => h hat)]
      rfl

/-- A portal die on which nothing but the watch over a local reset follows a command. -/
theorem followUp_watch {X : PortalState} (hc : X.cls = .fault ∨ ∀ a, (X.axes.get a).trip = false) (hw : X.link.outcomeWaits = false)
    (ck : Nat) (p : PortalId) : X.followUp ck p = X.lclrWatch p := by
  have ht : X.tripFault ck = X := by
    obtain hc | hc := hc
    · unfold PortalState.tripFault
      split <;> simp [hc]
    · exact tripFault_calm X ck hc
  unfold PortalState.followUp PortalState.afterOwnMotion
  simp [ht, hw]

theorem lclrWatch_eq (X : PortalState) (p : PortalId) : ∃ b, X.lclrWatch p = { X with ob := { X.ob with lclrCount := b } } ∧
    (X.ob.lclrCount = false → b = false) := by
  unfold PortalState.lclrWatch
  split
  · exact ⟨false, rfl, fun _ => rfl⟩
  · exact ⟨X.ob.lclrCount, rfl, id⟩

/-! ### A sample of the inputs (R336) -/

/-- The filters after a sample of their channels. -/
def PortalState.sampledFilters (P : PortalState) (raw : BitVec 16) : Sixteen InputFilter :=
  P.inputs.filters.mapIdx fun n x =>
    if P.inputs.restart then InputFilter.restart (P.inputCfg n.val) (wbit raw n.val) else x.sample (P.inputCfg n.val) (wbit raw n.val)

/-- The portal die with its filters after a sample. -/
def PortalState.filtersTo (P : PortalState) (raw : BitVec 16) : PortalState :=
  { P with inputs := { P.inputs with filters := P.sampledFilters raw, restart := false, raw := raw } }

/-- The portal die after a sample, before the safety outputs follow: filters, proofs, and the open-wire reports that a channel reading on drops. -/
def PortalState.filterSample (P : PortalState) (raw : BitVec 16) : PortalState :=
  let Q := P.filtersTo raw
  let R := Q.prove (if P.inputs.restart then Q.filtered else P.filtered) Q.filtered P.openWire
  { R with inputs := { R.inputs with ow := R.inputs.ow &&& ~~~Q.filtered } }

theorem inputSample_eq {ck : Nat} {raw : BitVec 16} {low : Bool} (h : (P.lclrLand ck p low).link.lowRate = false) :
    P.inputSample ck p ⟨raw, low, false⟩ =
      ((P.lclrLand ck p low).filterSample raw).inputsChanged ck ((P.lclrLand ck p low).signalWord 0) true := by
  unfold PortalState.inputSample
  dsimp only
  rw [if_neg (by simp [h])]
  rfl

theorem inputSample_lowRate {ck : Nat} {raw : BitVec 16} {low : Bool} (h : (P.lclrLand ck p low).link.lowRate = true) :
    P.inputSample ck p ⟨raw, low, false⟩ = P.lclrLand ck p low := if_pos h

theorem prove_eq (P : PortalState) (was now ow : BitVec 16) : P.prove was now ow =
    { P with proven := if P.proofPaused then P.proven else P.proven ||| (now &&& ~~~was &&& ~~~ow &&& P.openHalf)
             openHalf := if P.proofPaused then P.openHalf else P.openHalf ||| (~~~now &&& ~~~ow) } := by
  unfold PortalState.prove
  split <;> rfl

/-- What a sample makes of the inputs and the proofs. -/
theorem filterSample_eq (P : PortalState) (raw : BitVec 16) : P.filterSample raw =
    { P with
      inputs := { P.inputs with
        filters := P.sampledFilters raw, restart := false, raw := raw, ow := P.inputs.ow &&& ~~~(P.filtersTo raw).filtered }
      proven := if P.proofPaused then P.proven
        else P.proven ||| ((P.filtersTo raw).filtered &&& ~~~(if P.inputs.restart then (P.filtersTo raw).filtered else P.filtered) &&&
          ~~~P.openWire &&& P.openHalf)
      openHalf := if P.proofPaused then P.openHalf else P.openHalf ||| (~~~(P.filtersTo raw).filtered &&& ~~~P.openWire) } := by
  unfold PortalState.filterSample
  dsimp only
  rw [prove_eq]
  rfl

theorem filterSample_other (P : PortalState) (raw : BitVec 16) : P.filterSample raw =
    { P with inputs := (P.filterSample raw).inputs, proven := (P.filterSample raw).proven, openHalf := (P.filterSample raw).openHalf } := by
  rw [filterSample_eq]

theorem filterSample_filtered (P : PortalState) (raw : BitVec 16) : (P.filtersTo raw).filtered = (P.filterSample raw).filtered := by
  rw [filterSample_eq]
  rfl

theorem filterSample_filters (P : PortalState) (raw : BitVec 16) : (P.filterSample raw).inputs.filters = P.sampledFilters raw := by
  rw [filterSample_eq]

theorem filterSample_inputs (P : PortalState) (raw : BitVec 16) : (P.filterSample raw).inputs = { P.inputs with
    filters := (P.filterSample raw).inputs.filters, restart := false, raw := raw
    ow := P.inputs.ow &&& ~~~(P.filterSample raw).filtered } := by
  rw [← filterSample_filtered, filterSample_eq]

/-- While the proofs are paused neither half of one counts. -/
theorem filterSample_paused (h : P.proofPaused = true) (raw : BitVec 16) :
    (P.filterSample raw).proven = P.proven ∧ (P.filterSample raw).openHalf = P.openHalf := by
  rw [filterSample_eq]
  exact ⟨if_pos h, if_pos h⟩

/-- A channel seen open, and then seen to close, is proven (R68). -/
theorem filterSample_counts (h : P.proofPaused = false) (raw : BitVec 16) :
    (P.filterSample raw).openHalf = P.openHalf ||| (~~~(P.filterSample raw).filtered &&& ~~~P.openWire) ∧
      (P.filterSample raw).proven = P.proven ||| (if P.inputs.restart = true then 0
        else (P.filterSample raw).filtered &&& ~~~P.filtered &&& ~~~P.openWire &&& P.openHalf) := by
  have hno : ¬P.proofPaused = true := by simp [h]
  rw [← filterSample_filtered, filterSample_eq]
  refine ⟨if_neg hno, (if_neg hno).trans ?_⟩
  cases P.inputs.restart <;> simp

theorem filtered_congr {P Q : PortalState} (h : Q.inputs.filters = P.inputs.filters) : Q.filtered = P.filtered := by
  unfold PortalState.filtered
  rw [h]

section
variable {raw : BitVec 16} {low : Bool}

/-- A command on a portal die that leaves a local reset's count at most to its watch. -/
theorem runs_watched {c : Instr} {X : PortalState} {f : PortalState → PortalState} (hexec : exec c s = portalOnly s p f) (hP : s.portals.get p = P)
    (hp : P.por = false) (hc : X.cls = .fault ∨ ∀ a, (X.axes.get a).trip = false) (hw : X.link.outcomeWaits = false) (hf : f P = X) :
    RunsPortal p c s fun Q => ∃ b, (X.ob.lclrCount = false → b = false) ∧ UpToFrames { X with ob := { X.ob with lclrCount := b } } Q := by
  refine ⟨_, hexec, onPortal_frame s p f, ?_⟩
  subst hP
  obtain ⟨b, hwatch, hb⟩ := lclrWatch_eq X p
  rw [onPortal_run hp, State.setPortal_portals, Four.get_set, hf, followUp_watch hc hw, hwatch]
  exact ⟨b, hb, .reported ..⟩

/-- In low-rate mode no input is filtered. -/
theorem runs_inputSample_lowRate (hP : s.portals.get p = P) (hc : P.calm) (hl : P.link.lowRate = true) :
    RunsPortal p (.inputSample p ⟨raw, low, false⟩) s fun Q => LandKept P s.clock low Q.ob ∧ UpToFrames { P with ob := Q.ob } Q := by
  obtain ⟨hpor, htrip, hwaits, hcount⟩ := hc
  obtain ⟨o, ho, hkept⟩ := lclrLand_spec hcount s.clock p low
  have hf : P.sampleLands s.clock p ⟨raw, low, false⟩ = { P with ob := o } := by
    rw [sampleLands_code hpor, inputSample_lowRate (by rw [ho]; exact hl), ho]
  refine (runs_watched (exec_inputSample ..) hP hpor (X := { P with ob := o }) htrip hwaits hf).mono fun Q ⟨b, hb, hQ⟩ => ?_
  have hob : Q.ob = { o with lclrCount := b } := (congrArg PortalState.ob hQ.1 :)
  rw [hob]
  exact ⟨hkept b hb, hQ⟩

/-- The sample, and the outputs that follow it, beside the obstacle block. -/
theorem sampleLands_events (hp : P.por = false) (hl : P.link.lowRate = false) {ck : Nat} {o : ObState} (ho : P.lclrLand ck p low = { P with ob := o }) :
    ∃ i a t, UpToEvents { P.filterSample raw with ob := o, isoSplitAt := i, agreeAt := a, sos := t } (P.sampleLands ck p ⟨raw, low, false⟩) ∧
      OutputsFollow (P.filterSample raw) { P.filterSample raw with ob := o, isoSplitAt := i, agreeAt := a, sos := t } := by
  have hsample : ({ P with ob := o } : PortalState).filterSample raw = { P.filterSample raw with ob := o } := by
    rw [filterSample_eq, filterSample_eq]
    rfl
  obtain ⟨i, a, t, hset, hfollow⟩ := trackRoles_soRefreshAll { P.filterSample raw with ob := o } ck
  refine ⟨i, a, t, ?_, hfollow⟩
  rw [sampleLands_code hp, inputSample_eq (by rw [ho]; exact hl), ho, hsample, ← hset]
  exact inputsChanged_events ..

/-- A sample that is filtered. -/
theorem runs_inputSample (hP : s.portals.get p = P) (hc : P.calm) (hl : P.link.lowRate = false) :
    RunsPortal p (.inputSample p ⟨raw, low, false⟩) s fun Q => LandKept P s.clock low Q.ob ∧ InputsFollowed { P.filterSample raw with ob := Q.ob } Q := by
  obtain ⟨hpor, htrip, hwaits, hcount⟩ := hc
  obtain ⟨o, ho, hkept⟩ := lclrLand_spec hcount s.clock p low
  obtain ⟨i, a, t, hevents, hfollow⟩ := sampleLands_events (raw := raw) hpor hl ho
  have hexec := exec_inputSample p ⟨raw, low, false⟩ s
  generalize hX : P.sampleLands s.clock p ⟨raw, low, false⟩ = X at hevents
  rw [filterSample_eq] at hevents
  have hcls : X.cls = P.cls := (congrArg PortalState.cls hevents.1 :)
  have haxes : X.axes = P.axes := (congrArg PortalState.axes hevents.1 :)
  have hout : X.link.outcomeWaits = P.link.outcomeWaits := (congrArg (fun Y : PortalState => Y.link.outcomeWaits) hevents.1 :)
  have hXob : X.ob = o := (congrArg PortalState.ob hevents.1 :)
  rw [← filterSample_eq] at hevents
  refine (runs_watched hexec hP hpor (by rwa [hcls, haxes]) (hout.trans hwaits) hX).mono fun Q ⟨b, hb, hQ⟩ => ?_
  rw [hXob] at hb hQ
  have hob : Q.ob = { o with lclrCount := b } := (congrArg PortalState.ob hQ.1 :)
  rw [hob]
  exact ⟨hkept b hb, .of_events ((hevents.setOb _).trans_frames hQ) (hfollow.setOb _)⟩

end

end Sys2Proof.Machine
end

section
/-! Open wire, over-temperature and sink currents of the inputs, and the obligation on inputs and switches (R339 to R349). -/

namespace Sys2Proof.Machine

section
variable {s : State} {p : PortalId} {P : PortalState} {n : Fin 16}

theorem exec_openWireSet (p : PortalId) (n : Fin 16) (s : State) :
    exec (.openWireSet p n) s = portalOnly s p fun P => P.openWireSet s.clock n := rfl

theorem exec_openWireClear (p : PortalId) (n : Fin 16) (s : State) :
    exec (.openWireClear p n) s = portalOnly s p fun P => P.openWireClear s.clock n := rfl

theorem exec_inputOvertemp (p : PortalId) (n : Fin 16) (s : State) :
    exec (.inputOvertemp p n) s = portalOnly s p fun P => P.inputHot s.clock n := rfl

theorem exec_inputOvertempEnd (p : PortalId) (n : Fin 16) (s : State) :
    exec (.inputOvertempEnd p n) s = portalOnly s p fun P => P.inputCool s.clock n := rfl

theorem exec_inputCurrentMeasure (p : PortalId) (i : Sixteen Half) (s : State) :
    exec (.inputCurrentMeasure p i) s = portalOnly s p fun P => { P with inputs := { P.inputs with current := i } } := rfl

/-- Open wire on a channel: the report, its flag, and the withdrawal of the proof (R339). -/
theorem openWireSet_reports (hp : P.por = false) (hi : P.hasInputs = true) (he : (P.inputCfg n.val).owEn = true) (hf : wbit P.filtered n.val = false)
    (hw : wbit P.inputs.ow n.val = false) (ck : Nat) : P.openWireSet ck n = ({ P with
      inputs := { P.inputs with ow := putBit P.inputs.ow n.val true, evt := raise P.inputs.evt n.val }
      proven := putBit P.proven n.val false, openHalf := putBit P.openHalf n.val false } : PortalState).inputsChanged ck (P.signalWord 0) false :=
  if_neg (by simp [hp, hi, he, hf, hw])

theorem openWireSet_idle (h : P.hasInputs = false ∨ (P.inputCfg n.val).owEn = false ∨ wbit P.filtered n.val = true ∨ wbit P.inputs.ow n.val = true)
    (ck : Nat) : P.openWireSet ck n = P := by
  refine if_pos ?_
  obtain h | h | h | h := h <;> simp [h]

theorem inputHot_reports (hp : P.por = false) (ck : Nat) : ∃ b, P.inputHot ck n = ({ P with
    inputs := { P.inputs with ot := putBit P.inputs.ot n.val true, evt := raise P.inputs.evt (16 + n.val) }
    proven := putBit P.proven n.val false, openHalf := putBit P.openHalf n.val false } : PortalState).inputsChanged ck (P.signalWord 0) b :=
  ⟨_, if_neg (by simp [hp])⟩

/-- A channel whose sink is at its limit reads open (R340). -/
theorem closed_of_ot {Q : PortalState} (h : wbit Q.inputs.ot n.val = true) : Q.closed n.val = false := by
  have how : wbit Q.openWire n.val = true := by
    unfold PortalState.openWire
    rw [wbit, BitVec.getLsbD_or, ← wbit, ← wbit, h, Bool.or_true]
  simp [PortalState.closed, how]

theorem runs_inputOvertemp (hP : s.portals.get p = P) (hc : P.calm) :
    RunsPortal p (.inputOvertemp p n) s fun Q => UpToEvents { P with
      inputs := { P.inputs with ot := putBit P.inputs.ot n.val true, evt := raise P.inputs.evt (16 + n.val) }
      proven := putBit P.proven n.val false, openHalf := putBit P.openHalf n.val false, isoSplitAt := Q.isoSplitAt, agreeAt := Q.agreeAt
      sos := Q.sos } Q ∧ Q.closed n.val = false := by
  obtain ⟨b, hf⟩ := inputHot_reports (n := n) hc.1 s.clock
  refine (runs_inputs_events (exec_inputOvertemp p n s) hP hc.1 (by exact hc) hf).mono fun Q ⟨hQ, _⟩ => ⟨hQ, closed_of_ot ?_⟩
  have hot : Q.inputs.ot = putBit P.inputs.ot n.val true := (congrArg (fun X : PortalState => X.inputs.ot) hQ.1 :)
  rw [hot, wbit_putBit, if_pos ⟨rfl, n.isLt⟩]

theorem openWireClear_eq (P : PortalState) (ck : Nat) (n : Fin 16) : P.openWireClear ck n =
    ({ P with inputs := { P.inputs with ow := putBit P.inputs.ow n.val false } } : PortalState).inputsChanged ck (P.signalWord 0) false := rfl

theorem inputCool_eq (P : PortalState) (ck : Nat) (n : Fin 16) : ∃ b, P.inputCool ck n =
    ({ P with inputs := { P.inputs with ot := putBit P.inputs.ot n.val false } } : PortalState).inputsChanged ck (P.signalWord 0) b := ⟨_, rfl⟩

theorem runs_inputOvertempEnd (hP : s.portals.get p = P) (hc : P.calm) :
    RunsPortal p (.inputOvertempEnd p n) s fun Q => UpToEvents { P with
      inputs := { P.inputs with ot := putBit P.inputs.ot n.val false }, isoSplitAt := Q.isoSplitAt, agreeAt := Q.agreeAt, sos := Q.sos } Q := by
  obtain ⟨b, hf⟩ := inputCool_eq P s.clock n
  exact (runs_inputs_events (exec_inputOvertempEnd p n s) hP hc.1 (by exact hc) hf).mono fun _ h => h.1

theorem runs_openWireClear (hP : s.portals.get p = P) (hc : P.calm) :
    RunsPortal p (.openWireClear p n) s fun Q => UpToFrames { P with
      inputs := { P.inputs with ow := putBit P.inputs.ow n.val false }, isoSplitAt := Q.isoSplitAt, agreeAt := Q.agreeAt, sos := Q.sos } Q :=
  (runs_inputs (exec_openWireClear p n s) hP hc.1 (by exact hc) (openWireClear_eq P s.clock n)).mono fun _ h => h.1

end

/-- Settles O57, command by command: the inputs through what their change brings, the switches through what each operation makes of its channel, and the
conduction budget through the choice of the channel that is shed. -/
theorem portalInputsAndSwitches : Obligations.PortalInputsAndSwitches := by
  refine ⟨fun s p P hP hc => ⟨fun raw low => runs_inputSample_nonCode hP hc raw low, fun raw low => ?_,
      fun raw low hl => (runs_inputSample_lowRate hP hc hl).mono fun _ h => h.2, fun raw low hl => ?_, fun n hi he hf hw => ?_,
      fun n h => .of_idle (exec_openWireSet p n s) hP hc (openWireSet_idle h s.clock), fun n => runs_openWireClear hP hc,
      fun n => runs_inputOvertemp hP hc, fun n => runs_inputOvertempEnd hP hc,
      fun i => .of_calm (exec_inputCurrentMeasure p i s) hP hc.1 (by exact hc) fun _ h => h⟩,
    fun s p P n w hP hc hw => ?_, fun s p P loss current hP hc => ?_, fun s p P hP hc => ⟨fun hl => ?_, fun n l w hl hw => ?_⟩⟩
  · cases hl : P.link.lowRate with
    | true => exact (runs_inputSample_lowRate hP hc hl).mono fun _ h => h.1
    | false => exact (runs_inputSample hP hc hl).mono fun _ h => h.1
  · refine (runs_inputSample hP hc hl).mono fun Q ⟨_, hQ, hsame, hon⟩ => ?_
    have hin : Q.inputs = (P.filterSample raw).inputs := (congrArg PortalState.inputs hQ.1 :)
    have hproven : Q.proven = (P.filterSample raw).proven := (congrArg PortalState.proven hQ.1 :)
    have hopen : Q.openHalf = (P.filterSample raw).openHalf := (congrArg PortalState.openHalf hQ.1 :)
    have hfiltered : Q.filtered = (P.filterSample raw).filtered := filtered_congr (by rw [hin])
    have hsos : (P.filterSample raw).sos = P.sos := by rw [filterSample_other]
    rw [hin, hproven, hopen, hfiltered]
    refine ⟨?_, fun n => ?_, filterSample_inputs P raw, fun h => filterSample_paused h raw, fun h => filterSample_counts h raw, fun o => ?_⟩
    · rw [filterSample_other] at hQ
      exact hQ
    · rw [filterSample_filters]
      exact Sixteen.get_mapIdx ..
    · obtain ⟨hperm, hdem, hfault⟩ := hsame o
      rw [← hsos]
      exact ⟨hon o, hperm, hdem, hfault⟩
  · have hset := openWireSet_reports hc.1 hi he hf hw s.clock
    exact (runs_inputs (exec_openWireSet p n s) hP hc.1 (by exact hc) hset).mono fun Q ⟨hQ, _, hon⟩ => ⟨hQ, hon⟩
  · subst hw
    intro off retried
    refine ⟨fun hon he => ?_, fun h => ?_, fun he hr => ?_, fun h => ?_, fun rose h => ?_, fun rose h => ?_, fun rose hu => ?_, fun rose hu hon he => ?_,
      fun rose hu hon he => ?_, fun rose hu he => ?_, fun hr => ?_, fun r hr hd => ?_, fun hr hot => ?_, fun r hot hr h => ?_, fun r hr hd h => ?_,
      fun r hr hh hn ht => ?_, fun r hr hd hh hn ht => ?_, fun rose h => ?_, fun rose h => ?_, ?_, ?_⟩
    · exact (runs_modSw (exec_switchEpisodeStart p n s) hP hc rfl rfl).mono fun Q ⟨honly, hself⟩ =>
        ⟨honly, hself.trans (SwitchState.episodeStart_begins hon he)⟩
    · exact runs_modSw_idle (exec_switchEpisodeStart p n s) hP hc rfl rfl (SwitchState.episodeStart_idle h)
    · exact runs_switch_idle (exec_switchEpisodeSuccess p n s) hP hc rfl rfl (SwitchState.episodeWon_idle he hr)
    · refine (runs_switch (exec_switchEpisodeSuccess p n s) hP hc rfl rfl).mono fun Q ⟨⟨honly, hself⟩, hnear⟩ => ?_
      rw [SwitchState.episodeWon_ends h] at hself hnear
      refine ⟨honly, hself, fun hin k hk r hr hd => ?_⟩
      rw [hnear hin rfl k hk]
      simp [SwitchState.heldBack, hr, hd]
    · exact runs_switch_idle (exec_switchTepExpire p n rose s) hP hc rfl rfl (SwitchState.tepOver_idle h)
    · exact runs_tepExpire_ends hP hc rfl h
    · exact .of_idle (exec_switchJunctionOvertemp p n rose s) hP hc (if_pos (by simp [hu]))
    · exact (runs_junctionOvertemp hP hc rfl hu).mono fun Q ⟨honly, hself⟩ => ⟨honly, hself.trans (hotOver_on hon he)⟩
    · exact (runs_junctionOvertemp hP hc rfl hu).mono fun Q ⟨honly, hself⟩ => ⟨honly, hself.trans (hotOver_off hon he)⟩
    · exact (runs_junctionOvertemp hP hc rfl hu).mono fun Q ⟨honly, hself⟩ => ⟨honly, _, hself, hotOver_outcome he⟩
    · exact .of_idle (exec_switchJunctionCooled p n s) hP hc (junctionCool_none hr)
    · exact runs_modSw (g := fun w => { w with retry := some { r with hot := false } }) (exec_switchJunctionCooled p n s) hP hc rfl
        (junctionCool_early s.clock hr hd)
    · exact .of_idle (exec_switchRetryDue p n hot s) hP hc (tryRetry_none hr)
    · exact runs_retry_waits ⟨_, exec_switchRetryDue p n hot s, rfl⟩ hP hc rfl hr h
    · have hwaits := runs_retry_waits (hot := false) ⟨_, exec_switchJunctionCooled p n s, junctionCool_due s.clock hr hd⟩ hP hc rfl hr (.inr h)
      rwa [← hd] at hwaits
    · exact runs_retry_starts ⟨_, exec_switchRetryDue p n false s, rfl⟩ hP hc rfl hr hh hn ht
    · exact runs_retry_starts ⟨_, exec_switchJunctionCooled p n s, junctionCool_due s.clock hr hd⟩ hP hc rfl hr hh hn ht
    · exact runs_switch_idle (exec_shortRetryEnd p n rose s) hP hc rfl rfl (if_neg (by simp [h]))
    · refine (runs_switch (exec_shortRetryEnd p n rose s) hP hc rfl rfl).mono fun Q ⟨⟨honly, hself⟩, _⟩ => ⟨honly, hself.trans ?_⟩
      exact (if_pos h).trans (SwitchState.shortRetryOver_eq ..)
    · exact runs_modSw (exec_switchOlOffTimer p n s) hP hc rfl rfl
    · exact runs_modSw (exec_switchUcTimer p n s) hP hc rfl rfl
  · intro est prio
    refine ⟨fun hle => ?_, fun hlt hnone => ?_, fun n hlt hon hq hmax => ?_⟩
    · exact runs_budget_keeps hP hc ((budget_eq hc.1).trans (if_pos hle))
    · refine runs_budget_keeps hP hc ((budget_eq hc.1).trans ((if_neg (Nat.not_le.2 hlt)).trans ?_))
      rw [shedNext_none fun k => by rw [metered_get]; exact hnone k]
    · refine runs_budget_sheds hP hc ((budget_eq hc.1).trans ((if_neg (Nat.not_le.2 hlt)).trans ?_))
      rw [shedNext_some (P := P.metered loss current) (by rw [metered_get]; exact hon) hq fun k => by rw [metered_get]; exact hmax k]
  · exact runs_budgetRestore hP hc.1 hc (by simp [PortalState.budgetRestore, hl])
  · subst hw
    refine ⟨fun hwant => ?_, fun hwant h => ?_, fun hwant hh h => ?_⟩
    · exact runs_budgetRestore hP hc.1 (by exact hc) (budgetRestore_drops hl hwant)
    · exact runs_budgetRestore hP hc.1 hc (budgetRestore_waits hl hwant h)
    · exact runs_budgetRestore hP hc.1 (by exact hc) (budgetRestore_restores hl hc.1 hwant hh h)

end Sys2Proof.Machine
end

section
/-! What every command leaves of the configuration flash and of the eMMC medium (R104, R452, R453, R468): most functions of the model leave both
memories as they are, and the few that write or erase do so by `memPut` and `memErase`, which keep the canonical form. -/

namespace Sys2Proof.Machine

/-- The two memories of `t` are those of `s`. -/
@[simp] abbrev SameMemories (s t : State) : Prop := t.harn.flash = s.harn.flash ∧ t.arch.medium = s.arch.medium

namespace SameMemories

variable {s t u : State}

theorem refl (s : State) : SameMemories s s := ⟨rfl, rfl⟩

theorem trans (h : SameMemories s t) (g : SameMemories t u) : SameMemories s u := ⟨g.1.trans h.1, g.2.trans h.2⟩

@[simp] theorem foldl {α : Type} {f : State → α → State} (h : ∀ s a, SameMemories s (f s a)) (l : List α) (s : State) :
    SameMemories s (l.foldl f s) := by
  induction l generalizing s with
  | nil => exact .refl s
  | cons a r ih => exact (h s a).trans (ih _)

theorem of_traffic (h : Traffic s t) : SameMemories s t := by
  rw [h]
  exact ⟨rfl, rfl⟩

theorem of_linksOnly (h : LinksOnly s t) : SameMemories s t := by
  rw [h]
  exact ⟨rfl, rfl⟩

theorem wf (h : SameMemories s t) (hs : s.MemoriesWf) : t.MemoriesWf := by
  obtain ⟨hflash, hmedium⟩ := h
  unfold State.MemoriesWf
  rwa [hflash, hmedium]

end SameMemories

@[simp] theorem memories_ite (c : Prop) [Decidable c] (s t : State) :
    (if c then s else t).harn.flash = (if c then s.harn.flash else t.harn.flash) ∧
    (if c then s else t).arch.medium = (if c then s.arch.medium else t.arch.medium) := by
  split <;> simp

@[simp] theorem medium_ite (c : Prop) [Decidable c] (a b : ArchState) : (if c then a else b).medium = (if c then a.medium else b.medium) :=
  apply_ite ..

@[simp] theorem flash_ite (c : Prop) [Decidable c] (h k : HarnState) : (if c then h else k).flash = (if c then h.flash else k.flash) :=
  apply_ite ..

/-! ### The state's parts -/

@[simp] theorem drawn_memories (s : State) : SameMemories s s.drawn := by simp [State.drawn]

@[simp] theorem onPortal_memories (s : State) (p : PortalId) (f : PortalState → PortalState) : SameMemories s (s.onPortal p f) := by
  simp [State.onPortal]

@[simp] theorem SameMemories.eachPortal {f : State → PortalId → State} (h : ∀ s p, SameMemories s (f s p)) (s : State) :
    SameMemories s (s.eachPortal f) :=
  .foldl h _ s

@[simp] theorem answerState_memories (s : State) (reason : Nat) : SameMemories s (s.answerState reason) := by fun_cases State.answerState <;> simp

/-! ### The change log, staging and the archive -/

@[simp] theorem form_medium (a : ArchState) : a.form.medium = a.medium := by simp [ArchState.form]

@[simp] theorem enqueue_medium (a : ArchState) (o : EmmcOp) : (a.enqueue o).medium = a.medium := by simp [ArchState.enqueue]

@[simp] theorem checkStripe_medium (a : ArchState) (log : Bool) : (a.checkStripe log).medium = a.medium := by simp [ArchState.checkStripe]

@[simp] theorem room_medium (a : ArchState) : a.room.medium = a.medium := by fun_cases ArchState.room <;> simp

@[simp] theorem stageHeld_medium (a : ArchState) (body : List Byte) (held : Bool) : (a.stageHeld body held).medium = a.medium := by
  simp [ArchState.stageHeld]

@[simp] theorem stage_medium (a : ArchState) (body : List Byte) : (a.stage body).medium = a.medium := by simp [ArchState.stage]

@[simp] theorem stageRecord_memories (s : State) (body : List Byte) : SameMemories s (s.stageRecord body) := by simp [State.stageRecord]

@[simp] theorem archEvent_memories (s : State) (event : Nat) : SameMemories s (s.archEvent event) := by simp [State.archEvent]

@[simp] theorem logEntry_memories (s : State) (tool tag oldCrc newCrc : Word) (result source : Nat) :
    SameMemories s (s.logEntry tool tag oldCrc newCrc result source) := by
  simp [State.logEntry]

@[simp] theorem logFrom_memories (s : State) (tag oldCrc newCrc : Word) (result source : Nat) :
    SameMemories s (s.logFrom tag oldCrc newCrc result source) := by
  simp [State.logFrom]

theorem put_wf {a : ArchState} (h : cellsWf 0 a.medium = true) (at_ : Nat) (b : List Byte) : cellsWf 0 (a.put at_ b).medium = true :=
  memPut_wf b at_ (memErase_wf at_ b.length h)

theorem writeStripe_wf {a : ArchState} (h : cellsWf 0 a.medium = true) (r : StripeRegion) (n : Nat) (d : List Byte) :
    cellsWf 0 (a.writeStripe r n d).medium = true :=
  put_wf h ..

@[simp] theorem noteRead_medium (a : ArchState) (corrected : Nat) (lost : Bool) : (a.noteRead corrected lost).medium = a.medium := by
  simp [ArchState.noteRead]

@[simp] theorem setRing_medium (a : ArchState) (log : Bool) (l : List Staged) : (a.setRing log l).medium = a.medium := by simp [ArchState.setRing]

@[simp] theorem markDurable_medium (a : ArchState) (log : Bool) (lo hi : Nat) : (a.markDurable log lo hi).medium = a.medium := by
  simp [ArchState.markDurable]

theorem journalDone_wf {a : ArchState} (h : cellsWf 0 a.medium = true) (log : Bool) : cellsWf 0 (a.journalDone log).medium = true := by
  unfold ArchState.journalDone
  dsimp only
  rw [markDurable_medium]
  exact put_wf h ..

theorem stripeDone_wf {a : ArchState} (h : cellsWf 0 a.medium = true) (log : Bool) : cellsWf 0 (a.stripeDone log).medium = true := by
  unfold ArchState.stripeDone
  split
  · exact h
  · exact writeStripe_wf h ..

theorem putSuperblock_wf {a : ArchState} (h : cellsWf 0 a.medium = true) (b : Superblock) : cellsWf 0 (a.putSuperblock b).medium = true := by
  unfold ArchState.putSuperblock
  dsimp only
  rw [markDurable_medium, markDurable_medium]
  exact put_wf h ..

@[simp] theorem countMirror_memories (s : State) : SameMemories s s.countMirror := by simp [State.countMirror]

theorem writeStripes_wf (r : StripeRegion) (first : Nat) (stream : List Byte) (l : List Nat) {a : ArchState} (h : cellsWf 0 a.medium = true) :
    cellsWf 0 (l.foldl (fun b i => b.writeStripe r (first + i) (slice stream (8192 * i) 8192)) a).medium = true := by
  induction l generalizing a with
  | nil => exact h
  | cons i l ih => exact ih (writeStripe_wf h ..)

theorem traced_wf {s : State} (h : s.MemoriesWf) {b : ArchState} (hb : cellsWf 0 b.medium = true)
    (q : AcqState) (l : List TraceEntry) (c : Superblock) :
    ({ s with acq := q, arch := { b with traces := l, sb := c } } : State).MemoriesWf :=
  ⟨h.1, hb⟩

theorem traceDone_wf {s : State} (h : s.MemoriesWf) : s.traceDone.MemoriesWf := by
  unfold State.traceDone
  split
  · exact h
  · dsimp only
    split
    · exact h
    · exact traced_wf h (writeStripes_wf _ _ _ _ (a := { s.arch with traceJob := none }) h.2) ..

@[simp] theorem traceCopy_memories (s : State) (g : Fin 16) (slot : Nat) : SameMemories s (s.traceCopy g slot) := by
  fun_cases State.traceCopy <;> simp

@[simp] theorem nextTrace_memories (s : State) : SameMemories s s.nextTrace := by fun_cases State.nextTrace <;> simp

@[simp] theorem traceFlush_memories (s : State) : SameMemories s s.traceFlush := by fun_cases State.traceFlush <;> simp

@[simp] theorem renumber_medium (a : ArchState) (base : Nat) (prev : Word) (off : Four Word) : (a.renumber base prev off).medium = a.medium := by
  simp [ArchState.renumber]

@[simp] theorem renumberLogs_medium (a : ArchState) (base : Nat) (off : Half) : (a.renumberLogs base off).medium = a.medium := by
  simp [ArchState.renumberLogs]

theorem takeNumbers_wf {s : State} (h : s.MemoriesWf) : s.takeNumbers.MemoriesWf := by
  obtain ⟨hflash, hmedium⟩ := h
  unfold State.takeNumbers
  extract_lets a jr jl endOf cyc seqBase base logBase prev b c d e
  have hc : cellsWf 0 c.medium = true := by simpa [c, b] using hmedium
  have hd : cellsWf 0 d.medium = true := by
    dsimp only [d]
    split
    · exact hc
    · exact writeStripe_wf hc ..
  have he : cellsWf 0 e.medium = true := by
    dsimp only [e]
    split
    · exact hd
    · exact writeStripe_wf hd ..
  exact ⟨hflash, he⟩

theorem format_wf {s : State} (h : s.MemoriesWf) : s.format.MemoriesWf := by
  refine ⟨h.1, ?_⟩
  unfold State.format
  dsimp only
  rw [checkStripe_medium, checkStripe_medium, renumberLogs_medium, renumber_medium]
  dsimp only
  exact memPut_wf _ _ rfl

@[simp] theorem startInit_medium (a : ArchState) : a.startInit.medium = a.medium := by simp [ArchState.startInit]

@[simp] theorem cmdDone_medium (a : ArchState) (ok : Bool) : (a.cmdDone ok).medium = a.medium := by simp [ArchState.cmdDone]

@[simp] theorem noMedium_medium (a : ArchState) (media : Nat) : (a.noMedium media).medium = a.medium := by simp [ArchState.noMedium]

@[simp] theorem giveUp_medium (a : ArchState) : a.giveUp.medium = a.medium := by simp [ArchState.giveUp]

@[simp] theorem ready_medium (a : ArchState) : a.ready.medium = a.medium := by
  simp [ArchState.ready]
  split <;> simp

theorem initDone_wf {s : State} (h : s.MemoriesWf) (i : EmmcInfo) : (s.initDone i).MemoriesWf := by
  unfold State.initDone
  extract_lets m clip eol evt src a made reinit
  have ha : ({ s with arch := a } : State).MemoriesWf := h
  clear_value a
  split
  · exact SameMemories.wf (by simp) ha
  · split
    next b _ =>
      dsimp only
      split
      · exact SameMemories.wf (s := { s with arch := a }) (by simp [*]) ha
      · simp [State.MemoriesWf]
        exact takeNumbers_wf ha
    next =>
      split
      · exact SameMemories.wf (by simp [made]) (format_wf ha)
      · exact SameMemories.wf (by simp) ha

@[simp] theorem nextOp_medium (a : ArchState) : a.nextOp.medium = a.medium := by
  unfold ArchState.nextOp
  split
  · rfl
  · dsimp only
    split <;> simp
  · rfl

theorem emmcDone_wf {s : State} (h : s.MemoriesWf) (i : EmmcInfo) : (s.emmcDone i).MemoriesWf := by
  unfold State.emmcDone
  extract_lets src ok t
  have hok : ({ s with arch := ok } : State).MemoriesWf := h
  clear_value ok
  split
  · exact h
  · exact initDone_wf h i
  next log _ => exact SameMemories.wf (s := { s with arch := ok.journalDone log }) (by simp) ⟨h.1, journalDone_wf hok.2 log⟩
  next log _ => exact SameMemories.wf (s := { s with arch := ok.stripeDone log }) (by simp) ⟨h.1, stripeDone_wf hok.2 log⟩
  · exact SameMemories.wf (s := { s with arch := ok.putSuperblock s.newSuperblock }) (by simp) ⟨h.1, putSuperblock_wf hok.2 _⟩
  · exact SameMemories.wf (by simp [t]) (traceDone_wf hok)
  · exact SameMemories.wf (by simp) hok

@[simp] theorem emmcFail_memories (s : State) : SameMemories s s.emmcFail := by simp [State.emmcFail]

@[simp] theorem emmcAbsent_memories (s : State) : SameMemories s s.emmcAbsent := by simp [State.emmcAbsent]

@[simp] theorem journalDue_memories (s : State) (log : Bool) : SameMemories s (s.journalDue log) := by simp [State.journalDue]

@[simp] theorem flushNow_medium (a : ArchState) : a.flushNow.medium = a.medium := by simp [ArchState.flushNow]

@[simp] theorem flushArchive_memories (s : State) : SameMemories s s.flushArchive := by simp [State.flushArchive]

theorem puts_wf {α : Type} (n : α → Nat) (d : α → List Byte) (l : List α) {a : ArchState} (h : cellsWf 0 a.medium = true) :
    cellsWf 0 (l.foldl (fun b i => b.put (n i) (d i)) a).medium = true := by
  induction l generalizing a with
  | nil => exact h
  | cons i l ih => exact ih (put_wf h ..)

theorem scrubRead_wf {s : State} (h : s.MemoriesWf) (erased : List Nat) : (s.scrubRead erased).MemoriesWf := by
  unfold State.scrubRead
  dsimp only
  split
  · exact h
  · split
    · split <;> exact h
    · split
      · exact SameMemories.wf (by simp) h
      · split
        · exact h
        · exact ⟨h.1, puts_wf _ _ _ h.2⟩
        · exact SameMemories.wf (by simp) h

@[simp] theorem cmdErr_medium (a : ArchState) (why : Nat) : (a.cmdErr why).medium = a.medium := by simp [ArchState.cmdErr]

@[simp] theorem cmdOk_medium (a : ArchState) : a.cmdOk.medium = a.medium := by simp [ArchState.cmdOk]

@[simp] theorem cmdBusy_medium (a : ArchState) : a.cmdBusy.medium = a.medium := by simp [ArchState.cmdBusy]

theorem cmd_medium {f : ArchState → ArchState} (hf : ∀ a, (f a).medium = a.medium) (a : ArchState) (key : Byte) :
    (a.cmd key f).medium = a.medium := by
  simp [ArchState.cmd, hf]

@[simp] theorem cmdFlush_medium (a : ArchState) : a.cmdFlush.medium = a.medium := by simp [ArchState.cmdFlush]

@[simp] theorem cmdScrub_medium (a : ArchState) : a.cmdScrub.medium = a.medium := by simp [ArchState.cmdScrub]

@[simp] theorem cmdReinit_medium (a : ArchState) : a.cmdReinit.medium = a.medium := by simp [ArchState.cmdReinit]

theorem cmdFormat_wf {s : State} (h : s.MemoriesWf) (key : Byte) : (s.cmdFormat key).MemoriesWf := by
  unfold State.cmdFormat
  extract_lets a formatted
  split_ifs
  case neg => exact SameMemories.wf (by simp [formatted]) (format_wf h)
  all_goals exact SameMemories.wf (by simp [a]) h

@[simp] theorem cmdLoad_medium (a : ArchState) : a.cmdLoad.medium = a.medium := by fun_cases ArchState.cmdLoad <;> simp

@[simp] theorem cmdFind_medium (a : ArchState) (tsel : BitVec 2) : (a.cmdFind tsel).medium = a.medium := by fun_cases ArchState.cmdFind <;> simp

@[simp] theorem passRef_medium (a : ArchState) (p : PortalId) (cycle : Word) (sq : Option Word) : (a.passRef p cycle sq).medium = a.medium := by
  simp [ArchState.passRef]

/-! ### The host side of the girth links -/

@[simp] theorem portalFrame_memories (s : State) (p : PortalId) (f : LinkFrame) : SameMemories s (s.portalFrame p f) := by simp [State.portalFrame]

@[simp] theorem hostFrame_memories (s : State) (p : PortalId) (f : LinkFrame) : SameMemories s (s.hostFrame p f) := by simp [State.hostFrame]

@[simp] theorem ack_memories (s : State) (p : PortalId) : SameMemories s (s.ack p) := by simp [State.ack]

@[simp] theorem download_memories (s : State) (p : PortalId) : SameMemories s (s.download p) := by simp [State.download]

@[simp] theorem bootLinkUp_memories (s : State) (p : PortalId) : SameMemories s (s.bootLinkUp p) := by simp [State.bootLinkUp]

@[simp] theorem linkRunning_memories (s : State) (p : PortalId) : SameMemories s (s.linkRunning p) := by simp [State.linkRunning]

@[simp] theorem sendTest_memories (s : State) (p : PortalId) : SameMemories s (s.sendTest p) := by
  simp [State.sendTest]

@[simp] theorem downloadDone_memories (s : State) (p : PortalId) : SameMemories s (s.downloadDone p) := by simp [State.downloadDone]

@[simp] theorem downloadAnswer_memories (s : State) (p : PortalId) (req ans : ConfigFrame) : SameMemories s (s.downloadAnswer p req ans) := by
  simp [State.downloadAnswer]

@[simp] theorem ucrcAnswer_memories (s : State) (p : PortalId) (ans : ConfigFrame) : SameMemories s (s.ucrcAnswer p ans) := by simp [State.ucrcAnswer]

@[simp] theorem ackAnswer_memories (s : State) (p : PortalId) (ans : ConfigFrame) : SameMemories s (s.ackAnswer p ans) := by simp [State.ackAnswer]

@[simp] theorem sendStream_memories (s : State) (p : PortalId) : SameMemories s (s.sendStream p) := by simp [State.sendStream]

@[simp] theorem configAnswered_memories (s : State) (p : PortalId) (u : ConfigUse) (req ans : ConfigFrame) :
    SameMemories s (s.configAnswered p u req ans) := by
  fun_cases State.configAnswered <;> simp

@[simp] theorem train_memories (s : State) (p : PortalId) : SameMemories s (s.train p) := by simp [State.train]

@[simp] theorem trainAll_memories (s : State) : SameMemories s s.trainAll := by simp [State.trainAll, SameMemories.eachPortal]

@[simp] theorem rejoin_memories (s : State) (p : PortalId) : SameMemories s (s.rejoin p) := by simp [State.rejoin]

@[simp] theorem laneLockedHost_memories (s : State) (p : PortalId) (lane : Fin 2) : SameMemories s (s.laneLockedHost p lane) := by
  simp [State.laneLockedHost]

@[simp] theorem laneLockedPortal_memories (s : State) (p : PortalId) (lane : Fin 2) : SameMemories s (s.laneLockedPortal p lane) := by
  simp [State.laneLockedPortal]

@[simp] theorem trainRetry_memories (s : State) (p : PortalId) (lane : Fin 2) : SameMemories s (s.trainRetry p lane) := by simp [State.trainRetry]

@[simp] theorem backgroundRetrain_memories (s : State) (p : PortalId) : SameMemories s (s.backgroundRetrain p) := by simp [State.backgroundRetrain]

@[simp] theorem hostLinkFault_memories (s : State) (p : PortalId) (why : Nat) : SameMemories s (s.hostLinkFault p why) := by
  simp [State.hostLinkFault]

@[simp] theorem stopLink_memories (s : State) (p : PortalId) (why : Nat) : SameMemories s (s.stopLink p why) := by simp [State.stopLink]

@[simp] theorem stopLinks_memories (s : State) (why : Nat) : SameMemories s (s.stopLinks why) := by
  simp [State.stopLinks, SameMemories.eachPortal]

@[simp] theorem laneDownHost_memories (s : State) (p : PortalId) (lane : Fin 2) : SameMemories s (s.laneDownHost p lane) := by
  simp [State.laneDownHost]

@[simp] theorem linkErrorHost_memories (s : State) (p : PortalId) (lane : Fin 2) (twin : Bool) : SameMemories s (s.linkErrorHost p lane twin) := by
  simp [State.linkErrorHost]

@[simp] theorem linkErrorPortal_memories (s : State) (p : PortalId) (lane : Fin 2) (twin : Bool) :
    SameMemories s (s.linkErrorPortal p lane twin) := by
  simp [State.linkErrorPortal]

@[simp] theorem silenceEnd_memories (s : State) (p : PortalId) : SameMemories s (s.silenceEnd p) := by simp [State.silenceEnd]

@[simp] theorem lowRateTimeout_memories (s : State) (p : PortalId) (side : LinkSide) : SameMemories s (s.lowRateTimeout p side) := by
  fun_cases State.lowRateTimeout <;> simp

@[simp] theorem helloDone_memories (s : State) (p : PortalId) (f : HelloFrame) : SameMemories s (s.helloDone p f) := by simp [State.helloDone]

@[simp] theorem helloHost_memories (s : State) (p : PortalId) (h : FrameHdr) (f : HelloFrame) (rtt : Two Nat) :
    SameMemories s (s.helloHost p h f rtt) := by
  simp [State.helloHost]
  split <;> simp

/-! ### The host fabric, the stitch record and SAFE -/

@[simp] theorem loadFabric_memories (s : State) : SameMemories s s.loadFabric := by simp [State.loadFabric]

@[simp] theorem tickPair_memories (s : State) (upsets : List FabricUpset) (i : PairId) : SameMemories s (s.tickPair upsets i).1 := by
  unfold State.tickPair
  dsimp only
  split
  · simp
  · split <;> simp

@[simp] theorem expireTimer_memories (s : State) (n : Nat) : SameMemories s (s.expireTimer n) := by simp [State.expireTimer]

@[simp] theorem routeTo_memories (s : State) (i : PairId) : SameMemories s (s.routeTo i) := by simp [State.routeTo]

@[simp] theorem modCycle_memories (s : State) (p : PortalId) (f : DoorCycle → DoorCycle) : SameMemories s (s.modCycle p f) := by simp [State.modCycle]

@[simp] theorem foldCycle_memories (s : State) (p : PortalId) : SameMemories s (s.foldCycle p) := by simp [State.foldCycle]

@[simp] theorem mark_memories (s : State) (m : CycleMark) : SameMemories s (s.mark m) := by simp [State.mark]

@[simp] theorem forgetTraces_memories (s : State) (p : PortalId) : SameMemories s (s.forgetTraces p) := by simp [State.forgetTraces]

@[simp] theorem openCycle_memories (s : State) (p : PortalId) : SameMemories s (s.openCycle p) := by simp [State.openCycle]

@[simp] theorem closeCycle_memories (s : State) (p : PortalId) (flags : Nat) (fault : Half) (cust : Nat) (cls : Guarded) :
    SameMemories s (s.closeCycle p flags fault cust cls) := by
  simp [State.closeCycle]
  split <;> simp

@[simp] theorem closeAllCycles_memories (s : State) (fault : Half) : SameMemories s (s.closeAllCycles fault) := by
  simp [State.closeAllCycles, SameMemories.eachPortal]

@[simp] theorem maintenance_memories (s : State) (pair cause : Nat) : SameMemories s (s.maintenance pair cause) := by simp [State.maintenance]

@[simp] theorem movePair_memories (s : State) (i : PairId) (st : PairState) : SameMemories s (s.movePair i st) := by simp [State.movePair]

@[simp] theorem stopPair_memories (s : State) (i : PairId) : SameMemories s (s.stopPair i) := by simp [State.stopPair]

@[simp] theorem stopPairs_memories (s : State) : SameMemories s s.stopPairs := by simp [State.stopPairs]

@[simp] theorem endGraft_memories (s : State) (why : Nat) : SameMemories s (s.endGraft why) := by fun_cases State.endGraft <;> simp

@[simp] theorem stopKernel_memories (s : State) : SameMemories s s.stopKernel := by simp [State.stopKernel]

@[simp] theorem preempt_memories (s : State) : SameMemories s s.preempt := by
  rw [preempt_eq]
  exact ⟨rfl, rfl⟩

@[simp] theorem noteStartUp_memories (s : State) : SameMemories s s.noteStartUp := by simp [State.noteStartUp]

@[simp] theorem enterSafe_memories (s : State) (c : SafeCause) : SameMemories s (s.enterSafe c) := by
  unfold State.enterSafe
  split
  · exact .refl s
  · exact .refl s
  · exact .refl s
  · dsimp only
    cases hg : (s.closeAllCycles (faultCode 3 (safeBit c + 1))).lock.graft <;> simp

/-! ### Redundant execution -/

@[simp] theorem countFail_memories (s : State) (i : PairId) : SameMemories s (s.countFail i) := by simp [State.countFail]

@[simp] theorem leadFailed_memories (s : State) (i : PairId) (why : Nat) : SameMemories s (s.leadFailed i why) := by simp [State.leadFailed]

@[simp] theorem declareFailed_memories (s : State) (i : PairId) (why : Nat) : SameMemories s (s.declareFailed i why) := by simp [State.declareFailed]

@[simp] theorem recordWindow_memories (s : State) (i : PairId) (window : Nat) (xor : Word) : SameMemories s (s.recordWindow i window xor) := by
  simp [State.recordWindow]

@[simp] theorem misrWindow_memories (s : State) (i : PairId) (w : MisrWindow) : SameMemories s (s.misrWindow i w) := by simp [State.misrWindow]

@[simp] theorem fabricFailed_memories (s : State) (i : PairId) : SameMemories s (s.fabricFailed i) := by simp [State.fabricFailed]

@[simp] theorem noteSwap_memories (s : State) (cause : Nat) (fromC : Bool) : SameMemories s (s.noteSwap cause fromC) := by simp [State.noteSwap]

@[simp] theorem promote_memories (s : State) : SameMemories s s.promote := by simp [State.promote]

@[simp] theorem planSwap_memories (s : State) : SameMemories s s.planSwap := by
  simp [State.planSwap]
  split <;> simp

@[simp] theorem planDeadline_memories (s : State) : SameMemories s s.planDeadline := by simp [State.planDeadline]

@[simp] theorem candidateSig_memories (s : State) (g : Graft) (x : XSig) : SameMemories s (s.candidateSig g x) := by
  simp [State.candidateSig]
  split <;> simp

@[simp] theorem shadowSig_memories (s : State) (o : PairId) (x : XSig) : SameMemories s (s.shadowSig o x) := by
  simp [State.shadowSig]
  split <;> simp

@[simp] theorem explainedNonCode_memories (s : State) : SameMemories s s.explainedNonCode := by simp [State.explainedNonCode]

@[simp] theorem explainedSig_memories (s : State) (x : XSig) : SameMemories s (s.explainedSig x) := by
  simp [State.explainedSig]
  split <;> simp

@[simp] theorem crossCompare_memories (s : State) (k : XCheck) : SameMemories s (s.crossCompare k) := by fun_cases State.crossCompare <;> simp

@[simp] theorem latent_memories (s : State) (i : PairId) (wh : Nat) : SameMemories s (s.latent i wh) := by
  simp [State.latent]
  split <;> simp

@[simp] theorem kernelDiff_memories (s : State) : SameMemories s s.kernelDiff := by fun_cases State.kernelDiff <;> simp

@[simp] theorem fingerprints_memories (s : State) (d : FpDiff) : SameMemories s (s.fingerprints d) := by simp [State.fingerprints]

@[simp] theorem lockErr_memories (s : State) (why : Nat) : SameMemories s (s.lockErr why) := by simp [State.lockErr]

@[simp] theorem lockOk_memories (s : State) : SameMemories s s.lockOk := by simp [State.lockOk]

@[simp] theorem ctlSwap_memories (s : State) (key : Byte) : SameMemories s (s.ctlSwap key) := by fun_cases State.ctlSwap <;> simp

@[simp] theorem ctlClearInfault_memories (s : State) (key : Byte) : SameMemories s (s.ctlClearInfault key) := by simp [State.ctlClearInfault]

@[simp] theorem awlRecord_memories (s : State) (i : PairId) (r : AwlRun) (ok : Bool) : SameMemories s (s.awlRecord i r ok) := by
  simp [State.awlRecord]

@[simp] theorem awlNote_memories (s : State) (p c : AwlRun) (xRan xFail : Bool) : SameMemories s (s.awlNote p c xRan xFail) := by simp [State.awlNote]

@[simp] theorem loadCores_memories (s : State) (i : PairId) : SameMemories s (s.loadCores i) := by simp [State.loadCores]

@[simp] theorem copyPair_memories (s : State) (src dst : PairId) : SameMemories s (s.copyPair src dst) := by simp [State.copyPair]

@[simp] theorem matchTo_memories (s : State) (src : Option PairId) (i : PairId) : SameMemories s (s.matchTo src i) := by
  fun_cases State.matchTo <;> simp

@[simp] theorem awlBoth_memories (s : State) (p c : AwlRun) (xFail : Bool) (prefer : Option PairId) :
    SameMemories s (s.awlBoth p c xFail prefer) := by
  simp [State.awlBoth]

@[simp] theorem pairsToTest_memories (s : State) : SameMemories s s.pairsToTest := by simp [State.pairsToTest]

@[simp] theorem pairAwl_memories (s : State) (r : AwlRun) (xFail : Bool) : SameMemories s (s.pairAwl r xFail) := by
  simp [State.pairAwl]
  split <;> simp

@[simp] theorem graftSync_memories (s : State) (clean : Bool) : SameMemories s (s.graftSync clean) := by fun_cases State.graftSync <;> simp

@[simp] theorem graftTimeout_memories (s : State) : SameMemories s s.graftTimeout := by fun_cases State.graftTimeout <;> simp

@[simp] theorem agree_memories (s : State) (dis : Two (Two (BitVec 128))) : SameMemories s (s.agree dis) := by
  unfold State.agree
  dsimp only
  split <;> exact ⟨rfl, rfl⟩

/-! ### The door kernel -/

@[simp] theorem block_memories (s : State) (p : PortalId) (why frm dest : Nat) : SameMemories s (s.block p why frm dest) := by
  obtain ⟨w, h⟩ := block_eq s p why frm dest
  rw [h]
  exact ⟨rfl, rfl⟩

@[simp] theorem seqEvt_memories (s : State) (p : PortalId) (lo : Nat) : SameMemories s (s.seqEvt p lo) := by simp [State.seqEvt]

@[simp] theorem seqTrigger_memories (s : State) (p : PortalId) (cust : Option Nat) (g : Guarded) : SameMemories s (s.seqTrigger p cust g) := by
  simp [State.seqTrigger]

@[simp] theorem putClass_memories (s : State) (p : PortalId) (g : Guarded) (cust : Option Nat) : SameMemories s (s.putClass p g cust) := by
  simp [State.putClass]

@[simp] theorem cycleAtEntry_memories (s : State) (p : PortalId) (i : Nat) (r : SeqRec) : SameMemories s (s.cycleAtEntry p i r) := by
  simp [State.cycleAtEntry]

@[simp] theorem enterCust_memories (s : State) (p : PortalId) (i : Nat) (adopted : Bool) : SameMemories s (s.enterCust p i adopted) := by
  simp [State.enterCust]

@[simp] theorem enterIsolated_memories (s : State) (p : PortalId) : SameMemories s (s.enterIsolated p) := by simp [State.enterIsolated]

@[simp] theorem enterHeld_memories (s : State) (p : PortalId) (g : Guarded) : SameMemories s (s.enterHeld p g) := by simp [State.enterHeld]

@[simp] theorem discFault_memories (s : State) (p : PortalId) : SameMemories s (s.discFault p) := by simp [State.discFault]

@[simp] theorem adopt_memories (s : State) (p : PortalId) : SameMemories s (s.adopt p) := by simp [State.adopt]

@[simp] theorem adoptReported_memories (s : State) (p : PortalId) (g : Guarded) : SameMemories s (s.adoptReported p g) := by
  simp [State.adoptReported]

theorem kernelRule_memories {s t : State} {p : PortalId} {fell rel clear : Bool} (h : s.kernelRule p fell rel clear = some t) : SameMemories s t := by
  unfold State.kernelRule at h
  extract_lets q u forced at h
  have hf : ∀ i, forced i = some t → SameMemories s t := fun i e => by
    cases e
    simp
  split_ifs at h
  any_goals exact hf _ h
  all_goals
    cases h
    simp

@[simp] theorem customerGo_memories (p : PortalId) (u : List Byte × Nat) (guard : Bool) (l : List TransRec) (s : State) :
    SameMemories s (customerGo p u guard l s) := by
  induction l generalizing s with
  | nil => exact .refl s
  | cons x r ih =>
    unfold customerGo
    split
    · exact ih s
    · dsimp only
      split
      · simp
      · exact .trans (by simp) (ih _)

@[simp] theorem customer_memories (s : State) (p : PortalId) (guard : Bool) : SameMemories s (s.customer p guard) :=
  customerGo_memories ..

@[simp] theorem outside_memories (s : State) (p : PortalId) (clear : Bool) : SameMemories s (s.outside p clear) := by simp [State.outside]

@[simp] theorem outputs_memories (s : State) (p : PortalId) (rel : Bool) : SameMemories s (s.outputs p rel) := by simp [State.outputs]

@[simp] theorem pcmdResult_memories (s : State) (c : PortalCmd) (why : Nat) : SameMemories s (s.pcmdResult c why) := by simp [State.pcmdResult]

@[simp] theorem nextPcmd_memories (s : State) : SameMemories s s.nextPcmd := by fun_cases State.nextPcmd <;> simp

@[simp] theorem queuePcmd_memories (s : State) (c : PortalCmd) : SameMemories s (s.queuePcmd c) := by simp [State.queuePcmd]

@[simp] theorem takePcmd_memories (s : State) : SameMemories s s.takePcmd.1 := by
  unfold State.takePcmd
  split
  · exact .refl s
  · dsimp only
    split
    · simp
    · split
      · simp
      · split <;> simp

@[simp] theorem evalPortal_memories (s : State) (clear : Option PortalId) (p : PortalId) : SameMemories s (s.evalPortal clear p) := by
  unfold State.evalPortal
  extract_lets s0 up lv s1 s2 q rel guard fell s3 s4 own c1 s5
  have h0 : SameMemories s s0 := ⟨rfl, rfl⟩
  have h1 : SameMemories s s1 := by
    dsimp only [s1]
    split <;> simpa using h0
  have h3 : SameMemories s s3 := by
    dsimp only [s3]
    split <;> simpa [s2] using h1
  have h4 : SameMemories s s4 := by
    dsimp only [s4]
    split
    · simpa using h3
    · exact h3
  have h5 : SameMemories s s5 := by
    dsimp only [s5]
    clear_value own s4
    split
    · split <;> simpa using h4
    · split
      · simpa using h4
      · split
        next hr => exact h4.trans (kernelRule_memories hr)
        next => split <;> simpa using h4
  split
  · simpa using h0
  · simpa using h5

@[simp] theorem trainLines_memories (s : State) : SameMemories s s.trainLines := by simp [State.trainLines]

@[simp] theorem sendCommandNow_memories (s : State) (p : PortalId) : SameMemories s (s.sendCommandNow p) :=
  .of_linksOnly (.sendCommandNow s p)

@[simp] theorem sendCommand_memories (s : State) (p : PortalId) : SameMemories s (s.sendCommand p) := by simp [State.sendCommand]

@[simp] theorem sendKeeper_memories (s : State) (p : PortalId) : SameMemories s (s.sendKeeper p) := by simp [State.sendKeeper]

@[simp] theorem burst_memories (s : State) : SameMemories s s.burst := by simp [State.burst]

@[simp] theorem evaluate_memories (s : State) (us : Byte) : SameMemories s (s.evaluate us) := by
  simp [State.evaluate]

@[simp] theorem discarded_memories (s t : State) :
    (s.discarded t).harn.flash = t.harn.flash ∧ (s.discarded t).arch.medium = s.arch.medium := ⟨rfl, rfl⟩

@[simp] theorem backFromDormant_memories (s : State) : SameMemories s s.backFromDormant := by
  unfold State.backFromDormant
  split <;> simp

@[simp] theorem cycleEnd_memories (s : State) : SameMemories s s.cycleEnd := by simp [State.cycleEnd]

@[simp] theorem boundary_memories (s : State) (k : KernelInputs) : SameMemories s (s.boundary k) := by simp [State.boundary]

@[simp] theorem cycleOver_memories (s : State) : SameMemories s s.cycleOver := by simp [State.cycleOver]

@[simp] theorem kernelCycle_memories (s : State) (k : KernelInputs) : SameMemories s (s.kernelCycle k) := by
  simp [State.kernelCycle]

@[simp] theorem stateTimeout_memories (s : State) (p : PortalId) : SameMemories s (s.stateTimeout p) := by simp [State.stateTimeout]

@[simp] theorem zsDiscrepancy_memories (s : State) : SameMemories s s.zsDiscrepancy := by simp [State.zsDiscrepancy]

@[simp] theorem roleDiscrepancy_memories (s : State) (p : PortalId) (r : Role) : SameMemories s (s.roleDiscrepancy p r) := by
  simp [State.roleDiscrepancy]

@[simp] theorem isoAgree_memories (s : State) (p : PortalId) : SameMemories s (s.isoAgree p) := by simp [State.isoAgree]

@[simp] theorem seqPcmd_memories (s : State) (key : Byte) (p : PortalId) (cmd : BitVec 4) : SameMemories s (s.seqPcmd key p cmd) := by
  simp [State.seqPcmd]

@[simp] theorem lockoutDecided_memories (s : State) (p : PortalId) (ok : Bool) (why : Nat) : SameMemories s (s.lockoutDecided p ok why) := by
  simp [State.lockoutDecided]
  split <;> simp

/-! ### Frames from the portal dies -/

theorem acceptHost_memories {s t : State} {p : PortalId} {h : FrameHdr} (ha : s.acceptHost p h = some t) : SameMemories s t := by
  unfold State.acceptHost at ha
  dsimp only at ha
  split at ha
  · cases ha
  · obtain ⟨e, -, rfl⟩ := Option.map_eq_some_iff.1 ha
    exact ⟨rfl, rfl⟩

@[simp] theorem noteProof_memories (s : State) (p : PortalId) (w7 : Word) : SameMemories s (s.noteProof p w7) := by simp [State.noteProof]

@[simp] theorem mirror_memories (s : State) (p : PortalId) (x : PortalNote) : SameMemories s (s.mirror p x) := by simp [State.mirror]

@[simp] theorem stateFrame_memories (s : State) (p : PortalId) (h : FrameHdr) (f : StateFrame) : SameMemories s (s.stateFrame p h f) := by
  unfold State.stateFrame
  dsimp only
  split
  · simp
  next ha => exact .trans (.trans (by simp) (acceptHost_memories ha)) (by simp)

@[simp] theorem inputChanged_memories (s : State) (p : PortalId) (w changed : Word) : SameMemories s (s.inputChanged p w changed) := by
  simp [State.inputChanged]

@[simp] theorem detection_memories (s : State) (p : PortalId) (f : EventFrame) : SameMemories s (s.detection p f) := by simp [State.detection]

@[simp] theorem compareHit_memories (s : State) (p : PortalId) (f : EventFrame) : SameMemories s (s.compareHit p f) := by simp [State.compareHit]

@[simp] theorem toIsland_memories (s : State) (p : PortalId) (f : EventFrame) : SameMemories s (s.toIsland p f) := by simp [State.toIsland]

@[simp] theorem eventMeaning_memories (s : State) (p : PortalId) (f : EventFrame) : SameMemories s (s.eventMeaning p f) := by
  fun_cases State.eventMeaning <;> simp

@[simp] theorem eventFrame_memories (s : State) (p : PortalId) (h : FrameHdr) (f : EventFrame) : SameMemories s (s.eventFrame p h f) := by
  unfold State.eventFrame
  dsimp only
  split
  · simp
  next ha => exact .trans (.trans (by simp) (acceptHost_memories ha)) (by simp)

@[simp] theorem sampleFrame_memories (s : State) (p : PortalId) (h : FrameHdr) (f : SampleFrame) (level : Byte) (lost : Bool) :
    SameMemories s (s.sampleFrame p h f level lost) := by
  unfold State.sampleFrame
  dsimp only
  split
  · simp
  next ha => exact .trans (.trans (by simp) (acceptHost_memories ha)) (by simp)

@[simp] theorem sendTime_memories (s : State) (p : PortalId) : SameMemories s (s.sendTime p) := by simp [State.sendTime]

/-! ### Loading an image -/

@[simp] theorem loadCan_memories (s : State) (g : Image) (c : CanId) : SameMemories s (s.loadCan g c) := by simp [State.loadCan]

@[simp] theorem takeImage_memories (s : State) (g : Image) : SameMemories s (s.takeImage g) := by simp [State.takeImage]

@[simp] theorem configure_memories (s : State) (g : Image) : SameMemories s (s.configure g) := by simp [State.configure]

/-! ### Passwords, seals, the flash commands and keys -/

@[simp] theorem answerPw_memories (s : State) (src : CmdSource) (msg : Bool) (reason : Nat) : SameMemories s (s.answerPw src msg reason) := by
  simp [State.answerPw]

@[simp] theorem pwAccept_memories (s : State) (src : CmdSource) : SameMemories s (s.pwAccept src) := by simp [State.pwAccept]

@[simp] theorem pwReject_memories (s : State) (src : CmdSource) : SameMemories s (s.pwReject src) := by simp [State.pwReject]

@[simp] theorem submit_memories (s : State) (src : CmdSource) (len : Nat) (bytes : List Byte) (msg : Bool) :
    SameMemories s (s.submit src len bytes msg) := by
  fun_cases State.submit <;> simp

@[simp] theorem pwctl_memories (s : State) (w : Word) : SameMemories s (s.pwctl w) := by simp [State.pwctl]

@[simp] theorem pwComputed_memories (s : State) : SameMemories s s.pwComputed := by
  simp [State.pwComputed]
  split <;> simp

@[simp] theorem pwExpire_memories (s : State) (ch : Channel) : SameMemories s (s.pwExpire ch) := by simp [State.pwExpire]

@[simp] theorem pwHoldoffEnd_memories (s : State) : SameMemories s s.pwHoldoffEnd := by simp [State.pwHoldoffEnd]

@[simp] theorem sealChange_memories (s : State) (sw : BitVec 4) : SameMemories s (s.sealChange sw) := by simp [State.sealChange]

@[simp] theorem flErr_flash (h : HarnState) (why : Nat) : (h.flErr why).flash = h.flash := by simp [HarnState.flErr]

@[simp] theorem flDone_flash (h : HarnState) : h.flDone.flash = h.flash := by simp [HarnState.flDone]

@[simp] theorem setOk_flash (h : HarnState) (r : Region) (ok : Bool) : (h.setOk r ok).flash = h.flash := by simp [HarnState.setOk]

@[simp] theorem flashStart_memories (s : State) (cmd : Nat) (t : Region) : SameMemories s (s.flashStart cmd t) := by simp [State.flashStart]

theorem scramble_wf {s : State} (h : s.MemoriesWf) (a n : Nat) : (s.scramble a n).MemoriesWf := ⟨memPut_wf _ _ h.1, h.2⟩

@[simp] theorem logWrite_memories (s : State) (t : Region) (result : Nat) : SameMemories s (s.logWrite t result) := by simp [State.logWrite]

theorem flashWritten_wf {s : State} (h : s.MemoriesWf) {new : List Host.Cell} (hnew : cellsWf 0xFF new = true)
    (t : Region) (ok log : Bool) (a n : Nat) :
    (s.flashWritten t ok log a n new).MemoriesWf := by
  have hok : ({ s with harn := { s.harn with flash := new }.flDone } : State).MemoriesWf := ⟨hnew, h.2⟩
  have hbad : (({ s with harn := s.harn.flErr 5 } : State).scramble a n).MemoriesWf := scramble_wf (s := { s with harn := s.harn.flErr 5 }) h a n
  unfold State.flashWritten
  dsimp only
  generalize State.scramble _ a n = v at hbad
  split
  · refine SameMemories.wf (logWrite_memories ..) ?_
    split
    · exact hok
    · exact hbad
  · split
    · exact hok
    · exact hbad

@[simp] theorem verified_memories (s : State) (t : Region) : SameMemories s (s.verified t) := by simp [State.verified]

@[simp] theorem downloadAll_memories (s : State) : SameMemories s s.downloadAll := by
  simp [State.downloadAll, SameMemories.eachPortal]

@[simp] theorem activated_memories (s : State) (t : Region) : SameMemories s (s.activated t) := by
  unfold State.activated
  dsimp only
  split
  · simp
  · simp [SameMemories.foldl]

theorem flashComplete_wf {s : State} (h : s.MemoriesWf) (ok : Bool) : (s.flashComplete ok).MemoriesWf := by
  unfold State.flashComplete
  split
  · exact h
  · extract_lets src u m
    have hu : u.MemoriesWf := h
    have hm : cellsWf 0xFF m = true := h.1
    clear_value u m
    split
    · exact flashWritten_wf hu (memPut_wf _ _ (memErase_wf _ _ hm)) ..
    · exact flashWritten_wf hu (memErase_wf _ _ hm) ..
    · exact flashWritten_wf hu (memPut_wf _ _ hm) ..
    · exact SameMemories.wf (by simp) hu
    · exact SameMemories.wf (by simp) hu

@[simp] theorem logKey_memories (s : State) (revoke : Bool) (k : Fin 4) (result : Nat) : SameMemories s (s.logKey revoke k result) := by
  simp [State.logKey]

@[simp] theorem keyStart_memories (s : State) (revoke : Bool) (k : Fin 4) : SameMemories s (s.keyStart revoke k) := by simp [State.keyStart]

@[simp] theorem keyComplete_memories (s : State) (ok : Bool) : SameMemories s (s.keyComplete ok) := by fun_cases State.keyComplete <;> simp

/-! ### The power states -/

@[simp] theorem hostReset_memories (s : State) : SameMemories s s.hostReset := by simp [State.hostReset]

@[simp] theorem startUp_memories (s : State) (rstPin : Bool) : SameMemories s (s.startUp rstPin) := by simp [State.startUp]

@[simp] theorem porRelease_memories (s : State) : SameMemories s s.porRelease := by simp [State.porRelease]

@[simp] theorem resetAssert_memories (s : State) : SameMemories s s.resetAssert := by simp [State.resetAssert]

@[simp] theorem resetRelease_memories (s : State) : SameMemories s s.resetRelease := by simp [State.resetRelease]

@[simp] theorem supplyLost_memories (s : State) : SameMemories s s.supplyLost := by simp [State.supplyLost]

@[simp] theorem fuseLoaded_memories (s : State) (reads : List CellRead) : SameMemories s (s.fuseLoaded reads) := by simp [State.fuseLoaded]

@[simp] theorem awlDone_memories (s : State) (p c : AwlRun) (xFail : Bool) : SameMemories s (s.awlDone p c xFail) := by simp [State.awlDone]

@[simp] theorem flashReady_memories (s : State) (dev : Option FlashDevice) : SameMemories s (s.flashReady dev) := by simp [State.flashReady]

@[simp] theorem bootMode_memories (s : State) (x : Nat × Nat) : SameMemories s (s.bootMode x) := by simp [State.bootMode]

@[simp] theorem bootWhy_memories (s : State) (r : Region) (why : Nat) : SameMemories s (s.bootWhy r why) := by simp [State.bootWhy]

@[simp] theorem flashSettled_memories (s : State) : SameMemories s s.flashSettled := by
  unfold State.flashSettled
  split
  · exact .refl s
  · dsimp only
    split
    · simp
    · split
      · simp
      · split <;> simp

@[simp] theorem rejectImage_memories (s : State) (why : Nat) : SameMemories s (s.rejectImage why) := by
  simp [State.rejectImage]
  split <;> simp

@[simp] theorem imageRead_memories (s : State) : SameMemories s s.imageRead := by fun_cases State.imageRead <;> simp

@[simp] theorem bootImage_memories (s : State) (r : Region) : SameMemories s (s.bootImage r) := by simp [State.bootImage]

@[simp] theorem signatureDone_memories (s : State) : SameMemories s s.signatureDone := by fun_cases State.signatureDone <;> simp

@[simp] theorem fabricDone_memories (s : State) : SameMemories s s.fabricDone := by fun_cases State.fabricDone <;> simp

@[simp] theorem bootDone_memories (s : State) : SameMemories s s.bootDone := by
  unfold State.bootDone
  split <;> simp

@[simp] theorem answerWord_memories (s : State) (src : CmdSource) (ans : Option Byte) (why : Nat) : SameMemories s (s.answerWord src ans why) := by
  fun_cases State.answerWord <;> simp

@[simp] theorem refuseWord_memories (s : State) (src : CmdSource) (ans : Option Byte) (tgt why : Nat) :
    SameMemories s (s.refuseWord src ans tgt why) := by
  simp [State.refuseWord]

@[simp] theorem armTimeout_memories (s : State) : SameMemories s s.armTimeout := by fun_cases State.armTimeout <;> simp

@[simp] theorem logMaintain_memories (s : State) (src : CmdSource) (why : Nat) : SameMemories s (s.logMaintain src why) := by simp [State.logMaintain]

@[simp] theorem enter_memories (s : State) (st : Psm) : SameMemories s (s.enter st) := by simp [State.enter]

@[simp] theorem enterMaintain_memories (s : State) (src : CmdSource) : SameMemories s (s.enterMaintain src) := by simp [State.enterMaintain]

@[simp] theorem enterSelftest_memories (s : State) : SameMemories s s.enterSelftest := by
  unfold State.enterSelftest
  dsimp only
  split <;> simp

@[simp] theorem enterPairTest_memories (s : State) (src : CmdSource) : SameMemories s (s.enterPairTest src) := by
  simp [State.enterPairTest]
  split <;> simp

@[simp] theorem begin_memories (s : State) (src : CmdSource) (ans : Option Byte) (t : Transition) : SameMemories s (s.begin src ans t) := by
  simp [State.begin]

@[simp] theorem perform_memories (s : State) (src : CmdSource) (ans : Option Byte) (tgt scope : Nat) :
    SameMemories s (s.perform src ans tgt scope) := by
  unfold State.perform
  split
  · simp
  · simp
  · split <;> simp
  · split <;> simp
  · simp
  · dsimp only
    split <;> simp

@[simp] theorem refuseExec_memories (s : State) (src : CmdSource) (ans : Option Byte) (tgt why : Nat) :
    SameMemories s (s.refuseExec src ans tgt why) := by
  simp [State.refuseExec]

@[simp] theorem accept_memories (s : State) (src : CmdSource) (ans : Option Byte) : SameMemories s (s.accept src ans) := by simp [State.accept]

@[simp] theorem executeArm_memories (s : State) (src : CmdSource) (ans : Option Byte) (arm : Word) (safe : Option SafeCause) :
    SameMemories s (s.executeArm src ans arm safe) := by
  simp [State.executeArm]
  split <;> simp

@[simp] theorem lapseArm_memories (s : State) : SameMemories s s.lapseArm := by fun_cases State.lapseArm <;> simp

@[simp] theorem psmWord_memories (s : State) (src : CmdSource) (ans : Option Byte) (w : Word) (safe : Option SafeCause) :
    SameMemories s (s.psmWord src ans w safe) := by
  simp [State.psmWord]
  split <;> simp

@[simp] theorem execCmd_memories (s : State) (src : CmdSource) (tgt scope : Nat) (safe : Option SafeCause) :
    SameMemories s (s.execCmd src tgt scope safe) := by
  simp [State.execCmd]

@[simp] theorem cansOff_memories (s : State) : SameMemories s s.cansOff := by simp [State.cansOff]

@[simp] theorem leaveAnswer_memories (s : State) : SameMemories s s.leaveAnswer := by fun_cases State.leaveAnswer <;> simp

@[simp] theorem dormantEntered_memories (s : State) : SameMemories s s.dormantEntered := by
  simp [State.dormantEntered]
  split <;> simp

@[simp] theorem offEntered_memories (s : State) : SameMemories s s.offEntered := by
  simp [State.offEntered]
  split <;> simp

@[simp] theorem reload_memories (s : State) : SameMemories s s.reload := by
  unfold State.reload
  dsimp only
  split
  · simp
  · split <;> simp

@[simp] theorem dormantReturned_memories (s : State) (p c : AwlRun) (xFail crcOk : Bool) : SameMemories s (s.dormantReturned p c xFail crcOk) := by
  simp [State.dormantReturned]
  split <;> simp

@[simp] theorem portalTests_memories (s : State) (fails : Four Bool) : SameMemories s (s.portalTests fails) := by simp [State.portalTests]

@[simp] theorem selftestDone_memories (s : State) (p c : AwlRun) (xFail : Bool) (fails : Four Bool) :
    SameMemories s (s.selftestDone p c xFail fails) := by
  simp [State.selftestDone]

@[simp] theorem referenceLost_memories (s : State) : SameMemories s s.referenceLost := by simp [State.referenceLost]

@[simp] theorem wakeEvent_memories (s : State) (bit : Nat) : SameMemories s (s.wakeEvent bit) := by simp [State.wakeEvent]

@[simp] theorem wakeCan_memories (s : State) (c : CanId) : SameMemories s (s.wakeCan c) := by simp [State.wakeCan]

/-! ### Device time -/

@[simp] theorem tsyncEdge_memories (s : State) : SameMemories s s.tsyncEdge := by simp [State.tsyncEdge]

@[simp] theorem tsyncPulse_memories (s : State) : SameMemories s s.tsyncPulse := by simp [State.tsyncPulse]

@[simp] theorem stepTime_memories (s : State) (e : Int) (src : BitVec 2) : SameMemories s (s.stepTime e src) := by simp [State.stepTime]

@[simp] theorem applyOffset_memories (s : State) (e : Int) (src : BitVec 2) : SameMemories s (s.applyOffset e src) := by simp [State.applyOffset]

@[simp] theorem stepWaiting_memories (s : State) : SameMemories s s.stepWaiting := by fun_cases State.stepWaiting <;> simp

@[simp] theorem pendingStep_memories (s : State) : SameMemories s s.pendingStep := by simp [State.pendingStep]

@[simp] theorem timeCmdStep_memories (s : State) (key : Byte) : SameMemories s (s.timeCmdStep key) := by simp [State.timeCmdStep]

@[simp] theorem enqueue_memories (s : State) (ch : Channel) (c : CanId) (slot : Fin 8) (data : List Byte) :
    SameMemories s (s.enqueue ch c slot data) := by
  simp [State.enqueue]

/-! ### The message engine -/

@[simp] theorem toMailbox_memories (s : State) (msg : Nat) (data : List Byte) : SameMemories s (s.toMailbox msg data) := by simp [State.toMailbox]

@[simp] theorem sendMsg_memories (s : State) (ch : Channel) (slot : Fin 8) (data : List Byte) : SameMemories s (s.sendMsg ch slot data) := by
  fun_cases State.sendMsg <;> simp

@[simp] theorem sendCans_memories (s : State) (slot : Fin 8) (data : List Byte) : SameMemories s (s.sendCans slot data) := by
  simp [State.sendCans, SameMemories.foldl]

@[simp] theorem putHello_memories (s : State) (ch : Channel) : SameMemories s (s.putHello ch) := by
  simp [State.putHello]
  split <;> simp

@[simp] theorem helloNow_memories (s : State) (ch : Channel) : SameMemories s (s.helloNow ch) := by simp [State.helloNow]

@[simp] theorem helloSoon_memories (s : State) (ch : Channel) : SameMemories s (s.helloSoon ch) := by simp [State.helloSoon]

@[simp] theorem helloPeriodic_memories (s : State) (ch : Channel) : SameMemories s (s.helloPeriodic ch) := by simp [State.helloPeriodic]

@[simp] theorem setV_memories (s : State) (ch : Channel) (v : Nat) : SameMemories s (s.setV ch v) := by
  simp [State.setV]
  split <;> simp

@[simp] theorem settleExpire_memories (s : State) (ch : Channel) : SameMemories s (s.settleExpire ch) := by simp [State.settleExpire]

@[simp] theorem fdCapExpire_memories (s : State) (ch : Channel) : SameMemories s (s.fdCapExpire ch) := by simp [State.fdCapExpire]

@[simp] theorem clashHello_memories (s : State) (ch : Channel) : SameMemories s (s.clashHello ch) := by simp [State.clashHello]

@[simp] theorem resettle_memories (s : State) (ch : Channel) (first : Bool) : SameMemories s (s.resettle ch first) :=
  .of_traffic (.resettle ..)

@[simp] theorem peerHello_memories (s : State) (ch : Channel) (node : BitVec 6) (b : List Byte) : SameMemories s (s.peerHello ch node b) := by
  cases ch <;> simp [State.peerHello]

@[simp] theorem peerLost_memories (s : State) (ch : Channel) (node : BitVec 6) : SameMemories s (s.peerLost ch node) := by
  cases ch <;> simp [State.peerLost]

@[simp] theorem clashExpire_memories (s : State) (ch : Channel) : SameMemories s (s.clashExpire ch) := by simp [State.clashExpire]

@[simp] theorem mapTake_memories (s : State) (ch : Channel) (node : BitVec 6) (msg : Nat) (payload : List Byte) :
    SameMemories s (s.mapTake ch node msg payload) := by
  simp [State.mapTake]

@[simp] theorem flagStale_memories (s : State) (f : Fin 64) (ch : Channel) : SameMemories s (s.flagStale f ch) := by
  fun_cases State.flagStale <;> simp

@[simp] theorem takeFifo_memories (s : State) (ch : Channel) (node : BitVec 6) (msg : Nat) : SameMemories s (s.takeFifo ch node msg) := by
  fun_cases State.takeFifo <;> simp

theorem nelzTake_memories {s t : State} {ch : Channel} {node : BitVec 6} {msg : Nat} {payload : List Byte}
    (h : s.nelzTake ch node msg payload = some t) : SameMemories s t := by
  unfold State.nelzTake at h
  dsimp only at h
  split at h
  all_goals
    cases h
  simp

@[simp] theorem nelzPlain_memories (s : State) (ch : Channel) (node : BitVec 6) (msg : Nat) (payload : List Byte) :
    SameMemories s (s.nelzPlain ch node msg payload) := by
  unfold State.nelzPlain
  cases h : s.nelzTake ch node msg payload with
  | none => simp
  | some t => simp [nelzTake_memories h]

@[simp] theorem helloReceived_memories (s : State) (ch : Channel) (node : BitVec 6) (payload : List Byte) :
    SameMemories s (s.helloReceived ch node payload) := by
  unfold State.helloReceived
  split
  · simp
  next h => simp [nelzTake_memories h]

@[simp] theorem stateCmd_memories (s : State) (ch : Channel) (node : BitVec 6) (payload : List Byte) (safe : Option SafeCause) :
    SameMemories s (s.stateCmd ch node payload safe) := by
  unfold State.stateCmd
  split
  · simp
  next h => simp [nelzTake_memories h]

@[simp] theorem pwWhole_memories (s : State) (ch : Channel) (node : BitVec 6) (len : Nat) (bytes : List Byte) :
    SameMemories s (s.pwWhole ch node len bytes) := by
  simp [State.pwWhole]

@[simp] theorem pwPart_memories (s : State) (ch : Channel) (node : BitVec 6) (b : List Byte) : SameMemories s (s.pwPart ch node b) := by
  simp [State.pwPart]

@[simp] theorem passwordMsg_memories (s : State) (ch : Channel) (node : BitVec 6) (payload : List Byte) :
    SameMemories s (s.passwordMsg ch node payload) := by
  unfold State.passwordMsg
  split
  · simp
  next h => simp [nelzTake_memories h]

@[simp] theorem partsTimeout_memories (s : State) (ch : Channel) : SameMemories s (s.partsTimeout ch) := by fun_cases State.partsTimeout <;> simp

@[simp] theorem portalCmd_memories (s : State) (ch : Channel) (node : BitVec 6) (payload : List Byte) :
    SameMemories s (s.portalCmd ch node payload) := by
  unfold State.portalCmd
  split
  · simp
  next h =>
    refine (nelzTake_memories h).trans ?_
    dsimp only
    split_ifs <;> simp

@[simp] theorem drainAnswers_memories (s : State) : SameMemories s s.drainAnswers := .of_traffic (.drainAnswers s)

@[simp] theorem sendStatus_memories (s : State) : SameMemories s s.sendStatus := by
  simp [State.sendStatus, SameMemories.foldl]

@[simp] theorem sendLines_memories (s : State) : SameMemories s s.sendLines := by simp [State.sendLines, SameMemories.foldl]

@[simp] theorem hostRequest_memories (s : State) (m : Nat) : SameMemories s (s.hostRequest m) := by simp [State.hostRequest]

@[simp] theorem risingRequests_memories (s t : State) : SameMemories t (s.risingRequests t) := by
  simp [State.risingRequests, SameMemories.foldl]

@[simp] theorem sendSync_memories (s : State) (c : CanId) : SameMemories s (s.sendSync c) := by simp [State.sendSync]

@[simp] theorem syncPair_memories (s : State) (c : CanId) (e : Int) : SameMemories s (s.syncPair c e) := by simp [State.syncPair]

@[simp] theorem timeSync_memories (s : State) (c : CanId) (node : BitVec 6) (payload : List Byte) (stamp : Dword) :
    SameMemories s (s.timeSync c node payload stamp) := by
  unfold State.timeSync
  dsimp only
  split
  · simp
  next t h =>
    refine (nelzTake_memories h).trans ?_
    split
    · exact .refl t
    · split
      · simp
      · split <;> simp
      · exact .refl t

@[simp] theorem syncLost_memories (s : State) : SameMemories s s.syncLost := by simp [State.syncLost]

@[simp] theorem sendTally_memories (s : State) (p : PortalId) (q : Word) (r : List Byte) : SameMemories s (s.sendTally p q r) := by
  unfold State.sendTally
  dsimp only
  split
  · exact .refl s
  · exact .foldl (fun _ _ => sendCans_memories ..) _ s

@[simp] theorem nelzMessage_memories (s : State) (ch : Channel) (node : BitVec 6) (msg : Nat) (payload : List Byte) :
    SameMemories s (s.nelzMessage ch node msg payload) := by
  fun_cases State.nelzMessage <;> simp

@[simp] theorem mailboxGo_memories (s : State) (w : Word) : SameMemories s (s.mailboxGo w) := by simp [State.mailboxGo]

@[simp] theorem mailboxRemove_memories (s : State) : SameMemories s s.mailboxRemove := by simp [State.mailboxRemove]

@[simp] theorem discardFrame_memories (s t : State) (c : CanId) (f : CanFrame) : SameMemories t (s.discardFrame t c f) := by simp [State.discardFrame]

@[simp] theorem canReceive_memories (s : State) (c : CanId) (r : CanRx) : SameMemories s (s.canReceive c r) := by simp [State.canReceive]

/-! ### The tally island -/

@[simp] theorem modTally_memories (s : State) (f : TallyState → TallyState) : SameMemories s (s.modTally f) := by simp [State.modTally]

theorem audit_wf {s : State} (h : s.MemoriesWf) (e kind : Nat) (key : Option (BitVec 256)) (pub : BitVec 512) :
    (s.audit e kind key pub).MemoriesWf := by
  unfold State.audit
  extract_lets t prev h1 h2 b src src2
  clear_value b
  exact ⟨memPut_wf b _ h.1, h.2⟩

theorem withFlash_wf {s : State} (h : s.MemoriesWf) {m : List Host.Cell} (hm : cellsWf 0xFF m = true) :
    ({ s with harn := { s.harn with flash := m } } : State).MemoriesWf :=
  ⟨hm, h.2⟩

theorem putSeal_wf {s : State} (h : s.MemoriesWf) (b : SealBlock) : (s.putSeal b).MemoriesWf := by
  unfold State.putSeal
  dsimp only
  exact withFlash_wf h (memPut_wf _ _ (memErase_wf _ _ h.1))

theorem audits_wf (kind : Nat) (key : Option (BitVec 256)) (pub : BitVec 512) (l : List Nat) {s : State} (h : s.MemoriesWf) :
    (l.foldl (fun s e => s.audit e kind key pub) s).MemoriesWf := by
  induction l generalizing s with
  | nil => exact h
  | cons e l ih => exact ih (audit_wf h ..)

theorem fillAudit_wf {s : State} (h : s.MemoriesWf) : s.fillAudit.MemoriesWf := audits_wf _ _ _ _ h

theorem meetSeal_wf {s : State} (h : s.MemoriesWf) : s.meetSeal.MemoriesWf := by
  have hmod : ∀ {s : State} (f : TallyState → TallyState), s.MemoriesWf → (s.modTally f).MemoriesWf := fun f => (modTally_memories _ f).wf
  unfold State.meetSeal
  dsimp only
  split
  · exact hmod _ h
  · split
    · exact hmod _ h
    · split
      · exact hmod _ h
      · split
        · exact hmod _ h
        · exact hmod _ (putSeal_wf (audit_wf (hmod _ h) ..) _)

theorem tallySettle_wf {s : State} (h : s.MemoriesWf) : s.tallySettle.MemoriesWf := by
  have hf := (modTally_memories s.fillAudit fun t => { t with checkDue := false }).wf (fillAudit_wf h)
  unfold State.tallySettle
  dsimp only
  split
  · exact meetSeal_wf hf
  · exact hf

theorem tallyChecked_wf {s : State} (h : s.MemoriesWf) (r : IslandRead) : (s.tallyChecked r).MemoriesWf := by
  unfold State.tallyChecked
  split
  · exact h
  · split
    · exact h
    · extract_lets s1 s2 past s3 s4
      have h4 : SameMemories s s4 := by
        dsimp only [s4]
        split <;> simp [s3, s2, s1]
      split_ifs
      · exact SameMemories.wf (by simp [s1]) h
      · exact SameMemories.wf (by simp [s1]) h
      · exact SameMemories.wf (by simp [s2, s1]) h
      · exact SameMemories.wf (by simpa using h4) h
      · exact tallySettle_wf (h4.wf h)

theorem tallyWaiting_wf {s : State} (h : s.MemoriesWf) : s.tallyWaiting.MemoriesWf := by
  unfold State.tallyWaiting
  split
  · exact tallySettle_wf h
  · exact h

@[simp] theorem tallySeal_memories (s : State) : SameMemories s s.tallySeal := by simp [State.tallySeal]

theorem tallySealed_wf {s : State} (h : s.MemoriesWf) (r : SealRun) (drawn : BitVec 256) : (s.tallySealed r drawn).MemoriesWf := by
  unfold State.tallySealed
  split
  · exact h
  · extract_lets s1 t d p b s2 wrote s3
    have h1 : s1.MemoriesWf := (modTally_memories ..).wf h
    have h3 : s3.MemoriesWf := by
      dsimp only [s3]
      split
      · exact putSeal_wf ((drawn_memories s1).wf h1) b
      · exact (drawn_memories s1).wf h1
    split_ifs
    · exact (modTally_memories ..).wf h1
    · exact (modTally_memories ..).wf h1
    · exact (modTally_memories ..).wf (audit_wf (putSeal_wf h1 b) ..)
    · exact (modTally_memories ..).wf h3

@[simp] theorem tallyMark_memories (s : State) (m : CycleMark) : SameMemories s (s.tallyMark m) := by
  simp [State.tallyMark]
  split <;> simp

@[simp] theorem tallySigned_memories (s : State) (p : PortalId) : SameMemories s (s.tallySigned p) := by
  simp [State.tallySigned]
  split <;> simp

@[simp] theorem carousel_memories (s : State) : SameMemories s s.carousel := by simp [State.carousel]

/-- A register write leaves the memories as they were. -/
structure WritesSame (s : State) (o : Option HostWrite) : Prop where
  same : ∀ w ∈ o, SameMemories s w.state

/-- What a register write leads to keeps the memories' form. -/
structure WritesWf (o : Option HostWrite) : Prop where
  wf : ∀ w ∈ o, w.state.MemoriesWf

@[simp] theorem writesSame_none (s : State) : WritesSame s none := ⟨fun _ h => by cases h⟩

@[simp] theorem writesSame_some (s t : State) (n : Nat) : WritesSame s (some ⟨t, n⟩) ↔ SameMemories s t :=
  ⟨fun h => h.same _ rfl, fun h => ⟨fun _ e => by cases e; exact h⟩⟩

@[simp] theorem writesSame_wrote (s t : State) : WritesSame s t.wrote ↔ SameMemories s t := writesSame_some ..

@[simp] theorem writesSame_declined (s t : State) : WritesSame s t.declined ↔ SameMemories s t := writesSame_some ..

@[simp] theorem writesSame_acqConfig (s : State) (n : Fin 16) (f : AcqState → AcqState) : WritesSame s (s.acqConfig n f) := by simp [State.acqConfig]

namespace WritesWf

theorem of_same {s : State} {o : Option HostWrite} (ho : WritesSame s o) (h : s.MemoriesWf) : WritesWf o := ⟨fun w hw => (ho.same w hw).wf h⟩

/-! ### Register writes -/

theorem wrote {t : State} (h : t.MemoriesWf) : WritesWf t.wrote := ⟨fun _ e => by cases e; exact h⟩

theorem ite {c : Prop} [Decidable c] {a b : Option HostWrite} (ha : WritesWf a) (hb : WritesWf b) : WritesWf (if c then a else b) := by
  split
  · exact ha
  · exact hb

theorem dite {c : Prop} [Decidable c] {a : c → Option HostWrite} {b : Option HostWrite} (ha : ∀ h, WritesWf (a h)) (hb : WritesWf b) :
    WritesWf (if h : c then a h else b) := by
  split
  · exact ha _
  · exact hb

end WritesWf

@[simp] theorem timeCmd_memories (s : State) (v : Word) : SameMemories s (s.timeCmd v) := by simp [State.timeCmd]

@[simp] theorem flctlWrite_memories (s : State) (v : Word) : SameMemories s (s.flctlWrite v) := by simp [State.flctlWrite]

@[simp] theorem keyctlWrite_memories (s : State) (v : Word) : SameMemories s (s.keyctlWrite v) := by simp [State.keyctlWrite]

@[simp] theorem seqPcmdWrite_memories (s : State) (v : Word) : SameMemories s (s.seqPcmdWrite v) := by simp [State.seqPcmdWrite]

@[simp] theorem lockCtl_memories (s : State) (v : Word) : SameMemories s (s.lockCtl v) := by simp [State.lockCtl]

@[simp] theorem readEffect_memories (s : State) (a : Nat) : SameMemories s (s.readEffect a) := by simp [State.readEffect]

section
variable (s : State) (o : Nat) (v rc : Word)

theorem psmWrite_same : WritesSame s (s.psmWrite o v rc) := by fun_cases State.psmWrite <;> simp

theorem timeWrite_same : WritesSame s (s.timeWrite o v rc) := by fun_cases State.timeWrite <;> simp

theorem irqWrite_same : WritesSame s (s.irqWrite o v rc) := by fun_cases State.irqWrite <;> simp

theorem harnWrite_same : WritesSame s (s.harnWrite o v rc) := by fun_cases State.harnWrite <;> simp +zetaDelta

theorem secWrite_same : WritesSame s (s.secWrite o v rc) := by fun_cases State.secWrite <;> simp

theorem seqWrite_same : WritesSame s (s.seqWrite o v rc) := by fun_cases State.seqWrite <;> simp

theorem lockWrite_same : WritesSame s (s.lockWrite o v rc) := by fun_cases State.lockWrite <;> simp

theorem glWrite_same (p : PortalId) : WritesSame s (s.glWrite p o v rc) := by fun_cases State.glWrite <;> simp

@[simp] theorem groupWrite_same (n : Fin 16) : WritesSame s (s.groupWrite n o v rc) := by fun_cases State.groupWrite <;> simp +zetaDelta

theorem acqWrite_same : WritesSame s (s.acqWrite o v rc) := by fun_cases State.acqWrite <;> simp

theorem canWrite_same (i : CanId) : WritesSame s (s.canWrite i o v rc) := by fun_cases State.canWrite <;> simp +zetaDelta

theorem nelzWrite_same : WritesSame s (s.nelzWrite o v rc) := by fun_cases State.nelzWrite <;> simp

end

theorem archCommand_wf {s : State} (h : s.MemoriesWf) (v : Word) : (s.archCommand v).MemoriesWf := by
  unfold State.archCommand
  extract_lets key go
  have hgo : ∀ f, (∀ a : ArchState, (f a).medium = a.medium) → (go f).MemoriesWf := fun f hf =>
    SameMemories.wf (s := s) ⟨rfl, cmd_medium hf s.arch key⟩ h
  split
  · exact hgo _ cmdFlush_medium
  · exact hgo _ cmdScrub_medium
  · exact hgo _ cmdReinit_medium
  · exact cmdFormat_wf h key
  · exact hgo _ cmdLoad_medium
  · exact hgo _ fun a => cmdFind_medium a _
  · split
    · exact hgo _ fun _ => rfl
    · exact h

theorem archWrite_wf {s : State} (h : s.MemoriesWf) (o : Nat) (v rc : Word) : WritesWf (s.archWrite o v rc) := by
  unfold State.archWrite
  dsimp only
  split
  · exact .wrote h
  · exact .wrote (archCommand_wf h v)
  · exact .wrote h
  · exact .wrote h
  · exact .wrote h
  · exact .of_same (writesSame_none s) h

theorem hostWriteAt_wf {s : State} (h : s.MemoriesWf) (a : Nat) (v rc : Word) : WritesWf (s.hostWriteAt a v rc) := by
  have none' : WritesWf none := .of_same (writesSame_none s) h
  unfold State.hostWriteAt
  refine .ite none' <| .ite (.of_same (psmWrite_same ..) h) <| .ite (.of_same (timeWrite_same ..) h) <| .ite (.of_same (irqWrite_same ..) h) ?_
  refine .ite (.of_same (harnWrite_same ..) h) <| .ite (.of_same (seqWrite_same ..) h) <| .ite none' ?_
  refine .dite (fun _ => .of_same (glWrite_same ..) h) <| .ite (.of_same (canWrite_same ..) h) <| .ite (.of_same (canWrite_same ..) h) ?_
  refine .ite (.of_same (acqWrite_same ..) h) <| .ite (.of_same (lockWrite_same ..) h) <| .ite (.of_same (secWrite_same ..) h) ?_
  exact .ite (archWrite_wf h ..) <| .ite (.of_same ((writesSame_declined s s).2 (.refl s)) h) <| .ite (.of_same (nelzWrite_same ..) h) none'

theorem hostWrite_wf {s : State} (h : s.MemoriesWf) (a : Nat) (v rc : Word) : (s.hostWrite a v rc).state.MemoriesWf := by
  unfold State.hostWrite
  split
  next w hw => exact (hostWriteAt_wf h a v rc).wf w hw
  next => exact h

theorem writeWord_wf {s : State} (h : s.MemoriesWf) (a : Nat) (v rc : Word) : (s.writeWord a v rc).state.MemoriesWf := by
  unfold State.writeWord
  split
  · exact h
  · split
    · exact h
    · exact hostWrite_wf h ..

theorem registerWrite_wf {s : State} (h : s.MemoriesWf) (a : Nat) (v rc : Word) : (s.registerWrite a v rc).MemoriesWf := by
  unfold State.registerWrite
  split
  · exact h
  · split
    · exact SameMemories.wf (by simp) h
    · exact writeWord_wf h ..

/-! ### The host port -/

theorem hostWord_wf {s : State} (h : s.MemoriesWf) (x : SpiPending) (a : Nat) : (s.hostWord x a).1.MemoriesWf := by
  unfold State.hostWord
  split
  · exact writeWord_wf h ..
  · split
    · exact h
    · split
      · exact SameMemories.wf (by simp) h
      · exact h

@[simp] theorem askPortal_memories (s : State) (x : SpiPending) (p : PortalId) (o : Nat) : SameMemories s (s.askPortal x p o) := by
  simp [State.askPortal]

theorem spiRun_wf (n : Nat) {s : State} (h : s.MemoriesWf) (x : SpiPending) : (spiRun n s x).MemoriesWf := by
  induction n generalizing s x with
  | zero => exact h
  | succ n ih =>
    unfold spiRun
    split
    · exact h
    · dsimp only
      split
      · split
        · exact ih h _
        · split
          · exact ih h _
          · exact SameMemories.wf (by simp) h
      · exact ih (hostWord_wf h ..) _

theorem settleSpi_wf {s : State} (h : s.MemoriesWf) (x : SpiPending) (status : Nat) (v : Word) (undecoded : Bool) :
    (s.settleSpi x status v undecoded).MemoriesWf :=
  spiRun_wf _ (s := { s with port := { s.port with pending := none } }) h _

theorem spiAnswered_wf {s : State} (h : s.MemoriesWf) (ans : ConfigFrame) : (s.spiAnswered ans).MemoriesWf := by
  unfold State.spiAnswered
  split
  · exact h
  · split
    · exact settleSpi_wf h ..
    · split <;> exact settleSpi_wf h ..

theorem spiLinkLost_wf {s : State} (h : s.MemoriesWf) : s.spiLinkLost.MemoriesWf := by
  unfold State.spiLinkLost
  split
  · exact h
  · split
    · split
      · exact h
      · exact settleSpi_wf h ..
    · exact h

theorem spiTake_wf {s : State} (h : s.MemoriesWf) (r : SpiRequest) {go : State → State} (hgo : (go s).MemoriesWf) : (s.spiTake r go).MemoriesWf := by
  unfold State.spiTake
  split
  · exact h
  · split
    · exact h
    · split
      · exact h
      · split
        · exact h
        · split
          · exact h
          · exact hgo

theorem spiReadCmd_wf {s : State} (h : s.MemoriesWf) (r : SpiRequest) : (s.spiReadCmd r).MemoriesWf := by
  unfold State.spiReadCmd
  split
  · exact spiTake_wf h r (spiRun_wf _ h _)
  · exact h

theorem spiWriteCmd_wf {s : State} (h : s.MemoriesWf) (r : SpiRequest) : (s.spiWriteCmd r).MemoriesWf := by
  unfold State.spiWriteCmd
  split
  · exact spiTake_wf h r (spiRun_wf _ h _)
  · exact h

theorem spiStatusCmd_wf {s : State} (h : s.MemoriesWf) (r : SpiRequest) : (s.spiStatusCmd r).MemoriesWf := by
  unfold State.spiStatusCmd
  split
  · exact h
  · exact spiTake_wf h r h

theorem spiRepeatCmd_wf {s : State} (h : s.MemoriesWf) (r : SpiRequest) : (s.spiRepeatCmd r).MemoriesWf := by
  unfold State.spiRepeatCmd
  split
  · refine spiTake_wf h r ?_
    split <;> exact h
  · exact h

@[simp] theorem spiAborted_memories (s : State) : SameMemories s s.spiAborted := by simp [State.spiAborted]

theorem configAnswer_wf {s : State} (h : s.MemoriesWf) (p : PortalId) (hd : FrameHdr) (f : ConfigFrame) : (s.configAnswer p hd f).MemoriesWf := by
  unfold State.configAnswer
  dsimp only
  split
  · exact h
  · split
    · exact spiAnswered_wf (SameMemories.wf (by simp) h) f
    · exact SameMemories.wf (by simp) h

/-! ### What follows a command, and the tick -/

@[simp] theorem messages_memories (s t : State) : SameMemories t (s.messages t) := .of_traffic (.messages s t)

theorem stateLeft_wf {s : State} (h : s.MemoriesWf) : s.stateLeft.MemoriesWf := by
  have ht := tallyWaiting_wf h
  unfold State.stateLeft
  split
  · exact ht
  · exact SameMemories.wf (by simp) ht

theorem commit_wf (s : State) {t : State} (h : t.MemoriesWf) : (s.commit t).MemoriesWf := by
  unfold State.commit
  extract_lets u v w
  have hu : u.MemoriesWf := by
    dsimp only [u]
    split
    · exact h
    · exact stateLeft_wf h
  have hv : v.MemoriesWf := by
    dsimp only [v]
    split
    · exact hu
    · exact SameMemories.wf (by simp) hu
  dsimp only [w]
  split
  · exact hv
  · exact spiLinkLost_wf hv

@[simp] theorem hostClock_memories (s : State) : SameMemories s s.hostClock := by
  unfold State.hostClock
  split
  · exact .refl s
  · exact .trans (by simp) (.foldl (fun s ch => .of_traffic (.helloLate s ch)) _ _)

theorem idle_wf {s : State} (h : s.MemoriesWf) : (idle s).MemoriesWf := by
  refine commit_wf s (SameMemories.wf ?_ h)
  simp [SameMemories.eachPortal]

@[simp] theorem stateWord_memories (s : State) (src : CmdSource) (w : Word) (safe : Option SafeCause) : SameMemories s (s.stateWord src w safe) := by
  simp [State.stateWord]

/-! ### The commands -/

@[simp] theorem executeWord_memories (s : State) (src : CmdSource) (tgt scope : Nat) (safe : Option SafeCause) :
    SameMemories s (s.executeWord src tgt scope safe) := by
  simp [State.executeWord]

@[simp] theorem railLost_memories (s : State) (rail : HostRail) : SameMemories s (s.railLost rail) := by simp [State.railLost]

@[simp] theorem lastWords_memories (s : State) : SameMemories s s.lastWords := by simp [State.lastWords]

theorem atPort_wf {s : State} (h : s.MemoriesWf) (a : Nat) {f : State → State} (hf : (f s).MemoriesWf) : (s.atPort a f).MemoriesWf := by
  unfold State.atPort
  split
  · exact hf
  · exact h

@[simp] theorem whenAlive_memories (s : State) {f : State → State} (hf : SameMemories s (f s)) : SameMemories s (s.whenAlive f) := by
  unfold State.whenAlive
  split
  · exact .refl s
  · exact hf

@[simp] theorem fabricTick_memories (s : State) (upsets : List FabricUpset) : SameMemories s (s.fabricTick upsets) := by
  simp [State.fabricTick]

@[simp] theorem cycleAndStep_memories (s : State) (k : KernelInputs) : SameMemories s (s.cycleAndStep k) := by simp [State.cycleAndStep]

@[simp] theorem laneLock_memories (s : State) (p : PortalId) (lane : Fin 2) (side : LinkSide) : SameMemories s (s.laneLock p lane side) := by
  fun_cases State.laneLock <;> simp

@[simp] theorem laneLost_memories (s : State) (p : PortalId) (lane : Fin 2) (side : LinkSide) : SameMemories s (s.laneLost p lane side) := by
  fun_cases State.laneLost <;> simp

@[simp] theorem frameError_memories (s : State) (p : PortalId) (side : LinkSide) (lane : Fin 2) (twin : Bool) :
    SameMemories s (s.frameError p side lane twin) := by
  fun_cases State.frameError <;> simp

@[simp] theorem helloPortal_memories (s : State) (p : PortalId) (h : FrameHdr) (f : HelloFrame) : SameMemories s (s.helloPortal p h f) := by
  simp [State.helloPortal]

@[simp] theorem timeArrived_memories (s : State) (p : PortalId) (h : FrameHdr) (stamp : Dword) : SameMemories s (s.timeArrived p h stamp) := by
  simp [State.timeArrived]

@[simp] theorem measureDone_memories (s : State) (g : Fin 16) (slot : Nat) : SameMemories s (s.measureDone g slot) := by simp [State.measureDone]

@[simp] theorem archiveStart_memories (s : State) : SameMemories s s.archiveStart := by simp [State.archiveStart]


@[simp] theorem atPort_memories (s : State) (a : Nat) {f : State → State} (hf : SameMemories s (f s)) : SameMemories s (s.atPort a f) := by
  unfold State.atPort
  split
  · exact hf
  · exact .refl s

@[simp] theorem acqAtPort_memories (s : State) (f : AcqState → AcqState) : SameMemories s (s.acqAtPort f) := by simp [State.acqAtPort]

@[simp] theorem canAtPort_memories (s : State) (c : CanId) (f : CanState → CanState) : SameMemories s (s.canAtPort c f) := by simp [State.canAtPort]

theorem archAtPort_memories (s : State) (key : Byte) {f : ArchState → ArchState} (hf : ∀ a, (f a).medium = a.medium) :
    SameMemories s (s.archAtPort key f) :=
  atPort_memories s _ ⟨rfl, cmd_medium hf s.arch key⟩

/-- The commands that can write one of the two memories. -/
def writesMemory : Instr → Bool
  | .flashCommandComplete _ | .configAnswerReceived .. | .spiRead _ | .spiWrite _ | .spiStatus _ | .spiRepeat _ | .registerWrite .. |
    .emmcCommandComplete _ | .scrubRead _ | .archCmdFormat _ | .tallyImageChecked _ | .tallySealingComplete .. => true
  | _ => false

/-- The commands of the host die that leave both memories as they are. -/
theorem exec_memories {c : Instr} (hp : c.portalDie = none) (hd : c.deliveredTo = none) (hw : writesMemory c = false) (s : State) :
    ∃ t, SameMemories s t ∧ (exec c s = settled s t ∨ exec c s = .next t) := by
  cases c <;> cases hp <;> cases hd <;> cases hw
  case timeFrameSend => exact ⟨_, by simp, .inr rfl⟩
  case helloReceivedPortal => exact ⟨_, by simp, .inr rfl⟩
  case portalLogicPorRelease => exact ⟨_, by simp, .inr rfl⟩
  case archCmdFlush => exact ⟨_, archAtPort_memories _ _ cmdFlush_medium, .inl rfl⟩
  case archCmdScrubNow => exact ⟨_, archAtPort_memories _ _ cmdScrub_medium, .inl rfl⟩
  case archCmdReinit => exact ⟨_, archAtPort_memories _ _ cmdReinit_medium, .inl rfl⟩
  case archCmdLoad => exact ⟨_, archAtPort_memories _ _ cmdLoad_medium, .inl rfl⟩
  case archCmdFind => exact ⟨_, archAtPort_memories _ _ fun a => cmdFind_medium a _, .inl rfl⟩
  all_goals exact ⟨_, by simp, .inl rfl⟩

/-- A step leads to no state whose memories are out of form. -/
def NextWf (o : Host.Outcome State Fault Refusal) : Prop := ∀ t, o = .next t → t.MemoriesWf

theorem nextWf_next {t : State} (h : t.MemoriesWf) : NextWf (.next t) := fun u e => by
  cases e
  exact h

theorem nextWf_settled (s : State) {t : State} (h : t.MemoriesWf) : NextWf (settled s t) := nextWf_next (commit_wf s h)

theorem exec_writesMemory_wf {s : State} (h : s.MemoriesWf) {c : Instr} (hw : writesMemory c = true) : NextWf (exec c s) := by
  cases c <;> cases hw
  case flashCommandComplete => exact nextWf_settled s (flashComplete_wf h _)
  case configAnswerReceived => exact nextWf_settled s (configAnswer_wf h ..)
  case spiRead => exact nextWf_settled s (spiReadCmd_wf h _)
  case spiWrite => exact nextWf_settled s (spiWriteCmd_wf h _)
  case spiStatus => exact nextWf_settled s (spiStatusCmd_wf h _)
  case spiRepeat => exact nextWf_settled s (spiRepeatCmd_wf h _)
  case registerWrite => exact nextWf_settled s (registerWrite_wf h ..)
  case scrubRead => exact nextWf_settled s (scrubRead_wf h _)
  case archCmdFormat => exact nextWf_settled s (atPort_wf h _ (cmdFormat_wf h _))
  case tallyImageChecked => exact nextWf_settled s (tallyChecked_wf h _)
  case tallySealingComplete => exact nextWf_settled s (tallySealed_wf h ..)
  case emmcCommandComplete =>
    refine nextWf_settled s ?_
    split
    · exact SameMemories.wf ⟨rfl, rfl⟩ h
    · exact emmcDone_wf h _

theorem exec_wf {s : State} (h : s.MemoriesWf) (c : Instr) : NextWf (exec c s) := by
  rcases hp : c.portalDie with _ | p
  · rcases hd : c.deliveredTo with _ | p
    · cases hw : writesMemory c with
      | true => exact exec_writesMemory_wf h hw
      | false =>
        obtain ⟨t, ht, he | he⟩ := exec_memories hp hd hw s
        · exact he ▸ nextWf_settled s (ht.wf h)
        · exact he ▸ nextWf_next (ht.wf h)
    · obtain ⟨x, f, he⟩ | ⟨hdr, d, rfl⟩ := exec_deliveredTo hd s
      · exact he ▸ nextWf_next (SameMemories.wf (by simp) h)
      · exact nextWf_next (SameMemories.wf (by simp) h)
  · obtain ⟨f, he⟩ := exec_portalDie hp s
    exact he ▸ nextWf_next ((onPortal_memories s p f).wf h)

/-- Settles O41, by the commands' effect on the two memories: most leave both as they are, and each of the others writes bytes by `memPut` or
erases by `memErase`, which keep the form. -/
theorem everyStepKeepsMemoriesCanonical : Obligations.EveryStepKeepsMemoriesCanonical := by
  intro s t h ht
  unfold step at ht
  split at ht
  · obtain rfl := Host.Outcome.next.inj ht
    exact idle_wf h
  next i rest _ =>
    have hrest : ({ s with pending := rest } : State).MemoriesWf := h
    exact exec_wf hrest i t ht

end Sys2Proof.Machine
end

section
/-! Passwords, seal switches and key slots (R97 to R103, R110): what each operation comes to, by the operation's branches, and what it leaves in the
change log. -/

namespace Sys2Proof.Machine

/-! ### A register that the port serves, and the change log -/

/-- An operation of a register that the port serves is carried out. -/
theorem atPort_served {s : State} {a : Nat} (ha : s.portAlive = true) (hs : s.serves a = true) (f : State → State) : s.atPort a f = f s := by
  simp [State.atPort, ha, hs]

/-- What an entry leaves of the security block: the log with its counters, and one entry more in it. -/
theorem logFrom_logged (s : State) (tag new : Word) (result source : Nat) {x : SecState} (hx : x = (s.logFrom tag 0 new result source).sec) :
    x = { s.sec with log := x.log, nextSeq := s.sec.nextSeq + 1, unmirrored := x.unmirrored, logLost := x.logLost } ∧
      Logged s.sec tag new result source x := by
  subst hx
  exact ⟨rfl, _, rfl, rfl, rfl, rfl, rfl, rfl, rfl⟩

/-! ### Passwords (R99 to R102) -/

section
variable {s : State} {w : Word} {g : Image}

theorem pwctl_idle (hw : wbit w 31 = false) : s.pwctl w = s := by simp [State.pwctl, hw]

theorem pwctl_holdOff (hh : s.sec.holdUntil.isSome = true) : s.pwctl w = s := by
  unfold State.pwctl State.submit
  split <;> simp [hh, State.answerPw]

theorem pwctl_computes (hw : wbit w 31 = true) (hh : s.sec.holdUntil = none) (hj : s.sec.pwJob = none) (hg : s.harn.image = some g)
    (h0 : 0 < fget w 4 0) (h16 : fget w 4 0 ≤ 16) :
    s.pwctl w = { s with
      sec := { s.sec with pwd := .all 0, pwJob := some ⟨⟨.host, 0⟩, slice (wordBytes s.sec.pwd.toList) 0 (fget w 4 0), g.salt, g.pwHash⟩ },
      nelz := { s.nelz with pwAnswer := none } } := by
  have hlen : ¬(fget w 4 0 = 0 ∨ 16 < fget w 4 0) := by omega
  simp [State.pwctl, State.submit, hw, hh, hj, hg, hlen]

theorem pwctl_badLength (hw : wbit w 31 = true) (hh : s.sec.holdUntil = none) (hj : s.sec.pwJob = none) (hg : s.harn.image = some g)
    (hlen : fget w 4 0 = 0 ∨ 16 < fget w 4 0) : s.pwctl w = s.pwReject ⟨.host, 0⟩ := by
  simp [State.pwctl, State.submit, hw, hh, hj, hg, hlen, State.answerPw]

theorem pwctl_blank (hw : wbit w 31 = true) (hh : s.sec.holdUntil = none) (hj : s.sec.pwJob = none) (hg : s.harn.image = none)
    (h0 : fget w 4 0 = 0) : s.pwctl w = s.pwAccept ⟨.host, 0⟩ := by
  simp [State.pwctl, State.submit, hw, hh, hj, hg, h0, State.answerPw]

theorem pwctl_noImage (hw : wbit w 31 = true) (hh : s.sec.holdUntil = none) (hj : s.sec.pwJob = none) (hg : s.harn.image = none)
    (h0 : 0 < fget w 4 0) (h16 : fget w 4 0 ≤ 16) : s.pwctl w = { s with sec := { s.sec with failed := true } } := by
  simp [State.pwctl, State.submit, hw, hh, hj, hg, h0.ne', h16, State.answerPw]

end

/-- The state that a rejection counts in, before its entry. -/
def State.rejecting (s : State) : State :=
  { s with sec := { s.sec with failed := true, failRun := satInc s.sec.failRun 255,
                               holdUntil := some (s.clock + if 7 ≤ s.sec.failRun then 60000000000 else 1000000000) } }

/-- The hold-off is the long one from the eighth rejection in a row on. -/
theorem eighth_rejection (n : Nat) : 8 ≤ satInc n 255 ↔ 7 ≤ n := by
  unfold satInc
  split <;> omega

theorem pwReject_eq (s : State) (src : CmdSource) :
    s.pwReject src = s.rejecting.logFrom tagPASS 0 (BitVec.ofNat 32 (satInc s.sec.failRun 255)) 1 (chanCode src.ch) := by
  simp only [State.pwReject, State.rejecting, eighth_rejection]

/-- What answers a submission leaves the security block, the device state and the portal dies alone. -/
theorem answerPw_eq (s : State) (src : CmdSource) (msg : Bool) (n : Nat) : ∃ x, s.answerPw src msg n = { s with nelz := x } := by
  unfold State.answerPw
  split
  · exact ⟨_, rfl⟩
  · exact ⟨s.nelz, rfl⟩

/-- A rejection of the password being computed, or submitted, by what holds of the security block. -/
theorem rejecting_logged (s : State) (src : CmdSource) {x : SecState} (hx : x = (s.pwReject src).sec) :
    x = { s.sec with
      failed := true, failRun := satInc s.sec.failRun 255, holdUntil := some (s.clock + if 7 ≤ s.sec.failRun then 60000000000 else 1000000000),
      log := x.log, nextSeq := s.sec.nextSeq + 1, unmirrored := x.unmirrored, logLost := x.logLost } ∧
    Logged s.sec tagPASS (BitVec.ofNat 32 (satInc s.sec.failRun 255)) 1 (chanCode src.ch) x := by
  rw [pwReject_eq] at hx
  exact logFrom_logged s.rejecting _ _ _ _ hx

theorem exec_passwordSubmit {s : State} (ha : s.portAlive = true) (hs : s.serves 0x50010 = true) (w : Word) :
    exec (.passwordSubmit w) s = settled s (s.pwctl w) := congrArg (settled s) (atPort_served ha hs fun t => t.pwctl w)

/-- A submission, by the state that it leads to. -/
theorem runs_passwordSubmit {s t : State} {w : Word} {Q : State → Prop} (hp : s.portFree) (ha : s.portAlive = true) (hs : s.serves 0x50010 = true)
    (ht : s.pwctl w = t) (hport : t.port = s.port) (hQ : ∀ u, AfterCommand s t u → Q u) : Runs (.passwordSubmit w) s Q :=
  .of_afterCommand (ht ▸ exec_passwordSubmit ha hs w) (hport ▸ hp) hQ

theorem submitting (s : State) (w : Word) (hp : s.portFree) (ha : s.portAlive = true) (hs : s.serves 0x50010 = true) :
    (wbit w 31 = false → Runs (.passwordSubmit w) s fun t => t.sec = s.sec ∧ t.psm = s.psm) ∧
    (s.sec.holdUntil.isSome = true → Runs (.passwordSubmit w) s fun t => t.sec = s.sec ∧ t.psm = s.psm) ∧
    (∀ g, wbit w 31 = true → s.sec.holdUntil = none → s.sec.pwJob = none → s.harn.image = some g → 0 < fget w 4 0 → fget w 4 0 ≤ 16 →
      Runs (.passwordSubmit w) s fun t => t.sec = { s.sec with
        pwd := .all 0, pwJob := some (PwJob.mk ⟨.host, 0⟩ (slice (wordBytes s.sec.pwd.toList) 0 (fget w 4 0)) g.salt g.pwHash) } ∧
        t.psm = s.psm ∧ t.portals = s.portals) ∧
    (∀ g, wbit w 31 = true → s.sec.holdUntil = none → s.sec.pwJob = none → s.harn.image = some g → fget w 4 0 = 0 ∨ 16 < fget w 4 0 →
      s.sec.failRun < 7 → Runs (.passwordSubmit w) s fun t => t.sec = { s.sec with
        failed := true, failRun := s.sec.failRun + 1, holdUntil := some (s.clock + 1000000000),
        log := t.sec.log, nextSeq := s.sec.nextSeq + 1, unmirrored := t.sec.unmirrored, logLost := t.sec.logLost } ∧
        Logged s.sec tagPASS (BitVec.ofNat 32 (s.sec.failRun + 1)) 1 1 t.sec ∧ t.psm = s.psm) ∧
    (wbit w 31 = true → s.sec.holdUntil = none → s.sec.pwJob = none → s.harn.image = none → fget w 4 0 = 0 →
      Runs (.passwordSubmit w) s fun t => t.sec = { s.sec with
        held := s.sec.held.setChan .host (some (HeldPassword.mk ⟨.host, 0⟩ s.clock)), failRun := 0 }) ∧
    (wbit w 31 = true → s.sec.holdUntil = none → s.sec.pwJob = none → s.harn.image = none → 0 < fget w 4 0 → fget w 4 0 ≤ 16 →
      Runs (.passwordSubmit w) s fun t => t.sec = { s.sec with failed := true }) := by
  refine ⟨fun hw => ?_, fun hh => ?_, fun g hw hh hj hg h0 h16 => ?_, fun g hw hh hj hg hlen h7 => ?_, fun hw hh hj hg h0 => ?_,
    fun hw hh hj hg h0 h16 => ?_⟩
  · exact runs_passwordSubmit hp ha hs (pwctl_idle hw) rfl fun u hu => ⟨hu.sec, hu.psm⟩
  · exact runs_passwordSubmit hp ha hs (pwctl_holdOff hh) rfl fun u hu => ⟨hu.sec, hu.psm⟩
  · exact runs_passwordSubmit hp ha hs (pwctl_computes hw hh hj hg h0 h16) rfl fun u hu => ⟨hu.sec, hu.psm, hu.portals⟩
  · refine runs_passwordSubmit hp ha hs (pwctl_badLength hw hh hj hg hlen) rfl fun u hu => ?_
    obtain ⟨hsec, hlog⟩ := rejecting_logged s _ hu.sec
    have hn : satInc s.sec.failRun 255 = s.sec.failRun + 1 := if_pos (by omega)
    rw [hn, if_neg (by omega)] at hsec
    rw [hn] at hlog
    exact ⟨hsec, hlog, hu.psm⟩
  · exact runs_passwordSubmit hp ha hs (pwctl_blank hw hh hj hg h0) rfl fun u hu => hu.sec
  · exact runs_passwordSubmit hp ha hs (pwctl_noImage hw hh hj hg h0 h16) rfl fun u hu => hu.sec

/-- The state in which the outcome of a computation is taken. -/
def State.computed (s : State) : State := { s with sec := { s.sec with pwJob := none }, nelz := { s.nelz with pwAnswer := none } }

theorem pwComputed_accepts {s : State} {j : PwJob} (hj : s.sec.pwJob = some j) (hok : (pbkdf2 j.bytes j.salt == j.hash && j.hash != zeros 32) = true) :
    s.pwComputed = (s.computed.pwAccept j.src).answerPw j.src s.nelz.pwAnswer.isSome 0 := by
  simp only [State.pwComputed, hj, hok, if_true, State.computed]

theorem pwComputed_rejects {s : State} {j : PwJob} (hj : s.sec.pwJob = some j) (hok : (pbkdf2 j.bytes j.salt == j.hash && j.hash != zeros 32) = false) :
    s.pwComputed = (s.computed.pwReject j.src).answerPw j.src s.nelz.pwAnswer.isSome 1 := by
  simp only [State.pwComputed, hj, hok, Bool.false_eq_true, if_false, State.computed]

theorem computing {s : State} {j : PwJob} (hp : s.portFree) (hj : s.sec.pwJob = some j) :
    ((pbkdf2 j.bytes j.salt == j.hash && j.hash != zeros 32) = true → Runs .passwordComputeComplete s fun t => t.sec = { s.sec with
      pwJob := none, held := s.sec.held.setChan j.src.ch (some ⟨j.src, s.clock⟩), failRun := 0 } ∧ t.psm = s.psm ∧ t.portals = s.portals) ∧
    ((pbkdf2 j.bytes j.salt == j.hash && j.hash != zeros 32) = false → Runs .passwordComputeComplete s fun t => t.sec = { s.sec with
      pwJob := none, failed := true, failRun := satInc s.sec.failRun 255,
      holdUntil := some (s.clock + if 7 ≤ s.sec.failRun then 60000000000 else 1000000000),
      log := t.sec.log, nextSeq := s.sec.nextSeq + 1, unmirrored := t.sec.unmirrored, logLost := t.sec.logLost } ∧
      Logged s.sec tagPASS (BitVec.ofNat 32 (satInc s.sec.failRun 255)) 1 (chanCode j.src.ch) t.sec ∧ t.psm = s.psm ∧ t.portals = s.portals) := by
  refine ⟨fun hok => ?_, fun hok => ?_⟩
  · obtain ⟨x, hx⟩ := answerPw_eq (s.computed.pwAccept j.src) j.src s.nelz.pwAnswer.isSome 0
    exact .of_afterCommand (congrArg (settled s) ((pwComputed_accepts hj hok).trans hx)) hp fun u hu => ⟨hu.sec, hu.psm, hu.portals⟩
  · obtain ⟨x, hx⟩ := answerPw_eq (s.computed.pwReject j.src) j.src s.nelz.pwAnswer.isSome 1
    refine .of_afterCommand (congrArg (settled s) ((pwComputed_rejects hj hok).trans hx)) hp fun u hu => ?_
    obtain ⟨hsec, hlog⟩ := rejecting_logged s.computed j.src hu.sec
    exact ⟨hsec, hlog, hu.psm, hu.portals⟩

/-! ### Seal switches (R103) -/

theorem exec_sealSwitchChange {s : State} (h1 : s.psm.porHeld = false) (h2 : s.psm.resetLow = false) (sw : BitVec 4) :
    exec (.sealSwitchChange sw) s = settled s (s.sealChange sw) := congrArg (settled s) (by simp [State.whenAlive, h1, h2])

theorem sealChange_quiet {s : State} {sw : BitVec 4} (h : s.fuse.compat = false ∨ s.psm.state ≠ .maintain ∨ s.sec.sealSw ≠ 15 ∨ sw = 15) :
    s.sealChange sw = { s with sec := { s.sec with sealSw := sw } } := by
  have hc : (s.fuse.compat && s.psm.state == .maintain && s.sec.sealSw == 15 && sw != 15) = false := by
    rw [Bool.eq_false_iff]
    intro hc
    simp only [Bool.and_eq_true, beq_iff_eq, bne_iff_ne] at hc
    obtain ⟨⟨⟨hcompat, hstate⟩, hseal⟩, hsw⟩ := hc
    simp_all
  simp only [State.sealChange, hc, Bool.false_eq_true, if_false]

theorem sealChange_drops {s : State} {sw : BitVec 4} (hc : s.fuse.compat = true) (hm : s.psm.state = .maintain) (h15 : s.sec.sealSw = 15) (hsw : sw ≠ 15) :
    s.sealChange sw = ({ s with sec := { s.sec with sealSw := sw, drop := true } } : State).logFrom tagSEAL 0 (BitVec.ofNat 32 sw.toNat) 0 4 := by
  have hclosed : (s.fuse.compat && s.psm.state == .maintain && s.sec.sealSw == 15 && sw != 15) = true := by simp [hc, hm, h15]; exact hsw
  unfold State.sealChange
  rw [hclosed]
  rfl

/-! ### Key slots (R97, R98) -/

/-- A register that shows the outcome of an operation. -/
theorem outcome_bits (w : Word) {bit : Nat} (hb : 3 < bit ∧ bit < 32) {why : Nat} (hw : why < 16) :
    wbit (fput (raise w bit) 3 0 why) bit = true ∧ fget (fput (raise w bit) 3 0 why) 3 0 = why := by
  constructor
  · rw [wbit_fput_ne _ _ _ (by omega) (.inr hb.1), wbit_raise_self _ _ hb.2]
  · rw [fget_fput_self _ _ _ _ (by omega) (by omega)]
    exact Nat.mod_eq_of_lt hw

/-- A refused key operation leaves its reason and an entry; where the device state refuses it, SEC_KEYCTL is not written either. -/
theorem keyStart_refused {s : State} {revoke : Bool} {k : Fin 4} (hj : s.sec.keyJob = none) (h0 : s.keyWhy revoke k ≠ 0) :
    ∃ x, s.keyStart revoke k =
      ({ s with sec := ({ s.sec with keyctl := x } : SecState).keyErr (s.keyWhy revoke k) } : State).logKey revoke k 1 := by
  unfold State.keyStart
  rw [if_neg (by simp [hj])]
  dsimp only
  rw [if_pos h0]
  split
  · exact ⟨s.sec.keyctl, rfl⟩
  · exact ⟨_, rfl⟩

/-- The hash to be programmed does not depend on the command written. -/
theorem keyValue_keyctl (x : SecState) (w : Word) : ({ x with keyctl := w } : SecState).keyValue = x.keyValue := by simp only [SecState.keyValue]

/-- The state in which the data cells of a key operation have been burnt. -/
def State.keyBurning (s : State) (revoke : Bool) (k : Fin 4) : State :=
  let j : KeyJob := ⟨revoke, k, s.sec.keyValue⟩
  { s with sec := { s.sec with keyJob := some j }, fuse := s.fuse.burnData j.rcd.1 j.rcd.2 }

theorem keyStart_burns {s : State} {revoke : Bool} {k : Fin 4} (hj : s.sec.keyJob = none) (hw : s.keyWhy revoke k = 0) :
    ∃ x, s.keyStart revoke k = ({ s with sec := { s.sec with keyctl := x } } : State).keyBurning revoke k := by
  unfold State.keyStart
  rw [if_neg (by simp [hj])]
  dsimp only
  rw [hw, if_neg (by decide), if_neg (by decide)]
  exact ⟨_, rfl⟩

/-- The command that programs or revokes a slot. -/
def keyCommand (revoke : Bool) (k : Fin 4) : Instr := if revoke then .keyRevoke k else .keyProgram k

section
variable {s : State} {revoke : Bool} {k : Fin 4}

theorem exec_keyCommand (ha : s.portAlive = true) (hs : s.serves 0x50020 = true) (revoke : Bool) (k : Fin 4) :
    exec (keyCommand revoke k) s = settled s (s.keyStart revoke k) := by
  cases revoke <;> exact congrArg (settled s) (atPort_served ha hs _)

theorem runs_keyRefused (hp : s.portFree) (ha : s.portAlive = true) (hs : s.serves 0x50020 = true) (hj : s.sec.keyJob = none) {why : Nat}
    (hw : s.keyWhy revoke k = why) (h0 : why ≠ 0) (h16 : why < 16) :
    Runs (keyCommand revoke k) s fun t => t.sec.keyJob = none ∧ t.fuse = s.fuse ∧ wbit t.sec.keystat 29 = true ∧ fget t.sec.keystat 3 0 = why := by
  subst hw
  obtain ⟨x, hx⟩ := keyStart_refused hj h0
  refine .of_afterCommand ((exec_keyCommand ha hs revoke k).trans (congrArg (settled s) hx)) hp fun u hu => ?_
  obtain ⟨hbit, hwhy⟩ := outcome_bits s.sec.keystat (bit := 29) (by omega) h16
  rw [hu.sec, hu.fuse]
  exact ⟨hj, rfl, hbit, hwhy⟩

theorem runs_keyBurns (hp : s.portFree) (ha : s.portAlive = true) (hs : s.serves 0x50020 = true) (hj : s.sec.keyJob = none)
    (hw : s.keyWhy revoke k = 0) :
    Runs (keyCommand revoke k) s fun t => t.sec.keyJob = some ⟨revoke, k, s.sec.keyValue⟩ ∧
      t.fuse = s.fuse.burnData (KeyJob.mk revoke k s.sec.keyValue).rcd.1 (KeyJob.mk revoke k s.sec.keyValue).rcd.2 ∧ t.psm = s.psm ∧
      t.harn = s.harn := by
  obtain ⟨x, hx⟩ := keyStart_burns hj hw
  refine .of_afterCommand ((exec_keyCommand ha hs revoke k).trans (congrArg (settled s) hx)) hp fun u hu => ?_
  rw [hu.sec, hu.fuse, ← keyValue_keyctl s.sec x]
  exact ⟨rfl, rfl, hu.psm, hu.harn rfl⟩

end

/-- Why a slot is not programmed or revoked in MAINTAIN with the seals closed and an image that is not of the slot. -/
theorem keyWhy_maintain {s : State} (hm : s.psm.state = .maintain) (hr : s.harn.recovery = false) (hl : s.sealLow = false) (k : Fin 4) :
    s.keyWhy false k = (if s.fuse.valid k || s.fuse.void.getLsbD k.val || !(s.fuse.keys.get k).cells.isEmpty then 2 else 0) ∧
    ∀ g, s.harn.image = some g → g.slot ≠ k.val → s.keyWhy true k = if s.fuse.goodSlots = [k] then 4 else 0 := by
  refine ⟨by simp [State.keyWhy, hm, hr, hl], fun g hg hslot => ?_⟩
  simp [State.keyWhy, hm, hr, hl, hg, hslot]

theorem keyWhy_notMaintain {s : State} (hm : s.psm.state ≠ .maintain) (revoke : Bool) (k : Fin 4) : s.keyWhy revoke k = 1 := if_pos hm

/-- The state that the end of a key operation records: the fuses, and the outcome in SEC_KEYSTAT. -/
def State.keyEnding (s : State) (j : KeyJob) (ok : Bool) : State :=
  let f := s.fuse.burnCheck j.rcd.1 j.rcd.2
  { s with
    fuse := if ok then f.reread else f
    sec := { s.sec with keyJob := none, keystat := fput (raise s.sec.keystat (if ok then 30 else 29)) 3 0 (if ok then 0 else 7) } }

theorem keyComplete_eq {s : State} {j : KeyJob} (hj : s.sec.keyJob = some j) (ok : Bool) :
    s.keyComplete ok = (s.keyEnding j ok).logKey j.revoke j.slot (if ok then 0 else 2) := by
  unfold State.keyComplete
  rw [hj]
  cases ok <;> rfl

theorem runs_keyComplete {s : State} {j : KeyJob} (hp : s.portFree) (hj : s.sec.keyJob = some j) (ok : Bool) :
    Runs (.keyOperationComplete ok) s fun t =>
      t.fuse = (s.keyEnding j ok).fuse ∧
      t.sec = { s.sec with
        keyJob := none, keystat := t.sec.keystat, log := t.sec.log, nextSeq := s.sec.nextSeq + 1, unmirrored := t.sec.unmirrored,
        logLost := t.sec.logLost } ∧
      Logged s.sec (if j.revoke then tagKREV else tagKEYP) (BitVec.ofNat 32 j.slot.val) (if ok then 0 else 2) 1 t.sec ∧
      wbit t.sec.keystat (if ok then 30 else 29) = true ∧ fget t.sec.keystat 3 0 = (if ok then 0 else 7) ∧ t.psm = s.psm ∧ t.harn = s.harn := by
  refine .of_afterCommand (congrArg (settled s) (keyComplete_eq hj ok)) hp fun u hu => ?_
  obtain ⟨hsec, hlog⟩ := logFrom_logged (s.keyEnding j ok) _ _ _ _ hu.sec
  obtain ⟨hbit, hwhy⟩ := outcome_bits s.sec.keystat (bit := if ok then 30 else 29) (by cases ok <;> decide) (why := if ok then 0 else 7)
    (by cases ok <;> decide)
  have hkeystat : u.sec.keystat = fput (raise s.sec.keystat (if ok then 30 else 29)) 3 0 (if ok then 0 else 7) := congrArg SecState.keystat hu.sec
  refine ⟨hu.fuse, ?_, hlog, ?_, ?_, hu.psm, hu.harn rfl⟩
  · rw [hkeystat]
    exact hsec
  · rwa [hkeystat]
  · rwa [hkeystat]

/-! ### The obligation -/

/-- Settles O50, by what each operation comes to on the branches that the rules name. -/
theorem passwordsSealsAndKeys : Obligations.PasswordsSealsAndKeys := by
  unfold Obligations.PasswordsSealsAndKeys
  refine ⟨submitting, fun s j => computing, fun s ch hp => ?_, fun s hp => ?_, fun s sw hp h1 h2 hq => ?_, fun s sw hp h1 h2 hc hm h15 hsw => ?_,
    fun s k hp ha hs hj => ⟨fun hm hr hl hv hvoid hcells => ?_, fun hm hr hl hv => ?_, fun g hm hr hl hg hslot hgood => ?_,
      fun g hm hr hl hg hslot hgood => ?_, fun hm c hmem => ?_⟩, fun s j hp hj => ⟨runs_keyComplete hp hj true, runs_keyComplete hp hj false⟩⟩
  · exact .of_afterCommand rfl hp fun u hu => ⟨hu.sec, hu.psm, hu.portals⟩
  · exact .of_afterCommand rfl hp fun u hu => ⟨hu.sec, hu.psm, hu.portals⟩
  · exact .of_afterCommand ((exec_sealSwitchChange h1 h2 sw).trans (congrArg (settled s) (sealChange_quiet hq))) hp fun u hu =>
      ⟨hu.sec, hu.psm, hu.portals⟩
  · refine .of_afterCommand ((exec_sealSwitchChange h1 h2 sw).trans (congrArg (settled s) (sealChange_drops hc hm h15 hsw))) hp fun u hu => ?_
    obtain ⟨hsec, hlog⟩ := logFrom_logged _ _ _ _ _ hu.sec
    exact ⟨hsec, hlog, hu.psm, hu.portals⟩
  · refine runs_keyBurns (revoke := false) hp ha hs hj ?_
    rw [(keyWhy_maintain hm hr hl k).1, hv, hvoid, hcells]
    rfl
  · refine runs_keyRefused (revoke := false) hp ha hs hj ?_ (by decide) (by decide)
    simp [(keyWhy_maintain hm hr hl k).1, hv]
  · exact runs_keyBurns (revoke := true) hp ha hs hj (((keyWhy_maintain hm hr hl k).2 g hg hslot).trans (if_neg hgood))
  · exact runs_keyRefused (revoke := true) hp ha hs hj (((keyWhy_maintain hm hr hl k).2 g hg hslot).trans (if_pos hgood)) (by decide) (by decide)
  · have hrefused := fun revoke => runs_keyRefused hp ha hs hj (keyWhy_notMaintain hm revoke k) (by decide) (by decide)
    rcases List.mem_pair.1 hmem with rfl | rfl
    · exact hrefused false
    · exact hrefused true

end Sys2Proof.Machine
end


section
/-! Flash commands (R104 to R106): how each starts or is refused, and how its end writes the flash, judges a region or takes its image. -/

namespace Sys2Proof.Machine

/-! ### HARN_FLSTAT -/

section
variable (h : HarnState) (r : Region)

theorem flErr_flstat {why : Nat} (hw : why < 16) : wbit (h.flErr why).flstat 29 = true ∧ fget (h.flErr why).flstat 27 24 = why := by
  unfold HarnState.flErr
  constructor
  · rw [wbit_fput_ne _ _ _ (by omega) (by omega), wbit_raise_self _ _ (by omega)]
  · rw [fget_fput_self _ _ _ _ (by omega) (by omega)]
    exact Nat.mod_eq_of_lt hw

theorem flDone_flstat : wbit h.flDone.flstat 30 = true := by
  unfold HarnState.flDone
  rw [wbit_fput_ne _ _ _ (by omega) (by omega), wbit_raise_self _ _ (by omega)]

theorem regionBit_lt : regionBit r < 2 := by cases r <;> decide

theorem regOk_setOk (ok : Bool) : (h.setOk r ok).regOk r = ok := by
  have hr := regionBit_lt r
  unfold HarnState.regOk HarnState.setOk
  rw [wbit_putBit, if_pos ⟨rfl, by omega⟩]

/-- What a command's outcome leaves of REG_OK and of the result of VERIFY. -/
theorem regOk_flErr (why : Nat) : (h.flErr why).regOk r = h.regOk r := by
  have hr := regionBit_lt r
  simp only [HarnState.regOk, HarnState.flErr]
  rw [wbit_fput_ne _ _ _ (by omega) (by omega), wbit_raise_ne _ (by omega)]

theorem regOk_flDone : h.flDone.regOk r = h.regOk r := by
  have hr := regionBit_lt r
  simp only [HarnState.regOk, HarnState.flDone]
  rw [wbit_fput_ne _ _ _ (by omega) (by omega), wbit_raise_ne _ (by omega)]

theorem flDone_result : fget h.flDone.flstat 18 16 = fget h.flstat 18 16 := by
  simp only [HarnState.flDone, raise]
  rw [fget_fput_ne _ _ (by omega) (by omega) (by omega), fget_putBit_ne _ _ _ (by omega) (by omega)]

theorem setOk_result (ok : Bool) : fget (h.setOk r ok).flstat 18 16 = fget h.flstat 18 16 := by
  have hr := regionBit_lt r
  exact fget_putBit_ne _ _ _ (by omega) (by omega)

end

/-! ### The start of a command -/

/-- The command of a code, 1 to 5, on a region. -/
def flashCommand : Fin 5 → Region → Instr
  | 0, r => .flashCopy r
  | 1, r => .flashErase r
  | 2, r => .flashProgram r
  | 3, r => .flashVerify r
  | 4, r => .flashActivate r

/-- The code that HARN_FLCTL has for it. -/
abbrev flashCode (c : Fin 5) : Nat := c.val + 1

theorem flashCommand_of_mem {r : Region} {c : Instr} (hc : c ∈ [Instr.flashCopy r, .flashErase r, .flashProgram r, .flashVerify r, .flashActivate r]) :
    ∃ n, c = flashCommand n r := by
  simp only [List.mem_cons, List.not_mem_nil, or_false] at hc
  rcases hc with rfl | rfl | rfl | rfl | rfl
  · exact ⟨0, rfl⟩
  · exact ⟨1, rfl⟩
  · exact ⟨2, rfl⟩
  · exact ⟨3, rfl⟩
  · exact ⟨4, rfl⟩

section
variable {s : State} {r : Region}

theorem exec_flashCommand (ha : s.portAlive = true) (hs : s.serves 0x4020 = true) (n : Fin 5) (r : Region) :
    exec (flashCommand n r) s = settled s (s.flashStart (flashCode n) r) := by
  match n with
  | 0 | 1 | 2 | 3 | 4 => exact congrArg (settled s) (atPort_served ha hs _)

/-- A command that is refused leaves its reason, and HARN_FLCTL as written unless the device state or recovery MAINTAIN refuses it. -/
theorem flashStart_refused {n : Nat} (h0 : s.flashWhy n r ≠ 0) :
    ∃ w, s.flashStart n r = { s with harn := ({ s.harn with flctl := w } : HarnState).flErr (s.flashWhy n r) } ∧
      (s.flashWhy n r = 1 → w = s.harn.flctl) := by
  unfold State.flashStart
  dsimp only
  rw [if_pos h0]
  split
  · exact ⟨s.harn.flctl, rfl, fun _ => rfl⟩
  next hn => exact ⟨_, rfl, fun h1 => absurd (.inl h1) hn⟩

theorem jobOf_flctl (h : HarnState) (w : Word) (n : Nat) (r : Region) : ({ h with flctl := w } : HarnState).jobOf n r = h.jobOf n r := by
  unfold HarnState.jobOf
  split <;> rfl

/-- The harness block with a command under way; one that writes the flash takes REG_OK of its region back. -/
def HarnState.starting (h : HarnState) (n : Nat) (r : Region) : HarnState :=
  if n ≤ 3 then ({ h with job := some (h.jobOf n r) } : HarnState).setOk r false else { h with job := some (h.jobOf n r) }

theorem starting_spec (h : HarnState) (n : Nat) (r : Region) :
    (h.starting n r).job = some (h.jobOf n r) ∧ (h.starting n r).flash = h.flash ∧ (h.starting n r).image = h.image ∧
      (n ≤ 3 → (h.starting n r).regOk r = false) := by
  unfold HarnState.starting
  split
  · exact ⟨rfl, rfl, rfl, fun _ => regOk_setOk ..⟩
  next hn => exact ⟨rfl, rfl, rfl, fun h3 => absurd h3 hn⟩

theorem flashStart_starts {n : Nat} (h0 : s.flashWhy n r = 0) :
    ∃ w, s.flashStart n r = { s with harn := ({ s.harn with flctl := w } : HarnState).starting n r } := by
  unfold State.flashStart
  rw [h0]
  exact ⟨_, rfl⟩

variable (hp : s.portFree) (ha : s.portAlive = true) (hs : s.serves 0x4020 = true)
include hp ha hs

/-- A refused command changes HARN_FLCTL and HARN_FLSTAT at most. -/
theorem runs_flashRefused (n : Fin 5) {why : Nat} (hw : s.flashWhy (flashCode n) r = why) (h0 : why ≠ 0) (h16 : why < 16) :
    Runs (flashCommand n r) s fun t => (∃ w, t.harn = { s.harn with flctl := w, flstat := t.harn.flstat } ∧ (why = 1 → w = s.harn.flctl)) ∧
      wbit t.harn.flstat 29 = true ∧ fget t.harn.flstat 27 24 = why := by
  subst hw
  obtain ⟨w, heq, hflctl⟩ := flashStart_refused h0
  refine .of_afterCommand ((exec_flashCommand ha hs n r).trans (congrArg (settled s) heq)) hp fun u hu => ?_
  rw [hu.harn rfl]
  exact ⟨⟨w, rfl, hflctl⟩, flErr_flstat _ h16⟩

theorem runs_flashStarts (n : Fin 5) (hw : s.flashWhy (flashCode n) r = 0) :
    Runs (flashCommand n r) s fun t => t.harn.job = some (s.harn.jobOf (flashCode n) r) ∧ t.harn.flash = s.harn.flash ∧ t.harn.image = s.harn.image ∧
      (flashCode n ≤ 3 → t.harn.regOk r = false) ∧ t.psm = s.psm := by
  obtain ⟨w, heq⟩ := flashStart_starts hw
  refine .of_afterCommand ((exec_flashCommand ha hs n r).trans (congrArg (settled s) heq)) hp fun u hu => ?_
  obtain ⟨hjob, hflash, himage, hreg⟩ := starting_spec { s.harn with flctl := w } (flashCode n) r
  rw [hu.harn rfl, ← jobOf_flctl s.harn w]
  exact ⟨hjob, hflash, himage, hreg, hu.psm⟩

end

/-! ### Why a command is refused -/

section
variable {s : State} {r : Region}

theorem flashWhy_notMaintain (hm : s.psm.state ≠ .maintain) (n : Nat) : s.flashWhy n r = 1 := if_pos hm

theorem flashWhy_busy (hm : s.psm.state = .maintain) (hj : s.harn.job.isSome = true) (n : Nat) : s.flashWhy n r = 7 := by simp [State.flashWhy, hm, hj]

variable (hm : s.psm.state = .maintain) (hj : s.harn.job = none) (hl : s.sealLow = false)
include hm hj hl

theorem flashWhy_copy (hr : s.harn.recovery = false) : s.flashWhy 1 r = if s.harn.isActive r then 2 else 0 := by simp [State.flashWhy, hm, hj, hl, hr]

theorem flashWhy_erase (ha : s.harn.isActive r = false) : s.flashWhy 2 r = 0 := by simp [State.flashWhy, hm, hj, hl, ha]

theorem flashWhy_program (ha : s.harn.isActive r = false) : s.flashWhy 3 r = if s.harn.fladdr &&& 0xFFC000FF ≠ 0 then 3 else 0 := by
  simp [State.flashWhy, hm, hj, hl, ha]

theorem flashWhy_verify : s.flashWhy 4 r = 0 := by simp [State.flashWhy, hm, hj, hl]

theorem flashWhy_activate : s.flashWhy 5 r = if s.harn.regOk r then 0 else 6 := by simp [State.flashWhy, hm, hj, hl]

end

/-- The starts and refusals that the rules name. -/
theorem flashStarting {s : State} {r : Region} (hp : s.portFree) (ha : s.portAlive = true) (hs : s.serves 0x4020 = true) :
    (s.psm.state ≠ .maintain → ∀ c ∈ [Instr.flashCopy r, .flashErase r, .flashProgram r, .flashVerify r, .flashActivate r], Runs c s fun t =>
      t.harn = { s.harn with flstat := t.harn.flstat } ∧ wbit t.harn.flstat 29 = true ∧ fget t.harn.flstat 27 24 = 1) ∧
    (s.psm.state = .maintain → s.harn.job.isSome = true →
      ∀ c ∈ [Instr.flashCopy r, .flashErase r, .flashProgram r, .flashVerify r, .flashActivate r], Runs c s fun t =>
      t.harn.job = s.harn.job ∧ t.harn.flash = s.harn.flash ∧ wbit t.harn.flstat 29 = true ∧ fget t.harn.flstat 27 24 = 7) ∧
    (s.psm.state = .maintain → s.harn.job = none → s.sealLow = false →
      (s.harn.recovery = false → s.harn.isActive r = false → Runs (.flashCopy r) s fun t =>
        t.harn.job = some (.copy r) ∧ t.harn.regOk r = false ∧ t.harn.flash = s.harn.flash ∧ t.psm = s.psm) ∧
      (s.harn.recovery = false → s.harn.isActive r = true → Runs (.flashCopy r) s fun t =>
        t.harn.job = none ∧ t.harn.flash = s.harn.flash ∧ wbit t.harn.flstat 29 = true ∧ fget t.harn.flstat 27 24 = 2) ∧
      (s.harn.isActive r = false → Runs (.flashErase r) s fun t =>
        t.harn.job = some (.erase r) ∧ t.harn.regOk r = false ∧ t.harn.flash = s.harn.flash ∧ t.psm = s.psm) ∧
      (s.harn.isActive r = false → s.harn.fladdr &&& 0xFFC000FF = 0 → Runs (.flashProgram r) s fun t =>
        t.harn.job = some (.program r (fget s.harn.fladdr 21 8) (wordBytes s.harn.buf)) ∧ t.harn.regOk r = false ∧
          t.harn.flash = s.harn.flash ∧ t.psm = s.psm) ∧
      (s.harn.isActive r = false → s.harn.fladdr &&& 0xFFC000FF ≠ 0 → Runs (.flashProgram r) s fun t =>
        t.harn.job = none ∧ t.harn.flash = s.harn.flash ∧ wbit t.harn.flstat 29 = true ∧ fget t.harn.flstat 27 24 = 3) ∧
      (Runs (.flashVerify r) s fun t => t.harn.job = some (.verify r) ∧ t.harn.flash = s.harn.flash ∧ t.psm = s.psm) ∧
      (s.harn.regOk r = true → Runs (.flashActivate r) s fun t =>
        t.harn.job = some (.activate r) ∧ t.harn.image = s.harn.image ∧ t.harn.flash = s.harn.flash ∧ t.psm = s.psm) ∧
      (s.harn.regOk r = false → Runs (.flashActivate r) s fun t =>
        t.harn.job = none ∧ t.harn.image = s.harn.image ∧ wbit t.harn.flstat 29 = true ∧ fget t.harn.flstat 27 24 = 6)) := by
  have refused := fun n why => runs_flashRefused (r := r) (why := why) hp ha hs n
  have starts := fun n => runs_flashStarts (r := r) hp ha hs n
  refine ⟨fun hm c hc => ?_, fun hm hj c hc => ?_, fun hm hj hl => ⟨fun hr hact => ?_, fun hr hact => ?_, fun hact => ?_, fun hact haddr => ?_,
    fun hact haddr => ?_, ?_, fun hok => ?_, fun hok => ?_⟩⟩
  · obtain ⟨n, rfl⟩ := flashCommand_of_mem hc
    refine (refused n 1 (flashWhy_notMaintain hm _) (by decide) (by decide)).mono fun t ⟨⟨w, hharn, hw⟩, hflags⟩ => ⟨?_, hflags⟩
    rwa [hw rfl] at hharn
  · obtain ⟨n, rfl⟩ := flashCommand_of_mem hc
    refine (refused n 7 (flashWhy_busy hm hj _) (by decide) (by decide)).mono fun t ⟨⟨w, hharn, _⟩, hflags⟩ => ?_
    exact ⟨(congrArg HarnState.job hharn :), (congrArg HarnState.flash hharn :), hflags⟩
  · exact (starts 0 ((flashWhy_copy hm hj hl hr).trans (by rw [hact]; rfl))).mono fun t ⟨hjob, hflash, _, hreg, hpsm⟩ => ⟨hjob, hreg (by decide), hflash, hpsm⟩
  · refine (refused 0 2 ((flashWhy_copy hm hj hl hr).trans (by rw [hact]; rfl)) (by decide) (by decide)).mono fun t ⟨⟨w, hharn, _⟩, hflags⟩ => ?_
    exact ⟨(congrArg HarnState.job hharn :).trans hj, (congrArg HarnState.flash hharn :), hflags⟩
  · exact (starts 1 (flashWhy_erase hm hj hl hact)).mono fun t ⟨hjob, hflash, _, hreg, hpsm⟩ => ⟨hjob, hreg (by decide), hflash, hpsm⟩
  · exact (starts 2 ((flashWhy_program hm hj hl hact).trans (if_neg (not_not.2 haddr)))).mono
      fun t ⟨hjob, hflash, _, hreg, hpsm⟩ => ⟨hjob, hreg (by decide), hflash, hpsm⟩
  · refine (refused 2 3 ((flashWhy_program hm hj hl hact).trans (if_pos haddr)) (by decide) (by decide)).mono fun t ⟨⟨w, hharn, _⟩, hflags⟩ => ?_
    exact ⟨(congrArg HarnState.job hharn :).trans hj, (congrArg HarnState.flash hharn :), hflags⟩
  · exact (starts 3 (flashWhy_verify hm hj hl)).mono fun t ⟨hjob, hflash, _, _, hpsm⟩ => ⟨hjob, hflash, hpsm⟩
  · exact (starts 4 ((flashWhy_activate hm hj hl).trans (if_pos hok))).mono fun t ⟨hjob, hflash, himage, _, hpsm⟩ => ⟨hjob, himage, hflash, hpsm⟩
  · refine (refused 4 6 ((flashWhy_activate hm hj hl).trans (by rw [hok]; rfl)) (by decide) (by decide)).mono fun t ⟨⟨w, hharn, _⟩, hflags⟩ => ?_
    exact ⟨(congrArg HarnState.job hharn :).trans hj, (congrArg HarnState.image hharn :), hflags⟩

end Sys2Proof.Machine
end


section
/-! The ends of flash commands (R104, R106). -/

namespace Sys2Proof.Machine

/-! ### What an end leaves of the state -/

/-- `t` has the harness block of `s` but for the downloads that are pending, and its device state and host port. -/
structure KeepsHarness (s t : State) : Prop where
  harn : t.harn = { s.harn with dlPend := t.harn.dlPend }
  psm : t.psm = s.psm
  port : t.port = s.port

namespace KeepsHarness

theorem refl (s : State) : KeepsHarness s s := ⟨rfl, rfl, rfl⟩

theorem trans {s t u : State} (h : KeepsHarness s t) (g : KeepsHarness t u) : KeepsHarness s u :=
  ⟨by rw [g.harn, h.harn], g.psm.trans h.psm, g.port.trans h.port⟩

theorem foldl {α : Type} {f : State → α → State} (h : ∀ s a, KeepsHarness s (f s a)) (l : List α) (s : State) : KeepsHarness s (l.foldl f s) := by
  induction l generalizing s with
  | nil => exact .refl s
  | cons a r ih => exact (h s a).trans (ih _)

theorem logEntry (s : State) (tool tag old new : Word) (result source : Nat) : KeepsHarness s (s.logEntry tool tag old new result source) := ⟨rfl, rfl, rfl⟩

theorem logFrom (s : State) (tag old new : Word) (result source : Nat) : KeepsHarness s (s.logFrom tag old new result source) := ⟨rfl, rfl, rfl⟩

theorem configure (s : State) (g : Image) : KeepsHarness s (s.configure g) := by
  obtain ⟨f, l, cs, n, a, q, h⟩ := configure_eq s g
  rw [h]
  exact ⟨rfl, rfl, rfl⟩

theorem download (s : State) (p : PortalId) : KeepsHarness s (s.download p) := ⟨rfl, rfl, rfl⟩

theorem downloadAll (s : State) : KeepsHarness s s.downloadAll := by
  refine foldl (fun s p => ?_) _ s
  split
  · exact download s p
  · exact ⟨rfl, rfl, rfl⟩

end KeepsHarness

/-! ### The ends -/

section
variable {s : State} {r : Region}

/-- The state in which the command has ended. -/
def State.jobOver (s : State) : State := { s with harn := { s.harn with job := none } }

/-- An end that leaves an entry in the log, or none. -/
theorem flashWritten_ok (s : State) (r : Region) (log : Bool) (a n : Nat) (m : List Host.Cell) :
    ∃ x y, s.flashWritten r true log a n m = { s with harn := ({ s.harn with flash := m } : HarnState).flDone, sec := x, arch := y } := by
  cases log with
  | true => exact ⟨_, _, rfl⟩
  | false => exact ⟨s.sec, s.arch, rfl⟩

/-- A write that the device has carried out. -/
theorem runs_flashWritten {ok log : Bool} {a n : Nat} {m : List Host.Cell} (hp : s.portFree)
    (h : s.flashComplete ok = s.jobOver.flashWritten r true log a n m) :
    Runs (.flashCommandComplete ok) s fun t => t.harn.flash = m ∧ t.harn.job = none ∧ wbit t.harn.flstat 30 = true ∧
      t.harn.image = s.harn.image ∧ t.psm = s.psm ∧ t.portals = s.portals := by
  obtain ⟨x, y, hw⟩ := flashWritten_ok s.jobOver r log a n m
  refine .of_afterCommand (congrArg (settled s) (h.trans hw)) hp fun u hu => ?_
  rw [hu.harn rfl]
  exact ⟨rfl, rfl, flDone_flstat _, rfl, hu.psm, hu.portals⟩

theorem flashComplete_erase (hj : s.harn.job = some (.erase r)) :
    s.flashComplete true = s.jobOver.flashWritten r true true (regionBase r) regionSize (memErase s.harn.flash (regionBase r) regionSize) := by
  unfold State.flashComplete
  rw [hj]
  rfl

theorem flashComplete_program {b : Nat} {d : List Byte} (hj : s.harn.job = some (.program r b d)) :
    s.flashComplete true =
      s.jobOver.flashWritten r true (b == 0) (regionBase r + 256 * b) 256 (memPut 0xFF s.harn.flash (regionBase r + 256 * b) d) := by
  unfold State.flashComplete
  rw [hj]
  rfl

theorem flashComplete_verify (hj : s.harn.job = some (.verify r)) (ok : Bool) :
    s.flashComplete ok = if ok then s.jobOver.verified r else { s with harn := s.jobOver.harn.flErr 5 } := by
  unfold State.flashComplete
  rw [hj]
  rfl

theorem flashComplete_activate (hj : s.harn.job = some (.activate r)) : s.flashComplete true = s.jobOver.activated r := by
  unfold State.flashComplete
  rw [hj]
  rfl

theorem runs_verified (hp : s.portFree) (hj : s.harn.job = some (.verify r)) :
    Runs (.flashCommandComplete true) s fun t => t.harn.regOk r = decide ((checkImage s.harn.flash s.fuse r).why = 0) ∧
      fget t.harn.flstat 18 16 = (checkImage s.harn.flash s.fuse r).why % 8 ∧ t.harn.flash = s.harn.flash ∧ t.harn.job = none ∧
      t.harn.image = s.harn.image ∧ t.psm = s.psm ∧ t.portals = s.portals := by
  refine .of_afterCommand (congrArg (settled s) ((flashComplete_verify hj true).trans (if_pos rfl))) hp fun u hu => ?_
  rw [hu.harn rfl]
  unfold State.verified
  dsimp only
  rw [regOk_flDone, regOk_setOk, flDone_result, setOk_result, fget_fput_self _ _ _ _ (by omega) (by omega)]
  exact ⟨rfl, rfl, rfl, rfl, rfl, hu.psm, hu.portals⟩

theorem runs_verifyFails (hp : s.portFree) (hj : s.harn.job = some (.verify r)) :
    Runs (.flashCommandComplete false) s fun t => t.harn.job = none ∧ t.harn.flash = s.harn.flash ∧ wbit t.harn.flstat 29 = true ∧
      fget t.harn.flstat 27 24 = 5 := by
  refine .of_afterCommand (congrArg (settled s) ((flashComplete_verify hj false).trans (if_neg (by decide)))) hp fun u hu => ?_
  rw [hu.harn rfl]
  exact ⟨rfl, rfl, flErr_flstat _ (by decide)⟩

/-- An image that passes is taken into the state, which is then configured from it. -/
theorem activated_takes {g : Image} (hg : (checkImage s.harn.flash s.fuse r).image = some g) :
    ∃ u w, KeepsHarness (({ s with harn := { s.harn with flstat := w } } : State).takeImage g) u ∧
      s.activated r = { u with harn := u.harn.flDone } := by
  unfold State.activated
  dsimp only
  rw [hg]
  exact ⟨_, _, (((KeepsHarness.configure _ g).trans (.downloadAll _)).trans (.foldl (fun s x => .logEntry ..) _ _)).trans (.logFrom ..), rfl⟩

theorem runs_activated {g : Image} (hp : s.portFree) (hj : s.harn.job = some (.activate r)) (hg : (checkImage s.harn.flash s.fuse r).image = some g) :
    Runs (.flashCommandComplete true) s fun t => t.harn.image = some g ∧ t.harn.job = none ∧ wbit t.harn.flstat 30 = true ∧ t.psm.grant = g.grant := by
  obtain ⟨v, w, ⟨hharn, hpsm, hport⟩, heq⟩ := activated_takes (s := s.jobOver) hg
  refine .of_afterCommand (congrArg (settled s) ((flashComplete_activate hj).trans heq)) ((congrArg (fun x => x.pending) hport).trans hp) fun u hu => ?_
  rw [hu.harn (congrArg PsmState.state hpsm :), hu.psm]
  exact ⟨(congrArg HarnState.image hharn :), (congrArg HarnState.job hharn :), flDone_flstat _, (congrArg PsmState.grant hpsm :)⟩

theorem activated_refused (hg : (checkImage s.harn.flash s.fuse r).image = none) :
    ∃ x y w, s.activated r = { s with harn := (({ s.harn with flstat := w } : HarnState).setOk r false).flErr 6, sec := x, arch := y } := by
  unfold State.activated
  dsimp only
  rw [hg]
  exact ⟨_, _, _, rfl⟩

theorem runs_activateRefused (hp : s.portFree) (hj : s.harn.job = some (.activate r)) (hg : (checkImage s.harn.flash s.fuse r).image = none) :
    Runs (.flashCommandComplete true) s fun t => t.harn.image = s.harn.image ∧ t.harn.job = none ∧ t.harn.regOk r = false ∧
      wbit t.harn.flstat 29 = true ∧ fget t.harn.flstat 27 24 = 6 := by
  obtain ⟨x, y, w, heq⟩ := activated_refused (s := s.jobOver) hg
  refine .of_afterCommand (congrArg (settled s) ((flashComplete_activate hj).trans heq)) hp fun u hu => ?_
  rw [hu.harn rfl]
  exact ⟨rfl, rfl, (regOk_flErr ..).trans (regOk_setOk ..), flErr_flstat _ (by decide)⟩

theorem runs_noJob (hj : s.harn.job = none) (hp : s.portFree) (ok : Bool) : Runs (.flashCommandComplete ok) s fun t => t.harn = s.harn := by
  have hc : s.flashComplete ok = s := by
    unfold State.flashComplete
    rw [hj]
  exact .of_afterCommand (congrArg (settled s) hc) hp fun u hu => hu.harn rfl

end

end Sys2Proof.Machine
end


section
/-! Ticks and timers of the host fabric (R92, R93). -/

namespace Sys2Proof.Machine

/-! ### The two pairs' ticks -/

/-- A pair's fabric after a tick, with the first destination that its copies differ in. -/
def State.pairTick (s : State) (u : List FabricUpset) (j : PairId) : PairFabric × Option Nat :=
  (s.fabric.pairs.pair j).tick s.hostCells s.hostTimers s.fabricSrc (upsetCells u j false) (upsetCells u j true)

/-- What the destinations are driven to at the tick of pair `j`. -/
def State.drivenBy (s : State) (u : List FabricUpset) (j : PairId) : BitVec 2176 :=
  if (s.pairTick u j).2 = none ∧ s.lock.lead = some j then (s.pairTick u j).1.copyA.destWord s.hostCells 2176 else s.fabric.dest

theorem tickPair_eq {s : State} {j : PairId} (hr : (s.pair j).state.runs = true) (u : List FabricUpset) :
    ∃ x, s.tickPair u j = ({ s with fabric := ⟨s.fabric.pairs.setPair j (s.pairTick u j).1, s.drivenBy u j⟩, harn := { s.harn with fcmp := x } },
      (s.pairTick u j).2.isSome) := by
  unfold State.pair at hr
  unfold State.tickPair State.drivenBy State.pairTick
  rw [if_neg (by simp [hr])]
  dsimp only
  generalize (s.fabric.pairs.pair j).tick _ _ _ _ _ = r
  obtain ⟨f, d⟩ := r
  cases d with
  | some d => exact ⟨_, rfl⟩
  | none =>
    refine ⟨s.harn.fcmp, ?_⟩
    by_cases hl : s.lock.lead = some j
    · simp [hl]
    · simp [hl]

theorem drivenBy_other {s : State} {j : PairId} (h : s.lock.lead ≠ some j) (u : List FabricUpset) : s.drivenBy u j = s.fabric.dest :=
  if_neg fun hc => h hc.2

/-- Both pairs' fabrics have ticked; the lead's destinations are driven unless its copies differ. -/
def State.ticked (s : State) (u : List FabricUpset) (i : PairId) (x : Word) : State :=
  { s with fabric := ⟨⟨(s.pairTick u .pommel).1, (s.pairTick u .cantle).1⟩, s.drivenBy u i⟩, harn := { s.harn with fcmp := x } }

/-- A pair fails where its copies differ. -/
def State.failedIf (s : State) (b : Bool) (j : PairId) : State := if b then s.fabricFailed j else s

theorem fabricTick_eq {s : State} {i : PairId} (hl : s.lock.lead = some i) (hr : ∀ j, (s.pair j).state.runs = true) (u : List FabricUpset) :
    ∃ x, s.fabricTick u = s.risingRequests
      (((s.ticked u i x).failedIf (s.pairTick u .pommel).2.isSome .pommel).failedIf (s.pairTick u .cantle).2.isSome .cantle) := by
  obtain ⟨x, hx⟩ := tickPair_eq (hr .pommel) u
  let t : State := { s with
    fabric := ⟨s.fabric.pairs.setPair .pommel (s.pairTick u .pommel).1, s.drivenBy u .pommel⟩, harn := { s.harn with fcmp := x } }
  obtain ⟨y, hy⟩ := tickPair_eq (s := t) (hr .cantle) u
  have hdriven : t.drivenBy u .cantle = s.drivenBy u i := by
    cases i with
    | pommel => exact drivenBy_other (by rw [show t.lock.lead = some .pommel from hl]; decide) u
    | cantle =>
      have hdest : t.fabric.dest = s.fabric.dest := drivenBy_other (by rw [hl]; decide) u
      unfold State.drivenBy
      rw [hdest]
      rfl
  refine ⟨y, ?_⟩
  unfold State.fabricTick
  dsimp only
  rw [hx]
  change s.risingRequests (if (t.tickPair u .cantle).2 then _ else _) = _
  rw [hy, hdriven]
  rfl

theorem hostRequest_eq (s : State) (m : Nat) : ∃ c, s.hostRequest m = { s with cans := c } := by
  unfold State.hostRequest
  extract_lets c n o
  split
  · exact ⟨_, rfl⟩
  · exact ⟨s.cans, rfl⟩

/-- Requests that rise are a matter of the controllers. -/
theorem risingRequests_eq (s t : State) : ∃ c, s.risingRequests t = { t with cans := c } := by
  unfold State.risingRequests
  dsimp only
  generalize List.range 64 = l
  generalize s.fabric.dest = old
  induction l generalizing t with
  | nil => exact ⟨t.cans, rfl⟩
  | cons m l ih =>
    rw [List.foldl_cons]
    obtain ⟨c, hc⟩ : ∃ c, (if wbit t.fabric.dest (0x840 + m) && !wbit old (0x840 + m) then t.hostRequest m else t) = { t with cans := c } := by
      split
      · exact hostRequest_eq t m
      · exact ⟨t.cans, rfl⟩
    rw [hc]
    exact ih _

/-! ### A pair whose copies differ (R93, R273, R280) -/

section
variable {s : State} {i : PairId}

theorem countFail_counts (hf : (s.pair i).fails < 3) : s.countFail i = s.modPair i fun x => { x with fails := satInc (s.pair i).fails 15 } := by
  refine if_neg ?_
  unfold satInc
  split <;> omega

theorem movePair_keeps_evt {n : Nat} (h : wbit s.lock.evt n = true) (i : PairId) (st : PairState) : wbit (s.movePair i st).lock.evt n = true := by
  unfold State.movePair
  dsimp only
  split
  · simp [raise, wbit_putBit, h]
  · exact h

/-- A pair declared failed for its copies, its state and its flag first. -/
def State.failMarked (s : State) (i : PairId) : State := ((s.recordWindow i s.windowNow 0).lockEvt (pairBit 27 i)).movePair i .failed

theorem failMarked_eq (s : State) (i : PairId) : ∃ w x e p, s.failMarked i = { s with lock := { s.lock with misw := w, misx := x, evt := e, pairs := p } } ∧
    wbit e (pairBit 27 i) = true ∧ p.pair i = (s.pair i).movedTo .failed ∧ ∀ j, j ≠ i → p.pair j = s.pair j := by
  let a := (s.recordWindow i s.windowNow 0).lockEvt (pairBit 27 i)
  have hbit : wbit a.lock.evt (pairBit 27 i) = true := wbit_raise_self _ _ (by cases i <;> decide)
  exact ⟨a.lock.misw, a.lock.misx, _, _, movePair_eq a i .failed, movePair_keeps_evt hbit i .failed, movePair_pair_self a i .failed,
    fun j hj => movePair_pair_ne a _ hj⟩

/-- The same with the failure counted, before what follows for the part. -/
def State.failing (s : State) (i : PairId) : State :=
  let t := ((s.failMarked i).modPair i fun x => { x with failedSince := true }).countFail i
  { t with lock := { t.lock with failedNow := putBit t.lock.failedNow (pairCode i - 1) true } }

theorem fabricFailed_eq (hr : (s.pair i).state.runs = true) :
    s.fabricFailed i =
      if (s.pair i).state.leads then (s.failing i).leadFailed i 3
      else if (s.pair i).state == .candidate then (s.failing i).endGraft 3
      else if (s.failing i).lock.promoteWhy != 0 then (s.failing i).enterSafe .noPair
      else s.failing i := by
  have hr' : ¬(!(s.pair i).state.runs) = true := by simpa using hr
  exact if_neg hr'

/-- A pair that has not failed three times before is failed now, not retired. -/
theorem failing_spec (hf : (s.pair i).fails < 3) : ∃ l : LockState, s.failing i = { s with lock := l } ∧ (l.pairs.pair i).state = .failed ∧
    (∀ j, j ≠ i → l.pairs.pair j = s.pair j) ∧ wbit l.evt (pairBit 27 i) = true ∧ l.graft = s.lock.graft ∧ l.xdisRun = s.lock.xdisRun ∧
    l.promoteWhy = s.lock.promoteWhy := by
  obtain ⟨w, x, e, p, hm, hbit, hself, hother⟩ := failMarked_eq s i
  let t := (s.failMarked i).modPair i fun x => { x with failedSince := true }
  have hfails : (t.pair i).fails = (s.pair i).fails := by
    rw [modPair_pair_self, hm]
    exact (congrArg PairInfo.fails hself :)
  have hcount : t.countFail i = t.modPair i fun x => { x with fails := satInc (t.pair i).fails 15 } := countFail_counts (by rw [hfails]; exact hf)
  unfold State.failing
  rw [show ((s.failMarked i).modPair i _).countFail i = _ from hcount]
  dsimp only [t]
  rw [hm]
  refine ⟨_, rfl, ?_, fun j hj => ?_, hbit, rfl, rfl, rfl⟩
  · simp [State.modPair, hself, PairInfo.movedTo]
  · simp only [State.modPair]
    rw [Two.pair_setPair_ne _ hj, Two.pair_setPair_ne _ hj, hother j hj]

/-- The lead fails while the other pair is a clean shadow: promotion awaits the boundary. -/
theorem fabricFailed_lead (hl : (s.pair i).state.leads = true) (ho : (s.pair i.other).state = .shadow) (hg : s.lock.graft = none)
    (hx : s.lock.xdisRun = 0) (hf : (s.pair i).fails < 3) : ∃ l : LockState, s.fabricFailed i = { s with lock := l } ∧
    (l.pairs.pair i).state = .failed ∧ l.promoteWhy = 3 ∧ wbit l.evt (pairBit 27 i) = true := by
  obtain ⟨l, heq, hstate, hother, hbit, hgraft, hxdis, -⟩ := failing_spec hf
  have hshadow : (l.pairs.pair i.other).state = .shadow := by rw [hother _ (by cases i <;> decide), ho]
  refine ⟨{ l with promoteWhy := 3, plan := none }, ?_, hstate, rfl, hbit⟩
  rw [fabricFailed_eq (by simp [PairState.runs, hl]), if_pos hl, heq]
  simp [State.leadFailed, State.pair, hgraft, hg, hxdis, hx, hshadow]

/-- The shadow fails: nothing follows for the part. -/
theorem fabricFailed_shadow (hs : (s.pair i).state = .shadow) (hp : s.lock.promoteWhy = 0) (hf : (s.pair i).fails < 3) :
    ∃ l : LockState, s.fabricFailed i = { s with lock := l } ∧ (l.pairs.pair i).state = .failed ∧ ∀ j, j ≠ i → l.pairs.pair j = s.pair j := by
  obtain ⟨l, heq, hstate, hother, -, -, -, hwhy⟩ := failing_spec hf
  refine ⟨l, ?_, hstate, hother⟩
  rw [fabricFailed_eq (by rw [hs]; rfl), hs, heq]
  simp [PairState.leads, hwhy, hp]

end

/-! ### What a tick comes to -/

section
variable {s : State} {i : PairId} {u : List FabricUpset}

theorem lead_leads (h : s.lock.lead = some i) : (s.pair i).state.leads = true := by
  unfold LockState.lead at h
  unfold State.pair
  split at h
  next hf => cases h; exact hf
  next =>
    split at h
    next hs => cases h; exact hs
    next => cases h

/-- Where the copies of one pair alone differ, that pair fails. -/
theorem failedIf_one {b : PairId → Bool} {j : PairId} (hj : b j = true) (ho : b j.other = false) (t : State) :
    (t.failedIf (b .pommel) .pommel).failedIf (b .cantle) .cantle = t.fabricFailed j := by
  cases j with
  | pommel =>
    rw [hj, show b .cantle = false from ho]
    rfl
  | cantle =>
    rw [hj, show b .pommel = false from ho]
    rfl

/-- What a tick leaves, the controllers apart, with the lock block as a failure has left it. -/
structure Ticked (s : State) (u : List FabricUpset) (i : PairId) (l : LockState) (t : State) : Prop where
  pairs : ∀ j, t.fabric.pairs.pair j = (s.pairTick u j).1
  dest : t.fabric.dest = s.drivenBy u i
  lock : t.lock = l
  psm : t.psm = s.psm
  portals : t.portals = s.portals

theorem runs_ticked (hp : s.portFree) {x : Word} {l : LockState} {y : State} (hy : y = { s.ticked u i x with lock := l })
    (h : s.fabricTick u = s.risingRequests y) : Runs (.fabricTick u) s (Ticked s u i l) := by
  obtain ⟨c, hc⟩ := risingRequests_eq s y
  rw [hc, hy] at h
  let t : State := { s.ticked u i x with lock := l, cans := c }
  have hfabric : (s.commit t).fabric = (s.ticked u i x).fabric := commit_fabric' s t hp
  have hafter := afterCommand s t hp
  refine ⟨s.commit t, congrArg (settled s) h, fun j => ?_, by rw [hfabric]; rfl, hafter.lock, hafter.psm, hafter.portals⟩
  rw [hfabric]
  cases j <;> rfl

variable (hl : s.lock.lead = some i) (ho : (s.pair i.other).state = .shadow)
include hl ho

theorem both_run (j : PairId) : (s.pair j).state.runs = true := by
  have hlead : (s.pair i).state.runs = true := by simp [PairState.runs, lead_leads hl]
  have hshadow : (s.pair i.other).state.runs = true := by rw [ho]; rfl
  cases i <;> cases j <;> assumption

variable (hp : s.portFree)
include hp

theorem runs_tick_agrees (h1 : (s.pairTick u i).2 = none) (h2 : (s.pairTick u i.other).2 = none) :
    Runs (.fabricTick u) s (Ticked s u i s.lock) := by
  obtain ⟨x, hx⟩ := fabricTick_eq hl (both_run hl ho) u
  have hnone : ∀ j, (s.pairTick u j).2.isSome = false := fun j => by cases i <;> cases j <;> simp_all [PairId.other]
  rw [hnone, hnone] at hx
  exact runs_ticked hp rfl hx

theorem runs_tick_leadFails {d : Nat} (hg : s.lock.graft = none) (hx : s.lock.xdisRun = 0) (hf : (s.pair i).fails < 3)
    (h1 : (s.pairTick u i).2 = some d) (h2 : (s.pairTick u i.other).2 = none) :
    Runs (.fabricTick u) s fun t => ∃ l : LockState, Ticked s u i l t ∧ (l.pairs.pair i).state = .failed ∧ l.promoteWhy = 3 ∧
      wbit l.evt (pairBit 27 i) = true := by
  obtain ⟨x, htick⟩ := fabricTick_eq hl (both_run hl ho) u
  rw [failedIf_one (b := fun j => (s.pairTick u j).2.isSome) (j := i) (by rw [h1]; rfl) (by rw [h2]; rfl)] at htick
  obtain ⟨l, heq, hl'⟩ := fabricFailed_lead (s := s.ticked u i x) (lead_leads hl) ho hg hx hf
  exact (runs_ticked hp heq htick).mono fun t ht => ⟨l, ht, hl'⟩

theorem runs_tick_shadowFails {d : Nat} (hw : s.lock.promoteWhy = 0) (hf : (s.pair i.other).fails < 3)
    (h1 : (s.pairTick u i).2 = none) (h2 : (s.pairTick u i.other).2 = some d) :
    Runs (.fabricTick u) s fun t => ∃ l : LockState, Ticked s u i l t ∧ (l.pairs.pair i.other).state = .failed ∧ l.pairs.pair i = s.pair i := by
  obtain ⟨x, htick⟩ := fabricTick_eq hl (both_run hl ho) u
  rw [failedIf_one (b := fun j => (s.pairTick u j).2.isSome) (j := i.other) (by rw [h2]; rfl)
    (by rw [show i.other.other = i by cases i <;> rfl, h1]; rfl)] at htick
  obtain ⟨l, heq, hstate, hother⟩ := fabricFailed_shadow (s := s.ticked u i x) ho hw hf
  exact (runs_ticked hp heq htick).mono fun t ht => ⟨l, ht, hstate, hother i (by cases i <;> decide)⟩

end

/-! ### Timers -/

theorem runs_fabricTimerExpire (s : State) (n : Fin 256) : Runs (.fabricTimerExpire n) s fun t =>
    t = { s with fabric := t.fabric, port := { s.port with hrdy := t.port.hrdy } } ∧ t.fabric.dest = s.fabric.dest ∧
      ∀ i, t.fabric.pairs.pair i = { (s.fabric.pairs.pair i) with
        copyA := (s.fabric.pairs.pair i).copyA.expire s.hostCells s.hostTimers (s.fabric.pairs.pair i).src.read n.val,
        copyB := (s.fabric.pairs.pair i).copyB.expire s.hostCells s.hostTimers (s.fabric.pairs.pair i).src.read n.val } := by
  refine .of_settled rfl ?_
  rw [commit_still _ _ (by simp [State.sameTraffic, State.expireTimer])]
  refine ⟨?_, rfl, fun i => by cases i <;> rfl⟩
  simp [State.interrupts, irqRises, State.expireTimer]

end Sys2Proof.Machine
end


section
/-! Ticks and timers of a portal harness (R94, R95). -/

namespace Sys2Proof.Machine

/-! ### Permissions of the safety outputs (R25) -/

/-- A permission is set, and the output follows; of the other output the permission and the state stay. -/
theorem setPerm_spec (P : PortalState) (ck : Nat) (o : SoId) (b : Bool) : ∃ t, P.setPerm ck o b = { P with sos := t } ∧ (t.so o).perm = b ∧
    (b = false → (t.so o).on = false) ∧ ∀ i, i ≠ o → (t.so i).perm = (P.sos.so i).perm ∧ (t.so i).on = (P.sos.so i).on := by
  unfold PortalState.setPerm
  extract_lets cyc
  generalize hf : (fun x : SoState => if b && !x.perm then { x with perm := true, permCycle := cyc, permFresh := false }
    else { x with perm := b, stand := x.stand || (!b && x.dem) }) = f
  have hperm : (f (P.sos.so o)).perm = b := by
    rw [← hf]
    dsimp only
    split
    next h => exact (Bool.and_eq_true _ _ ▸ h).1.symm
    next => rfl
  obtain ⟨t, ht, hsame, hon, hother⟩ := soRefresh_spec (P.modSo o f) ck o
  have hpermT : (t.so o).perm = b := by
    rw [(hsame o).1, PortalState.modSo_sos, Two.so_setSo, hperm]
  refine ⟨t, ht, hpermT, fun hb => ?_, fun i hi => ⟨?_, ?_⟩⟩
  · rw [hon, soWanted_eq]
    simp [SoState.allowed, hpermT, hb]
  · rw [(hsame i).1, PortalState.modSo_sos, Two.so_setSo_ne _ hi]
  · rw [(hother i hi).1, PortalState.modSo_sos, Two.so_setSo_ne _ hi]

/-- Both permissions set. -/
theorem setPerms_spec (P : PortalState) (ck : Nat) (b : SoId → Bool) : ∃ t, (P.setPerm ck .a (b .a)).setPerm ck .b (b .b) = { P with sos := t } ∧
    ∀ o, (t.so o).perm = b o ∧ (b o = false → (t.so o).on = false) := by
  obtain ⟨t, ht, hperm, hon, -⟩ := setPerm_spec P ck .a (b .a)
  obtain ⟨v, hv, hperm', hon', hother⟩ := setPerm_spec { P with sos := t } ck .b (b .b)
  obtain ⟨hpermA, honA⟩ := hother .a (by decide)
  refine ⟨v, by rw [ht, hv], fun o => ?_⟩
  cases o with
  | a => exact ⟨hpermA.trans hperm, fun h => honA.trans (hon h)⟩
  | b => exact ⟨hperm', hon'⟩

/-! ### The safety outputs at the entry to FAULT (R321) -/

theorem learnDiscard_sos (P : PortalState) : P.learnDiscard.sos = P.sos := by
  unfold PortalState.learnDiscard
  split <;> rfl

theorem learnAtEnd_sos (P : PortalState) (a : AxisId) : (P.learnAtEnd a).sos = P.sos := by
  unfold PortalState.learnAtEnd
  split
  · rfl
  · dsimp only
    split
    · rfl
    · split <;> rfl

theorem learnEnd_sos (P : PortalState) (a : AxisId) (m : Motion) : (P.learnEnd a m).sos = P.sos := by
  unfold PortalState.learnEnd
  extract_lets named
  split
  · rfl
  · split
    · exact learnAtEnd_sos P a
    · split
      · rfl
      · exact learnDiscard_sos P

theorem armProgress_sos (P : PortalState) (a : AxisId) : (P.armProgress a).sos = P.sos := by
  unfold PortalState.armProgress
  split <;> rfl

theorem controlledStop_sos (P : PortalState) (ck : Nat) (a : AxisId) (after : MotionAfter) (own : Bool) :
    (P.controlledStop ck a after own).sos = P.sos := by
  obtain ⟨-, h⟩ | ⟨f, m, -, -, h | h⟩ := controlledStop_cases P ck a after own <;> rw [h]
  · rfl
  · rw [armProgress_sos, learnEnd_sos]
    rfl

theorem stopAxes_sos (P : PortalState) (ck : Nat) : (P.stopAxes ck).sos = P.sos := by
  unfold PortalState.stopAxes
  refine foldl_sos (fun R a => ?_) _ _
  split
  · exact controlledStop_sos ..
  · rfl

theorem soAllOff_perm (P : PortalState) (o : SoId) : (P.soAllOff.sos.so o).perm = (P.sos.so o).perm := by cases o <;> rfl

theorem applyFailsafe_sos_perm (P : PortalState) (ck : Nat) (o : SoId) : ((P.applyFailsafe ck).sos.so o).perm = (P.sos.so o).perm := by
  unfold PortalState.applyFailsafe
  extract_lets R src S
  have hR : R.sos = (P.learnDiscard.stopAxes ck).soAllOff.sos := limpExit_sos ..
  have hS : S.sos = R.sos := rfl
  rw [applyDemands_sos, hS, hR, soAllOff_perm, stopAxes_sos, learnDiscard_sos]

/-- At the entry to FAULT both outputs are off, and the permissions stand as they were. -/
theorem enterFault_sos {P : PortalState} (h : P.cls ≠ .fault) (ck : Nat) (why : Word) (o : SoId) :
    ((P.enterFault ck why).sos.so o).perm = (P.sos.so o).perm ∧ ((P.enterFault ck why).sos.so o).on = false := by
  unfold PortalState.enterFault
  rw [if_neg (by simpa using h)]
  dsimp only
  rw [event_sos]
  exact ⟨applyFailsafe_sos_perm .., applyFailsafe_sos_on ..⟩

/-! ### The harness (R95) -/

section
variable {s : State} {p : PortalId} {P : PortalState}

theorem runs_harnessExpire (s : State) (p : PortalId) (n : Fin 32) (hc : (s.portals.get p).calm) :
    RunsPortal p (.portalHarnessTimerExpire p n) s fun Q => UpToFrames ((s.portals.get p).harnessExpire n.val) Q ∧
      Q.harness.dest = (s.portals.get p).harness.dest := by
  refine .of_calm rfl rfl hc.1 (by exact hc) fun Q hQ => ⟨hQ, ?_⟩
  rw [hQ.1]
  rfl

/-- A copy of the harness after a tick with its upsets. -/
def PortalState.harnessCopy (P : PortalState) (u : List HarnessUpset) (two : Bool) : FabricCopy :=
  ((if two then P.harness.chan2 else P.harness.chan1).tick P.harnessCells P.harnessTimers P.harnessSrc.read).upset P.harnessCells
    ((u.filter fun x => x.chan2 == two).map fun x => x.cell.toNat)

/-- Both channels of the harness have ticked. -/
def PortalState.harnessTicked (P : PortalState) (u : List HarnessUpset) : PortalState :=
  { P with harness := { P.harness with chan1 := P.harnessCopy u false, chan2 := P.harnessCopy u true, src := P.harnessSrc } }

theorem harnessTick_unused (hu : holds P.units tagHARN 1 = false) (ck : Nat) (u : List HarnessUpset) : P.harnessTick ck u = P :=
  if_pos (by simp [hu])

theorem harnessTick_differs (hp : P.por = false) (hu : holds P.units tagHARN 1 = true) {u : List HarnessUpset} {d : Nat}
    (hd : copyMismatch P.harnessCells (P.harnessCopy u false) (P.harnessCopy u true) = some d) (ck : Nat) :
    P.harnessTick ck u = (((P.harnessTicked u).setPerm ck .a false).setPerm ck .b false).enterFault ck 0 := by
  unfold PortalState.harnessTick
  rw [if_neg (by simp [hp, hu])]
  change (match copyMismatch P.harnessCells (P.harnessCopy u false) (P.harnessCopy u true) with | some _ => _ | none => _) = _
  rw [hd]
  rfl

theorem harnessTick_agrees (hp : P.por = false) (hu : holds P.units tagHARN 1 = true) {u : List HarnessUpset}
    (hd : copyMismatch P.harnessCells (P.harnessCopy u false) (P.harnessCopy u true) = none) (ck : Nat) :
    P.harnessTick ck u = (P.harnessTicked u).driveHarness ck ((P.harnessCopy u false).destWord P.harnessCells 64) := by
  unfold PortalState.harnessTick
  rw [if_neg (by simp [hp, hu])]
  change (match copyMismatch P.harnessCells (P.harnessCopy u false) (P.harnessCopy u true) with | some _ => _ | none => _) = _
  rw [hd]
  rfl

/-- The permissions that the exported outputs give. -/
def permsOf (dest : Dword) : SoId → Bool
  | .a => wbit dest 0
  | .b => wbit dest 1

/-- Outside limp-home the exported outputs set the permissions and report their flags. -/
theorem driveHarness_spec (hl : P.link.limp = false) (ck : Nat) (dest : Dword) : ∃ t,
    UpToEvents { P with harness := { P.harness with dest := dest }, sos := t } (P.driveHarness ck dest) ∧ ∀ o, (t.so o).perm = permsOf dest o := by
  obtain ⟨t, ht, hperm⟩ := setPerms_spec { P with harness := { P.harness with dest := dest } } ck (permsOf dest)
  let X : PortalState := { P with harness := { P.harness with dest := dest } }
  let Y : PortalState := { X with sos := t }
  have hperms : (X.setPerm ck .a (wbit dest 0)).setPerm ck .b (wbit dest 1) = Y := ht
  have hdemands : (if Y.link.limp then Y.applyDemands ck else Y) = Y := if_neg (by simp [Y, X, hl])
  have hjog : ∀ was now, Y.jogRequests ck was now = Y := fun was now => if_pos (by simp [Y, X, hl])
  refine ⟨t, ?_, fun o => (hperm o).1⟩
  unfold PortalState.driveHarness
  dsimp only
  rw [hperms, hdemands, hjog]
  split
  · exact .event ..
  · exact ⟨rfl, .inl rfl⟩

theorem runs_harness_agrees (hP : s.portals.get p = P) (hc : P.calm) (hu : holds P.units tagHARN 1 = true) (hl : P.link.limp = false)
    {u : List HarnessUpset} (hd : copyMismatch P.harnessCells (P.harnessCopy u false) (P.harnessCopy u true) = none) :
    RunsPortal p (.portalHarnessTick p u) s fun Q =>
      UpToFrames { P with
        harness := ⟨P.harnessCopy u false, P.harnessCopy u true, P.harnessSrc, (P.harnessCopy u false).destWord P.harnessCells 64⟩, sos := Q.sos,
        link := Q.link } Q ∧
      (Q.sos.so .a).perm = wbit ((P.harnessCopy u false).destWord P.harnessCells 64) 0 ∧
      (Q.sos.so .b).perm = wbit ((P.harnessCopy u false).destWord P.harnessCells 64) 1 := by
  obtain ⟨t, hevents, hperm⟩ := driveHarness_spec (P := P.harnessTicked u) hl s.clock ((P.harnessCopy u false).destWord P.harnessCells 64)
  rw [← harnessTick_agrees hc.1 hu hd s.clock] at hevents
  refine .of_calm rfl hP hc.1 (hevents.calm (by exact hc)) fun R hR => ?_
  obtain ⟨heq, -⟩ := hevents.trans_frames hR
  have hsos : R.sos = t := (congrArg PortalState.sos heq :)
  refine ⟨⟨?_, .inl rfl⟩, by rw [hsos]; exact hperm .a, by rw [hsos]; exact hperm .b⟩
  have hlink : R = { P.harnessTicked u with
      harness := { (P.harnessTicked u).harness with dest := (P.harnessCopy u false).destWord P.harnessCells 64 }, sos := t, link := R.link } := by
    rw [heq]
  rw [hsos]
  exact hlink

theorem runs_harness_differs (hP : s.portals.get p = P) (hc : P.calm) (hu : holds P.units tagHARN 1 = true) {u : List HarnessUpset} {d : Nat}
    (hd : copyMismatch P.harnessCells (P.harnessCopy u false) (P.harnessCopy u true) = some d) :
    RunsPortal p (.portalHarnessTick p u) s fun Q => Q.cls = .fault ∧ Q.units = P.units ∧ ∀ o, (Q.sos.so o).perm = false ∧ (Q.sos.so o).on = false := by
  obtain ⟨t, ht, hoff⟩ := setPerms_spec (P.harnessTicked u) s.clock fun _ => false
  have hf := harnessTick_differs hc.1 hu hd s.clock
  rw [ht] at hf
  let X : PortalState := { P.harnessTicked u with sos := t }
  obtain ⟨hpor, -, hwaits, hcount⟩ := hc
  by_cases hcls : P.cls = .fault
  · have hstays : X.enterFault s.clock 0 = X := if_pos (by simp [X, PortalState.harnessTicked, hcls])
    have hfault : X.cls = .fault := hcls
    refine .of_calm rfl hP hpor (by rw [hf, hstays]; exact ⟨hpor, .inl hcls, hwaits, hcount⟩) fun R hR => ?_
    rw [hf, hstays] at hR
    rw [hR.1]
    exact ⟨hcls, rfl, fun o => ⟨(hoff o).1, (hoff o).2 rfl⟩⟩
  · have hout := enterFault_outputs (P := X) hcls s.clock 0
    have hsos := enterFault_sos (P := X) hcls s.clock 0
    rw [← hf] at hout hsos
    have hcalm : ({ X with cls := .fault, ob := X.ob.faultEntered } : PortalState).failsafeMarks.calm := ⟨hpor, .inl rfl, hwaits, hcount⟩
    refine .of_calm rfl hP hpor (hout.calm hcalm) fun R hR => ?_
    have hcls' : (P.harnessTick s.clock u).cls = .fault := (congrArg PortalState.cls hout.eq :)
    have hunits : (P.harnessTick s.clock u).units = P.units := (congrArg PortalState.units hout.eq :)
    rw [hR.1]
    exact ⟨hcls', hunits, fun o => ⟨(hsos o).1.trans (hoff o).1, (hsos o).2⟩⟩

end

/-! ### The obligation -/

/-- Settles O51, by the branches of each command: why a flash command is refused, what its end takes, whose fabric copies differ. -/
theorem flashCommandsAndFabricTicks : Obligations.FlashCommandsAndFabricTicks := by
  unfold Obligations.FlashCommandsAndFabricTicks
  refine ⟨fun s r => flashStarting, fun s r hp => ⟨fun hj => ?_, fun b d hj => ?_, fun hj => ?_, fun g hj hg => ?_, fun hj hg => ?_, fun hj => ?_⟩,
    fun s => runs_noJob, fun s i u hp hl ho hg hw => ⟨fun h1 h2 => ?_, fun d h1 h2 hx hf => ?_, fun d h1 h2 hf => ?_⟩, runs_fabricTimerExpire,
    runs_harnessExpire, fun s p u P hP hc => ⟨fun hu => ?_, fun d hu hd => ?_, fun hu hl hd => ?_⟩⟩
  · exact runs_flashWritten hp (flashComplete_erase hj)
  · exact runs_flashWritten hp (flashComplete_program hj)
  · exact runs_verified hp hj
  · exact runs_activated hp hj hg
  · exact runs_activateRefused hp hj hg
  · exact runs_verifyFails hp hj
  · refine (runs_tick_agrees hl ho hp h1 h2).mono fun t ht => ?_
    exact ⟨ht.pairs, ht.dest.trans (if_pos ⟨h1, hl⟩), ht.lock, ht.psm, ht.portals⟩
  · refine (runs_tick_leadFails hl ho hp hg hx hf h1 h2).mono fun t ⟨l, ht, hstate, hwhy, hbit⟩ => ?_
    rw [State.pair, ht.lock]
    exact ⟨ht.dest.trans (if_neg fun h => Option.some_ne_none d (h1.symm.trans h.1)), hstate, hwhy, hbit, ht.psm, ht.portals⟩
  · refine (runs_tick_shadowFails hl ho hp hw hf h1 h2).mono fun t ⟨l, ht, hstate, hlead⟩ => ?_
    rw [State.pair, State.pair, ht.lock]
    exact ⟨ht.dest.trans (if_pos ⟨h1, hl⟩), hstate, hlead, ht.psm, ht.portals⟩
  · exact .of_idle rfl hP hc (harnessTick_unused hu s.clock u)
  · exact runs_harness_differs hP hc hu hd
  · exact runs_harness_agrees hP hc hu hl hd

end Sys2Proof.Machine
end


section
/-! What one portal's cycle of the kernel leaves of the other portals' records (R131). -/

namespace Sys2Proof.Machine

theorem modSeq_sp_self (s : State) (p : PortalId) (f : SeqPortal → SeqPortal) : (s.modSeq p f).sp p = f (s.sp p) := Four.get_set ..

theorem modSeq_sp_ne (s : State) {p q : PortalId} (h : q ≠ p) (f : SeqPortal → SeqPortal) : (s.modSeq p f).sp q = s.sp q := Four.get_set_ne _ h _

/-- Of the kernel's records of the portals `t` differs from `s` in that of `p` alone. -/
structure OnlyRecord (p : PortalId) (s t : State) : Prop where
  other : ∀ q, q ≠ p → t.sp q = s.sp q

namespace OnlyRecord

variable {p : PortalId} {s t u : State}

theorem refl (s : State) : OnlyRecord p s s := ⟨fun _ _ => rfl⟩

theorem trans (h : OnlyRecord p s t) (g : OnlyRecord p t u) : OnlyRecord p s u := ⟨fun q hq => (g.other q hq).trans (h.other q hq)⟩

theorem of_portals (h : t.seq.portals = s.seq.portals) : OnlyRecord p s t := ⟨fun q _ => by rw [State.sp, h, State.sp]⟩

theorem of_set {r : SeqPortal} (h : t.seq.portals = s.seq.portals.set p r) : OnlyRecord p s t :=
  ⟨fun q hq => by rw [State.sp, h, Four.get_set_ne _ hq, State.sp]⟩

theorem ite {c : Prop} [Decidable c] (h : OnlyRecord p s t) (g : OnlyRecord p s u) : OnlyRecord p s (if c then t else u) := by
  split
  · exact h
  · exact g

variable (p s)

theorem modSeq (f : SeqPortal → SeqPortal) : OnlyRecord p s (s.modSeq p f) := of_set rfl

theorem modCycle (f : DoorCycle → DoorCycle) : OnlyRecord p s (s.modCycle p f) := modSeq ..

theorem foldCycle : OnlyRecord p s (s.foldCycle p) := modCycle ..

theorem block (why frm dest : Nat) : OnlyRecord p s (s.block p why frm dest) := by
  obtain ⟨w, hw⟩ := block_eq s p why frm dest
  rw [hw]
  exact of_set rfl

theorem openCycle : OnlyRecord p s (s.openCycle p) := by
  unfold State.openCycle
  extract_lets r c t
  exact ((of_set rfl : OnlyRecord p s t).trans (of_set rfl))

theorem closeCycle (flags : Nat) (fault : Half) (cust : Nat) (cls : Guarded) : OnlyRecord p s (s.closeCycle p flags fault cust cls) := by
  unfold State.closeCycle
  split
  · exact refl s
  · extract_lets s1 body s2 s3 sum
    exact (foldCycle p s).trans (of_set rfl)

theorem putClass (g : Guarded) (cust : Option Nat) : OnlyRecord p s (s.putClass p g cust) := of_set rfl

theorem cycleAtEntry (i : Nat) (r : SeqRec) : OnlyRecord p s (s.cycleAtEntry p i r) := by
  unfold State.cycleAtEntry
  extract_lets start stop note s1 s2
  have hnote : ∀ u, OnlyRecord p u (note u) := fun u => .ite (modCycle ..) (refl u)
  have h1 : OnlyRecord p s s1 := .ite (refl s) (hnote s)
  have h2 : OnlyRecord p s1 s2 := .ite (closeCycle ..) (.ite (closeCycle ..) (refl s1))
  exact (h1.trans h2).trans (.ite ((openCycle ..).trans (hnote _)) (refl s2))

theorem enterCust (i : Nat) (adopted : Bool) : OnlyRecord p s (s.enterCust p i adopted) := by
  unfold State.enterCust
  extract_lets r frm fs s1 s2 fit m bad s3 s4
  have h2 : OnlyRecord p s s2 := (putClass ..).trans (modSeq ..)
  have h3 : OnlyRecord p s2 s3 := .ite (block ..) (refl s2)
  have h4 : OnlyRecord p s2 s4 := .ite (modSeq ..) (h3.trans (modSeq ..))
  exact (h2.trans h4).trans (cycleAtEntry ..)

theorem enterIsolated : OnlyRecord p s (s.enterIsolated p) := by
  unfold State.enterIsolated
  exact ((closeCycle ..).trans (putClass ..)).trans (modSeq ..)

theorem enterHeld (g : Guarded) : OnlyRecord p s (s.enterHeld p g) := by
  unfold State.enterHeld
  exact ((closeCycle ..).trans (putClass ..)).trans (modSeq ..)

theorem discFault : OnlyRecord p s (s.discFault p) := by
  unfold State.discFault
  exact (enterHeld ..).trans (of_portals rfl)

theorem adopt : OnlyRecord p s (s.adopt p) := by
  unfold State.adopt
  extract_lets r t s1
  have h1 : OnlyRecord p s s1 := .ite (of_portals rfl) (refl s)
  exact .ite (.ite h1 (h1.trans (enterIsolated ..))) (.ite h1 (h1.trans (enterCust ..)))

theorem adoptReported (g : Guarded) : OnlyRecord p s (s.adoptReported p g) := .ite (enterHeld ..) (enterCust ..)

theorem kernelRule {fell rel clear : Bool} (ht : s.kernelRule p fell rel clear = some t) : OnlyRecord p s t := by
  unfold State.kernelRule at ht
  extract_lets r u forced at ht
  have hforced : ∀ i, forced i = some t → OnlyRecord p s t := fun i e => by
    rw [← Option.some.inj e]
    exact (enterCust ..).trans (of_portals rfl)
  split_ifs at ht
  · exact Option.some.inj ht ▸ discFault ..
  · exact Option.some.inj ht ▸ enterIsolated ..
  · exact hforced _ ht
  · exact hforced _ ht
  · exact hforced _ ht
  · exact Option.some.inj ht ▸ (enterCust ..).trans (of_portals rfl)
  · exact Option.some.inj ht ▸ enterCust ..
  · exact Option.some.inj ht ▸ adopt ..

theorem customerGo (u : List Byte × Nat) (guard : Bool) (l : List TransRec) : OnlyRecord p s (customerGo p u guard l s) := by
  induction l generalizing s with
  | nil => exact refl s
  | cons x r ih => exact .ite (ih s) (.ite (enterCust ..) ((block ..).trans (ih _)))

theorem outside (clear : Bool) : OnlyRecord p s (s.outside p clear) := .ite (discFault ..) (.ite (.ite (adopt ..) (refl s)) (adopt ..))

theorem outputs (rel : Bool) : OnlyRecord p s (s.outputs p rel) := of_set rfl

/-- One cycle of a portal changes the kernel's record of no other. -/
theorem evalPortal (clear : Option PortalId) : OnlyRecord p s (s.evalPortal clear p) := by
  unfold State.evalPortal
  extract_lets s0 up lv s1 s2 q rel guard fell s3 s4 own c s5
  have h0 : OnlyRecord p s s0 := modSeq ..
  have h1 : OnlyRecord p s0 s1 := .ite (modSeq ..) (refl s0)
  have h3 : OnlyRecord p s2 s3 := .ite (modSeq ..) (refl s2)
  have h4 : OnlyRecord p s3 s4 := .ite (closeCycle ..) (refl s3)
  have h5 : OnlyRecord p s4 s5 := by
    dsimp only [s5]
    clear_value own s4
    cases own with
    | some g => exact .ite ((adoptReported ..).trans (modSeq ..)) (adoptReported ..)
    | none =>
      refine .ite (outside ..) ?_
      split
      next ht => exact kernelRule p s4 ht
      next => exact .ite (customerGo ..) (refl s4)
  exact .ite (h0.trans (modSeq ..)) ((((h0.trans h1).trans (foldCycle p s1)).trans (h3.trans (h4.trans h5))).trans (outputs ..))

end OnlyRecord

end Sys2Proof.Machine
end


section
/-! The guards of the kernel's outputs through the evaluation of a cycle (R115, R131, R135, R138). -/

namespace Sys2Proof.Machine

/-! ### The guards of the outputs (R115, R135, R138) -/

/-- The opening permission and the safety-output demand of portal `p` stand only where R115, R135 and R138 allow them. -/
structure State.OutputsGuarded (s : State) (p : PortalId) : Prop where
  permit : (s.sp p).openPermit = true → s.seq.inBit 0 = true ∧ s.seq.inBit 1 = true ∧ s.seq.inBit (4 + p.val) = true ∧ s.inService = true ∧
    (s.sp p).released = true ∧ (s.sp p).cls.held = false
  demand : (s.sp p).soDemand = true → s.inService = true ∧ (s.sp p).released = true ∧
    ((s.sp p).cls = .closedLocked ∨ ((s.sp p).cls = .isolated ∧ (s.sp p).returnReady = true))

/-- The outputs of a cycle are guarded, whatever the cycle has led to. -/
theorem outputs_guarded (s : State) (p : PortalId) (rel : Bool) : (s.outputs p rel).OutputsGuarded p := by
  have hpermit : ((s.outputs p rel).sp p).openPermit = s.guard p (s.sp p).cls rel := (congrArg SeqPortal.openPermit (modSeq_sp_self ..) :)
  have hreleased : ((s.outputs p rel).sp p).released = rel := (congrArg SeqPortal.released (modSeq_sp_self ..) :)
  have hcls : ((s.outputs p rel).sp p).cls = (s.sp p).cls := (congrArg SeqPortal.cls (modSeq_sp_self ..) :)
  have hbit : ∀ b, (s.outputs p rel).seq.inBit b = s.seq.inBit b := fun _ => rfl
  have hservice : (s.outputs p rel).inService = s.inService := rfl
  constructor
  · rw [hpermit, hreleased, hcls, hservice, hbit, hbit, hbit]
    simp [State.guard, and_assoc]
  · rw [hreleased, hcls, hservice]
    unfold State.outputs
    extract_lets q r firm ready discs dem permit
    rw [modSeq_sp_self]
    simp only [dem, Bool.and_eq_true, Bool.or_eq_true, beq_iff_eq]
    tauto

/-- What a portal's outputs are guarded by, and the outputs themselves, are the same in `t` as in `s`. -/
structure KeepsOutputs (p : PortalId) (s t : State) : Prop where
  service : t.inService = s.inService
  agreed : t.seq.agreed = s.seq.agreed
  record : t.sp p = { t.sp p with openPermit := (s.sp p).openPermit, soDemand := (s.sp p).soDemand, released := (s.sp p).released,
                                  cls := (s.sp p).cls, returnReady := (s.sp p).returnReady }

theorem State.OutputsGuarded.of_keeps {s t : State} {p : PortalId} (h : s.OutputsGuarded p) (hk : KeepsOutputs p s t) : t.OutputsGuarded p := by
  obtain ⟨hservice, hagreed, hrecord⟩ := hk
  obtain ⟨hpermit, hdemand⟩ := h
  have hbit : ∀ b, t.seq.inBit b = s.seq.inBit b := fun b => by rw [SeqState.inBit, hagreed, SeqState.inBit]
  constructor
  · rw [hrecord, hservice, hbit, hbit, hbit]
    exact hpermit
  · rw [hrecord, hservice]
    exact hdemand

/-! ### The guards through one evaluation -/

theorem inService_congr {s t : State} (h : t.psm = s.psm) : t.inService = s.inService := by rw [State.inService, h, State.inService]

/-- An evaluation keeps the outputs of a portal whose record it leaves alone. -/
theorem KeepsOutputs.of_eval {p : PortalId} {s t : State} (h : Eval s t) (hp : t.sp p = s.sp p) : KeepsOutputs p s t := by
  obtain ⟨-, hpsm, -, -, -, -, -, -, -, -, -, -, -, -, -, -, -, hagreed, -⟩ := h.fields
  exact ⟨inService_congr hpsm, hagreed, by rw [hp]⟩

/-- After its own cycle a portal's outputs are guarded. -/
theorem evalPortal_guarded (s : State) (clear : Option PortalId) (p : PortalId) : (s.evalPortal clear p).OutputsGuarded p := by
  unfold State.evalPortal
  extract_lets s0 up lv s1 s2 q rel guard fell s3 s4 own c s5
  split
  · constructor <;> rw [modSeq_sp_self] <;> simp [SeqPortal.quiet]
  · exact outputs_guarded ..

theorem mem_allPortals (p : PortalId) : p ∈ allPortals := by fin_cases p <;> decide

/-- What each portal's step brings about for it and no other portal's step undoes holds of every portal in the end. -/
theorem eachPortal_forall {f : State → PortalId → State} {Q : State → PortalId → Prop} (hown : ∀ s p, Q (f s p) p)
    (hother : ∀ s p q, p ≠ q → Q s p → Q (f s q) p) (s : State) (p : PortalId) : Q (s.eachPortal f) p := by
  have hfold : ∀ (l : List PortalId) s, p ∈ l ∨ Q s p → Q (l.foldl f s) p := fun l => by
    induction l with
    | nil => exact fun _ h => h.resolve_left List.not_mem_nil
    | cons q r ih =>
      intro s h
      by_cases hq : p = q
      · exact ih _ (.inr (hq ▸ hown s p))
      · exact ih _ (h.imp (fun hmem => (List.mem_cons.1 hmem).resolve_left hq) (hother s p q hq))
  exact hfold _ s (.inl (mem_allPortals p))

/-- After the evaluation of a cycle the outputs of every portal are guarded (R131, R135). -/
theorem evaluate_guarded (s : State) (us : Byte) (p : PortalId) : (s.evaluate us).OutputsGuarded p := by
  unfold State.evaluate
  extract_lets s1 r s2 top
  have h2 : s2.OutputsGuarded p := eachPortal_forall (evalPortal_guarded · r.2) (fun s p q hpq h =>
    h.of_keeps (.of_eval (.evalPortal s r.2 q) ((OnlyRecord.evalPortal q s r.2).other p hpq))) r.1 p
  exact h2.of_keeps ⟨rfl, rfl, rfl⟩

end Sys2Proof.Machine
end


section
/-! What the burst of a cycle changes (R271, R304, R317). -/

namespace Sys2Proof.Machine

/-- `b` is the record `a` of a portal but for what its COMMAND and KEEPER frames carry on. -/
def SeqPortal.Sent (a b : SeqPortal) : Prop :=
  b = { a with cseq := b.cseq, takeover := b.takeover, mseq := b.mseq, order := b.order, readBack := b.readBack, keeperKey := b.keeperKey,
               keeperServe := b.keeperServe }

theorem SeqPortal.Sent.refl (a : SeqPortal) : a.Sent a := rfl

theorem SeqPortal.Sent.trans {a b c : SeqPortal} (h : a.Sent b) (g : b.Sent c) : a.Sent c := by
  unfold SeqPortal.Sent at *
  rw [g, h]

/-- `t` differs from `s` at most in what a burst changes, and keeps the links that are down. -/
structure Burst (s t : State) : Prop where
  eq : t = { s with links := t.links
                    lock := { s.lock with lastBurst := t.lock.lastBurst, swap := t.lock.swap, intrDue := t.lock.intrDue }
                    seq := { s.seq with portals := t.seq.portals, keeperIn := t.seq.keeperIn, signals := t.seq.signals, word96 := t.seq.word96,
                                        shown := t.seq.shown } }
  record : ∀ p, (s.sp p).Sent (t.sp p)
  link : ∀ p, (s.link p).up = false → (s.link p).phase ≠ .running → t.link p = s.link p

namespace Burst

variable {s t u : State}

theorem refl (s : State) : Burst s s := ⟨rfl, fun _ => rfl, fun _ _ _ => rfl⟩

theorem trans (h : Burst s t) (g : Burst t u) : Burst s u where
  eq := by rw [g.eq, h.eq]
  record p := (h.record p).trans (g.record p)
  link p hup hphase := by
    have hlink := h.link p hup hphase
    rw [← hlink] at hup hphase
    exact (g.link p hup hphase).trans hlink

theorem eachPortal {f : State → PortalId → State} (h : ∀ s p, Burst s (f s p)) (s : State) : Burst s (s.eachPortal f) := by
  unfold State.eachPortal
  generalize allPortals = l
  induction l generalizing s with
  | nil => exact refl s
  | cons p r ih => exact (h s p).trans (ih _)

theorem modSeq {p : PortalId} {f : SeqPortal → SeqPortal} (s : State) (hf : (s.sp p).Sent (f (s.sp p))) : Burst s (s.modSeq p f) where
  eq := rfl
  record q := by
    by_cases h : q = p
    · subst h
      rwa [modSeq_sp_self]
    · rw [modSeq_sp_ne s h]
      exact .refl _
  link _ _ _ := rfl

/-- A link that is up, or that runs, may be changed. -/
theorem modLink {p : PortalId} (s : State) (f : HostLink → HostLink) (hl : (s.link p).up = true ∨ (s.link p).phase = .running) :
    Burst s (s.modLink p f) where
  eq := rfl
  record _ := .refl _
  link q hup hphase := by
    have h : q ≠ p := by
      rintro rfl
      obtain h | h := hl
      · simp [h] at hup
      · exact hphase h
    exact Four.get_set_ne _ h _

theorem sendCommandNow (s : State) (p : PortalId) : Burst s (s.sendCommandNow p) := by
  unfold State.sendCommandNow
  extract_lets counted f sent noted
  have hcounted : Burst s counted := modSeq s rfl
  split
  next => exact hcounted
  next h =>
    have hup : (counted.link p).up = true := by simp at h; exact h.1.2
    have hsent : Burst counted sent := modLink counted _ (.inl hup)
    have hnoted : Burst sent noted := modSeq sent rfl
    have hstill : (noted.link p).up = true := by
      rw [← hup]
      exact (congrArg HostLink.up (Four.get_set ..) :)
    have hframe : Burst s noted := (hcounted.trans hsent).trans hnoted
    split
    · exact hframe.trans (modSeq noted rfl)
    · split
      · exact hframe.trans (modLink noted _ (.inl hstill))
      · exact hframe

theorem sendCommand (s : State) (p : PortalId) : Burst s (s.sendCommand p) := by
  unfold State.sendCommand
  split
  · exact modSeq s rfl
  · exact sendCommandNow s p

theorem sendKeeper (s : State) (p : PortalId) : Burst s (s.sendKeeper p) := by
  unfold State.sendKeeper
  extract_lets l q sent
  split
  next => exact refl s
  next h =>
    have hup : (s.link p).up = true := by simp [l] at h; exact h.1.1
    exact (modLink s _ (.inl hup) : Burst s sent).trans (modSeq sent rfl)

theorem sendStream (s : State) (p : PortalId) : Burst s (s.sendStream p) := by
  unfold State.sendStream
  extract_lets w l
  split
  next h =>
    have hruns : (s.link p).phase = .running := by simp [l] at h; exact h.1
    exact modLink s _ (.inr hruns)
  next => exact refl s

/-- What the end of a burst writes of the lock block and of the kernel's registers. -/
theorem written (s : State) (at_ : Nat) (swap : Word) (due : Bool) (signals : BitVec 256) (w : Word) (shown : Option SeqShown) :
    Burst s { s with lock := { s.lock with lastBurst := at_, swap := swap, intrDue := due }
                     seq := { s.seq with signals := signals, word96 := w, shown := shown } } :=
  ⟨rfl, fun _ => .refl _, fun _ _ _ => rfl⟩

/-- The burst of a cycle. -/
theorem burst (s : State) : Burst s s.burst := by
  unfold State.burst
  extract_lets s1 k s2 q s3 s4 l us
  have h1 : Burst s s1 := eachPortal sendCommand s
  have h2 : Burst s1 s2 := by
    dsimp only [s2]
    split
    · exact eachPortal sendKeeper s1
    · exact refl s1
  have h3 : Burst s2 s3 := ⟨rfl, fun _ => .refl _, fun _ _ _ => rfl⟩
  have h4 : Burst s3 s4 := eachPortal sendStream s3
  exact (h1.trans h2).trans ((h3.trans h4).trans (written ..))

end Burst

end Sys2Proof.Machine
end


section
/-! The boundary of a cycle (R280 to R288) keeps within the host die. -/

namespace Sys2Proof.Machine

namespace WithinHost

variable {s t : State}

theorem movePair (h : WithinHost s t) (i : PairId) (st : PairState) : WithinHost s (t.movePair i st) := by
  rw [movePair_eq]
  exact h.trans rfl

theorem endGraft (h : WithinHost s t) (why : Nat) : WithinHost s (t.endGraft why) := by
  rw [endGraft_eq]
  exact h.trans rfl

theorem enterSafe (h : WithinHost s t) (c : SafeCause) : WithinHost s (t.enterSafe c) := by
  refine h.trans ?_
  by_cases hfail : t.psm.state.mayFail
  · exact (entersSafe hfail c).within
  · unfold State.enterSafe
    unfold Psm.mayFail at hfail
    split
    next => exact refl t
    next => exact refl t
    next => exact refl t
    next hoff hfuse hsafe => exact absurd ⟨hoff, hfuse, hsafe⟩ hfail

theorem countFail (h : WithinHost s t) (i : PairId) : WithinHost s (t.countFail i) := by
  unfold State.countFail
  extract_lets n u
  have hu : WithinHost s u := h.trans rfl
  split
  · exact (hu.movePair i .retired).trans rfl
  · exact hu

theorem candidateSig (s : State) (g : Graft) (x : XSig) : WithinHost s (s.candidateSig g x) := by
  unfold State.candidateSig
  cases x with
  | equal =>
    dsimp only
    split
    · exact rfl
    · exact (movePair (by exact rfl) g.pair .shadow).trans rfl
  | differ =>
    refine endGraft (countFail ?_ g.pair) 3
    exact (movePair (by exact rfl) g.pair .failed).trans rfl
  | nonCode => exact rfl

theorem shadowSig (s : State) (o : PairId) (x : XSig) : WithinHost s (s.shadowSig o x) := by
  unfold State.shadowSig
  cases x with
  | equal =>
    dsimp only
    split
    · exact rfl
    · exact movePair (by exact rfl) o .suspect
  | differ =>
    extract_lets l n t u
    have hu : WithinHost s u := by
      dsimp only [u]
      split <;> exact rfl
    dsimp only
    split
    · exact hu.enterSafe _
    · exact hu
  | nonCode => exact movePair (by exact rfl) o .suspect

theorem explainedNonCode (h : WithinHost s t) : WithinHost s t.explainedNonCode := by
  unfold State.explainedNonCode
  extract_lets l u m go
  have hu : WithinHost s u := h.trans rfl
  have hgo : ∀ i, WithinHost s (go i) := fun i => by
    dsimp only [go]
    split
    · exact enterSafe (movePair (hu.trans (by exact rfl)) i .suspect) _
    · exact movePair (hu.trans (by exact rfl)) i .suspect
  split_ifs
  · exact hgo _
  · exact hgo _
  · exact hu

theorem explainedSig (s : State) (x : XSig) : WithinHost s (s.explainedSig x) := by
  unfold State.explainedSig
  cases x with
  | equal => exact rfl
  | differ => exact rfl
  | nonCode => exact explainedNonCode rfl

theorem crossCompare (s : State) (k : XCheck) : WithinHost s (s.crossCompare k) := by
  unfold State.crossCompare
  extract_lets x
  split
  · exact explainedSig s x
  · split
    · split
      · exact candidateSig s _ x
      · exact refl s
    · split
      · exact shadowSig s _ x
      · exact rfl
    · exact refl s

theorem noteSwap (h : WithinHost s t) (cause : Nat) (fromC : Bool) : WithinHost s (t.noteSwap cause fromC) := h.trans rfl

theorem promote (h : WithinHost s t) : WithinHost s t.promote := by
  unfold State.promote
  extract_lets why go
  have hgo : ∀ i, WithinHost s (go i) := fun i => (noteSwap ((h.movePair i .lead).trans (by exact rfl)) why _).trans rfl
  split_ifs
  · exact h
  · exact hgo _
  · exact hgo _
  · exact h

theorem planSwap (h : WithinHost s t) : WithinHost s t.planSwap := by
  unfold State.planSwap
  split
  next q i _ _ =>
    extract_lets o l u v
    have hu : WithinHost s u := (h.movePair o .lead).movePair i _
    have hv : WithinHost s v := noteSwap (hu.trans (by exact rfl)) ..
    split_ifs
    · exact h
    · exact h.trans rfl
    · exact h.trans rfl
    · exact hv.trans rfl
    · exact h
  next => exact h

theorem graftSync (h : WithinHost s t) (clean : Bool) : WithinHost s (t.graftSync clean) := by
  unfold State.graftSync
  split
  · split
    · exact movePair (h.trans (by exact rfl)) _ .candidate
    · exact h
  · exact h

theorem boundary (s : State) (k : KernelInputs) : WithinHost s (s.boundary k) :=
  graftSync ((planSwap (promote (crossCompare s k.xsig))).trans (by exact rfl)) _

theorem backFromDormant (h : WithinHost s t) : WithinHost s t.backFromDormant := by
  unfold State.backFromDormant
  split
  · rw [answerState_eq]
    exact (h.trans (LinksOnly.giveUp t).within).trans rfl
  · exact h

end WithinHost

end Sys2Proof.Machine
end


section
/-! A kernel cycle from boundary to burst, and the guards of its outputs (R115, R135, R138). -/

namespace Sys2Proof.Machine

/-! ### A kernel cycle -/

/-- What a kernel cycle evaluates: the state after the boundary, with the next cycle number and the vector agreed (R275, R277). -/
def State.cycleBegun (s : State) (k : KernelInputs) : State :=
  let u := (s.boundary k).cycleOver.backFromDormant
  State.agree { u with seq := { u.seq with cycle := u.seq.cycle + 1 } } k.dis

/-- What stays of an evaluation that from `s` led to `t` where its burst is discarded: a portal command waits on (R271, R282). -/
def State.withheld (s t : State) : State :=
  let u := s.discarded t
  State.cycleEnd { u with seq := { u.seq with pcmd := s.seq.pcmd, pcmdQueue := s.seq.pcmdQueue, word98 := s.seq.word98 } }

/-- The evaluation in the cycle in which a shadow has taken the lead: it sees no portal command. -/
def State.evaluateAfterSwap (s : State) (us : Byte) : State := State.evaluate { s with seq := { s.seq with pcmd := none } } us

theorem backFromDormant_lock (s : State) : s.backFromDormant.lock = s.lock := by
  unfold State.backFromDormant
  split
  · rw [answerState_eq]
    exact (LinksOnly.giveUp s).lock
  · rfl

section
variable {s : State} {k : KernelInputs}

theorem kernelCycle_idle (h : s.kernelRuns = false) : s.kernelCycle k = s := if_pos (by simp [h])

/-- A kernel cycle with a pair in the lead evaluates, and commits its burst unless a shadow has just taken the lead (R271). -/
theorem kernelCycle_runs (h : s.kernelRuns = true) (hlead : (s.boundary k).lock.lead.isSome = true) :
    s.kernelCycle k = if s.lock.promoteWhy != 0 then (s.cycleBegun k).withheld ((s.cycleBegun k).evaluateAfterSwap k.evalUs)
      else ((s.cycleBegun k).evaluate k.evalUs).cycleEnd.burst := by
  have hled : (s.boundary k).cycleOver.backFromDormant.lock.lead.isNone = false := by
    rw [backFromDormant_lock]
    exact Option.isNone_eq_false_iff.2 hlead
  exact (if_neg (by simp [h])).trans (if_neg (by simp [hled]))

end

/-! ### The guards to the end of a cycle -/

theorem KeepsOutputs.of_burst {s t : State} (h : Burst s t) (p : PortalId) : KeepsOutputs p s t where
  service := by
    rw [h.eq]
    rfl
  agreed := by rw [h.eq]
  record := by rw [h.record p]

theorem KeepsOutputs.of_leaving {s t : State} (h : Leaving s t) (p : PortalId) : KeepsOutputs p s t := by
  rw [h]
  exact ⟨rfl, rfl, rfl⟩

theorem Leaving.pendingStep (s : State) : Leaving s s.pendingStep := by
  unfold State.pendingStep
  split
  · exact .stepWaiting s
  · exact .refl s

/-- Of the kernel's state a command's messages take up results and summaries alone. -/
theorem commit_seq' (s t : State) (hp : t.port.pending = none) :
    (s.commit t).seq = { t.seq with results := (s.commit t).seq.results, summaries := (s.commit t).seq.summaries } := by
  obtain ⟨u, h, e⟩ := commit_eq s t hp
  have hseq : (if t.psm.state = s.psm.state then t else t.stateLeft).seq = t.seq := by
    split
    · rfl
    · exact stateLeft_seq t
  rw [e, ← hseq]
  exact h.seq

theorem KeepsOutputs.commit (s : State) {t : State} (hp : t.port.pending = none) (p : PortalId) : KeepsOutputs p t (s.commit t) where
  service := inService_congr (commit_psm' s t hp)
  agreed := by rw [commit_seq' s t hp]
  record := by rw [State.sp, commit_seq' s t hp, State.sp]

theorem KeepsOutputs.cycleEnd (t : State) (p : PortalId) : KeepsOutputs p t t.cycleEnd := ⟨rfl, rfl, rfl⟩

theorem KeepsOutputs.withheld (s t : State) (p : PortalId) : KeepsOutputs p t (s.withheld t) := ⟨rfl, rfl, rfl⟩

/-- At the end of a kernel cycle the outputs of every portal are guarded. -/
theorem kernelCycle_guarded {s : State} {k : KernelInputs} (h : s.kernelRuns = true) (hlead : (s.boundary k).lock.lead.isSome = true)
    (p : PortalId) : (s.kernelCycle k).OutputsGuarded p := by
  rw [kernelCycle_runs h hlead]
  split
  · exact (evaluate_guarded _ k.evalUs p).of_keeps (.withheld _ _ p)
  · exact ((evaluate_guarded _ k.evalUs p).of_keeps (.cycleEnd _ p)).of_keeps (.of_burst (.burst _) p)

namespace WithinHost

variable {s t : State}

theorem of_burst (h : Burst s t) : WithinHost s t := by
  unfold WithinHost
  rw [h.eq]

theorem agree (h : WithinHost s t) (dis : Two (Two (BitVec 128))) : WithinHost s (t.agree dis) := by
  unfold State.agree
  extract_lets l m d runs faulty agreed note q u
  have hu : WithinHost s u := h.trans rfl
  split
  · exact hu
  · exact hu.trans rfl

theorem cycleOver (h : WithinHost s t) : WithinHost s t.cycleOver := h.trans rfl

theorem cycleBegun (s : State) (k : KernelInputs) : WithinHost s (s.cycleBegun k) :=
  agree ((backFromDormant (cycleOver (boundary s k))).trans (by exact rfl)) _

theorem withheld (h : WithinHost s t) (r : State) : WithinHost s (r.withheld t) := h.trans rfl

theorem evaluate (h : WithinHost s t) (us : Byte) : WithinHost s (t.evaluate us) := h.trans (of_eval (.evaluate ..))

theorem cycleEnd (h : WithinHost s t) : WithinHost s t.cycleEnd := h.trans rfl

/-- A kernel cycle keeps within the host die. -/
theorem kernelCycle (h : s.kernelRuns = true) {k : KernelInputs} (hlead : (s.boundary k).lock.lead.isSome = true) :
    WithinHost s (s.kernelCycle k) := by
  rw [kernelCycle_runs h hlead]
  have hbegun := cycleBegun s k
  split
  · exact withheld (evaluate (hbegun.trans (by exact rfl)) _) _
  · exact (cycleEnd (hbegun.evaluate _)).trans (of_burst (.burst _))

end WithinHost

/-- A step of device time leaves the host port alone. -/
theorem pendingStep_port (s : State) : s.pendingStep.port = s.port := (congrArg State.port (Leaving.pendingStep s) :)

/-- Settles O52: the outputs that end each portal's evaluation obey their guards, and neither the other portals' evaluation nor what follows
changes them. -/
theorem kernelOutputsObeyTheirGuards : Obligations.KernelOutputsObeyTheirGuards := by
  intro s k hfree hruns hlead
  have hport : (s.kernelCycle k).pendingStep.port.pending = none := by
    rw [pendingStep_port]
    exact (WithinHost.kernelCycle hruns hlead).portFree hfree
  refine .of_settled rfl fun p => ?_
  have hguarded : (s.commit (s.kernelCycle k).pendingStep).OutputsGuarded p :=
    ((kernelCycle_guarded hruns hlead p).of_keeps (.of_leaving (.pendingStep _) p)).of_keeps (.commit s hport p)
  exact ⟨hguarded.permit, hguarded.demand⟩

end Sys2Proof.Machine
end


section
/-! A kernel cycle in SERVICE without swap, graft or dispute (R113, R132, R275 to R277). -/

namespace Sys2Proof.Machine

section
variable {s : State} {k : KernelInputs} {i : PairId}

/-- Equal signatures, where no shadow was in dispute, count in LOCK_XSIG and change nothing else. -/
theorem crossCompare_equal {x : XCheck} (hlead : s.lock.lead = some i) (hgraft : s.lock.graft = none) (hdispute : s.lock.xdisRun = 0)
    (hx : crossResult x s.lock.sig = .equal) : ∃ w, s.crossCompare x = { s with lock := { s.lock with xsig := w } } := by
  have hagain : ({ s with lock := { s.lock with xdisRun := 0 } } : State) = s := by rw [← hdispute]
  unfold State.crossCompare
  rw [hx, hlead, hgraft]
  dsimp only
  split_ifs
  · exact ⟨s.lock.xsig, hagain⟩
  · exact ⟨_, if_pos hdispute⟩
  · exact ⟨s.lock.xsig, hagain⟩

/-- Without promotion, plan or graft the boundary of a cycle whose signatures agree changes what the comparison counts alone. -/
theorem boundary_equal (hlead : s.lock.lead = some i) (hpromote : s.lock.promoteWhy = 0) (hplan : s.lock.plan = none)
    (hgraft : s.lock.graft = none) (hdispute : s.lock.xdisRun = 0) (hx : crossResult k.xsig s.lock.sig = .equal) :
    ∃ w, s.boundary k = { s with lock := { s.lock with xsig := w, failedNow := 0 } } := by
  obtain ⟨w, hw⟩ := crossCompare_equal hlead hgraft hdispute hx
  refine ⟨w, ?_⟩
  unfold State.boundary
  rw [hw]
  simp [State.promote, State.planSwap, State.graftSync, hpromote, hplan, hgraft]

theorem backFromDormant_idle (h : s.psm.busy = none) : s.backFromDormant = s := by
  simp [State.backFromDormant, PsmState.linksBack, h]

/-- The agreement takes the vector of the captures and keeps its count in the lock block. -/
theorem agree_eq (s : State) (dis : Two (Two (BitVec 128))) : s.agree dis =
    { s with seq := { s.seq with agreed := (List.range 128).map fun n => agreedWord s.lock.infault n (s.capture n) }
             lock := { s.lock with runs := (s.agree dis).lock.runs, agree := (s.agree dis).lock.agree, infault := (s.agree dis).lock.infault,
                                   evt := (s.agree dis).lock.evt } } := by
  unfold State.agree
  extract_lets l m d runs faulty agreed note q u
  split <;> rfl

/-- What the evaluation of an undisturbed cycle starts from. -/
structure CalmBegin (s t : State) : Prop where
  eq : t = { s with psm := { s.psm with accepted := none }, lock := t.lock,
                    seq := { s.seq with cycle := s.seq.cycle + 1, agreed := t.seq.agreed } }
  pairs : t.lock.pairs = s.lock.pairs
  agreed : ∀ n, n < 128 → t.seq.agreed.getD n 0 = agreedWord s.lock.infault n (s.capture n)

theorem cycleBegun_calm (hlead : s.lock.lead = some i) (hpromote : s.lock.promoteWhy = 0) (hbusy : s.psm.busy = none)
    (hplan : s.lock.plan = none) (hgraft : s.lock.graft = none) (hdispute : s.lock.xdisRun = 0)
    (hx : crossResult k.xsig s.lock.sig = .equal) : CalmBegin s (s.cycleBegun k) := by
  obtain ⟨w, hw⟩ := boundary_equal hlead hpromote hplan hgraft hdispute hx
  unfold State.cycleBegun
  rw [hw, backFromDormant_idle (by exact hbusy), agree_eq]
  refine ⟨rfl, rfl, fun n hn => ?_⟩
  simp only [List.getD_eq_getElem?_getD, List.getElem?_map, List.getElem?_range hn, Option.map_some, Option.getD_some]
  rfl

end

section
variable {s : State} {k : KernelInputs} {i : PairId}

theorem kernelRuns_service (hstate : s.psm.state = .service) (hlead : s.lock.lead = some i) : s.kernelRuns = true := by
  simp [State.kernelRuns, hstate, hlead]

/-- A step of device time is made only where one waits. -/
theorem pendingStep_none (h : s.time.stepPend = none) : s.pendingStep = s := by
  unfold State.pendingStep State.stepWaiting
  rw [h]
  exact ite_self _

theorem cycleEnd_pairs (s : State) : s.cycleEnd.lock.pairs = s.lock.pairs := rfl

/-- What a cycle with a committed burst leaves of the state `b` from which its evaluation led to `e`. -/
theorem cycleCommitted_keeps {b e : State} (h : Eval b e) : ∃ u, u = e.cycleEnd.burst ∧
    u.seq.cycle = b.seq.cycle ∧ u.seq.agreed = b.seq.agreed ∧ u.psm = b.psm ∧ u.lock.pairs = b.lock.pairs ∧ u.clock = b.clock ∧
    u.time = b.time ∧ u.fabric = b.fabric ∧ u.portals = b.portals ∧ u.port = b.port ∧
    ∀ p, (b.link p).up = false → (b.link p).phase ≠ .running → u.link p = b.link p := by
  have hburst := Burst.burst e.cycleEnd
  obtain ⟨hclock, hpsm, -, -, hfabric, hlock, hlinks, -, hport, -, -, htime, -, hportals, -, -, hcycle, hagreed, -⟩ := h.fields
  have hlink : ∀ p, e.cycleEnd.link p = b.link p := fun p => congrArg (·.get p) hlinks
  refine ⟨_, rfl, ?_, ?_, ?_, ?_, ?_, ?_, ?_, ?_, ?_, fun p hup hphase => ?_⟩
  case refine_10 =>
    rw [← hlink p] at hup hphase ⊢
    exact hburst.link p hup hphase
  all_goals rw [hburst.eq]
  · exact hcycle
  · exact hagreed
  · exact hpsm
  · exact (cycleEnd_pairs e).trans (congrArg LockState.pairs hlock)
  · exact hclock
  · exact htime
  · exact hfabric
  · exact hportals
  · exact hport

/-- A kernel cycle in SERVICE without swap, graft or dispute (R113, R132, R275 to R277). -/
theorem runs_kernelCycle_calm (hfree : s.portFree) (hstate : s.psm.state = .service) (hlead : s.lock.lead = some i)
    (hpromote : s.lock.promoteWhy = 0) (hbusy : s.psm.busy = none) (hplan : s.lock.plan = none) (hgraft : s.lock.graft = none)
    (hdispute : s.lock.xdisRun = 0) (hstep : s.time.stepPend = none) (hx : crossResult k.xsig s.lock.sig = .equal) :
    Runs (.kernelCycle k) s fun t => t.seq.cycle = s.seq.cycle + 1 ∧ t.psm = { s.psm with accepted := none } ∧ t.lock.pairs = s.lock.pairs ∧
      t.clock = s.clock ∧ t.time = s.time ∧ t.fabric = s.fabric ∧
      (∀ n, n < 128 → t.seq.agreed.getD n 0 = agreedWord s.lock.infault n (s.capture n)) ∧ t.portals = s.portals ∧
      ∀ p, (s.link p).up = false → (s.link p).phase ≠ .running → t.links.get p = s.links.get p := by
  have hruns := kernelRuns_service hstate hlead
  obtain ⟨w, hw⟩ := boundary_equal hlead hpromote hplan hgraft hdispute hx
  have hled : (s.boundary k).lock.lead.isSome = true := by
    rw [hw]
    exact Option.isSome_iff_exists.2 ⟨i, hlead⟩
  obtain ⟨hbegun, hpairs, hagreed⟩ := cycleBegun_calm hlead hpromote hbusy hplan hgraft hdispute hx
  obtain ⟨u, hu, hcycle', hagreed', hpsm', hpairs', hclock', htime', hfabric', hportals', hport', hlink'⟩ :=
    cycleCommitted_keeps (.evaluate (s.cycleBegun k) k.evalUs)
  have hcommitted : s.kernelCycle k = u := by
    rw [kernelCycle_runs hruns hled, hu]
    exact if_neg (by simp [hpromote])
  generalize s.cycleBegun k = b at *
  have hpsm : u.psm = { s.psm with accepted := none } := by rw [hpsm', hbegun]
  have htime : u.time = s.time := by rw [htime', hbegun]
  have hsame : u.psm.state = s.psm.state := by rw [hpsm]
  have hport : u.port.pending = none := by rw [hport', hbegun]; exact hfree
  have hexec : exec (.kernelCycle k) s = settled s u := by
    show settled s (s.kernelCycle k).pendingStep = settled s u
    rw [hcommitted, pendingStep_none (by rw [htime]; exact hstep)]
  refine .of_settled hexec ⟨?_, ?_, ?_, ?_, ?_, ?_, fun n hn => ?_, ?_, fun p hup hphase => ?_⟩
  · rw [commit_seq s u hsame hport, hcycle', hbegun]
  · rw [commit_psm s u hsame hport, hpsm]
  · rw [commit_lock s u hsame hport, hpairs', hpairs]
  · rw [commit_clock s u hsame hport, hclock', hbegun]
  · rw [commit_time s u hsame hport, htime]
  · rw [commit_fabric s u hsame hport, hfabric', hbegun]
  · rw [commit_seq s u hsame hport, hagreed', hagreed n hn]
  · rw [commit_portals s u hsame hport, hportals', hbegun]
  · have hsilent : b.link p = s.link p := by rw [hbegun]; rfl
    rw [commit_links s u hsame hport]
    rw [← hsilent] at hup hphase
    exact (hlink' p hup hphase).trans hsilent

end

end Sys2Proof.Machine
end


section
/-! Faulty words, the kernel's timers and SEQ_PCMD (R116, R132, R138, R143, R276, R277). -/

namespace Sys2Proof.Machine

/-! ### A portal with a faulty word (R276, R277) -/

/-- Link-up of a portal one of whose words is faulty reads 0. -/
theorem agreedWord_linkUp {bad : BitVec 128} {n : Nat} {w : Word} (hlo : 32 ≤ n) (hhi : n < 96) (hn : n % 16 = 0)
    (hbad : ∃ i, i < 16 ∧ wbit bad (n + i) = true) : wbit (agreedWord bad n w) 16 = false := by
  obtain ⟨i, hi, hbit⟩ := hbad
  have hword : n / 16 * 16 = n := by omega
  have hfaulty : portalFaulty bad n = true := by
    simp only [portalFaulty, hword, Bool.and_eq_true, decide_eq_true_eq, List.any_eq_true, List.mem_range]
    exact ⟨⟨hlo, hhi⟩, i, hi, hbit⟩
  simp [agreedWord, hn, hfaulty, wbit_putBit]

/-! ### Timers and portal commands (R116, R132, R138, R143) -/

/-- A command that changes the kernel's own state alone. -/
theorem runs_seqOnly {c : Instr} {s : State} {q : SeqState} (hc : exec c s = settled s { s with seq := q }) (hfree : s.portFree) :
    Runs c s fun t => t.seq = { q with results := t.seq.results, summaries := t.seq.summaries } ∧ t.sec = s.sec ∧ t.psm = s.psm ∧
      t.portals = s.portals ∧ t.links = s.links :=
  .of_settled hc ⟨commit_seq s _ rfl hfree, commit_sec s _ rfl hfree, commit_psm s _ rfl hfree, commit_portals s _ rfl hfree,
    commit_links s _ rfl hfree⟩

/-- A command that changes the kernel's record of one portal alone. -/
theorem runs_modSeq {c : Instr} {s : State} {p : PortalId} {f : SeqPortal → SeqPortal} (hc : exec c s = settled s (s.modSeq p f))
    (hfree : s.portFree) : Runs c s fun t => t.sp p = f (s.sp p) ∧ (∀ q, q ≠ p → t.sp q = s.sp q) ∧ t.psm = s.psm ∧ t.portals = s.portals ∧
      t.links = s.links := by
  refine (runs_seqOnly hc hfree).mono fun t ⟨hseq, _, hpsm, hportals, hlinks⟩ => ?_
  have hsp : ∀ q, t.sp q = (s.modSeq p f).sp q := fun q => by rw [State.sp, hseq]; rfl
  exact ⟨(hsp p).trans (modSeq_sp_self ..), fun q hq => (hsp q).trans (modSeq_sp_ne s hq f), hpsm, hportals, hlinks⟩

/-- A command that finds nothing to do. -/
theorem runs_nothing {c : Instr} {s : State} (hc : exec c s = settled s s) : Runs c s fun t => t = { s with port := { s.port with hrdy := s.ready } } :=
  .of_settled hc (commit_self s)

theorem runs_nothing_sp {c : Instr} {s : State} (hc : exec c s = settled s s) : Runs c s fun t => ∀ q, t.sp q = s.sp q :=
  (runs_nothing hc).mono fun t ht q => by rw [ht]; rfl

section
variable {s : State} {p : PortalId}

theorem exec_stateTimeout_due (hv : (s.sp p).custValid = true) (ht : (seqRec (s.seqTable p) (s.sp p).cust).timeout ≠ 0) :
    exec (.stateTimeout p) s = settled s (s.modSeq p fun q => { q with tmo := true }) := congrArg (settled s) (if_pos (by simp [hv, ht]))

theorem exec_stateTimeout_none (hv : (s.sp p).custValid = false) : exec (.stateTimeout p) s = settled s s :=
  congrArg (settled s) (if_neg (by simp [hv]))

theorem exec_isoAgreeTimer_due {x : Nat} (h : (s.sp p).agreeAt = some x) :
    exec (.isoAgreeTimer p) s = settled s (s.modSeq p fun q => { q with agreed500 := true }) := congrArg (settled s) (if_pos (by simp [h]))

theorem exec_isoAgreeTimer_none (h : (s.sp p).agreeAt = none) : exec (.isoAgreeTimer p) s = settled s s :=
  congrArg (settled s) (if_neg (by simp [h]))

theorem exec_zsDiscrepancyTimer_due {x : Nat} (h : s.seq.zsDiffAt = some x) (hd : s.seq.zsDisc = false) :
    exec .zsDiscrepancyTimer s = settled s { s with seq := { s.seq with zsDisc := true, zsDiscEv := true } } :=
  congrArg (settled s) (if_pos (by simp [h, hd]))

theorem exec_zsDiscrepancyTimer_none (h : s.seq.zsDiffAt = none) : exec .zsDiscrepancyTimer s = settled s s :=
  congrArg (settled s) (if_neg (by simp [h]))

theorem exec_roleDiscrepancyTimer_due {r : Role} {x : Nat} (h : (s.sp p).splitAt.get (roleIdx r) = some x) :
    exec (.roleDiscrepancyTimer p r) s = settled s (s.modSeq p fun q => { q with disc := putBit q.disc (roleIdx r).val true }) :=
  congrArg (settled s) (if_neg (by simp [h]))

theorem exec_roleDiscrepancyTimer_none {r : Role} (h : (s.sp p).splitAt.get (roleIdx r) = none) :
    exec (.roleDiscrepancyTimer p r) s = settled s s := congrArg (settled s) (if_pos (by simp [h]))

end

/-! ### SEQ_PCMD (R143) -/

/-- Word 98 tells of a portal command. -/
theorem portalCmd_word_valid (c : PortalCmd) : wbit c.word 31 = true := by
  simp [PortalCmd.word, bitIf, wbit]

/-- The portal command that a write of SEQ_PCMD asks for. -/
def State.registerCmd (s : State) (p : PortalId) (cmd : BitVec 4) : PortalCmd := PortalCmd.mk ⟨.host, 0⟩ 0 p cmd (s.pwHeld .host) false

section
variable {s : State} {c : Instr} {key : Byte} {p : PortalId} {cmd : BitVec 4}

/-- A wrong key is refused at once with reason 1. -/
theorem runs_seqPcmd_badKey (hc : exec c s = settled s (s.seqPcmd key p cmd)) (hfree : s.portFree) (hkey : key ≠ 0x5E) :
    Runs c s fun t => wbit t.seq.pcmdStat 30 = true ∧ fget t.seq.pcmdStat 3 0 = 1 ∧ t.seq.pcmd = s.seq.pcmd ∧
      t.seq.pcmdQueue = s.seq.pcmdQueue ∧ (∀ q, t.sp q = s.sp q) ∧ t.sec = s.sec := by
  rw [State.seqPcmd, if_pos hkey] at hc
  refine (runs_seqOnly hc hfree).mono fun t ⟨hseq, hsec, _⟩ => ?_
  rw [hseq]
  refine ⟨?_, fget_fput_self _ _ _ _ (by decide) (by decide), rfl, rfl, fun q => ?_, hsec⟩
  · rw [wbit_fput_ne _ _ _ (by decide) (by decide), wbit_raise_self _ _ (by decide)]
  · rw [State.sp, hseq, State.sp]

/-- With no portal command under way the next kernel cycle finds the command in word 98. -/
theorem runs_seqPcmd_presented (hc : exec c s = settled s (s.seqPcmd key p cmd)) (hfree : s.portFree) (hkey : key = 0x5E)
    (hnone : s.seq.pcmd = none) (hempty : s.seq.pcmdQueue = []) :
    Runs c s fun t => t.seq.pcmd = some (s.registerCmd p cmd) ∧ wbit t.seq.word98 31 = true ∧ t.seq.pcmdQueue = [] ∧
      (∀ q, t.sp q = s.sp q) ∧ t.sec = s.sec := by
  have hpresented : s.seqPcmd key p cmd =
      { s with seq := { s.seq with pcmd := some (s.registerCmd p cmd), word98 := (s.registerCmd p cmd).word, pcmdQueue := [] } } := by
    simp [State.seqPcmd, hkey, State.queuePcmd, State.nextPcmd, hnone, hempty, State.registerCmd]
  rw [hpresented] at hc
  refine (runs_seqOnly hc hfree).mono fun t ⟨hseq, hsec, _⟩ => ?_
  rw [hseq]
  refine ⟨rfl, portalCmd_word_valid _, rfl, fun q => ?_, hsec⟩
  rw [State.sp, hseq, State.sp]

/-- Behind another portal command the command waits in the queue. -/
theorem runs_seqPcmd_queued {d : PortalCmd} (hc : exec c s = settled s (s.seqPcmd key p cmd)) (hfree : s.portFree) (hkey : key = 0x5E)
    (hsome : s.seq.pcmd = some d) :
    Runs c s fun t => t.seq.pcmd = some d ∧ t.seq.pcmdQueue = s.seq.pcmdQueue ++ [s.registerCmd p cmd] ∧ t.seq.word98 = s.seq.word98 := by
  have hqueued : s.seqPcmd key p cmd = { s with seq := { s.seq with pcmdQueue := s.seq.pcmdQueue ++ [s.registerCmd p cmd] } } := by
    simp [State.seqPcmd, hkey, State.queuePcmd, hsome, State.registerCmd]
  rw [hqueued] at hc
  refine (runs_seqOnly hc hfree).mono fun t ⟨hseq, _⟩ => ?_
  rw [hseq]
  exact ⟨hsome, rfl, rfl⟩

end

/-- Settles O53: a cycle without a pair in the lead, an undisturbed one in SERVICE, a faulty word, the timers one by one, and SEQ_PCMD by its key
and by what is under way. -/
theorem kernelCycleTimersAndPortalCommands : Obligations.KernelCycleTimersAndPortalCommands := by
  refine ⟨fun s k hruns hstep => ?_, fun s k i => runs_kernelCycle_calm, fun bad n w => agreedWord_linkUp, fun s p hfree => ?_,
    fun s p key hfree halive hserves => ?_⟩
  · refine runs_nothing ?_
    show settled s (s.kernelCycle k).pendingStep = settled s s
    rw [kernelCycle_idle hruns, pendingStep_none hstep]
  · refine ⟨fun hv ht => ?_, fun hv => ?_, fun x h => ?_, fun h => ?_, fun x h hd => ?_, fun h => ?_, fun r x h => ?_, fun r h => ?_⟩
    · exact runs_modSeq (exec_stateTimeout_due hv ht) hfree
    · exact runs_nothing_sp (exec_stateTimeout_none hv)
    · exact runs_modSeq (exec_isoAgreeTimer_due h) hfree
    · exact runs_nothing_sp (exec_isoAgreeTimer_none h)
    · refine (runs_seqOnly (exec_zsDiscrepancyTimer_due h hd) hfree).mono fun t ⟨hseq, _, hpsm, hportals, _⟩ => ?_
      exact ⟨by rw [hseq], by rw [hseq], fun q => by rw [State.sp, hseq, State.sp], hpsm, hportals⟩
    · refine (runs_nothing (exec_zsDiscrepancyTimer_none h)).mono fun t ht => ?_
      rw [ht]
      exact ⟨rfl, rfl, fun _ => rfl⟩
    · exact runs_modSeq (exec_roleDiscrepancyTimer_due h) hfree
    · exact runs_nothing_sp (exec_roleDiscrepancyTimer_none h)
  · have hclear : exec (.seqPcmdClearFault key p) s = settled s (s.seqPcmd key p 1) := congrArg (settled s) (atPort_served halive hserves _)
    have hreset : exec (.seqPcmdResetLockout key p) s = settled s (s.seqPcmd key p 2) := congrArg (settled s) (atPort_served halive hserves _)
    refine ⟨fun hkey c hc => ?_, fun hkey hnone hempty => ?_, fun hkey hnone hempty => ?_, fun d hkey hsome => ?_⟩
    · simp only [List.mem_cons, List.not_mem_nil, or_false] at hc
      obtain rfl | rfl := hc
      · exact runs_seqPcmd_badKey hclear hfree hkey
      · exact runs_seqPcmd_badKey hreset hfree hkey
    · exact runs_seqPcmd_presented hclear hfree hkey hnone hempty
    · exact runs_seqPcmd_presented hreset hfree hkey hnone hempty
    · exact runs_seqPcmd_queued hclear hfree hkey hsome

end Sys2Proof.Machine
end

section
/-! The last step of a profile run in brown-out hold (R161, R162, R357). -/

namespace Sys2Proof.Machine

/-- A profile run in the open direction that ends one unit from position 0. -/
def finalStep : Motion :=
  { why := .profile, profile := 0, target := 1, goal := 1, path := [], tau := 0, frac := 0, after := .rest, endsAtTarget := true, iRun := 0, iAcc := 0 }

/-- A portal die in brown-out hold whose leaf A has one step of its run left, hold-firm not asserted. -/
def finalStepInHold : PortalState :=
  { supply := { field := .hold }, axes := (Three.all {}).set 0 { drive := .run, motion := some finalStep, timer := 50 } }

/-- The device at reset with that run on portal 0. -/
def finalStepInHoldState : State := State.reset.setPortal 0 finalStepInHold

theorem finalStepInHold_calm : finalStepInHold.calm := by
  refine ⟨rfl, .inr fun a => ?_, rfl, rfl⟩
  fin_cases a <;> rfl

theorem exec_stepTimerExpire (p : PortalId) (a : AxisId) (s : State) :
    exec (.stepTimerExpire p a) s = portalOnly s p fun P => P.stepExpire s.clock p a := rfl

/-- In brown-out hold the axis comes to rest at reduced current at once (R357). -/
theorem stepExpire_rests_reduced_in_hold :
    (((finalStepInHoldState.onPortal 0 fun P => P.stepExpire finalStepInHoldState.clock 0 0).portals.get 0).axes.get 0).holdRed = true := by
  rfl

/-- Refutes O59: a profile run that reaches its target is stated to leave HOLD_RED clear under conditions that do not exclude brown-out hold, where the
axis holds at reduced current from the moment it rests (R357). -/
theorem not_axesAndFeedback : ¬ Obligations.AxesAndFeedback := by
  intro h
  obtain ⟨haxes, -⟩ := h
  obtain ⟨-, -, -, -, -, -, -, hstep, -⟩ :=
    haxes finalStepInHoldState 0 0 finalStepInHold (finalStepInHold.axes.get 0) rfl finalStepInHold_calm rfl
  obtain ⟨-, -, -, hlast⟩ := hstep finalStep rfl rfl (by decide) (by decide)
  obtain ⟨t, ht, -, -, -, -, -, -, hred, -⟩ := hlast rfl rfl rfl rfl rfl rfl
  obtain rfl := Host.Outcome.next.inj ((exec_stepTimerExpire 0 0 finalStepInHoldState).symm.trans ht)
  exact absurd (hred.symm.trans stepExpire_rests_reduced_in_hold) (by decide)

end Sys2Proof.Machine
end

section
/-! What the safety monitor leaves alone on a portal die (R207 to R232), and what follows its commands there. -/

namespace Sys2Proof.Machine

/-- What the operations of the safety monitor keep of a portal die: its units, its logic POR, its trips, FAULT once it is entered, and what would follow a
command on it (R231, R322). -/
structure Supervised (P Q : PortalState) : Prop where
  units : Q.units = P.units
  por : Q.por = P.por
  fault : P.cls = .fault → Q.cls = .fault
  trip : ∀ a, (Q.axes.get a).trip = (P.axes.get a).trip
  waits : Q.link.outcomeWaits = P.link.outcomeWaits
  count : Q.ob.lclrCount = P.ob.lclrCount

namespace Supervised

variable {P Q R : PortalState}

theorem refl (P : PortalState) : Supervised P P := ⟨rfl, rfl, id, fun _ => rfl, rfl, rfl⟩

theorem trans (h : Supervised P Q) (g : Supervised Q R) : Supervised P R where
  units := g.units.trans h.units
  por := g.por.trans h.por
  fault hf := g.fault (h.fault hf)
  trip a := (g.trip a).trans (h.trip a)
  waits := g.waits.trans h.waits
  count := g.count.trans h.count

theorem foldl {α : Type} {f : PortalState → α → PortalState} (h : ∀ P a, Supervised P (f P a)) (l : List α) (P : PortalState) :
    Supervised P (l.foldl f P) := by
  induction l generalizing P with
  | nil => exact .refl P
  | cons a r ih => exact (h P a).trans (ih _)

theorem of_outputsOnly (h : OutputsOnly P Q) : Supervised P Q :=
  ⟨by rw [h.eq], by rw [h.eq], fun hf => by rw [h.eq, hf], h.trip, by rw [h.eq], by rw [h.eq]⟩

theorem of_enablesOnly (h : EnablesOnly P Q) : Supervised P Q :=
  ⟨by rw [h.eq], by rw [h.eq], fun hf => by rw [h.eq, hf], h.trip, by rw [h.eq], by rw [h.eq]⟩

/-- The monitor leaves a calm portal die calm. -/
theorem calm (h : Supervised P Q) (hc : P.calm) : Q.calm := by
  obtain ⟨hpor, hcls, hwaits, hcount⟩ := hc
  exact ⟨h.por.trans hpor, hcls.imp h.fault fun ht a => (h.trip a).trans (ht a), h.waits.trans hwaits, h.count.trans hcount⟩

theorem modOb {f : ObState → ObState} (h : ∀ o, (f o).lclrCount = o.lclrCount) (P : PortalState) : Supervised P (P.modOb f) :=
  ⟨rfl, rfl, id, fun _ => rfl, rfl, h _⟩

theorem event (P : PortalState) (ck code axis : Nat) (args : List Word) : Supervised P (P.event ck code axis args) :=
  of_outputsOnly (.event ..)

theorem learnDiscard (P : PortalState) : Supervised P P.learnDiscard := of_outputsOnly (.learnDiscard P)

theorem axisOff (P : PortalState) (a : AxisId) : Supervised P (P.axisOff a) := of_outputsOnly (.axisOff P a)

/-- Axes changed, and no trip latched or cleared. -/
theorem setAxes {t : Three AxisState} (h : ∀ a, (t.get a).trip = (P.axes.get a).trip) : Supervised P { P with axes := t } :=
  of_outputsOnly (.setAxes h)

theorem allOff (P : PortalState) : Supervised P P.allOff := setAxes fun a => by rw [Three.get_map, AxisState.off_trip]

theorem dropMotion (P : PortalState) : Supervised P P.dropMotion :=
  ⟨rfl, rfl, id, fun a => (congrArg AxisState.trip (Three.get_map _ P.axes a) :), rfl, rfl⟩

end Supervised

/-- A command of one portal die that leaves a calm die calm: no more than a STATE frame follows (R305). -/
theorem RunsPortal.of_supervised {c : Instr} {s : State} {p : PortalId} {P : PortalState} {f : PortalState → PortalState} {Q : PortalState → Prop}
    (hexec : exec c s = portalOnly s p f) (hP : s.portals.get p = P) (hc : P.calm) (h : Supervised P (f P))
    (hQ : ∀ e g, Q { f P with link := { (f P).link with fin := e, glEvt := g } }) : RunsPortal p c s Q :=
  .of_calm hexec hP hc.1 (h.calm hc) fun R hR => by
    rw [hR.1]
    exact hQ ..

/-- A command of one portal die whose effect is known as `X`, on a calm die that stays so. -/
theorem RunsPortal.of_eq {c : Instr} {s : State} {p : PortalId} {P X : PortalState} {f : PortalState → PortalState}
    (hexec : exec c s = portalOnly s p f) (hP : s.portals.get p = P) (hc : P.calm) (hf : f P = X) (hX : X.calm) :
    RunsPortal p c s fun Q => UpToFrames X Q :=
  .of_calm hexec hP hc.1 (by rwa [hf]) fun R hR => by rwa [hf] at hR

/-! ### FAULT -/

/-- The portal die `P` once FAULT is entered: no reversal follows, and the fail-safe states stand (R32, R129). -/
def PortalState.faulted (P : PortalState) : PortalState :=
  ({ P.modOb fun o => { o with rest := none, reversal := none, revPend := false, stop := o.stop.map fun s => { s with noReversal := true } } with
    cls := .fault } : PortalState).failsafeMarks

theorem OutputsOnly.enterFault {P : PortalState} (h : P.cls ≠ .fault) (ck : Nat) (why : Word) : OutputsOnly P.faulted (P.enterFault ck why) := by
  unfold PortalState.enterFault
  rw [if_neg (by simpa using h)]
  exact (OutputsOnly.applyFailsafe _ ck).trans (.event ..)

theorem enterFault_of_fault {P : PortalState} (h : P.cls = .fault) (ck : Nat) (why : Word) : P.enterFault ck why = P := by
  unfold PortalState.enterFault
  exact if_pos (by simp [h])

theorem enterFault_cls (P : PortalState) (ck : Nat) (why : Word) : (P.enterFault ck why).cls = .fault := by
  by_cases h : P.cls = .fault
  · rw [enterFault_of_fault h, h]
  · rw [(OutputsOnly.enterFault h ck why).cls]
    rfl

theorem Supervised.faulted (P : PortalState) : Supervised P P.faulted := ⟨rfl, rfl, fun _ => rfl, fun _ => rfl, rfl, rfl⟩

theorem Supervised.enterFault (P : PortalState) (ck : Nat) (why : Word) : Supervised P (P.enterFault ck why) := by
  by_cases h : P.cls = .fault
  · rw [enterFault_of_fault h]
    exact .refl P
  · exact (Supervised.faulted P).trans (.of_outputsOnly (.enterFault h ck why))

/-! ### Lock-out (R210) -/

/-- The portal die `P` without torque, stop, reversal and read-backs. -/
def PortalState.powerCut (P : PortalState) : PortalState :=
  let Q := P.allOff.endJog.modOb fun o =>
    { o with stop := none, rest := none, reversal := none, revPend := false, readback := 0, progArmed := 0, gateCheck := 0,
             decided := .all false, removed := .all true }
  { Q with mon2 := { Q.mon2 with progArmed := 0 } }

/-- The portal die `P` with torque removed by a safety-path fault: neither stop nor reversal is carried out (R210). -/
def PortalState.torqueCut (P : PortalState) (ck : Nat) : PortalState := (P.dropFirm ck).dropMotion.learnDiscard.powerCut

/-- The portal die `P` with the lock-out latched: LOCKED_OUT, unless it is in FAULT (R129, R210). -/
def PortalState.latched (P : PortalState) (k : Nat) : PortalState :=
  let Q := (P.modOb fun o => { o with lockCause := k, lockouts := satInc o.lockouts 255 }).obFlag 11
  if Q.cls == .fault then Q else { Q with cls := .lockedOut }

theorem Supervised.powerCut (P : PortalState) : Supervised P P.powerCut := (Supervised.allOff P).trans ⟨rfl, rfl, id, fun _ => rfl, rfl, rfl⟩

theorem Supervised.torqueCut (P : PortalState) (ck : Nat) : Supervised P (P.torqueCut ck) :=
  (((Supervised.of_outputsOnly (.dropFirm P ck)).trans (.dropMotion _)).trans (.learnDiscard _)).trans (.powerCut _)

theorem Supervised.latched (P : PortalState) (k : Nat) : Supervised P (P.latched k) := by
  unfold PortalState.latched
  extract_lets Q
  split
  · exact ⟨rfl, rfl, id, fun _ => rfl, rfl, rfl⟩
  next h => exact ⟨rfl, rfl, fun hf => absurd (beq_iff_eq.mpr hf) h, fun _ => rfl, rfl, rfl⟩

theorem learnDiscard_latches (P : PortalState) :
    P.learnDiscard.cls = P.cls ∧ P.learnDiscard.ob.lockCause = P.ob.lockCause ∧ P.learnDiscard.ob.lockouts = P.ob.lockouts := by
  unfold PortalState.learnDiscard
  split <;> exact ⟨rfl, rfl, rfl⟩

theorem powerCut_latches (P : PortalState) :
    P.powerCut.cls = P.cls ∧ P.powerCut.ob.lockCause = P.ob.lockCause ∧ P.powerCut.ob.lockouts = P.ob.lockouts := ⟨rfl, rfl, rfl⟩

/-- A cut of torque concerns neither the guarded state nor what is latched. -/
theorem torqueCut_latches (P : PortalState) (ck : Nat) :
    (P.torqueCut ck).cls = P.cls ∧ (P.torqueCut ck).ob.lockCause = P.ob.lockCause ∧ (P.torqueCut ck).ob.lockouts = P.ob.lockouts := by
  obtain ⟨hcls, hlock, hlockouts⟩ := learnDiscard_latches (P.dropFirm ck).dropMotion
  obtain ⟨kcls, klock, klockouts⟩ := powerCut_latches (P.dropFirm ck).dropMotion.learnDiscard
  exact ⟨kcls.trans hcls, klock.trans hlock, klockouts.trans hlockouts⟩

theorem torqueCut_drive (P : PortalState) (ck : Nat) (a : AxisId) : ((P.torqueCut ck).axes.get a).drive = .torqueOff := by
  show (((P.dropFirm ck).dropMotion.learnDiscard.axes.map AxisState.off).get a).drive = _
  rw [Three.get_map]
  rfl

/-- A safety-path fault on a die that is not locked out yet. -/
theorem lockOut_latches {P : PortalState} (h : P.ob.lockCause = 0) (ck k : Nat) :
    ∃ args, P.lockOut ck k = ((P.torqueCut ck).latched k).event ck 0x09 3 args := by
  obtain ⟨-, hlock, -⟩ := torqueCut_latches P ck
  exact ⟨_, if_neg fun hne => bne_iff_ne.mp hne (hlock.trans h)⟩

theorem Supervised.lockOut (P : PortalState) (ck k : Nat) : Supervised P (P.lockOut ck k) := by
  by_cases h : P.ob.lockCause = 0
  · obtain ⟨args, hargs⟩ := lockOut_latches h ck k
    rw [hargs]
    exact ((Supervised.torqueCut P ck).trans (.latched _ k)).trans (.event ..)
  · obtain ⟨-, hlock, -⟩ := torqueCut_latches P ck
    have hcut : P.lockOut ck k = P.torqueCut ck := if_pos (bne_iff_ne.mpr fun h0 => h (hlock.symm.trans h0))
    rw [hcut]
    exact .torqueCut P ck

/-- What a lock-out of the portal die `P` with cause `k` comes to (R210). -/
def LockedOut (P : PortalState) (k : Nat) (Q : PortalState) : Prop :=
  Q.ob.lockCause = k ∧ (∀ a, (Q.axes.get a).drive = .torqueOff) ∧ Q.ob.stop = none ∧ Q.ob.rest = none ∧ Q.ob.reversal = none ∧
    wbit Q.ob.evt 11 = true ∧ Q.ob.lockouts = satInc P.ob.lockouts 255 ∧ Q.units = P.units ∧ (P.cls ≠ .fault → Q.cls = .lockedOut)

theorem latched_ob (P : PortalState) (k : Nat) :
    (P.latched k).ob = { P.ob with lockCause := k, lockouts := satInc P.ob.lockouts 255, evt := raise P.ob.evt 11 } := by
  unfold PortalState.latched
  extract_lets Q
  split <;> rfl

theorem latched_axes (P : PortalState) (k : Nat) : (P.latched k).axes = P.axes := by
  unfold PortalState.latched
  extract_lets Q
  split <;> rfl

theorem latched_cls {P : PortalState} (h : P.cls ≠ .fault) (k : Nat) : (P.latched k).cls = .lockedOut := by
  unfold PortalState.latched
  extract_lets Q
  have hQ : Q.cls ≠ .fault := h
  rw [if_neg fun hf => hQ (beq_iff_eq.mp hf)]

theorem lockOut_lockedOut {P : PortalState} (h : P.ob.lockCause = 0) (ck k : Nat) : LockedOut P k (P.lockOut ck k) := by
  obtain ⟨args, hargs⟩ := lockOut_latches h ck k
  obtain ⟨hcls, -, hlockouts⟩ := torqueCut_latches P ck
  have hunits := (Supervised.lockOut P ck k).units
  have hevent := event_eq ((P.torqueCut ck).latched k) ck 0x09 3 args
  have hob : (P.lockOut ck k).ob = ((P.torqueCut ck).latched k).ob := by rw [hargs, hevent]
  have haxes : (P.lockOut ck k).axes = (P.torqueCut ck).axes := by rw [hargs, hevent, latched_axes]
  unfold LockedOut
  rw [hob, haxes, latched_ob, ← hlockouts]
  refine ⟨rfl, torqueCut_drive P ck, rfl, rfl, rfl, wbit_raise_self _ 11 (by decide), rfl, hunits, fun hf => ?_⟩
  rw [hargs, hevent]
  exact latched_cls (fun hc => hf (hcls.symm.trans hc)) k

/-- A command that ends in a safety-path fault on a die that is not locked out yet. -/
theorem runs_lockOut {c : Instr} {s : State} {p : PortalId} {P R : PortalState} {f : PortalState → PortalState} {k : Nat}
    (hexec : exec c s = portalOnly s p f) (hP : s.portals.get p = P) (hc : P.calm) (hf : f P = R.lockOut s.clock k) (hR : Supervised P R)
    (hlock : R.ob.lockCause = 0) (hlockouts : R.ob.lockouts = P.ob.lockouts) (hcls : R.cls = P.cls) : RunsPortal p c s (LockedOut P k) := by
  refine .of_supervised hexec hP hc ?_ fun e g => ?_
  · rw [hf]
    exact hR.trans (.lockOut R s.clock k)
  · obtain ⟨hcause, hoff, hstop, hrest, hrev, hevt, hcount, hunits, hlocked⟩ := lockOut_lockedOut hlock s.clock k
    rw [hf]
    exact ⟨hcause, hoff, hstop, hrest, hrev, hevt, hlockouts ▸ hcount, hunits.trans hR.units, fun h => hlocked (hcls ▸ h)⟩

end Sys2Proof.Machine
end

section
/-! The tests of the safety monitor, the full self-test and the lock-out resets (R209, R229 to R232). -/

namespace Sys2Proof.Machine

theorem exec_monitorTick (p : PortalId) (d : MonitorDiff) (s : State) : exec (.monitorTick p d) s = portalOnly s p fun P => P.monitorTick s.clock p d := rfl

theorem exec_monitorInjectionTest (p : PortalId) (b : Bool) (s : State) :
    exec (.monitorInjectionTest p b) s = portalOnly s p fun P => P.injectionTest s.clock b := rfl

theorem exec_adcCrossCheck (p : PortalId) (r : CrossReadings) (s : State) : exec (.adcCrossCheck p r) s = portalOnly s p fun P => P.crossCheck s.clock r := rfl

theorem exec_tableCrcCheck (p : PortalId) (b : Bool) (s : State) : exec (.tableCrcCheck p b) s = portalOnly s p fun P => P.tableCrc s.clock b := rfl

theorem exec_monitorSelftestComplete (p : PortalId) (b : Bool) (s : State) :
    exec (.monitorSelftestComplete p b) s = portalOnly s p fun P => P.selftestComplete s.clock b := rfl

theorem exec_analogEdgeSample (p : PortalId) (e : Fin 2) (code : BitVec 14) (s : State) :
    exec (.analogEdgeSample p e code) s = portalOnly s p fun P => P.edgeSample s.clock e code := rfl

theorem exec_progressTimeout (p : PortalId) (a : AxisId) (s : State) :
    exec (.progressTimeout p a) s = portalOnly s p fun P => P.progressTimeout s.clock p a := rfl

theorem exec_safeStopSettleTimeout (p : PortalId) (a : AxisId) (s : State) :
    exec (.safeStopSettleTimeout p a) s = portalOnly s p fun P => P.settleTimeout s.clock p a := rfl

theorem exec_torqueReadbackTimeout (p : PortalId) (a : AxisId) (s : State) :
    exec (.torqueReadbackTimeout p a) s = portalOnly s p fun P => P.readbackTimeout s.clock a := rfl

theorem exec_safeStopRestEnd (p : PortalId) (s : State) : exec (.safeStopRestEnd p) s = portalOnly s p fun P => P.restEnd s.clock p := rfl

theorem exec_lockoutClrLocal (p : PortalId) (s : State) : exec (.lockoutClrLocal p) s = portalOnly s p fun P => P.localReset p := rfl

theorem exec_obLearnWrite (p : PortalId) (w : Word) (s : State) : exec (.obLearnWrite p w) s = portalOnly s p fun P => P.learnWrite w := rfl

section
variable {s : State} {p : PortalId} {P : PortalState}

/-! ### Injection test, cross-check of the converters, check of the tables (R209, R240) -/

theorem runs_injectionTest (hP : s.portals.get p = P) (hc : P.calm) :
    (RunsPortal p (.monitorInjectionTest p true) s fun Q => UpToFrames P Q) ∧
      (P.ob.lockCause = 0 → RunsPortal p (.monitorInjectionTest p false) s (LockedOut P 5)) := by
  refine ⟨.of_idle (exec_monitorInjectionTest p true s) hP hc ?_, fun hlock =>
    runs_lockOut (exec_monitorInjectionTest p false s) hP hc ?_ (.refl P) hlock rfl rfl⟩
  · exact if_pos (by simp)
  · exact if_neg (by simp [hc.1])

/-- The portal die `P` with one cross-check counted, on each edge (R209, R240). -/
def PortalState.crossCounted (P : PortalState) (r : CrossReadings) : PortalState :=
  { P.modOb fun o => { o with
      runAdc := ⟨runOn o.runAdc.fst (crossDiffers r.adc0.fst r.adc1.fst), runOn o.runAdc.snd (crossDiffers r.adc0.snd r.adc1.snd)⟩ } with
    afe := { P.afe with crossDue := true } }

theorem crossCheck_eq (hpor : P.por = false) (ck : Nat) (r : CrossReadings) : P.crossCheck ck r =
    if 3 ≤ runOn P.ob.runAdc.fst (crossDiffers r.adc0.fst r.adc1.fst) ∨ 3 ≤ runOn P.ob.runAdc.snd (crossDiffers r.adc0.snd r.adc1.snd) then
      (P.crossCounted r).lockOut ck 3
    else P.crossCounted r := by
  unfold PortalState.crossCheck
  rw [if_neg (by simp [hpor])]
  simp only [Bool.or_eq_true, decide_eq_true_eq]
  rfl

/-- A run of three differences ends on the third. -/
theorem runOn_lt_three {n : Nat} {b : Bool} : runOn n b < 3 ↔ b = false ∨ n < 2 := by
  cases b
  · simp [runOn]
  · simp [runOn]
    omega

theorem runs_crossCheck_counts (hP : s.portals.get p = P) (hc : P.calm) {r : CrossReadings}
    (h0 : crossDiffers r.adc0.fst r.adc1.fst = false ∨ P.ob.runAdc.fst < 2) (h1 : crossDiffers r.adc0.snd r.adc1.snd = false ∨ P.ob.runAdc.snd < 2) :
    RunsPortal p (.adcCrossCheck p r) s fun Q =>
      UpToFrames { P with ob := { P.ob with runAdc := Q.ob.runAdc }, afe := { P.afe with crossDue := true } } Q ∧
        Q.ob.runAdc.fst = (if crossDiffers r.adc0.fst r.adc1.fst = true then P.ob.runAdc.fst + 1 else 0) ∧
        Q.ob.runAdc.snd = (if crossDiffers r.adc0.snd r.adc1.snd = true then P.ob.runAdc.snd + 1 else 0) := by
  have hcounted : P.crossCheck s.clock r = P.crossCounted r := by
    rw [crossCheck_eq hc.1, if_neg (by rw [not_or, not_le, not_le, runOn_lt_three, runOn_lt_three]; exact ⟨h0, h1⟩)]
  refine .of_calm (exec_adcCrossCheck p r s) hP hc.1 (by rw [hcounted]; exact hc) fun R hR => ?_
  rw [hcounted] at hR
  have hob : R.ob = (P.crossCounted r).ob := (congrArg PortalState.ob hR.1 :)
  exact ⟨by rw [hob]; exact hR, by rw [hob]; rfl, by rw [hob]; rfl⟩

theorem runs_crossCheck_locks (hP : s.portals.get p = P) (hc : P.calm) (hlock : P.ob.lockCause = 0) {r : CrossReadings}
    (h : (crossDiffers r.adc0.fst r.adc1.fst = true ∧ 2 ≤ P.ob.runAdc.fst) ∨ (crossDiffers r.adc0.snd r.adc1.snd = true ∧ 2 ≤ P.ob.runAdc.snd)) :
    RunsPortal p (.adcCrossCheck p r) s (LockedOut P 3) := by
  refine runs_lockOut (exec_adcCrossCheck p r s) hP hc (R := P.crossCounted r) ?_ ⟨rfl, rfl, id, fun _ => rfl, rfl, rfl⟩ hlock rfl rfl
  have hthree : ∀ {n b}, b = true ∧ 2 ≤ n → 3 ≤ runOn n b := fun ⟨hb, hn⟩ => by
    rw [hb]
    exact Nat.succ_le_succ hn
  rw [crossCheck_eq hc.1, if_pos (h.imp hthree hthree)]

theorem tableCrc_passes {b : Bool} (h : ∀ u ∈ P.units, u.tag = tagENVL → b = false ∧ crc32c u.bytes = u.crc) (ck : Nat) : P.tableCrc ck b = P := by
  unfold PortalState.tableCrc
  extract_lets us
  have hmem : ∀ u ∈ us, b = false ∧ crc32c u.bytes = u.crc := fun u hu => by
    obtain ⟨hin, htag⟩ := List.mem_filter.mp hu
    exact h u hin (beq_iff_eq.mp htag)
  split
  · rfl
  next hne =>
    obtain ⟨u, hu⟩ : ∃ u, u ∈ us := List.exists_mem_of_ne_nil _ fun h0 => hne (by simp [h0])
    have hany : (us.any fun u => crc32c u.bytes != u.crc) = false := List.any_eq_false.mpr fun u hu => by simp [(hmem u hu).2]
    rw [if_neg (by simp [(hmem u hu).1, hany])]

theorem tableCrc_fails (hpor : P.por = false) {b : Bool} (h : ∃ u ∈ P.units, u.tag = tagENVL ∧ (b = true ∨ crc32c u.bytes ≠ u.crc)) (ck : Nat) :
    P.tableCrc ck b = P.lockOut ck 6 := by
  obtain ⟨u, hu, htag, hbad⟩ := h
  have hmem : u ∈ P.units.filter fun u => u.tag == tagENVL := List.mem_filter.mpr ⟨hu, beq_iff_eq.mpr htag⟩
  unfold PortalState.tableCrc
  extract_lets us
  have hus : us.isEmpty = false := List.isEmpty_eq_false_iff.mpr (List.ne_nil_of_mem hmem)
  rw [if_neg (by simp [hpor, hus]), if_pos]
  obtain hb | hcrc := hbad
  · simp [hb]
  · have hany : (us.any fun u => crc32c u.bytes != u.crc) = true := List.any_eq_true.mpr ⟨u, hmem, bne_iff_ne.mpr hcrc⟩
    simp [hany]

/-! ### The full self-test (R209, R230 to R232) -/

/-- The portal die `P` with its self-test over. -/
def PortalState.tested (P : PortalState) (pass : Bool) : PortalState := P.modOb fun o => { o with selftest := none, selftestOk := pass }

theorem Supervised.tested (P : PortalState) (pass : Bool) : Supervised P (P.tested pass) := ⟨rfl, rfl, id, fun _ => rfl, rfl, rfl⟩

theorem selftestComplete_none (h : P.ob.selftest = none) (ck : Nat) (pass : Bool) : P.selftestComplete ck pass = P := by
  unfold PortalState.selftestComplete
  rw [h]

theorem selftestComplete_download (h : P.ob.selftest = some .download) (ck : Nat) (pass : Bool) :
    P.selftestComplete ck pass = if pass then P.tested pass else (P.tested pass).lockOut ck 5 := by
  unfold PortalState.selftestComplete
  rw [h]
  rfl

theorem resetAccepted_eq (P : PortalState) (ck src : Nat) : ∃ l, P.resetAccepted ck src = { P with link := l } := ⟨_, event_eq ..⟩

/-- A self-test that passes at a reset clears the lock-out, whichever resets share it (R230 to R232). -/
theorem selftestComplete_passes (h : P.ob.selftest ≠ none) (hd : P.ob.selftest ≠ some .download) (ck : Nat) :
    (∃ l, P.selftestComplete ck true = { (P.tested true).lockCleared with link := l }) ∧ Supervised P (P.selftestComplete ck true) := by
  have hcleared : Supervised P (P.tested true).lockCleared := by
    refine ⟨rfl, rfl, fun hf => ?_, fun _ => rfl, rfl, rfl⟩
    have hnot : ¬((P.tested true).cls == .lockedOut) = true := by
      rw [show (P.tested true).cls = .fault from hf]
      decide
    exact (if_neg hnot).trans hf
  unfold PortalState.selftestComplete
  split
  next hnone => exact absurd hnone h
  next why hwhy =>
    cases why with
    | download => exact absurd hwhy hd
    | remoteReset => exact ⟨⟨_, event_eq ..⟩, hcleared.trans (.event ..)⟩
    | localReset => exact ⟨⟨_, event_eq ..⟩, hcleared.trans (.event ..)⟩
    | bothResets =>
      obtain ⟨l, hl⟩ := resetAccepted_eq (P.tested true).lockCleared ck 1
      obtain ⟨m, hm⟩ := resetAccepted_eq ((P.tested true).lockCleared.resetAccepted ck 1) ck 2
      refine ⟨⟨m, hm.trans ?_⟩, (hcleared.trans (.event ..)).trans (.event ..)⟩
      rw [hl]

/-- The portal die `P` with a reset refused for `why`, and the flags `evt` of OB_EVT. -/
def PortalState.refusedFor (P : PortalState) (why : Nat) (evt : Word) : PortalState := P.modOb fun o => { o with rstWhy := why, evt := evt }

theorem resetRefused_eq (P : PortalState) (ck why src : Nat) : ∃ l,
    P.resetRefused ck why src = { P.refusedFor why (raise P.ob.evt 9) with link := l } := ⟨_, event_eq ..⟩

theorem refusedFor_refusedFor (P : PortalState) (why : Nat) (v w : Word) (l m : PortalLink) :
    ({ ({ P.refusedFor why v with link := l } : PortalState).refusedFor why w with link := m } : PortalState) =
      { P.refusedFor why w with link := m } := rfl

theorem Supervised.resetRefused (P : PortalState) (ck why src : Nat) : Supervised P (P.resetRefused ck why src) :=
  (Supervised.modOb (f := fun o => { o with rstWhy := why, evt := raise o.evt 9 }) (fun _ => rfl) P).trans (.event ..)

/-- A self-test that fails at a reset refuses it, whichever resets share it (R230 to R232). -/
theorem selftestComplete_fails (h : P.ob.selftest ≠ none) (hd : P.ob.selftest ≠ some .download) (ck : Nat) :
    (∃ l w, wbit w 9 = true ∧ P.selftestComplete ck false = { (P.tested false).refusedFor 4 w with link := l }) ∧
      Supervised P (P.selftestComplete ck false) := by
  have htested := Supervised.tested P false
  have hflag : ∀ w : Word, wbit (raise w 9) 9 = true := fun w => wbit_raise_self w 9 (by decide)
  unfold PortalState.selftestComplete
  split
  next hnone => exact absurd hnone h
  next why hwhy =>
    cases why with
    | download => exact absurd hwhy hd
    | remoteReset =>
      obtain ⟨l, hl⟩ := resetRefused_eq (P.tested false) ck 4 1
      exact ⟨⟨l, _, hflag _, hl⟩, htested.trans (.resetRefused ..)⟩
    | localReset =>
      obtain ⟨l, hl⟩ := resetRefused_eq (P.tested false) ck 4 2
      exact ⟨⟨l, _, hflag _, hl⟩, htested.trans (.resetRefused ..)⟩
    | bothResets =>
      obtain ⟨l, hl⟩ := resetRefused_eq (P.tested false) ck 4 1
      obtain ⟨m, hm⟩ := resetRefused_eq ((P.tested false).resetRefused ck 4 1) ck 4 2
      refine ⟨⟨m, _, hflag ((P.tested false).resetRefused ck 4 1).ob.evt, hm.trans ?_⟩, (htested.trans (.resetRefused ..)).trans (.resetRefused ..)⟩
      generalize raise ((P.tested false).resetRefused ck 4 1).ob.evt 9 = w
      rw [hl]
      exact refusedFor_refusedFor ..

theorem runs_selftest_download (hP : s.portals.get p = P) (hc : P.calm) (h : P.ob.selftest = some .download) :
    (RunsPortal p (.monitorSelftestComplete p true) s fun Q => UpToFrames { P with ob := { P.ob with selftest := none, selftestOk := true } } Q) ∧
      (P.ob.lockCause = 0 → RunsPortal p (.monitorSelftestComplete p false) s (LockedOut P 5)) :=
  ⟨.of_eq (exec_monitorSelftestComplete p true s) hP hc (selftestComplete_download h s.clock true) hc, fun hlock =>
    runs_lockOut (exec_monitorSelftestComplete p false s) hP hc (selftestComplete_download h s.clock false) (.tested P false) hlock rfl rfl⟩

theorem runs_selftest_passes (hP : s.portals.get p = P) (hc : P.calm) (h : P.ob.selftest ≠ none) (hd : P.ob.selftest ≠ some .download) :
    RunsPortal p (.monitorSelftestComplete p true) s fun Q => Q.ob.lockCause = 0 ∧ Q.ob.selftest = none ∧ Q.ob.selftestOk = true ∧
      wbit Q.ob.evt 10 = true ∧ Q.axes = P.axes ∧ Q.units = P.units ∧ (P.cls ≠ .lockedOut → Q.cls = P.cls) := by
  obtain ⟨⟨l, hl⟩, hsup⟩ := selftestComplete_passes h hd s.clock
  refine .of_supervised (exec_monitorSelftestComplete p true s) hP hc hsup fun e g => ?_
  rw [hl]
  exact ⟨rfl, rfl, rfl, wbit_raise_self _ 10 (by decide), rfl, rfl, fun hcls => if_neg (by simpa [PortalState.tested] using hcls)⟩

theorem runs_selftest_fails (hP : s.portals.get p = P) (hc : P.calm) (h : P.ob.selftest ≠ none) (hd : P.ob.selftest ≠ some .download) :
    RunsPortal p (.monitorSelftestComplete p false) s fun Q => Q.ob.lockCause = P.ob.lockCause ∧ Q.ob.selftest = none ∧
      Q.ob.selftestOk = false ∧ Q.ob.rstWhy = 4 ∧ wbit Q.ob.evt 9 = true ∧ Q.cls = P.cls ∧ Q.axes = P.axes := by
  obtain ⟨⟨l, w, hw, hl⟩, hsup⟩ := selftestComplete_fails h hd s.clock
  refine .of_supervised (exec_monitorSelftestComplete p false s) hP hc hsup fun e g => ?_
  rw [hl]
  exact ⟨rfl, rfl, rfl, rfl, hw, rfl, rfl⟩

/-! ### Local resets (R231) -/

/-- Where the conditions of a local reset fail the count of its 2 s is over (R231). -/
theorem followUp_lclrOver (ht : ∀ a, (P.axes.get a).trip = false) (hw : P.link.outcomeWaits = false) (hcount : P.ob.lclrCount = true)
    (hwhy : P.resetWhy p ≠ 0) (ck : Nat) : P.followUp ck p = P.modOb fun o => { o with lclrCount := false } := by
  have hrest : P.afterOwnMotion ck p = P := if_neg (by simp [hw])
  unfold PortalState.followUp
  rw [tripFault_calm P ck ht, hrest]
  exact if_pos (by simp [hcount, hwhy])

theorem runs_localReset_refused (hP : s.portals.get p = P) (hpor : P.por = false) (ht : ∀ a, (P.axes.get a).trip = false)
    (hw : P.link.outcomeWaits = false) (hcount : P.ob.lclrCount = true) (hwhy : P.resetWhy p ≠ 0) :
    RunsPortal p (.lockoutClrLocal p) s fun Q => UpToFrames { P with ob := { P.ob with lclrCount := false } } Q := by
  refine ⟨_, exec_lockoutClrLocal p s, onPortal_frame s p _, ?_⟩
  subst hP
  have hidle : (s.portals.get p).localReset p = s.portals.get p := if_pos (by simp [hwhy])
  rw [onPortal_run hpor, State.setPortal_portals, Four.get_set, hidle, followUp_lclrOver ht hw hcount hwhy]
  exact .reported ..

theorem runs_localReset_tests (hP : s.portals.get p = P) (hpor : P.por = false) (ht : ∀ a, (P.axes.get a).trip = false)
    (hw : P.link.outcomeWaits = false) (hcount : P.ob.lclrCount = true) (hwhy : P.resetWhy p = 0) :
    RunsPortal p (.lockoutClrLocal p) s fun Q => UpToFrames { P with ob := { P.ob with lclrCount := false, selftest := Q.ob.selftest } } Q ∧
      (P.ob.selftest = none → Q.ob.selftest = some .localReset) ∧ (P.ob.selftest = some .remoteReset → Q.ob.selftest = some .bothResets) := by
  obtain ⟨why, hreset, hnone, hremote⟩ : ∃ why, P.localReset p = P.modOb (fun o => { o with lclrCount := false, selftest := some why }) ∧
      (P.ob.selftest = none → why = .localReset) ∧ (P.ob.selftest = some .remoteReset → why = .bothResets) :=
    ⟨_, if_neg (by simp [hpor, hcount, hwhy]), fun h => by rw [h], fun h => by rw [h]⟩
  refine .of_calm (exec_lockoutClrLocal p s) hP hpor (by rw [hreset]; exact ⟨hpor, .inr ht, hw, rfl⟩) fun R hR => ?_
  rw [hreset] at hR
  have hob : R.ob = { P.ob with lclrCount := false, selftest := some why } := (congrArg PortalState.ob hR.1 :)
  rw [hob]
  exact ⟨hR, fun h => congrArg some (hnone h), fun h => congrArg some (hremote h)⟩

end

end Sys2Proof.Machine
end

section
/-! Detections: how a safe stop begins, and what a further detection adds to it (R211, R221 to R223, R226, R227). -/

namespace Sys2Proof.Machine

section
variable {P Q R : PortalState}

/-! ### Commands discarded where a stop begins (R27, R226) -/

/-- The portal die `P` with a motion refused because the die acts on its own (R23). -/
def PortalState.busyRefused (P : PortalState) : PortalState := { P.dropMotion with refuseWhy := 4, refuseCnt := satInc P.refuseCnt 0xFFFF }

theorem refuseDue_cases (P : PortalState) (ck : Nat) : P.refuseDue ck = P.dropMotion ∨ ∃ args, P.refuseDue ck = P.busyRefused.event ck 0x06 3 args := by
  unfold PortalState.refuseDue
  extract_lets due Q
  split
  · split
    · exact .inr ⟨_, rfl⟩
    · exact .inl rfl
  · exact .inl rfl

theorem Three.any_toList {α : Type} (t : Three α) (p : α → Bool) : t.toList.any p = true ↔ ∃ a, p (t.get a) = true := by
  rw [← not_iff_not, Bool.not_eq_true, List.any_eq_false, not_exists]
  have h : (∀ x ∈ t.toList, ¬p x = true) ↔ t.toList.all (fun x => !p x) = true := by simp
  rw [h, Three.all_toList]
  simp

theorem refuseDue_of_due {a : AxisId} (hdue : P.link.motionDue.get a ≠ none) (hlast : P.link.last ≠ none) (ck : Nat) :
    ∃ args, P.refuseDue ck = P.busyRefused.event ck 0x06 3 args := by
  have hany : (P.link.motionDue.toList.any fun b => b.isSome) = true := (Three.any_toList _ _).mpr ⟨a, Option.isSome_iff_ne_none.mpr hdue⟩
  unfold PortalState.refuseDue
  extract_lets due Q
  split
  · exact ⟨_, if_pos hany⟩
  next h => exact absurd h hlast

theorem Supervised.refuseDue (P : PortalState) (ck : Nat) : Supervised P (P.refuseDue ck) := by
  obtain h | ⟨args, h⟩ := refuseDue_cases P ck <;> rw [h]
  · exact .dropMotion P
  · have hrefused : Supervised P.dropMotion P.busyRefused := ⟨rfl, rfl, id, fun _ => rfl, rfl, rfl⟩
    exact ((Supervised.dropMotion P).trans hrefused).trans (.event ..)

/-- Nothing of what the monitor holds is concerned. -/
theorem refuseDue_keeps (P : PortalState) (ck : Nat) : (P.refuseDue ck).ob = P.ob ∧ (P.refuseDue ck).mon2 = P.mon2 ∧ (P.refuseDue ck).cls = P.cls ∧
    (P.refuseDue ck).axes = P.dropMotion.axes ∧ (P.refuseDue ck).cust = P.cust ∧ (P.refuseDue ck).link.motionDue = .all none := by
  obtain h | ⟨args, h⟩ := refuseDue_cases P ck <;> rw [h]
  · exact ⟨rfl, rfl, rfl, rfl, rfl, rfl⟩
  · have hdue := (OutputsOnly.event P.busyRefused ck 0x06 3 args).motionDue
    refine ⟨?_, ?_, ?_, ?_, ?_, hdue⟩ <;> rw [event_eq] <;> rfl

theorem dropMotion_axis (P : PortalState) (a : AxisId) : P.dropMotion.axes.get a = { P.axes.get a with queued := none } := Three.get_map ..

/-! ### Axes under a safe stop (R223) -/

theorem stopAxis_axis (P : PortalState) (a : AxisId) : ∃ y, (P.stopAxis a).1 = { P with axes := P.axes.set a y } ∧ y.trip = (P.axes.get a).trip ∧
    ((P.axes.get a).motion ≠ none → ∃ m, y.motion = some m ∧ m.why = .safeStop) := by
  unfold PortalState.stopAxis
  extract_lets x
  split
  next h => exact ⟨x, by rw [Three.set_self], rfl, fun hn => absurd h hn⟩
  next m h =>
    split
    extract_lets sg p n m' y
    have hy : y.trip = x.trip ∧ ∃ m, y.motion = some m ∧ m.why = .safeStop := by
      dsimp only [y]
      split
      · exact ⟨rfl, _, rfl, rfl⟩
      · exact ⟨AxisState.start_trip .., _, AxisState.start_motion .., rfl⟩
    exact ⟨y, rfl, hy.1, fun _ => hy.2⟩

/-- A safe stop of several axes concerns these axes alone. -/
theorem foldl_stopAxis {g : List AxisId} (hg : g.Nodup) (hQ : g.foldl (fun R a => (R.stopAxis a).1) P = Q) :
    Q = { P with axes := Q.axes } ∧ (∀ a, (Q.axes.get a).trip = (P.axes.get a).trip) ∧
      (∀ a ∈ g, (P.axes.get a).motion ≠ none → ∃ m, (Q.axes.get a).motion = some m ∧ m.why = .safeStop) ∧
      ∀ a, a ∉ g → Q.axes.get a = P.axes.get a := by
  induction g generalizing P with
  | nil =>
    subst hQ
    exact ⟨rfl, fun _ => rfl, nofun, fun _ _ => rfl⟩
  | cons b r ih =>
    obtain ⟨hb, hr⟩ := List.nodup_cons.mp hg
    obtain ⟨y, hy, htrip, hmotion⟩ := stopAxis_axis P b
    rw [List.foldl_cons, hy] at hQ
    obtain ⟨heq, htrips, hstops, hother⟩ := ih hr hQ
    have hrest : ∀ a, a ≠ b → (P.axes.set b y).get a = P.axes.get a := fun a ha => Three.get_set_ne _ ha _
    refine ⟨heq, fun a => (htrips a).trans ?_, fun a ha hm => ?_, fun a ha => ?_⟩
    · by_cases h : a = b
      · rw [h, Three.get_set, htrip]
      · rw [hrest a h]
    · obtain rfl | har := List.mem_cons.mp ha
      · rw [hother a hb, Three.get_set]
        exact hmotion hm
      · have hab : a ≠ b := fun h => hb (h ▸ har)
        exact hstops a har (by rwa [hrest a hab])
    · obtain ⟨hab, har⟩ := not_or.mp (mt List.mem_cons.mpr ha)
      rw [hother a har, hrest a hab]

theorem mem_movingAxes {a : AxisId} : a ∈ P.movingAxes ↔ (P.axes.get a).moving = true := by
  unfold PortalState.movingAxes
  rw [List.mem_filter, and_iff_right]
  fin_cases a <;> decide

theorem nodup_movingAxes (P : PortalState) : P.movingAxes.Nodup := List.Nodup.filter _ (by decide)

/-- The die that the stop of several axes leaves, whatever is noted of their paths. -/
theorem foldl_stopAxis_fst (l : List AxisId) (R : PortalState × Three (List PathSeg) × Three Rat) :
    (l.foldl (fun (R : PortalState × Three (List PathSeg) × Three Rat) a =>
      let (Q, p, v) := R.1.stopAxis a
      (Q, R.2.1.set a p, R.2.2.set a v)) R).1 = l.foldl (fun R a => (R.stopAxis a).1) R.1 := by
  induction l generalizing R with
  | nil => rfl
  | cons a r ih => exact ih _

/-! ### The record of a detection (R221, R227) -/

/-- The portal die `P` with a detection noted: OB_EVT, OB_CAUSE, OB_DETT, OB_DETPOS, the count and the trigger (R227). -/
def PortalState.noted (P : PortalState) (evt cause : Word) (t : Dword) (pos : Three Int) (n : Nat) (trigger : Dword) : PortalState :=
  { P with ob := { P.ob with evt := evt, cause := cause, dett := t, detPos := pos, detCnt := n }, afe := { P.afe with devents := trigger } }

/-- A detection flagged by `flag` and counted by `count` is noted as a whole. -/
theorem noted_of_modOb (P : PortalState) (flag : Word → Word) (cause : Word) (t : Dword) (pos : Three Int) (count : Nat → Nat) (trigger : Dword) :
    (let Q := P.modOb fun o => { o with cause := cause, dett := t, detPos := pos, detCnt := count o.detCnt };
      ({ Q with afe := { Q.afe with devents := trigger } } : PortalState).modOb fun o => { o with evt := flag o.evt }) =
      P.noted (flag P.ob.evt) cause t pos (count P.ob.detCnt) trigger := rfl

theorem recordDet_eq (P : PortalState) (cause axis : Nat) (t : Dword) : ∃ pos trigger, P.recordDet cause axis t =
    P.noted (raise P.ob.evt 15) (addCause (fmk 31 28 cause ||| fmk 1 0 axis) cause) t pos (satInc P.ob.detCnt 0xFFFF) trigger :=
  ⟨_, _, noted_of_modOb P (fun w => raise w 15) _ t _ (fun n => satInc n 0xFFFF) _⟩

theorem Supervised.noted (P : PortalState) (evt cause : Word) (t : Dword) (pos : Three Int) (n : Nat) (trigger : Dword) :
    Supervised P (P.noted evt cause t pos n trigger) := ⟨rfl, rfl, id, fun _ => rfl, rfl, rfl⟩

theorem Supervised.recordDet (P : PortalState) (cause axis : Nat) (t : Dword) : Supervised P (P.recordDet cause axis t) := by
  obtain ⟨pos, trigger, h⟩ := recordDet_eq P cause axis t
  rw [h]
  exact .noted ..

theorem learnDiscard_eq (P : PortalState) : P.learnDiscard = { P with ob := { P.ob with
    evt := P.learnDiscard.ob.evt, learnRun := P.learnDiscard.ob.learnRun, runsDisc := P.learnDiscard.ob.runsDisc,
    learnAxes := P.learnDiscard.ob.learnAxes } } := by
  unfold PortalState.learnDiscard
  split <;> rfl

/-- What the record of a detection leaves (R221, R227): `P` before it, `R` after it. -/
structure Recorded (P R : PortalState) (cause axis : Nat) (t : Dword) : Prop where
  det : wbit R.ob.evt 15 = true
  count : R.ob.detCnt = satInc P.ob.detCnt 0xFFFF
  cause : R.ob.cause = addCause (fmk 31 28 cause ||| fmk 1 0 axis) cause
  dett : R.ob.dett = t
  lock : R.ob.lockCause = P.ob.lockCause
  progress : R.ob.progArmed = P.ob.progArmed
  mon2 : R.mon2 = P.mon2
  cls : R.cls = P.cls
  cust : R.cust = P.cust
  axes : R.axes = P.axes
  link : R.link = P.link
  refuseCnt : R.refuseCnt = P.refuseCnt

theorem noted_recorded (P : PortalState) {evt w : Word} (h : wbit evt 15 = true) {cause axis : Nat}
    (hw : w = addCause (fmk 31 28 cause ||| fmk 1 0 axis) cause) (t : Dword) (pos : Three Int) {n : Nat} (hn : n = satInc P.ob.detCnt 0xFFFF)
    (trigger : Dword) : Recorded P (P.noted evt w t pos n trigger) cause axis t :=
  ⟨h, hn, hw, rfl, rfl, rfl, rfl, rfl, rfl, rfl, rfl, rfl⟩

theorem recordDet_recorded (P : PortalState) (cause axis : Nat) (t : Dword) : Recorded P (P.recordDet cause axis t) cause axis t := by
  obtain ⟨pos, trigger, h⟩ := recordDet_eq P cause axis t
  rw [h]
  exact noted_recorded P (wbit_raise_self _ 15 (by decide)) rfl t pos rfl trigger

/-- A learning run discarded before it makes no difference to the record. -/
theorem Recorded.of_learnDiscard {cause axis : Nat} {t : Dword} (h : Recorded P.learnDiscard R cause axis t) : Recorded P R cause axis t := by
  rw [learnDiscard_eq] at h
  exact ⟨h.det, h.count, h.cause, h.dett, h.lock, h.progress, h.mon2, h.cls, h.cust, h.axes, h.link, h.refuseCnt⟩

/-- The portal die `P` with a detection recorded, and a learning run discarded (R221, R237). -/
def PortalState.recorded (P : PortalState) (cause axis : Nat) (t : Dword) : PortalState := P.learnDiscard.recordDet cause axis t

theorem recorded_recorded (P : PortalState) (cause axis : Nat) (t : Dword) : Recorded P (P.recorded cause axis t) cause axis t :=
  (recordDet_recorded P.learnDiscard cause axis t).of_learnDiscard

theorem Supervised.recorded (P : PortalState) (cause axis : Nat) (t : Dword) : Supervised P (P.recorded cause axis t) :=
  (Supervised.learnDiscard P).trans (.recordDet _ cause axis t)

/-! ### The detection that begins a stop -/

/-- The portal die `P` with a detection recorded, what the kernel commanded discarded and its moving axes under a safe stop (R27, R221, R222). -/
def PortalState.braked (P : PortalState) (ck cause axis : Nat) (t : Dword) : PortalState :=
  P.movingAxes.foldl (fun R a => (R.stopAxis a).1) ((P.recorded cause axis t).refuseDue ck)

/-- The portal die `P` with the safe stop `st` under way; a limp jog is over (R226). -/
def PortalState.stopping (P : PortalState) (st : SafeStop) (rev jog : Bool) : PortalState :=
  let Q := P.modOb fun o =>
    { o with stop := some st, stopAxes := st.axes, rest := none, reversal := none, revPend := rev, envRun := .all 0, decided := .all true,
             removed := .all false }
  let Q := { Q with mon2 := { Q.mon2 with envRun := .all 0 } }
  if jog then Q.endJog.lhFlag 2 else Q

/-- The portal die `P` in OBSTRUCTED, if it was in a door cycle (R129, R227), with the requests of a jog blocked (R226). -/
def PortalState.obstructed (P : PortalState) (blocked : Two Bool) : PortalState :=
  { P with link := { P.link with jogBlocked := blocked }, cls := if P.cls.inCycle then .obstructed else P.cls }

theorem detectAdd_begins (hlock : P.ob.lockCause = 0) (hstop : P.ob.stop = none) (hmv : P.movingAxes ≠ []) (ck cause axis : Nat) (t : Dword)
    (noRev faultAfter : Bool) : ∃ st rev blocked,
      P.detectAdd ck cause axis t noRev faultAfter = ((P.braked ck cause axis t).stopping st rev P.jogging).obstructed blocked ∧
        st.noReversal = (noRev || P.jogging) ∧ st.faultAfter = faultAfter := by
  unfold PortalState.detectAdd
  rw [if_neg (by simpa using hlock)]
  simp only [hstop]
  rw [if_neg (by simpa using hmv)]
  simp only [foldl_stopAxis_fst]
  exact ⟨_, _, _, rfl, rfl, rfl⟩

theorem detectAdd_locked (h : P.ob.lockCause ≠ 0) (ck cause axis : Nat) (t : Dword) (noRev faultAfter : Bool) :
    P.detectAdd ck cause axis t noRev faultAfter = P := if_pos (by simpa using h)

/-- A detection while nothing moves and no stop is under way starts none. -/
theorem detectAdd_still (hstop : P.ob.stop = none) (hmv : P.movingAxes = []) (ck cause axis : Nat) (t : Dword) (noRev faultAfter : Bool) :
    P.detectAdd ck cause axis t noRev faultAfter = P := by
  unfold PortalState.detectAdd
  split
  · rfl
  · simp [hstop, hmv]

/-- A detection during a stop adds its cause (R221). -/
theorem detectAdd_more {st : SafeStop} (hlock : P.ob.lockCause = 0) (hstop : P.ob.stop = some st) (ck cause axis : Nat) (t : Dword)
    (noRev faultAfter : Bool) : P.detectAdd ck cause axis t noRev faultAfter = P.modOb fun o => { o with
      cause := addCause o.cause cause
      stop := some { st with noReversal := st.noReversal || noRev, faultAfter := st.faultAfter || faultAfter } } := by
  unfold PortalState.detectAdd
  rw [if_neg (by simpa using hlock)]
  simp only [hstop]

theorem braked_eq (P : PortalState) (ck cause axis : Nat) (t : Dword) :
    P.braked ck cause axis t = { (P.recorded cause axis t).refuseDue ck with axes := (P.braked ck cause axis t).axes } :=
  (foldl_stopAxis (nodup_movingAxes P) rfl).1

theorem Supervised.braked (P : PortalState) (ck cause axis : Nat) (t : Dword) : Supervised P (P.braked ck cause axis t) := by
  have htrip := (foldl_stopAxis (nodup_movingAxes P) (Eq.refl (P.braked ck cause axis t))).2.1
  refine ((Supervised.recorded P cause axis t).trans (.refuseDue _ ck)).trans ?_
  rw [braked_eq]
  exact .setAxes htrip

theorem Supervised.stopping (P : PortalState) (st : SafeStop) (rev jog : Bool) : Supervised P (P.stopping st rev jog) := by
  unfold PortalState.stopping
  extract_lets Q S
  split <;> exact ⟨rfl, rfl, id, fun _ => rfl, rfl, rfl⟩

theorem Supervised.obstructed (P : PortalState) (blocked : Two Bool) : Supervised P (P.obstructed blocked) := by
  refine ⟨rfl, rfl, fun hf => ?_, fun _ => rfl, rfl, rfl⟩
  show (if P.cls.inCycle then _ else P.cls) = _
  rw [hf]
  rfl

theorem Supervised.detectAdd (P : PortalState) (ck cause axis : Nat) (t : Dword) (noRev faultAfter : Bool) :
    Supervised P (P.detectAdd ck cause axis t noRev faultAfter) := by
  by_cases hlock : P.ob.lockCause = 0
  · cases hstop : P.ob.stop with
    | some st =>
      rw [detectAdd_more hlock hstop]
      exact .modOb (by exact fun _ => rfl) P
    | none =>
      by_cases hmv : P.movingAxes = []
      · rw [detectAdd_still hstop hmv]
        exact .refl P
      · obtain ⟨st, rev, blocked, h, -⟩ := detectAdd_begins hlock hstop hmv ck cause axis t noRev faultAfter
        rw [h]
        exact ((Supervised.braked ..).trans (.stopping ..)).trans (.obstructed ..)
  · rw [detectAdd_locked hlock]
    exact .refl P

/-- What the beginning of a stop leaves (R221, R226, R227): `P` before the detection, `Q` after it. -/
structure StopBegun (P Q : PortalState) (cause axis : Nat) (t : Dword) : Prop where
  stop : ∃ st, Q.ob.stop = some st
  det : wbit Q.ob.evt 15 = true
  count : Q.ob.detCnt = satInc P.ob.detCnt 0xFFFF
  first : fget Q.ob.cause 31 28 = fget (addCause (fmk 31 28 cause ||| fmk 1 0 axis) cause) 31 28
  dett : Q.ob.dett = t
  lock : Q.ob.lockCause = P.ob.lockCause
  progress : Q.ob.progArmed = P.ob.progArmed ∧ Q.mon2.progArmed = P.mon2.progArmed
  obstructs : P.cls.inCycle = true → Q.cls = .obstructed
  brakes : ∀ a, (P.axes.get a).moving = true → (P.axes.get a).motion ≠ none → ∃ m, (Q.axes.get a).motion = some m ∧ m.why = .safeStop
  stands : ∀ a, (P.axes.get a).moving = false → Q.axes.get a = { (P.axes.get a) with queued := none }
  discards : ∀ a, Q.link.motionDue.get a = none
  refuses : ∀ a, P.link.motionDue.get a ≠ none → P.link.last ≠ none → Q.refuseWhy = 4 ∧ Q.refuseCnt = satInc P.refuseCnt 0xFFFF

/-- What a safe stop under way leaves in the die: it is noted, and nothing but the marks of a limp jog goes with it. -/
theorem stopping_keeps (P : PortalState) (st : SafeStop) (rev jog : Bool) :
    (P.stopping st rev jog).ob = { P.ob with stop := some st, stopAxes := st.axes, rest := none, reversal := none, revPend := rev, envRun := .all 0,
                                             decided := .all true, removed := .all false } ∧
      (P.stopping st rev jog).mon2 = { P.mon2 with envRun := .all 0 } ∧ (P.stopping st rev jog).axes = P.axes ∧
      (P.stopping st rev jog).cls = P.cls ∧ (P.stopping st rev jog).link.motionDue = P.link.motionDue ∧
      (P.stopping st rev jog).refuseWhy = P.refuseWhy ∧ (P.stopping st rev jog).refuseCnt = P.refuseCnt := by
  unfold PortalState.stopping
  extract_lets Q S
  split <;> exact ⟨rfl, rfl, rfl, rfl, rfl, rfl, rfl⟩

/-- What braking leaves: the record of the detection, and the axes that stop among those that only lose what was queued (R27, R211). -/
theorem braked_keeps (P : PortalState) (ck cause axis : Nat) (t : Dword) :
    (P.braked ck cause axis t).ob = (P.recorded cause axis t).ob ∧ (P.braked ck cause axis t).mon2 = P.mon2 ∧ (P.braked ck cause axis t).cls = P.cls ∧
      (P.braked ck cause axis t).link.motionDue = .all none := by
  obtain ⟨kob, kmon2, kcls, -, -, kdue⟩ := refuseDue_keeps (P.recorded cause axis t) ck
  have hrec := recorded_recorded P cause axis t
  rw [braked_eq]
  exact ⟨kob, kmon2.trans hrec.mon2, kcls.trans hrec.cls, kdue⟩

theorem braked_axes_moving {a : AxisId} (hm : (P.axes.get a).moving = true) (hn : (P.axes.get a).motion ≠ none) (ck cause axis : Nat) (t : Dword) :
    ∃ m, ((P.braked ck cause axis t).axes.get a).motion = some m ∧ m.why = .safeStop := by
  obtain ⟨-, -, hstops, -⟩ := foldl_stopAxis (nodup_movingAxes P) (Eq.refl (P.braked ck cause axis t))
  obtain ⟨-, -, -, haxes, -⟩ := refuseDue_keeps (P.recorded cause axis t) ck
  refine hstops a (mem_movingAxes.mpr hm) ?_
  rw [haxes, dropMotion_axis, (recorded_recorded P cause axis t).axes]
  exact hn

theorem braked_axes_still {a : AxisId} (hm : (P.axes.get a).moving = false) (ck cause axis : Nat) (t : Dword) :
    (P.braked ck cause axis t).axes.get a = { P.axes.get a with queued := none } := by
  obtain ⟨-, -, -, hother⟩ := foldl_stopAxis (nodup_movingAxes P) (Eq.refl (P.braked ck cause axis t))
  obtain ⟨-, -, -, haxes, -⟩ := refuseDue_keeps (P.recorded cause axis t) ck
  rw [hother a (fun h => by simp [mem_movingAxes.mp h] at hm), haxes, dropMotion_axis,
    (recorded_recorded P cause axis t).axes]

/-- A motion that is still due is refused (R27). -/
theorem braked_refuses {a : AxisId} (hdue : P.link.motionDue.get a ≠ none) (hlast : P.link.last ≠ none) (ck cause axis : Nat) (t : Dword) :
    (P.braked ck cause axis t).refuseWhy = 4 ∧ (P.braked ck cause axis t).refuseCnt = satInc P.refuseCnt 0xFFFF := by
  have hrec := recorded_recorded P cause axis t
  obtain ⟨args, hargs⟩ := refuseDue_of_due (P := P.recorded cause axis t) (a := a) (by rwa [hrec.link]) (by rwa [hrec.link]) ck
  rw [braked_eq, hargs, event_eq, ← hrec.refuseCnt]
  exact ⟨rfl, rfl⟩

theorem obstructed_cls (P : PortalState) (blocked : Two Bool) : (P.obstructed blocked).cls = if P.cls.inCycle then .obstructed else P.cls := rfl

theorem detectAdd_stopBegun (hlock : P.ob.lockCause = 0) (hstop : P.ob.stop = none) (hmv : P.movingAxes ≠ []) (ck cause axis : Nat) (t : Dword)
    (noRev faultAfter : Bool) : StopBegun P (P.detectAdd ck cause axis t noRev faultAfter) cause axis t := by
  obtain ⟨st, rev, blocked, h, -⟩ := detectAdd_begins hlock hstop hmv ck cause axis t noRev faultAfter
  obtain ⟨hob, hmon2, haxes, hcls, hdue, hwhy, hcnt⟩ := stopping_keeps (P.braked ck cause axis t) st rev P.jogging
  obtain ⟨bob, bmon2, bcls, bdue⟩ := braked_keeps P ck cause axis t
  have hrec := recorded_recorded P cause axis t
  generalize hS : (P.braked ck cause axis t).stopping st rev P.jogging = S at *
  rw [h]
  have hSob : (S.obstructed blocked).ob = S.ob := rfl
  have hSaxes : (S.obstructed blocked).axes = S.axes := rfl
  refine ⟨⟨st, ?_⟩, ?_, ?_, ?_, ?_, ?_, ⟨?_, ?_⟩, fun hc => ?_, fun a hm hn => ?_, fun a hm => ?_, fun a => ?_, fun a hd hl => ?_⟩
  · rw [hSob, hob]
  · rw [hSob, hob, bob]
    exact hrec.det
  · rw [hSob, hob, bob]
    exact hrec.count
  · rw [hSob, hob, bob]
    exact congrArg (fget · 31 28) hrec.cause
  · rw [hSob, hob, bob]
    exact hrec.dett
  · rw [hSob, hob, bob]
    exact hrec.lock
  · rw [hSob, hob, bob]
    exact hrec.progress
  · show S.mon2.progArmed = _
    rw [hmon2, bmon2]
  · rw [obstructed_cls, hcls, bcls, if_pos hc]
  · rw [hSaxes, haxes]
    exact braked_axes_moving hm hn ..
  · rw [hSaxes, haxes]
    exact braked_axes_still hm ..
  · show S.link.motionDue.get a = none
    rw [hdue, bdue, Three.get_all]
  · obtain ⟨rwhy, rcnt⟩ := braked_refuses hd hl ck cause axis t
    exact ⟨hwhy.trans rwhy, hcnt.trans rcnt⟩

/-- A detection adds its cause to a stop that is under way, or begins one (R221). -/
theorem detectAdd_causes (hlock : P.ob.lockCause = 0) (hrun : P.ob.stop ≠ none ∨ P.movingAxes ≠ []) (ck cause axis : Nat) (t : Dword)
    (noRev faultAfter : Bool) : ∃ w, (P.detectAdd ck cause axis t noRev faultAfter).ob.cause = addCause w cause ∧
      (∃ st, (P.detectAdd ck cause axis t noRev faultAfter).ob.stop = some st ∧ (noRev = true → st.noReversal = true) ∧
        (faultAfter = true → st.faultAfter = true)) ∧
      (P.detectAdd ck cause axis t noRev faultAfter).ob.progArmed = P.ob.progArmed ∧
      (P.detectAdd ck cause axis t noRev faultAfter).mon2.progArmed = P.mon2.progArmed := by
  cases hstop : P.ob.stop with
  | some st =>
    rw [detectAdd_more hlock hstop]
    exact ⟨_, rfl, ⟨_, rfl, fun h => by simp [h], fun h => by simp [h]⟩, rfl, rfl⟩
  | none =>
    have hmv : P.movingAxes ≠ [] := hrun.resolve_left fun h => h hstop
    have hbegun := detectAdd_stopBegun hlock hstop hmv ck cause axis t noRev faultAfter
    obtain ⟨st, rev, blocked, h, hrev, hfault⟩ := detectAdd_begins hlock hstop hmv ck cause axis t noRev faultAfter
    obtain ⟨hob, -⟩ := stopping_keeps (P.braked ck cause axis t) st rev P.jogging
    obtain ⟨bob, -⟩ := braked_keeps P ck cause axis t
    refine ⟨fmk 31 28 cause ||| fmk 1 0 axis, ?_, ⟨st, ?_, fun hn => by simp [hrev, hn], fun hf => by rw [hfault, hf]⟩, hbegun.progress⟩
    · rw [h]
      have hcause : ((P.braked ck cause axis t).stopping st rev P.jogging).ob.cause = (P.braked ck cause axis t).ob.cause := by rw [hob]
      rw [bob] at hcause
      exact hcause.trans (recorded_recorded P cause axis t).cause
    · rw [h]
      exact (congrArg ObState.stop hob :)

/-! ### Further detections of the same moment (R221) -/

/-- The portal die `P` with the causes `w` noted for its stop `st`. -/
def PortalState.caused (P : PortalState) (w : Word) (st : SafeStop) : PortalState := P.modOb fun o => { o with cause := w, stop := some st }

theorem caused_self {st : SafeStop} (h : P.ob.stop = some st) : P.caused P.ob.cause st = P := by
  unfold PortalState.caused
  rw [← h]
  rfl

theorem fget_addCause (w : Word) {cause : Nat} (h : cause < 12) : fget (addCause w cause) 31 28 = fget w 31 28 :=
  fget_putBit_ne w (16 + cause) true (by decide) (.inl (by omega))

/-- The stop a die is under goes on: at most further causes are noted. -/
theorem foldl_detectAdd_more {f : PortalState → Nat × Nat × Nat → PortalState} {ck : Nat}
    (hf : ∀ R c, ∃ t, f R c = R.detectAdd ck c.1 c.2.1 t false false) (l : List (Nat × Nat × Nat)) (hl : ∀ c ∈ l, c.1 < 12) (P : PortalState)
    {st : SafeStop} (hlock : P.ob.lockCause = 0) (hstop : P.ob.stop = some st) :
    ∃ w st, l.foldl f P = P.caused w st ∧ fget w 31 28 = fget P.ob.cause 31 28 := by
  induction l generalizing P st with
  | nil => exact ⟨P.ob.cause, st, (caused_self hstop).symm, rfl⟩
  | cons c r ih =>
    obtain ⟨t, ht⟩ := hf P c
    have hc : c.1 < 12 := hl c List.mem_cons_self
    have hmore : f P c = P.caused (addCause P.ob.cause c.1)
        { st with noReversal := st.noReversal || false, faultAfter := st.faultAfter || false } := ht.trans (detectAdd_more hlock hstop ..)
    rw [List.foldl_cons, hmore]
    obtain ⟨w, st', heq, hfirst⟩ := ih (fun c hc => hl c (List.mem_cons_of_mem _ hc)) (P.caused _ _) hlock rfl
    exact ⟨w, st', heq, hfirst.trans (fget_addCause P.ob.cause hc)⟩

end

end Sys2Proof.Machine
end

section
/-! Flags of OB_EVT stay raised and axes without torque stay so while a portal die takes its fail-safe states (R321). -/

namespace Sys2Proof.Machine

/-- Every flag of OB_EVT that is raised stays so, and every axis in TORQUE_OFF stays there. -/
structure KeepsOff (P Q : PortalState) : Prop where
  evt : ∀ i, wbit P.ob.evt i = true → wbit Q.ob.evt i = true
  off : ∀ a, (P.axes.get a).drive = .torqueOff → (Q.axes.get a).drive = .torqueOff

theorem wbit_raise_of_wbit {w : Word} {j : Nat} (h : wbit w j = true) (i : Nat) : wbit (raise w i) j = true := by
  rw [raise, wbit_putBit]
  split
  · rfl
  · exact h

namespace KeepsOff

variable {P Q R : PortalState}

theorem refl (P : PortalState) : KeepsOff P P := ⟨fun _ => id, fun _ => id⟩

theorem trans (h : KeepsOff P Q) (g : KeepsOff Q R) : KeepsOff P R := ⟨fun i hi => g.evt i (h.evt i hi), fun a ha => g.off a (h.off a ha)⟩

theorem foldl {α : Type} {f : PortalState → α → PortalState} (h : ∀ P a, KeepsOff P (f P a)) (l : List α) (P : PortalState) :
    KeepsOff P (l.foldl f P) := by
  induction l generalizing P with
  | nil => exact .refl P
  | cons a r ih => exact (h P a).trans (ih _)

theorem of_eq (hob : Q.ob.evt = P.ob.evt) (haxes : Q.axes = P.axes) : KeepsOff P Q := ⟨fun i => by rw [hob]; exact id, fun a => by rw [haxes]; exact id⟩

theorem event (P : PortalState) (ck code axis : Nat) (args : List Word) : KeepsOff P (P.event ck code axis args) := by
  rw [event_eq]
  exact of_eq rfl rfl

theorem obFlag (P : PortalState) (i : Nat) : KeepsOff P (P.obFlag i) := ⟨fun _ hj => wbit_raise_of_wbit hj i, fun _ => id⟩

theorem learnDiscard (P : PortalState) : KeepsOff P P.learnDiscard := by
  unfold PortalState.learnDiscard
  split
  · exact .refl P
  · exact (of_eq rfl rfl : KeepsOff P (P.modOb _)).trans (.obFlag _ 8)

theorem learnAtEnd (P : PortalState) (a : AxisId) : KeepsOff P (P.learnAtEnd a) := by
  unfold PortalState.learnAtEnd
  split
  · exact .refl P
  · dsimp only
    split
    · exact of_eq rfl rfl
    · split
      · exact (of_eq rfl rfl : KeepsOff P ((P.modOb _).modOb _)).trans (.obFlag _ 7)
      · exact of_eq rfl rfl

theorem learnEnd (P : PortalState) (a : AxisId) (m : Motion) : KeepsOff P (P.learnEnd a m) := by
  unfold PortalState.learnEnd
  extract_lets named
  split
  · exact .refl P
  · split
    · exact learnAtEnd P a
    · split
      · exact .refl P
      · exact learnDiscard P

theorem armProgress (P : PortalState) (a : AxisId) : KeepsOff P (P.armProgress a) := by
  unfold PortalState.armProgress
  split
  · exact of_eq rfl rfl
  · exact .refl P

/-- A change of one axis that leaves it without torque, or is of an axis that has torque. -/
theorem modAxis {a : AxisId} {f : AxisState → AxisState} (h : (P.axes.get a).drive = .torqueOff → (f (P.axes.get a)).drive = .torqueOff) :
    KeepsOff P (P.modAxis a f) := by
  refine ⟨fun _ => id, fun b hb => ?_⟩
  rw [PortalState.modAxis_axes]
  by_cases hba : b = a
  · subst hba
    rw [Three.get_set]
    exact h hb
  · rwa [Three.get_set_ne _ hba]

theorem axisOff (P : PortalState) (a : AxisId) : KeepsOff P (P.axisOff a) := modAxis fun _ => rfl

/-- A moving axis that comes to a controlled stop is none of those without torque. -/
theorem controlledStop {a : AxisId} (hm : (P.axes.get a).moving = true) (ck : Nat) (after : MotionAfter) (own : Bool) :
    KeepsOff P (P.controlledStop ck a after own) := by
  have hon {f : AxisState → AxisState} : KeepsOff P (P.modAxis a f) := modAxis fun h => by simp [AxisState.moving, h] at hm
  obtain ⟨-, h⟩ | ⟨f, m, -, -, h | h⟩ := controlledStop_cases P ck a after own <;> rw [h]
  · exact .refl P
  · exact hon
  · exact (hon.trans (learnEnd ..)).trans (armProgress ..)

/-- Axes changed in all but their drive states. -/
theorem setDrives {t : Three AxisState} (h : ∀ a, (t.get a).drive = (P.axes.get a).drive) : KeepsOff P { P with axes := t } :=
  ⟨fun _ => id, fun a ha => (h a).trans ha⟩

theorem dropFirm (P : PortalState) (ck : Nat) : KeepsOff P (P.dropFirm ck) :=
  setDrives fun a => (congrArg AxisState.drive (Three.get_map _ P.axes a) :)

theorem dropMotion (P : PortalState) : KeepsOff P P.dropMotion := ⟨fun _ => id, fun a ha => by rw [dropMotion_axis]; exact ha⟩

theorem stopAxes (P : PortalState) (ck : Nat) : KeepsOff P (P.stopAxes ck) := by
  refine ((dropFirm P ck).trans (dropMotion _)).trans (foldl (fun R a => ?_) _ _)
  split
  next hm => exact controlledStop hm ..
  next => exact axisOff R a

theorem setDemand (P : PortalState) (n : Fin 8) (b : Bool) : KeepsOff P (P.setDemand n b) := by
  unfold PortalState.setDemand
  extract_lets c w unshed
  split
  · exact of_eq rfl rfl
  · split
    · exact of_eq rfl rfl
    · split
      · exact of_eq rfl rfl
      · exact .refl P

theorem episodeOver (P : PortalState) (ck : Nat) (n : Fin 8) (was : SwitchState) : KeepsOff P (P.episodeOver ck n was) := by
  unfold PortalState.episodeOver
  split
  · refine foldl ?_ _ P
    exact fun Q k => of_eq rfl rfl
  · exact .refl P

theorem applyDemands (P : PortalState) (ck : Nat) : KeepsOff P (P.applyDemands ck) := by
  rw [applyDemands_eq]
  exact (foldl (fun R n => setDemand R n (P.demandOf n)) chans8 P).trans (foldl (fun R n => episodeOver R ck n (P.switches.get n)) chans8 _)

theorem limpExit (P : PortalState) (ck : Nat) : KeepsOff P (P.limpExit ck) := by
  unfold PortalState.limpExit
  split
  · extract_lets l R
    have left : KeepsOff P (R.lhFlag 4) := of_eq rfl rfl
    exact left.trans (event (R.lhFlag 4) ck ..)
  · exact .refl P

theorem soAllOff (P : PortalState) : KeepsOff P P.soAllOff := of_eq rfl rfl

theorem setLink (P : PortalState) (l : PortalLink) : KeepsOff P { P with link := l } := of_eq rfl rfl

/-- The marks of the fail-safe states, and the switches that follow them. -/
theorem failsafe_applyDemands (P : PortalState) (ck : Nat) : KeepsOff P
    (({ P with link := { P.link with failsafe := true, jogOpen := false, jogClose := false } } : PortalState).applyDemands ck) :=
  (setLink P _).trans (applyDemands _ ck)

theorem applyFailsafe (P : PortalState) (ck : Nat) : KeepsOff P (P.applyFailsafe ck) :=
  ((((learnDiscard P).trans (stopAxes _ ck)).trans (soAllOff _)).trans (limpExit _ ck)).trans (failsafe_applyDemands _ ck)

theorem enterFault (P : PortalState) (ck : Nat) (why : Word) : KeepsOff P (P.enterFault ck why) := by
  unfold PortalState.enterFault
  extract_lets R S
  have begun : KeepsOff P { R with cls := .fault } := of_eq rfl rfl
  split
  · exact .refl P
  · exact (begun.trans (applyFailsafe _ ck)).trans (event S ck ..)

end KeepsOff

end Sys2Proof.Machine
end

section
/-! Ends of a safe stop and of a reversal (R224, R225). -/

namespace Sys2Proof.Machine

section
variable {P : PortalState}

theorem afterOwnMotion_idle (hw : P.link.outcomeWaits = false) (ck : Nat) (p : PortalId) : P.afterOwnMotion ck p = P := if_neg (by simp [hw])

/-- The portal die `P` with its safe stop complete, and reported (R225). -/
def PortalState.stopOver (P : PortalState) (ck : Nat) : PortalState :=
  (P.modOb fun o => { o with stop := none, decided := .all false }).event ck 0x03 3 [P.ob.evt]

theorem stopOver_eq (P : PortalState) (ck : Nat) :
    P.stopOver ck = { P.modOb fun o => { o with stop := none, decided := .all false } with link := (P.stopOver ck).link } := event_eq ..

theorem Supervised.stopOver (P : PortalState) (ck : Nat) : Supervised P (P.stopOver ck) :=
  (Supervised.modOb (f := fun o => { o with stop := none, decided := .all false }) (fun _ => rfl) P).trans (.event ..)

/-- The portal die `P` with no reversal to come after its stop. -/
def PortalState.stopFinal (P : PortalState) (ck : Nat) : PortalState := (P.stopOver ck).modOb fun o => { o with revPend := false }

/-- The portal die `P` in the rest before the reversal of customer state `c` (R225). -/
def PortalState.resting (P : PortalState) (ck c : Nat) : PortalState := (P.stopOver ck).modOb fun o => { o with rest := some c, revCust := c, revPend := true }

/-- No reversal follows the stop `s` (R210, R214, R223, R225, R226). -/
def PortalState.noReversalAfter (P : PortalState) (s : SafeStop) : Prop :=
  s.noReversal = true ∨ (P.revOrder s.cust).kind = 0 ∨ P.cls = .fault ∨ P.ob.lockCause ≠ 0

theorem stopComplete_final (hw : P.link.outcomeWaits = false) {s : SafeStop} (h : P.noReversalAfter s) (ck : Nat) (p : PortalId) :
    ∃ why, P.stopComplete ck p s = if s.faultAfter then (P.stopFinal ck).enterFault ck why else P.stopFinal ck := by
  have hover := stopOver_eq P ck
  have horder : (P.stopOver ck).revOrder s.cust = P.revOrder s.cust := (congrArg (fun X : PortalState => X.revOrder s.cust) hover).trans rfl
  have hcls : (P.stopOver ck).cls = P.cls := (congrArg PortalState.cls hover).trans rfl
  have hlock : (P.stopOver ck).ob.lockCause = P.ob.lockCause := (congrArg (fun X : PortalState => X.ob.lockCause) hover).trans rfl
  have hcond : (s.noReversal || decide (((P.stopOver ck).revOrder s.cust).kind = 0) || (P.stopOver ck).cls == .fault ||
      (P.stopOver ck).ob.lockCause != 0) = true := by
    rw [horder, hcls, hlock]
    simpa [PortalState.noReversalAfter, or_assoc] using h
  have hfinal : (P.stopFinal ck).link.outcomeWaits = false := (Supervised.stopOver P ck).waits.trans hw
  refine ⟨(P.stopFinal ck).ob.evt, (if_pos hcond).trans ?_⟩
  refine afterOwnMotion_idle ?_ ck p
  split
  · exact (Supervised.enterFault ..).waits.trans hfinal
  · exact hfinal

theorem stopComplete_rests {s : SafeStop} (h : ¬P.noReversalAfter s) (ck : Nat) (p : PortalId) : P.stopComplete ck p s = P.resting ck s.cust := by
  have hover := stopOver_eq P ck
  have horder : (P.stopOver ck).revOrder s.cust = P.revOrder s.cust := (congrArg (fun X : PortalState => X.revOrder s.cust) hover).trans rfl
  have hcls : (P.stopOver ck).cls = P.cls := (congrArg PortalState.cls hover).trans rfl
  have hlock : (P.stopOver ck).ob.lockCause = P.ob.lockCause := (congrArg (fun X : PortalState => X.ob.lockCause) hover).trans rfl
  have hcond : ¬(s.noReversal || decide (((P.stopOver ck).revOrder s.cust).kind = 0) || (P.stopOver ck).cls == .fault ||
      (P.stopOver ck).ob.lockCause != 0) = true := by
    rw [horder, hcls, hlock]
    simpa [PortalState.noReversalAfter, or_assoc] using h
  exact if_neg hcond

/-- On entry to FAULT a stop that is over stays so, and read-backs stay pending. -/
theorem enterFault_stop (hs : P.ob.stop = none) (ck : Nat) (why : Word) : (P.enterFault ck why).ob.stop = none ∧
    (P.enterFault ck why).ob.readback = P.ob.readback ∧ (P.enterFault ck why).ob.gateCheck = P.ob.gateCheck := by
  by_cases h : P.cls = .fault
  · rw [enterFault_of_fault h]
    exact ⟨hs, rfl, rfl⟩
  · rw [(OutputsOnly.enterFault h ck why).eq]
    exact ⟨congrArg (Option.map _) hs, rfl, rfl⟩

/-- What the end `Q` of a safe stop leaves of the portal die `P` (R224, R225). -/
structure StopEnded (P Q : PortalState) : Prop where
  supervised : Supervised P Q
  keepsOff : KeepsOff P Q
  stop : Q.ob.stop = none
  readback : Q.ob.readback = P.ob.readback
  gateCheck : Q.ob.gateCheck = P.ob.gateCheck

theorem stopOver_ended (P : PortalState) (ck : Nat) : StopEnded P (P.stopOver ck) where
  supervised := .stopOver P ck
  keepsOff := (KeepsOff.of_eq rfl rfl : KeepsOff P (P.modOb fun o => { o with stop := none, decided := .all false })).trans (.event ..)
  stop := by rw [stopOver_eq]; rfl
  readback := by rw [stopOver_eq]; rfl
  gateCheck := by rw [stopOver_eq]; rfl

theorem stopComplete_ended (hw : P.link.outcomeWaits = false) (s : SafeStop) (ck : Nat) (p : PortalId) : StopEnded P (P.stopComplete ck p s) := by
  obtain ⟨hsup, hoff, hstop, hread, hgate⟩ := stopOver_ended P ck
  have hmod {f : ObState → ObState} (hl : ∀ o, (f o).lclrCount = o.lclrCount) (he : ∀ o, (f o).evt = o.evt) (hs : ∀ o, (f o).stop = o.stop)
      (hr : ∀ o, (f o).readback = o.readback) (hg : ∀ o, (f o).gateCheck = o.gateCheck) : StopEnded P ((P.stopOver ck).modOb f) :=
    ⟨hsup.trans (.modOb hl _), hoff.trans (.of_eq (he _) rfl), (hs _).trans hstop, (hr _).trans hread, (hg _).trans hgate⟩
  by_cases h : P.noReversalAfter s
  · obtain ⟨why, hwhy⟩ := stopComplete_final hw h ck p
    have hfinal : StopEnded P (P.stopFinal ck) := hmod (fun _ => rfl) (fun _ => rfl) (fun _ => rfl) (fun _ => rfl) fun _ => rfl
    rw [hwhy]
    split
    · obtain ⟨fsup, foff, fstop, fread, fgate⟩ := hfinal
      obtain ⟨gstop, gread, ggate⟩ := enterFault_stop fstop ck why
      exact ⟨fsup.trans (.enterFault ..), foff.trans (.enterFault ..), gstop, gread.trans fread, ggate.trans fgate⟩
    · exact hfinal
  · rw [stopComplete_rests h]
    exact hmod (fun _ => rfl) (fun _ => rfl) (fun _ => rfl) (fun _ => rfl) fun _ => rfl

/-- The portal die `P` with what is left of a reversal (R225). -/
def PortalState.reversing (P : PortalState) (r : Option (BitVec 3)) (pend : Bool) : PortalState := P.modOb fun o => { o with reversal := r, revPend := pend }

theorem reversalDone_outputsOnly (hw : P.link.outcomeWaits = false) (ck : Nat) (p : PortalId) :
    OutputsOnly (P.reversing none false) (P.reversalDone ck p) := by
  have h := OutputsOnly.event (P.reversing none false) ck 0x04 3 []
  unfold PortalState.reversalDone
  rw [afterOwnMotion_idle]
  · exact h
  · exact (congrArg (fun X : PortalState => X.link.outcomeWaits) h.eq).trans hw

theorem reversalCheck_outputsOnly (hw : P.link.outcomeWaits = false) (ck : Nat) (p : PortalId) :
    ∃ r b, OutputsOnly (P.reversing r b) (P.reversalCheck ck p) := by
  have hself {r : Option (BitVec 3)} (h : P.ob.reversal = r) : P.reversing r P.ob.revPend = P := by
    subst h
    rfl
  unfold PortalState.reversalCheck
  split
  next h => exact ⟨none, P.ob.revPend, by rw [hself h]; exact .refl P⟩
  next m h =>
    dsimp only
    split
    · exact ⟨some m, P.ob.revPend, by rw [hself h]; exact .refl P⟩
    · split
      · exact ⟨none, false, reversalDone_outputsOnly hw ck p⟩
      · exact ⟨_, P.ob.revPend, .refl _⟩

theorem Supervised.reversalCheck (hw : P.link.outcomeWaits = false) (ck : Nat) (p : PortalId) : Supervised P (P.reversalCheck ck p) := by
  obtain ⟨r, b, h⟩ := reversalCheck_outputsOnly hw ck p
  exact (Supervised.modOb (f := fun o => { o with reversal := r, revPend := b }) (fun _ => rfl) P).trans (.of_outputsOnly h)

/-! ### The end of a stop on one axis (R224) -/

/-- The portal die `P` with its stop `s` over on one axis, the read-backs of which are to come. -/
def PortalState.axisStopped (P : PortalState) (a : AxisId) (s : SafeStop) : PortalState := (P.axisOff a).modOb fun o =>
  { o with stop := some s, readback := putBit o.readback a.val true, gateCheck := putBit o.gateCheck a.val true }

/-- The stop `s` without one of its axes. -/
def SafeStop.without (s : SafeStop) (a : AxisId) : SafeStop := { s with axes := putBit s.axes a.val false }

theorem settleTimeout_idle {s : SafeStop} {a : AxisId} {ck : Nat} (hs : P.ob.stop = some s) (h : wbit s.axes a.val = false ∨ P.planDone ck a = false)
    (p : PortalId) : P.settleTimeout ck p a = P := by
  unfold PortalState.settleTimeout
  rw [hs]
  refine if_neg ?_
  obtain h | h := h <;> simp [h]

theorem settleTimeout_ends {s : SafeStop} {a : AxisId} {ck : Nat} (hs : P.ob.stop = some s) (h : wbit s.axes a.val = true) (hd : P.planDone ck a = true)
    (p : PortalId) : P.settleTimeout ck p a = if (s.without a).axes = 0 then ((P.obFlag 13).axisStopped a (s.without a)).stopComplete ck p (s.without a)
      else (P.obFlag 13).axisStopped a (s.without a) := by
  have hs' : (P.obFlag 13).ob.stop = some s := hs
  unfold PortalState.settleTimeout
  rw [hs]
  refine (if_pos (by simp [h, hd])).trans ?_
  unfold PortalState.axisStopEnd
  rw [hs']
  exact if_neg (by simp [h])

theorem wbit_putBit_self (w : BitVec 3) (a : AxisId) (b : Bool) : wbit (putBit w a.val b) a.val = b := by
  rw [wbit_putBit, if_pos ⟨rfl, a.isLt⟩]

/-- What stays where a stop has ended on axis `a`: SETTLE_TMO, TORQUE_OFF and both read-backs. -/
def SettledOff (a : AxisId) (Q : PortalState) : Prop :=
  wbit Q.ob.evt 13 = true ∧ (Q.axes.get a).drive = .torqueOff ∧ wbit Q.ob.readback a.val = true ∧ wbit Q.ob.gateCheck a.val = true

theorem axisStopped_settledOff (P : PortalState) (a : AxisId) (s : SafeStop) : SettledOff a ((P.obFlag 13).axisStopped a s) := by
  refine ⟨wbit_raise_self _ 13 (by decide), ?_, wbit_putBit_self .., wbit_putBit_self ..⟩
  show ((P.axes.set a (P.axes.get a).off).get a).drive = _
  rw [Three.get_set]
  rfl

theorem StopEnded.settledOff {Q : PortalState} (h : StopEnded P Q) {a : AxisId} (hP : SettledOff a P) : SettledOff a Q := by
  obtain ⟨hevt, hoff, hread, hgate⟩ := hP
  exact ⟨h.keepsOff.evt 13 hevt, h.keepsOff.off a hoff, by rwa [h.readback], by rwa [h.gateCheck]⟩

end

section
variable {s : State} {p : PortalId} {P : PortalState}

theorem runs_settleTimeout_idle (hP : s.portals.get p = P) (hc : P.calm) {a : AxisId}
    (h : ∀ st, P.ob.stop = some st → wbit st.axes a.val = false ∨ P.planDone s.clock a = false) :
    RunsPortal p (.safeStopSettleTimeout p a) s fun Q => UpToFrames P Q := by
  refine .of_idle (exec_safeStopSettleTimeout p a s) hP hc ?_
  cases hs : P.ob.stop with
  | none => simp only [PortalState.settleTimeout, hs]
  | some st => exact settleTimeout_idle hs (h st hs) p

theorem runs_settleTimeout_ends (hP : s.portals.get p = P) (hc : P.calm) {a : AxisId} {st : SafeStop} (hs : P.ob.stop = some st)
    (h : wbit st.axes a.val = true) (hd : P.planDone s.clock a = true) : RunsPortal p (.safeStopSettleTimeout p a) s fun Q =>
      wbit Q.ob.evt 13 = true ∧ (Q.axes.get a).drive = .torqueOff ∧ wbit Q.ob.readback a.val = true ∧ wbit Q.ob.gateCheck a.val = true ∧
        Q.units = P.units ∧ (putBit st.axes a.val false = 0 → Q.ob.stop = none) ∧
        (putBit st.axes a.val false ≠ 0 → Q.ob.stop = some { st with axes := putBit st.axes a.val false }) := by
  have hends := settleTimeout_ends hs h hd p
  have hsettled := axisStopped_settledOff P a (st.without a)
  have hsup : Supervised P ((P.obFlag 13).axisStopped a (st.without a)) :=
    ((Supervised.of_outputsOnly (.obFlag P 13)).trans (.axisOff _ a)).trans (.modOb (by exact fun _ => rfl) _)
  have hw : ((P.obFlag 13).axisStopped a (st.without a)).link.outcomeWaits = false := hsup.waits.trans hc.2.2.1
  by_cases hlast : (st.without a).axes = 0
  · rw [if_pos hlast] at hends
    have hended := stopComplete_ended hw (st.without a) s.clock p
    rw [← hends] at hended
    have hunits := hsup.trans hended.supervised
    refine .of_supervised (exec_safeStopSettleTimeout p a s) hP hc hunits fun e g => ?_
    obtain ⟨hevt, hoff, hread, hgate⟩ := hended.settledOff hsettled
    exact ⟨hevt, hoff, hread, hgate, hunits.units, fun _ => hended.stop, fun hne => absurd hlast hne⟩
  · rw [if_neg hlast] at hends
    rw [← hends] at hsettled hsup
    refine .of_supervised (exec_safeStopSettleTimeout p a s) hP hc hsup fun e g => ?_
    obtain ⟨hevt, hoff, hread, hgate⟩ := hsettled
    exact ⟨hevt, hoff, hread, hgate, hsup.units, fun h0 => absurd h0 hlast, fun _ => (congrArg (fun X : PortalState => X.ob.stop) hends :)⟩

theorem runs_readbackTimeout (hP : s.portals.get p = P) (hc : P.calm) (a : AxisId) :
    (wbit P.ob.readback a.val = false → wbit P.ob.gateCheck a.val = false → RunsPortal p (.torqueReadbackTimeout p a) s fun Q => UpToFrames P Q) ∧
      (P.ob.lockCause = 0 → wbit P.ob.readback a.val = true ∨ wbit P.ob.gateCheck a.val = true →
        RunsPortal p (.torqueReadbackTimeout p a) s (LockedOut P 4)) := by
  have hor : wbit (P.ob.readback ||| P.ob.gateCheck) a.val = (wbit P.ob.readback a.val || wbit P.ob.gateCheck a.val) := BitVec.getLsbD_or
  refine ⟨fun hr hg => .of_idle (exec_torqueReadbackTimeout p a s) hP hc (if_neg ?_), fun hlock h =>
    runs_lockOut (exec_torqueReadbackTimeout p a s) hP hc (if_pos ?_) (.refl P) hlock rfl rfl⟩
  · simp [hor, hr, hg]
  · simpa [hor] using h

/-! ### The end of the rest (R225) -/

theorem runs_restEnd_idle (hP : s.portals.get p = P) (hc : P.calm) (h : P.ob.rest = none) :
    RunsPortal p (.safeStopRestEnd p) s fun Q => UpToFrames P Q := by
  refine .of_idle (exec_safeStopRestEnd p s) hP hc ?_
  simp only [PortalState.restEnd, h]

/-- The portal die `P` with its rest over and the reversal of customer state `c` to be carried out. -/
def PortalState.restOver (P : PortalState) (c : Nat) : PortalState := P.modOb fun o => { o with rest := none, revCust := c }

theorem restEnd_noProfile {n : Nat} (h : P.ob.rest = some n) (hp : P.prof (P.revOrder n).profile = none) (ck : Nat) (p : PortalId) :
    P.restEnd ck p = (P.restOver n).reversalDone ck p := by
  unfold PortalState.restEnd
  split
  next hn => exact nomatch hn.symm.trans h
  next m hm =>
    obtain rfl : m = n := Option.some.inj (hm.symm.trans h)
    extract_lets o R
    have hR : R.prof o.profile = none := hp
    split
    next => rfl
    next c hc => exact nomatch hc.symm.trans hR

/-- The portal die `P` with OP_REFUSED on the axes that a reversal names (R160). -/
def PortalState.opRefused (P : PortalState) (c : ProfCfg) : PortalState := P.modAxes c.axisList fun _ x => x.flag 6

/-- The portal die `P` with the axes of a reversal being enabled (R225). -/
def PortalState.reopening (P : PortalState) (ck : Nat) (c : ProfCfg) : PortalState :=
  let Q := P.reversing (some (BitVec.ofNat 3 c.axes)) true
  let Q := { Q with cls := if Q.cls.inCycle then .reopening else Q.cls }
  c.axisList.foldl (fun R a => if (R.axes.get a).drive = .torqueOff then R.enable ck a else R) Q

theorem nodup_axisList (c : ProfCfg) : c.axisList.Nodup := List.Nodup.filter _ (by decide)

theorem restEnd_profile {n : Nat} (h : P.ob.rest = some n) {c : ProfCfg} (hp : P.prof (P.revOrder n).profile = some c) (ck : Nat) (p : PortalId) :
    P.restEnd ck p = if P.profReady c then (((P.restOver n).reopening ck c).together c.axisList PortalState.startReversal).reversalCheck ck p
      else (((P.restOver n).opRefused c).event ck 0x07 3 [BitVec.ofNat 32 (runByte (P.revOrder n).profile).toNat]).reversalDone ck p := by
  unfold PortalState.restEnd
  split
  next hn => exact nomatch hn.symm.trans h
  next m hm =>
    obtain rfl : m = n := Option.some.inj (hm.symm.trans h)
    extract_lets o R
    have hR : R.prof o.profile = some c := hp
    have hready : R.profReady c = P.profReady c := rfl
    split
    next hc => exact nomatch hc.symm.trans hR
    next c' hc =>
      obtain rfl : c' = c := Option.some.inj (hc.symm.trans hR)
      rw [hready, foldl_modAxis (nodup_axisList c')]
      cases P.profReady c' <;> rfl

theorem reversalDone_eq (hw : P.link.outcomeWaits = false) (ck : Nat) (p : PortalId) :
    ∃ l, P.reversalDone ck p = { P.reversing none false with link := l } := by
  have hevent := event_eq (P.reversing none false) ck 0x04 3 []
  refine ⟨_, Eq.trans ?_ hevent⟩
  exact afterOwnMotion_idle ((congrArg (fun X : PortalState => X.link.outcomeWaits) (OutputsOnly.event (P.reversing none false) ck 0x04 3 []).eq).trans hw)
    ck p

/-- A reversal that is not carried out (R225): nothing but flags of the axes that `X` shows is left of it. -/
theorem runs_restEnd_over {X : PortalState} (hP : s.portals.get p = P) (hc : P.calm) (hX : Supervised P X) (hcls : X.cls = P.cls)
    (hrest : X.ob.rest = none) (h : P.restEnd s.clock p = X.reversalDone s.clock p) :
    RunsPortal p (.safeStopRestEnd p) s fun Q => Q.ob.rest = none ∧ Q.ob.reversal = none ∧ Q.ob.revPend = false ∧ Q.units = P.units ∧
      Q.cls = P.cls ∧ Q.axes = X.axes := by
  have hw : X.link.outcomeWaits = false := hX.waits.trans hc.2.2.1
  have hsup := hX.trans ((Supervised.modOb (f := fun o => { o with reversal := none, revPend := false }) (fun _ => rfl) X).trans
    (.of_outputsOnly (reversalDone_outputsOnly hw s.clock p)))
  obtain ⟨l, hl⟩ := reversalDone_eq hw s.clock p
  rw [← h] at hsup hl
  refine .of_supervised (exec_safeStopRestEnd p s) hP hc hsup fun e g => ?_
  refine ⟨?_, ?_, ?_, hsup.units, ?_, ?_⟩ <;> rw [hl]
  · exact hrest
  · rfl
  · rfl
  · exact hcls
  · rfl

theorem runs_restEnd_noProfile (hP : s.portals.get p = P) (hc : P.calm) {n : Nat} (h : P.ob.rest = some n)
    (hp : P.prof (P.revOrder n).profile = none) :
    RunsPortal p (.safeStopRestEnd p) s fun Q => Q.ob.rest = none ∧ Q.ob.reversal = none ∧ Q.ob.revPend = false ∧ Q.units = P.units ∧
      Q.cls = P.cls ∧ Q.axes = P.axes :=
  runs_restEnd_over (X := P.restOver n) hP hc (.modOb (by exact fun _ => rfl) P) rfl rfl (restEnd_noProfile h hp s.clock p)

theorem runs_restEnd_refused (hP : s.portals.get p = P) (hc : P.calm) {n : Nat} (h : P.ob.rest = some n) {c : ProfCfg}
    (hp : P.prof (P.revOrder n).profile = some c) (hready : P.profReady c = false) :
    RunsPortal p (.safeStopRestEnd p) s fun Q => Q.ob.rest = none ∧ Q.ob.reversal = none ∧ Q.ob.revPend = false ∧ Q.units = P.units ∧
      Q.cls = P.cls ∧ Q.axes = ((P.restOver n).opRefused c).axes := by
  have hflag : Supervised P ((P.restOver n).opRefused c) :=
    (Supervised.modOb (f := fun o => { o with rest := none, revCust := n }) (fun _ => rfl) P).trans
      (.of_enablesOnly (.modAxes (fun _ _ => AxisState.flag_trip ..) _ _))
  have hends := restEnd_profile h hp s.clock p
  rw [if_neg (by simp [hready])] at hends
  have hevent := event_eq ((P.restOver n).opRefused c) s.clock 0x07 3 [BitVec.ofNat 32 (runByte (P.revOrder n).profile).toNat]
  have hrun := runs_restEnd_over hP hc (hflag.trans (.event ..)) (by rw [hevent]; rfl) (by rw [hevent]; rfl) hends
  rwa [hevent] at hrun

theorem opRefused_get (P : PortalState) (c : ProfCfg) (a : AxisId) :
    (P.opRefused c).axes.get a = if c.axisList.contains a then (P.axes.get a).flag 6 else P.axes.get a := PortalState.modAxes_get ..

/-- A reversal without a profile, or one of which an axis is not ready, is not carried out (R160, R225). -/
theorem runs_restEnd_ends (hP : s.portals.get p = P) (hc : P.calm) {n : Nat} (h : P.ob.rest = some n)
    (hready : ∀ c, P.prof (P.revOrder n).profile = some c → P.profReady c = false) :
    RunsPortal p (.safeStopRestEnd p) s fun Q => Q.ob.rest = none ∧ Q.ob.reversal = none ∧ Q.ob.revPend = false ∧ Q.units = P.units ∧ Q.cls = P.cls ∧
      (P.prof (P.revOrder n).profile = none → Q.axes = P.axes) ∧
      ∀ c, P.prof (P.revOrder n).profile = some c → ∀ a, Q.axes.get a = if c.axisList.contains a then (P.axes.get a).flag 6 else P.axes.get a := by
  cases hp : P.prof (P.revOrder n).profile with
  | none =>
    exact (runs_restEnd_noProfile hP hc h hp).mono fun Q ⟨hrest, hrev, hpend, hunits, hcls, haxes⟩ =>
      ⟨hrest, hrev, hpend, hunits, hcls, fun _ => haxes, nofun⟩
  | some c =>
    refine (runs_restEnd_refused hP hc h hp (hready c hp)).mono fun Q ⟨hrest, hrev, hpend, hunits, hcls, haxes⟩ =>
      ⟨hrest, hrev, hpend, hunits, hcls, nofun, fun c' hc' a => ?_⟩
    obtain rfl : c = c' := Option.some.inj hc'
    rw [haxes]
    exact opRefused_get ..

/-! ### Reversals that are carried out (R160, R225) -/

theorem enable_enablesOnly (hg : P.supply.gateUv = false) (ck : Nat) (a : AxisId) : EnablesOnly P (P.enable ck a) := by
  by_cases hcan : (P.axes.get a).drive = .torqueOff ∧ P.canEnable a = true
  · exact (enable_begins hcan.1 hcan.2 hg ck).1
  · have hidle : P.enable ck a = P := if_pos (by
      rw [Bool.or_eq_true, bne_iff_ne, Bool.not_eq_true', ← Bool.not_eq_true]
      exact not_and_or.mp hcan)
    rw [hidle]
    exact .refl P

theorem foldl_enable_enablesOnly (g : List AxisId) (ck : Nat) (P : PortalState) (hg : P.supply.gateUv = false) :
    EnablesOnly P (g.foldl (fun R a => if (R.axes.get a).drive = .torqueOff then R.enable ck a else R) P) := by
  induction g generalizing P with
  | nil => exact .refl P
  | cons a r ih =>
    have hone : EnablesOnly P (if (P.axes.get a).drive = .torqueOff then P.enable ck a else P) := by
      split
      · exact enable_enablesOnly hg ck a
      · exact .refl P
    exact hone.trans (ih _ (by rw [hone.eq]; exact hg))

theorem AxisState.runFrom_trip (x : AxisState) (isOpen : Bool) (dist : Int) (l : Limits) (why : MotionWhy) (prof iRun iAcc : Nat) :
    (x.runFrom isOpen dist l why prof iRun iAcc).trip = x.trip := by
  unfold AxisState.runFrom
  split
  · rfl
  · split
    · rfl
    · exact AxisState.start_trip ..

theorem OutputsOnly.startReversal (P : PortalState) (a : AxisId) : OutputsOnly P (P.startReversal a) := by
  unfold PortalState.startReversal
  extract_lets o
  split
  · exact .refl P
  · exact (OutputsOnly.modAxis (AxisState.runFrom_trip ..)).trans (.armProgress ..)

theorem OutputsOnly.together {go : PortalState → AxisId → PortalState} (h : ∀ R a, OutputsOnly R (go R a)) (g : List AxisId) (P : PortalState) :
    OutputsOnly P (P.together g go) := by
  unfold PortalState.together
  extract_lets l
  split
  · exact .foldl h l P
  · exact .refl P

/-- A reversal begins: the guarded state shows it, and the axes are enabled. -/
theorem reopening_enablesOnly (P : PortalState) (hg : P.supply.gateUv = false) (ck : Nat) (c : ProfCfg) :
    EnablesOnly ({ P.reversing (some (BitVec.ofNat 3 c.axes)) true with cls := if P.cls.inCycle then .reopening else P.cls } : PortalState)
      (P.reopening ck c) := foldl_enable_enablesOnly c.axisList ck _ hg

theorem runs_restEnd_reopens (hP : s.portals.get p = P) (hc : P.calm) {n : Nat} (h : P.ob.rest = some n) {c : ProfCfg}
    (hp : P.prof (P.revOrder n).profile = some c) (hready : P.profReady c = true) (hg : P.supply.gateUv = false) :
    RunsPortal p (.safeStopRestEnd p) s fun Q => Q.ob.rest = none ∧ Q.ob.revCust = n ∧ Q.units = P.units ∧
      Q.cls = if P.cls.inCycle = true then .reopening else P.cls := by
  have hends := restEnd_profile h hp s.clock p
  rw [if_pos hready] at hends
  have hopen := reopening_enablesOnly (P.restOver n) hg s.clock c
  have htog := OutputsOnly.together OutputsOnly.startReversal c.axisList ((P.restOver n).reopening s.clock c)
  have hcycle : Supervised P ({ (P.restOver n).reversing (some (BitVec.ofNat 3 c.axes)) true with
      cls := if P.cls.inCycle then .reopening else P.cls } : PortalState) := by
    refine ⟨rfl, rfl, fun hf => ?_, fun _ => rfl, rfl, rfl⟩
    show (if P.cls.inCycle then _ else P.cls) = _
    rw [hf]
    rfl
  generalize hT : ((P.restOver n).reopening s.clock c).together c.axisList PortalState.startReversal = T at *
  have hstart := (hcycle.trans (.of_enablesOnly hopen)).trans (.of_outputsOnly htog)
  have hw : T.link.outcomeWaits = false := hstart.waits.trans hc.2.2.1
  obtain ⟨r, b, hrev⟩ := reversalCheck_outputsOnly hw s.clock p
  have hsup := hstart.trans (.reversalCheck hw s.clock p)
  rw [← hends] at hrev hsup
  refine .of_supervised (exec_safeStopRestEnd p s) hP hc hsup fun e g => ⟨?_, ?_, hsup.units, ?_⟩
  · rw [hrev.eq]
    show T.ob.rest = none
    rw [htog.eq, hopen.eq]
    rfl
  · rw [hrev.eq]
    show T.ob.revCust = n
    rw [htog.eq, hopen.eq]
    rfl
  · rw [hrev.eq]
    show T.cls = _
    rw [htog.eq, hopen.eq]
    rfl

end

end Sys2Proof.Machine
end

section
/-! The monitor tick: what the channels compare, and what follows from it (R208, R210, R212, R215, R221, R227). -/

namespace Sys2Proof.Machine

section
variable {P Q : PortalState} {d : MonitorDiff}

/-! ### What is compared (R208) -/

/-- The stop decision of one channel of the die: its stop goes on, or it detects (R207, R221). -/
def PortalState.stopDecision (P : PortalState) (armed : Bool) (stuck : BitVec 8) (mute was : Bool) : Bool :=
  !mute && ((P.ob.stop.isSome && was) || !(P.channelCauses armed stuck mute).isEmpty)

/-- The stop decisions of both channels at a tick. -/
def PortalState.tickDecisions (P : PortalState) (d : MonitorDiff) : Two Bool :=
  ⟨P.stopDecision P.edgesArmed d.stuck.fst d.mute.fst P.ob.decided.fst, P.asChan2.stopDecision P.edgesArmed d.stuck.snd d.mute.snd P.ob.decided.snd⟩

/-- The detections of a tick. -/
def PortalState.tickCauses (P : PortalState) (d : MonitorDiff) : List (Nat × Nat × Nat) :=
  mergeCauses (P.channelCauses P.edgesArmed d.stuck.fst d.mute.fst) (P.asChan2.channelCauses P.edgesArmed d.stuck.snd d.mute.snd)

/-- The portal die `P` with the decisions of a tick taken and compared. -/
def PortalState.ticked (P : PortalState) (d : MonitorDiff) : PortalState :=
  (P.modOb fun o => { o with decided := P.tickDecisions d, removed := ⟨o.removed.fst || d.torque.fst, o.removed.snd || d.torque.snd⟩ }).compared

/-- A tick in which no safety-path fault is found: torque removed where a channel does so, then the detectors. -/
def PortalState.tickActs (P : PortalState) (ck : Nat) (p : PortalId) (d : MonitorDiff) : PortalState :=
  ((if d.torque.fst || d.torque.snd then (P.ticked d).torqueRemoved ck p else P.ticked d).detectTick ck P.edgesArmed (P.tickCauses d)).modOb fun o =>
    { o with decided := if o.stop.isSome then P.tickDecisions d else .all false }

/-- A tick once what upsets change stands in the die. -/
def PortalState.tick (P : PortalState) (ck : Nat) (p : PortalId) (d : MonitorDiff) : PortalState :=
  if (P.ticked d).ob.disagree != 0 then (P.ticked d).lockOut ck (P.ticked d).ob.disagree else P.tickActs ck p d

theorem monitorTick_eq (hpor : P.por = false) (ck : Nat) (p : PortalId) (d : MonitorDiff) :
    P.monitorTick ck p d = (if d.nonCode then (P.upset d).enterFault ck 0 else P.upset d).tick ck p d := by
  unfold PortalState.monitorTick
  rw [if_neg (by simp [hpor])]
  rfl

theorem monitorTick_coded (hpor : P.por = false) (hd : d.nonCode = false) (ck : Nat) (p : PortalId) :
    P.monitorTick ck p d = (P.upset d).tick ck p d := by
  rw [monitorTick_eq hpor, if_neg (by simp [hd])]

theorem ticked_eq (P : PortalState) (d : MonitorDiff) : P.ticked d = { P with ob := (P.ticked d).ob } := rfl

theorem ticked_runStop (P : PortalState) (d : MonitorDiff) : (P.ticked d).ob.runStop = runOn P.ob.runStop
    ((P.tickDecisions d).fst != (P.tickDecisions d).snd || (P.ob.removed.fst || d.torque.fst) != (P.ob.removed.snd || d.torque.snd)) := rfl

theorem ticked_runEff (P : PortalState) (d : MonitorDiff) (a : AxisId) :
    (P.ticked d).ob.runEff.get a = runOn (P.ob.runEff.get a) (decide (20 < |P.ob.eff.get a - P.mon2.eff.get a|)) := by
  fin_cases a <;> rfl

theorem ticked_runCnt (P : PortalState) (d : MonitorDiff) (a : AxisId) :
    (P.ticked d).ob.runCnt.get a = runOn (P.ob.runCnt.get a) ((P.fbs.get a).pos != (P.mon2.fbs.get a).pos) := by
  fin_cases a <;> rfl

/-- MON_DISAGREE: decisions or efforts that have differed on three ticks. -/
theorem disagree_monitor {o : ObState} (h : 3 ≤ o.runStop ∨ ∃ a, 3 ≤ o.runEff.get a) : o.disagree = 1 := by
  refine if_pos ?_
  rw [Bool.or_eq_true, Three.any_toList]
  simpa using h

/-- CNT_DISAGREE: counters that have differed on three ticks. -/
theorem disagree_counter {o : ObState} (hs : o.runStop < 3) (he : ∀ a, o.runEff.get a < 3) (h : ∃ a, 3 ≤ o.runCnt.get a) : o.disagree = 2 := by
  unfold ObState.disagree
  rw [if_neg, if_pos]
  · rw [Three.any_toList]
    simpa using h
  · rw [Bool.or_eq_true, Three.any_toList]
    simpa using ⟨hs, he⟩

theorem disagree_none {o : ObState} (hs : o.runStop < 3) (he : ∀ a, o.runEff.get a < 3) (hc : ∀ a, o.runCnt.get a < 3) : o.disagree = 0 := by
  unfold ObState.disagree
  rw [if_neg, if_neg]
  · rw [Three.any_toList]
    simpa using hc
  · rw [Bool.or_eq_true, Three.any_toList]
    simpa using ⟨hs, he⟩

/-- No comparison of `P` has differed on two ticks already. -/
def PortalState.steady (P : PortalState) : Prop := P.ob.runStop < 2 ∧ ∀ a, P.ob.runEff.get a < 2 ∧ P.ob.runCnt.get a < 2

theorem runOn_of_lt_two {n : Nat} (h : n < 2) (b : Bool) : runOn n b < 3 := runOn_lt_three.mpr (.inr h)

/-- On a steady die no tick finds a safety-path fault. -/
theorem tick_steady (h : P.steady) (ck : Nat) (p : PortalId) (d : MonitorDiff) : P.tick ck p d = P.tickActs ck p d := by
  obtain ⟨hs, hr⟩ := h
  have hnone : (P.ticked d).ob.disagree = 0 := by
    refine disagree_none ?_ (fun a => ?_) fun a => ?_
    · rw [ticked_runStop]
      exact runOn_of_lt_two hs _
    · rw [ticked_runEff]
      exact runOn_of_lt_two (hr a).1 _
    · rw [ticked_runCnt]
      exact runOn_of_lt_two (hr a).2 _
  exact if_neg (by simp [hnone])

theorem tick_disagrees {k : Nat} (h : (P.ticked d).ob.disagree = k) (hk : k ≠ 0) (ck : Nat) (p : PortalId) :
    P.tick ck p d = (P.ticked d).lockOut ck k := by
  unfold PortalState.tick
  rw [if_pos (by simp [h, hk]), h]

theorem Supervised.upset (P : PortalState) (d : MonitorDiff) : Supervised P (P.upset d) := ⟨rfl, rfl, id, fun _ => rfl, rfl, rfl⟩

theorem Supervised.ticked (P : PortalState) (d : MonitorDiff) : Supervised P (P.ticked d) := ⟨rfl, rfl, id, fun _ => rfl, rfl, rfl⟩

/-- A tick in which the comparisons find a safety-path fault (R208, R210). -/
theorem runs_tick_disagrees {s : State} {p : PortalId} (hP : s.portals.get p = P) (hc : P.calm) (hlock : P.ob.lockCause = 0) (hd : d.nonCode = false)
    {k : Nat} (hk : k ≠ 0) (h : ((P.upset d).ticked d).ob.disagree = k) : RunsPortal p (.monitorTick p d) s (LockedOut P k) :=
  runs_lockOut (exec_monitorTick p d s) hP hc ((monitorTick_coded hc.1 hd s.clock p).trans (tick_disagrees h hk s.clock p))
    ((Supervised.upset P d).trans (.ticked _ d)) hlock rfl rfl

theorem upset_eff (P : PortalState) (d : MonitorDiff) (a : AxisId) : (P.upset d).mon2.eff.get a = P.mon2.eff.get a + d.effort.get a := Three.get_mapIdx ..

theorem upset_pos (P : PortalState) (d : MonitorDiff) (a : AxisId) :
    ((P.upset d).mon2.fbs.get a).pos = (P.mon2.fbs.get a).pos + d.counter.get a :=
  congrArg FbState.pos (Three.get_mapIdx ..)

theorem runs_tick_decisions {s : State} {p : PortalId} (hP : s.portals.get p = P) (hc : P.calm) (hlock : P.ob.lockCause = 0) (hd : d.nonCode = false)
    (hrun : 2 ≤ P.ob.runStop) (h : (P.ob.removed.fst || d.torque.fst) ≠ (P.ob.removed.snd || d.torque.snd) ∨
      P.stopDecision P.edgesArmed d.stuck.fst d.mute.fst P.ob.decided.fst ≠
        (P.upset d).asChan2.stopDecision P.edgesArmed d.stuck.snd d.mute.snd P.ob.decided.snd) :
    RunsPortal p (.monitorTick p d) s (LockedOut P 1) := by
  refine runs_tick_disagrees hP hc hlock hd (by decide) (disagree_monitor (.inl ?_))
  have hdiffer : (((P.upset d).tickDecisions d).fst != ((P.upset d).tickDecisions d).snd ||
      ((P.upset d).ob.removed.fst || d.torque.fst) != ((P.upset d).ob.removed.snd || d.torque.snd)) = true := by
    rw [Bool.or_eq_true, bne_iff_ne, bne_iff_ne]
    exact h.symm
  rw [ticked_runStop, hdiffer]
  exact Nat.succ_le_succ hrun

theorem runs_tick_efforts {s : State} {p : PortalId} (hP : s.portals.get p = P) (hc : P.calm) (hlock : P.ob.lockCause = 0) (hd : d.nonCode = false)
    {a : AxisId} (h : 20 < |P.ob.eff.get a - (P.mon2.eff.get a + d.effort.get a)|) (hrun : 2 ≤ P.ob.runEff.get a) :
    RunsPortal p (.monitorTick p d) s (LockedOut P 1) := by
  refine runs_tick_disagrees hP hc hlock hd (by decide) (disagree_monitor (.inr ⟨a, ?_⟩))
  rw [ticked_runEff, upset_eff]
  show 3 ≤ runOn (P.ob.runEff.get a) (decide (20 < |P.ob.eff.get a - (P.mon2.eff.get a + d.effort.get a)|))
  rw [decide_eq_true h]
  exact Nat.succ_le_succ hrun

theorem runs_tick_counters {s : State} {p : PortalId} (hP : s.portals.get p = P) (hc : P.calm) (hlock : P.ob.lockCause = 0) (hd : d.nonCode = false)
    (hs : P.ob.runStop < 2) (he : ∀ b, P.ob.runEff.get b < 2) {a : AxisId} (h : (P.fbs.get a).pos ≠ (P.mon2.fbs.get a).pos + d.counter.get a)
    (hrun : 2 ≤ P.ob.runCnt.get a) : RunsPortal p (.monitorTick p d) s (LockedOut P 2) := by
  refine runs_tick_disagrees hP hc hlock hd (by decide) (disagree_counter ?_ (fun b => ?_) ⟨a, ?_⟩)
  · rw [ticked_runStop]
    exact runOn_of_lt_two hs _
  · rw [ticked_runEff]
    exact runOn_of_lt_two (he b) _
  · rw [ticked_runCnt, upset_pos]
    show 3 ≤ runOn (P.ob.runCnt.get a) ((P.fbs.get a).pos != (P.mon2.fbs.get a).pos + d.counter.get a)
    rw [bne_iff_ne.mpr h]
    exact Nat.succ_le_succ hrun

/-! ### Ticks on which nothing is detected -/

theorem edgesArmed_still (h : P.movingAxes = []) : P.edgesArmed = false := by
  unfold PortalState.edgesArmed
  rw [h]
  rfl

theorem moving_of_still (h : P.movingAxes = []) (a : AxisId) : (P.axes.get a).moving = false :=
  Bool.eq_false_iff.mpr fun hm => List.not_mem_nil (h ▸ mem_movingAxes.mpr hm)

/-- While no axis moves nothing is detected (R211). -/
theorem channelCauses_still (h : P.movingAxes = []) (mute : Bool) : P.channelCauses false 0 mute = [] := by
  have hm := moving_of_still h
  have hcauses : P.causes false = [] := by
    unfold PortalState.causes PortalState.armedOn
    simp [hm]
  unfold PortalState.channelCauses
  rw [hcauses, h]
  cases mute <;> rfl

end

end Sys2Proof.Machine
end

section
/-! Monitor ticks that find no safety-path fault: nothing at all, torque removed, non-code words, and a pressed edge (R18, R207, R208, R211, R215). -/

namespace Sys2Proof.Machine

section
variable {P Q : PortalState} {d : MonitorDiff}

/-! ### The detectors of one tick -/

/-- The moment at which a detection of a tick counts (R213, R215). -/
def PortalState.detectTime (P : PortalState) (arming : Bool) (cause : Nat) : Dword :=
  if arming then P.link.time
  else if cause = 2 then P.ob.edges.fst.crossing
  else if cause = 3 then P.ob.edges.snd.crossing
  else P.link.time

/-- The portal die `P` with the detections of a tick taken, and not reported yet (R221). -/
def PortalState.detected (P : PortalState) (ck : Nat) (arming : Bool) (cs : List (Nat × Nat × Nat)) : PortalState :=
  cs.foldl (fun R c => R.detectAdd ck c.1 c.2.1 (P.detectTime arming c.1) false false) P

theorem detectTick_eq (P : PortalState) (ck : Nat) (armed : Bool) (cs : List (Nat × Nat × Nat)) : P.detectTick ck armed cs =
    ((P.detected ck (armed && !P.ob.armed) cs).reportFresh P ck).modOb fun o => { o with armed := armed } := rfl

theorem reportFresh_eq (Q P : PortalState) (ck : Nat) : Q.reportFresh P ck = { Q with link := (Q.reportFresh P ck).link } := by
  unfold PortalState.reportFresh
  split
  · exact pushEvent_eq ..
  · rfl

theorem OutputsOnly.reportDet (P : PortalState) (ck : Nat) : OutputsOnly P (P.reportDet ck) := .pushEvent ..

theorem OutputsOnly.reportFresh (Q P : PortalState) (ck : Nat) : OutputsOnly Q (Q.reportFresh P ck) := by
  unfold PortalState.reportFresh
  split
  · exact .reportDet Q ck
  · exact .refl Q

theorem reportFresh_self (P : PortalState) (ck : Nat) : P.reportFresh P ck = P := by
  unfold PortalState.reportFresh
  cases P.ob.stop <;> rfl

theorem Supervised.detectTick (P : PortalState) (ck : Nat) (armed : Bool) (cs : List (Nat × Nat × Nat)) : Supervised P (P.detectTick ck armed cs) := by
  have hall : ∀ b, Supervised P (P.detected ck b cs) := fun b => by
    unfold PortalState.detected
    exact .foldl (fun R c => .detectAdd ..) cs P
  rw [detectTick_eq]
  exact ((hall _).trans (.of_outputsOnly (.reportFresh ..))).trans (.modOb (by exact fun _ => rfl) _)

/-- A tick that detects nothing leaves no more than whether the edges are armed. -/
theorem detectTick_idle {ck : Nat} {cs : List (Nat × Nat × Nat)} (h : ∀ b, P.detected ck b cs = P) (armed : Bool) :
    P.detectTick ck armed cs = P.modOb fun o => { o with armed := armed } := by
  rw [detectTick_eq, h, reportFresh_self]

theorem detected_still (hstop : P.ob.stop = none) (hmv : P.movingAxes = []) (ck : Nat) (b : Bool) (cs : List (Nat × Nat × Nat)) :
    P.detected ck b cs = P := foldl_same fun _ _ => detectAdd_still hstop hmv ..

/-! ### A tick on which nothing is found (R208, R211) -/

/-- A tick on which no upset changes what a channel sees or does. -/
def noUpset : MonitorDiff :=
  { stuck := .all 0, mute := .all false, torque := .all false, effort := .all 0, counter := .all 0, nonCode := false }

theorem upset_noUpset (P : PortalState) : P.upset noUpset = P := by
  have heff : P.mon2.eff.mapIdx (fun a e => e + (noUpset.effort).get a) = P.mon2.eff :=
    Three.ext_get fun a => by rw [Three.get_mapIdx, show noUpset.effort = .all 0 from rfl, Three.get_all, add_zero]
  have hcnt : P.mon2.fbs.mapIdx (fun a f => { f with pos := f.pos + (noUpset.counter).get a }) = P.mon2.fbs :=
    Three.ext_get fun a => by rw [Three.get_mapIdx, show noUpset.counter = .all 0 from rfl, Three.get_all, add_zero]
  unfold PortalState.upset
  dsimp only
  rw [heff, hcnt]

theorem monitorTick_noUpset (hpor : P.por = false) (ck : Nat) (p : PortalId) : P.monitorTick ck p noUpset = P.tick ck p noUpset := by
  rw [monitorTick_coded hpor rfl, upset_noUpset]

/-- The portal die `P` with the decisions `b` of its channels, on a tick on which all comparisons agree. -/
def PortalState.agreed (P : PortalState) (b : Two Bool) : PortalState :=
  P.modOb fun o => { o with decided := b, runStop := 0, runEff := .all 0, runCnt := .all 0 }

theorem ticked_agreed (hd : (P.tickDecisions noUpset).fst = (P.tickDecisions noUpset).snd) (hr : P.ob.removed.fst = P.ob.removed.snd)
    (ha : ∀ a, |P.ob.eff.get a - P.mon2.eff.get a| ≤ 20 ∧ (P.fbs.get a).pos = (P.mon2.fbs.get a).pos) :
    P.ticked noUpset = P.agreed (P.tickDecisions noUpset) := by
  have hremoved : (⟨P.ob.removed.fst || false, P.ob.removed.snd || false⟩ : Two Bool) = P.ob.removed := by simp
  have hstop : (P.ticked noUpset).ob.runStop = 0 := by
    rw [ticked_runStop, hd, hr]
    exact if_neg (by simp [noUpset, Two.all])
  have heff : (P.ticked noUpset).ob.runEff = .all 0 := Three.ext_get fun a => by
    rw [ticked_runEff, decide_eq_false (not_lt.mpr (ha a).1), Three.get_all]
    rfl
  have hcnt : (P.ticked noUpset).ob.runCnt = .all 0 := Three.ext_get fun a => by
    rw [ticked_runCnt, (ha a).2, bne_self_eq_false, Three.get_all]
    rfl
  have hob : (P.ticked noUpset).ob = { P.ob with
      decided := P.tickDecisions noUpset, removed := ⟨P.ob.removed.fst || false, P.ob.removed.snd || false⟩,
      runStop := (P.ticked noUpset).ob.runStop, runEff := (P.ticked noUpset).ob.runEff, runCnt := (P.ticked noUpset).ob.runCnt } := rfl
  rw [ticked_eq, hob, hremoved, hstop, heff, hcnt]
  rfl

theorem tickDecisions_still (h : P.movingAxes = []) :
    P.tickDecisions noUpset = ⟨P.ob.stop.isSome && P.ob.decided.fst, P.ob.stop.isSome && P.ob.decided.snd⟩ := by
  have h1 : P.channelCauses false 0 false = [] := channelCauses_still h false
  have h2 : P.asChan2.channelCauses false 0 false = [] := channelCauses_still (P := P.asChan2) h false
  have hdec : P.tickDecisions noUpset =
      ⟨P.stopDecision P.edgesArmed 0 false P.ob.decided.fst, P.asChan2.stopDecision P.edgesArmed 0 false P.ob.decided.snd⟩ := rfl
  rw [hdec, edgesArmed_still h]
  unfold PortalState.stopDecision
  rw [h1, h2]
  simp [PortalState.asChan2]

theorem tickCauses_still (h : P.movingAxes = []) : P.tickCauses noUpset = [] := by
  have h1 : P.channelCauses false 0 false = [] := channelCauses_still h false
  have h2 : P.asChan2.channelCauses false 0 false = [] := channelCauses_still (P := P.asChan2) h false
  have hcs : P.tickCauses noUpset = mergeCauses (P.channelCauses P.edgesArmed 0 false) (P.asChan2.channelCauses P.edgesArmed 0 false) := rfl
  rw [hcs, edgesArmed_still h, h1, h2]
  rfl

/-- The portal die `P` after a tick on which nothing is found while no axis moves. -/
def PortalState.idled (P : PortalState) : PortalState := { P with ob := { P.ob with
  runStop := 0, runEff := .all 0, runCnt := .all 0, armed := false, decided := if P.ob.stop = none then .all false else P.ob.decided } }

/-- The channels of `P` agree on what they hold. -/
def PortalState.channelsAgree (P : PortalState) : Prop :=
  (P.ob.stop = none ∨ P.ob.decided.fst = P.ob.decided.snd) ∧ P.ob.removed.fst = P.ob.removed.snd ∧
    ∀ a, |P.ob.eff.get a - P.mon2.eff.get a| ≤ 20 ∧ (P.fbs.get a).pos = (P.mon2.fbs.get a).pos

theorem tick_idles (hmv : P.movingAxes = []) (h : P.channelsAgree) (ck : Nat) (p : PortalId) : P.tick ck p noUpset = P.idled := by
  obtain ⟨hdec, hrem, hcmp⟩ := h
  have hticked : P.ticked noUpset = P.agreed (P.tickDecisions noUpset) := by
    refine ticked_agreed ?_ hrem hcmp
    rw [tickDecisions_still hmv]
    obtain hnone | heq := hdec
    · simp [hnone]
    · simp [heq]
  have hnone : (P.ticked noUpset).ob.disagree = 0 := by
    rw [hticked]
    rfl
  have hacts : P.tick ck p noUpset = P.tickActs ck p noUpset := if_neg (by simp [hnone])
  have hdetect : (P.agreed (P.tickDecisions noUpset)).detectTick ck false [] =
      (P.agreed (P.tickDecisions noUpset)).modOb fun o => { o with armed := false } := detectTick_idle (fun _ => rfl) false
  have hdecided : (if P.ob.stop.isSome then P.tickDecisions noUpset else .all false) = if P.ob.stop = none then .all false else P.ob.decided := by
    rw [tickDecisions_still hmv]
    cases P.ob.stop <;> rfl
  rw [hacts]
  unfold PortalState.tickActs
  rw [tickCauses_still hmv, edgesArmed_still hmv, if_neg (by simp [noUpset, Two.all]), hticked, hdetect]
  unfold PortalState.idled
  rw [← hdecided]
  rfl

/-! ### Torque removed by a channel (R207) -/

theorem reversalCheck_none (h : P.ob.reversal = none) (ck : Nat) (p : PortalId) : P.reversalCheck ck p = P := by
  unfold PortalState.reversalCheck
  rw [h]

/-- The portal die `P` without torque, and with what was commanded and learned discarded (R207, R237). -/
def PortalState.unpowered (P : PortalState) : PortalState := P.learnDiscard.dropMotion.allOff

theorem unpowered_eq (P : PortalState) : P.unpowered = { P with
    axes := P.dropMotion.allOff.axes, link := P.dropMotion.link, ob := { P.ob with
      evt := P.learnDiscard.ob.evt, learnRun := P.learnDiscard.ob.learnRun, runsDisc := P.learnDiscard.ob.runsDisc,
      learnAxes := P.learnDiscard.ob.learnAxes } } :=
  congrArg (fun X : PortalState => X.dropMotion.allOff) (learnDiscard_eq P)

theorem unpowered_drive (P : PortalState) (a : AxisId) : (P.unpowered.axes.get a).drive = .torqueOff :=
  (congrArg AxisState.drive (Three.get_map AxisState.off P.learnDiscard.dropMotion.axes a)).trans rfl

theorem movingAxes_of_off (h : ∀ a, (P.axes.get a).drive = .torqueOff) : P.movingAxes = [] := by
  refine List.filter_eq_nil_iff.mpr fun a _ => ?_
  simp [AxisState.moving, h a]

theorem Supervised.unpowered (P : PortalState) : Supervised P P.unpowered := ((Supervised.learnDiscard P).trans (.dropMotion _)).trans (.allOff _)

theorem torqueRemoved_none (hs : P.ob.stop = none) (hr : P.ob.reversal = none) (ck : Nat) (p : PortalId) : P.torqueRemoved ck p = P.unpowered := by
  have heq := unpowered_eq P
  have hs' : P.unpowered.ob.stop = none := (congrArg (fun X : PortalState => X.ob.stop) heq).trans hs
  have hr' : P.unpowered.ob.reversal = none := (congrArg (fun X : PortalState => X.ob.reversal) heq).trans hr
  unfold PortalState.torqueRemoved
  extract_lets R
  have hR : R = P.unpowered := rfl
  split
  next s hs => exact nomatch hs.symm.trans hs'
  next => exact reversalCheck_none hr' ck p

theorem Supervised.torqueRemoved (hw : P.link.outcomeWaits = false) (ck : Nat) (p : PortalId) : Supervised P (P.torqueRemoved ck p) := by
  have hoff := Supervised.unpowered P
  have hw' : P.unpowered.link.outcomeWaits = false := hoff.waits.trans hw
  unfold PortalState.torqueRemoved
  extract_lets R
  split
  next s _ => exact hoff.trans (stopComplete_ended hw' _ ck p).supervised
  next => exact hoff.trans (.reversalCheck hw' ck p)

theorem Supervised.tick (hw : P.link.outcomeWaits = false) (ck : Nat) (p : PortalId) (d : MonitorDiff) : Supervised P (P.tick ck p d) := by
  have hticked := Supervised.ticked P d
  have hremoved : Supervised P (if d.torque.fst || d.torque.snd then (P.ticked d).torqueRemoved ck p else P.ticked d) := by
    split
    · exact hticked.trans (.torqueRemoved (hticked.waits.trans hw) ck p)
    · exact hticked
  unfold PortalState.tick
  split
  · exact hticked.trans (.lockOut _ ck _)
  · exact (hremoved.trans (.detectTick ..)).trans (.modOb (by exact fun _ => rfl) _)

end

section
variable {s : State} {p : PortalId} {P : PortalState} {d : MonitorDiff}

theorem runs_tick_idles (hP : s.portals.get p = P) (hc : P.calm) (hmv : P.movingAxes = []) (h : P.channelsAgree) :
    RunsPortal p (.monitorTick p noUpset) s fun Q => UpToFrames P.idled Q :=
  .of_eq (exec_monitorTick p noUpset s) hP hc ((monitorTick_noUpset hc.1 s.clock p).trans (tick_idles hmv h s.clock p)) hc

/-- A non-code word inside the die: FAULT (R18). -/
theorem runs_tick_nonCode (hP : s.portals.get p = P) (hc : P.calm) (hd : d.nonCode = true) :
    RunsPortal p (.monitorTick p d) s fun Q => Q.cls = .fault ∧ Q.units = P.units := by
  have heq : P.monitorTick s.clock p d = ((P.upset d).enterFault s.clock 0).tick s.clock p d := by rw [monitorTick_eq hc.1, if_pos hd]
  have hfault : Supervised P ((P.upset d).enterFault s.clock 0) := (Supervised.upset P d).trans (.enterFault ..)
  have htick := Supervised.tick (hfault.waits.trans hc.2.2.1) s.clock p d
  rw [← heq] at htick
  exact .of_supervised (exec_monitorTick p d s) hP hc (hfault.trans htick) fun _ _ =>
    ⟨htick.fault (enterFault_cls ..), (hfault.trans htick).units⟩

theorem runs_tick_torque (hP : s.portals.get p = P) (hc : P.calm) (hd : d.nonCode = false) (hsteady : P.steady) (hstop : P.ob.stop = none)
    (hrev : P.ob.reversal = none) (ht : d.torque.fst = true ∨ d.torque.snd = true) : RunsPortal p (.monitorTick p d) s fun Q =>
      (∀ a, (Q.axes.get a).drive = .torqueOff) ∧ Q.ob.lockCause = P.ob.lockCause ∧ Q.units = P.units ∧
        Q.ob.removed = ⟨P.ob.removed.fst || d.torque.fst, P.ob.removed.snd || d.torque.snd⟩ := by
  have hsteady' : (P.upset d).steady := hsteady
  have htick : P.monitorTick s.clock p d = (P.upset d).tickActs s.clock p d := by rw [monitorTick_coded hc.1 hd, tick_steady hsteady']
  have hsup := (Supervised.upset P d).trans (Supervised.tick (P := P.upset d) hc.2.2.1 s.clock p d)
  rw [tick_steady hsteady', ← htick] at hsup
  generalize hT : (P.upset d).ticked d = T at *
  have hTob : T.ob.stop = none ∧ T.ob.reversal = none ∧ T.ob.lockCause = P.ob.lockCause ∧
      T.ob.removed = ⟨P.ob.removed.fst || d.torque.fst, P.ob.removed.snd || d.torque.snd⟩ := by
    rw [← hT]
    exact ⟨hstop, hrev, rfl, rfl⟩
  obtain ⟨hTstop, hTrev, hTlock, hTremoved⟩ := hTob
  have heq := unpowered_eq T
  have hoff := unpowered_drive T
  have hacts : ∃ b₁ b₂, P.monitorTick s.clock p d = T.unpowered.modOb fun o => { o with armed := b₁, decided := b₂ } := by
    have hidle := detectTick_idle (detected_still ((congrArg (fun X : PortalState => X.ob.stop) heq).trans hTstop) (movingAxes_of_off hoff) s.clock ·
      ((P.upset d).tickCauses d)) (P.upset d).edgesArmed
    rw [htick]
    unfold PortalState.tickActs
    rw [if_pos (by simpa using ht), hT, torqueRemoved_none hTstop hTrev, hidle]
    exact ⟨_, _, rfl⟩
  obtain ⟨b₁, b₂, h⟩ := hacts
  refine .of_supervised (exec_monitorTick p d s) hP hc hsup fun e g => ⟨?_, ?_, hsup.units, ?_⟩ <;> rw [h]
  · exact hoff
  · exact ((congrArg (fun X : PortalState => X.ob.lockCause) heq).trans hTlock :)
  · exact ((congrArg (fun X : PortalState => X.ob.removed) heq).trans hTremoved :)

end

end Sys2Proof.Machine
end

section
/-! A switching edge that reads pressed starts a safe stop (R212, R215, R221, R227). -/

namespace Sys2Proof.Machine

section
variable {P Q : PortalState}

/-! ### The detections of a tick, lowest cause first -/

theorem causes_ne_zero (P : PortalState) (armed : Bool) : ∀ c ∈ P.causes armed, c.1 ≠ 0 := by
  intro c hc
  unfold PortalState.causes at hc
  simp only [List.mem_append, List.mem_ite_nil_right, List.mem_singleton, List.mem_map] at hc
  obtain (((((⟨-, rfl⟩ | ⟨-, rfl⟩) | ⟨-, rfl⟩) | ⟨a, -, rfl⟩) | ⟨a, -, rfl⟩) | ⟨a, -, rfl⟩) := hc <;> exact nofun

theorem channelCauses_ne_zero (P : PortalState) (armed : Bool) (stuck : BitVec 8) (mute : Bool) : ∀ c ∈ P.channelCauses armed stuck mute, c.1 ≠ 0 := by
  intro c hc
  unfold PortalState.channelCauses at hc
  split at hc
  · exact absurd hc List.not_mem_nil
  obtain hc | hc := List.mem_append.mp hc
  · exact causes_ne_zero P armed c hc
  · split at hc
    · exact absurd hc List.not_mem_nil
    · obtain ⟨k, hk, rfl⟩ := List.mem_map.mp hc
      obtain ⟨hk, -⟩ := List.mem_filter.mp hk
      rintro rfl
      exact absurd hk (by decide)

/-- A pressed edge comes first in what a channel detects. -/
theorem channelCauses_pressed (h : P.swEdgePressed = true) : ∃ r, P.channelCauses true 0 false = (1, 3, 0) :: r := by
  unfold PortalState.channelCauses PortalState.causes
  simp [h]

theorem mergeCauses_lt (c1 c2 : List (Nat × Nat × Nat)) : ∀ c ∈ mergeCauses c1 c2, c.1 < 7 := by
  intro c hc
  unfold mergeCauses at hc
  obtain ⟨k, hk, hc⟩ := List.mem_flatMap.mp hc
  obtain ⟨-, hc⟩ := List.mem_filter.mp hc
  rw [of_decide_eq_true hc]
  exact List.mem_range.mp hk

/-- A pressed edge that is first in one channel is the first detection of both. -/
theorem mergeCauses_first {c1 r c2 : List (Nat × Nat × Nat)} (hr : c1 = (1, 3, 0) :: r) (h1 : ∀ c ∈ c1, c.1 ≠ 0) (h2 : ∀ c ∈ c2, c.1 ≠ 0) :
    ∃ l, mergeCauses c1 c2 = (1, 3, 0) :: l := by
  unfold mergeCauses
  extract_lets l
  have hzero : l.filter (fun c => c.1 = 0) = [] := List.filter_eq_nil_iff.mpr fun c hc h0 => by
    obtain hc | hc := List.mem_append.mp hc
    · exact h1 c hc (of_decide_eq_true h0)
    · exact h2 c (List.mem_of_mem_filter hc) (of_decide_eq_true h0)
  have hone : ∃ t, l.filter (fun c => c.1 = 1) = (1, 3, 0) :: t := by
    dsimp only [l]
    rw [hr, List.cons_append, List.filter_cons_of_pos (by decide)]
    exact ⟨_, rfl⟩
  obtain ⟨t, ht⟩ := hone
  have hrange : List.range 7 = 0 :: 1 :: [2, 3, 4, 5, 6] := by decide
  rw [hrange, List.flatMap_cons, List.flatMap_cons, hzero, ht]
  exact ⟨_, rfl⟩

theorem tickCauses_pressed (harmed : P.edgesArmed = true) (h : P.swEdgePressed = true) :
    ∃ l, P.tickCauses noUpset = (1, 3, 0) :: l ∧ ∀ c ∈ l, c.1 < 12 := by
  obtain ⟨r, hr⟩ := channelCauses_pressed h
  have hcs : P.tickCauses noUpset = mergeCauses (P.channelCauses true 0 false) (P.asChan2.channelCauses true 0 false) := by
    unfold PortalState.tickCauses
    rw [harmed]
    rfl
  obtain ⟨l, hl⟩ := mergeCauses_first hr (channelCauses_ne_zero P true 0 false) (channelCauses_ne_zero P.asChan2 true 0 false)
  refine ⟨l, hcs.trans hl, fun c hc => ?_⟩
  have hlt := mergeCauses_lt _ _ c (hl ▸ List.mem_cons_of_mem (1, 3, 0) hc)
  omega

theorem movingAxes_of_armed (h : P.edgesArmed = true) : P.movingAxes ≠ [] := fun hnil => by
  rw [edgesArmed_still hnil] at h
  exact absurd h nofun

/-! ### The stop that it starts -/

/-- A stop that has begun goes on as further causes are noted and as it is reported. -/
theorem StopBegun.goesOn {cause axis : Nat} {t : Dword} (h : StopBegun P Q cause axis t) {w : Word} (hw : fget w 31 28 = fget Q.ob.cause 31 28)
    (st : SafeStop) {l : PortalLink} (hl : l.motionDue = Q.link.motionDue) (armed : Bool) (decided : Two Bool) :
    StopBegun P (({ Q.caused w st with link := l } : PortalState).modOb fun o => { o with armed := armed, decided := decided }) cause axis t :=
  ⟨⟨st, rfl⟩, h.det, h.count, hw.trans h.first, h.dett, h.lock, h.progress, h.obstructs, h.brakes, h.stands,
    fun a => (congrArg (fun m => Three.get m a) hl).trans (h.discards a), h.refuses⟩

/-- What a tick compares has no part in the stop that begins on it. -/
theorem StopBegun.of_ticked {d : MonitorDiff} {cause axis : Nat} {t : Dword} (h : StopBegun (P.ticked d) Q cause axis t) : StopBegun P Q cause axis t :=
  ⟨h.stop, h.det, h.count, h.first, h.dett, h.lock, h.progress, h.obstructs, h.brakes, h.stands, h.discards, h.refuses⟩

/-- A pressed edge begins a stop, which goes on through the other detections of the tick (R221, R227). -/
theorem detectTick_pressed (hlock : P.ob.lockCause = 0) (hstop : P.ob.stop = none) (hmv : P.movingAxes ≠ []) {l : List (Nat × Nat × Nat)}
    (hl : ∀ c ∈ l, c.1 < 12) (ck : Nat) (armed : Bool) (decided : Two Bool) :
    StopBegun P ((P.detectTick ck armed ((1, 3, 0) :: l)).modOb fun o => { o with decided := decided }) 1 3 P.link.time := by
  have htime : ∀ b, P.detectTime b 1 = P.link.time := fun b => by cases b <;> rfl
  have hbegun := detectAdd_stopBegun hlock hstop hmv ck 1 3 P.link.time false false
  obtain ⟨st, hst⟩ := hbegun.stop
  obtain ⟨b, hb⟩ : ∃ b, b = (armed && !P.ob.armed) := ⟨_, rfl⟩
  obtain ⟨w, st', hmore, hfirst⟩ := foldl_detectAdd_more (fun R c => ⟨P.detectTime b c.1, rfl⟩) l hl _ (hbegun.lock.trans hlock) hst
  have hall : P.detected ck b ((1, 3, 0) :: l) = (P.detectAdd ck 1 3 P.link.time false false).caused w st' := by
    unfold PortalState.detected
    rw [List.foldl_cons, htime]
    exact hmore
  generalize P.detectAdd ck 1 3 P.link.time false false = R at *
  have hdue : ((R.caused w st').reportFresh P ck).link.motionDue = R.link.motionDue := (OutputsOnly.reportFresh (R.caused w st') P ck).motionDue
  rw [detectTick_eq, ← hb, hall, reportFresh_eq]
  exact hbegun.goesOn hfirst st' hdue armed decided

end

section
variable {s : State} {p : PortalId} {P : PortalState}

theorem runs_tick_pressed (hP : s.portals.get p = P) (hc : P.calm) (hlock : P.ob.lockCause = 0) (hsteady : P.steady) (hstop : P.ob.stop = none)
    (harmed : P.edgesArmed = true) (hpressed : P.swEdgePressed = true) : RunsPortal p (.monitorTick p noUpset) s fun Q =>
      Q.ob.stop ≠ none ∧ wbit Q.ob.evt 15 = true ∧ Q.ob.detCnt = satInc P.ob.detCnt 0xFFFF ∧ fget Q.ob.cause 31 28 = 1 ∧
      Q.ob.dett = P.link.time ∧ (P.cls.inCycle = true → Q.cls = .obstructed) ∧ Q.units = P.units ∧
      ∀ a, ((P.axes.get a).moving = true → (P.axes.get a).motion ≠ none → ∃ m, (Q.axes.get a).motion = some m ∧ m.why = .safeStop) ∧
        ((P.axes.get a).moving = false → Q.axes.get a = { (P.axes.get a) with queued := none }) ∧ Q.link.motionDue.get a = none ∧
        (P.link.motionDue.get a ≠ none → P.link.last ≠ none → Q.refuseWhy = 4 ∧ Q.refuseCnt = satInc P.refuseCnt 0xFFFF) := by
  have htick : P.monitorTick s.clock p noUpset = P.tickActs s.clock p noUpset := by rw [monitorTick_noUpset hc.1, tick_steady hsteady]
  have hsup := Supervised.tick hc.2.2.1 s.clock p noUpset
  rw [tick_steady hsteady, ← htick] at hsup
  obtain ⟨l, hcs, hl⟩ := tickCauses_pressed harmed hpressed
  have hbegun : StopBegun P (P.monitorTick s.clock p noUpset) 1 3 P.link.time := by
    rw [htick]
    unfold PortalState.tickActs
    rw [if_neg (by simp [noUpset, Two.all]), hcs]
    exact (detectTick_pressed (P := P.ticked noUpset) hlock hstop (movingAxes_of_armed (P := P) harmed) hl s.clock _ _).of_ticked
  refine .of_supervised (exec_monitorTick p noUpset s) hP hc hsup fun e g => ?_
  obtain ⟨⟨st, hst⟩, hdet, hcnt, hfirst, hdett, -, -, hobs, hbrakes, hstands, hdisc, href⟩ := hbegun
  have hone : fget (addCause (fmk 31 28 1 ||| fmk 1 0 3) 1) 31 28 = 1 := by decide
  exact ⟨fun h0 => Option.some_ne_none st (hst.symm.trans h0), hdet, hcnt, hfirst.trans hone, hdett, hobs, hsup.units, fun a =>
    ⟨hbrakes a, hstands a, hdisc a, href a⟩⟩

end

end Sys2Proof.Machine
end

section
/-! The time test of progress supervision, and the samples of analog edges (R207, R214, R220, R221). -/

namespace Sys2Proof.Machine

section
variable {P Q : PortalState}

/-! ### What the end of a stop leaves of the obstacle block (R225) -/

/-- A stop that no FAULT follows comes to rest: whether a reversal is still to come is all that is left of it. -/
theorem stopComplete_outcome (hw : P.link.outcomeWaits = false) {s : SafeStop} (hf : s.faultAfter = false) (ck : Nat) (p : PortalId) :
    ∃ rest cust pend l, P.stopComplete ck p s = { P.modOb fun o =>
        { o with stop := none, decided := .all false, rest := rest, revCust := cust, revPend := pend } with link := l } ∧
      (P.noReversalAfter s → rest = P.ob.rest) ∧ (¬P.noReversalAfter s → rest = some s.cust) := by
  have hover := stopOver_eq P ck
  by_cases h : P.noReversalAfter s
  · obtain ⟨why, hwhy⟩ := stopComplete_final hw h ck p
    rw [if_neg (by simp [hf])] at hwhy
    refine ⟨P.ob.rest, P.ob.revCust, false, (P.stopOver ck).link, hwhy.trans ?_, fun _ => rfl, fun hn => absurd h hn⟩
    exact congrArg (fun X : PortalState => X.modOb fun o => { o with revPend := false }) hover
  · refine ⟨some s.cust, s.cust, true, (P.stopOver ck).link, (stopComplete_rests h ck p).trans ?_, fun hn => absurd hn h, fun _ => rfl⟩
    exact congrArg (fun X : PortalState => X.modOb fun o => { o with rest := some s.cust, revCust := s.cust, revPend := true }) hover

/-! ### The time test at standstill (R220) -/

/-- The portal die `P` with the time test of an axis over, detected and its torque removed. -/
def PortalState.stalled (P : PortalState) (ck : Nat) (a : AxisId) : PortalState :=
  (((P.setProgress a false).recorded 7 a.val P.link.time).refuseDue ck).axisOff a

/-- The portal die `P` obstructed, with the read-backs of an axis to come. -/
def PortalState.halted (P : PortalState) (a : AxisId) : PortalState :=
  { P.modOb fun o => { o with readback := putBit o.readback a.val true, gateCheck := putBit o.gateCheck a.val true, stopAxes := 0, rest := none,
                              reversal := none, revPend := (P.revOrder P.cust).kind != 0 } with
    cls := if P.cls.inCycle then .obstructed else P.cls }

/-- The stop of a portal that stands still: none of its axes takes part in it. -/
def PortalState.stillStop (P : PortalState) (ck : Nat) : SafeStop :=
  { axes := 0, cust := P.cust, noReversal := false, faultAfter := false, v0 := .all 0, started := .all (some ck), plan := .all [] }

theorem progressTimeout_still (hpor : P.por = false) {a : AxisId} (h : (wbit P.ob.progArmed a.val || wbit P.mon2.progArmed a.val) = true)
    (hlock : P.ob.lockCause = 0) (hstop : P.ob.stop = none) (hmv : P.movingAxes = []) (ck : Nat) (p : PortalId) : P.progressTimeout ck p a =
      (((P.stalled ck a).halted a).reportDet ck).stopComplete ck p (((P.stalled ck a).halted a).stillStop ck) := by
  have hlock' : ¬((P.setProgress a false).ob.lockCause != 0) = true := by simp [PortalState.setProgress, hlock]
  have hidle : ¬((P.setProgress a false).ob.stop.isSome || !(P.setProgress a false).movingAxes.isEmpty) = true := by
    have hs : (P.setProgress a false).ob.stop = none := hstop
    have hm : (P.setProgress a false).movingAxes = [] := hmv
    simp [hs, hm]
  unfold PortalState.progressTimeout
  rw [if_neg (by simp [hpor, h])]
  extract_lets R t still Q₁ Q₂ Q₃ Q₄ Q₅
  rw [if_neg hlock', if_neg hidle]
  rfl

/-- What the detection at standstill leaves before its stop is complete. -/
structure Halted (P Q : PortalState) (a : AxisId) : Prop where
  supervised : Supervised P Q
  off : (Q.axes.get a).drive = .torqueOff
  det : wbit Q.ob.evt 15 = true
  first : fget Q.ob.cause 31 28 = 7
  count : Q.ob.detCnt = satInc P.ob.detCnt 0xFFFF
  readback : wbit Q.ob.readback a.val = true
  gateCheck : wbit Q.ob.gateCheck a.val = true
  cls : Q.cls = if P.cls.inCycle then .obstructed else P.cls
  cust : Q.cust = P.cust
  lock : Q.ob.lockCause = P.ob.lockCause
  rest : Q.ob.rest = none

theorem fget_firstCause (a : AxisId) : fget (addCause (fmk 31 28 7 ||| fmk 1 0 a.val) 7) 31 28 = 7 := by revert a; decide

theorem Supervised.setProgress (P : PortalState) (a : AxisId) (b : Bool) : Supervised P (P.setProgress a b) := ⟨rfl, rfl, id, fun _ => rfl, rfl, rfl⟩

theorem Supervised.halted (P : PortalState) (a : AxisId) : Supervised P (P.halted a) := by
  refine ⟨rfl, rfl, fun hf => ?_, fun _ => rfl, rfl, rfl⟩
  show (if P.cls.inCycle then _ else P.cls) = _
  rw [hf]
  rfl

theorem axisOff_drive (P : PortalState) (a : AxisId) : ((P.axisOff a).axes.get a).drive = .torqueOff := by
  show ((P.axes.set a (P.axes.get a).off).get a).drive = _
  rw [Three.get_set]
  rfl

theorem halted_halted (P : PortalState) (ck : Nat) (a : AxisId) : Halted P (((P.stalled ck a).halted a).reportDet ck) a := by
  have hrec := recorded_recorded (P.setProgress a false) 7 a.val P.link.time
  have hsup : Supervised P (P.stalled ck a) :=
    (((Supervised.setProgress P a false).trans (.recorded ..)).trans (.refuseDue _ ck)).trans (.axisOff _ a)
  obtain ⟨kob, -, kcls, -, kcust, -⟩ := refuseDue_keeps ((P.setProgress a false).recorded 7 a.val P.link.time) ck
  have hob : (P.stalled ck a).ob = ((P.setProgress a false).recorded 7 a.val P.link.time).ob := kob
  have hcls : (P.stalled ck a).cls = P.cls := kcls.trans hrec.cls
  have hcust : (P.stalled ck a).cust = P.cust := kcust.trans hrec.cust
  have hdrive : ((P.stalled ck a).axes.get a).drive = .torqueOff := axisOff_drive ..
  have hreport : ((P.stalled ck a).halted a).reportDet ck =
      { (P.stalled ck a).halted a with link := (((P.stalled ck a).halted a).reportDet ck).link } := pushEvent_eq ..
  have hall := (hsup.trans (.halted _ a)).trans (.of_outputsOnly (.reportDet _ ck))
  refine ⟨hall, ?_, ?_, ?_, ?_, ?_, ?_, ?_, ?_, ?_, ?_⟩ <;> rw [hreport]
  · exact hdrive
  · show wbit (P.stalled ck a).ob.evt 15 = true
    rw [hob]
    exact hrec.det
  · show fget (P.stalled ck a).ob.cause 31 28 = 7
    rw [hob, hrec.cause]
    exact fget_firstCause a
  · show (P.stalled ck a).ob.detCnt = _
    rw [hob]
    exact hrec.count
  · exact wbit_putBit_self ..
  · exact wbit_putBit_self ..
  · show (if (P.stalled ck a).cls.inCycle then _ else (P.stalled ck a).cls) = _
    rw [hcls]
  · exact hcust
  · show (P.stalled ck a).ob.lockCause = _
    rw [hob]
    exact hrec.lock
  · rfl

/-! ### The time test while the portal moves or stops (R221) -/

theorem detect_eq (P : PortalState) (ck cause axis : Nat) (t : Dword) (noRev faultAfter : Bool) : ∃ l,
    P.detect ck cause axis t noRev faultAfter = { P.detectAdd ck cause axis t noRev faultAfter with link := l } := ⟨_, reportFresh_eq ..⟩

theorem Supervised.detect (P : PortalState) (ck cause axis : Nat) (t : Dword) (noRev faultAfter : Bool) :
    Supervised P (P.detect ck cause axis t noRev faultAfter) := (Supervised.detectAdd ..).trans (.of_outputsOnly (.reportFresh ..))

/-- What is left of a detection by the time test where a stop is under way or begins. -/
structure ProgressLost (P Q : PortalState) (a : AxisId) : Prop where
  supervised : Supervised P Q
  stop : Q.ob.stop ≠ none
  cause : wbit Q.ob.cause 23 = true
  ends : wbit Q.ob.progArmed a.val = false ∧ wbit Q.mon2.progArmed a.val = false

theorem detect_progressLost {a : AxisId} (hlock : P.ob.lockCause = 0) (hrun : P.ob.stop ≠ none ∨ P.movingAxes ≠ []) (ck : Nat) (t : Dword) :
    ProgressLost P ((P.setProgress a false).detect ck 7 a.val t false false) a := by
  obtain ⟨w, hcause, ⟨st, hst, -⟩, hprog, hprog2⟩ :=
    detectAdd_causes (P := P.setProgress a false) hlock hrun ck 7 a.val t false false
  obtain ⟨l, hl⟩ := detect_eq (P.setProgress a false) ck 7 a.val t false false
  refine ⟨(Supervised.setProgress P a false).trans (.detect ..), ?_, ?_, ?_, ?_⟩ <;> rw [hl]
  · exact fun h0 => Option.some_ne_none st (hst.symm.trans h0)
  · show wbit ((P.setProgress a false).detectAdd ck 7 a.val t false false).ob.cause 23 = true
    rw [hcause]
    exact wbit_raise_self _ 23 (by decide)
  · show wbit ((P.setProgress a false).detectAdd ck 7 a.val t false false).ob.progArmed a.val = false
    rw [hprog]
    exact wbit_putBit_self ..
  · show wbit ((P.setProgress a false).detectAdd ck 7 a.val t false false).mon2.progArmed a.val = false
    rw [hprog2]
    exact wbit_putBit_self ..

theorem ProgressLost.axisOff {a : AxisId} (h : ProgressLost P Q a) (r g : BitVec 3) :
    ProgressLost P ((Q.axisOff a).modOb fun o => { o with readback := r, gateCheck := g }) a :=
  ⟨(h.supervised.trans (.axisOff Q a)).trans (.modOb (by exact fun _ => rfl) _), h.stop, h.cause, h.ends⟩

theorem progressTimeout_moving (hpor : P.por = false) {a : AxisId} (h : (wbit P.ob.progArmed a.val || wbit P.mon2.progArmed a.val) = true)
    (hlock : P.ob.lockCause = 0) (hrun : P.ob.stop ≠ none ∨ P.movingAxes ≠ []) (ck : Nat) (p : PortalId) :
    ProgressLost P (P.progressTimeout ck p a) a := by
  have hlost := detect_progressLost (P := P) (a := a) hlock hrun ck P.link.time
  have hlock' : ¬((P.setProgress a false).ob.lockCause != 0) = true := by simp [PortalState.setProgress, hlock]
  have hbusy : ((P.setProgress a false).ob.stop.isSome || !(P.setProgress a false).movingAxes.isEmpty) = true := by
    have hs : (P.setProgress a false).ob.stop = P.ob.stop := rfl
    have hm : (P.setProgress a false).movingAxes = P.movingAxes := rfl
    rw [hs, hm]
    obtain hs | hm := hrun
    · simp [Option.isSome_iff_ne_none.mpr hs]
    · simp [hm]
  unfold PortalState.progressTimeout
  rw [if_neg (by simp [hpor, h])]
  extract_lets R t still Q₁
  rw [if_neg hlock', if_pos hbusy]
  split
  · exact hlost.axisOff _ _
  · exact hlost

end

section
variable {s : State} {p : PortalId} {P : PortalState} {a : AxisId}

theorem runs_progressTimeout_idle (hP : s.portals.get p = P) (hc : P.calm) (h : (wbit P.ob.progArmed a.val || wbit P.mon2.progArmed a.val) = false) :
    RunsPortal p (.progressTimeout p a) s fun Q => UpToFrames P Q :=
  .of_idle (exec_progressTimeout p a s) hP hc (if_pos (by simp [h]))

theorem runs_progressTimeout_locked (hP : s.portals.get p = P) (hc : P.calm) (h : (wbit P.ob.progArmed a.val || wbit P.mon2.progArmed a.val) = true)
    (hlock : P.ob.lockCause ≠ 0) : RunsPortal p (.progressTimeout p a) s fun Q => UpToFrames (P.setProgress a false) Q := by
  refine .of_eq (exec_progressTimeout p a s) hP hc ?_ hc
  unfold PortalState.progressTimeout
  rw [if_neg (by simp [hc.1, h])]
  exact if_pos (bne_iff_ne.mpr hlock)

theorem runs_progressTimeout_still (hP : s.portals.get p = P) (hc : P.calm) (h : (wbit P.ob.progArmed a.val || wbit P.mon2.progArmed a.val) = true)
    (hlock : P.ob.lockCause = 0) (hstop : P.ob.stop = none) (hmv : P.movingAxes = []) : RunsPortal p (.progressTimeout p a) s fun Q =>
      (Q.axes.get a).drive = .torqueOff ∧ wbit Q.ob.evt 15 = true ∧ fget Q.ob.cause 31 28 = 7 ∧
        Q.ob.detCnt = satInc P.ob.detCnt 0xFFFF ∧ wbit Q.ob.readback a.val = true ∧ wbit Q.ob.gateCheck a.val = true ∧
        (P.cls.inCycle = true → Q.cls = .obstructed) ∧ ((P.revOrder P.cust).kind = 0 → Q.ob.rest = none) ∧
        ((P.revOrder P.cust).kind ≠ 0 → P.cls ≠ .fault → Q.ob.rest = some P.cust) := by
  have heq := progressTimeout_still hc.1 h hlock hstop hmv s.clock p
  have hhalt := halted_halted P s.clock a
  have hreport : (((P.stalled s.clock a).halted a).reportDet s.clock).cust = ((P.stalled s.clock a).halted a).cust := by
    rw [(OutputsOnly.reportDet ((P.stalled s.clock a).halted a) s.clock).eq]
  have hst : (((P.stalled s.clock a).halted a).stillStop s.clock).cust = P.cust := hreport.symm.trans hhalt.cust
  generalize ((P.stalled s.clock a).halted a).reportDet s.clock = X at *
  generalize hS : ((P.stalled s.clock a).halted a).stillStop s.clock = S at *
  have hnoRev : S.noReversal = false := by rw [← hS]; rfl
  have hfa : S.faultAfter = false := by rw [← hS]; rfl
  have hw : X.link.outcomeWaits = false := hhalt.supervised.waits.trans hc.2.2.1
  have hsup := hhalt.supervised.trans (stopComplete_ended hw S s.clock p).supervised
  have horder : X.revOrder S.cust = P.revOrder P.cust := by
    rw [hst]
    unfold PortalState.revOrder
    rw [hhalt.supervised.units]
  obtain ⟨rest, cust, pend, l, hend, hnone, hsome⟩ := stopComplete_outcome hw hfa s.clock p
  rw [← heq] at hsup hend
  refine .of_supervised (exec_progressTimeout p a s) hP hc hsup fun e g => ?_
  rw [hend]
  refine ⟨hhalt.off, hhalt.det, hhalt.first, hhalt.count, hhalt.readback, hhalt.gateCheck, fun hcyc => ?_, fun hk => ?_, fun hk hf => ?_⟩
  · exact hhalt.cls.trans (if_pos hcyc)
  · exact (hnone (.inr (.inl (by rw [horder, hk])))).trans hhalt.rest
  · refine (hsome ?_).trans (congrArg some hst)
    rintro (hr | hk' | hcf | hl)
    · exact absurd (hnoRev.symm.trans hr) nofun
    · exact hk (by rwa [horder] at hk')
    · rw [hhalt.cls] at hcf
      split at hcf
      · exact absurd hcf nofun
      · exact hf hcf
    · exact hl (hhalt.lock.trans hlock)

theorem runs_progressTimeout_moving (hP : s.portals.get p = P) (hc : P.calm) (h : (wbit P.ob.progArmed a.val || wbit P.mon2.progArmed a.val) = true)
    (hlock : P.ob.lockCause = 0) (hmv : P.movingAxes ≠ []) : RunsPortal p (.progressTimeout p a) s fun Q =>
      Q.ob.stop ≠ none ∧ wbit Q.ob.cause 23 = true ∧ wbit Q.ob.progArmed a.val = false ∧ wbit Q.mon2.progArmed a.val = false ∧ Q.units = P.units := by
  obtain ⟨hsup, hstop, hcause, hob, hmon2⟩ := progressTimeout_moving hc.1 h hlock (.inr hmv) s.clock p
  exact .of_supervised (exec_progressTimeout p a s) hP hc hsup fun _ _ => ⟨hstop, hcause, hob, hmon2, hsup.units⟩

end

/-! ### Samples of analog edges (R214) -/

section
variable {P : PortalState}

theorem recorded_evt {i : Nat} (h : wbit P.ob.evt i = true) (cause axis : Nat) (t : Dword) : wbit (P.recorded cause axis t).ob.evt i = true := by
  obtain ⟨pos, trigger, hrec⟩ := recordDet_eq P.learnDiscard cause axis t
  have hevt : (P.recorded cause axis t).ob.evt = raise P.learnDiscard.ob.evt 15 := (congrArg (fun X : PortalState => X.ob.evt) hrec :)
  rw [hevt]
  exact wbit_raise_of_wbit ((KeepsOff.learnDiscard P).evt i h) 15

/-- A detection clears no flag of OB_EVT. -/
theorem detectAdd_evt {i : Nat} (h : wbit P.ob.evt i = true) (ck cause axis : Nat) (t : Dword) (noRev faultAfter : Bool) :
    wbit (P.detectAdd ck cause axis t noRev faultAfter).ob.evt i = true := by
  by_cases hlock : P.ob.lockCause = 0
  · cases hstop : P.ob.stop with
    | some st =>
      rw [detectAdd_more hlock hstop]
      exact h
    | none =>
      by_cases hmv : P.movingAxes = []
      · rwa [detectAdd_still hstop hmv]
      · obtain ⟨st, rev, blocked, hadd, -⟩ := detectAdd_begins hlock hstop hmv ck cause axis t noRev faultAfter
        obtain ⟨hob, -⟩ := stopping_keeps (P.braked ck cause axis t) st rev P.jogging
        obtain ⟨bob, -⟩ := braked_keeps P ck cause axis t
        have hevt : ((P.braked ck cause axis t).stopping st rev P.jogging).ob.evt = (P.recorded cause axis t).ob.evt := by
          rw [hob]
          show (P.braked ck cause axis t).ob.evt = _
          rw [bob]
        rw [hadd]
        show wbit ((P.braked ck cause axis t).stopping st rev P.jogging).ob.evt i = true
        rw [hevt]
        exact recorded_evt h cause axis t
  · rwa [detectAdd_locked hlock]

/-- A sample of an analog edge as the portal die `P` takes it in a monitor channel (R213). -/
def PortalState.sampleOf (P : PortalState) (e : Fin 2) (code : BitVec 14) (y : EdgeState) : EdgeState :=
  y.sample P.det (P.det.thr e) (mkRat (code.toNat * 30518) 100000) P.edgesArmed P.link.time

/-- The portal die `P` with a sample of an analog edge taken in both monitor channels (R207). -/
def PortalState.edgeSampled (P : PortalState) (e : Fin 2) (code : BitVec 14) : PortalState :=
  { P with ob := { P.ob with edges := P.ob.edges.set2 e (P.sampleOf e code (P.ob.edges.at2 e)) },
           mon2 := { P.mon2 with edges := P.mon2.edges.set2 e (P.sampleOf e code (P.mon2.edges.at2 e)) } }

/-- The sample is the one that completes EDG_CONF out of range, in either monitor channel (R214). -/
def PortalState.sampleBad (P : PortalState) (e : Fin 2) (code : BitVec 14) : Prop :=
  (P.sampleOf e code (P.ob.edges.at2 e)).badRun = P.det.edgConf ∨ (P.sampleOf e code (P.mon2.edges.at2 e)).badRun = P.det.edgConf

/-- The portal die `P` with EDGE_FAULT set at a sample of an analog edge (R214). -/
def PortalState.edgeFaulted (P : PortalState) (e : Fin 2) (code : BitVec 14) : PortalState := (P.edgeSampled e code).obFlag 12

theorem edgeSample_eq (hpor : P.por = false) {e : Fin 2} (hused : P.det.edgeUsed e = true) (code : BitVec 14) (ck : Nat) :
    ∃ bad : Bool, (bad = true ↔ P.sampleBad e code) ∧ P.edgeSample ck e code =
      if bad && P.det.edgConf != 0 then
        if P.edgesArmed && P.ob.lockCause = 0 then (P.edgeFaulted e code).detect ck (2 + e.val) 3 P.link.time true true
        else (P.edgeFaulted e code).enterFault ck (P.edgeFaulted e code).ob.evt
      else P.edgeSampled e code := by
  unfold PortalState.edgeSample
  extract_lets d armed R bad
  have hR : R = P.edgeSampled e code := rfl
  have hbad : bad = true ↔ P.sampleBad e code := by
    have h1 : R.ob.edges.at2 e = P.sampleOf e code (P.ob.edges.at2 e) := Two.at2_set2 ..
    have h2 : R.mon2.edges.at2 e = P.sampleOf e code (P.mon2.edges.at2 e) := Two.at2_set2 ..
    dsimp only [bad]
    rw [h1, h2]
    unfold PortalState.sampleBad
    simp only [Bool.or_eq_true, decide_eq_true_eq]
    exact Iff.rfl
  refine ⟨bad, hbad, ?_⟩
  rw [if_neg (by simp [hpor, d, hused])]
  rfl

theorem Supervised.edgeSampled (P : PortalState) (e : Fin 2) (code : BitVec 14) : Supervised P (P.edgeSampled e code) :=
  ⟨rfl, rfl, id, fun _ => rfl, rfl, rfl⟩

theorem Supervised.edgeFaulted (P : PortalState) (e : Fin 2) (code : BitVec 14) : Supervised P (P.edgeFaulted e code) :=
  (Supervised.edgeSampled P e code).trans (.of_outputsOnly (.obFlag _ 12))

theorem edgeFaulted_evt (P : PortalState) (e : Fin 2) (code : BitVec 14) : wbit (P.edgeFaulted e code).ob.evt 12 = true :=
  wbit_raise_self _ 12 (by decide)

end

section
variable {s : State} {p : PortalId} {P : PortalState} {e : Fin 2} {code : BitVec 14}

theorem runs_edgeSample_unused (hP : s.portals.get p = P) (hc : P.calm) (h : P.det.edgeUsed e = false) :
    RunsPortal p (.analogEdgeSample p e code) s fun Q => UpToFrames P Q :=
  .of_idle (exec_analogEdgeSample p e code s) hP hc (if_pos (by simp [h]))

theorem runs_edgeSample_counts (hP : s.portals.get p = P) (hc : P.calm) (hused : P.det.edgeUsed e = true)
    (h : ¬P.sampleBad e code ∨ P.det.edgConf = 0) : RunsPortal p (.analogEdgeSample p e code) s fun Q => UpToFrames (P.edgeSampled e code) Q := by
  obtain ⟨bad, hbad, heq⟩ := edgeSample_eq hc.1 hused code s.clock
  refine .of_eq (exec_analogEdgeSample p e code s) hP hc (heq.trans (if_neg fun hcond => ?_)) hc
  rw [Bool.and_eq_true, bne_iff_ne] at hcond
  exact h.elim (fun hn => hn (hbad.mp hcond.1)) hcond.2

theorem runs_edgeSample_faults (hP : s.portals.get p = P) (hc : P.calm) (hused : P.det.edgeUsed e = true) (h : P.sampleBad e code)
    (hconf : P.det.edgConf ≠ 0) (harmed : P.edgesArmed = false) : RunsPortal p (.analogEdgeSample p e code) s fun Q =>
      Q.cls = .fault ∧ wbit Q.ob.evt 12 = true ∧ Q.units = P.units := by
  obtain ⟨bad, hbad, heq⟩ := edgeSample_eq hc.1 hused code s.clock
  rw [if_pos (by simp [hbad.mpr h, hconf]), if_neg (by simp [harmed])] at heq
  have hsup := (Supervised.edgeFaulted P e code).trans (.enterFault _ s.clock (P.edgeFaulted e code).ob.evt)
  have hevt := (KeepsOff.enterFault (P.edgeFaulted e code) s.clock (P.edgeFaulted e code).ob.evt).evt 12 (edgeFaulted_evt P e code)
  have hcls := enterFault_cls (P.edgeFaulted e code) s.clock (P.edgeFaulted e code).ob.evt
  rw [← heq] at hsup hevt hcls
  exact .of_supervised (exec_analogEdgeSample p e code s) hP hc hsup fun _ _ => ⟨hcls, hevt, hsup.units⟩

theorem runs_edgeSample_detects (hP : s.portals.get p = P) (hc : P.calm) (hused : P.det.edgeUsed e = true) (h : P.sampleBad e code)
    (hconf : P.det.edgConf ≠ 0) (harmed : P.edgesArmed = true) (hlock : P.ob.lockCause = 0) : RunsPortal p (.analogEdgeSample p e code) s fun Q =>
      wbit Q.ob.evt 12 = true ∧ ∃ st, Q.ob.stop = some st ∧ st.noReversal = true ∧ st.faultAfter = true := by
  obtain ⟨bad, hbad, heq⟩ := edgeSample_eq hc.1 hused code s.clock
  rw [if_pos (by simp [hbad.mpr h, hconf]), if_pos (by simp [harmed, hlock])] at heq
  have hsup := (Supervised.edgeFaulted P e code).trans (.detect _ s.clock (2 + e.val) 3 P.link.time true true)
  have hevt := detectAdd_evt (edgeFaulted_evt P e code) s.clock (2 + e.val) 3 P.link.time true true
  have hmv : (P.edgeFaulted e code).movingAxes ≠ [] := movingAxes_of_armed (P := P) harmed
  obtain ⟨w, -, ⟨st, hst, hrev, hfault⟩, -⟩ :=
    detectAdd_causes (P := P.edgeFaulted e code) hlock (.inr hmv) s.clock (2 + e.val) 3 P.link.time true true
  obtain ⟨l, hl⟩ := detect_eq (P.edgeFaulted e code) s.clock (2 + e.val) 3 P.link.time true true
  rw [← heq] at hsup hl
  refine .of_supervised (exec_analogEdgeSample p e code s) hP hc hsup fun _ _ => ?_
  rw [hl]
  exact ⟨hevt, st, hst, hrev rfl, hfault rfl⟩

/-! ### Learning (R237), and the land of a lock-out reset (R231) -/

theorem runs_learnWrite_accepted (hP : s.portals.get p = P) (hc : P.calm) {w : Word} (hw : wbit w 31 = true) (hd : P.dstate = 5)
    (hr : P.released = true) (hl : P.learnable (fget w 29 24) = true) : RunsPortal p (.obLearnWrite p w) s fun Q =>
      UpToFrames { P with ob := { P.ob with learn := w &&& 0xBF0F0000, learnRun := none, runsOk := 0, runsDisc := 0, learnAxes := .all {} } } Q :=
  .of_eq (exec_obLearnWrite p w s) hP hc ((if_pos hw).trans (if_pos (by simp [hd, hr, hl]))) hc

theorem runs_learnWrite_refused (hP : s.portals.get p = P) (hc : P.calm) {w : Word} (hw : wbit w 31 = true)
    (h : P.dstate ≠ 5 ∨ P.released = false ∨ P.learnable (fget w 29 24) = false) : RunsPortal p (.obLearnWrite p w) s fun Q =>
      UpToFrames { P with ob := { P.ob with evt := raise P.ob.evt 6 } } Q := by
  refine .of_eq (exec_obLearnWrite p w s) hP hc ((if_pos hw).trans (if_neg ?_)) hc
  obtain h | h | h := h <;> simp [h]

theorem runs_learnWrite_ends (hP : s.portals.get p = P) (hc : P.calm) {w : Word} (hw : wbit w 31 = false) :
    RunsPortal p (.obLearnWrite p w) s fun Q =>
      UpToFrames { P with ob := { P.ob with learn := w &&& 0xBF0F0000, learnRun := none, learnAxes := P.ob.learnAxes.map LearnAxis.clearRun } } Q :=
  .of_eq (exec_obLearnWrite p w s) hP hc (if_neg (by simp [hw])) hc

theorem runs_localReset_idle (hP : s.portals.get p = P) (hc : P.calm) : RunsPortal p (.lockoutClrLocal p) s fun Q => UpToFrames P Q := by
  obtain ⟨-, -, -, hcount⟩ := id hc
  exact .of_idle (exec_lockoutClrLocal p s) hP hc (if_pos (by simp [hcount]))

end

end Sys2Proof.Machine
end

section
/-! The safety monitor, the ends of a safe stop and the lock-out (R208 to R232, R237, R240). -/

namespace Sys2Proof.Machine

/-- Settles O60, one rule for each command of the monitor: a safety-path fault ends in `lockOut` (R210), a detection in one safe stop of the moving axes
(R221), and everything else leaves a calm die calm. -/
theorem safetyMonitorStopsAndLockout : Obligations.SafetyMonitorStopsAndLockout := by
  unfold Obligations.SafetyMonitorStopsAndLockout
  refine ⟨fun s p P hP hpor ht hw hcount => ⟨fun hwhy _ => runs_localReset_refused hP hpor ht hw hcount hwhy,
    runs_localReset_tests hP hpor ht hw hcount⟩, fun s p P hP hc => ?_⟩
  intro locked same obIs steady progress alike stops
  obtain ⟨hinjPass, hinjFail⟩ := runs_injectionTest hP hc
  refine ⟨?tickIdle, ?tickDecisions, ?tickEfforts, ?tickCounters, ?tickNonCode, ?tickTorque, ?tickPressed, hinjPass, hinjFail, ?crossCounts, ?crossLocks,
    ?crcPasses, ?crcAbsent, ?crcFails, ?testNone, ?testDownload, ?testDownloadFails, ?testReset, ?localReset, ?edgeUnused, ?edge, ?progIdle, ?progLocked,
    ?progStill, ?progMoving, ?settleNone, ?settleIdle, ?settleEnds, ?readIdle, ?readLocks, ?restNone, ?restOver, ?restReopens, ?learnOn, ?learnRefused,
    ?learnOff⟩
  case tickIdle => exact fun hmv h => runs_tick_idles hP hc hmv h
  case tickDecisions => exact fun d hlock hd hrun h => runs_tick_decisions hP hc hlock hd hrun h
  case tickEfforts => exact fun d a hlock hd h hrun => runs_tick_efforts hP hc hlock hd h hrun
  case tickCounters => exact fun d a hlock hd hs he h hrun => runs_tick_counters hP hc hlock hd hs he h hrun
  case tickNonCode => exact fun d hd => runs_tick_nonCode hP hc hd
  case tickTorque => exact fun d hd hsteady hstop hrev ht => runs_tick_torque hP hc hd hsteady hstop hrev ht
  case tickPressed => exact fun hlock hsteady hstop harmed hpressed => runs_tick_pressed hP hc hlock hsteady hstop harmed hpressed
  case crossCounts => exact fun r h0 h1 => runs_crossCheck_counts hP hc h0 h1
  case crossLocks => exact fun r hlock h => runs_crossCheck_locks hP hc hlock h
  case crcPasses => exact fun h => .of_idle (exec_tableCrcCheck p false s) hP hc (tableCrc_passes (fun u hu htag => ⟨rfl, h u hu htag⟩) _)
  case crcAbsent => exact fun h => .of_idle (exec_tableCrcCheck p true s) hP hc (tableCrc_passes (fun u hu htag => absurd htag (h u hu)) _)
  case crcFails =>
    exact fun b hlock h => runs_lockOut (exec_tableCrcCheck p b s) hP hc (tableCrc_fails hc.1 h s.clock) (.refl P) hlock rfl rfl
  case testNone => exact fun b h => .of_idle (exec_monitorSelftestComplete p b s) hP hc (selftestComplete_none h s.clock b)
  case testDownload => exact fun h => (runs_selftest_download hP hc h).1
  case testDownloadFails => exact fun hlock h => (runs_selftest_download hP hc h).2 hlock
  case testReset => exact fun h hd => ⟨runs_selftest_passes hP hc h hd, runs_selftest_fails hP hc h hd⟩
  case localReset => exact runs_localReset_idle hP hc
  case edgeUnused => exact fun e code h => runs_edgeSample_unused hP hc h
  case edge =>
    intro e code hused
    exact ⟨fun h => runs_edgeSample_counts hP hc hused h, fun h hconf harmed => runs_edgeSample_faults hP hc hused h hconf harmed,
      fun h hconf harmed hlock => runs_edgeSample_detects hP hc hused h hconf harmed hlock⟩
  case progIdle => exact fun a h => runs_progressTimeout_idle hP hc h
  case progLocked => exact fun a h hlock => runs_progressTimeout_locked hP hc h hlock
  case progStill => exact fun a h hlock hstop hmv => runs_progressTimeout_still hP hc h hlock hstop hmv
  case progMoving => exact fun a h hlock hmv => runs_progressTimeout_moving hP hc h hlock hmv
  case settleNone => exact fun a h => runs_settleTimeout_idle hP hc fun st hs => absurd (h.symm.trans hs) nofun
  case settleIdle =>
    refine fun a st hs h => runs_settleTimeout_idle hP hc fun st' hs' => ?_
    obtain rfl : st' = st := Option.some.inj (hs'.symm.trans hs)
    exact h
  case settleEnds => exact fun a st hs h hd => runs_settleTimeout_ends hP hc hs h hd
  case readIdle => exact fun a => (runs_readbackTimeout hP hc a).1
  case readLocks => exact fun a => (runs_readbackTimeout hP hc a).2
  case restNone => exact runs_restEnd_idle hP hc
  case restOver => exact fun n h hready => runs_restEnd_ends hP hc h hready
  case restReopens => exact fun n c h hp hready hg => runs_restEnd_reopens hP hc h hp hready hg
  case learnOn => exact fun w hw hd hr hl => runs_learnWrite_accepted hP hc hw hd hr hl
  case learnRefused => exact fun w hw h => runs_learnWrite_refused hP hc hw h
  case learnOff => exact fun w hw => runs_learnWrite_ends hP hc hw

end Sys2Proof.Machine
end

section
/-! Commands of the acquisition store: what follows them, and the change of one group. -/

namespace Sys2Proof.Machine

/-! ### What follows a command of the store -/

theorem acqAtPort_served {s : State} (ha : s.portAlive = true) (hs : s.serves 0x30000 = true) (f : AcqState → AcqState) :
    s.acqAtPort f = { s with acq := f s.acq } :=
  if_pos (by rw [ha, hs]; rfl)

/-- A command that changes the acquisition store, and at most draws free values for it (R262). -/
theorem commit_acqFree (s : State) (a : AcqState) (k : Nat) :
    s.commit { s with acq := a, freeCtr := k } =
      { s with acq := a, freeCtr := k, irqStat := s.irqStat ||| bitIf 10 (acqRose s.acq a), port := { s.port with hrdy := s.ready } } := by
  rw [commit_still _ _ (by simp [State.sameTraffic])]
  simp [State.interrupts, irqRises, State.ready, State.portAlive]

theorem runs_acqFree {c : Instr} {s : State} {a : AcqState} {k : Nat} (hc : exec c s = settled s { s with acq := a, freeCtr := k }) :
    Runs c s fun t => OnlyAcq s t ∧ t.acq = a := by
  refine .of_settled hc ?_
  rw [commit_acqFree]
  exact ⟨rfl, rfl⟩

theorem runs_acq {c : Instr} {s : State} {a : AcqState} (hc : exec c s = settled s { s with acq := a }) :
    Runs c s fun t => OnlyAcq s t ∧ t.acq = a := runs_acqFree hc

theorem exec_acqGroupEnable {s : State} (ha : s.portAlive = true) (hs : s.serves 0x30000 = true) (n : Fin 16) (w : Word) :
    exec (.acqGroupEnable n w) s = settled s { s with acq := s.acq.writeCfg n w s.groupEnv } :=
  congrArg (settled s) (acqAtPort_served ha hs _)

theorem exec_acqForceWrite {s : State} (ha : s.portAlive = true) (hs : s.serves 0x30000 = true) (groups : BitVec 16) :
    exec (.acqForceWrite groups) s = settled s { s with acq := s.acq.force groups s.now } :=
  congrArg (settled s) (acqAtPort_served ha hs _)

theorem exec_triggerArrival (s : State) (n : Fin 16) (x : Trigger) :
    exec (.triggerArrival n x) s = settled s { s with acq := s.acq.arrival n x.cond.val x.stamp.toNat } := rfl

theorem exec_triggerCommit (s : State) (n : Fin 16) : exec (.triggerCommit n) s = settled s { s with acq := s.acq.commit n } := rfl

theorem exec_autoTriggerExpire (s : State) (n : Fin 16) : exec (.autoTriggerExpire n) s = settled s { s with acq := s.acq.autoFire n s.now } := rfl

theorem exec_dspanExpire (s : State) (n : Fin 16) : exec (.dspanExpire n) s = settled s { s with acq := s.acq.dspan n } := rfl

theorem exec_measurementComplete (s : State) (n : Fin 16) (slot : BitVec 12) :
    exec (.measurementComplete n slot) s = settled s (s.measureDone n slot.toNat) := rfl

/-! ### One group changes -/

@[simp] theorem Sixteen.set_self {α : Type} (t : Sixteen α) (i : Fin 16) : t.set i (t.get i) = t := by fin_cases i <;> rfl

@[simp] theorem Sixteen.set_set {α : Type} (t : Sixteen α) (i : Fin 16) (v w : α) : (t.set i v).set i w = t.set i w := by fin_cases i <;> rfl

section
variable (a : AcqState) (n : Fin 16) (f g : Group → Group)

@[simp] theorem AcqState.mod_get : (a.mod n f).groups.get n = f (a.groups.get n) := Sixteen.get_set ..

theorem AcqState.mod_get_ne {m : Fin 16} (h : m ≠ n) : (a.mod n f).groups.get m = a.groups.get m := Sixteen.get_set_ne _ h _

theorem AcqState.mod_mod : (a.mod n f).mod n g = a.mod n fun x => g (f x) := by simp [AcqState.mod]

variable {a n f g}

theorem AcqState.mod_of_fixed (h : f (a.groups.get n) = a.groups.get n) : a.mod n f = a := by
  unfold AcqState.mod
  rw [h, Sixteen.set_self]

/-- The group that changes is all that matters of a change. -/
theorem AcqState.mod_congr (h : f (a.groups.get n) = g (a.groups.get n)) : a.mod n f = a.mod n g := by
  unfold AcqState.mod
  rw [h]

end

/-- Each group of a list changes by itself. -/
theorem foldl_mod_get (f : Fin 16 → Group → Group) {l : List (Fin 16)} (hl : l.Nodup) (a : AcqState) (m : Fin 16) :
    (l.foldl (fun a h => a.mod h (f h)) a).groups.get m = if m ∈ l then f m (a.groups.get m) else a.groups.get m := by
  induction l generalizing a with
  | nil => rfl
  | cons h r ih =>
    obtain ⟨hh, hr⟩ := List.nodup_cons.mp hl
    rw [List.foldl_cons, ih hr]
    by_cases hm : m = h
    · subst hm
      simp [hh]
    · simp [hm, AcqState.mod_get_ne]

theorem foldl_mod_eq (f : Fin 16 → Group → Group) (l : List (Fin 16)) (a : AcqState) :
    l.foldl (fun a h => a.mod h (f h)) a = { a with groups := (l.foldl (fun a h => a.mod h (f h)) a).groups } := by
  induction l generalizing a with
  | nil => rfl
  | cons h r ih => exact ih (a.mod h (f h))

theorem allGroups_nodup : allGroups.Nodup := by decide

theorem mem_allGroups (n : Fin 16) : n ∈ allGroups := by revert n; decide

end Sys2Proof.Machine
end

section
/-! The check of a group is made on the fields of the write that enables it, whose segments may be longer than those of the fields before (R248, R250). -/

namespace Sys2Proof.Machine

/-- An image of which portal 0 is in use (R83). -/
def portal0Image : Image :=
  { region := .a, header := [], sections := [{ tag := tagSTRC, version := 2, flags := 0, payload := [1], crc := 0 }] }

/-- A closed segment in slot 1 of group 1: 192 bytes in the first unit of the store. -/
def closedSlot1 : Segment :=
  { slot := 1, at_ := 192, size := 192, ttrig := 0, tpos := 0, index := 0, mask := 1, seq := 0, flags := 0, gsrc := 1, chmask := 1, meas := .all 0,
    samples := [], archDue := false }

/-- Group 0, not enabled: one slot of 64 samples of analog channel 0 in the first unit of the store. -/
def oneChannelGroup : Group := { cfg := 0x00200001, mem := 0x00010000, len := 0x003F0000 }

/-- Group 1, disabled since it closed the segment of its second slot. -/
def disabledGroup : Group := { oneChannelGroup with seg := 1, closed := [closedSlot1] }

/-- The host die in STANDBY with these two groups. -/
def sharedStoreState : State :=
  { State.reset with
    psm := { state := .standby, porHeld := false }
    harn := { image := some portal0Image }
    acq := { groups := ((Sixteen.all {}).set 0 oneChannelGroup).set 1 disabledGroup } }

/-- ACQ_GCFG with EN, and with analog channels 0 and 1 where channel 0 alone stood. -/
def enableTwoChannels : Word := 0x80200003

theorem sharedStore_group0 : sharedStoreState.acq.groups.get 0 = oneChannelGroup := rfl

/-- The check finds nothing: no other group is enabled. -/
theorem twoChannels_check :
    ({ oneChannelGroup with cfg := wrw oneChannelGroup.cfg enableTwoChannels 0x0FF0FFFF } : Group).check 0
      (sharedStoreState.acq.othersOf 0) sharedStoreState.groupEnv = 0 := by
  decide

/-- The slot of 320 bytes now armed reaches over the segment of group 1 (R250). -/
theorem enable_overwrites_slot1 :
    ((sharedStoreState.acq.writeCfg 0 enableTwoChannels sharedStoreState.groupEnv).groups.get 1).closed = [] := by
  decide

/-- One of 192 bytes, as the fields before the write had it, would not. -/
theorem oneChannel_spares_slot1 :
    (disabledGroup.overwritten 1 (oneChannelGroup.slotAt 0) oneChannelGroup.segSize).closed = [closedSlot1] := by
  decide

/-- Refutes O47: the write that enables a group may also change CHMASK, and slot 0 is then armed with the size that the new fields give (R248), where the
statement has the other groups lose only what a slot of the old size overwrites. -/
theorem not_acquisitionFrontEndAndGroups : ¬ Obligations.AcquisitionFrontEndAndGroups := by
  intro h
  obtain ⟨-, -, -, hgroups, -⟩ := h
  obtain ⟨-, -, henable, -⟩ := hgroups sharedStoreState 0 oneChannelGroup enableTwoChannels (by decide) (by decide) sharedStore_group0
  obtain ⟨t, ht, -, hother, -⟩ := henable (by decide) (by decide) (by decide) twoChannels_check
  obtain ⟨u, hu, -, hacq⟩ := runs_acq (exec_acqGroupEnable (s := sharedStoreState) (by decide) (by decide) 0 enableTwoChannels)
  obtain rfl := Host.Outcome.next.inj (hu.symm.trans ht)
  have hslot : (u.acq.groups.get 1).closed = [closedSlot1] := (congrArg Group.closed (hother 1 (by decide))).trans oneChannel_spares_slot1
  rw [hacq, enable_overwrites_slot1] at hslot
  exact absurd hslot (by simp)

end Sys2Proof.Machine
end

section
/-! Triggers of a group that reach it, and forced and automatic ones (R249, R254 to R256). -/

namespace Sys2Proof.Machine

/-! ### A trigger reaches its group -/

section
variable {g : Group} {c stamp : Nat}

theorem Group.arrival_disabled (he : g.en = false) : g.arrival c stamp = g := by simp [Group.arrival, he]

theorem Group.arrival_paused (he : g.en = true) (hp : g.paused = true) : g.arrival c stamp = { g with missed := satInc g.missed 0xFF } := by
  simp [Group.arrival, he, hp]

theorem Group.arrival_committed (he : g.en = true) (hp : g.paused = false) (ha : g.armed = true) (hc : g.commit.isSome = true) :
    g.arrival c stamp = g.overlapped := by
  simp [Group.arrival, he, hp, ha, hc]

/-- The first trigger of a segment waits for its commit where it can be placed (R255). -/
theorem Group.arrival_opens (he : g.en = true) (hp : g.paused = false) (ha : g.armed = true) (hc : g.commit = none) (ht : g.trig = none)
    {t : PendingTrig} (h : g.place c stamp = some t) : g.arrival c stamp = { g with trig := some t, flags := g.flags ||| bitIf 25 t.late } := by
  simp [Group.arrival, he, hp, ha, hc, ht, h]

/-- One that cannot be placed counts as OVERLAP (R254). -/
theorem Group.arrival_unplaced (he : g.en = true) (hp : g.paused = false) (ha : g.armed = true) (hc : g.commit = none) (ht : g.trig = none)
    (h : g.place c stamp = none) : g.arrival c stamp = g.overlapped := by
  simp [Group.arrival, he, hp, ha, hc, ht, h]

theorem Group.place_kept (hu : 0 < g.upTo stamp) (hi : g.pre ≤ g.indexOf stamp) :
    g.place c stamp = some { key := g.startOf stamp, stamps := [(c, stamp)], late := false, short := false } := by
  simp [Group.place, Nat.pos_iff_ne_zero.mp hu, hi]

theorem Group.place_early (hi : g.indexOf stamp < g.pre) (he : g.early = false) : g.place c stamp = none := by
  simp [Group.place, hi, he]

end

/-! ### Host force and the auto trigger (R256) -/

/-- Host force as it reaches group `h`. -/
def Group.forced (groups : BitVec 16) (now : Nat) (h : Fin 16) (g : Group) : Group :=
  if wbit groups h.val = true ∧ g.armed = true then g.arrival 4 now else g

theorem force_eq (a : AcqState) (groups : BitVec 16) (now : Nat) :
    a.force groups now = allGroups.foldl (fun a h => a.mod h (Group.forced groups now h)) a := by
  unfold AcqState.force
  congr 1
  funext a h
  by_cases hf : wbit groups h.val = true ∧ (a.groups.get h).armed = true
  · rw [if_pos (by simpa using hf)]
    exact AcqState.mod_congr (if_pos hf).symm
  · rw [if_neg (by simpa using hf)]
    exact (AcqState.mod_of_fixed (if_neg hf)).symm

theorem force_get (a : AcqState) (groups : BitVec 16) (now : Nat) (h : Fin 16) :
    (a.force groups now).groups.get h = (a.groups.get h).forced groups now h := by
  rw [force_eq, foldl_mod_get _ allGroups_nodup, if_pos (mem_allGroups h)]

theorem force_groupsOnly (a : AcqState) (groups : BitVec 16) (now : Nat) :
    a.force groups now = { a with groups := (a.force groups now).groups } := by
  rw [force_eq]
  exact foldl_mod_eq ..

theorem autoFire_running {a : AcqState} {n : Fin 16} (ha : (a.groups.get n).armed = true) (ht : (a.groups.get n).autoUs ≠ 0)
    (hc : (a.groups.get n).commit = none) (now : Nat) : a.autoFire n now = a.arrival n 5 now :=
  if_pos (by simp [ha, ht, hc])

theorem autoFire_off {a : AcqState} {n : Fin 16} (ht : (a.groups.get n).autoUs = 0) (now : Nat) : a.autoFire n now = a := if_neg (by simp [ht])

end Sys2Proof.Machine
end

section
/-! The commit of a trigger, and the end of a segment and of its measurements (R249, R250, R255, R262). -/

namespace Sys2Proof.Machine

/-! ### The commit -/

/-- Index, among the samples kept, of the last one in the sample interval of a trigger (R254). -/
def Group.triggerIndex (g : Group) (x : PendingTrig) : Nat := g.upTo (x.key + g.ts - 1) - 1

theorem Group.withTick_frames {g : Group} (h : g.src ≠ 2) (t : Nat) : g.withTick t = g.kept := if_pos (by simp [h])

/-- The commit of a trigger once a sample has come at or after the start of its interval: its sample is one of those kept (R254, R255). -/
theorem Group.doCommit_received {g : Group} {x : PendingTrig} (hsrc : g.src ≠ 2) (hup : 0 < g.upTo (x.key + g.ts - 1))
    (hhas : ∃ y ∈ g.kept, x.key ≤ y.time) : g.doCommit x = { g with
      kept := g.kept.drop (g.triggerIndex x - g.pre), dropped := g.dropped + (g.triggerIndex x - g.pre), trig := none,
      flags := g.flags ||| bitIf 25 x.late
      commit := some { ttrig := trigStamp x.stamps, mask := trigMask x.stamps, late := x.late,
                       short := decide (g.dropped + g.triggerIndex x < g.pre), index := g.triggerIndex x - (g.triggerIndex x - g.pre) } } := by
  have hany : (g.kept.any fun y => decide (x.key ≤ y.time)) = true := by simpa using hhas
  have hpos : g.upTo (x.key + g.ts - 1) ≠ 0 := Nat.pos_iff_ne_zero.mp hup
  have htick : ({ g with kept := g.withTick x.key } : Group) = g := by rw [Group.withTick_frames hsrc]
  unfold Group.doCommit
  extract_lets g' n has late idx cut
  have hg : g' = g := htick
  have hn : n = g.upTo (x.key + g.ts - 1) := by rw [← hg]
  have hlate : late = x.late := by simp [late, hn, hpos]
  have hidx : idx = g.triggerIndex x := by simp [idx, hn, has, hg, hpos, hany, Group.triggerIndex]
  have hcut : cut = g.triggerIndex x - g.pre := by rw [← hidx, ← hg]
  rw [hlate, hcut, hidx, hg]

theorem links_unnamed {a : AcqState} {n : Fin 16} (h : ∀ k c, ¬(((a.groups.get k).conds.get c).kind = 9 ∧ ((a.groups.get k).conds.get c).src = n.val))
    (t : Nat) : a.links n t = a :=
  foldl_same fun k _ => foldl_same fun c _ => if_neg (h k c)

theorem closeIfFull_filling {a : AcqState} {n : Fin 16} {c : Committed} (hc : (a.groups.get n).commit = some c)
    (h : (a.groups.get n).kept.length < c.index + ((a.groups.get n).lenN - (a.groups.get n).pre)) : a.closeIfFull n = a := by
  unfold AcqState.closeIfFull
  dsimp only
  rw [hc]
  exact if_neg (Nat.not_le.mpr h)

theorem acqCommit_untriggered {a : AcqState} {n : Fin 16} (h : (a.groups.get n).trig = none) : a.commit n = a := by
  unfold AcqState.commit
  rw [h]

/-- A commit that no LINK condition names, in a segment that still waits for samples, concerns its group alone. -/
theorem acqCommit_filling {a : AcqState} {n : Fin 16} {g : Group} {x : PendingTrig} (hg : a.groups.get n = g) (ht : g.trig = some x) (hsrc : g.src ≠ 2)
    (hfill : g.kept.length < g.lenN - g.pre) (hup : 0 < g.upTo (x.key + g.ts - 1)) (hhas : ∃ y ∈ g.kept, x.key ≤ y.time)
    (hlink : ∀ k c, ¬(((a.groups.get k).conds.get c).kind = 9 ∧ ((a.groups.get k).conds.get c).src = n.val)) :
    a.commit n = a.mod n fun g => g.doCommit x := by
  have hconds : ∀ k, ((a.mod n fun g => g.doCommit x).groups.get k).conds = (a.groups.get k).conds := by
    intro k
    by_cases hk : k = n
    · rw [hk, AcqState.mod_get]
      rfl
    · rw [AcqState.mod_get_ne _ _ _ hk]
  unfold AcqState.commit
  rw [hg, ht]
  dsimp only
  rw [links_unnamed fun k c => by rw [hconds]; exact hlink k c]
  refine closeIfFull_filling (by rw [AcqState.mod_get, hg, Group.doCommit_received hsrc hup hhas]) ?_
  rw [AcqState.mod_get, hg, Group.doCommit_received hsrc hup hhas]
  calc (g.kept.drop (g.triggerIndex x - g.pre)).length
      ≤ g.kept.length := by rw [List.length_drop]; exact Nat.sub_le ..
    _ < g.lenN - g.pre := hfill
    _ ≤ _ := Nat.le_add_left ..

/-! ### The end of a segment -/

/-- A group whose only segment has closed (R250). -/
def Group.stopped (g : Group) : Group := { g with armed := false, full := true, kept := [], dropped := 0, trig := none, commit := none }

theorem moveOn_single {a : AcqState} {n : Fin 16} (h : fget (a.groups.get n).cfg 23 22 = 0) (rest : List AcqSample) :
    a.moveOn n rest = a.mod n Group.stopped := by
  have hmode : (a.groups.get n).mode n = 0 := by simp [Group.mode, h]
  unfold AcqState.moveOn
  dsimp only
  rw [hmode]
  rfl

/-- A segment of MODE SINGLE closes with its first samples, and its group is FULL. -/
theorem close_single {a : AcqState} {n : Fin 16} (h : fget (a.groups.get n).cfg 23 22 = 0) (k : Nat) :
    a.close n k = a.mod n fun g => (g.put n (g.segment n (g.kept.take k) false)).stopped := by
  unfold AcqState.close
  rw [moveOn_single (by rw [AcqState.mod_get]; exact h), AcqState.mod_mod]

theorem dspan_over {a : AcqState} {n : Fin 16} {g : Group} (hg : a.groups.get n = g) (hsrc : g.src = 2) (hspan : g.dspan ≠ 0) (ha : g.armed = true)
    (hc : g.commit.isSome = true) : a.dspan n = a.close n g.kept.length := by
  subst hg
  exact if_pos (by simp [hsrc, hspan, ha, hc])

theorem dspan_off {a : AcqState} {n : Fin 16} (h : (a.groups.get n).dspan = 0) : a.dspan n = a := if_neg (by simp [h])

theorem Group.segAt_put (g : Group) (n : Fin 16) (x : Segment) : (g.put n x).segAt x.slot = some x := by simp [Group.put, Group.segAt]

/-! ### The end of measurements -/

theorem resume_running {a : AcqState} {n : Fin 16} (h : (a.groups.get n).paused = false) : a.resume n = a := if_neg (by simp [h])

/-- A closed segment after the end of the measurements of a slot (R262). -/
def Group.withResults (g : Group) (slot : Nat) (fill : Nat → Word) (x : Segment) : Segment :=
  if x.slot = slot then
    { x with
      meas := g.meas.mapIdx fun i w => match g.measure x w with
        | some r => r
        | none => fill i.val
      flags := x.flags ||| 0x20 }
  else x

/-- A group after the end of the measurements of a slot, which is no longer held for them. -/
def Group.measured (g : Group) (slot : Nat) (fill : Nat → Word) : Group :=
  { g with measuring := g.measuring.filter (fun k => k != slot), closed := g.closed.map (g.withResults slot fill) }

theorem measured_running {a : AcqState} {n : Fin 16} {slot : Nat} (hm : (a.groups.get n).measuring.contains slot = true)
    (hp : (a.groups.get n).paused = false) (fill : Nat → Word) : a.measured n slot fill = a.mod n fun g => g.measured slot fill := by
  unfold AcqState.measured
  dsimp only
  rw [if_pos hm, resume_running (by rw [AcqState.mod_get]; exact hp)]
  exact AcqState.mod_congr rfl

theorem measured_idle {a : AcqState} {n : Fin 16} {slot : Nat} (hm : (a.groups.get n).measuring.contains slot = false) (fill : Nat → Word) :
    a.measured n slot fill = a :=
  if_neg (Bool.eq_false_iff.mp hm)

theorem withResults_slot (g : Group) (slot : Nat) (fill : Nat → Word) (x : Segment) : (g.withResults slot fill x).slot = x.slot := by
  unfold Group.withResults
  split <;> rfl

/-- A segment of the slot has MEAS_DONE. -/
theorem measured_done {g : Group} {slot : Nat} {fill : Nat → Word} {y : Segment} (hy : y ∈ (g.measured slot fill).closed) (hs : y.slot = slot) :
    Nat.testBit y.flags.toNat 5 = true := by
  obtain ⟨x, -, rfl⟩ := List.mem_map.mp hy
  rw [Group.withResults, if_pos ((withResults_slot ..).symm.trans hs), BitVec.toNat_or, Nat.testBit_or]
  exact Bool.or_eq_true_iff.mpr (.inr (by decide))

end Sys2Proof.Machine
end

section
/-! Triggers, commits and the ends of segments and measurements, command by command (R249, R250, R254 to R256, R262). -/

namespace Sys2Proof.Machine

section
variable {s : State} {n : Fin 16} {g : Group}

theorem runs_triggerArrival {x : Trigger} {h : Group} (hg : s.acq.groups.get n = g) (ha : g.arrival x.cond.val x.stamp.toNat = h) :
    Runs (.triggerArrival n x) s fun t => OnlyAcq s t ∧ t.acq = { s.acq with groups := s.acq.groups.set n h } := by
  subst hg ha
  exact runs_acq (exec_triggerArrival s n x)

/-- A trigger that changes nothing of its group changes nothing of the store. -/
theorem runs_triggerArrival_idle {x : Trigger} (hg : s.acq.groups.get n = g) (ha : g.arrival x.cond.val x.stamp.toNat = g) :
    Runs (.triggerArrival n x) s fun t => OnlyAcq s t ∧ t.acq = s.acq := by
  have h := runs_triggerArrival hg ha
  rwa [← hg, Sixteen.set_self] at h

theorem runs_forceWrite (groups : BitVec 16) (ha : s.portAlive = true) (hs : s.serves 0x30000 = true) :
    Runs (.acqForceWrite groups) s fun t => OnlyAcq s t ∧ t.acq = { s.acq with groups := t.acq.groups } ∧
      ∀ h, t.acq.groups.get h = (s.acq.groups.get h).forced groups s.now h := by
  refine (runs_acq (exec_acqForceWrite ha hs groups)).mono fun t ⟨honly, hacq⟩ => ?_
  rw [hacq]
  exact ⟨honly, force_groupsOnly .., fun h => force_get ..⟩

/-- A command that changes one group alone. -/
theorem runs_mod {c : Instr} {f : Group → Group} {a : AcqState} {k : Nat} (hc : exec c s = settled s { s with acq := a, freeCtr := k })
    (ha : a = s.acq.mod n f) :
    Runs c s fun t => OnlyAcq s t ∧ (∀ m, m ≠ n → t.acq.groups.get m = s.acq.groups.get m) ∧ t.acq.groups.get n = f (s.acq.groups.get n) := by
  refine (runs_acqFree hc).mono fun t ⟨honly, hacq⟩ => ?_
  rw [hacq, ha]
  exact ⟨honly, fun m hm => AcqState.mod_get_ne _ _ _ hm, AcqState.mod_get ..⟩

end

/-- Settles O48, one rule for each command: each is a change of one group of the store, which the state it finds that group in decides. -/
theorem acquisitionTriggersAndSegments : Obligations.AcquisitionTriggersAndSegments := by
  unfold Obligations.AcquisitionTriggersAndSegments
  refine ⟨fun s n x g hg => ⟨?disabled, ?paused, ?committed, ?placed, ?early⟩, ?force, ?auto, ?autoOff, ?commit, ?commitNone, ?dspan, ?dspanOff,
    ?measured, ?measuredNone⟩
  case disabled => exact fun he => runs_triggerArrival_idle hg (Group.arrival_disabled he)
  case paused => exact fun he hp => runs_triggerArrival hg (Group.arrival_paused he hp)
  case committed => exact fun he hp ha hc => runs_triggerArrival hg (Group.arrival_committed he hp ha hc)
  case placed =>
    intro he hp ha hc ht hu hi
    refine runs_triggerArrival hg ((Group.arrival_opens he hp ha hc ht (Group.place_kept hu hi)).trans ?_)
    simp
  case early =>
    exact fun he hp ha hc ht hi hearly => runs_triggerArrival hg (Group.arrival_unplaced he hp ha hc ht (Group.place_early hi hearly))
  case force => exact fun s groups ha hs => runs_forceWrite groups ha hs
  case auto =>
    intro s n ha ht hc
    have h := runs_acq (exec_autoTriggerExpire s n)
    rwa [autoFire_running ha ht hc] at h
  case autoOff =>
    intro s n ht
    have h := runs_acq (exec_autoTriggerExpire s n)
    rwa [autoFire_off ht] at h
  case commit =>
    intro s n g x hg ht hsrc hfill hlink hup hhas
    refine (runs_mod (exec_triggerCommit s n) (acqCommit_filling hg ht hsrc hfill hup hhas hlink)).mono fun t ⟨honly, hother, hn⟩ => ?_
    rw [hg, Group.doCommit_received hsrc hup hhas] at hn
    rw [hn]
    exact ⟨honly, hother, rfl, rfl, _, rfl, rfl, rfl, rfl, rfl, by simp only [Group.triggerIndex]; omega⟩
  case commitNone =>
    intro s n ht
    have h := runs_acq (exec_triggerCommit s n)
    rwa [acqCommit_untriggered ht] at h
  case dspan =>
    intro s n g hg hsrc hspan ha hc hmode
    have hclose := (dspan_over hg hsrc hspan ha hc).trans (close_single (by rw [hg]; exact hmode) _)
    refine (runs_mod (exec_dspanExpire s n) hclose).mono fun t ⟨honly, hother, hn⟩ => ?_
    rw [hg, List.take_length] at hn
    rw [hn]
    exact ⟨honly, hother, rfl, rfl, rfl, rfl, rfl, _, Group.segAt_put g n _, rfl, rfl⟩
  case dspanOff =>
    intro s n h0
    have h := runs_acq (exec_dspanExpire s n)
    rwa [dspan_off h0] at h
  case measured =>
    intro s n slot hm hp
    refine (runs_mod (exec_measurementComplete s n slot) (measured_running hm hp _)).mono fun t ⟨honly, hother, hn⟩ => ?_
    rw [hn]
    exact ⟨honly, hother, by simp [Group.measured], fun y hy hs => measured_done hy hs⟩
  case measuredNone =>
    intro s n slot hm
    have h := runs_acqFree (exec_measurementComplete s n slot)
    rwa [measured_idle hm] at h

end Sys2Proof.Machine
end
